-- ==== Sys2Proof/Word.lean ====
section
/-! DEFINITION. Words, bytes and the plainest arithmetic on bit images.

A structure that the manual lays out in memory (a job descriptor, a list entry, a tile record) is
kept as one natural number, its little-endian image: bit 0 of the first byte is bit 0 of the number
(R4). `bits` reads a field of such an image. -/

namespace Sys2Proof

/-- One byte of memory. -/
abbrev Byte := BitVec 8

/-- One 32-bit word. -/
abbrev Word := BitVec 32

/-- Bits `lo` to `lo + n - 1` of an image (R4). -/
def bits (x lo n : Nat) : Nat := (x >>> lo) % 2 ^ n

/-- One bit of an image. -/
def bit (x i : Nat) : Bool := bits x i 1 == 1

/-- `x` with bits `lo` to `lo + n - 1` replaced by the low `n` bits of `v`. -/
def setBits (x lo n v : Nat) : Nat :=
  x % 2 ^ lo + (v % 2 ^ n) * 2 ^ lo + (x >>> (lo + n)) * 2 ^ (lo + n)

/-- The field of `n` bytes at byte offset `off` of an image (R4). -/
def fieldAt (x off n : Nat) : Nat := bits x (8 * off) (8 * n)

/-- Quotient rounded up. -/
def ceilDiv (a b : Nat) : Nat := (a + b - 1) / b

/-- The lowest `n` bits of `x` read in two's complement. -/
def signed (n x : Nat) : Int :=
  if x % 2 ^ n < 2 ^ (n - 1) then ((x % 2 ^ n : Nat) : Int) else ((x % 2 ^ n : Nat) : Int) - (2 ^ n : Nat)

/-- The two's complement image of an integer in `n` bits. -/
def twos (n : Nat) (v : Int) : Nat := (v % ((2 ^ n : Nat) : Int)).toNat

/-- The number of set bits among the lowest `n`. -/
def popcount : Nat → Nat → Nat
  | 0, _ => 0
  | n + 1, x => x % 2 + popcount n (x / 2)

/-- The bytes of an image, lowest first. -/
def bytesOf : Nat → Nat → List Byte
  | 0, _ => []
  | n + 1, x => BitVec.ofNat 8 x :: bytesOf n (x / 256)

/-- The little-endian image of a list of bytes. -/
def imageOf : List Byte → Nat
  | [] => 0
  | b :: bs => b.toNat + 256 * imageOf bs

end Sys2Proof
end

