-- ==== Sys2Proof/Syntax.lean ====
section
/-! DEFINITION. The commands of the block: one constructor per row of spec/opcode_table.json.

A command is either something the host or a peer sends (a packet, a register access, a flit, a pin)
or an event inside the device that the manual describes as one whole step. Its operands name the
part it happens in and carry whatever comes from outside the model: packet contents, sensor samples,
the outcome of an analogue process, and an event that meets the step in the same handshake. -/

namespace Sys2Proof

/-- The two paths by which the host reaches registers (R12). -/
inductive Path where
  | mainband | sideband
  deriving DecidableEq, Repr

/-- The pages of register space (R379 to R381). -/
inductive Page where
  | mcPower | dispatcher | memMap | hif | window | seb | mcService | fc | reset
  | stairwell (s : Fin 16)
  | link (l : Fin 8)
  | hall (h : Fin 16)
  | hallCache (h : Fin 16)
  | stack (h : Fin 16)
  | dresser (h : Fin 16)
  | array (h : Fin 16) (g : Fin 17)
  | ve (h : Fin 16) (g : Fin 17)
  | qu (h : Fin 16) (g : Fin 17)
  | mems (h : Fin 16) (g : Fin 17)
  deriving DecidableEq, Repr

/-- The calibrated delay-line timers of *Delay-line timers* (R29, R30). -/
inductive Timer where
  | gallery (h : Fin 16) (g : Fin 17)
  | tread (h : Fin 16) (g : Fin 17)
  | timeout (s : Fin 16)
  | poll (s : Fin 16)
  | oht
  | link (l : Fin 9)
  | sag | loop | firmware
  deriving DecidableEq, Repr

/-- Who makes an access to device memory; the code is FAULT_INFO.REQUESTER of the page that latches
a fault (R258). -/
inductive Requester where
  | hallCache (h : Fin 16)
  | stairwell | host | maintenance | linkSender | linkReceiver | seb | stats | mc
  deriving DecidableEq, Repr

/-- The work of a gallery that an access is made for: its running ticket, the one fetched ahead, or the group in a
slot (R201, R249, R259). -/
inductive GalleryWork where
  | running | ahead
  | group (slot : Fin 8)
  deriving DecidableEq, Repr

/-- Who asks a hall cache for a line (R258, R263). -/
inductive HallUser where
  /-- a gallery, for its running ticket -/
  | gallery (g : Fin 17)
  /-- a gallery, for the ticket fetched ahead -/
  | ahead (g : Fin 17)
  /-- a drain of a gallery, for the group in a slot -/
  | drain (g : Fin 17) (slot : Fin 8)
  | dresser
  /-- the boulder stage of a gallery, for the group in a slot (R98) -/
  | boulder (g : Fin 17) (slot : Fin 8)
  | self
  deriving DecidableEq, Repr

/-- The gallery and the work of it that asks a hall cache for a line. -/
def HallUser.work : HallUser → Option (Fin 17 × GalleryWork)
  | .gallery g => some (g, .running)
  | .ahead g => some (g, .ahead)
  | .drain g slot | .boulder g slot => some (g, .group slot)
  | .dresser | .self => none

/-- One access to one 32-byte sector at its controller (R267). -/
inductive SectorOp where
  /-- a read of the whole sector -/
  | read
  /-- a write of `n` bytes from byte `lo`, the image `v`; a whole sector when `lo` is 0 and `n` is 32 -/
  | write (lo n v : Nat)
  /-- a hall-cache write-back of a poisoned line (R256, R270) -/
  | poison (v : Nat)
  deriving DecidableEq, Repr

/-- Symbols of one sector that a physical upset has changed: symbol number and the bits flipped
(R268). The manual does not say when an upset happens, so a command carries it. -/
abbrev Upset := List (Fin 36 × BitVec 8)

/-- An access as it arrives at a stack controller: who makes it (behind a hall cache, for whom), where,
and what has been upset in its sector (R267). -/
structure SectorAccess where
  who : Requester
  user : HallUser
  addr : Nat
  op : SectorOp
  upset : Upset
  deriving DecidableEq, Repr

/-- What meets an access in its cycle at a stack controller: for whom a hall cache makes it, what has been
upset in its sector, and the other accesses of the cycle (R267). -/
structure SectorCycle where
  user : HallUser
  upset : Upset
  others : List SectorAccess
  deriving DecidableEq, Repr

/-- Who fetches tickets from the dispatcher (R200, R201). -/
inductive Fetcher where
  | gallery (h : Fin 16) (g : Fin 17)
  | dresser (h : Fin 16)
  deriving DecidableEq, Repr

/-- The gallery memories by the number the registers give them (R236, R247). -/
inductive GMem where
  | ashlar | activation | landing | skipMap
  deriving DecidableEq, Repr

/-- The requesters of a gallery memory's banks (*Bank priority*). -/
inductive GPort where
  | tileLoad | cacheFill | boulderRead | flightAdd | drainRead | preloadWrite | gather | quWrite | veAccess
  | localOp | window
  deriving DecidableEq, Repr

/-- The request of a gallery memory access at its bank, with the work it is made for; the other requests there, each
with the consecutive handshakes it has lost; and those that reach the bank in each handshake after (R238). -/
structure BankContest where
  port : GPort
  work : GalleryWork
  rivals : List (GPort × Nat)
  arrivals : List (List GPort)
  deriving DecidableEq, Repr

/-- A word of the readback window, with the bits that upsets have flipped in its protected word (R247). -/
structure WindowRead where
  word : Fin 128
  flipped : List (Fin 144)
  deriving DecidableEq, Repr

/-- Bits that upsets have flipped in a hall cache line: in the protected word that a request begins in, and
their number in the line's tag (R256). -/
structure LineUpset where
  word : List (Fin 72)
  tag : Nat
  deriving DecidableEq, Repr

/-- One sample of the MC's sensors (R35, R342). Temperatures are in units of 0.25 °C and may lie below
0 °C (R402). A rail is read over AVSBus or PMBus: its voltage in mV and its current in units of 0.1 A, or
none where the transaction failed (R400). -/
structure Sensors where
  hallTemp : List Int
  stackTemp : List Int
  rails : List (Option (BitVec 16 × BitVec 16))
  deriving DecidableEq, Repr

/-- One flit as it reaches a receiver (R286): its channel, sequence number, 120 payload bytes as an image
and CRC field, and the lanes on which FEC corrected it (R284). The type is the constructor of the command. -/
structure Flit where
  channel : Fin 16
  fseq : BitVec 16
  payload : Nat
  crc : BitVec 32
  fec : List (Fin 17)
  deriving DecidableEq, Repr

/-- What a training attempt of a Fenzin link finds (R283): the peer's LOCAL_ID when the peer answered, and
the lanes that fail in each direction. -/
structure Training where
  peer : Option (BitVec 32)
  badTx : List (Fin 17)
  badRx : List (Fin 17)
  deriving DecidableEq, Repr

/-- Which watchdog handshake was not acknowledged, or which parity failed (*Gallery fault codes*). -/
inductive GalleryFault where
  | treadHang | portHang | logicCheck
  deriving DecidableEq, Repr

/-- One report to the fault concentrator (R333). -/
structure Report where
  source : BitVec 16
  code : BitVec 8
  detail : BitVec 32
  deriving DecidableEq, Repr

/-- The instructions of the JTAG port that R363 names; every other one selects BYPASS (R395). -/
inductive JtagInstr where
  | idcode | bypass | boundaryScan | internalScan
  /-- the test registers -/
  | testRegister
  | other
  deriving DecidableEq, Repr

/-- One register access on a UCIe sideband (R329). -/
inductive SidebandOp where
  | read
  | write (v : BitVec 32)
  deriving DecidableEq, Repr

/-- One register request on the mainband: a read, or the write of a word (R318). -/
structure MainbandCall where
  tag : BitVec 10
  addr : BitVec 64
  len : Nat
  write : Option (BitVec 32)
  deriving DecidableEq, Repr

/-- A sideband request, whether its sideband fails while its completion is in flight (R391), and the mainband request that
reaches a page in the same handshake (R329). -/
structure SidebandCall where
  op : SidebandOp
  lost : Bool
  mainband : Option MainbandCall
  deriving DecidableEq, Repr

/-- The modules that a training has brought to their active state, and those whose sidebands have trained
(R313, R391). -/
structure ModuleTraining where
  active : BitVec 16
  sidebands : BitVec 16
  deriving DecidableEq, Repr

/-- What the self-test of one part found (R373). -/
inductive SelfTest where
  /-- a failing bank row, with the words it read corrected and those it read uncorrectable -/
  | row (h : Fin 16) (g : Fin 17) (m : GMem) (bank row : Nat) (corrected uncorrectable : Nat)
  | gallery (h : Fin 16) (g : Fin 17)
  | way (h : Fin 16) (w : Fin 24)
  deriving DecidableEq, Repr

/-- A failing lane of a channel's stack bond, found by its training: 0 to 287 are data lanes, 288 to 317 the
command and address lanes (R273, R370). -/
structure BondLane where
  stack : Fin 16
  channel : Fin 64
  lane : Fin 318
  deriving DecidableEq, Repr

/-- The causes of a reset that arise outside the SEB (*Reset causes*). -/
inductive ResetCause where
  | powerOn | pin | sag
  | thermal (h : Fin 16)
  | host
  deriving DecidableEq, Repr

/-- The expiry of a calibrated timer (*Delay-line timers*), with what it brings. -/
inductive Expiry where
  | deadline (h : Fin 16) (g : Fin 17)
  | watchdog (h : Fin 16) (g : Fin 17) (k : GalleryFault)
  | timeout (sw : Fin 16)
  | poll (sw : Fin 16)
  | completion (tag : Fin 512)
  | retiredTag (tag : Fin 512)
  | replay (l : Fin 8)
  | ack (l : Fin 9) (c : Fin 16)
  | close (l : Fin 8)
  | sagEntry | sagExit
  | loop (sample : Sensors)
  | firmware
  deriving DecidableEq, Repr

/-- The timer that an expiry belongs to. -/
def Expiry.timer : Expiry → Timer
  | .deadline h g => .gallery h g
  | .watchdog h g _ => .tread h g
  | .timeout s => .timeout s
  | .poll s => .poll s
  | .completion _ | .retiredTag _ => .oht
  | .replay l | .close l => .link (Fin.ofNat 9 l)
  | .ack l _ => .link l
  | .sagEntry | .sagExit => .sag
  | .loop _ => .loop
  | .firmware => .firmware

/-- The straps, sampled when PORST_N rises (R401). -/
structure Straps where
  pmaddr : BitVec 3
  refterm : Bool
  testEn : Bool
  deriving DecidableEq, Repr

/-- The release condition of a cause holds (R369), with the straps as they then are. -/
structure Release where
  cause : ResetCause
  straps : Straps
  deriving DecidableEq, Repr

/-- A low pulse of RESET_N: whether the filter takes one that it may take or leave (R394), and `also`, here
and below, the other triggers of the same handshake (R369). Triggers that no other command carries together
come beside a pulse that is too short to be taken. -/
structure PinPulse where
  accepted : Bool
  also : List ResetCause
  deriving DecidableEq, Repr

/-- A write of RESET_CMD (R378), with the other triggers of its handshake. -/
structure ResetWrite where
  value : BitVec 32
  also : List ResetCause
  deriving DecidableEq, Repr

/-- A hall sensor at 120 °C (R368), with the other triggers of its handshake. -/
structure ThermalTrip where
  hall : Fin 16
  also : List ResetCause
  deriving DecidableEq, Repr

/-- A TRANSITION's target (R356), with the other triggers of its handshake. -/
structure Move where
  target : BitVec 3
  also : List ResetCause
  deriving DecidableEq, Repr

/-- A word written, with the W1C bits that hardware sets in the same handshake (R8), and a read that reaches
the page in that handshake before the write. -/
structure WordWrite where
  word : BitVec 32
  hw : BitVec 32
  reading : Option (Path × BitVec 12)
  deriving DecidableEq, Repr

/-- The release of a page's fault latch, and whether hardware takes the latch in the same handshake (R8). -/
structure LatchRelease where
  page : Page
  hw : Bool
  deriving DecidableEq, Repr

/-- A word at the MC debug port; `slow`: the MC has not taken the one before, and the port answers with its
wait response (R28). -/
structure DebugWord where
  word : BitVec 32
  slow : Bool
  deriving DecidableEq, Repr

/-- The commands: operations of the host and of peers, and the device's own steps. -/
inductive Instr where
  -- register space (Scope; Register space)
  | registerWrite (path : Path) (page : Page) (off : BitVec 12) (value : WordWrite)
  | rcFieldRead (path : Path) (page : Page) (off : BitVec 12) (event : Bool)
  | pairLowRead (path : Path) (page : Page) (off : BitVec 12)
  | pairHighRead (path : Path) (page : Page) (off : BitVec 12)
  | pairLowWrite (path : Path) (page : Page) (off : BitVec 12) (value : BitVec 32)
  | pairHighWrite (path : Path) (page : Page) (off : BitVec 12) (value : BitVec 32)
  | stickyClear (page : Page) (value : BitVec 32) (hw : BitVec 32)
  | stickyMaskWrite (page : Page) (value : BitVec 32) (hw : BitVec 32)
  | controlEnableWrite (page : Page) (enable : Bool) (hw : BitVec 32)
  | readbackDataRead (path : Path) (page : Page)
  | counterClear (page : Page) (off : BitVec 12) (events : List (BitVec 12))
  | faultLatchRelease (latch : LatchRelease)
  -- power, timers and REFOSC (Timing without a clock)
  | mcConfigWrite (off : BitVec 12) (value : BitVec 32)
  | calNow
  | calIntervalExpiry (t : Timer)
  | timerCalibrationDone (t : Timer) (periods : Nat) (expiring : Option Expiry)
  | powerLoopPeriod (sample : Sensors)
  | vcoreBelowVwarn (mv : BitVec 10)
  | sagWarnEntry
  | vcoreAboveVwarn (mv : BitVec 10)
  | sagWarnExit
  | refoscMonitorWindow (periods : Nat)
  | refoscReturn
  | regulatorSilent (rail : Fin 6)
  | regulatorAnswersAgain (rail : Fin 6)
  -- stairwells (Stairwells and command lists)
  | start (sw : Fin 16)
  | kill (sw : Fin 16)
  | killWithScrub (sw : Fin 16)
  | resume (sw : Fin 16)
  | listPtrWrite (sw : Fin 16) (path : Path) (hi : BitVec 32)
  | entryFetch (sw : Fin 16)
  | entryReadDone (sw : Fin 16)
  | entryStartAfterWait (sw : Fin 16)
  | job (sw : Fin 16)
  | descriptorReadDone (sw : Fin 16) (slot : Fin 8)
  | fence (sw : Fin 16)
  | waitWord (sw : Fin 16)
  | waitWordWake (sw : Fin 16)
  | waitWordPollTimer (sw : Fin 16)
  | waitWordEvaluate (sw : Fin 16) (expiring : Bool)
  | waitTimeout (sw : Fin 16)
  | writeWord (sw : Fin 16)
  | signal (sw : Fin 16)
  | fill (sw : Fin 16) (slot : Option (Fin 8)) (blocks : Nat)
  | copy (sw : Fin 16) (slot : Option (Fin 8)) (blocks : Nat)
  | flush (sw : Fin 16)
  | flushWalkStep (h : Fin 16)
  | windowOpen (sw : Fin 16)
  | windowOpenDone (sw : Fin 16)
  | windowClose (sw : Fin 16)
  | windowCloseDone (sw : Fin 16)
  | windowCloseTimeout (l : Fin 8)
  | reduce (sw : Fin 16)
  | jump (sw : Fin 16)
  | halt (sw : Fin 16)
  | badOpcode (sw : Fin 16)
  | entryComplete (sw : Fin 16) (slot : Fin 8)
  | recordWriteFault (sw : Fin 16)
  | killDone (sw : Fin 16)
  | scrubFill (h : Fin 16) (g : Fin 17)
  | scrubFillDone (h : Fin 16) (g : Fin 17)
  -- dispatcher (Tiles, tickets and the tally)
  | jobIssue
  | issueBlockReadDone (sw : Fin 16) (slot : Fin 8)
  | extentReadDone (sw : Fin 16) (slot : Fin 8)
  | ticketFetchRequest (f : Fetcher)
  | ticketGrant
  | unitFinish (f : Fetcher)
  -- quantisation unit
  | convertOnEntry (h : Fin 16) (g : Fin 17)
  | rowConversion (h : Fin 16) (g : Fin 17)
  | generatorBind (h : Fin 16) (g : Fin 17)
  | statisticsAddBurst (h : Fin 16) (g : Fin 17)
  | convert (h : Fin 16) (g : Fin 17)
  -- landings
  | groupOpen (h : Fin 16) (g : Fin 17)
  | preloadRowLoad (h : Fin 16) (g : Fin 17)
  -- ashlars, flights and treads
  | tileRecordReceive (h : Fin 16) (g : Fin 17)
  | streamRingFetch (h : Fin 16) (g : Fin 17)
  | tileLoadHandshake (h : Fin 16) (g : Fin 17)
  | shadowSwap (h : Fin 16) (g : Fin 17)
  | flightStage (h : Fin 16) (g : Fin 17)
  | tread (h : Fin 16) (g : Fin 17) (parityFail : Bool)
  | flightEndAdd (h : Fin 16) (g : Fin 17)
  | deadlineTimerExpiry (h : Fin 16) (g : Fin 17)
  | samplingFlight (h : Fin 16) (g : Fin 17)
  | drainStart (h : Fin 16) (g : Fin 17)
  | drainDone (h : Fin 16) (g : Fin 17)
  -- vector engine
  | vectorTicketStart (h : Fin 16) (g : Fin 17)
  | map (h : Fin 16) (g : Fin 17)
  | dot (h : Fin 16) (g : Fin 17)
  | softmax (h : Fin 16) (g : Fin 17)
  | topk (h : Fin 16) (g : Fin 17)
  | reduceSum (h : Fin 16) (g : Fin 17)
  | reduceSplitk (h : Fin 16) (g : Fin 17)
  -- dresser
  | dressPanel (h : Fin 16)
  -- gallery memories
  | groupCmdClose (h : Fin 16) (g : Fin 17) (slot : Fin 8)
  | galleryMemoryAccess (h : Fin 16) (g : Fin 17) (m : GMem) (word : Nat) (write : Option (BitVec 64))
      (flipped : List (Fin 144)) (contest : BankContest)
  | actSplitWrite (h : Fin 16) (g : Fin 17) (value : BitVec 32)
  | memOpFill (h : Fin 16) (g : Fin 17) (m : BitVec 2)
  | memOpCopy (h : Fin 16) (g : Fin 17) (m : BitVec 2)
  | memOpDone (h : Fin 16) (g : Fin 17)
  | winWordRead (path : Path) (h : Fin 16) (g : Fin 17) (i : WindowRead)
  | winWordWrite (h : Fin 16) (g : Fin 17) (i : Fin 128) (value : BitVec 32)
  | galleryRowRetire (h : Fin 16) (g : Fin 17)
  -- hall caches
  | hallCacheAccess (h : Fin 16) (user : HallUser) (addr len : Nat) (write : Option Nat)
      (upset : LineUpset)
  | hallCacheFill (h : Fin 16)
  | wayDisableWrite (h : Fin 16) (value : BitVec 32)
  | wayWalkStep (h : Fin 16)
  -- DRAM stacks
  | sectorAccess (who : Requester) (addr : Nat) (op : SectorOp) (cycle : SectorCycle)
  | refreshWindow (h : Fin 16)
  | patrolStep (h : Fin 16)
  | dramLaneRepair (h : Fin 16)
  | dramRowSpare (h : Fin 16)
  | dramRowSpareDone (h : Fin 16)
  | dieRetire (h : Fin 16) (value : BitVec 32)
  | migrationDone (h : Fin 16)
  | mapWrite (path : Path) (hi : BitVec 32)
  -- Fenzin links
  | linkRetrain (l : Fin 8)
  | linkTrainingAttemptEnd (l : Fin 8) (found : Training)
  | linkLockLoss (l : Fin 8)
  | fenzinLaneSpare (l : Fin 8) (lane : Fin 17)
  | flitSend (l : Fin 9)
  | channelClaim (l : Fin 9) (c : Fin 16)
  | historyReadDone (l : Fin 9) (c : Fin 16)
  | replayTimerExpiry (l : Fin 8)
  | head (l : Fin 9) (f : Flit)
  | body (l : Fin 9) (f : Flit)
  | esc (l : Fin 9) (f : Flit)
  | endFlit (l : Fin 9) (f : Flit)
  | abort (l : Fin 9) (f : Flit)
  | ctrl (l : Fin 9) (f : Flit)
  | receiveWriteAccept (l : Fin 9) (c : Fin 16)
  | receiveEndCommit (l : Fin 9) (c : Fin 16)
  | ackEnd (l : Fin 9) (c : Fin 16)
  | nack (l : Fin 9) (c : Fin 16) (code : BitVec 8)
  | ackTimerExpiry (l : Fin 9) (c : Fin 16)
  -- host attachment
  | regRd (tag : BitVec 10) (addr : BitVec 64) (len : Nat)
  | regWr (tag : BitVec 10) (addr : BitVec 64) (len : Nat) (value : BitVec 32)
  | aptRd (tag : BitVec 10) (addr : BitVec 64) (len : Nat)
  | aptWr (addr : BitVec 64) (len : Nat) (value : Nat)
  | cpl (tag : BitVec 10) (status : BitVec 4) (len : Nat) (value : Nat)
  | credit (posted nonposted : BitVec 32)
  | nop
  | unknownPacket (type : BitVec 8) (units : Nat)
  | hostRd
  | cplTimeout (tag : Fin 512)
  | vecCtrlWrite (v : Fin 64) (mask : Bool) (signalled : Bool)
  | ucieModuleLoss (m : Fin 16)
  | ucieRetrainDone (modules : ModuleTraining) (repaired : Bool)
  | moduleCrcThreshold (m : Fin 16)
  | hifRetrain
  | sidebandRequest (addr : BitVec 64) (call : SidebandCall)
  | sidebandFailover
  -- service in operation
  | treadWatchdogExpiry (h : Fin 16) (g : Fin 17) (k : GalleryFault)
  | fcReport (reports : List Report)
  | clearTable (reports : List Report)
  | drain (h : Fin 16) (g : Fin 17)
  | abandon (h : Fin 16) (g : Fin 17)
  | swap (h : Fin 16) (g : Fin 17) (target : Fin 32)
  | galleryResume (h : Fin 16) (g : Fin 17)
  | quiesceSet (h : Fin 16) (g : Fin 17)
  | quiesceClear (h : Fin 16) (g : Fin 17)
  | galleryScrub (h : Fin 16) (g : Fin 17)
  | galleryQuiescent (h : Fin 16) (g : Fin 17)
  | hallRetire (h : Fin 16)
  | hallRetireFlush (h : Fin 16)
  | hallRetireDone (h : Fin 16)
  | autoRepair
  | load
  | imageVerifyDone
  | switch
  | revert
  | fwSwitchBegin
  | fwReady
  | fwReadyTimeout
  -- security and lifecycle
  | challenge
  | attest
  | transition (path : Path) (move : Move)
  | commitSvn
  | eraseRecord
  | writeCert
  | sebCommandDone
  -- reset and bring-up
  | powerOnReset
  | pinReset (lowNs : Nat) (pulse : PinPulse)
  | hostReset (write : ResetWrite)
  | sagReset
  | thermalReset (trip : ThermalTrip)
  | resetRelease (release : Release)
  | fusesDone
  | bootDone
  | mcInitDone
  | trainDone
  | wipeDone (failures : List SelfTest)
  -- debug interfaces and late rows
  | jtagTapReset
  | jtagInstructionUpdate (i : JtagInstr)
  | retiredTagRelease (tag : Fin 512)
  | corruptFlit (l : Fin 9) (type : BitVec 4) (f : Flit)
  | mcDebugPortAccess (word : DebugWord)
  deriving DecidableEq, Repr

end Sys2Proof
end

