-- ==== Sys2Proof/WellFormed.lean ====
section
/-! DEFINITION. Which commands are well formed: the operands whose types are wider than what the
manual lets a packet, an access or an event carry are held to it here. The machine is total: it says
what happens with every operand, so no meaning depends on these checks. -/

namespace Sys2Proof

/-- The register page offset is that of a word (R11). -/
def wordOffset (off : BitVec 12) : Bool := off.toNat % 4 == 0

/-- A packet carries 1 to 4,096 bytes (R316). -/
def packetLen (len : Nat) : Bool := decide (1 ≤ len ∧ len ≤ 4096)

/-- A flit carries 120 payload bytes (R286). -/
def Flit.wellFormed (f : Flit) : Bool := decide (f.payload < 2 ^ 960)

/-- A write at a sector stays inside it (R267). -/
def SectorOp.wellFormed : SectorOp → Bool
  | .read => true
  | .write lo n v => decide (1 ≤ n ∧ lo + n ≤ 32 ∧ v < 2 ^ (8 * n))
  | .poison v => decide (v < 2 ^ 256)

/-- One sample of every sensor (R342). -/
def Sensors.wellFormed (x : Sensors) : Bool :=
  decide (x.hallTemp.length = 16 ∧ x.stackTemp.length = 16 ∧ x.rails.length = 6)

/-- The requesters of each gallery memory's banks, highest priority first (*Bank priority*). -/
def GMem.ports : GMem → List GPort
  | .ashlar => [.tileLoad, .cacheFill, .boulderRead, .localOp, .window]
  | .activation => [.gather, .quWrite, .veAccess, .cacheFill, .localOp, .window]
  | .landing => [.flightAdd, .drainRead, .preloadWrite, .localOp, .window]
  | .skipMap => []

/-- An access at a stack controller names a sector, and a write stays inside it (R267). -/
def SectorAccess.wellFormed (a : SectorAccess) : Bool :=
  decide (a.addr < 2 ^ 40) && decide (a.addr % 32 = 0) && a.op.wellFormed

/-- Words of a gallery memory: 2^18 in the stores, 2^17 in the landing, 2^13 in the skip map (R236,
R247). -/
def GMem.words : GMem → Nat
  | .ashlar | .activation => 2 ^ 18
  | .landing => 2 ^ 17
  | .skipMap => 2 ^ 13

/-- The operands of a command are within what the manual gives them. -/
def Instr.wellFormed : Instr → Bool
  | .registerWrite _ _ off w => wordOffset off && w.reading.all fun r => wordOffset r.2
  | .rcFieldRead _ _ off _ | .pairLowRead _ _ off | .pairHighRead _ _ off
  | .pairLowWrite _ _ off _ | .pairHighWrite _ _ off _ => wordOffset off
  | .counterClear _ off events => wordOffset off && events.all wordOffset
  | .mcConfigWrite off _ => wordOffset off
  | .powerLoopPeriod x => x.wellFormed
  | .timerCalibrationDone t _ e => e.all fun e => e.timer == t
  | .galleryMemoryAccess _ _ m word _ flipped c => decide (word < m.words) && decide flipped.Nodup
      && (m.ports.isEmpty || m.ports.contains c.port)
      && decide (c.port :: c.rivals.map Prod.fst).Nodup && c.rivals.all (fun r => m.ports.contains r.1 && decide (r.2 ≤ 8))
      && c.arrivals.all fun ps => ps.all m.ports.contains
  | .winWordRead _ _ _ i => decide i.flipped.Nodup
  | .hallCacheAccess _ _ addr len write _ =>
      decide (1 ≤ len ∧ addr + len ≤ 2 ^ 40) && (match write with
        | some v => decide (v < 2 ^ (8 * len))
        | none => true)
  | .sectorAccess who addr op c =>
      SectorAccess.wellFormed { who := who, user := c.user, addr := addr, op := op, upset := c.upset }
        && c.others.all SectorAccess.wellFormed
  | .head _ f | .body _ f | .esc _ f | .endFlit _ f | .abort _ f | .ctrl _ f => f.wellFormed
  | .corruptFlit _ t f => decide (t.toNat = 0 ∨ 7 ≤ t.toNat) && f.wellFormed
  | .sidebandRequest _ c => c.mainband.all fun x => packetLen x.len
  | .regRd _ _ len | .regWr _ _ len _ | .aptRd _ _ len => packetLen len
  | .aptWr _ len v => packetLen len && decide (v < 2 ^ (8 * len))
  | .cpl _ _ len v => packetLen len && decide (v < 2 ^ (8 * len))
  | .fill _ _ blocks | .copy _ _ blocks => decide (1 ≤ blocks)
  | _ => true

end Sys2Proof
end

