-- ==== Sys2Proof/Config.lean ====
section
/-! DEFINITION. What the manual leaves open, as constants without a body: nothing can be proved of
their values. `State.drawn` counts the values taken from `Config.free`, so that each use is fresh. -/

namespace Sys2Proof.Config

/-- A free value: the n-th one the machine takes. Used where the manual says that some value results
and not which (entropy, a correction beyond the code's strength, the time a timer has left). -/
opaque free : Nat → Nat

/-- The bank and the row of its die that hold a byte of a die (R264 gives no layout). -/
opaque dramBank : Nat → Nat
opaque dramRow : Nat → Nat

/-- The BF16 pattern, sign and exponent left out, that a raw send gives an FP32 NaN whose upper significand bits are all
0, and which no BF16 NaN carries unchanged (R301). -/
opaque rawNaN : Nat → Nat

/-- What the SEB's entropy gives a key generation: modulus, exponent, private exponent (R353). The key
pair made of it is `Machine.identityKey`. -/
opaque identityKey : Nat → Nat × Nat × Nat

/-- The identity certificate that Bruquel writes before a part leaves: its length less one and its bytes (R353,
R362). -/
opaque certificate : Nat × Nat

end Sys2Proof.Config
end

