-- ==== Sys2Proof/Machine/RegMap.lean ====
section
/-! DEFINITION. Where every stored register field lies: one name per field of the manual's register
tables, with its offset, lowest bit, width and reset value, and per page the list of its fields with
their access types (R7, R12, R379 to R386). Two halves of a 64-bit pair (R12) are one field of 64 bits
at the offset of the low half. Fields that show a part of a record are not here (Machine/Views.lean),
and neither are WO fields, which hold nothing. -/

namespace Sys2Proof.Machine

/-- A register field: offset in its page, lowest bit, width in bits, reset value. -/
structure Fld where
  off : Nat
  lsb : Nat
  width : Nat
  rst : Nat
  deriving DecidableEq, Repr

/-- *Register access types* (R7). -/
inductive Acc where
  | ro | rw | w1c | w1s | rc
  deriving DecidableEq, Repr

/-- The physical gallery a page belongs to is a spare after reset: G16 of its hall (R382). -/
def spareAtReset : Page → Nat
  | .array _ g | .ve _ g | .qu _ g | .mems _ g => if g = 16 then 1 else 0
  | _ => 0

/-! ### Common page header (R382) -/

def Reg.hdr.STATE_ERR : Fld := ⟨0x008, 3, 1, 0⟩
def Reg.hdr.CONTROL_ENABLE : Fld := ⟨0x00C, 0, 1, 1⟩
def Reg.hdr.FAULT_CODE : Fld := ⟨0x010, 0, 8, 0⟩
def Reg.hdr.FAULT_COUNT : Fld := ⟨0x014, 0, 32, 0⟩
def Reg.hdr.STICKY : Fld := ⟨0x018, 0, 32, 0⟩
def Reg.hdr.READBACK_SEL_INDEX : Fld := ⟨0x020, 0, 16, 0⟩
def Reg.hdr.READBACK_SEL_SPACE : Fld := ⟨0x020, 16, 4, 0⟩
def Reg.hdr.AUTO_INC : Fld := ⟨0x020, 31, 1, 0⟩

end Sys2Proof.Machine
namespace Sys2Proof
open Machine

/-- The STICKY bits each page defines (R382): a mask. -/
def Page.stickyBits : Page → Nat
  | .mcPower => 0xF
  | .dispatcher => 0x1
  | .memMap => 0x1
  | .hif => 0x1FF
  | .window => 0x3
  | .seb => 0xF
  | .mcService => 0xFF
  | .fc => 0x3
  | .reset => 0x7
  | .stairwell _ => 0x1F
  | .link _ => 0x7F
  | .hall _ => 0xF
  | .hallCache _ => 0x7
  | .stack _ => 0x1FF
  | .dresser _ => 0x1
  | .array _ _ => 0x7F
  | .ve _ _ => 0x3F
  | .qu _ _ => 0x1F
  | .mems _ _ => 0x3F

end Sys2Proof
namespace Sys2Proof.Machine

/-- STICKY_MASK: every defined bit starts masked (R382). -/
def Reg.hdr.STICKY_MASK (p : Page) : Fld := ⟨0x01C, 0, 32, p.stickyBits⟩
/-- STATUS.OUT_OF_SERVICE (R382). -/
def Reg.hdr.OUT_OF_SERVICE (p : Page) : Fld := ⟨0x008, 5, 1, spareAtReset p⟩
/-- CONTROL.QUIESCE (R382). -/
def Reg.hdr.QUIESCE (p : Page) : Fld := ⟨0x00C, 1, 1, spareAtReset p⟩

/-! ### MC power page (R40) -/

def Reg.mcp.VSET_MV : Fld := ⟨0x040, 0, 10, 750⟩
def Reg.mcp.VCORE_MV : Fld := ⟨0x044, 0, 10, 0⟩
def Reg.mcp.TARGET_MV : Fld := ⟨0x044, 16, 10, 750⟩
def Reg.mcp.CAP_W : Fld := ⟨0x048, 0, 12, 750⟩
def Reg.mcp.POWER_W : Fld := ⟨0x04C, 0, 12, 0⟩
def Reg.mcp.PERIOD_US : Fld := ⟨0x050, 0, 8, 100⟩
def Reg.mcp.WINDOW_PERIODS : Fld := ⟨0x050, 8, 6, 10⟩
def Reg.mcp.STEP_MV : Fld := ⟨0x050, 15, 4, 5⟩
def Reg.mcp.HYST_W : Fld := ⟨0x050, 19, 8, 10⟩
def Reg.mcp.LOOP_EN : Fld := ⟨0x050, 31, 1, 1⟩
def Reg.mcp.VWARN_MV : Fld := ⟨0x054, 0, 10, 580⟩
def Reg.mcp.VRESET_MV : Fld := ⟨0x054, 16, 10, 520⟩
def Reg.mcp.DEBOUNCE_NS : Fld := ⟨0x058, 0, 16, 2000⟩
def Reg.mcp.SAG_THROTTLE : Fld := ⟨0x058, 16, 1, 1⟩
def Reg.mcp.THROTTLE_TICKETS : Fld := ⟨0x058, 17, 12, 512⟩
def Reg.mcp.BY_SAG : Fld := ⟨0x05C, 12, 1, 0⟩
def Reg.mcp.BY_CAP : Fld := ⟨0x05C, 13, 1, 0⟩
def Reg.mcp.BY_THERM : Fld := ⟨0x05C, 14, 1, 0⟩
def Reg.mcp.CAL_INTERVAL_US : Fld := ⟨0x060, 0, 16, 1000⟩
def Reg.mcp.CAL_DELTA_C : Fld := ⟨0x060, 16, 8, 5⟩
def Reg.mcp.REFOSC_OK : Fld := ⟨0x064, 0, 1, 0⟩
def Reg.mcp.HOLDOVER : Fld := ⟨0x064, 1, 1, 0⟩
def Reg.mcp.CAL_COUNT : Fld := ⟨0x064, 16, 16, 0⟩
def Reg.mcp.ENERGY : Fld := ⟨0x068, 0, 64, 0⟩

/-! ### Array registers (R84) -/

def Reg.arr.TREADS : Fld := ⟨0x040, 0, 64, 0⟩
def Reg.arr.DECLARED : Fld := ⟨0x048, 0, 64, 0⟩
def Reg.arr.FLIGHTS : Fld := ⟨0x050, 0, 64, 0⟩
def Reg.arr.EMPTY_FLIGHTS : Fld := ⟨0x058, 0, 32, 0⟩
def Reg.arr.TILES_LOADED : Fld := ⟨0x05C, 0, 32, 0⟩
def Reg.arr.TILE_WAIT : Fld := ⟨0x060, 0, 32, 0⟩
def Reg.arr.STAGE_WAIT : Fld := ⟨0x064, 0, 32, 0⟩

/-! ### Landing registers (R128) -/

def Reg.lnd.HOLD_ORPHANS : Fld := ⟨0x088, 0, 1, 0⟩
def Reg.lnd.SAT_EVENTS : Fld := ⟨0x090, 0, 32, 0⟩
def Reg.lnd.RETRIES : Fld := ⟨0x094, 0, 32, 0⟩
def Reg.lnd.GROUPS_OPENED : Fld := ⟨0x098, 0, 32, 0⟩
def Reg.lnd.OPEN_WAIT : Fld := ⟨0x09C, 0, 32, 0⟩
def Reg.lnd.LAND_WAIT : Fld := ⟨0x0E0, 0, 32, 0⟩
def Reg.lnd.DRAIN_ROWS : Fld := ⟨0x0E4, 0, 32, 0⟩

/-! ### Skip registers (R186) -/

def Reg.skp.FAR : Fld := ⟨0x100, 0, 64, 0⟩
def Reg.skp.WEAK : Fld := ⟨0x108, 0, 64, 0⟩
def Reg.skp.ESTIMATED : Fld := ⟨0x110, 0, 64, 0⟩
def Reg.skp.REFINE : Fld := ⟨0x118, 0, 64, 0⟩
def Reg.skp.FAR_FLIGHTS : Fld := ⟨0x120, 0, 32, 0⟩
def Reg.skp.SAMPLED : Fld := ⟨0x124, 0, 32, 0⟩
def Reg.skp.MISSES : Fld := ⟨0x128, 0, 32, 0⟩
def Reg.skp.SAMPLE_TREADS : Fld := ⟨0x12C, 0, 32, 0⟩
def Reg.skp.RERUN_TILES : Fld := ⟨0x130, 0, 32, 0⟩
def Reg.skp.LOST_TILES : Fld := ⟨0x134, 0, 32, 0⟩
def Reg.skp.DEADLINE_HITS : Fld := ⟨0x138, 0, 32, 0⟩
def Reg.skp.SKIP_BYPASS : Fld := ⟨0x13C, 0, 32, 0⟩
def Reg.skp.BOULDER_ROWS : Fld := ⟨0x140, 0, 32, 0⟩

/-! ### QU registers (R149) -/

def Reg.qu.ROWS : Fld := ⟨0x040, 0, 64, 0⟩
def Reg.qu.ZERO_ROWS : Fld := ⟨0x048, 0, 32, 0⟩
def Reg.qu.FLUSHED_ROWS : Fld := ⟨0x04C, 0, 32, 0⟩
def Reg.qu.CLIPPED_CODES : Fld := ⟨0x050, 0, 32, 0⟩
def Reg.qu.SCALE_CLAMPS : Fld := ⟨0x054, 0, 32, 0⟩
def Reg.qu.BOULDERS_MADE : Fld := ⟨0x058, 0, 32, 0⟩
def Reg.qu.BOULDERS_DROPPED : Fld := ⟨0x05C, 0, 32, 0⟩
def Reg.qu.ROT_GROUPS : Fld := ⟨0x060, 0, 32, 0⟩
def Reg.qu.SR_WAIT : Fld := ⟨0x064, 0, 32, 0⟩
def Reg.qu.ALIAS_STREAM_STREAM_ID : Fld := ⟨0x070, 0, 16, 0⟩
def Reg.qu.ALIAS_STREAM_VALID : Fld := ⟨0x070, 16, 1, 0⟩
def Reg.qu.DRAWS (g : Nat) : Fld := ⟨0x084 + 16 * g, 0, 32, 0⟩
def Reg.qu.GEN_SEED (g : Nat) : Fld := ⟨0x088 + 16 * g, 0, 64, 0⟩

/-! ### VE registers (R169) -/

def Reg.ve.VE_HS : Fld := ⟨0x040, 0, 64, 0⟩
def Reg.ve.DRAINS : Fld := ⟨0x048, 0, 32, 0⟩
def Reg.ve.BOULDER_MATCHES : Fld := ⟨0x04C, 0, 32, 0⟩
def Reg.ve.VEC_TICKETS : Fld := ⟨0x050, 0, 32, 0⟩
def Reg.ve.SOFTMAX_ROWS : Fld := ⟨0x054, 0, 32, 0⟩
def Reg.ve.EMPTY_SOFTMAX : Fld := ⟨0x058, 0, 32, 0⟩
def Reg.ve.TOPK_ROWS : Fld := ⟨0x05C, 0, 32, 0⟩
def Reg.ve.ITEM_WAIT : Fld := ⟨0x060, 0, 32, 0⟩
def Reg.ve.CORR_SRC : Fld := ⟨0x068, 0, 1, 0⟩
def Reg.ve.TABLE_ADDR : Fld := ⟨0x070, 0, 64, 0⟩

/-! ### Dresser page (R107) -/

def Reg.drs.BLOCKS : Fld := ⟨0x040, 0, 64, 0⟩
def Reg.drs.KEPT : Fld := ⟨0x048, 0, 64, 0⟩
def Reg.drs.PANELS : Fld := ⟨0x050, 0, 32, 0⟩
def Reg.drs.NONFINITE : Fld := ⟨0x054, 0, 32, 0⟩

/-! ### Dispatcher registers (R207) -/

def Reg.dsp.FETCHES : Fld := ⟨0x044, 0, 64, 0⟩
def Reg.dsp.FETCH_WAIT : Fld := ⟨0x04C, 0, 32, 0⟩
def Reg.dsp.JOBS_ISSUED : Fld := ⟨0x050, 0, 32, 0⟩
def Reg.dsp.JOBS_REFUSED : Fld := ⟨0x054, 0, 32, 0⟩
def Reg.dsp.JOBS_EMPTY : Fld := ⟨0x058, 0, 32, 0⟩
def Reg.dsp.REQUEUED : Fld := ⟨0x05C, 0, 32, 0⟩
def Reg.dsp.TALLY_SEL_STAIRWELL : Fld := ⟨0x064, 0, 4, 0⟩
def Reg.dsp.JOB_SLOT : Fld := ⟨0x064, 4, 3, 0⟩
def Reg.dsp.EXT (e : Nat) : Fld := ⟨0x080 + 4 * e, 0, 32, 0⟩

/-! ### Stairwell registers (R235) -/

def Reg.sw.LIST_ADDR : Fld := ⟨0x040, 0, 64, 0⟩
def Reg.sw.LIST_PTR : Fld := ⟨0x048, 0, 64, 0⟩
def Reg.sw.SCRUB_VALUE : Fld := ⟨0x058, 0, 32, 0⟩
def Reg.sw.PAGE_VEC : Fld := ⟨0x05C, 0, 6, 0⟩
def Reg.sw.POLL_US : Fld := ⟨0x060, 0, 16, 1⟩
def Reg.sw.ENTRIES : Fld := ⟨0x064, 0, 32, 0⟩
def Reg.sw.RECORDS : Fld := ⟨0x068, 0, 32, 0⟩
def Reg.sw.JOB_ERRORS : Fld := ⟨0x06C, 0, 32, 0⟩
def Reg.sw.SLOT_WAIT : Fld := ⟨0x070, 0, 32, 0⟩
def Reg.sw.WAIT_EPISODES : Fld := ⟨0x074, 0, 32, 0⟩
def Reg.sw.SLOT_SEL : Fld := ⟨0x07C, 0, 3, 0⟩

/-! ### Memories registers (R262) -/

def Reg.gm.CONV_COURSES : Fld := ⟨0x040, 0, 11, 1536⟩
def Reg.gm.SPILL_ADDR : Fld := ⟨0x044, 0, 64, 0⟩
def Reg.gm.SPILL_SIZE : Fld := ⟨0x04C, 0, 32, 0⟩
def Reg.gm.MEM_OP_MEM : Fld := ⟨0x050, 0, 2, 0⟩
def Reg.gm.MEM_OP_RANGE_SRC : Fld := ⟨0x054, 0, 11, 0⟩
def Reg.gm.MEM_OP_RANGE_DST : Fld := ⟨0x054, 11, 11, 0⟩
def Reg.gm.MEM_OP_LEN : Fld := ⟨0x058, 0, 12, 1⟩
def Reg.gm.MEM_OP_PATTERN : Fld := ⟨0x05C, 0, 32, 0⟩
def Reg.gm.WIN_SEL_MEM : Fld := ⟨0x060, 0, 2, 0⟩
def Reg.gm.WIN_SEL_COURSE : Fld := ⟨0x060, 2, 11, 0⟩
def Reg.gm.WIN_STATUS_UE : Fld := ⟨0x064, 0, 1, 0⟩
def Reg.gm.WIN_STATUS_CE : Fld := ⟨0x064, 1, 1, 0⟩
def Reg.gm.AS_CE : Fld := ⟨0x070, 0, 32, 0⟩
def Reg.gm.ACT_CE : Fld := ⟨0x074, 0, 32, 0⟩
def Reg.gm.LAND_CE : Fld := ⟨0x078, 0, 32, 0⟩
def Reg.gm.UE_COUNT : Fld := ⟨0x07C, 0, 32, 0⟩
def Reg.gm.UE_INFO_MEM : Fld := ⟨0x080, 0, 2, 0⟩
def Reg.gm.UE_INFO_COURSE : Fld := ⟨0x080, 2, 11, 0⟩
def Reg.gm.UE_INFO_WORD : Fld := ⟨0x080, 13, 6, 0⟩
def Reg.gm.UE_INFO_VALID : Fld := ⟨0x080, 31, 1, 0⟩
def Reg.gm.CE_THRESHOLD : Fld := ⟨0x084, 0, 8, 16⟩
def Reg.gm.SPARE_SEL_MEM : Fld := ⟨0x088, 0, 2, 0⟩
def Reg.gm.SPARE_SEL_BANK : Fld := ⟨0x088, 2, 5, 0⟩
def Reg.gm.ACT_PAIR (p : Nat) : Fld := ⟨0x100 + 4 * p, 0, 32, 0⟩
def Reg.gm.AS_PAIR (p : Nat) : Fld := ⟨0x140 + 4 * p, 0, 32, 0⟩
def Reg.gm.LAND_PAIR (p : Nat) : Fld := ⟨0x160 + 4 * p, 0, 32, 0⟩

/-! ### Hall cache registers (R263) -/

def Reg.hc.WAY_DISABLE : Fld := ⟨0x040, 0, 24, 0⟩
def Reg.hc.HITS : Fld := ⟨0x048, 0, 64, 0⟩
def Reg.hc.MISSES : Fld := ⟨0x050, 0, 64, 0⟩
def Reg.hc.WRITEBACKS : Fld := ⟨0x058, 0, 32, 0⟩
def Reg.hc.PF_ISSUED : Fld := ⟨0x05C, 0, 32, 0⟩
def Reg.hc.PF_USEFUL : Fld := ⟨0x060, 0, 32, 0⟩
def Reg.hc.PF_DROPPED : Fld := ⟨0x064, 0, 32, 0⟩
def Reg.hc.CE_COUNT : Fld := ⟨0x068, 0, 32, 0⟩
def Reg.hc.UE_CLEAN : Fld := ⟨0x06C, 0, 32, 0⟩
def Reg.hc.POISONED : Fld := ⟨0x070, 0, 32, 0⟩
def Reg.hc.FLUSH_LINES : Fld := ⟨0x074, 0, 32, 0⟩
def Reg.hc.FAULTS : Fld := ⟨0x078, 0, 32, 0⟩
def Reg.hc.FAULT_ADDR : Fld := ⟨0x080, 0, 64, 0⟩
def Reg.hc.FAULT_INFO_KIND : Fld := ⟨0x088, 0, 2, 0⟩
def Reg.hc.FAULT_INFO_WRITE : Fld := ⟨0x088, 2, 1, 0⟩
def Reg.hc.FAULT_INFO_REQUESTER : Fld := ⟨0x088, 3, 5, 0⟩
def Reg.hc.FAULT_INFO_VALID : Fld := ⟨0x088, 31, 1, 0⟩

/-! ### Memory map registers (R279) -/

def Reg.mm.MAP : Fld := ⟨0x040, 0, 64, 4919131752989213764⟩

/-! ### Stack controller registers (R281) -/

def Reg.sc.READS : Fld := ⟨0x044, 0, 64, 0⟩
def Reg.sc.WRITES : Fld := ⟨0x04C, 0, 64, 0⟩
def Reg.sc.RMW : Fld := ⟨0x054, 0, 32, 0⟩
def Reg.sc.CE_COUNT : Fld := ⟨0x058, 0, 32, 0⟩
def Reg.sc.UE_COUNT : Fld := ⟨0x05C, 0, 32, 0⟩
def Reg.sc.POISON_READS : Fld := ⟨0x060, 0, 32, 0⟩
def Reg.sc.PATROL_UE : Fld := ⟨0x064, 0, 32, 0⟩
def Reg.sc.PATROL_PASSES : Fld := ⟨0x068, 0, 32, 0⟩
def Reg.sc.ROWS_SPARED : Fld := ⟨0x06C, 0, 32, 0⟩
def Reg.sc.LANES_SPARED : Fld := ⟨0x070, 0, 32, 0⟩
def Reg.sc.FAULTS : Fld := ⟨0x074, 0, 32, 0⟩
def Reg.sc.SCRUB_EVERY : Fld := ⟨0x07C, 0, 16, 660⟩
def Reg.sc.ROW_CE_THRESHOLD : Fld := ⟨0x080, 0, 8, 8⟩
def Reg.sc.ROW_SPARE_EN : Fld := ⟨0x080, 8, 1, 1⟩
def Reg.sc.LANE_SPARE_EN : Fld := ⟨0x080, 9, 1, 1⟩
def Reg.sc.LANE_CE_THRESHOLD : Fld := ⟨0x080, 16, 16, 64⟩
def Reg.sc.LANE_SEL : Fld := ⟨0x084, 0, 6, 0⟩
def Reg.sc.RETIRED : Fld := ⟨0x090, 0, 4, 0⟩
def Reg.sc.MIG_PTR : Fld := ⟨0x094, 0, 27, 0⟩
def Reg.sc.DIE_MAP : Fld := ⟨0x098, 0, 64, 18364758544493064720⟩
def Reg.sc.FAULT_ADDR : Fld := ⟨0x0A0, 0, 64, 0⟩
def Reg.sc.FAULT_INFO_KIND : Fld := ⟨0x0A8, 0, 2, 0⟩
def Reg.sc.FAULT_INFO_WRITE : Fld := ⟨0x0A8, 2, 1, 0⟩
def Reg.sc.FAULT_INFO_REQUESTER : Fld := ⟨0x0A8, 3, 5, 0⟩
def Reg.sc.FAULT_INFO_VALID : Fld := ⟨0x0A8, 31, 1, 0⟩

/-! ### Link registers (R310) -/

def Reg.lnk.TRAIN_EN : Fld := ⟨0x040, 0, 1, 1⟩
def Reg.lnk.LANE_SPARE_EN : Fld := ⟨0x040, 2, 1, 1⟩
def Reg.lnk.HALF_OK : Fld := ⟨0x040, 3, 1, 1⟩
def Reg.lnk.RETRAIN_LIMIT : Fld := ⟨0x040, 4, 4, 3⟩
def Reg.lnk.LINK_STATE : Fld := ⟨0x044, 0, 3, 0⟩
def Reg.lnk.SPARE_TX : Fld := ⟨0x044, 3, 5, 31⟩
def Reg.lnk.SPARE_RX : Fld := ⟨0x044, 8, 5, 31⟩
def Reg.lnk.LOCAL_ID : Fld := ⟨0x048, 0, 32, 0⟩
def Reg.lnk.PEER_ID : Fld := ⟨0x04C, 0, 32, 0⟩
def Reg.lnk.REPLAY_100NS : Fld := ⟨0x050, 0, 16, 20⟩
def Reg.lnk.CLOSE_100NS : Fld := ⟨0x050, 16, 16, 100⟩
def Reg.lnk.ACK_100NS : Fld := ⟨0x054, 0, 16, 10000⟩
def Reg.lnk.LANE_ERR_THRESHOLD : Fld := ⟨0x058, 0, 16, 4096⟩
def Reg.lnk.FLITS_TX : Fld := ⟨0x060, 0, 64, 0⟩
def Reg.lnk.FLITS_RX : Fld := ⟨0x068, 0, 64, 0⟩
def Reg.lnk.CRC_ERRORS : Fld := ⟨0x070, 0, 32, 0⟩
def Reg.lnk.REPLAYS : Fld := ⟨0x074, 0, 32, 0⟩
def Reg.lnk.RETRAINS : Fld := ⟨0x078, 0, 32, 0⟩
def Reg.lnk.SENDS : Fld := ⟨0x07C, 0, 32, 0⟩
def Reg.lnk.SEND_ERRORS : Fld := ⟨0x080, 0, 32, 0⟩
def Reg.lnk.CLIPPED : Fld := ⟨0x084, 0, 32, 0⟩
def Reg.lnk.FLUSHED : Fld := ⟨0x088, 0, 32, 0⟩
def Reg.lnk.ESCAPES : Fld := ⟨0x08C, 0, 32, 0⟩
def Reg.lnk.NACKS_SENT : Fld := ⟨0x090, 0, 32, 0⟩
def Reg.lnk.DROPPED_FLITS : Fld := ⟨0x094, 0, 32, 0⟩
def Reg.lnk.CHAN_WAIT : Fld := ⟨0x098, 0, 32, 0⟩
def Reg.lnk.CREDIT_WAIT : Fld := ⟨0x09C, 0, 32, 0⟩
def Reg.lnk.LATE_RESPONSES : Fld := ⟨0x0A0, 0, 32, 0⟩
def Reg.lnk.LANE_SEL : Fld := ⟨0x0A8, 0, 5, 0⟩
def Reg.lnk.CHAN_SEL : Fld := ⟨0x0B0, 0, 4, 0⟩

/-! ### Window registers (R311) -/

def Reg.win.WIN_SEL : Fld := ⟨0x044, 0, 8, 0⟩
def Reg.win.REFUSED : Fld := ⟨0x064, 0, 32, 0⟩
def Reg.win.LOOP_SENDS : Fld := ⟨0x068, 0, 32, 0⟩

/-! ### Host interface registers (R332) -/

def Reg.hif.HIF_STATE_UP : Fld := ⟨0x040, 5, 1, 0⟩
def Reg.hif.RETRAINING : Fld := ⟨0x040, 6, 1, 0⟩
def Reg.hif.HOST_CREDIT_SEEN : Fld := ⟨0x040, 7, 1, 0⟩
def Reg.hif.ACTIVE_MASK : Fld := ⟨0x044, 0, 16, 0⟩
def Reg.hif.MODULE_ENABLE : Fld := ⟨0x048, 0, 16, 65535⟩
def Reg.hif.CPL_TIMEOUT_US : Fld := ⟨0x050, 0, 16, 1000⟩
def Reg.hif.LANE_ERR_THRESHOLD : Fld := ⟨0x050, 16, 16, 1024⟩
def Reg.hif.POSTED : Fld := ⟨0x058, 0, 16, 0⟩
def Reg.hif.NONPOSTED : Fld := ⟨0x058, 16, 16, 0⟩
def Reg.hif.UNITS_RX : Fld := ⟨0x060, 0, 64, 0⟩
def Reg.hif.UNITS_TX : Fld := ⟨0x068, 0, 64, 0⟩
def Reg.hif.HOST_READS_ISSUED : Fld := ⟨0x070, 0, 32, 0⟩
def Reg.hif.CPL_TIMEOUTS : Fld := ⟨0x074, 0, 32, 0⟩
def Reg.hif.BAD_CPL : Fld := ⟨0x078, 0, 32, 0⟩
def Reg.hif.LATE_CPL : Fld := ⟨0x07C, 0, 32, 0⟩
def Reg.hif.BAD_PACKETS : Fld := ⟨0x080, 0, 32, 0⟩
def Reg.hif.CREDIT_OVERRUNS : Fld := ⟨0x084, 0, 32, 0⟩
def Reg.hif.UR_SENT : Fld := ⟨0x088, 0, 32, 0⟩
def Reg.hif.UR_DISCARDS : Fld := ⟨0x08C, 0, 32, 0⟩
def Reg.hif.APT_WR_FAULTS : Fld := ⟨0x090, 0, 32, 0⟩
def Reg.hif.MSG_DROPPED : Fld := ⟨0x094, 0, 32, 0⟩
def Reg.hif.TX_DISCARDS : Fld := ⟨0x098, 0, 32, 0⟩
def Reg.hif.CREDIT_WAIT : Fld := ⟨0x0A0, 0, 32, 0⟩
def Reg.hif.RETRAINS : Fld := ⟨0x0A4, 0, 32, 0⟩
def Reg.hif.FAULT_ADDR : Fld := ⟨0x0AC, 0, 64, 0⟩
def Reg.hif.FAULT_INFO_KIND : Fld := ⟨0x0B4, 0, 3, 0⟩
def Reg.hif.FAULT_INFO_STAIRWELL : Fld := ⟨0x0B4, 3, 4, 0⟩
def Reg.hif.FWLOAD : Fld := ⟨0x0B4, 7, 1, 0⟩
def Reg.hif.FAULT_INFO_VALID : Fld := ⟨0x0B4, 31, 1, 0⟩
def Reg.hif.MC_VEC : Fld := ⟨0x0B8, 0, 6, 0⟩
def Reg.hif.DISPATCH_VEC : Fld := ⟨0x0B8, 8, 6, 0⟩
def Reg.hif.MAP_VEC : Fld := ⟨0x0B8, 16, 6, 0⟩
def Reg.hif.WINDOW_VEC : Fld := ⟨0x0B8, 24, 6, 0⟩
def Reg.hif.LINK_VEC : Fld := ⟨0x0BC, 0, 6, 0⟩
def Reg.hif.HIF_VEC : Fld := ⟨0x0BC, 8, 6, 0⟩
def Reg.hif.HALL_VEC : Fld := ⟨0x0BC, 16, 6, 0⟩
def Reg.hif.SERVICE_VEC : Fld := ⟨0x0BC, 24, 6, 0⟩
def Reg.hif.VEC_ADDR (v : Nat) : Fld := ⟨0x400 + 16 * v, 0, 64, 0⟩
def Reg.hif.VEC_DATA (v : Nat) : Fld := ⟨0x408 + 16 * v, 0, 32, 0⟩
def Reg.hif.VEC_CTRL_MASK (v : Nat) : Fld := ⟨0x40C + 16 * v, 0, 1, 1⟩
def Reg.hif.VEC_CTRL_PENDING (v : Nat) : Fld := ⟨0x40C + 16 * v, 1, 1, 0⟩

/-! ### Hall registers (R349) -/

def Reg.hall.RETIRING : Fld := ⟨0x040, 17, 1, 0⟩
def Reg.hall.RETIRED : Fld := ⟨0x040, 18, 1, 0⟩
def Reg.hall.REMAP (i : Nat) : Fld := ⟨0x050 + 4 * i, 0, 5, i⟩
def Reg.hall.SWAPS : Fld := ⟨0x090, 0, 32, 0⟩
def Reg.hall.RETURNED_UNITS : Fld := ⟨0x094, 0, 32, 0⟩
def Reg.hall.ABANDONED_TREADS : Fld := ⟨0x098, 0, 64, 0⟩

/-! ### FC registers (R350) -/

def Reg.fc.OVERFLOW_REPORTS : Fld := ⟨0x048, 0, 32, 0⟩
def Reg.fc.FC_SEL : Fld := ⟨0x04C, 0, 9, 0⟩

/-! ### MC service registers (R350) -/

def Reg.mcs.WARN_C : Fld := ⟨0x040, 0, 8, 95⟩
def Reg.mcs.THERM_THROTTLE : Fld := ⟨0x040, 8, 1, 1⟩
def Reg.mcs.THERM_TICKETS : Fld := ⟨0x040, 9, 12, 512⟩
def Reg.mcs.MAX_TEMP : Fld := ⟨0x044, 0, 10, 0⟩
def Reg.mcs.HOTTEST : Fld := ⟨0x044, 10, 4, 0⟩
def Reg.mcs.WARNING : Fld := ⟨0x044, 14, 1, 0⟩
def Reg.mcs.STOPPED : Fld := ⟨0x044, 15, 1, 0⟩
def Reg.mcs.AUTO_SWAP : Fld := ⟨0x048, 0, 1, 1⟩
def Reg.mcs.AUTO_ROW : Fld := ⟨0x048, 1, 1, 1⟩
def Reg.mcs.AUTO_WAY : Fld := ⟨0x048, 2, 1, 1⟩
def Reg.mcs.REISSUE : Fld := ⟨0x048, 3, 1, 1⟩
def Reg.mcs.WAY_UE_THRESHOLD : Fld := ⟨0x048, 8, 8, 16⟩
def Reg.mcs.FW_ADDR : Fld := ⟨0x058, 0, 64, 0⟩
def Reg.mcs.FW_LEN : Fld := ⟨0x060, 0, 32, 0⟩
def Reg.mcs.HALL_TEMP (h : Nat) : Fld := ⟨0x080 + 4 * h, 0, 10, 0⟩
def Reg.mcs.STACK_TEMP (s : Nat) : Fld := ⟨0x0C0 + 4 * s, 0, 10, 0⟩
def Reg.mcs.RAIL_MV (r : Nat) : Fld := ⟨0x100 + 4 * r, 0, 16, 0⟩
def Reg.mcs.RAIL_CURRENT (r : Nat) : Fld := ⟨0x100 + 4 * r, 16, 16, 0⟩

/-! ### SEB registers (R367) -/

def Reg.seb.RECOVERY : Fld := ⟨0x040, 3, 1, 0⟩
def Reg.seb.RESULT : Fld := ⟨0x048, 8, 8, 0⟩
def Reg.seb.ARG_ADDR : Fld := ⟨0x04C, 0, 64, 0⟩
def Reg.seb.CHALLENGE (i : Nat) : Fld := ⟨0x060 + 4 * i, 0, 32, 0⟩
def Reg.seb.DENIED_WRITES : Fld := ⟨0x0A0, 0, 32, 0⟩
def Reg.seb.VERIFY_FAILS : Fld := ⟨0x0A4, 0, 32, 0⟩

/-! ### Reset registers (R378) -/

def Reg.rst.PHASE : Fld := ⟨0x040, 0, 3, 1⟩
def Reg.rst.RECOVERY : Fld := ⟨0x040, 3, 1, 0⟩
def Reg.rst.RESET_CAUSE : Fld := ⟨0x044, 0, 3, 0⟩
def Reg.rst.CAUSE_MASK : Fld := ⟨0x044, 8, 7, 0⟩
def Reg.rst.RESET_COUNT : Fld := ⟨0x048, 0, 32, 0⟩
def Reg.rst.SELFTEST_HALLS : Fld := ⟨0x050, 0, 16, 0⟩
def Reg.rst.SELFTEST_GALLERIES : Fld := ⟨0x054, 0, 32, 0⟩
def Reg.rst.SELFTEST_ROWS : Fld := ⟨0x058, 0, 32, 0⟩
def Reg.rst.RECORD_SKIPPED : Fld := ⟨0x05C, 0, 32, 0⟩

/-! ### STICKY bits, by page -/

def Sticky.mcp.SAG_WARN : Nat := 0
def Sticky.mcp.CAP_UNMET : Nat := 1
def Sticky.mcp.REFOSC_LOST : Nat := 2
def Sticky.mcp.CFG_REJECT : Nat := 3
def Sticky.arr.SATURATE : Nat := 0
def Sticky.arr.SIG_FAULT : Nat := 1
def Sticky.arr.RETRIED : Nat := 2
def Sticky.arr.BAD_SIDE : Nat := 3
def Sticky.arr.MISS_BUDGET : Nat := 4
def Sticky.arr.DEADLINE_HIT : Nat := 5
def Sticky.arr.SKIP_BYPASS : Nat := 6
def Sticky.qu.CLIP : Nat := 0
def Sticky.qu.FLUSH_ZERO : Nat := 1
def Sticky.qu.ESCAPE_OVF : Nat := 2
def Sticky.qu.STREAM_ALIAS : Nat := 3
def Sticky.qu.ROT_RANGE : Nat := 4
def Sticky.ve.OVERFLOW : Nat := 0
def Sticky.ve.UNDERFLOW : Nat := 1
def Sticky.ve.INEXACT : Nat := 2
def Sticky.ve.INVALID : Nat := 3
def Sticky.ve.PART_FAULT : Nat := 4
def Sticky.ve.EMPTY_ROW : Nat := 5
def Sticky.drs.DRESS_NONFINITE : Nat := 0
def Sticky.dsp.JOB_REFUSED : Nat := 0
def Sticky.sw.FAULTED : Nat := 0
def Sticky.sw.KILL_DONE : Nat := 1
def Sticky.sw.HALTED : Nat := 2
def Sticky.sw.JOB_ERROR : Nat := 3
def Sticky.sw.RECORD_LOST : Nat := 4
def Sticky.gm.MEM_CE : Nat := 0
def Sticky.gm.MEM_UE : Nat := 1
def Sticky.gm.SPILL_SHORT : Nat := 2
def Sticky.gm.MEMOP_DONE : Nat := 3
def Sticky.gm.SPARE_EXHAUSTED : Nat := 4
def Sticky.gm.OP_REJECT : Nat := 5
def Sticky.hc.HC_CE : Nat := 0
def Sticky.hc.HC_UE : Nat := 1
def Sticky.hc.ACCESS_FAULT : Nat := 2
def Sticky.mm.MAP_REJECT : Nat := 0
def Sticky.sc.DRAM_CE : Nat := 0
def Sticky.sc.DRAM_UE : Nat := 1
def Sticky.sc.POISON_READ : Nat := 2
def Sticky.sc.ACCESS_FAULT : Nat := 3
def Sticky.sc.ROW_SPARED : Nat := 4
def Sticky.sc.ROW_SPARE_EXHAUSTED : Nat := 5
def Sticky.sc.LANE_REPAIRED : Nat := 6
def Sticky.sc.LANE_EXHAUSTED : Nat := 7
def Sticky.sc.MIGRATE_DONE : Nat := 8
def Sticky.lnk.LINK_LOST : Nat := 0
def Sticky.lnk.LANE_SPARED : Nat := 1
def Sticky.lnk.LANE_EXHAUSTED : Nat := 2
def Sticky.lnk.HALF_WIDTH : Nat := 3
def Sticky.lnk.SEND_CLIP : Nat := 4
def Sticky.lnk.SEND_FLUSH : Nat := 5
def Sticky.lnk.NACK_SENT : Nat := 6
def Sticky.win.WINDOW_DROP : Nat := 0
def Sticky.win.OPEN_EXHAUSTED : Nat := 1
def Sticky.hif.LINK_DOWN : Nat := 0
def Sticky.hif.MODULE_LOST : Nat := 1
def Sticky.hif.LANE_REPAIRED : Nat := 2
def Sticky.hif.CPL_TIMEOUT : Nat := 3
def Sticky.hif.BAD_CPL : Nat := 4
def Sticky.hif.BAD_PACKET : Nat := 5
def Sticky.hif.CREDIT_OVERRUN : Nat := 6
def Sticky.hif.APT_WR_FAULT : Nat := 7
def Sticky.hif.MSG_DROPPED : Nat := 8
def Sticky.hall.GALLERY_FAULT : Nat := 0
def Sticky.hall.QUIESCE_DONE : Nat := 1
def Sticky.hall.SWAP_DONE : Nat := 2
def Sticky.hall.RETIRE_DONE : Nat := 3
def Sticky.fc.FIRST_ERROR : Nat := 0
def Sticky.fc.TABLE_FULL : Nat := 1
def Sticky.mcs.THERM_WARN : Nat := 0
def Sticky.mcs.THERM_STOP : Nat := 1
def Sticky.mcs.REPAIR_NEEDED : Nat := 2
def Sticky.mcs.RECORD_FULL : Nat := 3
def Sticky.mcs.FW_STAGED : Nat := 4
def Sticky.mcs.FW_SWITCHED : Nat := 5
def Sticky.mcs.FW_REVERTED : Nat := 6
def Sticky.mcs.FW_REJECT : Nat := 7
def Sticky.seb.ACCESS_DENIED : Nat := 0
def Sticky.seb.VERIFY_FAIL : Nat := 1
def Sticky.seb.CMD_DONE : Nat := 2
def Sticky.seb.BOOT_FALLBACK : Nat := 3
def Sticky.rst.READY_REACHED : Nat := 0
def Sticky.rst.SELFTEST_FAIL : Nat := 1
def Sticky.rst.RESTARTED : Nat := 2

/-! ### The fields of each page -/

def rows_mcp : List (Fld × Acc) :=
  [(Reg.mcp.VSET_MV, Acc.rw),
    (Reg.mcp.VCORE_MV, Acc.ro),
    (Reg.mcp.TARGET_MV, Acc.ro),
    (Reg.mcp.CAP_W, Acc.rw),
    (Reg.mcp.POWER_W, Acc.ro),
    (Reg.mcp.PERIOD_US, Acc.rw),
    (Reg.mcp.WINDOW_PERIODS, Acc.rw),
    (Reg.mcp.STEP_MV, Acc.rw)] ++
  [(Reg.mcp.HYST_W, Acc.rw),
    (Reg.mcp.LOOP_EN, Acc.rw),
    (Reg.mcp.VWARN_MV, Acc.rw),
    (Reg.mcp.VRESET_MV, Acc.rw),
    (Reg.mcp.DEBOUNCE_NS, Acc.rw),
    (Reg.mcp.SAG_THROTTLE, Acc.rw),
    (Reg.mcp.THROTTLE_TICKETS, Acc.rw),
    (Reg.mcp.BY_SAG, Acc.ro)] ++
  [(Reg.mcp.BY_CAP, Acc.ro),
    (Reg.mcp.BY_THERM, Acc.ro),
    (Reg.mcp.CAL_INTERVAL_US, Acc.rw),
    (Reg.mcp.CAL_DELTA_C, Acc.rw),
    (Reg.mcp.REFOSC_OK, Acc.ro),
    (Reg.mcp.HOLDOVER, Acc.ro),
    (Reg.mcp.CAL_COUNT, Acc.ro),
    (Reg.mcp.ENERGY, Acc.ro)]

def rows_arr : List (Fld × Acc) :=
  [(Reg.arr.TREADS, Acc.ro),
    (Reg.arr.DECLARED, Acc.ro),
    (Reg.arr.FLIGHTS, Acc.ro),
    (Reg.arr.EMPTY_FLIGHTS, Acc.ro),
    (Reg.arr.TILES_LOADED, Acc.ro),
    (Reg.arr.TILE_WAIT, Acc.ro),
    (Reg.arr.STAGE_WAIT, Acc.ro)]

def rows_lnd : List (Fld × Acc) :=
  [(Reg.lnd.HOLD_ORPHANS, Acc.rw),
    (Reg.lnd.SAT_EVENTS, Acc.ro),
    (Reg.lnd.RETRIES, Acc.ro),
    (Reg.lnd.GROUPS_OPENED, Acc.ro),
    (Reg.lnd.OPEN_WAIT, Acc.ro),
    (Reg.lnd.LAND_WAIT, Acc.ro),
    (Reg.lnd.DRAIN_ROWS, Acc.ro)]

def rows_skp : List (Fld × Acc) :=
  [(Reg.skp.FAR, Acc.ro),
    (Reg.skp.WEAK, Acc.ro),
    (Reg.skp.ESTIMATED, Acc.ro),
    (Reg.skp.REFINE, Acc.ro),
    (Reg.skp.FAR_FLIGHTS, Acc.ro),
    (Reg.skp.SAMPLED, Acc.ro),
    (Reg.skp.MISSES, Acc.ro),
    (Reg.skp.SAMPLE_TREADS, Acc.ro)] ++
  [(Reg.skp.RERUN_TILES, Acc.ro),
    (Reg.skp.LOST_TILES, Acc.ro),
    (Reg.skp.DEADLINE_HITS, Acc.ro),
    (Reg.skp.SKIP_BYPASS, Acc.ro),
    (Reg.skp.BOULDER_ROWS, Acc.ro)]

def rows_qu : List (Fld × Acc) :=
  [(Reg.qu.ROWS, Acc.ro),
    (Reg.qu.ZERO_ROWS, Acc.ro),
    (Reg.qu.FLUSHED_ROWS, Acc.ro),
    (Reg.qu.CLIPPED_CODES, Acc.ro),
    (Reg.qu.SCALE_CLAMPS, Acc.ro),
    (Reg.qu.BOULDERS_MADE, Acc.ro),
    (Reg.qu.BOULDERS_DROPPED, Acc.ro),
    (Reg.qu.ROT_GROUPS, Acc.ro)] ++
  [(Reg.qu.SR_WAIT, Acc.ro),
    (Reg.qu.ALIAS_STREAM_STREAM_ID, Acc.ro),
    (Reg.qu.ALIAS_STREAM_VALID, Acc.ro)] ++
  ((List.range 4).map fun i => (Reg.qu.DRAWS i, Acc.ro)) ++
  ((List.range 4).map fun i => (Reg.qu.GEN_SEED i, Acc.ro))

def rows_ve : List (Fld × Acc) :=
  [(Reg.ve.VE_HS, Acc.ro),
    (Reg.ve.DRAINS, Acc.ro),
    (Reg.ve.BOULDER_MATCHES, Acc.ro),
    (Reg.ve.VEC_TICKETS, Acc.ro),
    (Reg.ve.SOFTMAX_ROWS, Acc.ro),
    (Reg.ve.EMPTY_SOFTMAX, Acc.ro),
    (Reg.ve.TOPK_ROWS, Acc.ro),
    (Reg.ve.ITEM_WAIT, Acc.ro)] ++
  [(Reg.ve.CORR_SRC, Acc.ro),
    (Reg.ve.TABLE_ADDR, Acc.ro)]

def rows_drs : List (Fld × Acc) :=
  [(Reg.drs.BLOCKS, Acc.ro),
    (Reg.drs.KEPT, Acc.ro),
    (Reg.drs.PANELS, Acc.ro),
    (Reg.drs.NONFINITE, Acc.ro)]

def rows_dsp : List (Fld × Acc) :=
  [(Reg.dsp.FETCHES, Acc.ro),
    (Reg.dsp.FETCH_WAIT, Acc.ro),
    (Reg.dsp.JOBS_ISSUED, Acc.ro),
    (Reg.dsp.JOBS_REFUSED, Acc.ro),
    (Reg.dsp.JOBS_EMPTY, Acc.ro),
    (Reg.dsp.REQUEUED, Acc.ro),
    (Reg.dsp.TALLY_SEL_STAIRWELL, Acc.rw),
    (Reg.dsp.JOB_SLOT, Acc.rw)] ++
  ((List.range 16).map fun i => (Reg.dsp.EXT i, Acc.rw))

def rows_sw : List (Fld × Acc) :=
  [(Reg.sw.LIST_ADDR, Acc.rw),
    (Reg.sw.LIST_PTR, Acc.rw),
    (Reg.sw.SCRUB_VALUE, Acc.rw),
    (Reg.sw.PAGE_VEC, Acc.rw),
    (Reg.sw.POLL_US, Acc.rw),
    (Reg.sw.ENTRIES, Acc.ro),
    (Reg.sw.RECORDS, Acc.ro),
    (Reg.sw.JOB_ERRORS, Acc.ro)] ++
  [(Reg.sw.SLOT_WAIT, Acc.ro),
    (Reg.sw.WAIT_EPISODES, Acc.ro),
    (Reg.sw.SLOT_SEL, Acc.rw)]

def rows_gm : List (Fld × Acc) :=
  [(Reg.gm.CONV_COURSES, Acc.rw),
    (Reg.gm.SPILL_ADDR, Acc.rw),
    (Reg.gm.SPILL_SIZE, Acc.rw),
    (Reg.gm.MEM_OP_MEM, Acc.rw),
    (Reg.gm.MEM_OP_RANGE_SRC, Acc.rw),
    (Reg.gm.MEM_OP_RANGE_DST, Acc.rw),
    (Reg.gm.MEM_OP_LEN, Acc.rw),
    (Reg.gm.MEM_OP_PATTERN, Acc.rw)] ++
  [(Reg.gm.WIN_SEL_MEM, Acc.rw),
    (Reg.gm.WIN_SEL_COURSE, Acc.rw),
    (Reg.gm.WIN_STATUS_UE, Acc.ro),
    (Reg.gm.WIN_STATUS_CE, Acc.ro),
    (Reg.gm.AS_CE, Acc.ro),
    (Reg.gm.ACT_CE, Acc.ro),
    (Reg.gm.LAND_CE, Acc.ro),
    (Reg.gm.UE_COUNT, Acc.ro)] ++
  [(Reg.gm.UE_INFO_MEM, Acc.ro),
    (Reg.gm.UE_INFO_COURSE, Acc.ro),
    (Reg.gm.UE_INFO_WORD, Acc.ro),
    (Reg.gm.UE_INFO_VALID, Acc.w1c),
    (Reg.gm.CE_THRESHOLD, Acc.rw),
    (Reg.gm.SPARE_SEL_MEM, Acc.rw),
    (Reg.gm.SPARE_SEL_BANK, Acc.rw)] ++
  ((List.range 16).map fun i => (Reg.gm.ACT_PAIR i, Acc.ro)) ++
  ((List.range 8).map fun i => (Reg.gm.AS_PAIR i, Acc.ro)) ++
  ((List.range 4).map fun i => (Reg.gm.LAND_PAIR i, Acc.ro))

def rows_hc : List (Fld × Acc) :=
  [(Reg.hc.WAY_DISABLE, Acc.rw),
    (Reg.hc.HITS, Acc.ro),
    (Reg.hc.MISSES, Acc.ro),
    (Reg.hc.WRITEBACKS, Acc.ro),
    (Reg.hc.PF_ISSUED, Acc.ro),
    (Reg.hc.PF_USEFUL, Acc.ro),
    (Reg.hc.PF_DROPPED, Acc.ro),
    (Reg.hc.CE_COUNT, Acc.ro)] ++
  [(Reg.hc.UE_CLEAN, Acc.ro),
    (Reg.hc.POISONED, Acc.ro),
    (Reg.hc.FLUSH_LINES, Acc.ro),
    (Reg.hc.FAULTS, Acc.ro),
    (Reg.hc.FAULT_ADDR, Acc.ro),
    (Reg.hc.FAULT_INFO_KIND, Acc.ro),
    (Reg.hc.FAULT_INFO_WRITE, Acc.ro),
    (Reg.hc.FAULT_INFO_REQUESTER, Acc.ro)] ++
  [(Reg.hc.FAULT_INFO_VALID, Acc.w1c)]

def rows_mm : List (Fld × Acc) :=
  [(Reg.mm.MAP, Acc.rw)]

def rows_sc : List (Fld × Acc) :=
  [(Reg.sc.READS, Acc.ro),
    (Reg.sc.WRITES, Acc.ro),
    (Reg.sc.RMW, Acc.ro),
    (Reg.sc.CE_COUNT, Acc.ro),
    (Reg.sc.UE_COUNT, Acc.ro),
    (Reg.sc.POISON_READS, Acc.ro),
    (Reg.sc.PATROL_UE, Acc.ro)] ++
  [(Reg.sc.PATROL_PASSES, Acc.ro),
    (Reg.sc.ROWS_SPARED, Acc.ro),
    (Reg.sc.LANES_SPARED, Acc.ro),
    (Reg.sc.FAULTS, Acc.ro),
    (Reg.sc.SCRUB_EVERY, Acc.rw),
    (Reg.sc.ROW_CE_THRESHOLD, Acc.rw),
    (Reg.sc.ROW_SPARE_EN, Acc.rw),
    (Reg.sc.LANE_SPARE_EN, Acc.rw)] ++
  [(Reg.sc.LANE_CE_THRESHOLD, Acc.rw),
    (Reg.sc.LANE_SEL, Acc.rw),
    (Reg.sc.RETIRED, Acc.ro),
    (Reg.sc.MIG_PTR, Acc.ro),
    (Reg.sc.DIE_MAP, Acc.ro),
    (Reg.sc.FAULT_ADDR, Acc.ro),
    (Reg.sc.FAULT_INFO_KIND, Acc.ro),
    (Reg.sc.FAULT_INFO_WRITE, Acc.ro)] ++
  [(Reg.sc.FAULT_INFO_REQUESTER, Acc.ro),
    (Reg.sc.FAULT_INFO_VALID, Acc.w1c)]

def rows_lnk : List (Fld × Acc) :=
  [(Reg.lnk.TRAIN_EN, Acc.rw),
    (Reg.lnk.LANE_SPARE_EN, Acc.rw),
    (Reg.lnk.HALF_OK, Acc.rw),
    (Reg.lnk.RETRAIN_LIMIT, Acc.rw),
    (Reg.lnk.LINK_STATE, Acc.ro),
    (Reg.lnk.SPARE_TX, Acc.ro),
    (Reg.lnk.SPARE_RX, Acc.ro),
    (Reg.lnk.LOCAL_ID, Acc.rw)] ++
  [(Reg.lnk.PEER_ID, Acc.ro),
    (Reg.lnk.REPLAY_100NS, Acc.rw),
    (Reg.lnk.CLOSE_100NS, Acc.rw),
    (Reg.lnk.ACK_100NS, Acc.rw),
    (Reg.lnk.LANE_ERR_THRESHOLD, Acc.rw),
    (Reg.lnk.FLITS_TX, Acc.ro),
    (Reg.lnk.FLITS_RX, Acc.ro)] ++
  [(Reg.lnk.CRC_ERRORS, Acc.ro),
    (Reg.lnk.REPLAYS, Acc.ro),
    (Reg.lnk.RETRAINS, Acc.ro),
    (Reg.lnk.SENDS, Acc.ro),
    (Reg.lnk.SEND_ERRORS, Acc.ro),
    (Reg.lnk.CLIPPED, Acc.ro),
    (Reg.lnk.FLUSHED, Acc.ro),
    (Reg.lnk.ESCAPES, Acc.ro)] ++
  [(Reg.lnk.NACKS_SENT, Acc.ro),
    (Reg.lnk.DROPPED_FLITS, Acc.ro),
    (Reg.lnk.CHAN_WAIT, Acc.ro),
    (Reg.lnk.CREDIT_WAIT, Acc.ro),
    (Reg.lnk.LATE_RESPONSES, Acc.ro),
    (Reg.lnk.LANE_SEL, Acc.rw),
    (Reg.lnk.CHAN_SEL, Acc.rw)]

def rows_win : List (Fld × Acc) :=
  [(Reg.win.WIN_SEL, Acc.rw),
    (Reg.win.REFUSED, Acc.ro),
    (Reg.win.LOOP_SENDS, Acc.ro)]

def rows_hif : List (Fld × Acc) :=
  [(Reg.hif.HIF_STATE_UP, Acc.ro),
    (Reg.hif.RETRAINING, Acc.ro),
    (Reg.hif.HOST_CREDIT_SEEN, Acc.ro),
    (Reg.hif.ACTIVE_MASK, Acc.ro),
    (Reg.hif.MODULE_ENABLE, Acc.rw),
    (Reg.hif.CPL_TIMEOUT_US, Acc.rw),
    (Reg.hif.LANE_ERR_THRESHOLD, Acc.rw),
    (Reg.hif.POSTED, Acc.ro)] ++
  [(Reg.hif.NONPOSTED, Acc.ro),
    (Reg.hif.UNITS_RX, Acc.ro),
    (Reg.hif.UNITS_TX, Acc.ro),
    (Reg.hif.HOST_READS_ISSUED, Acc.ro),
    (Reg.hif.CPL_TIMEOUTS, Acc.ro),
    (Reg.hif.BAD_CPL, Acc.ro),
    (Reg.hif.LATE_CPL, Acc.ro),
    (Reg.hif.BAD_PACKETS, Acc.ro)] ++
  [(Reg.hif.CREDIT_OVERRUNS, Acc.ro),
    (Reg.hif.UR_SENT, Acc.ro),
    (Reg.hif.UR_DISCARDS, Acc.ro),
    (Reg.hif.APT_WR_FAULTS, Acc.ro),
    (Reg.hif.MSG_DROPPED, Acc.ro),
    (Reg.hif.TX_DISCARDS, Acc.ro),
    (Reg.hif.CREDIT_WAIT, Acc.ro)] ++
  [(Reg.hif.RETRAINS, Acc.ro),
    (Reg.hif.FAULT_ADDR, Acc.ro),
    (Reg.hif.FAULT_INFO_KIND, Acc.ro),
    (Reg.hif.FAULT_INFO_STAIRWELL, Acc.ro),
    (Reg.hif.FWLOAD, Acc.ro),
    (Reg.hif.FAULT_INFO_VALID, Acc.w1c),
    (Reg.hif.MC_VEC, Acc.rw),
    (Reg.hif.DISPATCH_VEC, Acc.rw)] ++
  [(Reg.hif.MAP_VEC, Acc.rw),
    (Reg.hif.WINDOW_VEC, Acc.rw),
    (Reg.hif.LINK_VEC, Acc.rw),
    (Reg.hif.HIF_VEC, Acc.rw),
    (Reg.hif.HALL_VEC, Acc.rw),
    (Reg.hif.SERVICE_VEC, Acc.rw)] ++
  ((List.range 64).map fun i => (Reg.hif.VEC_ADDR i, Acc.rw)) ++
  ((List.range 64).map fun i => (Reg.hif.VEC_DATA i, Acc.rw)) ++
  ((List.range 64).map fun i => (Reg.hif.VEC_CTRL_MASK i, Acc.rw)) ++
  ((List.range 64).map fun i => (Reg.hif.VEC_CTRL_PENDING i, Acc.ro))

def rows_hall : List (Fld × Acc) :=
  [(Reg.hall.RETIRING, Acc.ro),
    (Reg.hall.RETIRED, Acc.ro),
    (Reg.hall.SWAPS, Acc.ro),
    (Reg.hall.RETURNED_UNITS, Acc.ro),
    (Reg.hall.ABANDONED_TREADS, Acc.ro)] ++
  ((List.range 16).map fun i => (Reg.hall.REMAP i, Acc.ro))

def rows_fc : List (Fld × Acc) :=
  [(Reg.fc.OVERFLOW_REPORTS, Acc.ro),
    (Reg.fc.FC_SEL, Acc.rw)]

def rows_mcs : List (Fld × Acc) :=
  [(Reg.mcs.WARN_C, Acc.rw),
    (Reg.mcs.THERM_THROTTLE, Acc.rw),
    (Reg.mcs.THERM_TICKETS, Acc.rw),
    (Reg.mcs.MAX_TEMP, Acc.ro),
    (Reg.mcs.HOTTEST, Acc.ro),
    (Reg.mcs.WARNING, Acc.ro),
    (Reg.mcs.STOPPED, Acc.ro),
    (Reg.mcs.AUTO_SWAP, Acc.rw)] ++
  [(Reg.mcs.AUTO_ROW, Acc.rw),
    (Reg.mcs.AUTO_WAY, Acc.rw),
    (Reg.mcs.REISSUE, Acc.rw),
    (Reg.mcs.WAY_UE_THRESHOLD, Acc.rw),
    (Reg.mcs.FW_ADDR, Acc.rw),
    (Reg.mcs.FW_LEN, Acc.rw)] ++
  ((List.range 16).map fun i => (Reg.mcs.HALL_TEMP i, Acc.ro)) ++
  ((List.range 16).map fun i => (Reg.mcs.STACK_TEMP i, Acc.ro)) ++
  ((List.range 6).map fun i => (Reg.mcs.RAIL_MV i, Acc.ro)) ++
  ((List.range 6).map fun i => (Reg.mcs.RAIL_CURRENT i, Acc.ro))

def rows_seb : List (Fld × Acc) :=
  [(Reg.seb.RECOVERY, Acc.ro),
    (Reg.seb.RESULT, Acc.ro),
    (Reg.seb.ARG_ADDR, Acc.rw),
    (Reg.seb.DENIED_WRITES, Acc.ro),
    (Reg.seb.VERIFY_FAILS, Acc.ro)] ++
  ((List.range 8).map fun i => (Reg.seb.CHALLENGE i, Acc.ro))

def rows_rst : List (Fld × Acc) :=
  [(Reg.rst.PHASE, Acc.ro),
    (Reg.rst.RECOVERY, Acc.ro),
    (Reg.rst.RESET_CAUSE, Acc.ro),
    (Reg.rst.CAUSE_MASK, Acc.ro),
    (Reg.rst.RESET_COUNT, Acc.ro),
    (Reg.rst.SELFTEST_HALLS, Acc.ro),
    (Reg.rst.SELFTEST_GALLERIES, Acc.ro),
    (Reg.rst.SELFTEST_ROWS, Acc.ro)] ++
  [(Reg.rst.RECORD_SKIPPED, Acc.ro)]

/-- The header fields of a page (R382). -/
def headerRows (p : Page) : List (Fld × Acc) :=
  [(Reg.hdr.STATE_ERR, .w1c), (Reg.hdr.OUT_OF_SERVICE p, .ro), (Reg.hdr.CONTROL_ENABLE, .rw),
    (Reg.hdr.QUIESCE p, .rw), (Reg.hdr.FAULT_CODE, .ro), (Reg.hdr.FAULT_COUNT, .ro),
    (Reg.hdr.STICKY, .w1c), (Reg.hdr.STICKY_MASK p, .rw), (Reg.hdr.READBACK_SEL_INDEX, .rw),
    (Reg.hdr.READBACK_SEL_SPACE, .rw), (Reg.hdr.AUTO_INC, .rw)]

end Sys2Proof.Machine
namespace Sys2Proof
open Machine

/-- The fields of a page after its header. -/
def Page.own : Page → List (Fld × Acc)
  | .mcPower => rows_mcp
  | .dispatcher => rows_dsp
  | .memMap => rows_mm
  | .hif => rows_hif
  | .window => rows_win
  | .seb => rows_seb
  | .mcService => rows_mcs
  | .fc => rows_fc
  | .reset => rows_rst
  | .stairwell _ => rows_sw
  | .link _ => rows_lnk
  | .hall _ => rows_hall
  | .hallCache _ => rows_hc
  | .stack _ => rows_sc
  | .dresser _ => rows_drs
  | .array _ _ => rows_arr ++ rows_lnd ++ rows_skp
  | .ve _ _ => rows_ve
  | .qu _ _ => rows_qu
  | .mems _ _ => rows_gm

/-- All stored fields of a page. -/
def Page.rows (p : Page) : List (Fld × Acc) := headerRows p ++ p.own

/-- Where a page begins in register space (R379, R380, *Page inventory*). -/
def Page.base : Page → Nat
  | .mcPower => 0x0000
  | .dispatcher => 0x1000
  | .memMap => 0x2000
  | .hif => 0x3000
  | .window => 0x4000
  | .seb => 0x5000
  | .mcService => 0x6000
  | .fc => 0x7000
  | .reset => 0x8000
  | .stairwell s => 0x100000 + s.val * 0x1000
  | .link l => 0x200000 + l.val * 0x1000
  | .hall h => 0x1000000 + h.val * 0x100000
  | .hallCache h => 0x1001000 + h.val * 0x100000
  | .stack h => 0x1002000 + h.val * 0x100000
  | .dresser h => 0x1003000 + h.val * 0x100000
  | .array h g => 0x1010000 + h.val * 0x100000 + g.val * 0x4000
  | .ve h g => 0x1011000 + h.val * 0x100000 + g.val * 0x4000
  | .qu h g => 0x1012000 + h.val * 0x100000 + g.val * 0x4000
  | .mems h g => 0x1013000 + h.val * 0x100000 + g.val * 0x4000

/-- PAGE_ID.TYPE (*Page inventory*). -/
def Page.type : Page → Nat
  | .mcPower => 0x01
  | .dispatcher => 0x02
  | .memMap => 0x03
  | .hif => 0x04
  | .window => 0x05
  | .seb => 0x06
  | .mcService => 0x07
  | .fc => 0x08
  | .reset => 0x09
  | .stairwell _ => 0x10
  | .link _ => 0x18
  | .hall _ => 0x20
  | .hallCache _ => 0x21
  | .stack _ => 0x22
  | .dresser _ => 0x23
  | .array _ _ => 0x30
  | .ve _ _ => 0x31
  | .qu _ _ => 0x32
  | .mems _ _ => 0x33

/-- PAGE_ID.INSTANCE (R382). -/
def Page.inst : Page → Nat
  | .stairwell s => s.val
  | .link l => l.val
  | .hall h | .hallCache h | .stack h | .dresser h => h.val
  | .array h _ | .ve h _ | .qu h _ | .mems h _ => h.val
  | _ => 0

/-- PAGE_ID.SUB (R382). -/
def Page.sub : Page → Nat
  | .array _ g | .ve _ g | .qu _ g | .mems _ g => g.val
  | _ => 0

/-- The SOURCE a page's reports carry; none where the page does not report (*Page inventory*). -/
def Page.source : Page → Option Nat
  | .mcPower => some 0x0000
  | .dispatcher => some 0x0001
  | .memMap => some 0x0002
  | .hif => some 0x0003
  | .window => some 0x0004
  | .seb => some 0x0005
  | .mcService => some 0x0006
  | .fc => none
  | .reset => none
  | .stairwell s => some (0x0010 + s.val)
  | .link l => some (0x0020 + l.val)
  | .hall h => some (0x8440 + 0x800 * h.val)
  | .hallCache h => some (0x8480 + 0x800 * h.val)
  | .stack h => some (0x84C0 + 0x800 * h.val)
  | .dresser h => some (0x8500 + 0x800 * h.val)
  | .array h g => some (0x8000 + 0x800 * h.val + 0x40 * g.val)
  | .ve h g => some (0x8010 + 0x800 * h.val + 0x40 * g.val)
  | .qu h g => some (0x8020 + 0x800 * h.val + 0x40 * g.val)
  | .mems h g => some (0x8030 + 0x800 * h.val + 0x40 * g.val)

/-- The counters that a CLEAR field resets: offset of the field, its bit, and the offsets of the
counters, first and last (R85 and the CLEAR rule of each page). -/
def Page.clears : Page → List (Nat × Nat × List (Nat × Nat))
  | .array _ _ => [(0x06C, 0, [(0x040, 0x064)]), (0x088, 1, [(0x090, 0x09C), (0x0E0, 0x0E4)]),
      (0x14C, 0, [(0x100, 0x140)])]
  | .ve _ _ => [(0x06C, 0, [(0x040, 0x060)])]
  | .qu _ _ => [(0x06C, 0, [(0x040, 0x064), (0x084, 0x084), (0x094, 0x094), (0x0A4, 0x0A4), (0x0B4, 0x0B4)])]
  | .mems _ _ => [(0x090, 0, [(0x070, 0x07C), (0x100, 0x16C)])]
  | .dresser _ => [(0x05C, 0, [(0x040, 0x054)])]
  | .dispatcher => [(0x060, 0, [(0x044, 0x05C)])]
  | .stairwell _ => [(0x078, 0, [(0x064, 0x074)])]
  | .hallCache _ => [(0x07C, 0, [(0x048, 0x078)])]
  | .stack _ => [(0x078, 0, [(0x040, 0x074)])]
  | .link _ => [(0x0A4, 0, [(0x05C, 0x0A0)])]
  | .window => [(0x06C, 0, [(0x064, 0x068)])]
  | .hif => [(0x0A8, 0, [(0x060, 0x0A4)])]
  | .hall _ => [(0x0A0, 0, [(0x090, 0x09C)])]
  | .seb => [(0x0A8, 0, [(0x0A0, 0x0A4)])]
  | _ => []

end Sys2Proof
end

