-- ==== Sys2Proof/Machine/Crypto.lean ====
section
/-! DEFINITION. SHA-256 and RSASSA-PSS over RSA-3072, as PKCS #1 v2.2 and the SHA-256 standard define them (R351).
PRESUMED: the manual names the algorithms and does not restate them (notes/assumptions). Octet strings are lists of
byte values, first octet first. -/

namespace Sys2Proof.Machine

/-! ### Octet strings -/

/-- The big-endian value of an octet string. -/
def osToNat (bs : List Nat) : Nat := bs.foldl (fun a b => a * 256 + b % 256) 0

/-- `n` octets of a value, most significant first. -/
def natToOs : Nat → Nat → List Nat
  | 0, _ => []
  | n + 1, v => natToOs n (v / 256) ++ [v % 256]

/-- Octets `off` to `off + n - 1` of a little-endian image, in address order. -/
def octets (img off n : Nat) : List Nat := (List.range n).map fun i => fieldAt img (off + i) 1

/-- The little-endian image of an octet string. -/
def osToImage (bs : List Nat) : Nat := bs.foldr (fun b a => b % 256 + 256 * a) 0

/-! ### SHA-256 -/

/-- `n` words of 32 bits of a number, the most significant first. -/
def wordsOf (n x : Nat) : List Nat := (List.range n).map fun i => bits x (32 * (n - 1 - i)) 32

/-- The round constants, eight words to a number: the first 32 bits of the fractional parts of the cube
roots of the first 64 primes. -/
def shaK : List Nat :=
  [0x428a2f9871374491b5c0fbcfe9b5dba53956c25b59f111f1923f82a4ab1c5ed5,
   0xd807aa9812835b01243185be550c7dc372be5d7480deb1fe9bdc06a7c19bf174,
   0xe49b69c1efbe47860fc19dc6240ca1cc2de92c6f4a7484aa5cb0a9dc76f988da,
   0x983e5152a831c66db00327c8bf597fc7c6e00bf3d5a7914706ca635114292967].flatMap (wordsOf 8) ++
  [0x27b70a852e1b21384d2c6dfc53380d13650a7354766a0abb81c2c92e92722c85,
   0xa2bfe8a1a81a664bc24b8b70c76c51a3d192e819d6990624f40e3585106aa070,
   0x19a4c1161e376c082748774c34b0bcb5391c0cb34ed8aa4a5b9cca4f682e6ff3,
   0x748f82ee78a5636f84c878148cc7020890befffaa4506cebbef9a3f7c67178f2].flatMap (wordsOf 8)

/-- The initial hash value, from the square roots of the first eight primes. -/
def shaInit : List Nat :=
  wordsOf 8 0x6a09e667bb67ae853c6ef372a54ff53a510e527f9b05688c1f83d9ab5be0cd19

/-- A 32-bit word rotated right by each of some distances, the results combined by exclusive or. -/
def rotations (x : Nat) (places : List Nat) : Nat :=
  places.foldl (fun v n => v ^^^ bits (x * (2 ^ 32 + 1)) n 32) 0

/-- The word that follows a message schedule, newest word first: its words of 2, 7, 15 and 16 places before. -/
def shaNext (w : List Nat) : Nat :=
  (w.getD 15 0 + w.getD 6 0
    + (rotations (w.getD 14 0) [7, 18] ^^^ w.getD 14 0 / 2 ^ 3)
    + (rotations (w.getD 1 0) [17, 19] ^^^ w.getD 1 0 / 2 ^ 10)) % 2 ^ 32

/-- The message schedule, newest word first, from its first 16 words. -/
def shaSchedule : Nat → List Nat → List Nat
  | 0, w => w
  | n + 1, w => shaSchedule n (shaNext w :: w)

/-- One round on the eight working words, oldest name first, with the round's constant and schedule word: the
choice takes its second word where the first has a 1, the majority the value two of three agree on. -/
def shaRound (h : List Nat) (kw : Nat × Nat) : List Nat :=
  let v := fun i => h.getD i 0
  let choice := v 6 ^^^ (v 4 &&& (v 5 ^^^ v 6))
  let majority := (v 0 &&& (v 1 ||| v 2)) ||| (v 1 &&& v 2)
  let mixed := kw.1 + kw.2 + v 7 + choice + rotations (v 4) [6, 11, 25]
  (mixed + majority + rotations (v 0) [2, 13, 22]) % 2 ^ 32 :: h.take 3
    ++ (v 3 + mixed) % 2 ^ 32 :: (h.drop 4).take 3

/-- One 64-octet block. -/
def shaBlock (h : List Nat) (block : List Nat) : List Nat :=
  let w := (List.range 16).map fun i => osToNat ((block.drop (4 * i)).take 4)
  let ws := (shaSchedule 48 w.reverse).reverse
  let r := (shaK.zip ws).foldl shaRound h
  (h.zip r).map fun e => (e.1 + e.2) % 2 ^ 32

/-- The padded message. -/
def shaPad (bs : List Nat) : List Nat :=
  bs ++ 0x80 :: List.replicate ((119 - bs.length % 64) % 64) 0 ++ natToOs 8 (8 * bs.length)

/-- Blocks one after another. -/
def shaBlocks : Nat → List Nat → List Nat → List Nat
  | 0, _, h => h
  | n + 1, bs, h => shaBlocks n (bs.drop 64) (shaBlock h (bs.take 64))

/-- SHA-256 of an octet string, as 32 octets. -/
def sha256 (bs : List Nat) : List Nat :=
  let p := shaPad bs
  (shaBlocks (p.length / 64) p shaInit).flatMap (natToOs 4)

/-! ### RSASSA-PSS (R351) -/

/-- `b ^ e` modulo `n`, for exponents of up to `k` bits. -/
def powMod (n : Nat) : Nat → Nat → Nat → Nat
  | 0, _, _ => 1 % n
  | k + 1, b, e =>
    let r := powMod n k (b * b % n) (e / 2)
    if e % 2 = 1 then r * b % n else r

/-- MGF1 with SHA-256: `n` octets. -/
def mgf1 (seed : List Nat) (n : Nat) : List Nat :=
  ((List.range (ceilDiv n 32)).flatMap fun i => sha256 (seed ++ natToOs 4 i)).take n

def xorOs (a b : List Nat) : List Nat := (a.zip b).map fun e => e.1 ^^^ e.2

/-- The hash that a salted digest has. -/
def saltedHash (digest salt : List Nat) : List Nat := sha256 (List.replicate 8 0 ++ digest ++ salt)

/-- The signature verifies over a digest, under a 384-octet modulus and a 4-octet exponent. -/
def pssVerify (modulus exponent signature digest : List Nat) : Bool :=
  let n := osToNat modulus
  let s := osToNat signature
  let em := natToOs 384 (powMod n 32 s (osToNat exponent))
  let h := (em.drop 351).take 32
  let db := xorOs (em.take 351) (mgf1 h 351)
  let db := (db.headD 0 % 128) :: db.drop 1
  decide (2 ^ 3071 ≤ n ∧ s < n) && em.getD 383 0 == 0xBC && decide (em.headD 0 < 128)
    && (db.take 318).all (· == 0) && db.getD 318 0 == 1 && saltedHash digest (db.drop 319) == h

/-- The signature of a digest with a private exponent and a 32-octet salt. -/
def pssSign (n d : Nat) (salt digest : List Nat) : List Nat :=
  let h := saltedHash digest salt
  let db := xorOs (List.replicate 318 0 ++ 1 :: salt) (mgf1 h 351)
  let em := (db.headD 0 % 128) :: db.drop 1 ++ h ++ [0xBC]
  natToOs 384 (powMod n 3072 (osToNat em) d)

/-- A modulus of 3,072 bits with an exponent of four octets and its private exponent: one raises back what the
other raised (R351, R353). -/
def rsaPair (n e d : Nat) : Prop :=
  2 ^ 3071 ≤ n ∧ n < 2 ^ 3072 ∧ e < 2 ^ 32 ∧ d < 2 ^ 3072 ∧ ∀ m, m < n → m ^ (e * d) % n = m

/-- The key pair of the `n`-th draw: what the entropy gives when that is an RSA-3072 pair. The SEB generates nothing
else (R353); that every draw gives a pair is had by a fixed pair for the draws that give none. -/
def identityKey (n : Nat) : Nat × Nat × Nat :=
  let k := Config.identityKey n
  if 2 ^ 3071 ≤ k.1 ∧ k.1 < 2 ^ 3072 ∧ k.2.1 < 2 ^ 32 ∧ k.2.2 < 2 ^ 3072 then
    if ∀ m, m < k.1 → m ^ (k.2.1 * k.2.2) % k.1 = m then k else (2 ^ 3071, 1, 1)
  else (2 ^ 3071, 1, 1)

end Sys2Proof.Machine
end

