-- ==== Sys2Proof/Machine/State.lean ====
section
/-! DEFINITION. The state of the block as plain data, the reasons a command can stop, and the state
right after reset.

Every register field of the manual's register tables has its home in `State.regs`, under the offset
and bit the table gives it (Sys2Proof/Machine/RegMap.lean names each one), except the fields that show
a part of a record below; those are computed from the record when they are read
(Sys2Proof/Machine/Views.lean). Everything the manual gives the machine beside its registers is a
record here. -/

namespace Sys2Proof.Machine

/-- A map from numbers to values, in rising key order. What an unlisted key reads as is said where
the map is used. -/
abbrev NatMap (α : Type) := List (Nat × α)

/-- Why the machine stops. -/
inductive Fault where
  /-- Raised by the commands that sample the sensors (POWER_LOOP_PERIOD, and TIMER_CALIBRATION_DONE where the loop
  timer expires in its handshake) when a rail or a hall sensor lies beyond its absolute maximum: the part may be
  damaged and the manual states no behaviour there (R2, R397, R402). Safe. -/
  | beyondAbsoluteMaximum
  deriving DecidableEq, Repr

/-- Why a command has no meaning. -/
inductive Refusal where
  /-- Raised by exec's arm of a command that has no meaning yet. Safe. -/
  | notModelled (mnemonic : String)
  deriving DecidableEq, Repr

/-! ### Packets that leave the device (R316, R324, R329) -/

/-- What a read was answered with, or a request acknowledged with. -/
inductive Packet where
  /-- a completion of a host request: tag, status, and the data of a read -/
  | cpl (tag status len : Nat) (data : Option Nat)
  /-- a read of host memory -/
  | hostRd (tag addr len : Nat)
  /-- a write of host memory, posted -/
  | hostWr (addr len data : Nat)
  /-- an interrupt message, posted -/
  | msg (addr data : Nat)
  /-- credits returned to the host -/
  | credit (posted nonposted : Nat)
  deriving DecidableEq, Repr

/-- Whose posted write a packet is: a stairwell's entry, by slot (8 for the inline entry), and whether it is
the entry's completion record (R226, R323). -/
structure Owner where
  sw : Nat
  slot : Nat
  record : Bool
  deriving DecidableEq, Repr

/-- A packet that waits to enter the stream; `waited` once its want of a credit has been counted (R326). -/
structure Queued where
  packet : Packet
  owner : Option Owner
  waited : Bool
  deriving DecidableEq, Repr

/-- A completion on the sideband (R329): the data of a successful read, success of a write, or the
error completion. -/
inductive SidebandReply where
  | data (v : Nat) | written | error
  deriving DecidableEq, Repr

/-- For whom a read of host memory is made (R403). -/
inductive ReadFor where
  | entry (sw addr : Nat)
  | descriptor (sw slot : Nat)
  | waitWord (sw : Nat)
  | copy (sw slot off : Nat)
  | firmware (off : Nat)
  /-- the work that asked has ended; what comes back is discarded (R219, R230) -/
  | discarded (sw : Nat)
  deriving DecidableEq, Repr

/-- A read of host memory that waits for a tag or holds one (R321). -/
structure HostRead where
  who : ReadFor
  addr : Nat
  len : Nat
  tag : Option Nat
  deriving DecidableEq, Repr

/-! ### Stairwells -/

/-- *Stairwell states* (R208). -/
inductive SwState where
  | idle | running | waiting | faulted | killing
  deriving DecidableEq, Repr

/-- What has come back of a read. -/
inductive Fetched where
  | pending | data (img : Nat) | failed
  deriving DecidableEq, Repr

/-- An entry read or being read (R214); `again` marks a read that was issued with the stairwell at the
entry, so that its failure faults. -/
structure Ahead where
  addr : Nat
  got : Fetched
  again : Bool
  deriving DecidableEq, Repr

/-- How far the entry at the head of the list has come. -/
inductive Stage where
  | fetched | waitPrior | waitSlot | waiting | opening | closing
  /-- WRITE_WORD whose write has yet to enter the stream (R323) -/
  | posting
  /-- its completion record has yet to enter the stream; the entry's status (R213, R323) -/
  | recording (status : Nat)
  deriving DecidableEq, Repr

/-- The entry the stairwell is at. -/
structure Current where
  addr : Nat
  img : Nat
  stage : Stage
  deriving DecidableEq, Repr

/-- What a running WAIT_WORD holds (R218, R219). -/
structure Wait where
  /-- a read of the word is under way -/
  reading : Bool
  /-- the word a host read brought, waiting to be evaluated -/
  word : Fetched
  /-- a write has reached the watched sector since the last read was issued -/
  wake : Bool
  /-- the timeout timer runs -/
  timed : Bool
  deriving DecidableEq, Repr

/-- The work of a tracked entry. -/
inductive Body where
  /-- JOB: the descriptor is being read -/
  | descriptor
  /-- JOB: the descriptor is offered to the dispatcher; none for a misaligned one, which is not read -/
  | offered (desc : Option Nat)
  /-- JOB: the dispatcher holds the job -/
  | issued
  /-- FILL and COPY: blocks written, and for a host source the bytes asked for and the pieces
  that came back -/
  | moving (done asked : Nat) (pieces : NatMap (Option Nat))
  /-- FLUSH: halls whose walk has not ended -/
  | flushing (halls : List Nat)
  /-- REDUCE: the reduction block -/
  | reducing (block : Nat)
  /-- the work is over; the entry has yet to complete -/
  | ended (status flags work : Nat)
  /-- its completion record has yet to enter the stream; the entry's status (R213, R323) -/
  | recording (status : Nat)
  deriving DecidableEq, Repr

/-- A tracked entry in its slot (R213). -/
structure Tracked where
  addr : Nat
  img : Nat
  killed : Bool
  body : Body
  deriving DecidableEq, Repr

structure Stairwell where
  state : SwState
  ahead : List Ahead
  cur : Option Current
  wait : Option Wait
  /-- slots 0 to 7; an unlisted slot is free -/
  slots : NatMap Tracked
  /-- an entry examined by the next FENCE has ended in error (R217) -/
  errSeen : Bool
  /-- records attempted since reset (R226) -/
  seq : Nat
  /-- galleries that a KILL with SCRUB still scrubs, as 17 h + g (R231) -/
  scrubbing : List Nat
  deriving DecidableEq, Repr

/-! ### Dispatcher -/

/-- How far a job has come at the dispatcher (R191). -/
inductive JobStage where
  | blocks | extents | tallied
  deriving DecidableEq, Repr

/-- An issued job with its tally (R200). The job is known by its stairwell and slot. -/
structure Job where
  sw : Nat
  slot : Nat
  desc : Nat
  stage : JobStage
  /-- the images of the blocks read at issue (R404); none when not read -/
  conv : Option Nat
  aux : Option Nat
  skip : Option Nat
  m : Nat
  n : Nat
  k : Nat
  units : Nat
  next : Nat
  done : Nat
  held : Nat
  /-- units returned by a faulted or abandoned gallery, each with whether its ticket ran with skipping off
  (R182, R337) -/
  returned : List (Nat × Bool)
  /-- units that a gallery fault has returned once (R337) -/
  faulted : List Nat
  /-- units re-queued and not yet handed out (R204) -/
  requeue : List Nat
  /-- every unit ever re-queued (R182, R338) -/
  requeued : List Nat
  /-- units whose statistics burst has begun (R338) -/
  burst : List Nat
  /-- units failed in REDUCE_SPLITK, with their status (R167) -/
  failures : List (Nat × Nat)
  /-- the status of a fault or kill: no further ticket (R203) -/
  ended : Option Nat
  flags : Nat
  /-- galleries that have run a ticket of it and hold that ticket no longer, as 17 h + g (R231) -/
  galleries : List Nat
  deriving DecidableEq, Repr

/-- A fetch request waiting at the dispatcher (R201, R202). -/
structure Request where
  who : Fetcher
  /-- the wait has been counted -/
  waited : Bool
  deriving DecidableEq, Repr

structure Dispatcher where
  jobs : List Job
  requests : List Request
  lastSw : Nat
  lastGallery : Nat
  lastDresser : Nat
  /-- the next ticket's serial number: the model's own name for a ticket -/
  serial : Nat
  deriving DecidableEq, Repr

/-! ### Galleries -/

/-- A ticket in a gallery or dresser (R199, R201). -/
structure Ticket where
  serial : Nat
  sw : Nat
  slot : Nat
  units : List Nat
  /-- units not yet finished -/
  left : List Nat
  /-- output tiles opened so far -/
  opened : Nat
  /-- panel entries read so far, one per output tile: OFFSET32 and TILES (R94) -/
  panels : List (Nat × Nat)
  /-- the next tile record to receive: output tile and record within its panel (R240) -/
  recvTile : Nat
  recvRec : Nat
  /-- a re-queued unit, run with skipping off (R182) -/
  exact : Bool
  /-- a returned unit, which converts afresh (R244) -/
  afresh : Bool
  /-- the conversion on entry this ticket runs from is complete -/
  converted : Bool
  /-- the ticket makes statistics adds and writes row errors (R146, R244, R338) -/
  records : Bool
  /-- its wait for the conversion ring or a generator, and that of its next opening, have been counted -/
  waited : Bool
  openWaited : Bool
  /-- a vector or CONVERT ticket whose work has begun -/
  begun : Bool
  /-- a vector or CONVERT ticket whose outputs are written -/
  written : Bool
  /-- treads executed for it, by unit (R338) -/
  treads : NatMap Nat
  /-- units whose outputs are all written and that have yet to finish -/
  finished : List Nat
  /-- the deadline timer: 0 not started, 1 runs, 2 has expired (R178) -/
  timer : Nat
  deriving DecidableEq, Repr

/-- *Landing registers*, PHASE (R128). -/
inductive Phase where
  | opening | accumulating | retrying | draining | orphan
  deriving DecidableEq, Repr

/-- An accumulation group (R108 to R118). -/
structure Group where
  slot : Nat
  head : Nat
  rows : Nat
  phase : Phase
  shift : Nat
  retries : Nat
  sat : Bool
  preloaded : Bool
  /-- rows below M that the tile's boulder list names -/
  boulderRows : List Nat
  sig : Nat
  sw : Nat
  jobSlot : Nat
  /-- the ticket, the output tile's place in it, the unit, and the tile (i, j, part) -/
  serial : Nat
  tile : Nat
  unit : Nat
  i : Nat
  j : Nat
  part : Nat
  /-- rows of the output tile -/
  m : Nat
  /-- shift recorded by a preload's side word (R113) -/
  sh0 : Nat
  /-- preload rows loaded so far -/
  loaded : Nat
  /-- resident tiles whose flights have all been added -/
  tilesDone : Nat
  /-- the next row to stage and the next row to add, within the resident tile -/
  stageRow : Nat
  addRow : Nat
  /-- its drain is among the VE's work items, or runs -/
  draining : Bool
  /-- its outputs have been written and wait for the last acceptance -/
  drained : Bool
  /-- sampler numbering and misses of the running pass (R180, R182) -/
  numbered : Nat
  misses : Nat
  deriving DecidableEq, Repr

/-- A tile record held in the tile ring (R240); `left` once it has left the weight registers by a swap. -/
structure RingRec where
  serial : Nat
  tile : Nat
  record : Nat
  course : Nat
  courses : Nat
  left : Bool
  deriving DecidableEq, Repr

/-- The tile in the shadow or weight registers: its ticket, output tile, number in the panel and the
bytes loaded so far, as an image of the tile record (R82, R91). -/
structure TileReg where
  serial : Nat
  tile : Nat
  record : Nat
  image : Nat
  size : Nat
  /-- handshakes of the load that are done, of `total` -/
  loaded : Nat
  total : Nat
  /-- the swap has been found waiting (TILE_WAIT) -/
  waited : Bool
  /-- its first addition has been found waiting for its group's opening (LAND_WAIT) -/
  landWaited : Bool
  /-- widths and shape of its job -/
  wa : Nat
  ww : Nat
  shape : Nat
  deriving DecidableEq, Repr

/-- What a flight under skipping carries beside its totals (R173 to R179). -/
structure SkipRun where
  /-- class of each column: 0 undecided or exact, 1 estimated, 2 weak, 3 far -/
  classes : List Nat
  done : Nat
  spent : Nat
  stopped : Bool
  /-- r of the last executed plane -/
  rest : Nat
  /-- the weak test runs in this row, with its threshold, the row's effective scale and its zero point -/
  weakOn : Bool
  theta : Nat
  scale : Nat
  zp : Nat
  deriving DecidableEq, Repr

/-- A flight staged or in flight (R79): the codes of each gathered group by window and code, the
treads still to run, and the flight accumulators. -/
structure Flight where
  serial : Nat
  tile : Nat
  record : Nat
  row : Nat
  mask : Nat
  empty : Bool
  farEmpty : Bool
  groups : List ((Nat × Nat) × List Nat)
  todo : List (Nat × Nat)
  /-- treads it had to run when it was staged -/
  cost : Nat
  acc : List Int
  skip : Option SkipRun
  /-- its addition has been found waiting (LAND_WAIT) -/
  waited : Bool
  deriving DecidableEq, Repr

/-- What one converted row adds to the statistics record (R146). -/
structure RowStats where
  sqerr : Nat
  zero : Bool
  flushed : Bool
  clipped : Nat
  boulders : Nat
  dropped : Nat
  clamped : Bool
  maxAbs : Nat
  maxScale : Nat
  deriving DecidableEq, Repr

/-- The path of a conversion (R129). -/
inductive ConvPath where
  | entry | convert | drain
  deriving DecidableEq, Repr

/-- A conversion of one M-block in the QU (R129 to R147). -/
structure Conversion where
  serial : Nat
  /-- the job and the M-block converted -/
  sw : Nat
  slot : Nat
  block : Nat
  path : ConvPath
  /-- rows of the M-block, and rows converted so far -/
  rows : Nat
  next : Nat
  /-- the values of a requantising drain, by row, that wait to be converted -/
  values : List (List Nat)
  /-- boulder entries made, in order, as images (R59) -/
  boulders : List Nat
  stats : List RowStats
  /-- the generator bound or shared, once bound (R143) -/
  gen : Option Nat
  /-- first spilled row, and whether the list spills too (R242) -/
  spill : Option Nat
  /-- the statistics burst has been made -/
  burst : Bool
  deriving DecidableEq, Repr

/-- A rounding generator's binding (R143); `users` are ticket serials. -/
structure Generator where
  stream : Nat
  seed : Nat
  users : List Nat
  deriving DecidableEq, Repr

/-- A row fetched into the stream ring (R242): its place in the loop, its side word, and the store
word that holds each of its code words. -/
structure StreamRow where
  serial : Nat
  tile : Nat
  record : Nat
  row : Nat
  side : Nat
  /-- query position and threshold of the row, when its job reads them (R173, R176) -/
  qpos : Nat
  theta : Nat
  words : List (Nat × Nat)
  deriving DecidableEq, Repr

/-- A work item of the vector engine (R150). -/
inductive VeItem where
  | drain (serial tile : Nat)
  | vector (serial : Nat)
  deriving DecidableEq, Repr

/-- A running local operation (R245): 1 FILL, 2 COPY. -/
structure MemOp where
  mem : Nat
  op : Nat
  src : Nat
  dst : Nat
  courses : Nat
  pattern : Nat
  deriving DecidableEq, Repr

/-- A gallery being scrubbed for a KILL (R231): waiting for its other tickets, or filled. -/
inductive Scrub where
  | waiting | filled
  deriving DecidableEq, Repr

structure Gallery where
  /-- a gallery fault is latched, until RESUME (R336) -/
  faulted : Bool
  /-- it has yet to be found quiescent (R339) -/
  busy : Bool
  /-- the running ticket first, then the one fetched ahead -/
  tickets : List Ticket
  /-- accumulation groups in the order they opened -/
  groups : List Group
  /-- the landing ring: row counts of the groups whose rows are held, oldest first, each with the
  slot that holds them or none once freed (R109) -/
  segments : List (Nat × Option Nat)
  allocHead : Nat
  tail : Nat
  ring : List RingRec
  shadow : Option TileReg
  resident : Option TileReg
  staged : Option Flight
  flight : Option Flight
  conversion : Option Conversion
  /-- the conversion of a CONVERT ticket or of a requantising drain -/
  quOut : Option Conversion
  /-- rows in the stream ring, in stream order (R242) -/
  streamRows : List StreamRow
  /-- heads of the tile ring, in courses, and of the stream ring, in 64-byte words (R240, R242) -/
  asHead : Nat
  streamHead : Nat
  /-- generators 0 to 3; an unlisted one is unbound -/
  gens : NatMap Generator
  ve : Option VeItem
  ready : List VeItem
  /-- the correction table of the last SOFTMAX ticket when it was loaded (R162) -/
  table : Option (List Nat)
  /-- memory words: 2^18 × memory + word; an unlisted word reads as 0 -/
  mem : NatMap Word
  /-- protected words that hold an uncorrectable error, by their first memory word -/
  broken : List Nat
  /-- corrections by bank row since reset (R250) -/
  rowCe : NatMap Nat
  /-- bank rows queued for retirement and bank rows spared -/
  rowQueue : List Nat
  rowSpared : List Nat
  op : Option MemOp
  scrub : Option Scrub
  /-- what the flight and shadow registers hold while nothing is loaded in them: 0, or the fill of the
  last scrub (R231) -/
  regFill : Nat
  /-- POS, SUMW, COLSUM and WSCALE of the resident tile's landing columns (R171) -/
  sums : List (Int × Int × Int × Nat)
  /-- a sampling flight is due for this row, with the sampled columns and the estimate each holds -/
  sampling : Option (Nat × List (Nat × Option Int))
  deriving DecidableEq, Repr

/-! ### Hall caches -/

/-- A line of a hall cache: line number (address div 64), way, data as an image, and its state. -/
structure Line where
  line : Nat
  way : Nat
  data : Nat
  dirty : Bool
  poison : Bool
  prefetched : Bool
  deriving DecidableEq, Repr

/-- A walk over a hall cache (R257, R260, R341). -/
inductive Walk where
  /-- FLUSH of a stairwell's slot: mode, first line, lines (none for all), position -/
  | flush (sw slot mode first : Nat) (lines : Option Nat) (pos : Nat)
  /-- newly disabled and newly enabled ways, and the next set -/
  | ways (off on pos : Nat)
  /-- hall retirement -/
  | retire
  deriving DecidableEq, Repr

/-- A request that waits for its line (R253). -/
structure Miss where
  user : HallUser
  addr : Nat
  len : Nat
  write : Option Nat
  deriving DecidableEq, Repr

structure HallCache where
  /-- the lines held, most recently used first -/
  lines : List Line
  walks : List Walk
  misses : List Miss
  /-- UE_CLEAN errors by way since reset (R344) -/
  wayUe : NatMap Nat
  deriving DecidableEq, Repr

/-! ### DRAM stacks -/

/-- The stored code of a sector beside its data (R268): its POISON bit, and the symbols that upsets
have changed since it was written. An unlisted sector has a clear tag and no changed symbol. -/
structure SectorCode where
  poison : Bool
  errors : List (Nat × Nat)
  deriving DecidableEq, Repr

/-- A running migration (R275): the logical die, the top logical die, and the physical die named. -/
structure Migration where
  logical : Nat
  top : Nat
  named : Nat
  deriving DecidableEq, Repr

structure Stack where
  /-- refresh windows issued since the last patrol step -/
  refreshes : Nat
  /-- a refresh window has been issued since a lane was last queued -/
  inWindow : Bool
  /-- next stack-local patrol step -/
  patrol : Nat
  /-- the row tracker: corrections by row, oldest entry last (R272) -/
  tracker : List (Nat × Nat)
  rowQueue : List Nat
  /-- the row being copied, once copied -/
  rowCopied : Option Nat
  /-- spare rows used by bank, and rows remapped -/
  bankSpares : NatMap Nat
  rowSpared : List Nat
  /-- single-bit corrections charged to data lanes, by 288 × channel + lane (R273) -/
  laneCharge : NatMap Nat
  laneQueue : List Nat
  /-- spare data lanes in use, as a mask, and spare command and address lanes used, by channel -/
  dataSpares : NatMap Nat
  caSpares : NatMap Nat
  lanesMoved : List Nat
  migration : Option Migration
  deriving DecidableEq, Repr

/-! ### Fenzin links -/

/-- A flit as the sender holds it. -/
structure OutFlit where
  type : Nat
  channel : Nat
  fseq : Nat
  payload : Nat
  /-- CRC-32C of the flit's first 124 bytes (R286); 0 on the loopback, which has none (R291) -/
  crc : Nat
  deriving DecidableEq, Repr

/-- A send in its channel (R297). -/
structure Send where
  sw : Nat
  slot : Nat
  block : Nat
  /-- the history record as read; none until it arrives -/
  history : Option Nat
  /-- the scale S, FP32, and m -/
  scale : Nat
  peak : Nat
  flushed : Bool
  begun : Bool
  /-- elements and escape entries sent -/
  sent : Nat
  escapes : List (Nat × Nat)
  escSent : Nat
  clips : Nat
  /-- the status with which it must be stopped by ABORT -/
  stop : Option Nat
  /-- its response has come, a NACK before its END -/
  answered : Bool
  deriving DecidableEq, Repr

/-- A send that awaits its response: stairwell and slot, or none once it has ended (R290). -/
structure Await where
  owner : Option (Nat × Nat)
  /-- it ended by PEER_TIMEOUT (R297) -/
  late : Bool
  deriving DecidableEq, Repr

/-- The send arriving on a channel (R304 to R306). -/
structure Receive where
  entry : Nat
  wtag : Nat
  slotNo : Nat
  lfmt : Nat
  sr : Bool
  elements : Nat
  scale : Nat
  stream : Nat
  /-- elements decoded so far -/
  got : Nat
  /-- refused or failed: discard to the end -/
  drop : Bool
  /-- flits whose writes have yet to be accepted, oldest first: address, bytes and data of each write -/
  writes : List (List (Nat × Nat × Nat))
  /-- END or ABORT has come, or the link has failed -/
  ended : Bool
  /-- the header update it waits for: 4 with END's payload, 5 for an abort -/
  closing : Option (Nat × Nat)
  /-- a response has been sent -/
  answered : Bool
  deriving DecidableEq, Repr

structure Channel where
  claims : List (Nat × Nat)
  send : Option Send
  awaiting : List Await
  /-- credits spent, of 64 (R288) -/
  spent : Nat
  waited : Bool
  receive : Option Receive
  /-- flits of later sends that wait in the receive buffer: type and payload -/
  queue : List (Nat × Nat)
  /-- credits to return to the peer -/
  owed : Nat
  deriving DecidableEq, Repr

structure Link where
  channels : NatMap Channel
  /-- next FSEQ to send and next FSEQ expected -/
  nextSeq : Nat
  expected : Nat
  /-- the replay buffer, oldest first, and how many of its flits must be sent again -/
  replay : List OutFlit
  resend : Nat
  sameReplays : Nat
  /-- flits that left on the wire, newest first -/
  wire : List OutFlit
  /-- pending control items: acknowledgement, replay request, sparing request, responses -/
  ackDue : Bool
  replayReq : Bool
  spareReq : Option Nat
  responses : List (Nat × Nat × Nat)
  /-- FEC corrections by receive lane since training -/
  corrections : NatMap Nat
  failures : Nat
  lastChannel : Nat
  /-- the first of the eight data lanes in use in each direction at half width (R283) -/
  halfTx : Nat
  halfRx : Nat
  deriving DecidableEq, Repr

/-- An entry of the window table (R292). -/
structure Window where
  entry : Nat
  tag : Nat
  addr : Nat
  param : Nat
  len : Nat
  sw : Nat
  /-- its header writes have been accepted -/
  live : Bool
  closing : Bool
  /-- slots that have accepted a HEAD -/
  begun : List Nat
  deriving DecidableEq, Repr

/-! ### Host interface, MC, SEB, reset -/

structure HostIf where
  reads : List HostRead
  /-- tags retired after a timeout (R322) -/
  retired : List Nat
  /-- packets sent to the host, newest first -/
  sent : List Packet
  /-- units sent, newest first: the module that carried each and its 128 bytes as an image (R313, R316) -/
  stream : List (Nat × Nat)
  /-- units sent since link-up (R313) -/
  unitNo : Nat
  /-- packets that wait to enter the stream, oldest first -/
  queued : List Queued
  /-- credits the host has used and not been returned -/
  hostPosted : Nat
  hostNonposted : Nat
  owedPosted : Nat
  owedNonposted : Nat
  sideband : List SidebandReply
  /-- modules whose sidebands have trained, as a mask, the module whose sideband answers (16 for none), and the
  sidebands that have failed (R391) -/
  sidebandUp : Nat
  sidebandModule : Nat
  sidebandLost : List Nat
  /-- the mainband has ended a training since reset -/
  trained : Bool
  /-- CRC failures by module since its last training (R315) -/
  crc : NatMap Nat
  /-- modules lost since the last training ended, as a mask: MODULE_LOST has been set for them (R314) -/
  lost : Nat
  deriving DecidableEq, Repr

/-- An entry of the fault concentrator's table (R334). -/
structure FcEntry where
  source : Nat
  code : Nat
  detail : Nat
  dups : Nat
  deriving DecidableEq, Repr

/-- What the MC's automatic repair answers (R344). -/
inductive RepairEvent where
  | galleryFault (h g : Nat)
  | rowQueued (h g : Nat)
  | spareExhausted (h g : Nat)
  /-- a gallery without a logical number, which no swap can replace, has faulted or exhausted the spares of a bank -/
  | unswappable (h : Nat)
  | wayErrors (h w : Nat)
  | report
  deriving DecidableEq, Repr

/-- What a repair that drains a gallery still has to do. -/
inductive RepairStep where
  /-- queued rows to retire, then RESUME when the repair itself drained the gallery -/
  | rows (h g : Nat) (resume : Bool)
  | swapOut (h g : Nat)
  deriving DecidableEq, Repr

/-- A firmware image slot: its bytes as an image with their number, and what the SEB found. -/
structure Image where
  bytes : Nat
  len : Nat
  valid : Bool
  deriving DecidableEq, Repr

/-- A LOAD in progress: bytes asked of the host, bytes that have come, and their image. -/
structure FwLoad where
  addr : Nat
  len : Nat
  asked : Nat
  got : Nat
  bytes : Nat
  deriving DecidableEq, Repr

/-- The last frame of a regulator bus (R28, R400): the address it went to, what it set (the VCORE target in mV, none
for a read), and the voltage and current it answered, none where the transaction failed. -/
structure BusFrame where
  address : Nat
  target : Option Nat
  answer : Option (Nat × Nat)
  deriving DecidableEq, Repr

structure Mc where
  /-- ring periods per microsecond in 16.8 fixed point, by timer (R30) -/
  cal : List (Timer × Nat)
  /-- timers being calibrated, in the order the MC takes them -/
  calibrating : List Timer
  /-- the last power measurements, newest first -/
  power : List Nat
  /-- the ticket limit the power loop holds (R36) -/
  capLimit : Nat
  /-- VCORE is below VWARN (R37, R394) -/
  lowVcore : Bool
  /-- the sag debounce timer runs toward entry, or toward exit -/
  sagEntry : Bool
  sagExit : Bool
  /-- the sag warning is in force -/
  sagWarning : Bool
  /-- hall temperatures of the last sample and of the first one since reset, in 0.25 °C (R35) -/
  temps : List Int
  firstTemps : List Int
  /-- hall temperatures at each timer's last calibration; a timer not listed has none of its own (R30) -/
  calTemps : List (Timer × List Int)
  /-- a hall or stack has crossed its warning temperature and not come back (R342) -/
  thermWarning : Bool
  /-- VSET has been written and the target still moves to it (R35) -/
  vsetMove : Bool
  /-- energy not yet counted, in units of 0.1 nJ (R40) -/
  energyRest : Nat
  /-- rails whose regulator is silent, and consecutive failed transactions by rail (R400) -/
  silent : List Nat
  fails : NatMap Nat
  /-- the last frame on the AVSBus and on the PMBus -/
  avs : Option BusFrame
  pm : Option BusFrame
  /-- repair events in the order they reached the MC (R344) -/
  repairs : List RepairEvent
  repairing : Option RepairStep
  /-- the repair record: entries of four words as images (R389) -/
  record : List Nat
  imageA : Image
  imageB : Image
  activeB : Bool
  /-- the LOAD in progress (R343) -/
  load : Option FwLoad
  /-- a SWITCH or REVERT waits for the job boundary or runs (R343): 1 waits, 2 runs -/
  switching : Nat
  /-- the running switch is a REVERT -/
  reverting : Bool
  /-- the inactive image is the previous one and valid: REVERT is legal -/
  previous : Bool
  /-- FW_CMD commands that wait for the SEB (R360): LOAD 1, SWITCH 2 -/
  held : List Nat
  deriving DecidableEq, Repr

/-- A running SEB command (R357 to R365). -/
structure SebRun where
  cmd : Nat
  target : Nat
  /-- RESULT when it ends -/
  result : Nat
  deriving DecidableEq, Repr

structure Seb where
  /-- the lifecycle state, from fuses and the service flag -/
  state : Nat
  debugMask : Nat
  svnFused : Nat
  keyValid : Nat
  keyRevoked : Nat
  /-- fused digests of the root keys, by slot -/
  keyDigest : NatMap Nat
  /-- REPORTS -/
  reports : Nat
  /-- the identity public key: modulus and exponent, and the private key; none before
  PROVISIONED and after RETIRED -/
  idKey : Option (Nat × Nat × Nat)
  /-- the identity certificate: its length and bytes -/
  cert : Option (Nat × Nat)
  /-- a challenge is in force (R358) -/
  challengeIn : Bool
  run : Option SebRun
  /-- BOOT_IMAGE names image B -/
  bootB : Bool
  /-- the repair record has been erased since provisioning (R364) -/
  recordErased : Bool
  /-- digest of the running image (R354) -/
  fwDigest : Nat
  /-- boot used the other image (R355) -/
  fallback : Bool
  /-- gallery memory rows spared at test, in fuses, each as word 1 of a repair record entry of KIND 3 (R250, R370) -/
  fusedRows : List Nat
  deriving DecidableEq, Repr

structure Reset where
  /-- causes whose release condition is pending: the device is held in reset while there is one -/
  holding : List Nat
  straps : Straps
  /-- halls whose THERMAL release condition is pending -/
  thermHalls : List Nat
  deriving DecidableEq, Repr

/-- The device is held in reset (R368). -/
def Reset.held (r : Reset) : Bool := !r.holding.isEmpty

structure Jtag where
  instr : JtagInstr
  /-- the selected data register, captured when the instruction was selected (R395, R401) -/
  dr : Nat
  /-- the MC debug port's crossing: the word taken in, the word given out, and whether the port's wait response
  stands (R28) -/
  mcWord : Option Nat
  mcOut : Option Nat
  mcWait : Bool
  deriving DecidableEq, Repr

structure State where
  /-- the commands that wait, first in, first out -/
  pending : List Instr
  /-- register fields, by 32 × offset + bit; an unlisted field reads as its reset value -/
  regs : NatMap Nat
  /-- read latches and write staging of 64-bit pairs, by path (R12) -/
  latches : NatMap Nat
  staging : NatMap Nat
  /-- the word the last register read of each path returned -/
  readWord : NatMap Nat
  /-- FIFO_HOLD of each page at a clocked boundary, by the page's offset: episodes held back for FIFO space (R27) -/
  fifoHolds : NatMap Nat
  /-- device memory by stack, physical die and byte; an unlisted byte reads as 0 -/
  dram : List Host.Cell
  codes : NatMap SectorCode
  stairs : NatMap Stairwell
  disp : Dispatcher
  galleries : NatMap Gallery
  dressers : NatMap Ticket
  caches : NatMap HallCache
  drams : NatMap Stack
  links : NatMap Link
  windows : List Window
  hif : HostIf
  fc : List FcEntry
  mc : Mc
  seb : Seb
  rst : Reset
  jtag : Jtag
  /-- how many free values have been used: the model's own field -/
  drawn : Nat
  deriving DecidableEq, Repr

/-! ### Reset values of the records (R375) -/

def Stairwell.reset : Stairwell :=
  { state := .idle, ahead := [], cur := none, wait := none, slots := [], errSeen := false, seq := 0,
    scrubbing := [] }

def Gallery.reset : Gallery :=
  { faulted := false, busy := false, tickets := [], groups := [], segments := [], allocHead := 0, tail := 0,
    ring := [], shadow := none, resident := none, staged := none, flight := none, conversion := none,
    quOut := none, streamRows := [], asHead := 0, streamHead := 0, gens := [], ve := none, ready := [],
    table := none, mem := [], broken := [], rowCe := [], rowQueue := [], rowSpared := [], op := none,
    scrub := none, regFill := 0, sums := [], sampling := none }

def HallCache.reset : HallCache := { lines := [], walks := [], misses := [], wayUe := [] }

def Stack.reset : Stack :=
  { refreshes := 0, inWindow := false, patrol := 0, tracker := [], rowQueue := [], rowCopied := none,
    bankSpares := [], rowSpared := [], laneCharge := [], laneQueue := [], dataSpares := [],
    caSpares := [], lanesMoved := [], migration := none }

def Channel.reset : Channel :=
  { claims := [], send := none, awaiting := [], spent := 0, waited := false, receive := none,
    queue := [], owed := 0 }

def Link.reset : Link :=
  { channels := [], nextSeq := 0, expected := 0, replay := [], resend := 0, sameReplays := 0, wire := [],
    ackDue := false, replayReq := false, spareReq := none, responses := [], corrections := [],
    failures := 0, lastChannel := 15, halfTx := 0, halfRx := 0 }

/-- DESIGN CHOICE: after reset the rotations of stairwells, galleries and dressers start at number 0 (R191, R201, assumption
127). -/
def Dispatcher.reset : Dispatcher :=
  { jobs := [], requests := [], lastSw := 15, lastGallery := 255, lastDresser := 15, serial := 1 }

def HostIf.reset : HostIf :=
  { reads := [], retired := [], sent := [], stream := [], unitNo := 0, queued := [], hostPosted := 0, hostNonposted := 0,
    owedPosted := 0, owedNonposted := 0, sideband := [], sidebandUp := 0,
    sidebandModule := 16, sidebandLost := [], trained := false, crc := [], lost := 0 }

def Image.none : Image := { bytes := 0, len := 0, valid := false }

/-- The MC of a part that holds no firmware and no repair record. -/
def Mc.reset : Mc :=
  { cal := [], calibrating := [], power := [], capLimit := 2048, lowVcore := false, sagEntry := false,
    sagExit := false, sagWarning := false, temps := [], firstTemps := [], calTemps := [],
    thermWarning := false, vsetMove := false, energyRest := 0, silent := [], fails := [], avs := none, pm := none,
    repairs := [], repairing := none, record := [], imageA := .none, imageB := .none, activeB := false, load := none, switching := 0, reverting := false,
    previous := false, held := [] }

/-- The SEB of a part as it leaves Bruquel, PROVISIONED, with its identity key and certificate (R353). -/
def Seb.reset : Seb :=
  { state := 1, debugMask := 0, svnFused := 0, keyValid := 0, keyRevoked := 0, keyDigest := [],
    reports := 0, idKey := some (identityKey 0),
    cert := some (Config.certificate.1 % 4096 + 1, Config.certificate.2), challengeIn := false, run := none, bootB := false,
    recordErased := false, fwDigest := 0, fallback := false, fusedRows := [] }

def Reset.reset : Reset := { holding := [], straps := { pmaddr := 0, refterm := false, testEn := false }, thermHalls := [] }

def Jtag.reset : Jtag := { instr := .idcode, dr := 0x10A11B87, mcWord := none, mcOut := none, mcWait := false }

/-- The machine right after its release from a POWER_ON reset: phase FUSES, every register field at
its reset value, nothing listed in device memory (R368, R370, R375, R376). -/
def State.reset : State :=
  { pending := [],
    -- RESET_CAUSE.CAUSE 1, CAUSE_MASK bit 1, RESET_COUNT 1: the fields at 0x8044 and 0x8048
    regs := [(0x8044 * 32, 1), (0x8044 * 32 + 8, 2), (0x8048 * 32, 1)],
    latches := [], staging := [], readWord := [], fifoHolds := [], dram := [], codes := [], stairs := [],
    disp := .reset, galleries := [], dressers := [], caches := [], drams := [], links := [],
    windows := [], hif := .reset, fc := [], mc := .reset, seb := .reset, rst := .reset,
    jtag := .reset, drawn := 0 }

end Sys2Proof.Machine
end

