-- ==== Sys2Proof/Machine/Ops.lean ====
section
/-! DEFINITION. The operations that every family shares: reading and writing a register field, the
saturating counters (R9), STICKY bits and their signals (R384, R324, R325), packets to the host
(R316, R326, R328), and reports to the fault concentrator (R333 to R335). -/

namespace Sys2Proof

/-- STATUS and CONTROL of a gallery's four pages are one register each, kept in the array page
(R383). -/
def Page.home : Page → Page
  | .ve h g | .qu h g | .mems h g => .array h g
  | p => p

end Sys2Proof

namespace Sys2Proof.Machine

/-! ### Maps -/

/-- The value at a key. -/
def NatMap.get? {α : Type} (m : NatMap α) (k : Nat) : Option α := List.lookup k m

/-- The value at a key, in rising key order, in place of any other. -/
def NatMap.set {α : Type} (m : NatMap α) (k : Nat) (v : α) : NatMap α :=
  match m with
  | [] => [(k, v)]
  | (j, w) :: t => if k < j then (k, v) :: (j, w) :: t else if k = j then (k, v) :: t else (j, w) :: NatMap.set t k v

/-- The map without a key. -/
def NatMap.del {α : Type} (m : NatMap α) (k : Nat) : NatMap α := m.filter fun e => e.1 != k

/-! ### Register fields -/

/-- The name of a field in `State.regs`. -/
def key (p : Page) (f : Fld) : Nat := (p.base + f.off) * 32 + f.lsb

/-- The value of a register field. -/
def rd (s : State) (p : Page) (f : Fld) : Nat := (NatMap.get? s.regs (key p f)).getD f.rst

/-- Whether a field is not 0. -/
def on (s : State) (p : Page) (f : Fld) : Bool := rd s p f != 0

/-- The field set to `v`, cut to its width. -/
def wr (s : State) (p : Page) (f : Fld) (v : Nat) : State :=
  { s with regs :=
      if v % 2 ^ f.width = f.rst then NatMap.del s.regs (key p f)
      else NatMap.set s.regs (key p f) (v % 2 ^ f.width) }

/-- A counter advanced by `n`; it saturates at its all-ones value (R9). -/
def count (s : State) (p : Page) (f : Fld) (n : Nat) : State :=
  wr s p f (min (rd s p f + n) (2 ^ f.width - 1))

/-- A counter advanced by one (R9). -/
def bump (s : State) (p : Page) (f : Fld) : State := count s p f 1

/-- STATUS.STATE_ERR set: a command or write was illegal in the present state (R382). -/
def stateErr (s : State) (p : Page) : State := wr s p.home Reg.hdr.STATE_ERR 1

/-- A free value, and the machine after taking it. -/
def draw (s : State) : Nat × State := (Config.free s.drawn, { s with drawn := s.drawn + 1 })

/-- An episode that depends on time alone may have come before this step: whether its counter rises is free (R34). -/
def mayCount (s : State) (p : Page) (f : Fld) : State := let r := draw s; count r.2 p f (r.1 % 2)

/-! ### Clocked boundaries (R27) -/

/-- Where FIFO_HOLD lies in the page of a clocked boundary (R281, R310, R332). -/
def holdOff : Page → Option Nat
  | .stack _ => some 0x040
  | .link _ => some 0x05C
  | .hif => some 0x09C
  | _ => none

/-- FIFO_HOLD of a page. -/
def fifoHold (s : State) (p : Page) : Nat := (NatMap.get? s.fifoHolds p.base).getD 0

/-- FIFO_HOLD of a page advanced by `n`; it saturates (R27). -/
def countHold (s : State) (p : Page) (n : Nat) : State :=
  { s with fifoHolds := NatMap.set s.fifoHolds p.base (min (fifoHold s p + n) (2 ^ 32 - 1)) }

/-- `n` crossings of a page's boundary: each may have been held back for FIFO space before, so that FIFO_HOLD rises by a
free number of episodes, at most `n` (R27, R34). -/
def crossFifo (s : State) (p : Page) (n : Nat) : State := let r := draw s; countHold r.2 p (r.1 % (n + 1))

/-- FIFO_HOLD of a page set to 0. -/
def clearHold (s : State) (p : Page) : State := { s with fifoHolds := NatMap.del s.fifoHolds p.base }

/-! ### 64-bit pairs (R12) -/

def pathNum : Path → Nat
  | .mainband => 0
  | .sideband => 1

/-- The name of a path's latch or staging register for the pair that begins at field `f`. -/
def pairKey (path : Path) (p : Page) (f : Fld) : Nat := pathNum path * 2 ^ 40 + key p f

/-- A low half staged by a path (R12). -/
def stageLow (s : State) (path : Path) (p : Page) (f : Fld) (v : Nat) : State :=
  { s with staging := NatMap.set s.staging (pairKey path p f) v }

/-- The quantity a write of the high half commits: with the path's staged low half, or the low half as it
stands; the staging is released (R12). -/
def commitPair (s : State) (path : Path) (p : Page) (f : Fld) (hi : Nat) : Nat × State :=
  let k := pairKey path p f
  let lo := (NatMap.get? s.staging k).getD (rd s p f % 2 ^ 32)
  (hi * 2 ^ 32 + lo, { s with staging := NatMap.del s.staging k })

/-! ### Records -/

def stair (s : State) (i : Nat) : Stairwell := (NatMap.get? s.stairs i).getD .reset
def setStair (s : State) (i : Nat) (w : Stairwell) : State := { s with stairs := NatMap.set s.stairs i w }

/-- Gallery G*g* of hall *h*. -/
def gal (s : State) (h g : Nat) : Gallery := (NatMap.get? s.galleries (17 * h + g)).getD .reset
def setGal (s : State) (h g : Nat) (x : Gallery) : State :=
  { s with galleries := NatMap.set s.galleries (17 * h + g) x }

def cache (s : State) (h : Nat) : HallCache := (NatMap.get? s.caches h).getD .reset
def setCache (s : State) (h : Nat) (x : HallCache) : State := { s with caches := NatMap.set s.caches h x }

def dram (s : State) (h : Nat) : Stack := (NatMap.get? s.drams h).getD .reset
def setDram (s : State) (h : Nat) (x : Stack) : State := { s with drams := NatMap.set s.drams h x }

/-- Links 0 to 7 are Fenzin links; 8 is the loop. -/
def link (s : State) (l : Nat) : Link := (NatMap.get? s.links l).getD .reset
def setLink (s : State) (l : Nat) (x : Link) : State := { s with links := NatMap.set s.links l x }

def swPage (i : Nat) : Page := .stairwell (Fin.ofNat 16 i)
def arrPage (h g : Nat) : Page := .array (Fin.ofNat 16 h) (Fin.ofNat 17 g)
def vePage (h g : Nat) : Page := .ve (Fin.ofNat 16 h) (Fin.ofNat 17 g)
def quPage (h g : Nat) : Page := .qu (Fin.ofNat 16 h) (Fin.ofNat 17 g)
def memPage (h g : Nat) : Page := .mems (Fin.ofNat 16 h) (Fin.ofNat 17 g)
def hallPage (h : Nat) : Page := .hall (Fin.ofNat 16 h)
def hcPage (h : Nat) : Page := .hallCache (Fin.ofNat 16 h)
def scPage (h : Nat) : Page := .stack (Fin.ofNat 16 h)
def drsPage (h : Nat) : Page := .dresser (Fin.ofNat 16 h)
def linkPage (l : Nat) : Page := .link (Fin.ofNat 8 l)

/-! ### Reset phase -/

/-- The device is out of reset and in phase `n` or a later one (R370). -/
def phaseAtLeast (s : State) (n : Nat) : Bool := !s.rst.held && decide (n ≤ rd s .reset Reg.rst.PHASE)

/-- The device is in phase READY (R370). -/
def ready (s : State) : Bool := phaseAtLeast s 6

/-! ### Packets to the host (R316, R326, R328) -/

/-- Units of the stream a packet occupies (R316). -/
def Packet.units : Packet → Nat
  | .cpl _ _ len (some _) => ceilDiv (32 + len) 128
  | .hostWr _ len _ => ceilDiv (32 + len) 128
  | _ => 1

def Packet.posted : Packet → Bool
  | .hostWr _ _ _ | .msg _ _ => true
  | _ => false

def Packet.nonposted : Packet → Bool
  | .hostRd _ _ _ => true
  | _ => false

/-- An OHT header (*OHT header*). -/
def ohtHeader (type status : Nat) (hasData : Bool) (len tag addr data0 data1 : Nat) : Nat :=
  type + status % 2 ^ 4 * 2 ^ 8 + hasData.toNat * 2 ^ 12 + (len - 1) % 2 ^ 12 * 2 ^ 16 + tag % 2 ^ 10 * 2 ^ 32
    + addr % 2 ^ 64 * 2 ^ 64 + data0 % 2 ^ 32 * 2 ^ 128 + data1 % 2 ^ 32 * 2 ^ 160

/-- A packet as it stands in the stream: its header, and its payload after it (R316). -/
def Packet.image : Packet → Nat
  | .cpl tag status len data => ohtHeader 0x08 status data.isSome len tag 0 0 0 + data.getD 0 % 2 ^ (8 * len) * 2 ^ 256
  | .hostRd tag addr len => ohtHeader 0x11 0 false len tag addr 0 0
  | .hostWr addr len data => ohtHeader 0x12 0 true len 0 addr 0 0 + data % 2 ^ (8 * len) * 2 ^ 256
  | .msg addr data => ohtHeader 0x13 0 false 1 0 addr data 0
  | .credit posted nonposted => ohtHeader 0x20 0 false 1 0 0 posted nonposted

/-- The active modules in ascending number (R313). -/
def activeModules (s : State) : List Nat := (List.range 16).filter (bit (rd s .hif Reg.hif.ACTIVE_MASK))

/-- The next unit of the stream travels on the module whose turn it is (R313). -/
def sendUnit (s : State) (unit : Nat) : State :=
  let a := activeModules s
  { s with hif := { s.hif with
    stream := (a.getD (s.hif.unitNo % a.length) 0, unit) :: s.hif.stream, unitNo := s.hif.unitNo + 1 } }

/-- The units of a packet in order; the bytes after its payload are 0 (R316). -/
def unitsOf (p : Packet) : List Nat := (List.range p.units).map fun i => bits p.image (1024 * i) 1024

/-- The packet crosses into the stream (R27): its credit is spent and its units are counted. -/
def emit (s : State) (p : Packet) : State :=
  let s := crossFifo s .hif p.units
  let s := if p.posted then wr s .hif Reg.hif.POSTED (rd s .hif Reg.hif.POSTED - p.units) else s
  let s := if p.nonposted then wr s .hif Reg.hif.NONPOSTED (rd s .hif Reg.hif.NONPOSTED - 1) else s
  let s := if p.nonposted then bump s .hif Reg.hif.HOST_READS_ISSUED else s
  let s := count s .hif Reg.hif.UNITS_TX p.units
  let s := (unitsOf p).foldl sendUnit s
  { s with hif := { s.hif with sent := p :: s.hif.sent } }

/-- A packet of a class that needs credits finds too few (R326). -/
def lacksCredit (s : State) (p : Packet) : Bool :=
  (p.posted && decide (rd s .hif Reg.hif.POSTED < p.units)) || (p.nonposted && rd s .hif Reg.hif.NONPOSTED == 0)

/-- The device holds the credit a packet needs; before the host's first CREDIT only CREDIT and NOP
leave (R326). -/
def hasCredit (s : State) : Packet → Bool
  | .credit _ _ => true
  | p => on s .hif Reg.hif.HOST_CREDIT_SEEN && !lacksCredit s p

/-- A packet at its turn lacks a credit: CREDIT_WAIT counts the episode once (R326). -/
def noteWait (s : State) (q : Queued) : State × Queued :=
  if lacksCredit s q.packet && !q.waited then (bump s .hif Reg.hif.CREDIT_WAIT, { q with waited := true }) else (s, q)

/-- Send what can leave of the waiting packets, oldest first. No packet passes a posted one that
waits; posted packets and completions may pass a waiting read (*OHT ordering*). -/
def pump (s : State) (posted nonposted : Bool) : List Queued → State × List Queued
  | [] => (s, [])
  | q :: qs =>
    if posted || (q.packet.nonposted && nonposted) then
      let r := pump s (posted || q.packet.posted) (nonposted || q.packet.nonposted) qs
      (r.1, q :: r.2)
    else if hasCredit s q.packet then pump (emit s q.packet) posted nonposted qs
    else
      let w := noteWait s q
      let r := pump w.1 (posted || q.packet.posted) (nonposted || q.packet.nonposted) qs
      (r.1, w.2 :: r.2)

/-- Send the waiting packets that hold their credits; traffic waits while the link retrains (R314). -/
def flushQueue (s : State) : State :=
  if on s .hif Reg.hif.RETRAINING then s
  else
    let r := pump { s with hif := { s.hif with queued := [] } } false false s.hif.queued
    { r.1 with hif := { r.1.hif with queued := r.2 } }

/-- Hand a packet of an owner to the stream: it waits behind a posted packet that waits, or for its credit (R326). -/
def transmitFor (s : State) (owner : Option Owner) (p : Packet) : State :=
  flushQueue { s with hif := { s.hif with queued := s.hif.queued ++ [{ packet := p, owner := owner, waited := false }] } }

/-- Hand a packet to the stream. -/
def transmit (s : State) (p : Packet) : State := transmitFor s none p

/-- The mainband is up (R313). -/
def linkUp (s : State) : Bool := on s .hif Reg.hif.HIF_STATE_UP

/-! ### STICKY bits, vectors and messages -/

/-- The vector that a page signals (R233, R325). -/
def vectorOf (s : State) : Page → Nat
  | .stairwell i => rd s (.stairwell i) Reg.sw.PAGE_VEC
  | .mcPower => rd s .hif Reg.hif.MC_VEC
  | .dispatcher => rd s .hif Reg.hif.DISPATCH_VEC
  | .memMap => rd s .hif Reg.hif.MAP_VEC
  | .window => rd s .hif Reg.hif.WINDOW_VEC
  | .link _ => rd s .hif Reg.hif.LINK_VEC
  | .hif => rd s .hif Reg.hif.HIF_VEC
  | .hall _ | .hallCache _ | .stack _ | .dresser _ | .array _ _ | .ve _ _ | .qu _ _ | .mems _ _ =>
      rd s .hif Reg.hif.HALL_VEC
  | .mcService | .seb | .fc | .reset => rd s .hif Reg.hif.SERVICE_VEC

/-- Send the message of vector `v`, unmasked (R324): dropped when its address is misaligned, discarded
when the link is down (R328). `raise` sets a STICKY bit of the host interface page. -/
def sendMsg (raise : State → Nat → State) (s : State) (v : Nat) : State :=
  let a := rd s .hif (Reg.hif.VEC_ADDR v)
  if a % 4 ≠ 0 then raise (bump s .hif Reg.hif.MSG_DROPPED) Sticky.hif.MSG_DROPPED
  else if linkUp s then transmit s (.msg a (rd s .hif (Reg.hif.VEC_DATA v)))
  else raise (bump s .hif Reg.hif.TX_DISCARDS) Sticky.hif.LINK_DOWN

/-- Signal a vector, of which there are 64: PENDING while it is masked, a message otherwise (R324). -/
def signalWith (raise : State → Nat → State) (s : State) (v : Nat) : State :=
  if on s .hif (Reg.hif.VEC_CTRL_MASK (v % 64)) then wr s .hif (Reg.hif.VEC_CTRL_PENDING (v % 64)) 1
  else sendMsg raise s (v % 64)

/-- Set STICKY bit `b` of a page; it signals when it goes from 0 to 1 while ENABLE is 1 and its mask
bit is 0 (R384). A message that cannot be sent sets one of two bits of the host interface page, so
three levels are enough; `n` counts them. -/
def raise (n : Nat) (s : State) (p : Page) (b : Nat) : State :=
  match n with
  | 0 => s
  | n + 1 =>
    if bit (rd s p Reg.hdr.STICKY) b then s
    else
      let t := wr s p Reg.hdr.STICKY (rd s p Reg.hdr.STICKY ||| 2 ^ b)
      if on t p.home Reg.hdr.CONTROL_ENABLE && !bit (rd t p (Reg.hdr.STICKY_MASK p)) b then
        signalWith (fun u c => raise n u .hif c) t (vectorOf t p)
      else t

/-- Set a STICKY bit (R384). -/
def setSticky (s : State) (p : Page) (b : Nat) : State := raise 4 s p b

/-- Signal a vector (R324). -/
def signal (s : State) (v : Nat) : State := signalWith (fun u c => raise 3 u .hif c) s v

/-- Send a posted packet of an owner, or discard it while the link is down (R328). -/
def post (s : State) (owner : Option Owner) (p : Packet) : State :=
  if linkUp s then transmitFor s owner p
  else setSticky (bump s .hif Reg.hif.TX_DISCARDS) .hif Sticky.hif.LINK_DOWN

/-- Answer a host request on the mainband; nothing is sent while the link is down (R318, R328). -/
def complete (s : State) (tag status len : Nat) (data : Option Nat) : State :=
  let s := if status = 1 then bump s .hif Reg.hif.UR_SENT else s
  if linkUp s then transmit s (.cpl tag status len data) else s

/-! ### Permission to write (R355, R363, R371) -/

/-- The device waits in BOOT for an image (R355). -/
def inRecovery (s : State) : Bool := !s.rst.held && on s .reset Reg.rst.RECOVERY

/-- The lifecycle state lets a path write a page (*Access by lifecycle state*). -/
def statePermits (s : State) (path : Path) (p : Page) : Bool :=
  match s.seb.state, path with
  | 4, _ => p == .hif || p == .seb
  | 2, .sideband => p == .hif || p == .seb || p == .mcService
  | 3, .sideband => bit s.seb.debugMask 2 || p == .hif || p == .seb || p == .mcService
  | _, _ => true

/-- The reset phase lets a word be written. -/
def phasePermits (s : State) (p : Page) (off : Nat) : Bool :=
  ready s || p == .hif || p == .reset || (inRecovery s && (p == .seb
    || (p == .mcService && ([0x054, 0x058, 0x05C, 0x060] : List Nat).contains off)))

/-- A word of a page may be written by a path. -/
def permits (s : State) (path : Path) (p : Page) (off : Nat) : Bool :=
  statePermits s path p && phasePermits s p off

/-- A write that the lifecycle state does not permit (R363). -/
def denyWrite (s : State) : State := setSticky (bump s .seb Reg.seb.DENIED_WRITES) .seb Sticky.seb.ACCESS_DENIED

/-- What is left of a write that is not permitted: nothing but its count, and the STATE_ERR of a START in RETIRED
and in recovery (R355, R363). -/
def refuseWrite (s : State) (path : Path) (p : Page) (off word : Nat) : State :=
  let s := if statePermits s path p then s else denyWrite s
  match p with
  | .stairwell _ => if off = 0x050 ∧ bits word 0 2 = 1 ∧ (inRecovery s ∨ s.seb.state = 4) then stateErr s p else s
  | _ => s

/-- A host write by a path: its effect when it is permitted, and nothing while the device is held in reset. -/
def ifPermitted (s : State) (path : Path) (p : Page) (off word : Nat) (body : State) : State :=
  if s.rst.held then s else if permits s path p off then body else refuseWrite s path p off word

/-! ### The fault concentrator -/

/-- The same report counted again in its entry (R334). -/
def fcDup (src : Nat) (e : FcEntry) : FcEntry :=
  if e.source = src then { e with dups := min (e.dups + 1) 65535 } else e

/-- A report enters the table (R334, R335). -/
def fcEnter (s : State) (src code detail : Nat) : State :=
  if s.fc.any (·.source == src) then { s with fc := s.fc.map (fcDup src) }
  else if 512 ≤ s.fc.length then
    setSticky (bump s .fc Reg.fc.OVERFLOW_REPORTS) .fc Sticky.fc.TABLE_FULL
  else
    let t := { s with fc := s.fc ++ [{ source := src, code := code, detail := detail, dups := 0 }] }
    if s.fc.isEmpty then setSticky t .fc Sticky.fc.FIRST_ERROR else t

/-- A page reports to the FC (R333); the FC and reset pages do not report. -/
def report (s : State) (p : Page) (code detail : Nat) : State :=
  match p.source with
  | some src => fcEnter s src (code % 256) (detail % 2 ^ 32)
  | none => s

/-- A page latches a fault in FAULT_CODE, counts it and reports it (R382, R386, R333). -/
def latchFault (s : State) (p : Page) (code detail : Nat) : State :=
  report (bump (wr s p Reg.hdr.FAULT_CODE code) p Reg.hdr.FAULT_COUNT) p code detail

end Sys2Proof.Machine
end

