-- ==== Sys2Proof/Machine/Memory.lean ====
section
/-! DEFINITION. Device memory and the hall caches: where an address lies (R264, R274, R275), the
sector code (R268 to R270), accesses at the stack controllers with the faults they latch (R258,
R267), and the hall cache in front of them (R253, R255, R256). -/

namespace Sys2Proof.Machine

/-- What an access answers: the image it read (0 for a write), or the fault's KIND and address. -/
inductive Got where
  | ok (img : Nat)
  | fault (kind addr : Nat)
  deriving DecidableEq, Repr

def Got.isOk : Got → Bool
  | .ok _ => true
  | .fault _ _ => false

def Got.img : Got → Nat
  | .ok v => v
  | .fault _ _ => 0

/-- FAULT_INFO.REQUESTER of a stack controller (R258, R281). -/
def requesterCode : Requester → Nat
  | .hallCache h => h.val
  | .stairwell => 16
  | .host => 17
  | .maintenance => 18
  | .linkSender => 19
  | .linkReceiver => 20
  | .seb => 21
  | .stats => 22
  | .mc => 23

/-- FAULT_INFO.REQUESTER of a hall cache (R258, R263). -/
def userCode : HallUser → Nat
  | .gallery g | .ahead g | .drain g _ => g.val
  | .dresser => 17
  | .boulder _ _ => 18
  | .self => 19

/-! ### Bytes -/

/-- The byte at a place; one that is not listed reads as 0, as the wipe left it (R278). -/
def byteAt (m : List Host.Cell) (k : Nat) : Byte := (NatMap.get? m k).getD 0

/-- The list with a byte written; a byte of 0 is not listed. -/
def putByte (m : List Host.Cell) (k : Nat) (b : Byte) : List Host.Cell :=
  if b = 0 then NatMap.del m k else NatMap.set m k b

/-- The image of `n` bytes from `k`. -/
def getBytes (m : List Host.Cell) (k : Nat) : Nat → Nat
  | 0 => 0
  | n + 1 => (byteAt m k).toNat + 256 * getBytes m (k + 1) n

/-- `n` bytes of the image `v` written from `k`. -/
def putBytes (m : List Host.Cell) (k n v : Nat) : List Host.Cell :=
  match n with
  | 0 => m
  | n + 1 => putBytes (putByte m k (BitVec.ofNat 8 v)) (k + 1) n (v / 256)

/-- The canonical form: addresses strictly rising, and no listed byte is 0. -/
def Memory.wf (m : List Host.Cell) : Bool :=
  m.all (fun c => c.2 != 0) && decide ((m.map Prod.fst).Pairwise (· < ·))

/-! ### Where an address lies -/

/-- log2 of the interleave of the segment of an address (R264). -/
def waysLog2 (s : State) (a : Nat) : Nat := bits (rd s .memMap Reg.mm.MAP) (4 * (a / 2 ^ 36 % 16)) 4

/-- The stack of an address and its stack-local address (R264). -/
def place (s : State) (a : Nat) : Nat × Nat :=
  let w := 2 ^ waysLog2 s a
  let seg := a / 2 ^ 36 % 16
  let g0 := seg - seg % w
  let o := a - g0 * 2 ^ 36
  let b := o / 4096
  (g0 + b % w, (b / w) * 4096 + o % 4096)

/-- The device address of a stack-local address: the inverse of `place`. -/
def unplace (s : State) (st l : Nat) : Nat :=
  let w := 2 ^ bits (rd s .memMap Reg.mm.MAP) (4 * st) 4
  let g0 := st - st % w
  g0 * 2 ^ 36 + ((l / 4096) * w + (st - g0)) * 4096 + l % 4096

/-- Logical die `l` of a stack is present (R274). -/
def diePresent (s : State) (st l : Nat) : Bool := l < 16 - rd s (scPage st) Reg.sc.RETIRED

/-- An address lies in an installed, unretired die (R258, R274); one of more than 40 bits does not. -/
def present (s : State) (a : Nat) : Bool :=
  decide (a < 2 ^ 40) && diePresent s (place s a).1 ((place s a).2 / 2 ^ 32)

/-- Physical die of a logical die in the map (R274). -/
def physDie (s : State) (st l : Nat) : Nat := bits (rd s (scPage st) Reg.sc.DIE_MAP) (4 * l) 4

/-- Where a stack-local byte is kept: its stack, its physical die and its byte in the die. Sectors of
a die that migrates are served from the new die below MIG_PTR (R275). -/
def cellOf (s : State) (st l : Nat) : Nat :=
  let die := match (dram s st).migration with
    | some m => if m.logical = l / 2 ^ 32 ∧ l % 2 ^ 32 / 32 < rd s (scPage st) Reg.sc.MIG_PTR
        then m.top else l / 2 ^ 32
    | none => l / 2 ^ 32
  st * 2 ^ 36 + physDie s st die * 2 ^ 32 + l % 2 ^ 32

/-! ### The sector code (R268) -/

/-- Multiplication by α in GF(2^8). -/
def gfDouble (x : Nat) : Nat := if 2 * x < 256 then 2 * x else (2 * x) ^^^ 0x11D

/-- Multiplication by a power of α. -/
def gfShift : Nat → Nat → Nat
  | 0, x => x
  | n + 1, x => gfShift n (gfDouble x)

/-- A changed symbol added to the changed symbols of a sector. -/
def addError (es : List (Nat × Nat)) (i x : Nat) : List (Nat × Nat) :=
  let y := ((NatMap.get? es i).getD 0) ^^^ x
  if y = 0 then NatMap.del es i else NatMap.set es i y

/-- Syndrome `j`: symbol `i` stands at degree 35 − i. -/
def syndrome (j : Nat) (es : List (Nat × Nat)) : Nat :=
  es.foldl (fun a e => a ^^^ gfShift (j * (35 - e.1)) e.2) 0

/-- What the decoder makes of a sector: the symbols still wrong after it, with the correction it made;
or uncorrectable. -/
inductive Check where
  | pass (residual : List (Nat × Nat))
  | fixed (residual : List (Nat × Nat)) (symbol flips : Nat)
  | bad
  deriving DecidableEq, Repr

/-- The decoder corrects any one symbol and detects any two (R268). -/
def checkSector (es : List (Nat × Nat)) : Check :=
  let s0 := syndrome 0 es
  let s1 := syndrome 1 es
  let s2 := syndrome 2 es
  if s0 = 0 ∧ s1 = 0 ∧ s2 = 0 then .pass es
  else match (List.range 36).find? fun d => s0 != 0 && gfShift d s0 == s1 && gfShift d s1 == s2 with
    | some d => .fixed (addError es (35 - d) s0) (35 - d) s0
    | none => .bad

/-- Data with the symbols of a list changed. -/
def applyErrors (img : Nat) (es : List (Nat × Nat)) : Nat :=
  es.foldl (fun v e => if e.1 < 32 then v ^^^ (e.2 <<< (8 * e.1)) else v) img

/-- The POISON bit with the tag symbol changed. -/
def applyTag (poison : Bool) (es : List (Nat × Nat)) : Bool :=
  poison != bit ((NatMap.get? es 32).getD 0) 0

/-- The stored code of a sector. -/
def codeOf (s : State) (c : Nat) : SectorCode := (NatMap.get? s.codes (c / 32)).getD { poison := false, errors := [] }

def setCode (s : State) (c : Nat) (x : SectorCode) : State :=
  { s with codes := if x = { poison := false, errors := [] } then NatMap.del s.codes (c / 32)
      else NatMap.set s.codes (c / 32) x }

/-- A whole sector written with fresh check symbols (R270). -/
def storeSector (s : State) (c img : Nat) (poison : Bool) : State :=
  setCode { s with dram := putBytes s.dram c 32 img } c { poison := poison, errors := [] }

/-- Symbols of a sector changed by upsets. -/
def upsetSector (s : State) (c : Nat) (u : Upset) : State :=
  if u.isEmpty then s
  else setCode s c { codeOf s c with
    errors := u.foldl (fun es e => addError es e.1.val e.2.toNat) (codeOf s c).errors }

/-! ### Maintenance records of a stack (R272, R273) -/

/-- The channel of a stack-local address (R264). -/
def channelOf (l : Nat) : Nat := l / 256 % 64

/-- The row that holds a place: physical die, channel, bank and row of the bank as one number. -/
def rowKey (c : Nat) : Nat :=
  ((c / 2 ^ 32 % 16 * 64 + channelOf c) * 256 + Config.dramBank (c % 2 ^ 36) % 256) * 2 ^ 32
    + Config.dramRow (c % 2 ^ 36) % 2 ^ 32

/-- A row joins the queue for sparing, once (R272). -/
def queueRow (s : State) (st row : Nat) : State :=
  let d := dram s st
  if on s (scPage st) Reg.sc.ROW_SPARE_EN && !d.rowQueue.contains row then
    setDram s st { d with rowQueue := d.rowQueue ++ [row] }
  else s

/-- The entry of fewest corrections, the older of two equal ones; the list is newest first. -/
def leastRow : List (Nat × Nat) → Option (Nat × Nat)
  | [] => none
  | e :: t => match leastRow t with
    | none => some e
    | some f => if f.2 ≤ e.2 then some f else some e

/-- One more correction in a row (R272). -/
def trackRow (t : List (Nat × Nat)) (row : Nat) : List (Nat × Nat) :=
  if t.any (·.1 == row) then t.map fun e => if e.1 = row then (e.1, e.2 + 1) else e
  else
    let t := if 256 ≤ t.length then (match leastRow t with
        | some f => t.filter (· != f)
        | none => t) else t
    (row, 1) :: t

/-- A field that reads as 1 when it holds 0. -/
def atLeastOne (n : Nat) : Nat := if n = 0 then 1 else n

/-- The bit of a symbol that a single-bit error flipped. -/
def singleBit (x : Nat) : Option Nat := (List.range 8).find? fun i => x == 2 ^ i

/-- A single-bit correction charged to its data lane (R273). -/
def chargeLane (s : State) (st c symbol flips : Nat) : State :=
  match singleBit flips with
  | none => s
  | some b =>
    let d := dram s st
    let k := channelOf c * 288 + 8 * symbol + b
    let n := (NatMap.get? d.laneCharge k).getD 0 + 1
    let q := on s (scPage st) Reg.sc.LANE_SPARE_EN
      && decide (atLeastOne (rd s (scPage st) Reg.sc.LANE_CE_THRESHOLD) ≤ n)
      && !d.laneQueue.contains k
    setDram s st { d with laneCharge := NatMap.set d.laneCharge k n,
                          laneQueue := if q then d.laneQueue ++ [k] else d.laneQueue,
                          inWindow := d.inWindow && !q }

/-- A sector has been corrected: counted, tracked by row and charged to its lane (R269, R272). -/
def noteCorrection (s : State) (st c symbol flips : Nat) : State :=
  let s := setSticky (bump s (scPage st) Reg.sc.CE_COUNT) (scPage st) Sticky.sc.DRAM_CE
  let d := dram s st
  let s := setDram s st { d with tracker := trackRow d.tracker (rowKey c) }
  let n := (NatMap.get? (dram s st).tracker (rowKey c)).getD 0
  let s := if atLeastOne (rd s (scPage st) Reg.sc.ROW_CE_THRESHOLD) ≤ n then queueRow s st (rowKey c) else s
  chargeLane s st c symbol flips

/-! ### One sector at its controller -/

/-- The sector read across the boundary of its stack (R27) and decoded; a correctable one is written back in the same
access (R269). Answers its data, and the KIND of its fault: 1 uncorrectable, 2 poisoned. -/
def readStored (s : State) (st c : Nat) : State × Nat × Option Nat :=
  let s := crossFifo s (scPage st) 1
  let code := codeOf s c
  let img := getBytes s.dram c 32
  match checkSector code.errors with
  | .bad => (queueRow s st (rowKey c), img, some 1)
  | .pass es =>
    (s, applyErrors img es, if applyTag code.poison es then some 2 else none)
  | .fixed es symbol flips =>
    let v := applyErrors img es
    let q := applyTag code.poison es
    (noteCorrection (storeSector s c v q) st c symbol flips, v, if q then some 2 else none)

/-- A stack controller latches the first fault, counts and reports every one (R258, R386). -/
def scFault (s : State) (who : Requester) (a kind : Nat) (write : Bool) : State :=
  let p := scPage (place s a).1
  let s := bump s p Reg.sc.FAULTS
  let s := if kind = 0 then setSticky s p Sticky.sc.ACCESS_FAULT else s
  let s := if on s p Reg.sc.FAULT_INFO_VALID then s
    else
      let s := wr (wr s p Reg.sc.FAULT_ADDR a) p Reg.sc.FAULT_INFO_KIND kind
      let s := wr (wr s p Reg.sc.FAULT_INFO_WRITE write.toNat) p Reg.sc.FAULT_INFO_REQUESTER (requesterCode who)
      bump (wr (wr s p Reg.sc.FAULT_INFO_VALID 1) p Reg.hdr.FAULT_CODE (0x80 + kind)) p Reg.hdr.FAULT_COUNT
  report s p (0x80 + kind) a

/-- Whether an access is the controller's own maintenance, which READS and WRITES leave out. -/
def isMaint : Requester → Bool
  | .maintenance => true
  | _ => false

/-- An access met an uncorrectable or a poisoned sector (R269); UE_COUNT and POISON_READS leave the controller's own
maintenance out (R281). -/
def noteBad (s : State) (who : Requester) (st kind : Nat) : State :=
  let f := if kind = 1 then Reg.sc.UE_COUNT else Reg.sc.POISON_READS
  let b := if kind = 1 then Sticky.sc.DRAM_UE else Sticky.sc.POISON_READ
  setSticky (if isMaint who then s else bump s (scPage st) f) (scPage st) b

/-- Read the sector at device address `a`, a multiple of 32: its data, and the KIND of its fault. -/
def readSector (s : State) (who : Requester) (a : Nat) : State × Nat × Option Nat :=
  let (st, l) := place s a
  if present s a then
    let s := if isMaint who then s else bump s (scPage st) Reg.sc.READS
    match readStored s st (cellOf s st l) with
    | (s, v, some k) => (noteBad s who st k, v, some k)
    | (s, v, none) => (s, v, none)
  else (s, 0, some 0)

/-- Write bytes `lo` to `lo + n - 1` of the sector at device address `a` (R267, R270). -/
def writeSector (s : State) (who : Requester) (a lo n v : Nat) (poison : Bool) : State × Option Nat :=
  let (st, l) := place s a
  if present s a then
    let c := cellOf s st l
    let s := if isMaint who then s else bump s (scPage st) Reg.sc.WRITES
    if n = 32 then (storeSector (crossFifo s (scPage st) 1) c v poison, none)
    else
      match readStored (bump s (scPage st) Reg.sc.RMW) st c with
      | (s, _, some k) => (noteBad s who st k, some k)
      | (s, old, none) => (storeSector s c (setBits old (8 * lo) (8 * n) v) false, none)
  else (s, some 0)

/-! ### An access of any length -/

/-- A write has reached the sectors of a range: the stairwells whose WAIT_WORD watches one
(its ADDR, OP0) read their word again (R218). -/
def wakeWaiters (s : State) (a n : Nat) : State :=
  { s with stairs := s.stairs.map fun e =>
      match e.2.cur, e.2.wait with
      | some c, some w =>
        let t := fieldAt c.img 0x18 8
        if t < 2 ^ 40 ∧ t / 32 * 32 < a + n ∧ a < t / 32 * 32 + 32 then
          (e.1, { e.2 with wait := some { w with wake := true } }) else e
      | _, _ => e }

/-- Read sectors one after another: the bytes gathered, and the first fault with its address. -/
def readSectors (who : Requester) (a : Nat) : Nat → State → State × Nat × Option (Nat × Nat)
  | 0, s => (s, 0, none)
  | n + 1, s =>
    let (s, v, k) := readSector s who a
    let (s, w, j) := readSectors who (a + 32) n s
    (s, v + w * 2 ^ 256, match k with
      | some k => some (k, a)
      | none => j)

/-- Read `n` bytes at device address `a` at the stack controllers. -/
def memRead (s : State) (who : Requester) (a n : Nat) : State × Got :=
  let base := a / 32 * 32
  match readSectors who base (ceilDiv (a + n - base) 32) s with
  | (s, _, some (k, f)) => (scFault s who f k false, .fault k f)
  | (s, v, none) => (s, .ok (bits v (8 * (a - base)) (8 * n)))

/-- Write sectors one after another: a range that covers part of a sector merges into it, and a
sector that fails is left out while the others are written (R270). -/
def writeSectors (who : Requester) (poison : Bool) (a stop : Nat) :
    Nat → Nat → State → State × Option (Nat × Nat)
  | 0, _, s => (s, none)
  | n + 1, v, s =>
    let base := a / 32 * 32
    let m := min (stop - a) (base + 32 - a)
    let (s, k) := writeSector s who base (a - base) m (v % 2 ^ (8 * m)) poison
    let (s, j) := writeSectors who poison (base + 32) stop n (v / 2 ^ (8 * m)) s
    (s, match k with
      | some k => some (k, base)
      | none => j)

/-- Write `n` bytes at device address `a` at the stack controllers. -/
def memWritePoison (s : State) (who : Requester) (a n v : Nat) (poison : Bool) : State × Got :=
  match writeSectors who poison a (a + n) (ceilDiv (a + n - a / 32 * 32) 32) v s with
  | (s, some (k, f)) => (wakeWaiters (scFault s who f k true) a n, .fault k f)
  | (s, none) => (wakeWaiters s a n, .ok 0)

def memWrite (s : State) (who : Requester) (a n v : Nat) : State × Got := memWritePoison s who a n v false

/-- Read the sector at device address `a` for a read-modify-write of the controller's own (R267, R281). -/
def readMerge (s : State) (who : Requester) (a : Nat) : State × Nat × Option Nat :=
  let (st, l) := place s a
  if present s a then
    match readStored (bump s (scPage st) Reg.sc.RMW) st (cellOf s st l) with
    | (s, v, some k) => (noteBad s who st k, v, some k)
    | (s, v, none) => (s, v, none)
  else (s, 0, some 0)

/-- Change the two sectors from device address `a` on, in one read-modify-write that no other access comes between; a
bad sector leaves both as they were (R146, R267). -/
def memAdd (s : State) (who : Requester) (a : Nat) (f : Nat → Nat) : State × Got :=
  match readMerge s who a with
  | (s, _, some k) => (scFault s who a k false, .fault k a)
  | (s, v, none) =>
    match readMerge s who (a + 32) with
    | (s, _, some k) => (scFault s who (a + 32) k false, .fault k (a + 32))
    | (s, w, none) => memWrite s who a 64 (f (v + w * 2 ^ 256))

/-! ### Hall caches -/

/-- A way is enabled (R257). -/
def wayOn (s : State) (h w : Nat) : Bool := w < 24 && !bit (rd s (hcPage h) Reg.hc.WAY_DISABLE) w

/-- Every way is disabled: accesses pass to the stack controllers (R257). -/
def bypass (s : State) (h : Nat) : Bool := rd s (hcPage h) Reg.hc.WAY_DISABLE = 2 ^ 24 - 1

/-- The line of a hall cache that holds a line number. -/
def findLine (s : State) (h n : Nat) : Option Line := (cache s h).lines.find? (·.line == n)

/-- A line put in front of the others of its cache, in place of the same line. -/
def putLine (s : State) (h : Nat) (x : Line) : State :=
  setCache s h { cache s h with lines := x :: (cache s h).lines.filter (·.line != x.line) }

def dropLine (s : State) (h n : Nat) : State :=
  setCache s h { cache s h with lines := (cache s h).lines.filter (·.line != n) }

/-- A hall cache latches the first fault, counts and reports every one (R258). -/
def hcFault (s : State) (h : Nat) (user : HallUser) (a kind : Nat) (write : Bool) : State :=
  let p := hcPage h
  let s := setSticky (bump s p Reg.hc.FAULTS) p Sticky.hc.ACCESS_FAULT
  let s := if on s p Reg.hc.FAULT_INFO_VALID then s
    else
      let s := wr (wr s p Reg.hc.FAULT_ADDR a) p Reg.hc.FAULT_INFO_KIND kind
      let s := wr (wr s p Reg.hc.FAULT_INFO_WRITE write.toNat) p Reg.hc.FAULT_INFO_REQUESTER (userCode user)
      bump (wr (wr s p Reg.hc.FAULT_INFO_VALID 1) p Reg.hdr.FAULT_CODE (0x80 + kind)) p Reg.hdr.FAULT_COUNT
  report s p (0x80 + kind) a

/-- The fault of an access that the cache made at a stack: KIND 1 for any bad sector (R269). -/
def hcSees (s : State) (h : Nat) (user : HallUser) (write : Bool) : Got → State × Got
  | .ok v => (s, .ok v)
  | .fault k a => (hcFault s h user a (min k 1) write, .fault (min k 1) a)

/-- Write a dirty line back; a fault drops the data (R253, R256, R259). -/
def writeBack (s : State) (h : Nat) (x : Line) : State × Got :=
  let s := bump s (hcPage h) Reg.hc.WRITEBACKS
  let (s, r) := memWritePoison s (.hallCache (Fin.ofNat 16 h)) (64 * x.line) 64 x.data x.poison
  hcSees s h .self true r

/-- The way a new line takes: a free enabled way of its set, or that of the least recently used line
(R253). -/
def chooseWay (s : State) (h n : Nat) : Option (Nat × Option Line) :=
  let inSet := (cache s h).lines.filter fun x => x.line % 32768 == n % 32768
  match (List.range 24).find? fun w => wayOn s h w && !inSet.any (·.way == w) with
  | some w => some (w, none)
  | none => (inSet.filter fun x => wayOn s h x.way).getLast?.map fun x => (x.way, some x)

/-- Make room for a line and place it (R253). -/
def allocate (s : State) (h : Nat) (n data : Nat) (dirty prefetched : Bool) : State :=
  match chooseWay s h n with
  | none => s
  | some (w, victim) =>
    let s := match victim with
      | some x => if x.dirty then dropLine (writeBack s h x).1 h x.line else dropLine s h x.line
      | none => s
    putLine s h { line := n, way := w, data := data, dirty := dirty, poison := false, prefetched := prefetched }

/-- A demand access finds a line: counted, moved to the front, PF_USEFUL at its first hit (R255). -/
def hitLine (s : State) (h : Nat) (x : Line) : State :=
  let s := bump s (hcPage h) Reg.hc.HITS
  let s := if x.prefetched then bump s (hcPage h) Reg.hc.PF_USEFUL else s
  putLine s h { x with prefetched := false }

/-- Read bytes `lo` to `lo + m - 1` of line `n` for a demand access; with every way disabled the access itself
goes to the stack controller (R257). -/
def readLine (s : State) (h : Nat) (user : HallUser) (n lo m : Nat) : State × Got :=
  match findLine s h n with
  | some x =>
    let s := hitLine s h x
    if x.poison then (hcFault s h user (64 * n) 2 false, .fault 2 (64 * n)) else (s, .ok (bits x.data (8 * lo) (8 * m)))
  | none =>
    let s := bump s (hcPage h) Reg.hc.MISSES
    if bypass s h then
      let (s, r) := memRead s (.hallCache (Fin.ofNat 16 h)) (64 * n + lo) m
      hcSees s h user false r
    else
      let (s, r) := memRead s (.hallCache (Fin.ofNat 16 h)) (64 * n) 64
      match hcSees s h user false r with
      | (s, .ok v) => (allocate s h n v false false, .ok (bits v (8 * lo) (8 * m)))
      | e => e

/-- Write bytes `lo` to `lo + m - 1` of line `n` for a demand access (R253, R256). -/
def writeLine (s : State) (h : Nat) (user : HallUser) (n lo m v : Nat) : State × Got :=
  match findLine s h n with
  | some x =>
    let s := hitLine s h x
    if x.poison && m != 64 then (hcFault s h user (64 * n) 2 true, .fault 2 (64 * n))
    else (putLine s h { x with data := setBits x.data (8 * lo) (8 * m) v, dirty := true, poison := false,
                               prefetched := false }, .ok 0)
  | none =>
    let s := bump s (hcPage h) Reg.hc.MISSES
    if bypass s h then
      let (s, r) := memWrite s (.hallCache (Fin.ofNat 16 h)) (64 * n + lo) m v
      hcSees s h user true r
    else if m = 64 then
      if present s (64 * n) then (allocate s h n v true false, .ok 0)
      else hcSees (scFault s (.hallCache (Fin.ofNat 16 h)) (64 * n) 0 true) h user true (.fault 0 (64 * n))
    else
      let (s, r) := memRead s (.hallCache (Fin.ofNat 16 h)) (64 * n) 64
      match hcSees s h user true r with
      | (s, .ok old) => (allocate s h n (setBits old (8 * lo) (8 * m) v) true false, .ok 0)
      | e => e

/-- Read lines one after another, to the first fault. -/
def readLines (h : Nat) (user : HallUser) (a stop : Nat) : Nat → State → State × Got
  | 0, s => (s, .ok 0)
  | k + 1, s =>
    let m := min (stop - a) (64 - a % 64)
    match readLine s h user (a / 64) (a % 64) m with
    | (s, .fault e f) => (s, .fault e f)
    | (s, .ok v) =>
      match readLines h user (a + m) stop k s with
      | (s, .ok w) => (s, .ok (v + w * 2 ^ (8 * m)))
      | e => e

/-- Read `n` bytes at address `a` through the cache of hall `h`. -/
def hcRead (s : State) (h : Nat) (user : HallUser) (a n : Nat) : State × Got :=
  readLines h user a (a + n) (ceilDiv (a % 64 + n) 64) s

/-- Write lines one after another, to the first fault. -/
def writeLines (h : Nat) (user : HallUser) (a stop : Nat) : Nat → Nat → State → State × Got
  | 0, _, s => (s, .ok 0)
  | k + 1, v, s =>
    let m := min (stop - a) (64 - a % 64)
    match writeLine s h user (a / 64) (a % 64) m (v % 2 ^ (8 * m)) with
    | (s, .fault e f) => (s, .fault e f)
    | (s, .ok _) => writeLines h user (a + m) stop k (v / 2 ^ (8 * m)) s

/-- Write `n` bytes at address `a` through the cache of hall `h`. -/
def hcWrite (s : State) (h : Nat) (user : HallUser) (a n v : Nat) : State × Got :=
  writeLines h user a (a + n) (ceilDiv (a % 64 + n) 64) v s

/-- A prefetch reads a sector at its stack controller: counted, without a fault. -/
def prefetchSector (s : State) (st l : Nat) : State × Nat × Option Nat :=
  readStored (bump s (scPage st) Reg.sc.READS) st (cellOf s st l)

/-- Prefetch line `n` (R255): nothing when it is present or the cache is bypassed; a read that would
fault is dropped. -/
def prefetchLine (s : State) (h n : Nat) : State :=
  if (findLine s h n).isSome || bypass s h then s
  else
    let p := hcPage h
    let (st, l) := place s (64 * n)
    let s := bump s p Reg.hc.PF_ISSUED
    if !present s (64 * n) then bump s p Reg.hc.PF_DROPPED
    else
      match prefetchSector s st l with
      | (s, v, none) =>
        match prefetchSector s st (l + 32) with
        | (s, w, none) => allocate s h n (v + w * 2 ^ 256) false true
        | (s, _, some _) => bump s p Reg.hc.PF_DROPPED
      | (s, _, some _) => bump s p Reg.hc.PF_DROPPED

/-- Prefetch the lines of a range. -/
def prefetchRange (s : State) (h a n : Nat) : State :=
  (List.range (ceilDiv (a % 64 + n) 64)).foldl (fun s i => prefetchLine s h (a / 64 + i)) s

end Sys2Proof.Machine
end

