-- ==== Sys2Proof/Machine/Float.lean ====
section
/-! DEFINITION. Floating-point arithmetic, exact and then rounded once (R62 to R64). A value in
flight is its FP32 bit pattern; a result is the pattern with the flags it raises, as a mask in the order
of the VE page's STICKY bits: OVERFLOW 1, UNDERFLOW 2, INEXACT 4, INVALID 8. -/

namespace Sys2Proof.Machine

/-- A binary format: exponent bits and fraction bits (*Floating-point formats*). -/
structure FloatFmt where
  exp : Nat
  frac : Nat
  deriving DecidableEq, Repr

def fp32 : FloatFmt := ⟨8, 23⟩
def bf16 : FloatFmt := ⟨8, 7⟩
def fp16 : FloatFmt := ⟨5, 10⟩

/-- A number as it is: magnitude `m × 2^e`. -/
inductive Num where
  | nan
  | inf (neg : Bool)
  | fin (neg : Bool) (m : Nat) (e : Int)
  deriving DecidableEq, Repr

/-- A bit pattern with the flags it raised. -/
abbrev FRes := Nat × Nat

def FloatFmt.bias (f : FloatFmt) : Int := 2 ^ (f.exp - 1) - 1
def FloatFmt.infBits (f : FloatFmt) (neg : Bool) : Nat :=
  neg.toNat * 2 ^ (f.exp + f.frac) + (2 ^ f.exp - 1) * 2 ^ f.frac
/-- The canonical NaN, positive (R63). -/
def FloatFmt.nanBits (f : FloatFmt) : Nat := (2 ^ f.exp - 1) * 2 ^ f.frac + 2 ^ (f.frac - 1)

/-- The number a bit pattern stands for. -/
def FloatFmt.decode (f : FloatFmt) (x : Nat) : Num :=
  let neg := bit x (f.exp + f.frac)
  let e := bits x f.frac f.exp
  let m := bits x 0 f.frac
  if e = 2 ^ f.exp - 1 then (if m = 0 then .inf neg else .nan)
  else if e = 0 then .fin neg m (1 - f.bias - f.frac)
  else .fin neg (2 ^ f.frac + m) ((e : Int) - f.bias - f.frac)

/-- `m / 2^d` rounded to nearest, ties to even; whether it is inexact. -/
def shiftRne (m d : Nat) : Nat × Bool :=
  let k := m >>> d
  let r := m % 2 ^ d
  (if 2 ^ d < 2 * r || (2 * r == 2 ^ d && d != 0 && k % 2 == 1) then k + 1 else k, r != 0)

/-- `m × 2^e` rounded once to the format, with its flags; tininess is found after rounding (R62, R64). -/
def FloatFmt.round (f : FloatFmt) (neg : Bool) (m : Nat) (e : Int) : FRes :=
  let sign := neg.toNat * 2 ^ (f.exp + f.frac)
  if m = 0 then (sign, 0)
  else
    let top := (Nat.log2 m : Int) + e
    let emin := 1 - f.bias
    let q := max (top - f.frac) (emin - f.frac)
    let r : Nat × Bool := if q ≤ e then (m <<< (e - q).toNat, false) else shiftRne m (q - e).toNat
    let v := if r.1 < 2 ^ f.frac then r.1 else ((q + f.frac + f.bias - 1).toNat) * 2 ^ f.frac + r.1
    if (2 ^ f.exp - 1) * 2 ^ f.frac ≤ v then (f.infBits neg, 5)
    else
      let q' := top - f.frac
      let t := if q' ≤ e then m <<< (e - q').toNat else (shiftRne m (q' - e).toNat).1
      let tiny := decide (top < emin) && !(top == emin - 1 && t == 2 ^ (f.frac + 1))
      (sign + v, (if r.2 then 4 else 0) + (if r.2 && tiny then 2 else 0))

/-- The signed magnitude of a finite number. -/
def sgn (neg : Bool) (m : Nat) : Int := if neg then -(m : Int) else m

/-- A signed exact sum rounded to FP32. -/
def roundInt (v : Int) (e : Int) : FRes := fp32.round (decide (v < 0)) v.natAbs e

/-- FP32 addition. -/
def fAdd (a b : Nat) : FRes :=
  match fp32.decode a, fp32.decode b with
  | .nan, _ | _, .nan => (fp32.nanBits, 8)
  | .inf x, .inf y => if x = y then (fp32.infBits x, 0) else (fp32.nanBits, 8)
  | .inf x, .fin _ _ _ => (fp32.infBits x, 0)
  | .fin _ _ _, .inf y => (fp32.infBits y, 0)
  | .fin x m e, .fin y n g =>
    let l := min e g
    let v := sgn x (m <<< (e - l).toNat) + sgn y (n <<< (g - l).toNat)
    if v = 0 then ((x && y).toNat * 2 ^ 31, 0) else roundInt v l

/-- The pattern with its sign changed. -/
def fNeg (a : Nat) : Nat := if bit a 31 then a - 2 ^ 31 else a + 2 ^ 31

/-- FP32 subtraction. -/
def fSub (a b : Nat) : FRes := fAdd a (fNeg b)

/-- FP32 multiplication. -/
def fMul (a b : Nat) : FRes :=
  match fp32.decode a, fp32.decode b with
  | .nan, _ | _, .nan => (fp32.nanBits, 8)
  | .inf x, .inf y => (fp32.infBits (x != y), 0)
  | .inf x, .fin y m _ | .fin y m _, .inf x =>
    if m = 0 then (fp32.nanBits, 8) else (fp32.infBits (x != y), 0)
  | .fin x m e, .fin y n g => fp32.round (x != y) (m * n) (e + g)

/-- The pattern without its sign. -/
def fAbs (a : Nat) : Nat := a % 2 ^ 31

def isNan32 (a : Nat) : Bool := fp32.decode a == .nan
def isInf32 (a : Nat) : Bool := a % 2 ^ 31 == 0x7F800000
def isFinite32 (a : Nat) : Bool := decide (a % 2 ^ 31 < 0x7F800000)

/-- A number no NaN as an integer in the order of its value; zeros are equal. -/
def orderKey (a : Nat) : Int := if bit a 31 then -((a % 2 ^ 31 : Nat) : Int) else (a % 2 ^ 31 : Nat)

/-- The exact value of a finite pattern in units of 2^−149. -/
def fix (a : Nat) : Int :=
  match fp32.decode a with
  | .fin neg m e => sgn neg (m <<< (e + 149).toNat)
  | _ => 0

/-- A format code's format (R41): KIND 3, 4 and 5. -/
def fmtOf (code : Nat) : FloatFmt := if code = 0x40 then bf16 else if code = 0x50 then fp16 else fp32

/-- Bytes of one element of a format code of KIND 3, 4 or 5. -/
def fmtBytes (code : Nat) : Nat := if code = 0x30 then 4 else 2

/-- The exact conversion of a pattern to FP32; a NaN keeps its payload. -/
def widen (f : FloatFmt) (x : Nat) : Nat :=
  match f.decode x with
  | .nan => (bit x (f.exp + f.frac)).toNat * 2 ^ 31 + 0x7F800000 + bits x 0 f.frac * 2 ^ (23 - f.frac)
  | .inf neg => fp32.infBits neg
  | .fin neg m e => (fp32.round neg m e).1

/-- The conversion of an FP32 value to a format (R62); a NaN operand sets INVALID (R64). -/
def narrow (f : FloatFmt) (a : Nat) : FRes :=
  match fp32.decode a with
  | .nan => (f.nanBits, 8)
  | .inf neg => (f.infBits neg, 0)
  | .fin neg m e => f.round neg m e

/-- An integer as FP32. -/
def fOfInt (v : Int) : FRes := roundInt v 0

/-! ### MAP functions (R154) -/

/-- MAX and MIN; a NaN operand gives the canonical NaN. -/
def fMax (a b : Nat) : FRes :=
  if isNan32 a || isNan32 b then (fp32.nanBits, 8)
  else if orderKey a = 0 ∧ orderKey b = 0 then ((bit a 31 && bit b 31).toNat * 2 ^ 31, 0)
  else (if orderKey a < orderKey b then b else a, 0)

def fMin (a b : Nat) : FRes :=
  if isNan32 a || isNan32 b then (fp32.nanBits, 8)
  else if orderKey a = 0 ∧ orderKey b = 0 then ((bit a 31 || bit b 31).toNat * 2 ^ 31, 0)
  else (if orderKey b < orderKey a then b else a, 0)

/-- f(a, b) of *MAP functions*, before the conversion to YFMT. -/
def mapFunc (func a b scalar : Nat) : FRes :=
  match func with
  | 0 => (a, 0)
  | 1 => fAdd a b
  | 2 => fSub a b
  | 3 => fMul a b
  | 4 => fMax a b
  | 5 => fMin a b
  | 6 =>
    let p := fMul a scalar
    let r := fAdd p.1 b
    (r.1, p.2 ||| r.2)
  | _ => fMax a 0

/-! ### Sums of products (R155, R156, R164) -/

/-- Sequential accumulation from +0.0 (R155, R164). -/
def sumSequential (xs : List FRes) : FRes :=
  xs.foldl (fun acc p =>
    let r := fAdd acc.1 p.1
    (r.1, acc.2 ||| p.2 ||| r.2)) (0, 0)

/-- The exact product of two numbers. -/
def mulNum (x y : Num) : Num :=
  match x, y with
  | .nan, _ | _, .nan => .nan
  | .inf a, .inf b => .inf (a != b)
  | .inf a, .fin b m _ | .fin b m _, .inf a => if m = 0 then .nan else .inf (a != b)
  | .fin a m e, .fin b n g => .fin (a != b) (m * n) (e + g)

/-- floor(log2) of a magnitude. -/
def numTop : Num → Option Int
  | .fin _ m e => if m = 0 then none else some ((Nat.log2 m : Int) + e)
  | _ => none

/-- The terms of a group on the grid of weight 2^l, truncated toward zero: their sum, and whether a bit
was lost. -/
def onGrid (l : Int) (ps : List Num) : Int × Bool :=
  ps.foldl (fun a p => match p with
    | .fin neg m e =>
      if l ≤ e then (a.1 + sgn neg (m <<< (e - l).toNat), a.2)
      else (a.1 + sgn neg (m >>> (l - e).toNat), a.2 || m % 2 ^ (l - e).toNat != 0)
    | _ => a) (0, false)

/-- The value of one group of up to 32 exact terms (R156). DESIGN CHOICE (notes/assumptions/93): a sum that only the
truncation of step 3 makes inexact raises INEXACT and not UNDERFLOW, however small its rounded value. -/
def groupValue (ps : List Num) : FRes :=
  if ps.any (· == .nan) then (fp32.nanBits, 8)
  else
    let pos := ps.any (· == .inf false)
    let neg := ps.any (· == .inf true)
    if pos && neg then (fp32.nanBits, 8)
    else if pos || neg then (fp32.infBits neg, 0)
    else match (ps.filterMap numTop).max? with
      | none => ((ps.all fun p => match p with
          | .fin n _ _ => n
          | _ => false).toNat * 2 ^ 31, 0)
      | some top =>
        let g := onGrid (top - 63) ps
        if g.1 = 0 then (0, if g.2 then 4 else 0)
        else
          let r := roundInt g.1 (top - 63)
          (r.1, r.2 ||| (if g.2 then 4 else 0))

/-- A list cut into groups of `n`. -/
def chunks {α : Type} (n : Nat) : Nat → List α → List (List α)
  | 0, _ => []
  | _, [] => []
  | fuel + 1, xs => xs.take n :: chunks n fuel (xs.drop n)

/-- Grouped accumulation, from the value of group 0 (R156, R164). -/
def sumGrouped (ps : List Num) : FRes :=
  match (chunks 32 ps.length ps).map groupValue with
  | [] => (0, 0)
  | g :: gs => gs.foldl (fun acc v =>
      let r := fAdd acc.1 v.1
      (r.1, acc.2 ||| v.2 ||| r.2)) g

/-- The dot product of two rows of FP32 values (R155, R156). -/
def dotRow (grouped : Bool) (xs ys : List Nat) : FRes :=
  if grouped then
    let ps := (xs.zip ys).map fun e => mulNum (fp32.decode e.1) (fp32.decode e.2)
    sumGrouped ps
  else sumSequential ((xs.zip ys).map fun e => fMul e.1 e.2)

/-- The sum over sources of one element (R164). -/
def sumSources (grouped : Bool) (xs : List Nat) : FRes :=
  if grouped then sumGrouped (xs.map fp32.decode) else sumSequential (xs.map fun x => (x, 0))

/-! ### Softmax (R158 to R161) -/

/-- The built-in correction table: C[j] is the FP32 value nearest to log2(1 + 2^(−j / 16)) (R159). -/
def builtinTable : List Nat :=
  [0x3F800000, 0x3F78162E, 0x3F7058B2, 0x3F68C77C, 0x3F616273, 0x3F5A2970, 0x3F531C45, 0x3F4C3AB7,
    0x3F458484, 0x3F3EF95F, 0x3F3898F1, 0x3F3262D9, 0x3F2C56B1, 0x3F267406, 0x3F20BA60, 0x3F1B293F,
    0x3F15C01A, 0x3F107E64, 0x3F0B6386, 0x3F066EE8, 0x3F019FE8, 0x3EF9EBC4, 0x3EF0E057, 0x3EE81C31,
    0x3EDF9DEE, 0x3ED76428, 0x3ECF6D70, 0x3EC7B855, 0x3EC04363, 0x3EB90D22, 0x3EB21418, 0x3EAB56CC] ++
  [0x3EA4D3C2, 0x3E9E8981, 0x3E98768F, 0x3E929975, 0x3E8CF0BE, 0x3E877AF8, 0x3E8236B3, 0x3E7A4509,
    0x3E707A0D, 0x3E6709AD, 0x3E5DF12F, 0x3E552DE5, 0x3E4CBD2C, 0x3E449C6C, 0x3E3CC919, 0x3E3540B6,
    0x3E2E00D2, 0x3E270709, 0x3E205105, 0x3E19DC80, 0x3E13A73D, 0x3E0DAF13, 0x3E07F1E4, 0x3E026DA0,
    0x3DFA408B, 0x3DF00FC4, 0x3DE64522, 0x3DDCDCF6, 0x3DD3D3AE, 0x3DCB25D3, 0x3DC2D008, 0x3DBACF0C] ++
  [0x3DB31FB8, 0x3DABBEFD, 0x3DA4A9E7, 0x3D9DDD9A, 0x3D975753, 0x3D911466, 0x3D8B123D, 0x3D854E5A,
    0x3D7F8CAC, 0x3D74EFBB, 0x3D6AC165, 0x3D60FD58, 0x3D579F69, 0x3D4EA392, 0x3D4605F5, 0x3D3DC2D5,
    0x3D35D69C, 0x3D2E3DD2, 0x3D26F524, 0x3D1FF95C, 0x3D194765, 0x3D12DC45, 0x3D0CB523, 0x3D06CF3E,
    0x3D0127F4, 0x3CF77971, 0x3CED1639, 0x3CE3218D, 0x3CD996EC, 0x3CD07201, 0x3CC7AEA2, 0x3CBF48D0] ++
  [0x3CB73CB4, 0x3CAF869F, 0x3CA82307, 0x3CA10E85, 0x3C9A45D7, 0x3C93C5DB, 0x3C8D8B8F, 0x3C879411,
    0x3C81DC9D, 0x3C78C515, 0x3C6E469B, 0x3C6438E9, 0x3C5A974D, 0x3C515D4A, 0x3C48868D, 0x3C400EF3,
    0x3C37F286, 0x3C302D76, 0x3C28BC1D, 0x3C219AFD, 0x3C1AC6B9, 0x3C143C1B, 0x3C0DF80D, 0x3C07F79B,
    0x3C0237F0, 0x3BF96CA5, 0x3BEEE055, 0x3BE4C5F0, 0x3BDB18AD, 0x3BD1D3F8, 0x3BC8F36C, 0x3BC072D3]

/-- C[128], fixed whatever table is in force (R159). -/
def tableEnd : Nat := 0x3BB84E23
/-- The FP32 value nearest to 1 / ln 2 (R159). -/
def log2e : Nat := 0x3FB8AA3B
/-- The coefficients c0 to c7: the FP32 values nearest to (ln 2)^i / i! (R160). -/
def exp2Coefficients : List Nat :=
  [0x3F800000, 0x3F317218, 0x3E75FDF0, 0x3D635847, 0x3C1D955B, 0x3AAEC3FF, 0x39218489, 0x377FE5FE]

/-- floor of a finite pattern, as an integer. -/
def floor32 (a : Nat) : Int := fix a / 2 ^ 149

/-- A pattern minus an integer, exactly, rounded to FP32 (exact where the manual says so). -/
def subInt (a : Nat) (k : Int) : Nat :=
  let v := fix a - k * 2 ^ 149
  if v = 0 then 0 else (roundInt v (-149)).1

/-- exp2 of R160. DESIGN CHOICE (notes/assumptions/98): exp2(+∞), which R160 does not give, is +∞. -/
def exp2 (z : Nat) : FRes :=
  if isNan32 z then (fp32.nanBits, 8)
  else if z = 0xFF800000 ∨ orderKey z < -0x43160000 then (0, 0)
  else if z % 2 ^ 31 = 0 then (0x3F800000, 0)
  else if z = 0x7F800000 then (z, 0)
  else
    let e := floor32 z
    let f := subInt z e
    let q := (exp2Coefficients.take 7).reverse.foldl (fun (q : FRes) c =>
      let p := fMul q.1 f
      let r := fAdd p.1 c
      (r.1, q.2 ||| p.2 ||| r.2)) (exp2Coefficients.getD 7 0, 0)
    match fp32.decode q.1 with
    | .fin neg m g =>
      let r := fp32.round neg m (g + e)
      (r.1, q.2 ||| r.2)
    | _ => q

/-- The correction of R159 with a table in force. -/
def correction (table : List Nat) (d : Nat) : FRes :=
  if isNan32 d then (fp32.nanBits, 8)
  else if 0x41000000 ≤ d then
    let x := exp2 (fNeg d)
    let r := fMul x.1 log2e
    (r.1, x.2 ||| r.2)
  else
    let d16 := (fMul d 0x41800000).1
    let j := (floor32 d16).toNat
    let f := subInt d16 j
    let entry (i : Nat) : Nat := if i = 128 then tableEnd else table.getD i 0
    let a := fSub (entry (j + 1)) (entry j)
    let b := fMul f a.1
    let c := fAdd (entry j) b.1
    (c.1, a.2 ||| b.2 ||| c.2)

/-- One step of the log-domain accumulation (R158). -/
def logAdd (table : List Nat) (acc : FRes) (t : Nat) : FRes :=
  if t = 0xFF800000 then acc
  else if acc.1 = 0xFF800000 then (t, acc.2)
  else
    let m := fMax acc.1 t
    let d := fSub acc.1 t
    let c := correction table (fAbs d.1)
    let r := fAdd m.1 c.1
    (r.1, acc.2 ||| m.2 ||| d.2 ||| c.2 ||| r.2)

/-- SOFTMAX of one row: its outputs in FP32, their flags, and whether every element is −∞ (R158, R161). DESIGN CHOICE: a row
that R161 makes NaN raises the flags of its scalings and INVALID, none of R158's steps (assumption 122). -/
def softmaxRow (table : List Nat) (scalar : Nat) (logOut : Bool) (xs : List Nat) : List Nat × Nat × Bool :=
  let ts := xs.map fun x => fMul x scalar
  let fl := ts.foldl (fun a t => a ||| t.2) 0
  let t := ts.map Prod.fst
  if t.any (fun v => isNan32 v || v == 0x7F800000) then (t.map fun _ => fp32.nanBits, fl ||| 8, false)
  else if t.all (· == 0xFF800000) then (t.map fun _ => if logOut then 0xFF800000 else 0, fl, true)
  else
    let acc := (t.drop 1).foldl (logAdd table) (t.headD 0, fl)
    let ys := t.map fun v =>
      if v = 0xFF800000 then ((if logOut then 0xFF800000 else 0), 0)
      else
        let z := fSub v acc.1
        if logOut then z
        else
          let y := exp2 z.1
          (y.1, z.2 ||| y.2)
    (ys.map Prod.fst, ys.foldl (fun a y => a ||| y.2) acc.2, false)

/-! ### TOPK (R163) -/

/-- Element `a` at position `i` ranks before `b` at position `j`. DESIGN CHOICE (notes/assumptions/99): with SMALLEST,
a NaN lies below every number in the order of values, so it is selected before them. -/
def ranksBefore (smallest : Bool) (a i b j : Nat) : Bool :=
  match isNan32 a, isNan32 b with
  | true, true => decide (i < j)
  | true, false => true
  | false, true => false
  | false, false =>
    let x := if smallest then orderKey b else orderKey a
    let y := if smallest then orderKey a else orderKey b
    decide (y < x) || (x == y && decide (i < j))

/-- An element put in its place in a ranked list. -/
def insertRanked (smallest : Bool) (e : Nat × Nat) : List (Nat × Nat) → List (Nat × Nat)
  | [] => [e]
  | f :: t => if ranksBefore smallest e.1 e.2 f.1 f.2 then e :: f :: t else f :: insertRanked smallest e t

/-- The k entries of a row, as VALUE and POSITION, with the flags (R163). -/
def topkRow (smallest : Bool) (k : Nat) (xs : List Nat) : List (Nat × Nat) × Nat :=
  let ranked := (xs.zipIdx.foldl (fun r e => insertRanked smallest e r) []).take k
  let out := ranked.map fun e => (if isNan32 e.1 then fp32.nanBits else e.1, e.2)
  let pad := (if smallest then 0x7F800000 else 0xFF800000, 0xFFFFFFFF)
  (out ++ List.replicate (k - out.length) pad, if ranked.any (isNan32 ·.1) then 8 else 0)

end Sys2Proof.Machine
end

