-- ==== Sys2Proof/Machine/Quant.lean ====
section
/-! DEFINITION. Number codes and the conversion of one row: format codes, containers, row scales, side
words, weight digits and boulder entries (R41 to R61), and the quantisation unit's procedure (R133 to
R146). -/

namespace Sys2Proof.Machine

/-! ### Format codes and containers -/

/-- A format code is legal (R41). -/
def fmtLegal (f : Nat) : Bool :=
  match f / 16 with
  | 0 | 1 => true
  | 2 | 3 | 4 | 5 => f % 16 == 0
  | _ => false

/-- KIND of a format code. -/
def fmtKind (f : Nat) : Nat := f / 16

/-- Width of a format code in bits. -/
def fmtWidth (f : Nat) : Nat := f % 16 + 1

/-- The container of a code of width wa, in bits (*Activation containers*). -/
def container (wa : Nat) : Nat :=
  if wa ≤ 2 then wa else if wa ≤ 4 then 4 else if wa ≤ 8 then 8 else 16

/-- The highest normal code of a width (R42). -/
def codeTop (wa : Nat) : Nat := if wa = 1 then 1 else 2 ^ wa - 2

/-- The escape code of a width, for widths of 2 and more (R42). -/
def escapeCode (wa : Nat) : Nat := 2 ^ wa - 1

/-- Codes packed in containers, little-endian from bit 0 (R45). -/
def packCodes (c : Nat) (codes : List Nat) : Nat := codes.foldr (fun x acc => x + acc * 2 ^ c) 0

/-- Code `k` of a row (R45). -/
def codeAt (wa img k : Nat) : Nat := bits img (k * container wa) wa

/-- Elements packed at a width. -/
def packElems (w : Nat) (xs : List Nat) : Nat := xs.foldr (fun x acc => x % 2 ^ w + acc * 2 ^ w) 0

/-! ### Row scales (R46) -/

/-- v(c) as a magnitude and an exponent. -/
def e4m4 (c : Nat) : Nat × Int :=
  if c / 16 = 0 then (c % 16, -18) else (16 + c % 16, (c / 16 : Nat) - 19)

/-- The effective row scale s = T × v(c), rounded once to FP32 (R46). -/
def effScale (t c : Nat) : Nat :=
  match fp32.decode t with
  | .nan => fp32.nanBits
  | .inf neg => fp32.infBits neg
  | .fin neg m e => (fp32.round neg (m * (e4m4 c).1) (e + (e4m4 c).2)).1

/-! ### Row side words (R48) -/

def sideScale (w : Nat) : Nat := bits w 0 8
def sideZp (wa w : Nat) : Nat := bits w 8 16 % 2 ^ wa
def sideMask (wa w : Nat) : Nat := bits w 24 16 % 2 ^ wa

/-- A side word from its fields. -/
def sideWord (scale zp mask boulders wa : Nat) : Nat :=
  scale + zp * 2 ^ 8 + mask * 2 ^ 24 + boulders * 2 ^ 40 + (wa - 1) * 2 ^ 48

/-! ### Weights (R52 to R54) -/

/-- Digits of a weight width. -/
def digitCount (ww : Nat) : Nat := if ww ≤ 2 then 1 else ceilDiv ww 2

/-- Bytes of an ashlar payload (R54). -/
def payloadBytes (ww : Nat) : Nat := if ww = 1 then 32 else 64 * digitCount ww

/-- The value of one digit: W1 is ±1; the top digit is two's complement, the others unsigned (R52). -/
def digitValue (ww j d : Nat) : Int :=
  if ww = 1 then 2 * (d : Int) - 1
  else if j + 1 = digitCount ww then signed 2 d
  else (d : Int)

/-- Digit `j` of row `r`, column `c` of an ashlar payload (R54). -/
def digitAt (ww payload j r c : Nat) : Nat :=
  if ww = 1 then bits payload (16 * r + c) 1 else bits payload (512 * j + 32 * r + 2 * c) 2

/-- The weight at row `r`, column `c` of an ashlar payload (R52). -/
def weightAt (ww payload r c : Nat) : Int :=
  ((List.range (digitCount ww)).map fun j => 4 ^ j * digitValue ww j (digitAt ww payload j r c)).sum

/-! ### Boulder lists (R59) -/

def boulderCount (list : Nat) : Nat := min (bits list 0 12) 2048
def boulderEntry (list i : Nat) : Nat := bits list (64 + 64 * i) 64
def boulderValue (e : Nat) : Nat := bits e 0 32
def boulderK (e : Nat) : Nat := 4096 * bits e 44 10 + bits e 32 12
def boulderRow (e : Nat) : Nat := bits e 54 10
def mkBoulder (value k row : Nat) : Nat :=
  value + (k % 4096) * 2 ^ 32 + (k / 4096) * 2 ^ 44 + row * 2 ^ 54
/-- The image of a list of entries. -/
def boulderImage (es : List Nat) : Nat := es.length + 2 ^ 64 * packElems 64 es

/-! ### The conversion block (R131) -/

def cbT (b : Nat) : Nat := fieldAt b 0 4
def cbMult (b : Nat) : Nat := bits b 32 16
def cbAfmt (b : Nat) : Nat := bits b 48 8
def cbSrc (b : Nat) : Nat := bits b 56 8
def cbStream (b : Nat) : Nat := bits b 64 16
def cbSr (b : Nat) : Bool := bit b 80
def cbRot (b : Nat) : Bool := bit b 81
def cbStats (b : Nat) : Bool := bit b 82
def cbRowErr (b : Nat) : Bool := bit b 83
def cbSeed (b : Nat) : Nat := fieldAt b 0x10 8
def cbRotGroup (b i : Nat) : Nat := fieldAt b (0x18 + 2 * i) 2
def cbStatsAddr (b : Nat) : Nat := fieldAt b 0x28 8
def cbRowErrAddr (b : Nat) : Nat := fieldAt b 0x30 8

/-- The conversion block is refused with BAD_CONV_BLOCK (R132, R404): its address fields lie in device memory whether
or not they are used. DESIGN CHOICE (notes/assumptions/95): SR_EN is refused in the block of the conversion on entry and
not in the block of the outputs of the same job. -/
def convBad (addr b : Nat) (readsSrc onEntry : Bool) : Bool :=
  addr % 64 != 0 || fmtKind (cbAfmt b) != 0
    || (readsSrc && !([0x30, 0x40, 0x50].contains (cbSrc b)))
    || decide (2 ^ 40 ≤ cbStatsAddr b) || decide (2 ^ 40 ≤ cbRowErrAddr b)
    || (cbStats b && cbStatsAddr b % 64 != 0) || (cbRowErr b && cbRowErrAddr b % 4 != 0)
    || (cbSr b && onEntry)

/-! ### Quotients -/

/-- `n / d` to the nearest integer, ties to even. -/
def rneDiv (n d : Nat) : Nat :=
  let q := n / d
  let r := n % d
  if d < 2 * r || (d == 2 * r && q % 2 == 1) then q + 1 else q

/-- The same for a signed numerator. -/
def rneQuot (n : Int) (d : Nat) : Int := if n < 0 then -(rneDiv n.natAbs d : Int) else rneDiv n.natAbs d

/-- RNE(x / s) for finite `x` and positive `s`; an infinite scale gives 0. -/
def rneBy (x : Int) (s : Nat) : Int := if isInf32 s then 0 else rneQuot x (fix s).toNat

/-! ### Rounding noise (R141) -/

/-- z[63:40] for element `k` of global row `r`. -/
def noise (seed r k : Nat) : Nat :=
  let m := 2 ^ 64
  let z := (seed + (r * 2 ^ 24 + k + 1) * 0x9E3779B97F4A7C15) % m
  let z := (z ^^^ (z >>> 30)) * 0xBF58476D1CE4E5B9 % m
  let z := (z ^^^ (z >>> 27)) * 0x94D049BB133111EB % m
  (z ^^^ (z >>> 31)) >>> 40

/-- floor(x / s + u), exactly; `u` in units of 2^−24. -/
def floorNoise (x : Int) (s u : Nat) : Int :=
  if isInf32 s then 0 else (x * 2 ^ 24 + (fix s) * u) / (fix s * 2 ^ 24)

/-! ### Rotation (R139) -/

/-- One rotated element of a group of 128 finite values. -/
def rotateElem (g : List Nat) (i : Nat) : Nat :=
  let v := (g.zipIdx.map fun e => if popcount 7 (i &&& e.2) % 2 = 0 then fix e.1 else -fix e.1).sum
  (roundInt v (-153)).1

/-- A row with one group rotated. -/
def rotateGroup (xs : List Nat) (group : Nat) : List Nat :=
  let g := (xs.drop (128 * group)).take 128
  let r := if g.all isFinite32 then (List.range 128).map (rotateElem g) else List.replicate 128 fp32.nanBits
  xs.take (128 * group) ++ r ++ xs.drop (128 * group + 128)

/-- The groups a block names, each once, in order. -/
def rotGroups (b : Nat) : List Nat :=
  if cbRot b then
    ((List.range 8).filterMap fun i =>
      let g := cbRotGroup b i
      if bit g 15 then some (g % 2 ^ 15) else none).eraseDups
  else []

/-- The rotated row, the groups rotated and whether an entry was out of range. -/
def rotateRow (b : Nat) (xs : List Nat) : List Nat × Nat × Bool :=
  let gs := rotGroups b
  let ok := gs.filter fun g => 128 * g + 128 ≤ xs.length
  (ok.foldl rotateGroup xs, ok.length, ok.length != gs.length)

/-! ### Converting one row (R133 to R138, R142) -/

/-- What an element becomes in pass b. -/
inductive Part where
  | normal | boulder | overflow
  deriving DecidableEq, Repr

/-- The outlier test (R134), with NaN and infinite elements always outliers (R61). -/
def isOutlier (f n : Nat) (s2 : Int) (x : Nat) : Bool :=
  !isFinite32 x || (f != 0 && decide ((f * f : Nat) * s2 < 65536 * (fix x * fix x) * n))

/-- Pass b: each outlier takes an entry while its row holds fewer than 16 and the list has room. -/
def partRow (f n : Nat) (s2 : Int) (room : Nat) (xs : List Nat) : List Part :=
  (xs.foldl (fun (a : Nat × List Part) x =>
    if isOutlier f n s2 x then
      if a.1 < min 16 room then (a.1 + 1, .boulder :: a.2) else (a.1, .overflow :: a.2)
    else (a.1, .normal :: a.2)) (0, [])).2.reverse

/-- The scale code (R136): the first whose range fits, or none. -/
def pickScale (t : Nat) (lo hi : Int) (top : Nat) : Option Nat :=
  ((List.range 256).drop 1).find? fun c =>
    let s := effScale t c
    s != 0 && decide (rneBy hi s + rneBy (-lo) s ≤ top)

/-- One converted row. -/
structure Converted where
  codes : List Nat
  side : Nat
  /-- boulder entries in order -/
  boulders : List Nat
  /-- the QU's flags, as a mask in the order of its STICKY bits -/
  flags : Nat
  /-- noise values formed -/
  draws : Nat
  rotated : Nat
  /-- row error, FP32 -/
  err : Nat
  stats : RowStats
  deriving DecidableEq, Repr

/-- A second-level scale that the QU divides by: positive, finite and not zero (R136). -/
def usableScale (t : Nat) : Bool := decide (0 < t ∧ t < 0x7F800000)

/-- The code of one element in pass c, before clamping, whether its clamping sets CLIP, and whether a
noise value was formed (R137, R142, R61). -/
def elemCode (b s zp top row k x : Nat) (p : Part) : Int × Bool × Bool :=
  if isNan32 x then (zp, false, false)
  else if isInf32 x then (if bit x 31 then 0 else top, p == .overflow, false)
  else
    let near := rneBy (fix x) s + zp
    let out := decide (near < 0 ∨ (top : Int) < near)
    if cbSr b then
      let v := floorNoise (fix x) s (noise (cbSeed b) row k) + zp
      (v, out && decide (v < 0 ∨ (top : Int) < v), true)
    else (near, out, false)

/-- Clamped to the normal codes. -/
def clampCode (top : Nat) (v : Int) : Nat := min v.toNat top

/-- The row error, exactly and rounded once (R145): `pairs` holds each non-boulder element with the
integer its code stands for. -/
def rowError (s : Nat) (allZero : Bool) (pairs : List (Nat × Int)) : Nat :=
  if pairs.any (fun e => !isFinite32 e.1) then fp32.nanBits
  else
    let sq := pairs.map fun e =>
      let d := if allZero || e.2 = 0 then fix e.1 else fix e.1 - fix s * e.2
      d * d
    (fp32.round false sq.sum.toNat (-298)).1

/-- The magnitude in units of 2^−48, to nearest with ties to even; a NaN adds all ones (R146). -/
def sqerrUnits (e : Nat) : Nat :=
  match fp32.decode e with
  | .fin _ m x => if -48 ≤ x then m <<< (x + 48).toNat else (shiftRne m (-48 - x).toNat).1
  | _ => 2 ^ 128 - 1

/-- Convert the row `xs`, FP32 patterns, under the conversion block `b`; `row` is its global row, `inBlock`
its row in the M-block, and `room` the entries its boulder list still takes. DESIGN CHOICE (notes/assumptions/96): under
a T that is not positive finite no code is formed (R136), so an infinite element that its full list has dropped sets no
CLIP and counts in no CLIPPED_CODES. -/
def convertRow (b row inBlock room : Nat) (xs0 : List Nat) : Converted :=
  let wa := fmtWidth (cbAfmt b)
  let top := codeTop wa
  let rot := rotateRow b xs0
  let xs := rot.1
  let fin := xs.filter isFinite32
  let s2 := (fin.map fun x => fix x * fix x).sum
  let parts := partRow (cbMult b) fin.length s2 room xs
  let el := xs.zip parts
  let norm := el.filterMap fun e => if e.2 == .normal then some (fix e.1) else none
  let lo := norm.foldl min 0
  let hi := norm.foldl max 0
  let usable := usableScale (cbT b)
  let pick := if usable then pickScale (cbT b) lo hi top else none
  let clamped := usable && pick.isNone
  let c := pick.getD 0xFF
  let s := effScale (cbT b) c
  let zp := if usable then clampCode top (rneBy (-lo) s) else 0
  let raw := el.zipIdx.map fun e => elemCode b s zp top row e.2 e.1.1 e.1.2
  let coded := (el.zip raw).map fun e =>
    if e.1.2 == .boulder then zp else if usable then clampCode top e.2.1 else zp
  let live := (el.zip raw).filter fun e => e.1.2 != .boulder
  let clips := if usable then (live.filter fun e => e.2.2.1).length else 0
  let allZero := (el.zip coded).all fun e => e.1.2 == .boulder || e.2 == zp
  let nonzero := live.any fun e => e.1.1 % 2 ^ 31 != 0
  let ents := (el.zipIdx.filter fun e => e.1.2 == .boulder).map fun e => mkBoulder e.1.1 e.2 inBlock
  let dropped := (parts.filter (· == .overflow)).length
  let codes := (el.zip coded).map fun e =>
    if e.1.2 == .boulder then (if 2 ≤ wa then escapeCode wa else if allZero then 0 else zp)
    else if allZero then 0 else e.2
  let mask := coded.foldl (· ||| ·) 0
  let side := if allZero then sideWord 0 0 0 ents.length wa else sideWord c zp mask ents.length wa
  let flushed := allZero && nonzero
  let pairs := ((el.zip coded).filter fun e => e.1.2 != .boulder).map fun e => (e.1.1, (e.2 : Int) - zp)
  let flags := (if clips != 0 || clamped then 1 else 0) + (if flushed then 2 else 0)
    + (if dropped != 0 then 4 else 0) + (if rot.2.2 then 16 else 0)
  { codes := codes, side := side, boulders := ents, flags := flags,
    draws := if usable then (live.filter fun e => e.2.2.2).length else 0, rotated := rot.2.1,
    err := rowError s allZero pairs,
    stats := { sqerr := sqerrUnits (rowError s allZero pairs), zero := allZero, flushed := flushed,
               clipped := clips, boulders := ents.length, dropped := dropped, clamped := clamped,
               maxAbs := (live.filter fun e => isFinite32 e.1.1).foldl (fun a e => max a (e.1.1 % 2 ^ 31)) 0,
               maxScale := if allZero then 0 else c } }

/-! ### The tensor statistics record (R146) -/

/-- A field of a record with `n` added, saturating. -/
def satField (r off size n : Nat) : Nat :=
  setBits r (8 * off) (8 * size) (min (fieldAt r off size + n) (2 ^ (8 * size) - 1))

/-- One row added to the 64-byte record. -/
def addStats (r : Nat) (x : RowStats) : Nat :=
  let r := satField r 0x00 16 x.sqerr
  let r := satField r 0x10 8 1
  let r := satField r 0x18 4 x.zero.toNat
  let r := satField r 0x1C 4 x.flushed.toNat
  let r := satField r 0x20 8 x.clipped
  let r := satField r 0x28 4 x.boulders
  let r := satField r 0x2C 4 x.dropped
  let r := satField r 0x30 4 x.clamped.toNat
  let r := setBits r (8 * 0x34) 32 (max (fieldAt r 0x34 4) x.maxAbs)
  setBits r (8 * 0x38) 8 (max (fieldAt r 0x38 1) x.maxScale)

end Sys2Proof.Machine
end

