-- ==== Sys2Proof/Machine/Operands.lean ====
section
/-! DEFINITION. The operand forms: the fields of list entries, job descriptors, vector, skip, dresser
and reduction blocks, panel entries, tile heads, column records and side words, each read from the
little-endian image of the structure (R4). -/

namespace Sys2Proof.Machine

/-! ### Command addresses (R211) -/

/-- A command address names host memory. -/
def isHost (a : Nat) : Bool := bit a 63

/-- The host physical address of a command address with bit 63 set. -/
def hostAddr (a : Nat) : Nat := a % 2 ^ 63

/-- A command address is in range: bits 62 to 40 are clear when bit 63 is. -/
def cmdLegal (a : Nat) : Bool := isHost a || decide (a < 2 ^ 40)

/-- A range of a command address lies within its memory (R221). -/
def cmdWithin (a n : Nat) : Bool :=
  if isHost a then decide (hostAddr a + n ≤ 2 ^ 63) else decide (a + n ≤ 2 ^ 40)

/-! ### List entries (R212, R213) -/

def eOpcode (e : Nat) : Nat := bits e 0 8
def eIntr (e : Nat) : Bool := bit e 8
def ePrior (e : Nat) : Bool := bit e 9
def eHaltIfErr (e : Nat) : Bool := bit e 10
def eVec (e : Nat) : Nat := bits e 16 6
def eArg (e : Nat) : Nat := fieldAt e 4 4
def eTag (e : Nat) : Nat := fieldAt e 8 8
def eRecord (e : Nat) : Nat := fieldAt e 0x10 8
def eOp0 (e : Nat) : Nat := fieldAt e 0x18 8
def eOp1 (e : Nat) : Nat := fieldAt e 0x20 8
def eOp2 (e : Nat) : Nat := fieldAt e 0x28 8
def eOp3 (e : Nat) : Nat := fieldAt e 0x30 8
def eCond (e : Nat) : Nat := bits (eArg e) 0 2
/-- Bytes of the word of a WAIT_WORD or WRITE_WORD (R218, R220). -/
def eWidth (e : Nat) : Nat := if bit (eArg e) 2 then 8 else 4
def eMode (e : Nat) : Nat := bits (eArg e) 0 2
def eHallMask (e : Nat) : Nat := bits (eArg e) 16 16
def eClose (e : Nat) : Bool := bit (eArg e) 0
def eWtag (e : Nat) : Nat := bits (eArg e) 16 16
def eTimeout (e : Nat) : Nat := bits (eOp3 e) 0 32

/-- *Commands* whose entries hold a slot (R213). -/
def tracked (op : Nat) : Bool := [0x01, 0x06, 0x07, 0x08, 0x0A].contains op

/-- The entry waits for every earlier one (R213, R216). -/
def waitsPrior (e : Nat) : Bool :=
  ePrior e || [0x02, 0x04, 0x05, 0x0C].contains (eOpcode e) || (eOpcode e == 0x09 && eClose e)

/-- Entries past which nothing is read ahead (R214): WAIT_WORD, JUMP and HALT. -/
def stopsReading (op : Nat) : Bool := [0x03, 0x0B, 0x0C].contains op

/-! ### WPARAM (R292) and the reduction block (R296) -/

def wpSlots (w : Nat) : Nat := bits w 0 6 + 1
def wpFmt (w : Nat) : Nat := bits w 8 8
def wpElements (w : Nat) : Nat := bits w 16 24 + 1
/-- STRIDE of a window's slots. -/
def wpStride (w : Nat) : Nat := 64 * ceilDiv (wpElements w * fmtBytes (wpFmt w)) 64

def rbSrc (b : Nat) : Nat := fieldAt b 0 8
def rbElements (b : Nat) : Nat := fieldAt b 8 4
def rbLink (b : Nat) : Nat := bits b 96 4
def rbChannel (b : Nat) : Nat := bits b 100 4
def rbLfmt (b : Nat) : Nat := bits b 104 2
def rbSr (b : Nat) : Bool := bit b 106
def rbSfmt (b : Nat) : Nat := if bit b 107 then 0x40 else 0x30
def rbWtag (b : Nat) : Nat := bits b 112 16
def rbSlot (b : Nat) : Nat := bits b 128 6
def rbMargin (b : Nat) : Nat := bits b 144 16
def rbStream (b : Nat) : Nat := bits b 160 16
def rbSeed (b : Nat) : Nat := fieldAt b 0x18 8
def rbHist (b : Nat) : Nat := fieldAt b 0x20 8

/-! ### The checks before an entry runs (R215) -/

/-- An address operand breaks R211 or the alignment its command requires. -/
def badAddress (e : Nat) : Bool :=
  let record := eRecord e != 0 && (!cmdLegal (eRecord e) || eRecord e % 32 != 0)
  let device (a n : Nat) : Bool := decide (a < 2 ^ 40) && a % n == 0
  record || match eOpcode e with
    | 0x01 => !cmdLegal (eOp0 e)
    | 0x03 | 0x04 => !cmdLegal (eOp0 e) || eOp0 e % eWidth e != 0
    | 0x06 => !cmdLegal (eOp0 e) || eOp0 e % 64 != 0 || !cmdWithin (eOp0 e) (eOp1 e)
    | 0x07 => [eOp0 e, eOp1 e].any fun a => !cmdLegal a || a % 64 != 0 || !cmdWithin a (eOp2 e)
    | 0x08 => !device (eOp0 e) 64
    | 0x09 => !eClose e && !device (eOp0 e) 64
    | 0x0A => !device (eOp0 e) 64
    | 0x0B => !cmdLegal (eOp0 e) || eOp0 e % 64 != 0
    | _ => false

/-- A field holds a value outside the legal values of its command. -/
def badOperand (e : Nat) : Bool :=
  match eOpcode e with
  | 0x03 => eCond e == 3
  | 0x06 => eOp1 e % 64 != 0
  | 0x07 => eOp2 e % 64 != 0
  | 0x08 => eMode e == 0 || eHallMask e == 0 || eOp1 e % 64 != 0
  | 0x09 => !eClose e && (!([0x30, 0x40] : List Nat).contains (wpFmt (eOp2 e))
      || decide (eOp1 e < 256 + wpSlots (eOp2 e) * wpStride (eOp2 e)))
  | _ => false

/-- FAULT_CODE of an entry that fails its checks; BAD_ADDRESS when both kinds fail. -/
def entryFault (e : Nat) : Option Nat :=
  if badAddress e then some 0x02 else if badOperand e then some 0x03 else none

/-! ### The job descriptor (R188, R189) -/

def dKind (d : Nat) : Nat := bits d 0 4
def dShape (d : Nat) : Nat := bits d 4 2
def dSplitK (d : Nat) : Bool := bit d 6
def dPreload (d : Nat) : Bool := bit d 7
def dActFloat (d : Nat) : Bool := bit d 8
def dOrder (d : Nat) : Bool := bit d 9
def dFetch (d : Nat) : Nat := bits d 10 3 + 1
def dExtSrc (d : Nat) : Nat := bits d 13 2
def dPadZp (d : Nat) : Bool := bit d 15
def dExtReg (d : Nat) : Nat := bits d 16 4
def dPfDepth (d : Nat) : Nat := bits d 20 4
def dWfmt (d : Nat) : Nat := fieldAt d 0x04 1
def dAfmt (d : Nat) : Nat := fieldAt d 0x05 1
def dYfmt (d : Nat) : Nat := fieldAt d 0x06 1
def dScaleSet (d : Nat) : Nat := fieldAt d 0x07 1
def dMPlan (d : Nat) : Nat := fieldAt d 0x08 4
def dNPlan (d : Nat) : Nat := fieldAt d 0x0C 4
def dKPlan (d : Nat) : Nat := fieldAt d 0x10 4
def dMBlock (d : Nat) : Nat := fieldAt d 0x14 2
def dKSplit (d : Nat) : Nat := fieldAt d 0x16 2
def dPad (d : Nat) : Nat := fieldAt d 0x18 2
def dElemStride (d : Nat) : Nat := if fieldAt d 0x1A 2 = 0 then 1 else fieldAt d 0x1A 2
def dBRowStride (d : Nat) : Nat := fieldAt d 0x1C 4
def dActRowStride (d : Nat) : Nat := fieldAt d 0x20 4
def dOutRowStride (d : Nat) : Nat := fieldAt d 0x24 4
def dExtAddr (d : Nat) : Nat := fieldAt d 0x28 8
def dActAddr (d : Nat) : Nat := fieldAt d 0x30 8
def dSideAddr (d : Nat) : Nat := fieldAt d 0x38 8
def dBlAddr (d : Nat) : Nat := fieldAt d 0x40 8
def dStreamAddr (d : Nat) : Nat := fieldAt d 0x48 8
def dIndexAddr (d : Nat) : Nat := fieldAt d 0x50 8
def dColrecAddr (d : Nat) : Nat := fieldAt d 0x58 8
def dOutAddr (d : Nat) : Nat := fieldAt d 0x60 8
def dOutSideAddr (d : Nat) : Nat := fieldAt d 0x68 8
def dOutBlAddr (d : Nat) : Nat := fieldAt d 0x70 8
def dSrc2Addr (d : Nat) : Nat := fieldAt d 0x78 8
def dPreSideAddr (d : Nat) : Nat := fieldAt d 0x80 8
def dBtAddr (d : Nat) : Nat := fieldAt d 0x88 8
def dPartStride (d : Nat) : Nat := fieldAt d 0x90 8
def dConvAddr (d : Nat) : Nat := fieldAt d 0x98 8
def dAuxAddr (d : Nat) : Nat := fieldAt d 0xA0 8
def dSkipAddr (d : Nat) : Nat := fieldAt d 0xA8 8

/-- N_S of a shape (R108). -/
def shapeCols (shape : Nat) : Nat := [128, 64, 256, 32].getD shape 128
/-- P of a shape (*Slot assignment by shape*). -/
def shapeSlots (shape : Nat) : Nat := [8, 16, 4, 32].getD shape 8
/-- C of a shape. -/
def shapePositions (shape : Nat) : Nat := [8, 4, 16, 2].getD shape 8

/-- A MATMUL that drains to activation codes (R130). -/
def dRequant (d : Nat) : Bool := dKind d == 1 && fmtKind (dYfmt d) == 0

/-- NBP, MBP and J of a descriptor (R190, R196). -/
def dNbp (d : Nat) : Nat := ceilDiv (dNPlan d) (shapeCols (dShape d))
def dMbp (d : Nat) : Nat := ceilDiv (dMPlan d) (dMBlock d)
def dParts (d : Nat) : Nat :=
  if dKind d = 1 ∧ dSplitK d then ceilDiv (ceilDiv (dKPlan d) 4096) (dKSplit d) else 1

/-- G for an M-block of `m` rows (R108). -/
def groupRows (m shape : Nat) : Nat := ceilDiv (m * shapeCols shape) 128

/-- The format signature of a job (R114). -/
def dSignature (d : Nat) : Nat := dWfmt d + dAfmt d * 2 ^ 8 + dScaleSet d * 2 ^ 16

/-! ### The vector operation block (R152, R153) -/

def vOp (b : Nat) : Nat := bits b 0 8
def vFunc (b : Nat) : Nat := bits b 8 8
def vGrouped (b : Nat) : Bool := bit b 16
def vSmallest (b : Nat) : Bool := bit b 17
def vLogOut (b : Nat) : Bool := bit b 18
def vBMode (b : Nat) : Nat := bits b 19 2
def vStreams (b : Nat) : Bool := bit b 21
def vAfmt (b : Nat) : Nat := bits b 32 8
def vBfmt (b : Nat) : Nat := bits b 40 8
def vYfmt (b : Nat) : Nat := bits b 48 8
def vTopk (b : Nat) : Nat := bits b 56 5 + 1
def vScalar (b : Nat) : Nat := fieldAt b 8 4
def vSources (b : Nat) : Nat := bits b 96 16 + 1
def vPartStride (b : Nat) : Nat := fieldAt b 0x10 8
def vSideAddr (b : Nat) : Nat := fieldAt b 0x18 8
def vBtAddr (b : Nat) : Nat := fieldAt b 0x20 8
def vTableAddr (b : Nat) : Nat := fieldAt b 0x28 8
def vStreamAddr (b : Nat) : Nat := fieldAt b 0x30 8

/-- A floating-point format code that the VE reads and writes. DESIGN CHOICE: a vector block's byte of KIND 3, 4 or 5 with a
WIDTH_M1 other than 0 is none of them, so that the block is refused with BAD_VOP (assumption 121). -/
def vFloat (f : Nat) : Bool := [0x30, 0x40, 0x50].contains f

/-- The operation reads B (R153). -/
def vReadsB (b : Nat) : Bool :=
  vOp b == 2 || (vOp b == 1 && vFunc b != 0 && vFunc b != 7 && vBMode b != 2)

/-- The operation reads B_MODE (R153). -/
def vReadsBMode (b : Nat) : Bool := vOp b == 2 || (vOp b == 1 && vFunc b != 0 && vFunc b != 7)

/-- Address fields of a block lie in device memory (R404). -/
def deviceAddrs (as : List Nat) : Bool := as.all fun a => decide (a < 2 ^ 40)

/-- The vector block is refused with BAD_VOP. -/
def vopBad (b : Nat) : Bool :=
  let op := vOp b
  !decide (1 ≤ op ∧ op ≤ 6) || (op == 1 && decide (7 < vFunc b))
    || (vReadsBMode b && (vBMode b == 3 || (vBMode b == 2 && (op == 2 || vFunc b == 6))))
    || (op != 6 && !vFloat (vAfmt b)) || (vReadsB b && !vFloat (vBfmt b))
    || (op != 4 && !vFloat (vYfmt b))
    || (op == 3 && (vTableAddr b % 64 != 0 || !deviceAddrs [vTableAddr b]))
    || (op == 5 && vStreams b && (vStreamAddr b % 2 != 0 || !deviceAddrs [vStreamAddr b]))
    || ((op == 5 || op == 6) && vSources b != 1 && vPartStride b % 64 != 0)
    || (op == 6 && !deviceAddrs [vSideAddr b, vBtAddr b])
    || (op == 5 && decide (64 < vSources b))

/-! ### The skip block (R183, R184) -/

def kMode (b : Nat) : Nat := bits b 0 2
def kFarEn (b : Nat) : Bool := bit b 2
def kWeakEn (b : Nat) : Bool := bit b 3
def kRerun (b : Nat) : Bool := bit b 4
def kQposSrc (b : Nat) : Bool := bit b 5
def kThreshSrc (b : Nat) : Bool := bit b 6
def kCoarse (b : Nat) : Nat := bits b 8 8
def kPeriod (b : Nat) : Nat := bits b 16 16
def kThreshold (b : Nat) : Nat := fieldAt b 4 4
def kRefine (b : Nat) : Nat := bits b 64 16
def kMissBudget (b : Nat) : Nat := bits b 80 16
def kDeadline (b : Nat) : Nat := bits b 96 20
def kQposBase (b : Nat) : Nat := fieldAt b 0x10 4
def kKposBase (b : Nat) : Nat := fieldAt b 0x14 4
def kBehind (b : Nat) : Nat := fieldAt b 0x18 4
def kAhead (b : Nat) : Nat := fieldAt b 0x1C 4
def kSinkLead (b : Nat) : Nat := fieldAt b 0x20 4
def kQposAddr (b : Nat) : Nat := fieldAt b 0x28 8
def kThreshAddr (b : Nat) : Nat := fieldAt b 0x30 8
def kWindow (b i : Nat) : Nat × Nat := (fieldAt b (0x40 + 8 * i) 4, fieldAt b (0x44 + 8 * i) 4)
def kSink (b i : Nat) : Nat := fieldAt b (0x60 + 4 * i) 4

/-- Weight-serial mode (R69). -/
def weightSerial (wa ww : Nat) : Bool := decide (wa < ww)

/-- The skip block of a job is refused with BAD_SKIP_BLOCK (R184); its address fields lie in device memory whether or
not they are used (R404). A block with MODE 0 is not read further. -/
def skipBad (d b : Nat) : Bool :=
  kMode b != 0 && (kMode b == 3 || weightSerial (fmtWidth (dAfmt d)) (fmtWidth (dWfmt d))
    || !vFloat (dYfmt d) || dSplitK d || dPreload d || (kMode b == 2 && kDeadline b == 0)
    || !deviceAddrs [kQposAddr b, kThreshAddr b]
    || (kQposSrc b && kQposAddr b % 4 != 0) || (kThreshSrc b && kThreshAddr b % 4 != 0))

/-! ### The dresser parameter block (R102, R103) -/

def rSrc (b : Nat) : Nat := fieldAt b 0 8
def rRowBytes (b : Nat) : Nat := fieldAt b 8 4
def rK (b : Nat) : Nat := fieldAt b 0x0C 4
def rN (b : Nat) : Nat := fieldAt b 0x10 4
def rSrcFmt (b : Nat) : Nat := fieldAt b 0x14 1
def rWfmt (b : Nat) : Nat := fieldAt b 0x15 1
def rShape (b : Nat) : Nat := fieldAt b 0x16 1
def rSpanLog (b : Nat) : Nat := fieldAt b 0x17 1
def rStream (b : Nat) : Nat := fieldAt b 0x18 8
def rIndex (b : Nat) : Nat := fieldAt b 0x20 8
def rGather (b : Nat) : Nat := fieldAt b 0x28 8
def rKeep (b : Nat) : Nat := fieldAt b 0x30 8

/-- The parameter block is refused with DRESS_BAD_PARAM. -/
def dressBad (b : Nat) : Bool :=
  !deviceAddrs [rSrc b, rStream b, rIndex b, rGather b, rKeep b]
    || rSrc b % 64 != 0 || rRowBytes b % 64 != 0 || decide (rRowBytes b < rN b * fmtBytes (rSrcFmt b))
    || !decide (1 ≤ rK b ∧ rK b ≤ 4194304) || !decide (1 ≤ rN b ∧ rN b ≤ 16777216)
    || !([0x30, 0x40] : List Nat).contains (rSrcFmt b) || !fmtLegal (rWfmt b) || fmtKind (rWfmt b) != 1
    || decide (3 < rShape b) || decide (3 < rSpanLog b)
    || decide (shapeSlots (rShape b) < 2 ^ rSpanLog b)
    || rStream b % 32 != 0 || rIndex b % 8 != 0 || rGather b % 32 != 0 || rKeep b % 8 != 0

/-! ### Panels, tile records and column records (R91, R92, R94, R56) -/

/-- OFFSET32 and TILES of a panel index entry. -/
def panelEntry (e : Nat) : Nat × Nat := (bits e 0 40, bits e 40 16)

/-- Bytes of a tile record (R91). -/
def recordBytes (ww : Nat) : Nat := 96 + 64 * payloadBytes ww

def hPass (r : Nat) : Nat := bits r 0 10
def hSpan (r : Nat) : Nat := 2 ^ bits r 10 2
def hMapped (r : Nat) : Bool := bit r 12
def hShape (r : Nat) : Nat := bits r 16 2
def hWfmt (r : Nat) : Nat := bits r 24 8
def hVoid (r slot : Nat) : Bool := bit r (64 + slot)
/-- The column-block that position `b` lands on (R98). -/
def hTarget (r b : Nat) : Nat := if hMapped r then bits r (128 + 4 * b) 4 else b
/-- The position code of a slot (R55). -/
def hCode (r slot : Nat) : Nat := fieldAt r (32 + slot) 1
/-- The payload of a slot (R54). -/
def hPayload (ww r slot : Nat) : Nat := fieldAt r (96 + slot * payloadBytes ww) (payloadBytes ww)

/-- The head is faulty (R93). -/
def headBad (shape wfmt r : Nat) : Bool :=
  hShape r != shape || hWfmt r != wfmt || decide (shapeSlots shape < hSpan r)
    || decide (1024 < hPass r + hSpan r)
    || (hMapped r && (List.range (shapePositions shape)).any fun b => decide (shapePositions shape ≤ hTarget r b))

/-- The logical column-block position that a slot serves, and the ashlar's index in it (R77). -/
def slotPlace (shape slot : Nat) : Nat × Nat :=
  let r := slot / 8
  let c := slot % 8
  match shape with
  | 0 => (c, r)
  | 1 => (c % 4, r + 8 * (c / 4))
  | 2 => (c + 8 * (r / 4), r % 4)
  | _ => (c % 2, r + 8 * (c / 2))

/-- The window that the ashlar of a slot lies in (R88). -/
def slotWindow (r shape slot : Nat) : Nat :=
  hPass r + (slotPlace shape slot).2 / (shapeSlots shape / hSpan r)

/-- COLSUM and WSCALE of a column record (R56). -/
def colSum (c : Nat) : Int := signed 32 c
def colScale (c : Nat) : Nat := bits c 32 32

/-! ### Tile side words (R123) -/

def tsShift (w : Nat) : Nat := bits w 0 2
def tsSaturated (w : Nat) : Bool := bit w 2
def tsTerms (w : Nat) : Bool := bit w 3
def tsSignature (w : Nat) : Nat := bits w 8 24
def tsRows (w : Nat) : Nat := bits w 32 10 + 1
def tsPart (w : Nat) : Nat := bits w 48 16
def tileSide (shift : Nat) (sat terms : Bool) (sig rows part : Nat) : Nat :=
  shift / 4 + sat.toNat * 4 + terms.toNat * 8 + sig * 2 ^ 8 + (rows - 1) * 2 ^ 32 + part * 2 ^ 48

end Sys2Proof.Machine
end

