-- ==== Sys2Proof/Machine/Flags.lean ====
section
/-! DEFINITION. The flags of number handling and of the engines: each is set in its engine's page and
reported to the job that raised it (R66, R67, R228). -/

namespace Sys2Proof.Machine

/-- Every STICKY bit of a mask set, from bit 0 on. -/
def setStickies (s : State) (p : Page) (mask : Nat) : State :=
  (List.range 7).foldl (fun s b => if bit mask b then setSticky s p b else s) s

/-- A job of the dispatcher changed. -/
def updJob (s : State) (sw slot : Nat) (f : Job → Job) : State :=
  { s with disp := { s.disp with
      jobs := s.disp.jobs.map fun j => if j.sw = sw ∧ j.slot = slot then f j else j } }

/-- Flags of *Record flags* reported to a job. -/
def jobFlags (s : State) (sw slot mask : Nat) : State :=
  updJob s sw slot fun j => { j with flags := j.flags ||| mask }

/-- VE flags: OVERFLOW 1, UNDERFLOW 2, INEXACT 4, INVALID 8, EMPTY_ROW 32, as in its STICKY register. -/
def veRecord (mask : Nat) : Nat := bits mask 0 4 * 2 + bits mask 5 1 * 2 ^ 15

/-- QU flags: CLIP 1, FLUSH_ZERO 2, ESCAPE_OVF 4, STREAM_ALIAS 8, ROT_RANGE 16. -/
def quRecord (mask : Nat) : Nat := bits mask 0 4 * 2 ^ 5 + bits mask 4 1 * 2 ^ 14

/-- Array flags: SATURATE 1, RETRIED 4, MISS_BUDGET 16, DEADLINE_HIT 32, SKIP_BYPASS 64; SIG_FAULT 2 and
BAD_SIDE 8 are in no record. -/
def arrRecord (mask : Nat) : Nat :=
  bits mask 0 1 + bits mask 2 1 * 2 ^ 9 + bits mask 4 3 * 2 ^ 10

def veFlags (s : State) (h g sw slot mask : Nat) : State :=
  jobFlags (setStickies s (vePage h g) mask) sw slot (veRecord mask)

def quFlags (s : State) (h g sw slot mask : Nat) : State :=
  jobFlags (setStickies s (quPage h g) mask) sw slot (quRecord mask)

def arrFlags (s : State) (h g sw slot mask : Nat) : State :=
  jobFlags (setStickies s (arrPage h g) mask) sw slot (arrRecord mask)

/-- DRESS_NONFINITE (R104, R228). -/
def dresserFlag (s : State) (h sw slot : Nat) : State :=
  jobFlags (setSticky s (drsPage h) Sticky.drs.DRESS_NONFINITE) sw slot (2 ^ 13)

end Sys2Proof.Machine
end

