-- ==== Sys2Proof/Machine/Jobs.lean ====
section
/-! DEFINITION. Jobs, tickets and groups as every engine sees them: how a job ends and completes
(R203, R204, R259), how a ticket is abandoned (R74, R125, R143) or its units returned (R337), and
how a group frees its slot and rows (R109, R118, R126). -/

namespace Sys2Proof.Machine

/-! ### Jobs -/

def findJob (s : State) (sw slot : Nat) : Option Job :=
  s.disp.jobs.find? fun j => j.sw == sw && j.slot == slot

/-- A VECTOR job whose operation is REDUCE_SPLITK. -/
def isSplitkSum (j : Job) : Bool := dKind j.desc == 3 && vOp (j.aux.getD 0) == 6

/-- The job's units are output tiles, so that it reads N (R193). -/
def readsN (j : Job) : Bool := dKind j.desc == 1 || isSplitkSum j

/-- MB and NB of a job (R196). -/
def jobMb (j : Job) : Nat := ceilDiv j.m (dMBlock j.desc)
def jobNb (j : Job) : Nat := if readsN j then ceilDiv j.n (shapeCols (dShape j.desc)) else 1

/-- Rows of M-block `i` (R196). -/
def blockRows (j : Job) (i : Nat) : Nat := min (dMBlock j.desc) (j.m - i * dMBlock j.desc)

/-- M-block, N-block and part of unit `u` (R198). -/
def unitPlace (j : Job) (u : Nat) : Nat × Nat × Nat :=
  let d := j.desc
  if dKind d = 1 ∧ !dRequant d then
    let p := dParts d
    if dOrder d then (u / p % jobMb j, u / (p * jobMb j), u % p)
    else (u / (p * jobNb j), u / p % jobNb j, u % p)
  else if isSplitkSum j then (u / jobNb j, u % jobNb j, 0)
  else (u, 0, 0)

/-- Units of a job (R198). -/
def jobUnits (j : Job) : Nat :=
  let d := j.desc
  match dKind d with
  | 1 => if dRequant d then jobMb j else jobMb j * jobNb j * dParts d
  | 4 => ceilDiv (rN (j.aux.getD 0)) (shapeCols (rShape (j.aux.getD 0)))
  | _ => jobMb j * jobNb j

/-- Ticket places of one unit (R187). -/
def unitPlaces (d : Nat) : Nat := if dRequant d then dNbp d else 1

/-- Output tiles of a ticket in order: unit, M-block, N-block and part (R81, R130). -/
def ticketTiles (j : Job) (t : Ticket) : List (Nat × Nat × Nat × Nat) :=
  if dRequant j.desc then t.units.flatMap fun u => (List.range (jobNb j)).map fun n => (u, u, n, 0)
  else t.units.map fun u => (u, unitPlace j u)

/-- Every unit is handed out and none waits (R204). -/
def exhausted (j : Job) : Bool := decide (j.units ≤ j.next) && j.requeue.isEmpty && j.returned.isEmpty

/-- The job has units to hand out. -/
def hasUnits (j : Job) : Bool :=
  j.stage == .tallied && j.ended.isNone && j.failures.isEmpty && !exhausted j

/-- The oldest job that a fetcher takes a ticket from. -/
def jobFor (s : State) : Fetcher → Option Job
  | .gallery _ _ => s.disp.jobs.find? fun j => dKind j.desc != 4 && hasUnits j
  | .dresser _ => s.disp.jobs.find? fun j => dKind j.desc == 4 && hasUnits j

/-- A fetch that no job has units for no longer waits for places; it waits for work (R202). -/
def releaseWaits (s : State) : State :=
  { s with disp := { s.disp with requests := s.disp.requests.map fun r =>
      if (jobFor s r.who).isSome then r else { r with waited := false } } }

/-- The work of a tracked entry is over; the entry has yet to complete. -/
def endEntry (s : State) (sw slot status flags work : Nat) : State :=
  let w := stair s sw
  match NatMap.get? w.slots slot with
  | some t => setStair s sw { w with slots := NatMap.set w.slots slot { t with body := .ended status flags work } }
  | none => s

/-- A gallery forgets the conversion of a job. -/
def forgetConversion (sw slot : Nat) (x : Gallery) : Gallery :=
  match x.conversion with
  | some c => if c.sw = sw ∧ c.slot = slot then { x with conversion := none } else x
  | none => x

/-- The job leaves the dispatcher, and its entry's work is over with a status. -/
def closeJob (s : State) (j : Job) (status : Nat) : State :=
  let s := { s with
    disp := { s.disp with jobs := s.disp.jobs.filter fun k => !(k.sw == j.sw && k.slot == j.slot) },
    galleries := s.galleries.map fun e => (e.1, forgetConversion j.sw j.slot e.2) }
  endEntry (releaseWaits s) j.sw j.slot status j.flags j.done

/-- The status of the failing unit of the lowest number; 0 when none has failed (R167). -/
def failStatus (j : Job) : Nat :=
  ((j.failures.foldl (fun (b : Option (Nat × Nat)) e => match b with
    | some x => if x.1 ≤ e.1 then some x else some e
    | none => some e) none).map Prod.snd).getD 0

/-- JOB_COMPLETE: a job that is exhausted, failed or ended and holds no place completes (R167, R203, R204). DESIGN CHOICE: the
status of a faulting access stands over those of units that failed before it (R259, assumption 123). -/
def settleJob (s : State) (sw slot : Nat) : State :=
  match findJob s sw slot with
  | some j =>
    if j.held == 0 && (j.ended.isSome || !j.failures.isEmpty || (j.stage == .tallied && exhausted j)) then
      closeJob s j (j.ended.getD (failStatus j))
    else s
  | none => s

/-- Places held device-wide (R202). -/
def placesHeld (s : State) : Nat := (s.disp.jobs.map Job.held).sum

/-- Places of a job freed. -/
def freePlaces (s : State) (sw slot n : Nat) : State :=
  settleJob (updJob s sw slot fun j => { j with held := j.held - n * unitPlaces j.desc }) sw slot

/-! ### Groups -/

/-- Freed rows at the tail of the landing ring return to it (R109). -/
def popFreed : List (Nat × Option Nat) → Nat → List (Nat × Option Nat) × Nat
  | [], tail => ([], tail)
  | (n, some g) :: rest, tail => ((n, some g) :: rest, tail)
  | (n, none) :: rest, tail => popFreed rest ((tail + n) % 1024)

/-- A group frees its slot and rows (R109, R118). -/
def freeGroup (x : Gallery) (slot : Nat) : Gallery :=
  let segs := x.segments.map fun e => if e.2 = some slot then (e.1, none) else e
  let r := popFreed segs x.tail
  { x with groups := x.groups.filter (·.slot != slot), segments := r.1, tail := r.2 }

/-- A group becomes an orphan: it keeps its slot and rows, or frees them at once (R125). -/
def orphanGroup (hold : Bool) (x : Gallery) (slot : Nat) : Gallery :=
  if hold then
    { x with groups := x.groups.map fun g =>
        if g.slot = slot then { g with phase := .orphan, draining := false } else g }
  else freeGroup x slot

/-- The groups of a ticket, orphans left out. -/
def liveGroups (x : Gallery) (serial : Nat) : List Group :=
  x.groups.filter fun g => g.serial == serial && g.phase != .orphan

/-! ### Tickets -/

/-- A ticket has run in its gallery: it is the running one, or one of its tiles is resident (R201, R231). -/
def hasRun (x : Gallery) (t : Ticket) : Bool :=
  x.tickets.head?.any (·.serial == t.serial) || x.resident.any (·.serial == t.serial)

/-- A job's ticket leaves a gallery in which it has run (R231). -/
def noteRan (s : State) (h g : Nat) (t : Ticket) : State :=
  if hasRun (gal s h g) t then
    updJob s t.sw t.slot fun j => { j with galleries := (17 * h + g) :: j.galleries.filter (· != 17 * h + g) }
  else s

/-- A rounding generator without a ticket; one that no ticket holds is unbound (R143). -/
def releaseGens (x : Gallery) (serial : Nat) : Gallery :=
  let gs := x.gens.map fun e => (e.1, { e.2 with users := e.2.users.filter (· != serial) })
  { x with gens := gs.filter fun e => !e.2.users.isEmpty }

/-- A work item of the VE belongs to a ticket. -/
def VeItem.ofTicket (serial : Nat) : VeItem → Bool
  | .drain n _ => n == serial
  | .vector n => n == serial

/-- Records at the tail of the tile ring that have left the weight registers return their courses in ring order, but
not while the boulder stage of an open group reads them: its drain is among the VE's work items, or runs (R240). -/
def releaseRing (x : Gallery) : Gallery :=
  { x with ring := x.ring.dropWhile fun e => e.left && !(x.groups.any fun gr =>
      gr.serial == e.serial && gr.tile == e.tile && gr.draining && !gr.boulderRows.isEmpty) }

/-- A gallery without a ticket's flights, tiles, conversion and work items; a conversion of the other ticket stays
(R74, R244). -/
def stripTicket (x : Gallery) (serial : Nat) : Gallery :=
  let own (r : Option TileReg) : Bool := r.any (·.serial == serial)
  let fly (f : Option Flight) : Bool := f.any (·.serial == serial)
  { releaseGens x serial with
    tickets := x.tickets.filter (·.serial != serial)
    ring := x.ring.filter (·.serial != serial)
    shadow := if own x.shadow then none else x.shadow
    staged := if fly x.staged then none else x.staged
    flight := if fly x.flight then none else x.flight
    sampling := if own x.resident then none else x.sampling
    quOut := if x.quOut.any (·.serial == serial) then none else x.quOut
    conversion := x.conversion.filter (·.serial != serial)
    streamRows := x.streamRows.filter (·.serial != serial)
    ve := if x.ve.any (VeItem.ofTicket serial) then none else x.ve
    ready := x.ready.filter fun i => !VeItem.ofTicket serial i }

/-- A ticket leaves its gallery unfinished; its groups become orphans, or free without a drain (R74, R125, R336). -/
def abandonTicket (s : State) (h g : Nat) (t : Ticket) (orphans : Bool) : State :=
  let x := stripTicket (gal s h g) t.serial
  let hold := on s (arrPage h g) Reg.lnd.HOLD_ORPHANS
  let slots := (liveGroups x t.serial).map Group.slot
  setGal s h g (releaseRing (slots.foldl (fun x i => if orphans then orphanGroup hold x i else freeGroup x i) x))

/-- Galleries and dressers that hold a ticket. -/
def ticketsHeld (s : State) : List (Nat × Ticket) :=
  s.galleries.flatMap fun e => e.2.tickets.map fun t => (e.1, t)

/-- A job ends with a status: no further ticket, its re-queue list discarded, and its tickets in flight
abandoned with their groups orphaned (R203, R259). The status of an earlier fault stands. -/
def endJob (s : State) (sw slot status : Nat) : State :=
  let s := updJob s sw slot fun j =>
    { j with ended := some (j.ended.getD status), requeue := [], returned := [], held := 0 }
  let mine := (ticketsHeld s).filter fun e => e.2.sw == sw && e.2.slot == slot
  let s := mine.foldl (fun s e => abandonTicket s (e.1 / 17) (e.1 % 17) e.2 true) s
  let s := { s with dressers := s.dressers.filter fun e => !(e.2.sw == sw && e.2.slot == slot) }
  settleJob (releaseWaits s) sw slot

/-- An access for a gallery's work faulted: the gallery reports it and the job ends MEMORY_FAULT
(R259, R333). -/
def galleryAccessFault (s : State) (h g sw slot kind a : Nat) : State :=
  endJob (report s (memPage h g) (0x90 + kind) a) sw slot 0x28

/-- A unit on its job's return list, in ascending unit number, with whether its ticket ran with skipping off
(R337). -/
def insertUnit (u : Nat) (exact : Bool) (l : List (Nat × Bool)) : List (Nat × Bool) :=
  l.filter (·.1 < u) ++ (u, exact) :: l.filter fun e => decide (u ≤ e.1) && e != (u, exact)

/-- A return of a unit by a gallery fault ends its job: the second one does, or the first with REISSUE 0 (R337). -/
def returnLimit (s : State) (j : Job) (u : Nat) : Bool := j.faulted.contains u || !on s .mcService Reg.mcs.REISSUE

/-- The units of an abandoned ticket that have yet to finish. -/
def unfinished (t : Ticket) : List Nat := t.left.filter fun u => !t.finished.contains u

/-- An abandoned ticket's unfinished units go back to their tally, those whose groups have freed finish, and its
places are free (R202, R336); the treads of the units returned are counted (R338). -/
def returnUnits (h : Nat) (byFault : Bool) (s : State) (t : Ticket) : State :=
  let us := unfinished t
  let s := count s (hallPage h) Reg.hall.ABANDONED_TREADS ((us.map fun u => (NatMap.get? t.treads u).getD 0).sum)
  let s := count s (hallPage h) Reg.hall.RETURNED_UNITS us.length
  updJob s t.sw t.slot fun j =>
    let j := { j with held := j.held - t.left.length * unitPlaces j.desc, done := j.done + (t.left.length - us.length) }
    if j.ended.isSome then j
    else { j with
      returned := us.foldl (fun l u => insertUnit u t.exact l) j.returned
      faulted := if byFault then us ++ j.faulted else j.faulted }

/-- The tickets' jobs whose limit of returns a gallery fault reaches. -/
def limitedJobs (s : State) (ts : List Ticket) : List (Nat × Nat) :=
  ts.filterMap fun t => match findJob s t.sw t.slot with
    | some j => if j.ended.isNone && (unfinished t).any (returnLimit s j) then some (t.sw, t.slot) else none
    | none => none

/-- A gallery's two tickets are abandoned and their unfinished units returned (R336, R339); jobs that reach their
limit of returns end (R337). -/
def returnTickets (s : State) (h g : Nat) (byFault : Bool) : State :=
  let ts := (gal s h g).tickets
  let s := ts.foldl (fun s t => noteRan s h g t) s
  let s := ts.foldl (fun s t => abandonTicket s h g t false) s
  let ended := if byFault then limitedJobs s ts else []
  let s := ts.foldl (returnUnits h byFault) s
  let s := ended.foldl (fun s e => endJob s e.1 e.2 0x24) s
  ts.foldl (fun s t => settleJob s t.sw t.slot) s

/-- A ticket of a gallery changed. -/
def updTicket (s : State) (h g serial : Nat) (f : Ticket → Ticket) : State :=
  let x := gal s h g
  setGal s h g { x with tickets := x.tickets.map fun t => if t.serial = serial then f t else t }

/-- A group of a gallery changed. -/
def updGroup (s : State) (h g slot : Nat) (f : Group → Group) : State :=
  let x := gal s h g
  setGal s h g { x with groups := x.groups.map fun e => if e.slot = slot then f e else e }

/-! ### Work items of the VE (R118, R150) -/

/-- A ticket of a gallery. -/
def ticketOf (x : Gallery) (serial : Nat) : Option Ticket := x.tickets.find? (·.serial == serial)

/-- A ticket with its job. -/
def ticketJob (s : State) (h g serial : Nat) : Option (Ticket × Job) :=
  match ticketOf (gal s h g) serial with
  | some t => (findJob s t.sw t.slot).map fun j => (t, j)
  | none => none

/-- The group of a ticket's output tile. -/
def isGroupOf (serial tile : Nat) (g : Group) : Bool := g.serial == serial && g.tile == tile && g.phase != .orphan
def groupOf (x : Gallery) (serial tile : Nat) : Option Group := x.groups.find? (isGroupOf serial tile)

/-- A vector ticket becomes ready when it is fetched: behind another item, its wait is counted (R150). -/
def readyVector (s : State) (h g serial : Nat) : State :=
  let x := gal s h g
  let s := if x.ve.isSome || !x.ready.isEmpty then bump s (vePage h g) Reg.ve.ITEM_WAIT else s
  setGal s h g { x with ready := x.ready ++ [.vector serial] }

/-- When a drain's group opened, among the groups held; none for a vector ticket. -/
def VeItem.age (x : Gallery) : VeItem → Option Nat
  | .drain serial tile => x.groups.findIdx? (isGroupOf serial tile)
  | .vector _ => none

/-- A drain goes ahead of the drains whose groups opened after its own, and behind every other item (R118, R150). -/
def insertDrain (x : Gallery) (it : VeItem) (items : List VeItem) : List VeItem × List VeItem :=
  items.span fun i => match i.age x, it.age x with
    | some a, some b => decide (a < b)
    | _, _ => true

/-- A drain becomes ready when its group closes. Its wait behind another item is counted, and that of an item it goes
ahead of which had none in front of it (R150). -/
def readyDrain (s : State) (h g serial tile : Nat) : State :=
  let x := gal s h g
  let it := VeItem.drain serial tile
  let r := insertDrain x it x.ready
  let waits := (x.ve.isSome || !r.1.isEmpty).toNat + (x.ve.isNone && r.1.isEmpty && !r.2.isEmpty).toNat
  let s := count s (vePage h g) Reg.ve.ITEM_WAIT waits
  setGal s h g { x with ready := r.1 ++ it :: r.2 }

/-- An older group has yet to close, so that the drain may not run: drains run in the order in which the groups
opened (R118). -/
def drainBlocked (x : Gallery) (serial tile : Nat) : Bool :=
  (x.groups.takeWhile fun e => !isGroupOf serial tile e).any fun e => e.phase != .orphan && !e.draining

/-! ### Gallery states (R339, R340) -/

/-- The gallery holds a logical number: REMAP names it (R349). -/
def logicalOf (s : State) (h g : Nat) : Option Nat :=
  (List.range 16).find? fun i => rd s (hallPage h) (Reg.hall.REMAP i) == g

/-- CONTROL.QUIESCE of a gallery. -/
def quiesced (s : State) (h g : Nat) : Bool := on s (arrPage h g) (Reg.hdr.QUIESCE (arrPage h g))

def setQuiesce (s : State) (h g v : Nat) : State := wr s (arrPage h g) (Reg.hdr.QUIESCE (arrPage h g)) v

def outOfService (s : State) (h g : Nat) : Bool :=
  on s (arrPage h g) (Reg.hdr.OUT_OF_SERVICE (arrPage h g))

/-- A gallery is quiescent: no ticket, no group but orphans, its VE idle (R339). -/
def quiescent (s : State) (h g : Nat) : Bool :=
  let x := gal s h g
  x.tickets.isEmpty && x.groups.all (·.phase == .orphan) && x.ve.isNone

/-- A gallery may fetch (R200, R336, R339). -/
def fetching (s : State) (h g : Nat) : Bool :=
  !(gal s h g).faulted && !quiesced s h g && !outOfService s h g && (gal s h g).scrub.isNone
    && (logicalOf s h g).isSome

/-- Local operations, window writes and ACT_SPLIT take effect: the gallery is quiesced (R241). -/
def opensToHost (s : State) (h g : Nat) : Bool :=
  (quiesced s h g && quiescent s h g) || outOfService s h g

end Sys2Proof.Machine
end

