-- ==== Sys2Proof/Machine/Store.lean ====
section
/-! DEFINITION. The gallery memories: words and courses (R236), the errors that their codes find, with the
rows queued for retirement (R248 to R251), and what a fault of a ticket's access does (R249, R259). -/

namespace Sys2Proof.Machine

/-! ### Words -/

/-- The number that registers give a memory (R247, R262). -/
def gmemNum : GMem → Nat
  | .ashlar => 0
  | .activation => 1
  | .landing => 2
  | .skipMap => 3

/-- The name of word `w` of memory `m` in `Gallery.mem`. -/
def memKey (m w : Nat) : Nat := m * 2 ^ 18 + w

/-- Courses of a memory (R236, R247). -/
def memCourses (m : Nat) : Nat := [2048, 2048, 1024, 64].getD m 0

def getWord (x : Gallery) (m w : Nat) : Nat := ((NatMap.get? x.mem (memKey m w)).getD 0).toNat

/-- Words `w` to `w + n - 1` of a memory as an image. -/
def getWords (x : Gallery) (m w : Nat) : Nat → Nat
  | 0 => 0
  | n + 1 => getWord x m w + 2 ^ 32 * getWords x m (w + 1) n

/-- A word of the map; a word of 0 is not listed. -/
def putWord (mem : NatMap Word) (k v : Nat) : NatMap Word :=
  if v % 2 ^ 32 = 0 then NatMap.del mem k else NatMap.set mem k (BitVec.ofNat 32 v)

def putWordsAt (mem : NatMap Word) (k : Nat) : Nat → Nat → NatMap Word
  | 0, _ => mem
  | n + 1, v => putWordsAt (putWord mem k v) (k + 1) n (v / 2 ^ 32)

/-- Words of one protected word: 128 bits in the ashlar store, 64 elsewhere (*Gallery memory
organisation*). -/
def unitWords (m : Nat) : Nat := if m = 0 then 4 else 2

/-- `n` words written from `w`, with fresh check bits. -/
def putWords (x : Gallery) (m w n v : Nat) : Gallery :=
  { x with mem := putWordsAt x.mem (memKey m w) n v,
           broken := x.broken.filter fun k => !decide (memKey m w < k + unitWords m ∧ k < memKey m (w + n)) }

/-! ### Bank rows (R236) -/

/-- The bank row that holds a word: 2^12 × memory + a number within it, the course, or for the activation
store the bank and the row in it. -/
def rowOf (m w : Nat) : Nat :=
  m * 2 ^ 12 + (if m = 1 then w / 16 % 32 + 32 * (w / 4096) else w / 128)

/-- The bank of a row. -/
def bankOf (row : Nat) : Nat :=
  match row / 2 ^ 12 with
  | 0 => row % 16
  | 1 => row % 32
  | _ => row % 8

/-- The first words of the sectors of a row: its words come in runs of 16 words in the activation store and
of 128 elsewhere. -/
def rowRuns (row : Nat) : List (Nat × Nat) :=
  let r := row % 2 ^ 12
  if row / 2 ^ 12 = 1 then (List.range 8).map fun i => (4096 * (r / 32) + 512 * i + 16 * (r % 32), 16)
  else [(128 * r, 128)]

def sameBank (a b : Nat) : Bool := a / 2 ^ 12 == b / 2 ^ 12 && bankOf a == bankOf b

/-- Rows of a list in the bank of a row. -/
def inBank (rows : List Nat) (row : Nat) : Nat := (rows.filter (sameBank row)).length

/-- Something for the MC's automatic repair (R344). -/
def repairEvent (s : State) (e : RepairEvent) : State := { s with mc := { s.mc with repairs := s.mc.repairs ++ [e] } }

/-- A field repair written to the repair record; a full record keeps it no longer than this run (R345). The entry
is an image of its four words (R389). -/
def recordRepair (s : State) (kind hall w1 w2 w3 : Nat) : State :=
  if 4096 ≤ s.mc.record.length then setSticky s .mcService Sticky.mcs.RECORD_FULL
  else
    let e := kind + hall * 2 ^ 4 + w1 * 2 ^ 32 + w2 * 2 ^ 64 + w3 * 2 ^ 96
    { s with mc := { s.mc with record := s.mc.record ++ [e] } }

/-- The bank of a row has a free spare (R250). -/
def spareFree (x : Gallery) (row : Nat) : Bool := decide (inBank x.rowSpared row < 8)

/-- An event that a swap answers. A gallery that has no logical number as it happens cannot be swapped (R340, R344). -/
def swapEvent (s : State) (h g : Nat) (e : RepairEvent) : State :=
  repairEvent s (if (logicalOf s h g).isNone then .unswappable h else e)

/-- A row waits in a bank with no free spare (R251). -/
def exhaustSpares (s : State) (h g : Nat) : State :=
  swapEvent (setSticky s (memPage h g) Sticky.gm.SPARE_EXHAUSTED) h g (.spareExhausted h g)

/-- A bank row is queued for retirement; SPARE_EXHAUSTED when its bank has no free spare (R249 to R251). -/
def queueGalleryRow (s : State) (h g row : Nat) : State :=
  let x := gal s h g
  if x.rowQueue.contains row then s
  else
    let s := setGal s h g { x with rowQueue := x.rowQueue ++ [row] }
    if spareFree x row then repairEvent s (.rowQueued h g) else exhaustSpares s h g

/-! ### Errors found by a read (R248 to R250) -/

/-- The CE counter of a memory. -/
def ceCounter (m : Nat) : Fld := [Reg.gm.AS_CE, Reg.gm.ACT_CE, Reg.gm.LAND_CE].getD m Reg.gm.LAND_CE

/-- A correctable error in a word has been corrected. -/
def memCe (s : State) (h g m w : Nat) : State :=
  let s := setSticky (bump s (memPage h g) (ceCounter m)) (memPage h g) Sticky.gm.MEM_CE
  let x := gal s h g
  let n := (NatMap.get? x.rowCe (rowOf m w)).getD 0 + 1
  let s := setGal s h g { x with rowCe := NatMap.set x.rowCe (rowOf m w) n }
  if rd s (memPage h g) Reg.gm.CE_THRESHOLD ≤ n then queueGalleryRow s h g (rowOf m w) else s

/-- An uncorrectable error in the protected word at `w`: latched when none is, counted, reported, its row
queued (R249). WORD is the 64-bit word in its course, or the first one of the 128. -/
def memUe (s : State) (h g m w : Nat) : State :=
  let p := memPage h g
  let s := setSticky (bump s p Reg.gm.UE_COUNT) p Sticky.gm.MEM_UE
  let s := if on s p Reg.gm.UE_INFO_VALID then s
    else
      let s := wr (wr s p Reg.gm.UE_INFO_MEM m) p Reg.gm.UE_INFO_COURSE (w / 128)
      let s := wr (wr s p Reg.gm.UE_INFO_WORD (w % 128 / 2)) p Reg.gm.UE_INFO_VALID 1
      bump (wr s p Reg.hdr.FAULT_CODE (0x80 + m)) p Reg.hdr.FAULT_COUNT
  queueGalleryRow (report s p (0x80 + m) 0) h g (rowOf m w)

/-- The first protected word of a range that holds an uncorrectable error. -/
def brokenIn (x : Gallery) (m w n : Nat) : Option Nat :=
  (x.broken.find? fun k => decide (memKey m w < k + unitWords m ∧ k < memKey m (w + n))).map (· - memKey m 0)

/-- A read of `n` words for a ticket: their image, or none at an uncorrectable error (R249). -/
def readStore (s : State) (h g m w n : Nat) : State × Option Nat :=
  match brokenIn (gal s h g) m w n with
  | some u => (memUe s h g m u, none)
  | none => (s, some (getWords (gal s h g) m w n))

/-- Words written by the gallery. -/
def writeStore (s : State) (h g m w n v : Nat) : State := setGal s h g (putWords (gal s h g) m w n v)

/-- A range of courses filled with a 32-bit pattern; a pattern of 0 leaves no word listed. -/
def fillCourses (x : Gallery) (m first n pattern : Nat) : Gallery :=
  let lo := memKey m (128 * first)
  let hi := lo + 128 * n
  let filled := if pattern % 2 ^ 32 = 0 then [] else (List.range (128 * n)).map fun i => (lo + i, BitVec.ofNat 32 pattern)
  { x with
    mem := x.mem.filter (fun e => decide (e.1 < lo)) ++ filled ++ x.mem.filter (fun e => decide (hi ≤ e.1))
    broken := x.broken.filter fun k => !decide (lo < k + unitWords m ∧ k < hi) }

/-- A whole memory filled with a pattern. -/
def fillMemory (x : Gallery) (m pattern : Nat) : Gallery := fillCourses x m 0 (memCourses m) pattern

/-! ### Gallery faults (R333, R336) -/

/-- DETAIL of a gallery fault: the job whose ticket was running, else that of the ticket fetched ahead. -/
def faultDetail (x : Gallery) : Nat :=
  match x.tickets.head? with
  | some t => t.sw + t.slot * 2 ^ 4 + 2 ^ 7
  | none => 0

/-- A gallery faults with a code of *Gallery fault codes*: it latches, reports and quiesces, its tickets are
abandoned without a drain, and their units return. -/
def galleryFault (s : State) (h g code : Nat) : State :=
  let x := gal s h g
  let s := latchFault s (arrPage h g) code (faultDetail x)
  let s := setSticky s (hallPage h) Sticky.hall.GALLERY_FAULT
  let s := setQuiesce (setGal s h g { x with faulted := true, busy := true }) h g 1
  swapEvent (returnTickets s h g true) h g (.galleryFault h g)

/-! ### Faults of a ticket's accesses (R249, R259) -/

/-- The stairwell and slot of the job that a gallery's work belongs to. -/
def workJob (x : Gallery) : GalleryWork → Option (Nat × Nat)
  | .running => x.tickets.head?.map fun t => (t.sw, t.slot)
  | .ahead => (x.tickets[1]?).map fun t => (t.sw, t.slot)
  | .group slot => (x.groups.find? (·.slot == slot.val)).map fun e => (e.sw, e.jobSlot)

/-- A ticket's read of a gallery memory failed: its job ends MEMORY_FAULT. -/
def ticketMemFault (s : State) (t : Ticket) : State := endJob s t.sw t.slot 0x28

/-- A ticket's access through the hall cache, in its gallery: the image, or none with the job ended. -/
def ticketRead (s : State) (h g : Nat) (user : HallUser) (t : Ticket) (a n : Nat) : State × Option Nat :=
  match hcRead s h user a n with
  | (s, .ok v) => (s, some v)
  | (s, .fault k f) => (galleryAccessFault s h g t.sw t.slot k f, none)

def ticketWrite (s : State) (h g : Nat) (t : Ticket) (a n v : Nat) : State × Bool :=
  match hcWrite s h (.gallery (Fin.ofNat 17 g)) a n v with
  | (s, .ok _) => (s, true)
  | (s, .fault k f) => (galleryAccessFault s h g t.sw t.slot k f, false)

end Sys2Proof.Machine
end

