-- ==== Sys2Proof/Machine/Landing.lean ====
section
/-! DEFINITION. Landings and accumulation groups: panel entries and boulder lists as a gallery reads them,
the landing's entries and the skip map (R108, R172), openings (R110 to R115), and closing (R118, R182).
Machine/Array.lean holds the additions and retries, Machine/Drain.lean the drains. -/

namespace Sys2Proof.Machine

/-! ### What a ticket's tile is -/

/-- The linear tile index o (R190). -/
def tileIndex (d i nb : Nat) : Nat := i * dNbp d + nb

def dWa (d : Nat) : Nat := fmtWidth (dAfmt d)
def dWw (d : Nat) : Nat := fmtWidth (dWfmt d)
def dCols (d : Nat) : Nat := shapeCols (dShape d)
def tileBytes (d : Nat) : Nat := 4 * dMBlock d * dCols d

/-- The panel entry of a ticket's output tile, and those before it, read once each (R94). -/
def readPanels (h g serial tile : Nat) : Nat → State → State × Option (Nat × Nat)
  | 0, s => (s, none)
  | n + 1, s =>
    match ticketJob s h g serial with
    | none => (s, none)
    | some (t, j) =>
      match t.panels[tile]? with
      | some p => (s, some p)
      | none =>
        let nb := ((ticketTiles j t).getD t.panels.length (0, 0, 0, 0)).2.2.1
        match ticketRead s h g (.gallery (Fin.ofNat 17 g)) t (dIndexAddr j.desc + 8 * nb) 8 with
        | (s, none) => (s, none)
        | (s, some e) =>
          readPanels h g serial tile n (updTicket s h g serial fun t => { t with panels := t.panels ++ [panelEntry e] })

/-- OFFSET32 and TILES of a tile's panel; none when a read faulted, its job ended. -/
def panelOf (s : State) (h g serial tile : Nat) : State × Option (Nat × Nat) :=
  readPanels h g serial tile (tile + 2) s

/-- The tile runs under skipping (R170). -/
def tileSkips (t : Ticket) (j : Job) (tiles : Nat) : Bool :=
  dSkipAddr j.desc != 0 && kMode (j.skip.getD 0) != 0 && tiles == 1 && !t.exact

/-! ### The conversion ring (R242) -/

/-- Courses of one row block. -/
def rowCourses (k c : Nat) : Nat := ceilDiv (64 + 64 * ceilDiv (k * c) 512) 512

def convCourses (s : State) (h g : Nat) : Nat := rd s (memPage h g) Reg.gm.CONV_COURSES

/-- Rows whose blocks fit behind the boulder list: f. -/
def ringRows (s : State) (h g blk : Nat) : Nat := (convCourses s h g - 33) / blk

/-- The boulder list lies in the spill area. -/
def listSpills (s : State) (h g : Nat) : Bool := decide (convCourses s h g < 33)

/-- Where a spilled row lies in device memory, `f` the first one. -/
def spillRow (s : State) (h g f blk row : Nat) : Nat :=
  let base := rd s (memPage h g) Reg.gm.SPILL_ADDR
  if listSpills s h g then base + 33 * 512 + row * 512 * blk else base + (row - f) * 512 * blk

/-- The first word, in the activation store, of a row block in the ring. -/
def ringRow (blk row : Nat) : Nat := 128 * (33 + row * blk)

/-! ### Boulder lists (R59, R190, R242) -/

/-- Rows below `m` that a boulder list names. -/
def listRows (m : Nat) (es : List Nat) : List Nat := ((es.map boulderRow).filter (· < m)).eraseDups

/-- The boulder entries of M-block `i`: the ring or the spill area after a conversion on entry, memory otherwise.
None when a read failed, its job ended. -/
def boulderEntries (s : State) (h g : Nat) (user : HallUser) (t : Ticket) (j : Job) (i : Nat) :
    State × Option (List Nat) :=
  if dActFloat j.desc && !listSpills s h g then
    match readStore s h g 1 0 2 with
    | (s, none) => (ticketMemFault s t, none)
    | (s, some hd) =>
      match readStore s h g 1 2 (2 * boulderCount hd) with
      | (s, none) => (ticketMemFault s t, none)
      | (s, some es) => (s, some ((List.range (boulderCount hd)).map fun n => bits es (64 * n) 64))
  else
    let a := if dActFloat j.desc then rd s (memPage h g) Reg.gm.SPILL_ADDR else dBlAddr j.desc + 16448 * i
    match ticketRead s h g user t a 8 with
    | (s, none) => (s, none)
    | (s, some hd) =>
      if boulderCount hd = 0 then (s, some [])
      else
        match ticketRead s h g user t (a + 8) (8 * boulderCount hd) with
        | (s, none) => (s, none)
        | (s, some es) => (s, some ((List.range (boulderCount hd)).map fun n => bits es (64 * n) 64))

/-! ### The conversion a ticket runs from (R129, R147, R244) -/

/-- The M-block of a ticket. -/
def ticketBlock (j : Job) (t : Ticket) : Nat := (unitPlace j (t.units.headD 0)).1

/-- A conversion on entry is the one that a ticket runs from. -/
def runsFrom (c : Conversion) (t : Ticket) (j : Job) : Bool :=
  t.begun && c.sw == t.sw && c.slot == t.slot && c.block == ticketBlock j t

/-- A row of a ticket's M-block has its codes: flights run from earlier rows while the QU converts the next
(R147). -/
def rowReady (x : Gallery) (t : Ticket) (j : Job) (row : Nat) : Bool :=
  !dActFloat j.desc || t.converted || x.conversion.any fun c => runsFrom c t j && decide (row < c.next)

/-- The rows below `m` that the tile's boulder list names as its group opens: those converted so far, or those of
the list in memory. -/
def openRows (s : State) (h g slot : Nat) (t : Ticket) (j : Job) (i m : Nat) : State × Option (List Nat) :=
  if dActFloat j.desc then
    (s, some (match (gal s h g).conversion.filter fun c => runsFrom c t j with
      | some c => listRows m c.boulders
      | none => []))
  else
    match boulderEntries s h g (.boulder (Fin.ofNat 17 g) (Fin.ofNat 8 slot)) t j i with
    | (s, none) => (s, none)
    | (s, some es) => (s, some (listRows m es))

/-! ### Entries and classes (R108, R172) -/

/-- The landing row of a group that holds entry `e`. -/
def landRow (gr : Group) (e : Nat) : Nat := (gr.head + e / 128) % 1024

/-- The landing word of entry `e` of a group. -/
def landWord (gr : Group) (e : Nat) : Nat := 128 * landRow gr e + e % 128

/-- Words of the rows that a group holds, of the landing or of the skip map. -/
def inRows (gr : Group) (k : Nat) : Bool :=
  let row := if k / 2 ^ 18 = 2 then k % 2 ^ 18 / 128 else k % 2 ^ 18 / 8
  (k / 2 ^ 18 == 2 || k / 2 ^ 18 == 3) && decide (row < 1024 ∧ (row + 1024 - gr.head) % 1024 < gr.rows)

/-- Every row of the group marked zero, and every class exact (R112, R172). -/
def clearRows (x : Gallery) (gr : Group) : Gallery :=
  { x with mem := x.mem.filter fun e => !inRows gr e.1, broken := x.broken.filter fun k => !inRows gr k }

/-- Every class of a group's rows exact. -/
def clearClasses (x : Gallery) (gr : Group) : Gallery :=
  { x with mem := x.mem.filter fun e => !(e.1 / 2 ^ 18 == 3 && inRows gr e.1) }

/-- The class of entry `e` of a group. -/
def classAt (x : Gallery) (gr : Group) (e : Nat) : Nat :=
  bits (getWord x 3 (8 * landRow gr e + e % 128 / 16)) (2 * (e % 16)) 2

/-- The class of entry `e` set. -/
def setClass (x : Gallery) (gr : Group) (e v : Nat) : Gallery :=
  let w := 8 * landRow gr e + e % 128 / 16
  { x with mem := putWord x.mem (memKey 3 w) (setBits (getWord x 3 w) (2 * (e % 16)) 2 v) }

/-- 32-bit two's complement clamped; whether it clamped (R58). -/
def clamp32 (v : Int) : Int × Bool :=
  if v < -2 ^ 31 then (-2 ^ 31, true) else if 2 ^ 31 - 1 < v then (2 ^ 31 - 1, true) else (v, false)

/-! ### Closing (R118, R182) -/

/-- Every output tile of a ticket has closed. -/
def allClosed (x : Gallery) (t : Ticket) (j : Job) : Bool :=
  (List.range (ticketTiles j t).length).all fun k => (groupOf x t.serial k).any (·.phase == .draining)

/-- The misses of a closing tile against its budget (R182). DESIGN CHOICE: RERUN_TILES counts a tile over budget again though
its re-queue is ignored (R338, assumption 124). -/
def judgeMisses (s : State) (h g : Nat) (gr : Group) (j : Job) : State :=
  let b := j.skip.getD 0
  if gr.misses ≤ kMissBudget b then s
  else
    let s := arrFlags s h g gr.sw gr.jobSlot 16
    if kRerun b then
      let s := bump s (arrPage h g) Reg.skp.RERUN_TILES
      if j.requeued.contains gr.unit then s
      else
        bump (updJob s gr.sw gr.jobSlot fun j =>
          { j with requeue := j.requeue ++ [gr.unit], requeued := gr.unit :: j.requeued }) .dispatcher Reg.dsp.REQUEUED
    else bump s (arrPage h g) Reg.skp.LOST_TILES

/-- Groups of a ticket handed to the VE. -/
def markDraining (x : Gallery) (p : Group → Bool) : Gallery :=
  { x with groups := x.groups.map fun e => if p e then { e with draining := true } else e }

/-- The drain of a closed group becomes ready (R118, R150); a requantising ticket's drain is one item, ready when all
its groups have closed (R130). -/
def handToDrain (s : State) (h g : Nat) (t : Ticket) (j : Job) (slot tile : Nat) : State :=
  if dRequant j.desc then
    if allClosed (gal s h g) t j then
      readyDrain (setGal s h g (markDraining (gal s h g) fun e => e.serial == t.serial && e.phase == .draining)) h g t.serial 0
    else s
  else readyDrain (setGal s h g (markDraining (gal s h g) fun e => e.slot == slot)) h g t.serial tile

/-- A group closes, and is handed to the VE for its drain (R118). -/
def closeGroup (s : State) (h g : Nat) (gr : Group) : State :=
  match ticketJob s h g gr.serial with
  | none => s
  | some (t, j) =>
    let skips := (t.panels[gr.tile]?).any fun p => tileSkips t j p.2
    let s := if skips then judgeMisses s h g gr j else s
    handToDrain (updGroup s h g gr.slot fun e => { e with phase := .draining }) h g t j gr.slot gr.tile

/-- The output tile's records have all been received or passed over. -/
def received (t : Ticket) (tile tiles : Nat) : Bool :=
  decide (tile < t.recvTile) || (t.recvTile == tile && decide (tiles ≤ t.recvRec))

def TileReg.of (serial tile : Nat) (r : Option TileReg) : Bool := r.any fun r => r.serial == serial && r.tile == tile
def Flight.of (serial tile : Nat) (f : Option Flight) : Bool := f.any fun f => f.serial == serial && f.tile == tile

/-- A record of the ring is the one in the weight registers, or in the shadow. -/
def RingRec.isTile (e : RingRec) (r : Option TileReg) : Bool :=
  r.any fun r => r.serial == e.serial && r.tile == e.tile && r.record == e.record

/-- Every flight of an output tile has been added, or it has no resident tile. -/
def tileComplete (x : Gallery) (t : Ticket) (gr : Group) (tiles : Nat) : Bool :=
  tiles == 0 || (received t gr.tile tiles
    && !(x.ring.any fun e => e.serial == t.serial && e.tile == gr.tile && !e.left && !e.isTile x.resident)
    && !TileReg.of t.serial gr.tile x.shadow
    && !(x.resident.any fun r => r.serial == t.serial && r.tile == gr.tile && decide (gr.tilesDone ≤ r.record))
    && !Flight.of t.serial gr.tile x.staged && !Flight.of t.serial gr.tile x.flight
    && !(x.sampling.isSome && TileReg.of t.serial gr.tile x.resident))

/-- A group that has opened and whose output tile has made its last flight addition closes; one whose panel has no
resident tile closes directly after opening (R96, R118, R196). -/
def closeDone (s : State) (h g serial tile : Nat) : State :=
  let x := gal s h g
  match ticketOf x serial, groupOf x serial tile with
  | some t, some gr =>
    let loaded := !gr.preloaded || decide (gr.rows ≤ gr.loaded)
    if (gr.phase == .accumulating || gr.phase == .retrying) && loaded
        && tileComplete x t gr ((t.panels.getD tile (0, 1)).2) then closeGroup s h g gr
    else s
  | _, _ => s

/-! ### Opening (R110 to R115) -/

/-- The next opening in program order: the first ticket whose output tiles are not all opened. -/
def nextOpening (s : State) : List Ticket → Option (Ticket × Job)
  | [] => none
  | t :: rest =>
    match findJob s t.sw t.slot with
    | none => nextOpening s rest
    | some j => if dKind j.desc = 1 ∧ t.opened < (ticketTiles j t).length then some (t, j) else nextOpening s rest

/-- The lowest free group slot. -/
def freeGroupSlot (x : Gallery) : Option Nat := (List.range 8).find? fun i => !x.groups.any (·.slot == i)

/-- Rows of the ring that are held (R109). -/
def rowsHeld (x : Gallery) : Nat := (x.segments.map Prod.fst).sum

/-- A group as it opens. -/
def newGroup (t : Ticket) (j : Job) (place : Nat × Nat × Nat × Nat) (slot head : Nat) (sh0 : Nat) (sat : Bool)
    (bl : List Nat) : Group :=
  let m := blockRows j place.2.1
  { slot := slot, head := head, rows := groupRows m (dShape j.desc),
    phase := if dPreload j.desc then .opening else .accumulating, shift := sh0, retries := 0, sat := sat,
    preloaded := dPreload j.desc, boulderRows := bl, sig := dSignature j.desc, sw := t.sw, jobSlot := t.slot,
    serial := t.serial, tile := t.opened, unit := place.1, i := place.2.1, j := place.2.2.1, part := place.2.2.2,
    m := m, sh0 := sh0, loaded := 0, tilesDone := 0, stageRow := 0, addRow := 0, draining := false,
    drained := false, numbered := 0, misses := 0 }

/-- The shift and SATURATED bit of a PRELOAD's side word, or the status that refuses it (R113, R115). -/
def checkSide (d rows w : Nat) : Except Nat (Nat × Bool) :=
  if tsShift w = 3 ∨ tsRows w ≠ rows then .error 0x22
  else if tsSignature w ≠ dSignature d then .error 0x21
  else .ok (4 * tsShift w, tsSaturated w)

/-- The group opens: the lowest free slot and G rows at the allocation head. -/
def openGroup (s : State) (h g : Nat) (t : Ticket) (j : Job) (place : Nat × Nat × Nat × Nat) (slot tiles sh0 : Nat)
    (sat : Bool) (bl : List Nat) : State :=
  let x := gal s h g
  let gr := newGroup t j place slot x.allocHead sh0 sat bl
  let x := if gr.preloaded then clearClasses x gr else clearRows x gr
  let s := setGal s h g { x with
    groups := x.groups ++ [gr]
    segments := x.segments ++ [(gr.rows, some slot)]
    allocHead := (x.allocHead + gr.rows) % 1024 }
  let s := updTicket s h g t.serial fun t => { t with opened := t.opened + 1, openWaited := false }
  let bypass := dSkipAddr j.desc != 0 && kMode (j.skip.getD 0) != 0 && tiles != 1 && !t.exact
  let s := if bypass then arrFlags (bump s (arrPage h g) Reg.skp.SKIP_BYPASS) h g t.sw t.slot 64 else s
  if gr.preloaded then s else closeDone (bump s (arrPage h g) Reg.lnd.GROUPS_OPENED) h g t.serial gr.tile

/-- An opening that has its slot and rows: a PRELOAD's side word is read and checked first (R113). -/
def openChecked (s : State) (h g : Nat) (t : Ticket) (j : Job) (place : Nat × Nat × Nat × Nat) (slot tiles : Nat)
    (bl : List Nat) : State :=
  let d := j.desc
  if dPreload d then
    match ticketRead s h g (.gallery (Fin.ofNat 17 g)) t (dPreSideAddr d + 8 * tileIndex d place.2.1 place.2.2.1) 8 with
    | (s, none) => s
    | (s, some w) =>
      match checkSide d (blockRows j place.2.1) w with
      | .error c =>
        endJob (setSticky s (arrPage h g) (if c = 0x22 then Sticky.arr.BAD_SIDE else Sticky.arr.SIG_FAULT)) t.sw t.slot c
      | .ok (sh0, sat) => openGroup s h g t j place slot tiles sh0 sat bl
  else openGroup s h g t j place slot tiles 0 false bl

/-- An opening waits; the episode is counted once (R110). -/
def openWaits (s : State) (h g : Nat) (t : Ticket) : State :=
  if t.openWaited then s
  else bump (updTicket s h g t.serial fun t => { t with openWaited := true }) (arrPage h g) Reg.lnd.OPEN_WAIT

/-- GROUP_OPEN: the next opening of the gallery, or its wait for a slot or for rows (R110). -/
def execGroupOpen (h : Fin 16) (g : Fin 17) (s : State) : Host.Outcome State Fault Refusal :=
  match nextOpening s (gal s h g).tickets with
  | none => .next s
  | some (t, j) =>
    match panelOf s h g t.serial t.opened with
    | (s, none) => .next s
    | (s, some p) =>
      let place := (ticketTiles j t).getD t.opened (0, 0, 0, 0)
      let m := blockRows j place.2.1
      match freeGroupSlot (gal s h g) with
      | some slot =>
        if rowsHeld (gal s h g) + groupRows m (dShape j.desc) ≤ 1024 then
          match openRows s h g slot t j place.2.1 m with
          | (s, none) => .next s
          | (s, some bl) => .next (openChecked s h g t j place slot p.2 bl)
        else .next (openWaits s h g t)
      | none => .next (openWaits s h g t)

/-! ### Preload rows (R113, R117) -/

/-- The oldest group that still loads its preload. -/
def nextLoad (x : Gallery) : Option Group :=
  x.groups.find? fun e => e.preloaded && decide (e.loaded < e.rows) && e.phase != .orphan && e.phase != .draining

/-- The image of preloaded entries under a raised shift (R117). -/
def shiftPreload (n by_ img : Nat) : Nat :=
  packElems 32 ((List.range n).map fun k => twos 32 (rneQuot (signed 32 (bits img (32 * k) 32)) (2 ^ by_)))

/-- PRELOAD_ROW_LOAD: one landing row of the oldest preload; the opening completes with the last (R113). -/
def execPreloadRowLoad (h : Fin 16) (g : Fin 17) (s : State) : Host.Outcome State Fault Refusal :=
  match nextLoad (gal s h g) with
  | none => .next s
  | some gr =>
    match ticketJob s h g gr.serial with
    | none => .next s
    | some (t, j) =>
      let d := j.desc
      let n := min 128 (gr.m * dCols d - 128 * gr.loaded)
      let a := dSrc2Addr d + tileIndex d gr.i gr.j * tileBytes d + 512 * gr.loaded
      match ticketRead s h g (.gallery g) t a (4 * n) with
      | (s, none) => .next s
      | (s, some img) =>
        let s := writeStore s h g 2 (landWord gr (128 * gr.loaded)) n (shiftPreload n (gr.shift - gr.sh0) img)
        let gr' := { gr with loaded := gr.loaded + 1 }
        if gr'.loaded < gr.rows then .next (updGroup s h g gr.slot fun _ => gr')
        else
          let gr' := { gr' with phase := if gr.retries = 0 then .accumulating else .retrying }
          let s := updGroup s h g gr.slot fun _ => gr'
          let s := if gr.retries = 0 then bump s (arrPage h g) Reg.lnd.GROUPS_OPENED else s
          .next (closeDone s h g t.serial gr.tile)

/-! ### Orphans (R126) -/

/-- A CLOSE frees an orphan; of any other group it has no effect and sets STATE_ERR. -/
def closeOrphan (s : State) (h g slot : Nat) : State :=
  let x := gal s h g
  if x.groups.any fun e => e.slot == slot && e.phase == .orphan then setGal s h g (freeGroup x slot)
  else stateErr s (arrPage h g)

/-- GROUP_CMD_CLOSE. -/
def execGroupCmdClose (h : Fin 16) (g : Fin 17) (slot : Fin 8) (s : State) : Host.Outcome State Fault Refusal :=
  .next (ifPermitted s .mainband (arrPage h g) 0x08C (slot + 2 ^ 4) (closeOrphan s h g slot))

end Sys2Proof.Machine
end

