-- ==== Sys2Proof/Machine/Power.lean ====
section
/-! DEFINITION. The management controller's power page: configuration, timer calibration, the power
loop, the sag warning, REFOSC and the regulators (R22 to R40, R342, R400). -/

namespace Sys2Proof.Machine

/-! ### The ticket limit in force -/

/-- TICKET_LIMIT: the lowest limit of the active throttles (R36, R37, R342). -/
def ticketLimit (s : State) : Nat :=
  let a := if on s .mcPower Reg.mcp.BY_CAP then s.mc.capLimit else 2048
  let b := if on s .mcPower Reg.mcp.BY_SAG then min a (rd s .mcPower Reg.mcp.THROTTLE_TICKETS) else a
  if on s .mcPower Reg.mcp.BY_THERM then min b (rd s .mcService Reg.mcs.THERM_TICKETS) else b

/-- The MC has been started (R355, R370): it samples its sensors, also while its firmware is exchanged. -/
def mcUp (s : State) : Bool := phaseAtLeast s 3 && !on s .reset Reg.rst.RECOVERY

/-- The MC's firmware runs and is not being exchanged (R343). -/
def mcRuns (s : State) : Bool := mcUp s && s.mc.switching != 2

/-! ### Configuration (R39) -/

/-- The fields of a configuration register with their legal ranges (*MC power page*). -/
def configRanges : Nat → List (Fld × Nat × Nat)
  | 0x040 => [(Reg.mcp.VSET_MV, 620, 850)]
  | 0x048 => [(Reg.mcp.CAP_W, 200, 750)]
  | 0x050 => [(Reg.mcp.PERIOD_US, 10, 255), (Reg.mcp.WINDOW_PERIODS, 1, 63), (Reg.mcp.STEP_MV, 1, 15),
      (Reg.mcp.HYST_W, 0, 255), (Reg.mcp.LOOP_EN, 0, 1)]
  | 0x054 => [(Reg.mcp.VWARN_MV, 550, 700), (Reg.mcp.VRESET_MV, 500, 560)]
  | 0x058 => [(Reg.mcp.DEBOUNCE_NS, 100, 65535), (Reg.mcp.SAG_THROTTLE, 0, 1), (Reg.mcp.THROTTLE_TICKETS, 1, 2048)]
  | 0x060 => [(Reg.mcp.CAL_INTERVAL_US, 0, 65535), (Reg.mcp.CAL_DELTA_C, 0, 255)]
  | _ => []

/-- A configuration write is legal: every field in range, and VRESET_MV at most VWARN_MV − 20 (R39). -/
def configLegal (off value : Nat) : Bool :=
  (configRanges off).all (fun r => decide (r.2.1 ≤ bits value r.1.lsb r.1.width ∧ bits value r.1.lsb r.1.width ≤ r.2.2))
    && (off != 0x054 || decide (bits value 16 10 + 20 ≤ bits value 0 10))

/-- Every field of a list taken from a written word. -/
def writeFields (s : State) (p : Page) (fs : List Fld) (value : Nat) : State :=
  fs.foldl (fun s f => wr s p f (bits value f.lsb f.width)) s

/-! ### Calibration (R30, R31) -/

/-- The timers of one hall's galleries. -/
def hallTimers (h : Fin 16) : List Timer :=
  (List.finRange 17).map (Timer.gallery h ·) ++ (List.finRange 17).map (Timer.tread h ·)

/-- The timers outside the halls. -/
def deviceTimers : List Timer :=
  (List.finRange 16).map Timer.timeout ++ (List.finRange 16).map Timer.poll ++ [Timer.oht]
    ++ ((List.finRange 8).map fun l => Timer.link l.castSucc) ++ [Timer.sag, Timer.loop, Timer.firmware]

/-- Every timer that is calibrated (*Delay-line timers*). -/
def allTimers : List Timer := (List.finRange 16).flatMap hallTimers ++ deviceTimers

/-- Timers join those to be calibrated. In holdover calibration has stopped (R32); while the firmware is exchanged
it is suspended, and they wait (R343). -/
def queueTimers (s : State) (ts : List Timer) : State :=
  if on s .mcPower Reg.mcp.HOLDOVER || !mcUp s then s
  else { s with mc := { s.mc with calibrating := s.mc.calibrating ++ ts.filter (!s.mc.calibrating.contains ·) } }

/-- CAL_NOW: every timer is recalibrated (R40). -/
def execCalNow (s : State) : Host.Outcome State Fault Refusal :=
  .next (ifPermitted s .mainband .mcPower 0x060 (2 ^ 31) (queueTimers s allTimers))

/-- CAL_INTERVAL_EXPIRY: the timer is recalibrated (R30). -/
def execCalIntervalExpiry (t : Timer) (s : State) : Host.Outcome State Fault Refusal :=
  .next (queueTimers s [t])

/-- Ring periods per microsecond in 16.8 fixed point, from the count over 4,096 REFOSC periods, 40.96 µs
(R30). -/
def calibrationValue (periods : Nat) : Nat := periods * 25600 / 4096 % 2 ^ 24

/-- The calibration value of a timer. -/
def calOf (s : State) (t : Timer) : Option Nat := List.lookup t s.mc.cal

/-- A list by timer with one entry set. -/
def setTimer {α : Type} (m : List (Timer × α)) (t : Timer) (v : α) : List (Timer × α) := (t, v) :: m.filter (·.1 != t)

/-- A timer that the MC calibrates takes its new value, and its sensor's temperature stands for the next (R30). The
round counts once its last timer is done. -/
def calibrate (s : State) (t : Timer) (periods : Nat) : State :=
  if mcRuns s && s.mc.calibrating.contains t then
    let rest := s.mc.calibrating.filter (· != t)
    let s := { s with mc := { s.mc with
      cal := setTimer s.mc.cal t (calibrationValue periods), calTemps := setTimer s.mc.calTemps t s.mc.temps
      calibrating := rest } }
    if rest.isEmpty then bump s .mcPower Reg.mcp.CAL_COUNT else s
  else s

/-! ### The power loop (R35, R36) and temperatures (R342) -/

/-- The absolute maximum of each rail in mV (*Supply rails*). -/
def railMax : List Nat := [950, 1250, 600, 1000, 800, 1980]

/-- A sample lies beyond an absolute maximum: a rail, or a hall below −20 °C or above 125 °C (R397, R402). -/
def Sensors.beyond (x : Sensors) : Bool :=
  (x.rails.zip railMax).any (fun e => e.1.any fun r => decide (e.2 < r.1.toNat))
    || x.hallTemp.any fun t => decide (t < -80 ∨ 500 < t)

/-- A temperature register takes a sample in units of 0.25 °C. It holds no sign: what it shows below 0 °C the manual
does not state, a free value (assumption 106). -/
def setTemp (s : State) (f : Fld) (t : Int) : State :=
  if 0 ≤ t then wr s .mcService f t.toNat
  else
    let r := draw s
    wr r.2 .mcService f r.1

/-- The regulator of rail `r` answers at its address (R400). -/
def railAddress (s : State) (r : Nat) : Nat := 0x40 + 8 * s.rst.straps.pmaddr.toNat + r

/-- Failed transactions in a row by rail, after one with rail `r` (R400). -/
def failsAfter (m : Mc) (r : Nat) (failed : Bool) : NatMap Nat :=
  if failed then NatMap.set m.fails r ((NatMap.get? m.fails r).getD 0 + 1) else NatMap.del m.fails r

/-- A read of a rail: over AVSBus for VCORE, over PMBus for the others. A transaction that fails is counted until one
succeeds, and leaves the rail's register as it was (R400). -/
def takeRail (s : State) (r : Nat) (answer : Option (BitVec 16 × BitVec 16)) : State :=
  let frame : BusFrame := { address := railAddress s r, target := none, answer := answer.map fun a => (a.1.toNat, a.2.toNat) }
  let m := { s.mc with fails := failsAfter s.mc r answer.isNone }
  let s := { s with mc := if r = 0 then { m with avs := some frame } else { m with pm := some frame } }
  match answer with
  | some a => wr (wr s .mcService (Reg.mcs.RAIL_MV r) a.1.toNat) .mcService (Reg.mcs.RAIL_CURRENT r) a.2.toNat
  | none => s

/-- The temperature and rail registers take a sample (R342, R350). -/
def takeSample (s : State) (x : Sensors) : State :=
  let s := x.hallTemp.zipIdx.foldl (fun s e => setTemp s (Reg.mcs.HALL_TEMP e.2) e.1) s
  let s := x.stackTemp.zipIdx.foldl (fun s e => setTemp s (Reg.mcs.STACK_TEMP e.2) e.1) s
  let s := x.rails.zipIdx.foldl (fun s e => takeRail s e.2 e.1) s
  wr s .mcPower Reg.mcp.VCORE_MV (rd s .mcService (Reg.mcs.RAIL_MV 0))

/-- Power of the rails as last read, in units of 0.1 mW: mV times units of 0.1 A. -/
def railPower (s : State) : Nat :=
  ((List.range 6).map fun r => rd s .mcService (Reg.mcs.RAIL_MV r) * rd s .mcService (Reg.mcs.RAIL_CURRENT r)).sum

/-- The window of power measurements, with POWER_W and ENERGY; what is left of an mJ stays for the next period (R35,
R40). DESIGN CHOICE: while fewer than WINDOW_PERIODS measurements are held, the average is over those (assumption
92). -/
def takePower (s : State) (p : Nat) : State :=
  let w := (p :: s.mc.power).take (rd s .mcPower Reg.mcp.WINDOW_PERIODS)
  let e := s.mc.energyRest + p * rd s .mcPower Reg.mcp.PERIOD_US
  let s := { s with mc := { s.mc with power := w, energyRest := e % 10000000 } }
  let s := wr s .mcPower Reg.mcp.POWER_W (min (w.sum / (10000 * w.length)) 4095)
  count s .mcPower Reg.mcp.ENERGY (e / 10000000)

/-- The average power exceeds a number of watts. -/
def averageAbove (s : State) (watts : Nat) : Bool := decide (watts * 10000 * s.mc.power.length < s.mc.power.sum)

/-- The average power is below a number of watts. -/
def averageBelow (s : State) (watts : Nat) : Bool := decide (s.mc.power.sum < watts * 10000 * s.mc.power.length)

/-- The ticket limit that the power loop holds; BY_CAP shows whether it throttles (R36). -/
def setCapLimit (s : State) (n : Nat) : State :=
  wr { s with mc := { s.mc with capLimit := n } } .mcPower Reg.mcp.BY_CAP (if n < 2048 then 1 else 0)

/-- CAP_UNMET: the cap is not met at the floor, and the limit falls by 128 (R36). -/
def capUnmet (s : State) : State :=
  setCapLimit (setSticky s .mcPower Sticky.mcp.CAP_UNMET) (max 128 (s.mc.capLimit - 128))

/-- The target goes to the regulator of VCORE in an AVSBus transaction, which may fail: a free value (R400). -/
def sendTarget (s : State) (mv : Nat) : State :=
  let r := draw s
  let frame : BusFrame := { address := railAddress s 0, target := some mv, answer := none }
  { r.2 with mc := { r.2.mc with avs := some frame, fails := failsAfter r.2.mc 0 (r.1 % 2 == 1) } }

/-- The VCORE target moves over AVSBus; a change recalibrates every timer (R30, R400). A silent regulator holds it,
and an exchange of the firmware freezes it (R343). -/
def setTarget (s : State) (mv : Nat) : State :=
  if mv = rd s .mcPower Reg.mcp.TARGET_MV || !s.mc.silent.isEmpty || s.mc.switching == 2 then s
  else queueTimers (wr (sendTarget s mv) .mcPower Reg.mcp.TARGET_MV mv) allTimers

/-- With LOOP_EN 0 the target equals VSET and the cap is not enforced (R35). DESIGN CHOICE: while a regulator is
silent R400 holds instead (assumption 107). -/
def openLoop (s : State) : State :=
  if s.mc.silent.isEmpty then setTarget (setCapLimit s 2048) (rd s .mcPower Reg.mcp.VSET_MV) else s

/-- A write of VSET has yet to move the target all the way (R35). -/
def setMove (s : State) (b : Bool) : State := { s with mc := { s.mc with vsetMove := b } }

/-- The target rises by a step, once the ticket limit is restored (R36). -/
def raiseTarget (s : State) (step vset : Nat) : State :=
  if s.mc.capLimit < 2048 then setCapLimit s (min 2048 (s.mc.capLimit + 128))
  else setTarget s (min vset (rd s .mcPower Reg.mcp.TARGET_MV + step))

/-- One period of the loop (R35, R36, R400). -/
def powerLoop (s : State) : State :=
  let target := rd s .mcPower Reg.mcp.TARGET_MV
  let vset := rd s .mcPower Reg.mcp.VSET_MV
  let step := rd s .mcPower Reg.mcp.STEP_MV
  let cap := rd s .mcPower Reg.mcp.CAP_W
  if !s.mc.silent.isEmpty then capUnmet s
  else if !on s .mcPower Reg.mcp.LOOP_EN then openLoop s
  else if averageAbove s cap then
    if target ≤ 620 then capUnmet s else setMove (setTarget s (max 620 (target - step))) false
  else if vset < target then setTarget s (max vset (target - step))
  else if s.mc.vsetMove && decide (target < vset) then raiseTarget s step vset
  else if averageBelow s (cap - rd s .mcPower Reg.mcp.HYST_W) then raiseTarget (setMove s false) step vset
  else setMove s false

/-- A legal write of a configuration register: a change of VSET begins to move the target, and LOOP_EN 0 acts at once
(R35). -/
def configure (s : State) (off value : Nat) : State :=
  let t := writeFields s .mcPower ((configRanges off).map Prod.fst) value
  let t := if rd t .mcPower Reg.mcp.VSET_MV = rd s .mcPower Reg.mcp.VSET_MV then t else setMove t true
  if mcUp t && !on t .mcPower Reg.mcp.LOOP_EN then openLoop t else t

/-- MC_CONFIG_WRITE: discarded as a whole with CFG_REJECT when illegal (R39); without effect at a word that holds no
configuration field (R7, R10). -/
def execMcConfigWrite (off : BitVec 12) (value : BitVec 32) (s : State) : Host.Outcome State Fault Refusal :=
  .next (ifPermitted s .mainband .mcPower off.toNat value.toNat
    (if (configRanges off.toNat).isEmpty then s
    else if configLegal off.toNat value.toNat then configure s off.toNat value.toNat
    else setSticky s .mcPower Sticky.mcp.CFG_REJECT))

/-- The highest temperature of a list. -/
def hottest (temps : List Int) : Int := temps.foldl max (temps.headD 0)

/-- The warning stands from WARN_C until every hall is 3 °C below it; it throttles while THERM_THROTTLE is 1 (R342,
R350). -/
def warn (s : State) (hot : Int) : State :=
  let at_ := 4 * (rd s .mcService Reg.mcs.WARN_C : Int)
  let warned := decide (at_ ≤ hot) || (s.mc.thermWarning && decide (at_ - 12 < hot))
  let throttle := if warned then rd s .mcService Reg.mcs.THERM_THROTTLE else 0
  let s := { s with mc := { s.mc with thermWarning := warned } }
  let s := if at_ ≤ hot then setSticky s .mcService Sticky.mcs.THERM_WARN else s
  wr (wr s .mcService Reg.mcs.WARNING throttle) .mcPower Reg.mcp.BY_THERM throttle

/-- THERM_WARN and THERM_STOP (R342). -/
def thermal (s : State) (temps : List Int) : State :=
  let hot := hottest temps
  let s := setTemp s Reg.mcs.MAX_TEMP hot
  let s := warn (wr s .mcService Reg.mcs.HOTTEST (temps.findIdx (· == hot))) hot
  if 420 < hot then wr (setSticky s .mcService Sticky.mcs.THERM_STOP) .mcService Reg.mcs.STOPPED 1
  else if hot ≤ 400 then wr s .mcService Reg.mcs.STOPPED 0
  else s

/-- The halls whose sensors a timer goes by: its own, or any of the sixteen for a timer outside the halls
(DESIGN CHOICE, assumption 15). -/
def timerHalls : Timer → List (Fin 16)
  | .gallery h _ | .tread h _ => [h]
  | _ => List.finRange 16

/-- A timer's sensor has moved by CAL_DELTA_C since its last calibration, or since the first sample for one that has
had none (R30). -/
def drifted (s : State) (temps : List Int) (t : Timer) : Bool :=
  let delta := 4 * rd s .mcPower Reg.mcp.CAL_DELTA_C
  let old := match List.lookup t s.mc.calTemps with
    | some l => if l.isEmpty then s.mc.firstTemps else l
    | none => s.mc.firstTemps
  delta != 0 && (timerHalls t).any fun h => decide (delta ≤ (temps.getD h.val 0 - old.getD h.val 0).natAbs)

/-- The temperatures of a sample, and the timers that have drifted queued (R30). -/
def driftTimers (s : State) (temps : List Int) : State :=
  let first := if s.mc.firstTemps.isEmpty then temps else s.mc.firstTemps
  let s := { s with mc := { s.mc with temps := temps, firstTemps := first } }
  queueTimers s (allTimers.filter (drifted s temps))

/-- POWER_LOOP_PERIOD: the MC samples its sensors, averages power and moves the target (R35, R342). A
sample beyond an absolute maximum stops the model (R2). -/
def execPowerLoopPeriod (x : Sensors) (s : State) : Host.Outcome State Fault Refusal :=
  if Sensors.beyond x then .fault .beyondAbsoluteMaximum
  else if mcUp s then
    let s := takeSample s x
    .next (driftTimers (powerLoop (thermal (takePower s (railPower s)) x.hallTemp)) x.hallTemp)
  else .next s

/-! ### Sag (R37) -/

/-- VCORE_BELOW_VWARN: the debounce timer starts, and the debounce of an ending warning stops. -/
def execVcoreBelowVwarn (mv : BitVec 10) (s : State) : Host.Outcome State Fault Refusal :=
  if mv.toNat < rd s .mcPower Reg.mcp.VWARN_MV then
    .next { s with mc := { s.mc with lowVcore := true, sagEntry := !s.mc.sagWarning, sagExit := false } }
  else .next s

/-- SAG_WARN_ENTRY: VCORE has stayed below VWARN for DEBOUNCE_NS. DESIGN CHOICE: SAG_THROTTLE is taken here for the
whole warning, while THROTTLE_TICKETS acts whenever it changes (assumption 91). -/
def execSagWarnEntry (s : State) : Host.Outcome State Fault Refusal :=
  if s.mc.sagEntry then
    let s := { s with mc := { s.mc with sagEntry := false, sagWarning := true } }
    let s := wr s .mcPower Reg.mcp.BY_SAG (rd s .mcPower Reg.mcp.SAG_THROTTLE)
    .next (setSticky s .mcPower Sticky.mcp.SAG_WARN)
  else .next s

/-- VCORE_ABOVE_VWARN: at VWARN + 20 mV or above the exit debounce starts; below it, VCORE is no longer
below VWARN and the entry debounce stops. -/
def execVcoreAboveVwarn (mv : BitVec 10) (s : State) : Host.Outcome State Fault Refusal :=
  if rd s .mcPower Reg.mcp.VWARN_MV ≤ mv.toNat then
    let exit := s.mc.sagWarning && decide (rd s .mcPower Reg.mcp.VWARN_MV + 20 ≤ mv.toNat)
    .next { s with mc := { s.mc with lowVcore := false, sagEntry := false, sagExit := exit } }
  else .next s

/-- SAG_WARN_EXIT: the warning and its throttle end; SAG_WARN stays. -/
def execSagWarnExit (s : State) : Host.Outcome State Fault Refusal :=
  if s.mc.sagExit then
    .next (wr { s with mc := { s.mc with sagExit := false, sagWarning := false } } .mcPower Reg.mcp.BY_SAG 0)
  else .next s

/-! ### REFOSC (R32) and the regulators (R400) -/

/-- REFOSC_MONITOR_WINDOW: a count outside 796 to 804 is a loss: holdover, and calibration stops. -/
def execRefoscMonitorWindow (periods : Nat) (s : State) : Host.Outcome State Fault Refusal :=
  if 796 ≤ periods ∧ periods ≤ 804 then .next (wr s .mcPower Reg.mcp.REFOSC_OK 1)
  else
    let s := wr (wr s .mcPower Reg.mcp.REFOSC_OK 0) .mcPower Reg.mcp.HOLDOVER 1
    .next (setSticky { s with mc := { s.mc with calibrating := [] } } .mcPower Sticky.mcp.REFOSC_LOST)

/-- REFOSC_RETURN: the PLLs relock, every timer is recalibrated and HOLDOVER clears. -/
def execRefoscReturn (s : State) : Host.Outcome State Fault Refusal :=
  if on s .mcPower Reg.mcp.HOLDOVER then
    .next (queueTimers (wr (wr s .mcPower Reg.mcp.REFOSC_OK 1) .mcPower Reg.mcp.HOLDOVER 0) allTimers)
  else .next s

/-- REGULATOR_SILENT: a regulator has failed three consecutive transactions. The target is held, R36 applies with
CAP_UNMET, and REPAIR_NEEDED is set. -/
def execRegulatorSilent (rail : Fin 6) (s : State) : Host.Outcome State Fault Refusal :=
  if 3 ≤ (NatMap.get? s.mc.fails rail.val).getD 0 then
    let s := { s with mc := { s.mc with
      silent := if s.mc.silent.contains rail.val then s.mc.silent else rail.val :: s.mc.silent } }
    .next (setSticky (capUnmet s) .mcService Sticky.mcs.REPAIR_NEEDED)
  else .next s

/-- REGULATOR_ANSWERS_AGAIN: once every regulator answers, the MC restores the ticket limit by 128 per
period, this one the first (R36). -/
def execRegulatorAnswersAgain (rail : Fin 6) (s : State) : Host.Outcome State Fault Refusal :=
  if s.mc.silent.contains rail.val && (NatMap.get? s.mc.fails rail.val).isNone then
    let s := { s with mc := { s.mc with silent := s.mc.silent.filter (· != rail.val) } }
    .next (if s.mc.silent.isEmpty then setCapLimit s (min 2048 (s.mc.capLimit + 128)) else s)
  else .next s

end Sys2Proof.Machine
end

