-- ==== Sys2Proof/Machine/Transfer.lean ====
section
/-! DEFINITION. Command addresses reached: reads of host memory asked for (R321, R403), writes at the stack
controllers or through OHT (R220, R221, R226), the entry a stairwell is at (R214), its faults (R225), and
the completion of an entry with its record and message (R226 to R229, R233). -/

namespace Sys2Proof.Machine

/-! ### Reads and writes of command addresses -/

/-- A read of host memory at command address `a`, waiting for a tag (R321). -/
def askHost (s : State) (who : ReadFor) (a n : Nat) : State :=
  { s with hif := { s.hif with reads := s.hif.reads ++ [{ who := who, addr := hostAddr a, len := n, tag := none }] } }

/-- What comes back for an entry or a watched word of a stairwell is no longer wanted (R219, R225). -/
def ReadFor.drop (sw : Nat) : ReadFor → ReadFor
  | .entry w a => if w = sw then .discarded sw else .entry w a
  | .waitWord w => if w = sw then .discarded sw else .waitWord w
  | r => r

/-- The entry and word reads of a stairwell are discarded as they return. -/
def dropReads (s : State) (sw : Nat) : State :=
  { s with hif := { s.hif with reads := s.hif.reads.map fun r => { r with who := r.who.drop sw } } }

/-- What became of a write: it is done, it waits to enter the stream, or it is lost. -/
inductive Written where
  | done | waits | lost
  deriving DecidableEq, Repr

/-- A posted write of an owner has yet to enter the stream (R323). -/
def writeWaits (s : State) (o : Owner) : Bool := s.hif.queued.any fun q => q.owner == some o

/-- Write at a command address for an owner: at the stack controller, or posted through OHT, where it is done once it
has entered the stream and lost while the link is down (R220, R226, R323, R328). -/
def cmdWrite (s : State) (o : Owner) (a n v : Nat) : State × Written :=
  if isHost a then
    let t := post s (some o) (.hostWr (hostAddr a) n v)
    (t, if !linkUp s then .lost else if writeWaits t o then .waits else .done)
  else
    let r := memWrite s .stairwell a n v
    (r.1, if r.2.isOk then .done else .lost)

/-! ### Stairwell faults (R225) -/

/-- The stairwell faults at an entry: FAULTED, LIST_PTR at it, its code, the count and the STICKY bit. -/
def swFault (s : State) (sw addr code : Nat) : State :=
  let s := dropReads s sw
  let s := setStair s sw { stair s sw with state := .faulted, ahead := [], cur := none, wait := none }
  let p := swPage sw
  let s := wr (wr s p Reg.sw.LIST_PTR addr) p Reg.hdr.FAULT_CODE code
  setSticky (bump s p Reg.hdr.FAULT_COUNT) p Sticky.sw.FAULTED

/-! ### Reading the list (R214) -/

/-- The address whose entry may be read next. At most four entries lie ahead of the one executing, and
nothing past a WAIT_WORD, a JUMP or a HALT. -/
def nextRead (s : State) (sw : Nat) : Option Nat :=
  let w := stair s sw
  let room := if w.cur.isSome then 4 else 5
  let open_ := w.ahead.all fun a => match a.got with
    | .data e => !stopsReading (eOpcode e)
    | _ => false
  if w.state != .running || decide (room ≤ w.ahead.length) || !open_ then none
  else match w.ahead.getLast?, w.cur with
    | some a, _ => some (a.addr + 64)
    | none, some c => if stopsReading (eOpcode c.img) then none else some (c.addr + 64)
    | none, none => some (rd s (swPage sw) Reg.sw.LIST_PTR)

/-- The read of the next entry is issued. At the entry itself, an address out of range faults. -/
def issueFetch (s : State) (sw : Nat) : State :=
  match nextRead s sw with
  | none => s
  | some a =>
    let w := stair s sw
    let here := w.cur.isNone && w.ahead.isEmpty
    if cmdLegal a then
      let s := setStair s sw { w with ahead := w.ahead ++ [{ addr := a, got := .pending, again := here }] }
      if isHost a then askHost s (.entry sw a) a 64 else s
    else if here then swFault s sw a 0x02 else s

/-- The first entry read ahead becomes the one the stairwell is at. One whose read-ahead failed is read
again, and a failure of that read faults with LIST_READ. -/
def advance (s : State) (sw : Nat) : State :=
  let w := stair s sw
  match w.state, w.cur, w.ahead with
  | .running, none, a :: rest =>
    match a.got with
    | .pending => s
    | .data e => setStair s sw { w with cur := some { addr := a.addr, img := e, stage := .fetched }, ahead := rest }
    | .failed =>
      if a.again then swFault s sw a.addr 0x04
      else
        let s := setStair s sw { w with ahead := { a with got := .pending, again := true } :: rest }
        if isHost a.addr then askHost s (.entry sw a.addr) a.addr 64 else s
  | _, _, _ => s

/-- What came back of an entry read. -/
def entryArrives (s : State) (sw addr : Nat) (got : Fetched) : State :=
  let w := stair s sw
  advance (setStair s sw { w with ahead := w.ahead.map fun a =>
    if a.addr = addr ∧ a.got = .pending then { a with got := got } else a }) sw

/-! ### Completion (R213, R226, R227, R229, R233) -/

/-- The completion record of an entry; WORK saturates (R9). -/
def recordImage (sw slot e addr status flags work seq : Nat) : Nat :=
  status + eOpcode e * 2 ^ 8 + sw * 2 ^ 16 + slot * 2 ^ 20 + 2 ^ 31 + flags * 2 ^ 32 + eTag e * 2 ^ 64
    + addr * 2 ^ 128 + min work (2 ^ 32 - 1) * 2 ^ 192 + seq * 2 ^ 224

/-- The owner of an entry's writes: its slot, or 8 for an inline entry. -/
def dataOwner (sw slot : Nat) : Owner := { sw := sw, slot := slot, record := false }
def recordOwner (sw slot : Nat) : Owner := { sw := sw, slot := slot, record := true }

/-- The record of an entry, if it has one, is written with the next SEQ; RECORD_LOST when its write fails. Whether it
has yet to enter the stream. -/
def writeRecord (s : State) (sw own slot e addr status flags work : Nat) : State × Bool :=
  if eRecord e = 0 then (s, false)
  else
    let w := stair s sw
    let seq := (w.seq + 1) % 2 ^ 32
    match cmdWrite (setStair s sw { w with seq := seq }) (recordOwner sw own) (eRecord e) 32
        (recordImage sw slot e addr status flags work seq) with
    | (s, .done) => (bump s (swPage sw) Reg.sw.RECORDS, false)
    | (s, .waits) => (s, true)
    | (s, .lost) => (setSticky s (swPage sw) Sticky.sw.RECORD_LOST, false)

/-- An error status is counted, and seen by the next FENCE (R217, R227). -/
def noteError (s : State) (sw status : Nat) : State :=
  if status ≤ 1 then s
  else
    let s := setStair s sw { stair s sw with errSeen := true }
    setSticky (bump s (swPage sw) Reg.sw.JOB_ERRORS) (swPage sw) Sticky.sw.JOB_ERROR

/-- An entry is complete: its error is counted and its message sent. A SIGNAL sends its one message whether or not
INTR is set (R220, R233). -/
def closeEntry (s : State) (sw e status : Nat) : State :=
  let s := noteError s sw status
  if eIntr e || eOpcode e == 0x05 then signal s (eVec e) else s

/-- The entry the stairwell is at, in a stage. -/
def setStage (s : State) (sw : Nat) (c : Current) (g : Stage) : State :=
  setStair s sw { stair s sw with cur := some { c with stage := g } }

/-- A HALT ends the list: a stairwell that is not being killed is idle (R224). -/
def haltList (s : State) (sw : Nat) : State :=
  if (stair s sw).state = .running then
    setSticky (setStair s sw { stair s sw with state := .idle, ahead := [] }) (swPage sw) Sticky.sw.HALTED
  else s

/-- The inline entry the stairwell is at is complete, and the next one is at hand (R213). -/
def endInline (s : State) (sw : Nat) (c : Current) (status : Nat) : State :=
  let s := closeEntry s sw c.img status
  let s := setStair s sw { stair s sw with cur := none }
  if eOpcode c.img = 0x0C then haltList s sw else advance s sw

/-- The inline entry the stairwell is at completes: its record is written first, and has to enter the stream
(R213, R323). -/
def finishInline (s : State) (sw : Nat) (c : Current) (status : Nat) : State :=
  let w := stair s sw
  let st := if w.state == .waiting then SwState.running else w.state
  match writeRecord (setStair s sw { w with wait := none, state := st }) sw 8 0 c.img c.addr status 0 0 with
  | (s, true) => setStage s sw c (.recording status)
  | (s, false) => endInline s sw c status

/-! ### Starting an entry (R213, R215, R216) -/

/-- An entry starts: it is counted, and LIST_PTR names the one after it (R230, R235). -/
def startEntry (s : State) (sw : Nat) (c : Current) : State :=
  wr (bump s (swPage sw) Reg.sw.ENTRIES) (swPage sw) Reg.sw.LIST_PTR (c.addr + 64)

/-- The lowest free slot. -/
def freeSlot (w : Stairwell) : Option Nat := (List.range 8).find? fun i => (NatMap.get? w.slots i).isNone

/-- A tracked entry starts: it takes the lowest free slot, and the stairwell goes on (R213). -/
def holdSlot (s : State) (sw : Nat) (c : Current) (slot : Nat) (body : Body) : State :=
  let s := startEntry s sw c
  let w := stair s sw
  advance (setStair s sw { w with
    cur := none
    slots := NatMap.set w.slots slot { addr := c.addr, img := c.img, killed := false, body := body } }) sw

/-- What holds an entry up: earlier entries, or eight held slots (R216). -/
def entryWait (w : Stairwell) (e : Nat) : Option Stage :=
  if waitsPrior e && !w.slots.isEmpty then some .waitPrior
  else if tracked (eOpcode e) && (freeSlot w).isNone then some .waitSlot
  else none

/-- The entry the stairwell is at, just fetched, is checked and started by `body`; it waits first when it
must, and a wait for a slot is counted (R215, R216). -/
def beginEntry (s : State) (sw : Nat) (op : Nat) (body : State → Nat → Current → State) : State :=
  match (stair s sw).cur with
  | some c =>
    if (stair s sw).state = .running ∧ c.stage = .fetched ∧ eOpcode c.img = op then
      match entryFault c.img with
      | some f => swFault s sw c.addr f
      | none =>
        match entryWait (stair s sw) c.img with
        | some .waitSlot => setStage (bump s (swPage sw) Reg.sw.SLOT_WAIT) sw c .waitSlot
        | some g => setStage s sw c g
        | none => body s sw c
    else s
  | none => s

/-! ### Tracked entries complete, and writes that had to wait (R213, R226, R323) -/

/-- A tracked entry is complete, and its slot frees. -/
def closeSlot (s : State) (sw slot e status : Nat) : State :=
  let s := closeEntry s sw e status
  setStair s sw { stair s sw with slots := NatMap.del (stair s sw).slots slot }

/-- The work of a tracked entry changed. -/
def setBody (s : State) (sw slot : Nat) (b : Body) : State :=
  let w := stair s sw
  match NatMap.get? w.slots slot with
  | some t => setStair s sw { w with slots := NatMap.set w.slots slot { t with body := b } }
  | none => s

/-- A tracked entry whose work is over completes, once its writes of host memory have entered the stream. -/
def completeSlot (s : State) (sw slot : Nat) (t : Tracked) (status flags work : Nat) : State :=
  if writeWaits s (dataOwner sw slot) then s
  else
    match writeRecord s sw slot slot t.img t.addr status flags work with
    | (s, true) => setBody s sw slot (.recording status)
    | (s, false) => closeSlot s sw slot t.img status

/-- A completion record that waited has entered the stream, or was lost (R226, R323). -/
def noteRecord (s : State) (sw : Nat) (entered : Bool) : State :=
  if entered then bump s (swPage sw) Reg.sw.RECORDS else s

/-- The entry a stairwell is at goes on once its write has entered the stream. -/
def settleInline (entered : Bool) (s : State) (sw : Nat) : State :=
  match (stair s sw).cur with
  | some c =>
    match c.stage with
    | .posting => if writeWaits s (dataOwner sw 8) then s else finishInline s sw c 0
    | .recording status => if writeWaits s (recordOwner sw 8) then s else endInline (noteRecord s sw entered) sw c status
    | _ => s
  | none => s

/-- A tracked entry is complete once its record has entered the stream. -/
def settleSlot (entered : Bool) (sw : Nat) (s : State) (e : Nat × Tracked) : State :=
  match e.2.body with
  | .recording status => if writeWaits s (recordOwner sw e.1) then s else closeSlot (noteRecord s sw entered) sw e.1 e.2.img status
  | _ => s

/-- Packets have entered the stream, or, the link having fallen, were lost: the entries whose writes they were go on. -/
def settleWrites (s : State) (entered : Bool) : State :=
  (List.range 16).foldl (fun s sw => settleInline entered ((stair s sw).slots.foldl (settleSlot entered sw) s) sw) s

end Sys2Proof.Machine
end

