-- ==== Sys2Proof/Machine/Tally.lean ====
section
/-! DEFINITION. The dispatcher: accepting a job, the blocks read at issue, the static checks, the run-time
extents, and the handing out of tickets (R187 to R207, R404, R405). -/

namespace Sys2Proof.Machine

/-! ### The blocks a job reads at issue (R404, R405) -/

/-- A block's address is one at which it is read. -/
def blockLegal (a align : Nat) : Bool := a % align == 0 && decide (a < 2 ^ 40)

/-- The blocks that a job's kind and modes read: which (0 AUX, 1 CONV, 2 SKIP), address, bytes read,
alignment. -/
def blockList (j : Job) : List (Nat × Nat × Nat × Nat) :=
  let d := j.desc
  match dKind d with
  | 1 => [(1, dConvAddr d, if dActFloat d then 64 else 4, 64)]
      ++ (if dRequant d then [(0, dAuxAddr d, 64, 64)] else [])
      ++ (if dSkipAddr d = 0 then [] else [(2, dSkipAddr d, 128, 128)])
  | 2 => [(1, dConvAddr d, 64, 64)]
  | 3 => (0, dAuxAddr d, 64, 64) :: (if isSplitkSum j then [(1, dConvAddr d, 4, 64)] else [])
  | 4 => [(0, dAuxAddr d, 64, 64)]
  | _ => []

/-- What has been read of a block. -/
def blockOf (j : Job) : Nat → Option Nat
  | 0 => j.aux
  | 1 => j.conv
  | _ => j.skip

/-- The next block to read. -/
def nextBlock (j : Job) : Option (Nat × Nat × Nat × Nat) :=
  (blockList j).find? fun b => (blockOf j b.1).isNone && blockLegal b.2.1 b.2.2.2

def keepBlock (j : Job) (which img : Nat) : Job :=
  match which with
  | 0 => { j with aux := some img }
  | 1 => { j with conv := some img }
  | _ => { j with skip := some img }

/-! ### Checks at issue (R191) -/

/-- An address field that a kind reads: its value, the alignment it needs, and whether it must lie in
device memory. -/
def addressFields (d : Nat) (splitk : Bool) : List (Nat × Nat × Bool) :=
  let mcv := [(dActRowStride d, 64, false), (dOutRowStride d, 64, false), (dExtAddr d, 16, true),
    (dActAddr d, 64, true), (dOutAddr d, 64, true)]
  let mv := [(dSideAddr d, 8, true), (dColrecAddr d, 8, true), (dSrc2Addr d, 64, true)]
  let mc := [(dOutSideAddr d, 8, true), (dOutBlAddr d, 64, true), (dConvAddr d, 1, true)]
  match dKind d with
  | 1 => mcv ++ mv ++ mc ++ [(dBlAddr d, 64, true), (dStreamAddr d, 32, true), (dIndexAddr d, 8, true),
      (dPreSideAddr d, 8, true), (dBtAddr d, 64, true), (dPartStride d, 64, false), (dAuxAddr d, 1, true),
      (dSkipAddr d, 1, true)]
  | 2 => mcv ++ mc
  | 3 => mcv ++ mv ++ [(dBRowStride d, 64, false), (dAuxAddr d, 1, true)]
      ++ (if splitk then [(dConvAddr d, 1, true)] else [])
  | _ => [(dAuxAddr d, 1, true)]

/-- Step 1: BAD_DESCRIPTOR. -/
def badDescriptor (j : Job) : Bool :=
  let d := j.desc
  let kind := dKind d
  let matmul := kind == 1
  let split := matmul && dSplitK d
  !decide (1 ≤ kind ∧ kind ≤ 4) || dExtSrc d == 3 || (dExtSrc d == 1 && decide (13 < dExtReg d))
    || (kind == 4 && dExtSrc d != 0)
    || (kind != 4 && (dMPlan d == 0 || !decide (1 ≤ dKPlan d ∧ dKPlan d ≤ 4194304)
        || !decide (1 ≤ dMBlock d ∧ dMBlock d ≤ 1024)))
    || (readsN j && !decide (1 ≤ dNPlan d ∧ dNPlan d ≤ 16777216))
    || (split && (!decide (1 ≤ dKSplit d ∧ dKSplit d ≤ 1024) || dPreload d))
    || (addressFields d (isSplitkSum j)).any (fun f => f.1 % f.2.1 != 0 || (f.2.2 && decide (2 ^ 40 ≤ f.1)))
    || (kind != 4 && decide (2 ^ 32 ≤ dMbp d * (if readsN j then dNbp d else 1) * dParts d))

/-- Step 2: BAD_FORMAT (R41, R121, R188). -/
def badFormat (d : Nat) : Bool :=
  dKind d == 1 && (!(fmtLegal (dWfmt d) && fmtKind (dWfmt d) == 1) || !(fmtLegal (dAfmt d) && fmtKind (dAfmt d) == 0)
    || (if dSplitK d then dYfmt d != 0x20
        else !(fmtKind (dYfmt d) == 0 || ([0x20, 0x30, 0x40, 0x50] : List Nat).contains (dYfmt d))))

/-- Step 3: BAD_CONV_BLOCK (R132, R405). -/
def badConversion (j : Job) : Bool :=
  let d := j.desc
  let conv := j.conv.getD 0
  let aux := j.aux.getD 0
  match dKind d with
  | 1 => j.conv.isNone || (dActFloat d && (convBad (dConvAddr d) conv true true || cbAfmt conv != dAfmt d))
      || (dRequant d && (j.aux.isNone || convBad (dAuxAddr d) aux false false || cbAfmt aux != dYfmt d))
  | 2 => j.conv.isNone || convBad (dConvAddr d) conv true false
  | 3 => isSplitkSum j && j.conv.isNone
  | _ => false

/-- Step 4: the status of a vector, skip or dresser block that is refused (R103, R153, R184). -/
def badBlock (j : Job) : Option Nat :=
  let d := j.desc
  match dKind d with
  | 1 => if dSkipAddr d ≠ 0 ∧ (j.skip.isNone || skipBad d (j.skip.getD 0)) then some 0x14 else none
  | 3 => if j.aux.isNone || vopBad (j.aux.getD 0) then some 0x13 else none
  | 4 => if j.aux.isNone || dressBad (j.aux.getD 0) then some 0x15 else none
  | _ => none

/-- The status of the first static check that fails: steps 1 to 6. -/
def staticStatus (j : Job) : Option Nat :=
  let d := j.desc
  let g := groupRows (dMBlock d) (dShape d)
  if badDescriptor j then some 0x10
  else if badFormat d then some 0x11
  else if badConversion j then some 0x12
  else match badBlock j with
    | some c => some c
    | none =>
      if dKind d = 1 ∧ 1024 < g then some 0x16
      else if dRequant d ∧ (8 < dNbp d ∨ 1024 < dNbp d * g) then some 0x17
      else none

/-! ### Issue -/

/-- A job is refused at issue: counted, and its entry's work is over (R192, R207). -/
def refuseJob (s : State) (j : Job) (status : Nat) : State :=
  closeJob (setSticky (bump s .dispatcher Reg.dsp.JOBS_REFUSED) .dispatcher Sticky.dsp.JOB_REFUSED) j status

/-- The static checks of a job whose blocks have all been read. -/
def checkJob (s : State) (j : Job) : State :=
  match staticStatus j with
  | some c => refuseJob s j c
  | none => updJob s j.sw j.slot fun j => { j with stage := .extents }

/-- A job as it issues. -/
def newJob (sw slot desc : Nat) : Job :=
  { sw := sw, slot := slot, desc := desc, stage := .blocks, conv := none, aux := none, skip := none,
    m := dMPlan desc, n := dNPlan desc, k := dKPlan desc, units := 0, next := 0, done := 0, held := 0,
    returned := [], faulted := [], requeue := [], requeued := [], burst := [], failures := [], ended := none,
    flags := 0, galleries := [] }

/-- The job a stairwell offers. DESIGN CHOICE: of several, the one in the lowest slot (R191, assumption 128). -/
def offered (w : Stairwell) : Option (Nat × Option Nat) :=
  w.slots.findSome? fun e => match e.2.body with
    | .offered d => some (e.1, d)
    | _ => none

/-- The next stairwell that offers a job, in ascending number after the last (*Checks at issue*). -/
def nextOffer (s : State) : Option (Nat × Nat × Option Nat) :=
  (List.range 16).findSome? fun i =>
    let sw := (s.disp.lastSw + 1 + i) % 16
    (offered (stair s sw)).map fun o => (sw, o)

/-- The entry's body once its job is at the dispatcher. -/
def markIssued (s : State) (sw slot : Nat) : State :=
  let w := stair s sw
  setStair s sw { w with slots := w.slots.map fun e => if e.1 = slot then (e.1, { e.2 with body := .issued }) else e }

/-- JOB_ISSUE: the dispatcher accepts a job (R191); no job is issued while the MC's firmware is exchanged
(R343). A misaligned descriptor, and a job that reads no block, are checked at once. -/
def execJobIssue (s : State) : Host.Outcome State Fault Refusal :=
  match nextOffer s with
  | none => .next s
  | some (sw, slot, d) =>
    if s.mc.switching = 2 then .next s
    else
      let j := newJob sw slot (d.getD 0)
      let s := markIssued (bump s .dispatcher Reg.dsp.JOBS_ISSUED) sw slot
      let s := { s with disp := { s.disp with lastSw := sw, jobs := s.disp.jobs ++ [j] } }
      if d.isNone then .next (refuseJob s j 0x10)
      else if (nextBlock j).isNone then .next (checkJob s j)
      else .next s

/-- ISSUE_BLOCK_READ_DONE: a block is kept for the whole job; a read that faults ends it MEMORY_FAULT; after
the last block the checks are made (R404). -/
def execIssueBlockReadDone (sw : Fin 16) (slot : Fin 8) (s : State) : Host.Outcome State Fault Refusal :=
  match findJob s sw slot with
  | none => .next s
  | some j =>
    match if j.stage = .blocks then nextBlock j else none with
    | none => .next s
    | some (which, a, n, _) =>
      match memRead s .stairwell a n with
      | (s, .fault _ _) => .next (refuseJob s j 0x28)
      | (s, .ok v) =>
        let k := keepBlock j which v
        let s := updJob s sw slot fun j => keepBlock j which v
        .next (if (nextBlock k).isNone then checkJob s k else s)

/-! ### Run-time extents (R193 to R195) -/

/-- M, N and K from their source; none when the read faults. -/
def readExtents (s : State) (j : Job) : State × Option (Nat × Nat × Nat) :=
  let d := j.desc
  match dExtSrc d with
  | 1 => (s, some (rd s .dispatcher (Reg.dsp.EXT (dExtReg d)), rd s .dispatcher (Reg.dsp.EXT (dExtReg d + 1)),
      rd s .dispatcher (Reg.dsp.EXT (dExtReg d + 2))))
  | 2 =>
    match memRead s .stairwell (dExtAddr d) 12 with
    | (s, .ok v) => (s, some (fieldAt v 0 4, fieldAt v 4 4, fieldAt v 8 4))
    | (s, .fault _ _) => (s, none)
  | _ => (s, some (dMPlan d, dNPlan d, dKPlan d))

/-- The extents that a job reads, each with its planned value (R193). -/
def extentPairs (j : Job) (m n k : Nat) : List (Nat × Nat) :=
  let d := j.desc
  if dKind d = 4 then []
  else [(m, dMPlan d)] ++ (if readsN j then [(n, dNPlan d)] else [])
    ++ (if isSplitkSum j then [] else [(k, dKPlan d)])

/-- The tally is created: the extents stand for the whole job (R194, R198, R200). -/
def createTally (j : Job) (m n k : Nat) : Job :=
  let j := { j with stage := .tallied, m := m, n := n, k := k }
  { j with units := jobUnits j }

/-- EXTENT_READ_DONE: steps 7 to 10 of *Checks at issue*. -/
def execExtentReadDone (sw : Fin 16) (slot : Fin 8) (s : State) : Host.Outcome State Fault Refusal :=
  match findJob s sw slot with
  | none => .next s
  | some j =>
    if j.stage ≠ .extents then .next s
    else
      match readExtents s j with
      | (s, none) => .next (refuseJob s j 0x28)
      | (s, some (m, n, k)) =>
        let es := extentPairs j m n k
        if es.any (fun e => decide (e.2 < e.1)) then .next (refuseJob s j 0x18)
        else if es.any (fun e => e.1 == 0) then .next (closeJob (bump s .dispatcher Reg.dsp.JOBS_EMPTY) j 1)
        else .next (updJob s sw slot fun j => createTally j m n k)

/-! ### Fetch requests (R200, R201) -/

/-- The last unit of a ticket has begun. -/
def lastUnitBegun (s : State) (t : Ticket) : Bool :=
  match findJob s t.sw t.slot with
  | none => true
  | some j =>
    if dKind j.desc = 1 then (if dRequant j.desc then decide (1 ≤ t.opened) else decide (t.units.length ≤ t.opened))
    else t.begun

/-- A hall is retired or being retired (R341). -/
def hallOut (s : State) (h : Nat) : Bool := on s (hallPage h) Reg.hall.RETIRED || on s (hallPage h) Reg.hall.RETIRING

/-- A fetcher may ask for a ticket. -/
def mayFetch (s : State) : Fetcher → Bool
  | .gallery h g => fetching s h g && !hallOut s h && match (gal s h g).tickets with
      | [] => true
      | [t] => lastUnitBegun s t
      | _ => false
  | .dresser h => !hallOut s h && (NatMap.get? s.dressers h.val).isNone

/-- TICKET_FETCH_REQUEST. -/
def execTicketFetchRequest (f : Fetcher) (s : State) : Host.Outcome State Fault Refusal :=
  if ready s && mayFetch s f && !s.disp.requests.any (·.who == f) then
    .next { s with disp := { s.disp with requests := s.disp.requests ++ [{ who := f, waited := false }] } }
  else .next s

/-! ### Grants (R199 to R204, R337) -/

/-- Units one ticket takes at most (R198, R199). -/
def ticketSize (j : Job) : Nat := if dKind j.desc = 1 ∧ !dRequant j.desc then dFetch j.desc else 1

/-- The units of the next ticket, whether it runs with skipping off, and the job without them: returned units first,
which run as they ran before, then numbered ones within one M-block, then re-queued ones (R182, R199, R204, R337,
R338). -/
def takeUnits (j : Job) : List Nat × Bool × Job :=
  match j.returned with
  | (u, exact) :: rest => ([u], exact, { j with returned := rest })
  | [] =>
    if j.next < j.units then
      let us := (List.range (min (ticketSize j) (j.units - j.next))).map (j.next + ·)
      let us := us.takeWhile fun u => (unitPlace j u).1 == (unitPlace j j.next).1
      (us, false, { j with next := j.next + us.length })
    else
      match j.requeue with
      | u :: rest => ([u], true, { j with requeue := rest })
      | [] => ([], false, j)

/-- The ticket makes statistics adds and writes row errors: it holds a unit in N-block 0 of part 0 whose burst
has not begun (R146, R244, R338). -/
def makesRecords (j : Job) (us : List Nat) : Bool :=
  us.any fun u => (unitPlace j u).2 == (0, 0) && !j.burst.contains u

/-- A ticket as granted. -/
def newTicket (j : Job) (serial : Nat) (us : List Nat) (exact : Bool) : Ticket :=
  { serial := serial, sw := j.sw, slot := j.slot, units := us, left := us, opened := 0, panels := [], recvTile := 0,
    recvRec := 0, exact := exact, afresh := !j.returned.isEmpty, converted := false, records := makesRecords j us,
    waited := false, openWaited := false, begun := false, written := false, treads := [], finished := [], timer := 0 }

/-- Where a request stands in its rotation: galleries by logical number before dressers by hall. A fetcher
that may no longer fetch is passed over. -/
def requestRank (s : State) (r : Request) : Option Nat :=
  match r.who with
  | .gallery h g =>
    if fetching s h g && !hallOut s h then
      (logicalOf s h g).map fun i => (16 * h.val + i + 255 - s.disp.lastGallery) % 256
    else none
  | .dresser h => if hallOut s h then none else some (256 + (h.val + 15 - s.disp.lastDresser) % 16)

/-- The request first in rotation among those that a job can serve. -/
def nextRequest (s : State) : Option (Request × Job) :=
  let c := s.disp.requests.filterMap fun r => match requestRank s r, jobFor s r.who with
    | some k, some j => some (k, r, j)
    | _, _ => none
  (c.foldl (fun (b : Option (Nat × Request × Job)) e => match b with
    | some x => if x.1 ≤ e.1 then b else some e
    | none => some e) none).map Prod.snd

/-- Bytes at a device address as a hall sees them, read without any effect. -/
def peek (s : State) (h a n : Nat) : Nat :=
  (List.range n).foldr (fun i acc =>
    let b := a + i
    let v := match findLine s h (b / 64) with
      | some x => bits x.data (8 * (b % 64)) 8
      | none => (byteAt s.dram (cellOf s (place s b).1 (place s b).2)).toNat
    v + 256 * acc) 0

/-- Prefetch `n` tile records of a panel from record `first` on, up to its last (R94, R255). -/
def prefetchRecords (s : State) (h : Nat) (j : Job) (panel : Nat × Nat) (first n : Nat) : State :=
  let size := recordBytes (fmtWidth (dWfmt j.desc))
  let n := min n (panel.2 - first)
  if n = 0 then s else prefetchRange s h (dStreamAddr j.desc + 32 * panel.1 + first * size) (n * size)

/-- Prefetch the first `n` records of the panels of a list of N-blocks (R255). -/
def prefetchPanels (h : Nat) (j : Job) : Nat → List Nat → State → State
  | _, [], s => s
  | n, nb :: rest, s =>
    if n = 0 then s
    else
      let p := panelEntry (peek s h (dIndexAddr j.desc + 8 * nb) 8)
      prefetchPanels h j (n - p.2) rest (prefetchRecords s h j p 0 n)

/-- Prefetch for a ticket fetched ahead: the first PF_DEPTH tile records of its panels (R255). -/
def prefetchAhead (s : State) (h g : Nat) (j : Job) (t : Ticket) : State :=
  if dKind j.desc = 1 ∧ dPfDepth j.desc ≠ 0 ∧ 2 ≤ (gal s h g).tickets.length then
    prefetchPanels h j (dPfDepth j.desc) ((ticketTiles j t).map fun u => u.2.2.1) s
  else s

/-- The ticket goes to its fetcher. -/
def deliverTicket (s : State) (f : Fetcher) (j : Job) (t : Ticket) : State :=
  match f with
  | .gallery h g =>
    let s := { s with disp := { s.disp with lastGallery := 16 * h.val + (logicalOf s h g).getD 0 } }
    let s := setGal s h g { gal s h g with tickets := (gal s h g).tickets ++ [t], busy := true }
    let s := if dKind j.desc = 3 then readyVector s h g t.serial else s
    prefetchAhead s h g j t
  | .dresser h => { s with disp := { s.disp with lastDresser := h.val }, dressers := NatMap.set s.dressers h t }

/-- The ticket fits under the limit in force, or no place is held (R202). -/
def fits (s : State) (n : Nat) : Bool := placesHeld s == 0 || decide (placesHeld s + n ≤ ticketLimit s)

/-- TICKET_GRANT: one fetch, or one FETCH_WAIT episode; none is granted above 105 °C (R342). DESIGN CHOICE: the first request
in rotation, when its ticket does not fit, keeps the others waiting, and it alone counts an episode (R202, assumption 59). -/
def execTicketGrant (s : State) : Host.Outcome State Fault Refusal :=
  if on s .mcService Reg.mcs.STOPPED then .next s
  else
    match nextRequest s with
    | none => .next s
    | some (r, j) =>
      let (us, exact, j') := takeUnits j
      let places := us.length * unitPlaces j.desc
      if fits s places then
        let s := bump s .dispatcher Reg.dsp.FETCHES
        let t := newTicket j s.disp.serial us exact
        let s := { s with disp := { s.disp with serial := s.disp.serial + 1, requests := s.disp.requests.filter (·.who != r.who) } }
        .next (deliverTicket (releaseWaits (updJob s j.sw j.slot fun _ => { j' with held := j.held + places })) r.who j t)
      else if r.waited then .next s
      else
        let s := bump s .dispatcher Reg.dsp.FETCH_WAIT
        .next { s with disp := { s.disp with requests := s.disp.requests.map fun q => if q.who = r.who then { q with waited := true } else q } }

/-! ### Units finish (R202, R204) -/

/-- A ticket without one unit. -/
def dropUnit (t : Ticket) (u : Nat) : Ticket := { t with left := t.left.filter (· != u), finished := t.finished.filter (· != u) }

/-- A unit of a job is done, and its places are free. -/
def unitDone (s : State) (sw slot : Nat) : State :=
  freePlaces (updJob s sw slot fun j => { j with done := j.done + 1 }) sw slot 1

/-- UNIT_FINISH: the first unit whose outputs are all written; a ticket without units leaves its gallery. -/
def execUnitFinish (f : Fetcher) (s : State) : Host.Outcome State Fault Refusal :=
  match f with
  | .gallery h g =>
    match (gal s h g).tickets.find? fun t => !t.finished.isEmpty with
    | none => .next s
    | some t =>
      let t' := dropUnit t (t.finished.headD 0)
      let s := noteRan s h g t
      let x := gal s h g
      let x := if t'.left.isEmpty then { releaseGens x t.serial with tickets := x.tickets.filter (·.serial != t.serial) }
        else { x with tickets := x.tickets.map fun e => if e.serial = t.serial then t' else e }
      .next (unitDone (setGal s h g x) t.sw t.slot)
  | .dresser h =>
    match NatMap.get? s.dressers h.val with
    | some t => if t.written then .next (unitDone { s with dressers := NatMap.del s.dressers h } t.sw t.slot) else .next s
    | none => .next s

end Sys2Proof.Machine
end

