-- ==== Sys2Proof/Machine/Array.lean ====
section
/-! DEFINITION. The array: tile records, the shadow and the swap (R82, R91 to R95, R240), the flight loader
(R79, R80, R197, R239, R242), treads (R68 to R72), and the addition at a flight's end with saturation and
its retry (R73, R117). Machine/Flights.lean holds what skipping adds. -/

namespace Sys2Proof.Machine

/-! ### Receiving tile records (R94, R196, R240) -/

/-- The ticket whose records are received next: the first in order with a tile left. -/
def nextReceive (s : State) : List Ticket → Option (Ticket × Job)
  | [] => none
  | t :: rest =>
    match findJob s t.sw t.slot with
    | some j => if dKind j.desc = 1 ∧ t.recvTile < (ticketTiles j t).length then some (t, j) else nextReceive s rest
    | none => nextReceive s rest

/-- Courses of the tile ring that are held: from the oldest record held to the head. -/
def ringUsed (x : Gallery) : Nat :=
  match x.ring.head? with
  | none => 0
  | some r => if (x.asHead + 2048 - r.course) % 2048 = 0 then 2048 else (x.asHead + 2048 - r.course) % 2048

/-- Courses of the ashlar store written with an image, wrapping past course 2,047. -/
def putCourses (x : Gallery) (course size img : Nat) : Nat → Gallery
  | 0 => x
  | n + 1 =>
    let x := putCourses x course size img n
    putWords x 0 (128 * ((course + n) % 2048)) (min 128 (size / 4 - 128 * n)) (img >>> (4096 * n))

/-- Words of a record in the tile ring, `first` the first; none at an uncorrectable error, which is recorded. -/
def readRing (s : State) (h g : Nat) (r : RingRec) (first n : Nat) : State × Option Nat :=
  let w := 128 * r.course + first
  if w % 262144 + n ≤ 262144 then readStore s h g 0 (w % 262144) n
  else
    let k := 262144 - w % 262144
    match readStore s h g 0 (w % 262144) k with
    | (s, none) => (s, none)
    | (s, some a) =>
      match readStore s h g 0 0 (n - k) with
      | (s, none) => (s, none)
      | (s, some b) => (s, some (a + b * 2 ^ (32 * k)))

/-- The receive pointer past the records of panels that are exhausted. -/
def passPanels (h g serial : Nat) : Nat → State → State
  | 0, s => s
  | n + 1, s =>
    match ticketJob s h g serial with
    | none => s
    | some (t, j) =>
      if t.recvTile < (ticketTiles j t).length then
        match panelOf s h g serial t.recvTile with
        | (s, none) => s
        | (s, some p) =>
          if p.2 ≤ t.recvRec then
            passPanels h g serial n (updTicket s h g serial fun t => { t with recvTile := t.recvTile + 1, recvRec := 0 })
          else s
      else s

/-- A record out of the ticket's part is passed over (R196). -/
def outOfPart (d part head : Nat) : Bool :=
  dSplitK d && !decide (part * dKSplit d ≤ hPass head ∧ hPass head < part * dKSplit d + dKSplit d)

/-- The record pointer moves to the next record. -/
def nextRecord (s : State) (h g serial : Nat) : State :=
  updTicket s h g serial fun t => { t with recvRec := t.recvRec + 1 }

/-- A record placed at the head of the tile ring. -/
def placeRecord (s : State) (h g : Nat) (t : Ticket) (size img : Nat) : State :=
  let x := gal s h g
  let n := ceilDiv size 512
  let x := putCourses x x.asHead size img n
  setGal s h g { x with
    ring := x.ring ++ [{
      serial := t.serial, tile := t.recvTile, record := t.recvRec, course := x.asHead, courses := n, left := false }]
    asHead := (x.asHead + n) % 2048 }

/-- The next record of a ticket: received whole, or passed over after its head (R196, R240, R255). -/
def receiveRecord (s : State) (h g : Nat) (t : Ticket) (j : Job) (p : Nat × Nat) : State :=
  let d := j.desc
  let size := recordBytes (dWw d)
  let a := dStreamAddr d + 32 * p.1 + t.recvRec * size
  let part := ((ticketTiles j t).getD t.recvTile (0, 0, 0, 0)).2.2.2
  let user := HallUser.gallery (Fin.ofNat 17 g)
  if 2048 < ringUsed (gal s h g) + ceilDiv size 512 then s
  else
    match if dSplitK d then ticketRead s h g user t a 32 else (s, some 0) with
    | (s, none) => s
    | (s, some head) =>
      if outOfPart d part head then nextRecord s h g t.serial
      else
        match ticketRead s h g user t a size with
        | (s, none) => s
        | (s, some img) =>
          let s := nextRecord (placeRecord s h g t size img) h g t.serial
          prefetchRecords s h j p (t.recvRec + 1) (dPfDepth d)

/-- TILE_RECORD_RECEIVE: the next record in stream order, for the running ticket and then for the one fetched
ahead, when the ring has room (R240). -/
def execTileRecordReceive (h : Fin 16) (g : Fin 17) (s : State) : Host.Outcome State Fault Refusal :=
  match nextReceive s (gal s h g).tickets with
  | none => .next s
  | some (t, j) =>
    let s := passPanels h g t.serial ((ticketTiles j t).length + 1) s
    match ticketJob s h g t.serial with
    | none => .next s
    | some (t', j) =>
      if t'.recvTile < (ticketTiles j t').length then
        match panelOf s h g t'.serial t'.recvTile with
        | (s, none) => .next s
        | (s, some p) =>
          let s := receiveRecord s h g t' j p
          .next (closeDone s h g t'.serial t'.recvTile)
      else .next (closeDone s h g t'.serial t.recvTile)

/-! ### Tile loads (R82, R91 to R93) -/

/-- The next record to load: the first of the ring that is in neither register. -/
def nextLoadRec (x : Gallery) : Option RingRec := 
  x.ring.find? fun e => !e.left && !e.isTile x.resident && !e.isTile x.shadow

/-- A flight is one of a tile's. -/
def Flight.isFor (f : Flight) (r : TileReg) : Bool := f.serial == r.serial && f.tile == r.tile && f.record == r.record

/-- The array is idle, or has run the resident tile's last flight; the next tile's first may be staged (R82). -/
def residentDone (x : Gallery) : Bool :=
  x.flight.isNone && x.sampling.isNone && match x.resident with
    | none => true
    | some r => !(x.staged.any fun f => f.isFor r) && match groupOf x r.serial r.tile with
      | some gr => decide (r.record < gr.tilesDone)
      | none => true

/-- The array waits for the load that a handshake makes: its swap counts TILE_WAIT (R82). -/
def loadWaits (x : Gallery) (r : TileReg) : TileReg := if residentDone x then { r with waited := true } else r

/-- The first handshake: the head and the position codes, with the head's check (R93). -/
def loadHead (s : State) (h g : Nat) (e : RingRec) : State :=
  match ticketJob s h g e.serial with
  | none => s
  | some (t, j) =>
    match readRing s h g e 0 24 with
    | (s, none) => ticketMemFault s t
    | (s, some img) =>
      if headBad (dShape j.desc) (dWfmt j.desc) img then endJob s t.sw t.slot 0x20
      else
        let x := gal s h g
        let ww := dWw j.desc
        let r : TileReg := {
          serial := e.serial, tile := e.tile, record := e.record, image := img, size := recordBytes ww
          loaded := 1, total := 1 + ceilDiv (64 * payloadBytes ww) 512, waited := false, landWaited := false
          wa := dWa j.desc, ww := ww, shape := dShape j.desc }
        setGal s h g { x with shadow := some (loadWaits x r) }

/-- A later handshake: 512 bytes of payload. -/
def loadPayload (s : State) (h g : Nat) (r : TileReg) : State :=
  match ticketJob s h g r.serial, (gal s h g).ring.find? (fun e => e.isTile (some r)) with
  | some (t, _), some e =>
    let first := 24 + 128 * (r.loaded - 1)
    match readRing s h g e first (min 128 (r.size / 4 - first)) with
    | (s, none) => ticketMemFault s t
    | (s, some img) =>
      let x := gal s h g
      let r := { r with image := r.image + img * 2 ^ (32 * first), loaded := r.loaded + 1 }
      setGal s h g { x with shadow := some (loadWaits x r) }
  | _, _ => s

/-- TILE_LOAD_HANDSHAKE. -/
def execTileLoadHandshake (h : Fin 16) (g : Fin 17) (s : State) : Host.Outcome State Fault Refusal :=
  let x := gal s h g
  match x.shadow with
  | some r => if r.loaded < r.total then .next (loadPayload s h g r) else .next s
  | none =>
    match nextLoadRec x with
    | some e => .next (loadHead s h g e)
    | none => .next s

/-! ### Weights as the lanes hold them (R70, R71, R77, R97) -/

/-- The present slots of a column-block position. -/
def slotsOf (r : TileReg) (b : Nat) : List Nat :=
  (List.range 64).filter fun i => (slotPlace r.shape i).1 == b && !hVoid r.image i

/-- The present slots of a tile. -/
def presentSlots (r : TileReg) : List Nat := (List.range 64).filter fun i => !hVoid r.image i

/-- The activation group a slot names: window and code (R90). -/
def slotGroup (r : TileReg) (i : Nat) : Nat × Nat := (slotWindow r.image r.shape i, hCode r.image i)

/-- The groups a tile names, each once. -/
def namedGroups (r : TileReg) : List (Nat × Nat) := ((presentSlots r).map (slotGroup r)).eraseDups

/-- The first activation element of a group. -/
def groupBase (p : Nat × Nat) : Nat := 4096 * p.1 + 16 * p.2

/-- A stored weight as its bits from bit 0 of digit d0 (R71). -/
def weightBits (ww payload row col : Nat) : Nat :=
  ((List.range (digitCount ww)).map fun j => 4 ^ j * digitAt ww payload j row col).sum

/-- The value u of tread `i` in weight-serial mode (*Bit values, weight-serial*). -/
def bitValue (ww i w : Nat) : Int :=
  if i + 1 < ww then ((bits w i 1 : Nat) : Int)
  else if ww % 2 = 0 then -((bits w i 1 : Nat) : Int)
  else signed 2 (w >>> (ww - 1))

/-- What one lane multiplies in tread (i, j): its operand from the masked code `q`, and its value from the
weight at a row and column of its ashlar. -/
def laneProduct (wa ww : Nat) (ij : Nat × Nat) (q payload row col : Nat) : Int :=
  if weightSerial wa ww then ((bits q (2 * ij.1) 2 : Nat) : Int) * bitValue ww ij.2 (weightBits ww payload row col)
  else ((bits q ij.1 1 : Nat) : Int) * digitValue ww ij.2 (digitAt ww payload ij.2 row col)

/-- The weight of a tread in its flight. -/
def treadWeight (wa ww : Nat) (ij : Nat × Nat) : Int :=
  if weightSerial wa ww then 2 ^ (2 * ij.1 + ij.2) else 2 ^ (ij.1 + 2 * ij.2)

/-- A sum over the lanes of logical column `c`: `f` of the lane's code, ashlar payload, row and column. -/
def columnSum (r : TileReg) (codes : Nat × Nat → List Nat) (c : Nat) (f : Nat → Nat → Nat → Nat → Int) : Int :=
  ((slotsOf r (c / 16)).map fun i =>
    let q := codes (slotGroup r i)
    let p := hPayload r.ww r.image i
    ((List.range 16).map fun k => f (q.getD k 0) p k (c % 16)).sum).sum

/-- Positions that land on landing column-block `b` (R98). -/
def landingOf (r : TileReg) (b : Nat) : List Nat :=
  (List.range (shapePositions r.shape)).filter fun p => hTarget r.image p == b

/-- The totals of a tile's logical columns summed by landing column; none where no position lands (R98, R99). -/
def landed (r : TileReg) (acc : List Int) : List (Option Int) :=
  (List.range (shapeCols r.shape)).map fun c =>
    match landingOf r (c / 16) with
    | [] => none
    | ps => some ((ps.map fun p => acc.getD (16 * p + c % 16) 0).sum)

/-! ### Codes as the flight loader forms them (R44, R75, R79, R80, R197) -/

/-- The escape code replaced by the zero point. -/
def substEscape (wa zp q : Nat) : Nat := if 2 ≤ wa ∧ q = escapeCode wa then zp else q

/-- A code under an activation shift. -/
def shiftCode (sh q : Nat) : Nat := if sh = 0 then q else rneDiv q (2 ^ sh)

/-- The padding code, after escape substitution and shift. -/
def padCode (d zp sh : Nat) : Nat :=
  shiftCode sh (substEscape (dWa d) zp (if dPadZp d then zp else dPad d % 2 ^ dWa d))

/-- The tile names an element at or beyond K. -/
def namesPad (r : TileReg) (k : Nat) : Bool := (namedGroups r).any fun p => decide (k < groupBase p + 16)

/-- The zero point of a row as the loader takes it (R50). -/
def rowZp (d side : Nat) : Nat := if sideScale side = 0 then 0 else sideZp (dWa d) side

/-- The OR of a row's codes after substitution and shift; `img` holds the row's codes below K. -/
def codesMask (d zp sh k img : Nat) : Nat :=
  (List.range k).foldl (fun m i => m ||| shiftCode sh (substEscape (dWa d) zp (codeAt (dWa d) img i))) 0

/-- The effective mask of a flight (R50, R75, R80, R197); `img` is used under a shift only. -/
def effMask (d side sh k img : Nat) (pad : Bool) : Nat :=
  if sideScale side = 0 then 0
  else
    let zp := rowZp d side
    (if sh = 0 then sideMask (dWa d) side else codesMask d zp sh k img) ||| (if pad then padCode d zp sh else 0)

/-- The treads of a flight in order (R72). -/
def treadList (wa ww m : Nat) : List (Nat × Nat) :=
  if weightSerial wa ww then
    ((List.range (ceilDiv wa 2)).reverse.filter fun j => bit m (2 * j) || bit m (2 * j + 1)).flatMap fun j =>
      (List.range ww).reverse.map fun i => (j, i)
  else
    ((List.range wa).reverse.filter fun i => bit m i).flatMap fun i =>
      (List.range (digitCount ww)).reverse.map fun j => (i, j)

/-- Declared treads of a flight (R75). -/
def declaredTreads (wa ww : Nat) : Nat := (treadList wa ww (2 ^ wa - 1)).length

/-! ### Where a row's codes are (R190, R242) -/

/-- Where a streamed row lies in device memory: its side word and its codes; none for a row in the conversion
ring. -/
def streamedAt (s : State) (h g : Nat) (j : Job) (i row : Nat) : Option (Nat × Nat) :=
  let d := j.desc
  let r := dMBlock d * i + row
  if dActFloat d then
    let blk := rowCourses j.k (container (dWa d))
    let f := ringRows s h g blk
    if listSpills s h g || decide (f ≤ row) then
      some (spillRow s h g f blk row, spillRow s h g f blk row + 64)
    else none
  else some (dSideAddr d + 8 * r, dActAddr d + r * dActRowStride d)

/-- A row of a tile's flights: ticket, job, tile, group. -/
structure RowAt where
  t : Ticket
  j : Job
  r : TileReg
  gr : Group
  row : Nat
  deriving DecidableEq, Repr

/-- A row of a tile, when the tile has it and its group is open. -/
def rowAt (s : State) (h g : Nat) (r : TileReg) (row : Nat) : Option RowAt :=
  match ticketJob s h g r.serial, groupOf (gal s h g) r.serial r.tile with
  | some (t, j), some gr =>
    if row < gr.m ∧ gr.tilesDone ≤ r.record ∧ gr.phase ≠ .draining then some { t := t, j := j, r := r, gr := gr, row := row }
    else none
  | _, _ => none

/-- The first row of a tile that has yet to be staged: of the shadow's tile, one row may be staged ahead (R82). -/
def unstagedRow (x : Gallery) (r : TileReg) (resident : Bool) : Nat :=
  if resident then ((groupOf x r.serial r.tile).map Group.stageRow).getD 0
  else (x.staged.any fun f => f.isFor r).toNat

/-- Every row of the resident tile is staged, or there is none. -/
def residentStaged (s : State) (h g : Nat) : Bool :=
  match (gal s h g).resident with
  | some r => (rowAt s h g r (unstagedRow (gal s h g) r true)).isNone
  | none => true

/-- The row is converted, when the ticket converts on entry (R147). -/
def RowAt.isReady (x : Gallery) (a : RowAt) : Bool := rowReady x a.t a.j a.row

/-- The next row of the resident tile; then, once the load has moved the position codes, the first row of the shadow's
tile (R79, R82). -/
def nextRow (s : State) (h g : Nat) : Option RowAt :=
  let x := gal s h g
  let a : Option RowAt :=
    if residentStaged s h g then x.shadow.bind fun r => if unstagedRow x r false = 0 then rowAt s h g r 0 else none
    else x.resident.bind fun r => rowAt s h g r (unstagedRow x r true)
  a.filter (·.isReady x)

/-- A read in device memory for a row, in the gallery. -/
def rowRead (s : State) (h g : Nat) (a : RowAt) (addr n : Nat) : State × Option Nat :=
  ticketRead s h g (.gallery (Fin.ofNat 17 g)) a.t addr n

/-- The side word of a row of M-block `i`. -/
def sideOf (s : State) (h g : Nat) (t : Ticket) (j : Job) (i row : Nat) : State × Option Nat :=
  match streamedAt s h g j i row with
  | some (side, _) => ticketRead s h g (.gallery (Fin.ofNat 17 g)) t side 8
  | none =>
    match readStore s h g 1 (ringRow (rowCourses j.k (container (dWa j.desc))) row) 2 with
    | (s, none) => (ticketMemFault s t, none)
    | (s, some v) => (s, some v)

/-- The row's side word. -/
def readSide (s : State) (h g : Nat) (a : RowAt) : State × Option Nat := sideOf s h g a.t a.j a.gr.i a.row

/-- All the codes of a row, which a flight under a shift takes its mask from (R80). -/
def readCodes (s : State) (h g : Nat) (a : RowAt) : State × Option Nat :=
  let c := container (dWa a.j.desc)
  match streamedAt s h g a.j a.gr.i a.row with
  | some (_, codes) => rowRead s h g a codes (ceilDiv (a.j.k * c) 8)
  | none =>
    match readStore s h g 1 (ringRow (rowCourses a.j.k c) a.row + 16) (ceilDiv (a.j.k * c) 32) with
    | (s, none) => (ticketMemFault s a.t, none)
    | (s, some v) => (s, some v)

/-- The effective mask of the row's flight, its codes read under a shift. -/
def rowMask (s : State) (h g : Nat) (a : RowAt) (side : Nat) : State × Option Nat :=
  let d := a.j.desc
  let pad := namesPad a.r a.j.k
  if a.gr.shift = 0 || sideScale side = 0 then (s, some (effMask d side a.gr.shift a.j.k 0 pad))
  else
    match readCodes s h g a with
    | (s, none) => (s, none)
    | (s, some img) => (s, some (effMask d side a.gr.shift a.j.k img pad))

/-! ### Words of a gather (R239, R242) -/

/-- The 64-byte words of a row's codes that a tile's groups occupy, in ascending address; elements at or
beyond K are not read. -/
def codeWords (r : TileReg) (c k : Nat) : List Nat :=
  let ws := ((namedGroups r).filter fun p => decide (groupBase p < k)).map fun p => groupBase p * c / 512
  (ws.eraseDups).mergeSort (· ≤ ·)

/-- Words of a list in bank `b` of the activation store. -/
def inStoreBank (words : List Nat) (b : Nat) : Nat := (words.filter fun w => w % 32 == b).length

/-- The handshakes of a gather: from the conversion ring the most words that one bank gives, from the stream ring one
for 32 words, and at least one (R239, R242). -/
def gatherTime (stream : Bool) (words : List Nat) : Nat :=
  max 1 (if stream then ceilDiv words.length 32 else ((List.range 32).map (inStoreBank words)).foldl max 0)

/-- Held-back handshakes of a gather, by bank pair: one for each word of a bank after its first, within the
handshakes that the gather takes (R238). -/
def gatherConflicts (s : State) (h g : Nat) (stream : Bool) (words : List Nat) : State :=
  (List.range 32).foldl (fun s b =>
    count s (memPage h g) (Reg.gm.ACT_PAIR (b / 2)) (min (inStoreBank words b - 1) (gatherTime stream words - 1))) s

/-- Words of the activation store read for a gather: by the number in the row of each word, its image. -/
def readGather (h g : Nat) (a : RowAt) : List (Nat × Nat) → State → State × Option (NatMap Nat)
  | [], s => (s, some [])
  | (n, w) :: rest, s =>
    match readStore s h g 1 (16 * w) 16 with
    | (s, none) => (ticketMemFault s a.t, none)
    | (s, some v) =>
      match readGather h g a rest s with
      | (s, none) => (s, none)
      | (s, some m) => (s, some (NatMap.set m n v))

/-- The 16 masked codes of a group, from the words gathered: escapes and padding replaced, shifted (R44, R79,
R80, R197). -/
def groupCodes (d side sh mask k : Nat) (words : NatMap Nat) (p : Nat × Nat) : List Nat :=
  let wa := dWa d
  let c := container wa
  let zp := rowZp d side
  (List.range 16).map fun e =>
    let el := groupBase p + e
    let q := if k ≤ el then padCode d zp sh
      else shiftCode sh (substEscape wa zp (bits ((NatMap.get? words (el * c / 512)).getD 0) (el * c % 512) wa))
    q &&& mask

/-- The groups of a tile as gathered for a row; none when a read failed. Counts the bank conflicts, and answers
the gather's handshakes. -/
def gather (s : State) (h g : Nat) (a : RowAt) (stream : Bool) (words : List (Nat × Nat)) (side mask : Nat) :
    State × Option (List ((Nat × Nat) × List Nat) × Nat) :=
  let s := gatherConflicts s h g stream (words.map Prod.snd)
  match readGather h g a words s with
  | (s, none) => (s, none)
  | (s, some m) =>
    (s, some ((namedGroups a.r).map fun p => (p, groupCodes a.j.desc side a.gr.shift mask a.j.k m p),
      gatherTime stream (words.map Prod.snd)))

/-- The words of a row in the conversion ring, by their number in the row. -/
def ringWords (a : RowAt) : List (Nat × Nat) :=
  let c := container (dWa a.j.desc)
  (codeWords a.r c a.j.k).map fun n => (n, ringRow (rowCourses a.j.k c) a.row / 16 + 1 + n)

end Sys2Proof.Machine
end

