-- ==== Sys2Proof/Machine/Flights.lean ====
section
/-! DEFINITION. Flights and skipping: the swap with its column sums (R81, R171), the stream ring (R242),
staging with the far test (R79, R173, R174), treads with the weak test and the budget (R68, R175 to R178), the
addition with saturation and retry (R73, R117, R179), and the sampler (R180, R181). -/

namespace Sys2Proof.Machine

/-! ### Skipping: entries and bounds -/

/-- The skip block of a job. -/
def skipOf (j : Job) : Nat := j.skip.getD 0

/-- The resident tile's flights run under skipping. -/
def rowSkips (a : RowAt) : Bool := tileSkips a.t a.j ((a.t.panels.getD a.gr.tile (0, 0)).2)

/-- A key position is near a query position (R173). -/
def isNear (b : Nat) (p q : Nat) : Bool :=
  decide (p < kSinkLead b) || (List.range 8).any (fun i => kSink b i == p && kSink b i != 0xFFFFFFFF)
    || decide ((q : Int) - kBehind b ≤ p ∧ p ≤ q + kAhead b)
    || (List.range 4).any fun i => decide ((kWindow b i).1 ≤ p ∧ p ≤ (kWindow b i).2)

/-- The classes before a row's flight: far or undecided (R173). -/
def farClasses (b ns nb q : Nat) : List Nat :=
  (List.range ns).map fun c => if kFarEn b && !isNear b (kKposBase b + ns * nb + c) q then 3 else 0

/-- Exact comparison of two numbers; a NaN is below nothing. -/
def numLt (x y : Num) : Bool :=
  match x, y with
  | .nan, _ | _, .nan => false
  | .inf a, .inf b => a && !b
  | .inf a, .fin _ _ _ => a
  | .fin _ _ _, .inf b => !b
  | .fin a m e, .fin b n g =>
    let l := min e g
    decide (sgn a (m <<< (e - l).toNat) < sgn b (n <<< (g - l).toNat))

/-- s × WSCALE × (2^sh × v − zp × COLSUM), exactly (R175). -/
def entryValue (sh scale zp : Nat) (col : Int × Int × Int × Nat) (v : Int) : Num :=
  let k := 2 ^ sh * v - zp * col.2.2.1
  mulNum (mulNum (fp32.decode scale) (fp32.decode col.2.2.2)) (.fin (decide (k < 0)) k.natAbs 0)

/-- The value of an entry is below the threshold. -/
def below (sh : Nat) (k : SkipRun) (col : Int × Int × Int × Nat) (v : Int) : Bool :=
  numLt (entryValue sh k.scale k.zp col v) (fp32.decode k.theta)

/-- The bits of a mask below plane `i`. -/
def restBelow (m i : Nat) : Nat := m % 2 ^ i

/-- The weak test applied to every undecided entry (R175). -/
def weakTest (sh : Nat) (sums : List (Int × Int × Int × Nat)) (totals : List (Option Int)) (k : SkipRun) : SkipRun :=
  if k.weakOn then
    { k with classes := k.classes.zipIdx.map fun e =>
        if e.1 = 0 then
          let col := sums.getD e.2 (0, 0, 0, 0)
          if below sh k col (((totals.getD e.2 none).getD 0) + k.rest * col.1) then 2 else 0
        else e.1 }
  else k

/-- No entry is undecided. -/
def SkipRun.settled (k : SkipRun) : Bool := k.classes.all (· != 0)

/-- The budget allows the next plane (R178). -/
def budgetAllows (b : Nat) (t : Ticket) (spent : Nat) : Bool :=
  if kMode b = 2 then t.timer != 2 else kRefine b == 0xFFFF || decide (spent ≤ kRefine b)

/-- The estimate of a column that the budget stopped (R179). -/
def estimate (k : SkipRun) (col : Int × Int × Int × Nat) (v : Int) : Int := v + k.rest * col.2.1 / 2

/-! ### Column sums (R171) -/

/-- POS and SUMW of landing column `c` (R171). -/
def laneSums (r : TileReg) (c : Nat) : Int × Int :=
  let sum (f : Int → Int) : Int := ((landingOf r (c / 16)).map fun p =>
    columnSum r (fun _ => []) (16 * p + c % 16) fun _ pay k n => f (weightAt r.ww pay k n)).sum
  (sum (fun w => max w 0), sum id)

/-- The column sums and records of a tile under skipping; none when the read of the records failed. -/
def formSums (s : State) (h g : Nat) (t : Ticket) (j : Job) (r : TileReg) (nb : Nat) :
    State × Option (List (Int × Int × Int × Nat)) :=
  let ns := shapeCols r.shape
  match ticketRead s h g (.gallery (Fin.ofNat 17 g)) t (dColrecAddr j.desc + 8 * (ns * nb)) (8 * ns) with
  | (s, none) => (s, none)
  | (s, some recs) =>
    (s, some ((List.range ns).map fun c =>
      let rec_ := bits recs (64 * c) 64
      let l := laneSums r c
      (l.1, l.2, colSum rec_, colScale rec_)))

/-! ### A row's inputs (R173, R176) -/

/-- The side word, query position and threshold of a row. -/
structure Inputs where
  side : Nat
  qpos : Nat
  theta : Nat
  deriving DecidableEq, Repr

/-- A 32-bit word of a job's array, when the job reads it from memory. -/
def readWord32 (s : State) (h g : Nat) (a : RowAt) (fromMem : Bool) (addr dflt : Nat) : State × Option Nat :=
  if fromMem then rowRead s h g a addr 4 else (s, some dflt)

/-- The inputs of a row. DESIGN CHOICE: a word that nothing uses is not read: QPOS with FAR_EN 0, THRESH with WEAK_EN 0 and
SAMPLE_PERIOD 0 (assumption 126). -/
def readInputs (s : State) (h g : Nat) (a : RowAt) : State × Option Inputs :=
  match readSide s h g a with
  | (s, none) => (s, none)
  | (s, some side) =>
    if !rowSkips a then (s, some { side := side, qpos := 0, theta := 0 })
    else
      let b := skipOf a.j
      let r := dMBlock a.j.desc * a.gr.i + a.row
      match readWord32 s h g a (kFarEn b && kQposSrc b) (kQposAddr b + 4 * r) (kQposBase b + r) with
      | (s, none) => (s, none)
      | (s, some q) =>
        match readWord32 s h g a ((kWeakEn b || kPeriod b != 0) && kThreshSrc b) (kThreshAddr b + 4 * r) (kThreshold b) with
        | (s, none) => (s, none)
        | (s, some th) => (s, some { side := side, qpos := q, theta := th })

/-- The classes of a row before its flight; none without skipping. -/
def rowClasses (a : RowAt) (i : Inputs) : Option (List Nat) :=
  if rowSkips a then some (farClasses (skipOf a.j) (dCols a.j.desc) a.gr.j i.qpos) else none

def allFar (cs : Option (List Nat)) : Bool := cs.any fun l => l.all (· == 3)

/-! ### The stream ring (R242) -/

/-- 64-byte words of the stream ring, and its first one. -/
def streamWords (s : State) (h g : Nat) : Nat := (2048 - convCourses s h g) * 8
def streamBase (s : State) (h g : Nat) : Nat := convCourses s h g * 8

/-- A 64-byte word placed at the stream ring's head, and where it stands in the activation store. -/
def placeWord (s : State) (h g v : Nat) : State × Nat :=
  let x := gal s h g
  let w := streamBase s h g + x.streamHead % streamWords s h g
  (setGal s h g { putWords x 1 (16 * w) 16 v with streamHead := (x.streamHead + 1) % streamWords s h g }, w)

/-- The code words of a row fetched into the stream ring: by their number in the row, the store words. -/
def fetchWords (h g : Nat) (a : RowAt) (codes : Nat) : List Nat → State → State × Option (List (Nat × Nat))
  | [], s => (s, some [])
  | n :: rest, s =>
    match rowRead s h g a (codes + 64 * n) 64 with
    | (s, none) => (s, none)
    | (s, some v) =>
      let r := placeWord s h g v
      match fetchWords h g a codes rest r.1 with
      | (s, none) => (s, none)
      | (s, some ws) => (s, some ((n, r.2) :: ws))

/-- Words of the stream ring that are held: the side word of each row, and its code words. -/
def streamUsed (x : Gallery) : Nat := (x.streamRows.map fun w => 1 + w.words.length).sum

/-- A row of the stream ring is one of a tile's. -/
def StreamRow.isFor (w : StreamRow) (r : TileReg) : Bool := w.serial == r.serial && w.tile == r.tile && w.record == r.record

/-- The first row from `row` on whose codes come through the stream ring. -/
def streamedFrom (s : State) (h g : Nat) (j : Job) (row : Nat) : Nat :=
  if dActFloat j.desc && !listSpills s h g then max row (ringRows s h g (rowCourses j.k (container (dWa j.desc)))) else row

/-- The next row of a tile to fetch. -/
def unfetchedRow (s : State) (h g : Nat) (r : TileReg) (resident : Bool) : Option RowAt :=
  let x := gal s h g
  let first := match (x.streamRows.filter (·.isFor r)).getLast? with
    | some w => w.row + 1
    | none => unstagedRow x r resident
  match ticketJob s h g r.serial with
  | some (_, j) => rowAt s h g r (streamedFrom s h g j first)
  | none => none

/-- The next row to fetch in stream order: of the resident tile, then of the shadow's (R242). -/
def nextFetch (s : State) (h g : Nat) : Option RowAt :=
  let x := gal s h g
  let a : Option RowAt := match x.resident.bind fun r => unfetchedRow s h g r true with
    | some a => some a
    | none => x.shadow.bind fun r => unfetchedRow s h g r false
  a.filter (·.isReady x)

/-- The words that a row occupies at most fit in the stream ring; fetching waits while it is full. DESIGN CHOICE: the side
word takes a word of its own, and a row that is longer than the ring by it enters an empty ring (assumption 114). -/
def ringHasRoom (s : State) (h g : Nat) (a : RowAt) : Bool :=
  (gal s h g).streamRows.isEmpty
    || decide (streamUsed (gal s h g) + 1 + (codeWords a.r (container (dWa a.j.desc)) a.j.k).length ≤ streamWords s h g)

/-- The code words that a row's flight reads: none for an empty flight. A flight whose entries are all far reads no
codes, its mask included (R174). -/
def wordsNeeded (s : State) (h g : Nat) (a : RowAt) (i : Inputs) : State × Option (List Nat) :=
  if allFar (rowClasses a i) then (s, some [])
  else
    match rowMask s h g a i.side with
    | (s, none) => (s, none)
    | (s, some m) => (s, some (if m = 0 then [] else codeWords a.r (container (dWa a.j.desc)) a.j.k))

/-- A row is fetched into the stream ring: its side word, and its code words in ascending address. -/
def fetchRow (s : State) (h g : Nat) (a : RowAt) (codes : Nat) : State :=
  match readInputs s h g a with
  | (s, none) => s
  | (s, some i) =>
    match wordsNeeded s h g a i with
    | (s, none) => s
    | (s, some ws) =>
      match fetchWords h g a codes ws (placeWord s h g i.side).1 with
      | (s, none) => s
      | (s, some words) =>
        let x := gal s h g
        setGal s h g { x with streamRows := x.streamRows ++ [{
          serial := a.t.serial, tile := a.gr.tile, record := a.r.record, row := a.row, side := i.side
          qpos := i.qpos, theta := i.theta, words := words }] }

/-- STREAM_RING_FETCH: the next row whose codes are not in the conversion ring, when the stream ring has room. -/
def execStreamRingFetch (h : Fin 16) (g : Fin 17) (s : State) : Host.Outcome State Fault Refusal :=
  match nextFetch s h g with
  | some a =>
    match streamedAt s h g a.j a.gr.i a.row with
    | some (_, codes) => if ringHasRoom s h g a then .next (fetchRow s h g a codes) else .next s
    | none => .next s
  | none => .next s

/-! ### A flight begins and ends (R72 to R76, R83, R84) -/

/-- The group of a flight. -/
def flightGroup (x : Gallery) (f : Flight) : Option Group := groupOf x f.serial f.tile

/-- Executed treads counted, in the array and for the ticket's unit (R84, R338). -/
def countTreads (s : State) (h g serial unit n : Nat) : State :=
  updTicket (count s (arrPage h g) Reg.arr.TREADS n) h g serial fun t =>
    { t with treads := NatMap.set t.treads unit ((NatMap.get? t.treads unit).getD 0 + n) }

/-- A flight that begins is counted (R84). -/
def countFlight (s : State) (h g wa ww : Nat) (empty farEmpty : Bool) : State :=
  let p := arrPage h g
  let s := count (bump s p Reg.arr.FLIGHTS) p Reg.arr.DECLARED (declaredTreads wa ww)
  let s := if empty then bump s p Reg.arr.EMPTY_FLIGHTS else s
  if farEmpty then bump s p Reg.skp.FAR_FLIGHTS else s

/-- The classes of a row written in the skip map (R172). -/
def putClasses (x : Gallery) (gr : Group) (row : Nat) (cs : List Nat) : Gallery :=
  cs.zipIdx.foldl (fun x e => setClass x gr (row * cs.length + e.2) e.1) x

/-- The sampled entries of a row: every entry far or estimated whose number is a multiple of the period, with
the estimate it holds (R180). -/
def sampledCols (period numbered : Nat) (cs : List Nat) (est : Nat → Int) : List (Nat × Option Int) :=
  let cand := (cs.zipIdx.filter fun e => e.1 == 3 || e.1 == 1).zipIdx
  (cand.filter fun e => period != 0 && (numbered + e.2 + 1) % period == 0).map fun e =>
    (e.1.2, if e.1.1 = 1 then some (est e.1.2) else none)

/-- Entries of a row that the sampler numbers. -/
def numberedIn (cs : List Nat) : Nat := (cs.filter fun v => v == 3 || v == 1).length

/-- A flight has ended: its classes are set, its entries numbered, and the row of the group is done (R81, R172,
R180). -/
def finishRow (s : State) (h g : Nat) (f : Flight) (est : Nat → Int) : State :=
  match flightGroup (gal s h g) f, ticketJob s h g f.serial with
  | some gr, some (_, j) =>
    let x := { gal s h g with flight := none }
    let x := match f.skip with
      | none => x
      | some k =>
        let cols := sampledCols (kPeriod (skipOf j)) gr.numbered k.classes est
        { putClasses x gr f.row k.classes with sampling := if cols.isEmpty then none else some (f.row, cols) }
    let n := match f.skip with
      | none => 0
      | some k => numberedIn k.classes
    let s := setGal s h g x
    let s := updGroup s h g gr.slot fun e => { e with
      addRow := f.row + 1, numbered := e.numbered + n
      tilesDone := if f.row + 1 = e.m then f.record + 1 else e.tilesDone }
    closeDone s h g f.serial f.tile
  | _, _ => s

/-- The gallery timer starts with the first flight of a deadline ticket (R178); there is one timer. -/
def startTimer (s : State) (h g : Nat) (t : Ticket) (j : Job) : State :=
  if dSkipAddr j.desc ≠ 0 ∧ kMode (skipOf j) = 2 ∧ !t.exact ∧ t.timer = 0 then
    let x := gal s h g
    setGal s h g { x with tickets := x.tickets.map fun e => if e.serial = t.serial then { e with timer := 1 }
      else if e.timer = 1 then { e with timer := 0 } else e }
  else s

/-- The budget ends a flight before its next plane. -/
def stopFlight (f : Flight) (k : SkipRun) : Flight := { f with todo := [], skip := some { k with stopped := true } }

/-- A flight under skipping as it begins: with no coarse plane, the budget is asked first (R177). -/
def beginSkip (s : State) (h g : Nat) (f : Flight) (k : SkipRun) (j : Job) : Flight :=
  match ticketOf (gal s h g) f.serial with
  | some t =>
    if kCoarse (skipOf j) = 0 && !budgetAllows (skipOf j) t (digitCount (dWw j.desc)) then stopFlight f k else f
  | none => f

/-- The staged flight begins when none is in progress and its tile is resident; an empty one ends at once (R76). -/
def startFlight (s : State) (h g : Nat) : State :=
  let x := gal s h g
  match x.staged.filter (fun f => x.resident.any f.isFor), x.flight, x.sampling with
  | some f, none, none =>
    match ticketJob s h g f.serial with
    | none => s
    | some (t, j) =>
      let s := setGal s h g { x with staged := none }
      let s := countFlight s h g (dWa j.desc) (dWw j.desc) f.empty f.farEmpty
      let s := startTimer s h g t j
      if f.empty then finishRow s h g f (fun _ => 0)
      else
        let f := match f.skip with
          | some k => beginSkip s h g f k j
          | none => f
        setGal s h g { gal s h g with flight := some f }
  | _, _, _ => s

/-! ### Staging (R79, R174) -/

/-- What a staged row carries under skipping; a row of SCALE 0x00 is decided at once, with the integer value 0
(R174, R176). -/
def stageSkip (a : RowAt) (i : Inputs) (mask : Nat) (cs : List Nat) : SkipRun :=
  let weakOn := kWeakEn (skipOf a.j) && !a.gr.boulderRows.contains a.row
  let zero := numLt (.fin false 0 0) (fp32.decode i.theta)
  { classes := if sideScale i.side = 0 && weakOn && zero then cs.map (fun v => if v = 0 then 2 else v) else cs,
    done := 0, spent := 0, stopped := false, rest := mask, weakOn := weakOn, theta := i.theta,
    scale := effScale (cbT (a.j.conv.getD 0)) (sideScale i.side), zp := rowZp a.j.desc i.side }

/-- What staging counts under skipping (R186). -/
def countStaged (s : State) (h g : Nat) (a : RowAt) (k : Option SkipRun) : State :=
  match k with
  | none => s
  | some k =>
    let p := arrPage h g
    let s := count s p Reg.skp.FAR (k.classes.filter (· == 3)).length
    let s := count s p Reg.skp.WEAK (k.classes.filter (· == 2)).length
    if kWeakEn (skipOf a.j) && a.gr.boulderRows.contains a.row then bump s p Reg.skp.BOULDER_ROWS else s

/-- The flight is in the staged register, its row's words in the stream ring are free, and it begins when it
can. -/
def stageFlight (s : State) (h g : Nat) (a : RowAt) (i : Inputs) (mask : Nat)
    (groups : List ((Nat × Nat) × List Nat)) (empty : Bool) : State :=
  let cs := rowClasses a i
  let k := cs.map (stageSkip a i mask)
  let s := countStaged s h g a k
  let todo := if empty then [] else treadList a.r.wa a.r.ww mask
  let f : Flight := {
    serial := a.t.serial, tile := a.gr.tile, record := a.r.record, row := a.row, mask := mask, empty := empty
    farEmpty := allFar cs, groups := groups, todo := todo, cost := todo.length
    acc := List.replicate (shapeCols a.r.shape) 0, skip := k, waited := false }
  let x := gal s h g
  let mine (w : StreamRow) : Bool := w.isFor a.r && w.row == a.row
  let s := setGal s h g { x with staged := some f, streamRows := x.streamRows.filter (!mine ·) }
  let s := if x.resident.any f.isFor then updGroup s h g a.gr.slot fun e => { e with stageRow := a.row + 1 } else s
  startFlight s h g

/-- The array waits for a gather that takes more handshakes than the running flight has treads, or with no flight
running, at a tile's first or behind an empty one, more than one (R83, R239). -/
def countStageWait (s : State) (h g time : Nat) : State :=
  let cover := match (gal s h g).flight with
    | some f => f.cost
    | none => 1
  if cover < time then bump s (arrPage h g) Reg.arr.STAGE_WAIT else s

/-- A row with its inputs known: an empty flight, or the gather of its groups from the words given. -/
def stageRow (s : State) (h g : Nat) (a : RowAt) (i : Inputs) (stream : Bool) (words : List (Nat × Nat)) : State :=
  if allFar (rowClasses a i) then stageFlight s h g a i 0 [] true
  else
    match rowMask s h g a i.side with
    | (s, none) => s
    | (s, some m) =>
      if m = 0 then stageFlight s h g a i m [] true
      else
        match gather s h g a stream words i.side m with
        | (s, none) => s
        | (s, some (gs, time)) => stageFlight (countStageWait s h g time) h g a i m gs false

/-- The fetched words of a row are at the front of the stream ring. -/
def fetchedRow (x : Gallery) (a : RowAt) : Option StreamRow :=
  x.streamRows.head?.filter fun w => w.isFor a.r && w.row == a.row

/-- FLIGHT_STAGE: the next row into the staged register. -/
def execFlightStage (h : Fin 16) (g : Fin 17) (s : State) : Host.Outcome State Fault Refusal :=
  match (gal s h g).staged, nextRow s h g with
  | none, some a =>
    match streamedAt s h g a.j a.gr.i a.row, fetchedRow (gal s h g) a with
    | some _, some w => .next (stageRow s h g a { side := w.side, qpos := w.qpos, theta := w.theta } true w.words)
    | some _, none => .next s
    | none, _ =>
      match readInputs s h g a with
      | (s, none) => .next s
      | (s, some i) => .next (stageRow s h g a i false (ringWords a))
  | _, _ => .next s

/-! ### The swap (R81, R82, R171) -/

/-- The tile in the shadow goes into the weight registers, and its first flight begins when it is staged; the record
of the tile before has left them (R82, R240). -/
def swapIn (s : State) (h g : Nat) (r : TileReg) (slot : Nat) (sums : List (Int × Int × Int × Nat)) : State :=
  let x := gal s h g
  let s := setGal s h g { x with
    resident := some r, shadow := none, sums := sums, streamRows := x.streamRows.filter (·.isFor r)
    ring := x.ring.map fun e => if e.isTile x.resident then { e with left := true } else e }
  let s := setGal s h g (releaseRing (gal s h g))
  let s := updGroup s h g slot fun e => { e with stageRow := (x.staged.any fun f => f.isFor r).toNat, addRow := 0 }
  let s := bump s (arrPage h g) Reg.arr.TILES_LOADED
  let s := if r.waited then bump s (arrPage h g) Reg.arr.TILE_WAIT else s
  startFlight s h g

/-- SHADOW_SWAP: the next resident tile swaps in once its load is complete, the tile before has run and its
group is open. A wait for the opening delays its first addition, which counts it (R116). -/
def execShadowSwap (h : Fin 16) (g : Fin 17) (s : State) : Host.Outcome State Fault Refusal :=
  let x := gal s h g
  match x.shadow with
  | none => .next s
  | some r =>
    if !residentDone x then .next s
    else if r.loaded < r.total then .next (setGal s h g { x with shadow := some { r with waited := true } })
    else
      match ticketJob s h g r.serial, groupOf x r.serial r.tile with
      | some (t, j), some gr =>
        if gr.phase = .draining then .next s
        else if tileSkips t j ((t.panels.getD gr.tile (0, 0)).2) then
          match formSums s h g t j r gr.j with
          | (s, none) => .next s
          | (s, some sums) => .next (swapIn s h g r gr.slot sums)
        else .next (swapIn s h g r gr.slot [])
      | _, _ => .next (setGal s h g { x with shadow := some { r with landWaited := true } })

/-! ### Treads (R68 to R72, R175, R177) -/

/-- The codes a flight holds for a group. -/
def flightCodes (f : Flight) (p : Nat × Nat) : List Nat := (List.lookup p f.groups).getD []

/-- The flight accumulators after one tread: the tread sum of each column, with the tread's weight. -/
def treadAdd (r : TileReg) (f : Flight) (ij : Nat × Nat) : List Int :=
  f.acc.zipIdx.map fun e => e.1 + treadWeight r.wa r.ww ij *
    columnSum r (flightCodes f) e.2 fun q p k c => laneProduct r.wa r.ww ij q p k c

/-- A plane has been executed in a flight under skipping: the weak test, and whether the flight goes on. -/
def planeDone (x : Gallery) (r : TileReg) (f : Flight) (k : SkipRun) (plane sh : Nat) (t : Ticket) (b : Nat) :
    Flight × SkipRun :=
  let n := digitCount r.ww
  let done := k.done + 1
  let k := { k with done := done, spent := if kCoarse b < done then k.spent + n else k.spent, rest := restBelow f.mask plane }
  let k := weakTest sh x.sums (landed r f.acc) k
  if k.settled then ({ f with todo := [] }, k)
  else if !f.todo.isEmpty && decide (kCoarse b ≤ done) && !budgetAllows b t (k.spent + n) then
    ({ f with todo := [] }, { k with stopped := true })
  else (f, k)

/-- What one tread does to the skipping of its flight. -/
def treadSkip (s : State) (h g : Nat) (r : TileReg) (f : Flight) (plane : Nat) (t : Ticket) (j : Job) (gr : Group) :
    State × Flight :=
  match f.skip with
  | none => (s, f)
  | some k =>
    let b := skipOf j
    let p := arrPage h g
    let s := if kCoarse b ≤ k.done then bump s p Reg.skp.REFINE else s
    if f.todo.head?.any (·.1 == plane) then (s, f)
    else
      let (f, k') := planeDone (gal s h g) r f k plane gr.shift t b
      let s := count s p Reg.skp.WEAK ((k'.classes.filter (· == 2)).length - (k.classes.filter (· == 2)).length)
      (s, { f with skip := some k' })

/-- TREAD: the next tread of the running flight; a parity failure faults the gallery with LOGIC_CHECK (R336). -/
def execTread (h : Fin 16) (g : Fin 17) (parityFail : Bool) (s : State) : Host.Outcome State Fault Refusal :=
  let x := gal s h g
  match x.flight, x.resident with
  | some f, some r =>
    match f.todo, ticketJob s h g f.serial, flightGroup x f with
    | ij :: rest, some (t, j), some gr =>
      if parityFail then .next (galleryFault s h g 3)
      else
        let s := countTreads s h g f.serial gr.unit 1
        let f := { f with acc := treadAdd r f ij, todo := rest }
        let (s, f) := treadSkip s h g r f ij.1 t j gr
        .next (setGal s h g { gal s h g with flight := some f })
    | _, _, _ => .next s
  | _, _ => .next s

/-- DEADLINE_TIMER_EXPIRY: the running timer expires (R178, R185). -/
def execDeadlineTimerExpiry (h : Fin 16) (g : Fin 17) (s : State) : Host.Outcome State Fault Refusal :=
  match (gal s h g).tickets.find? fun t => t.timer == 1 with
  | none => .next s
  | some t =>
    let s := updTicket s h g t.serial fun t => { t with timer := 2 }
    .next (bump (arrFlags s h g t.sw t.slot 32) (arrPage h g) Reg.skp.DEADLINE_HITS)

/-! ### The addition (R73, R116, R117, R179) -/

/-- What a flight adds to each landing column: its totals, or under skipping the totals and estimates of the
entries that are computed (R172, R179). -/
def flightAdds (x : Gallery) (r : TileReg) (f : Flight) : List (Option Int) :=
  let totals := landed r f.acc
  match f.skip with
  | none => totals
  | some k =>
    totals.zipIdx.map fun e =>
      match k.classes.getD e.2 0 with
      | 0 => e.1
      | 1 => e.1.map (estimate k (x.sums.getD e.2 (0, 0, 0, 0)))
      | _ => none

/-- Undecided entries of a flight that its budget stopped become estimated (R177). -/
def fallback (f : Flight) : Flight :=
  match f.skip with
  | some k => if k.stopped then { f with skip := some { k with classes := k.classes.map fun v => if v = 0 then 1 else v } } else f
  | none => f

/-- The words of one column-block of a row added to: the clamped image and the events (R58, R73). -/
def addBlock (old : Nat) (adds : List (Option Int)) : Nat × Nat :=
  let r := adds.zipIdx.map fun e =>
    let v := signed 32 (bits old (32 * e.2) 32)
    match e.1 with
    | some a => clamp32 (v + a)
    | none => (v, false)
  (packElems 32 (r.map fun e => twos 32 e.1), (r.filter (·.2)).length)

/-- What a flight's totals make of its row, by column-blocks: the word of each block added to, with its new image, and
the events; a block without an addition is not touched. None at an uncorrectable error. -/
def formRow (h g : Nat) (gr : Group) (first : Nat) : List (List (Option Int)) → State → State × Option (List (Nat × Nat) × Nat)
  | [], s => (s, some ([], 0))
  | b :: rest, s =>
    if b.all (·.isNone) then formRow h g gr (first + 16) rest s
    else
      match readStore s h g 2 (landWord gr first) 16 with
      | (s, none) => (s, none)
      | (s, some old) =>
        match formRow h g gr (first + 16) rest s with
        | (s, none) => (s, none)
        | (s, some (ws, n)) => (s, some ((landWord gr first, (addBlock old b).1) :: ws, (addBlock old b).2 + n))

/-- The totals of a flight added to its row, whole or not at all (R74). The events, or none at an uncorrectable
error. -/
def addRow (h g : Nat) (gr : Group) (first : Nat) (blocks : List (List (Option Int))) (s : State) : State × Option Nat :=
  match formRow h g gr first blocks s with
  | (s, none) => (s, none)
  | (s, some (ws, n)) => (ws.foldl (fun s w => writeStore s h g 2 w.1 16 w.2) s, some n)

/-- The gallery forgets what it holds of an output tile and of everything after it: the tile runs again from
the first record of its panel (R117). -/
def dropFrom (x : Gallery) (serial tile : Nat) : Gallery :=
  let ring := x.ring.filter fun e => decide (e.serial < serial) || (e.serial == serial && decide (e.tile < tile))
  { x with
    ring := ring
    asHead := match ring.getLast? with
      | some e => (e.course + e.courses) % 2048
      | none => x.asHead
    tickets := x.tickets.map fun t =>
      if t.serial = serial then { t with recvTile := tile, recvRec := 0 }
      else if serial < t.serial then { t with recvTile := 0, recvRec := 0 } else t
    shadow := none, staged := none, flight := none, streamRows := [], sampling := none
    resident := x.resident.map fun r => { r with serial := 0 } }

/-- A saturation retry: the group is reopened in its own rows under a shift raised by 4 (R117, R172). -/
def retryGroup (s : State) (h g : Nat) (gr : Group) : State :=
  let x := dropFrom (gal s h g) gr.serial gr.tile
  let x := if gr.preloaded then clearClasses x gr else clearRows x gr
  let s := updGroup (setGal s h g x) h g gr.slot fun e => { e with
    phase := .retrying, shift := e.shift + 4, retries := e.retries + 1
    loaded := 0, tilesDone := 0, stageRow := 0, addRow := 0, numbered := 0, misses := 0 }
  arrFlags (bump s (arrPage h g) Reg.lnd.RETRIES) h g gr.sw gr.jobSlot 4

/-- The row's entries of a preloaded group are loaded. -/
def rowLoaded (gr : Group) (row ns : Nat) : Bool := !gr.preloaded || decide ((row * ns + ns - 1) / 128 < gr.loaded)

/-- The totals enter the landing: saturation events are counted, and retried or left (R73, R117). -/
def addFlight (s : State) (h g : Nat) (f : Flight) (r : TileReg) (gr : Group) (t : Ticket) : State :=
  let f := fallback f
  let x := gal s h g
  let adds := flightAdds x r f
  let s := match f.skip with
    | some k => count s (arrPage h g) Reg.skp.ESTIMATED (k.classes.filter (· == 1)).length
    | none => s
  match addRow h g gr (f.row * shapeCols r.shape) (chunks 16 adds.length adds) s with
  | (s, none) => ticketMemFault s t
  | (s, some n) =>
    let s := count s (arrPage h g) Reg.lnd.SAT_EVENTS n
    if n != 0 && decide (gr.shift < 8) && decide (gr.retries < 2) then retryGroup s h g gr
    else
      let s := if n = 0 then s
        else arrFlags (updGroup s h g gr.slot fun e => { e with sat := true }) h g gr.sw gr.jobSlot 1
      startFlight (finishRow s h g f fun c => (adds.getD c none).getD 0) h g

/-- The VE runs a drain. -/
def drainRuns (x : Gallery) : Bool := x.ve.any fun i => match i with
  | .drain _ _ => true
  | .vector _ => false

/-- The addition may have waited for one row read of the drain that runs (R118). -/
def countDrainWait (s : State) (h g : Nat) : State :=
  if drainRuns (gal s h g) then mayCount s (arrPage h g) Reg.lnd.LAND_WAIT else s

/-- The first addition of a tile whose group opened late has waited: LAND_WAIT, unless its own wait has counted (R116). -/
def countOpeningWait (s : State) (h g : Nat) (f : Flight) (r : TileReg) : State :=
  if r.landWaited then
    let s := if f.waited then s else bump s (arrPage h g) Reg.lnd.LAND_WAIT
    setGal s h g { gal s h g with resident := some { r with landWaited := false } }
  else s

/-- FLIGHT_END_ADD: the flight that has run its last tread adds into its group, or waits for its row (R73,
R115, R116). -/
def execFlightEndAdd (h : Fin 16) (g : Fin 17) (s : State) : Host.Outcome State Fault Refusal :=
  let x := gal s h g
  match x.flight, x.resident with
  | some f, some r =>
    match f.todo, ticketJob s h g f.serial, flightGroup x f with
    | [], some (t, j), some gr =>
      if gr.sig != dSignature j.desc then
        .next (endJob (setSticky s (arrPage h g) Sticky.arr.SIG_FAULT) t.sw t.slot 0x21)
      else if rowLoaded gr f.row (shapeCols r.shape) then
        .next (addFlight (countDrainWait (countOpeningWait s h g f r) h g) h g f r gr t)
      else if f.waited then .next s
      else .next (bump (setGal s h g { x with flight := some { f with waited := true } }) (arrPage h g) Reg.lnd.LAND_WAIT)
    | _, _, _ => .next s
  | _, _ => .next s

/-! ### The sampler (R180, R181) -/

/-- The exact totals of a row, by landing column. -/
def exactTotals (r : TileReg) (gs : List ((Nat × Nat) × List Nat)) : List (Option Int) :=
  landed r ((List.range (shapeCols r.shape)).map fun c =>
    columnSum r (fun p => (List.lookup p gs).getD []) c fun q pay k n => q * weightAt r.ww pay k n)

/-- Code words of a streamed row read again: by their number in the row, their images. -/
def readCodeWords (h g : Nat) (a : RowAt) (codes : Nat) : List Nat → State → State × Option (NatMap Nat)
  | [], s => (s, some [])
  | n :: rest, s =>
    match rowRead s h g a (codes + 64 * n) 64 with
    | (s, none) => (s, none)
    | (s, some v) =>
      match readCodeWords h g a codes rest s with
      | (s, none) => (s, none)
      | (s, some m) => (s, some (NatMap.set m n v))

/-- The groups of a row gathered for its sampling flight; the words of a streamed row are read again, past the stream
ring, which holds the rows to come. -/
def sampleGather (s : State) (h g : Nat) (a : RowAt) (side m : Nat) :
    State × Option (List ((Nat × Nat) × List Nat)) :=
  match streamedAt s h g a.j a.gr.i a.row with
  | some (_, codes) =>
    match readCodeWords h g a codes (codeWords a.r (container (dWa a.j.desc)) a.j.k) s with
    | (s, none) => (s, none)
    | (s, some ws) => (s, some ((namedGroups a.r).map fun p => (p, groupCodes a.j.desc side a.gr.shift m a.j.k ws p)))
  | none =>
    match gather s h g a false (ringWords a) side m with
    | (s, none) => (s, none)
    | (s, some (gs, _)) => (s, some gs)

/-- A sampled entry missed (R181). -/
def missed (sh : Nat) (k : SkipRun) (col : Int × Int × Int × Nat) (total : Int) (est : Option Int) : Bool :=
  match est with
  | none => !below sh k col total
  | some e => below sh k col total != below sh k col e

/-- SAMPLING_FLIGHT: every plane of the row's mask again, adding nothing. -/
def execSamplingFlight (h : Fin 16) (g : Fin 17) (s : State) : Host.Outcome State Fault Refusal :=
  let x := gal s h g
  match x.sampling, x.resident with
  | some (row, cols), some r =>
    match ticketJob s h g r.serial, groupOf x r.serial r.tile with
    | some (t, j), some gr =>
      let a : RowAt := { t := t, j := j, r := r, gr := gr, row := row }
      match readInputs s h g a with
      | (s, none) => .next s
      | (s, some i) =>
        match rowMask s h g a i.side with
        | (s, none) => .next s
        | (s, some m) =>
          match if m = 0 then (s, some []) else sampleGather s h g a i.side m with
          | (s, none) => .next s
          | (s, some gs) =>
            let k := stageSkip a i m []
            let totals := exactTotals r gs
            let bad := (cols.filter fun e =>
              missed gr.shift k (x.sums.getD e.1 (0, 0, 0, 0)) ((totals.getD e.1 none).getD 0) e.2).length
            let n := (treadList r.wa r.ww m).length
            let p := arrPage h g
            let s := countTreads (countFlight s h g r.wa r.ww (m == 0) false) h g t.serial gr.unit n
            let s := count (count (count s p Reg.skp.SAMPLE_TREADS n) p Reg.skp.SAMPLED cols.length) p Reg.skp.MISSES bad
            let s := updGroup s h g gr.slot fun e => { e with misses := e.misses + bad }
            let s := setGal s h g { gal s h g with sampling := none }
            .next (startFlight (closeDone s h g t.serial gr.tile) h g)
    | _, _ => .next s
  | _, _ => .next s

end Sys2Proof.Machine
end

