-- ==== Sys2Proof/Machine/Convert.lean ====
section
/-! DEFINITION. The quantisation unit at work: conversion on entry into the conversion ring and the spill area
(R129, R242 to R244), CONVERT tickets, rows (R133 to R145), generators (R141 to R143) and the statistics burst
(R146, R338). Machine/Quant.lean holds the procedure of one row. -/

namespace Sys2Proof.Machine

/-! ### Conversions -/

/-- The conversion block a conversion uses: the input block, or the output block of a requantising drain. -/
def cbOf (c : Conversion) (j : Job) : Nat :=
  match c.path with
  | .drain => j.aux.getD 0
  | _ => j.conv.getD 0

/-- A conversion as it begins. -/
def newConversion (t : Ticket) (block rows : Nat) (path : ConvPath) (values : List (List Nat)) (spill : Option Nat) :
    Conversion :=
  { serial := t.serial, sw := t.sw, slot := t.slot, block := block, path := path, rows := rows, next := 0,
    values := values, boulders := [], stats := [], gen := none, spill := spill, burst := false }

/-- The ticket that a conversion makes its statistics adds for makes them. -/
def statsDue (c : Conversion) (t : Ticket) (j : Job) : Bool := cbStats (cbOf c j) && t.records && !c.burst

/-- Every row is converted. -/
def Conversion.rowsDone (c : Conversion) : Bool := decide (c.rows ≤ c.next)

/-- The tickets that run from a finished conversion on entry are free to go on. -/
def markConverted (x : Gallery) (c : Conversion) : Gallery :=
  { x with tickets := x.tickets.map fun t =>
      if t.sw = c.sw ∧ t.slot = c.slot ∧ t.begun then { t with converted := true } else t }

/-- A ticket whose outputs are all written: its units may finish. -/
def ticketWritten (s : State) (h g serial : Nat) : State :=
  updTicket s h g serial fun t => { t with written := true, finished := t.left }

/-- A requantising ticket whose rows, burst and groups are done, or a CONVERT ticket whose rows and burst are,
has finished. -/
def settleQuOut (s : State) (h g : Nat) : State :=
  let x := gal s h g
  match x.quOut with
  | none => s
  | some c =>
    match ticketJob s h g c.serial with
    | none => s
    | some (t, j) =>
      if c.rowsDone && !statsDue c t j && (liveGroups x c.serial).isEmpty then
        ticketWritten (setGal s h g { x with quOut := none }) h g c.serial
      else s

/-! ### Conversion on entry (R129, R243, R244) -/

/-- The first ticket that converts on entry and has not begun to, with the ticket ahead of it. -/
def nextEntry (s : State) (prior : Option Ticket) : List Ticket → Option (Option Ticket × Ticket × Job)
  | [] => none
  | t :: rest =>
    match findJob s t.sw t.slot with
    | some j =>
      if dKind j.desc = 1 ∧ dActFloat j.desc ∧ !t.begun then some (prior, t, j) else nextEntry s (some t) rest
    | none => nextEntry s (some t) rest

/-- Courses of the spill area that a ticket needs (R242, R243). -/
def spillNeed (s : State) (h g : Nat) (j : Job) (rows : Nat) : Nat :=
  let blk := rowCourses j.k (container (dWa j.desc))
  if listSpills s h g then 33 + rows * blk else (rows - ringRows s h g blk) * blk

/-- The running ticket's last flight has been staged and its groups have freed (R244). -/
def doneWithRing (s : State) (x : Gallery) : Option Ticket → Bool
  | none => true
  | some t =>
    match findJob s t.sw t.slot with
    | none => true
    | some j =>
      dKind j.desc != 1 || (decide ((ticketTiles j t).length ≤ t.opened) && (liveGroups x t.serial).isEmpty)

/-- The open groups of the tickets that run from a conversion know the rows that its boulder entries name. -/
def noteBoulders (x : Gallery) (c : Conversion) (entries : List Nat) : Gallery :=
  { x with groups := x.groups.map fun e =>
      if e.sw = c.sw ∧ e.jobSlot = c.slot ∧ e.i = c.block ∧ (ticketOf x e.serial).any (·.begun) then
        { e with boulderRows := listRows e.m (c.boulders ++ entries) } else e }

/-- A ticket runs from the conversion that the ring holds, and records nothing (R244). -/
def reuseConversion (s : State) (h g : Nat) (t : Ticket) (j : Job) (c : Conversion) : State :=
  let owner := ticketJob s h g c.serial
  let done := c.rowsDone && !(owner.any fun o => statsDue c o.1 j)
  let s := updTicket s h g t.serial fun t => { t with begun := true, records := false, waited := false, converted := done }
  setGal s h g (noteBoulders (gal s h g) c [])

/-- A conversion begins, over the one that the ring held. -/
def beginEntryConversion (s : State) (h g : Nat) (t : Ticket) (j : Job) : State :=
  let i := ticketBlock j t
  let rows := blockRows j i
  let f := ringRows s h g (rowCourses j.k (container (dWa j.desc)))
  let c := newConversion t i rows .entry [] (if listSpills s h g then some 0 else if f < rows then some f else none)
  let s := setGal s h g { gal s h g with conversion := some c }
  updTicket s h g t.serial fun t => { t with begun := true, waited := false }

/-- CONVERT_ON_ENTRY: the next ticket that converts on entry begins, reuses, waits, or fails for want of spill. -/
def execConvertOnEntry (h : Fin 16) (g : Fin 17) (s : State) : Host.Outcome State Fault Refusal :=
  let x := gal s h g
  match nextEntry s none x.tickets with
  | none => .next s
  | some (prior, t, j) =>
    let i := ticketBlock j t
    let same := prior.any fun p => p.sw == t.sw && p.slot == t.slot && ticketBlock j p == i
    match x.conversion.filter fun c => same && c.sw == t.sw && c.slot == t.slot && c.block == i && !t.afresh with
    | some c => .next (reuseConversion s h g t j c)
    | none =>
      if doneWithRing s x prior then
        if rd s (memPage h g) Reg.gm.SPILL_SIZE < spillNeed s h g j (blockRows j i) then
          .next (endJob (setSticky s (memPage h g) Sticky.gm.SPILL_SHORT) t.sw t.slot 0x28)
        else .next (beginEntryConversion s h g t j)
      else if t.waited then .next s
      else .next (bump (updTicket s h g t.serial fun t => { t with waited := true }) (arrPage h g) Reg.arr.STAGE_WAIT)

/-! ### CONVERT tickets (R129) -/

/-- CONVERT: the next CONVERT ticket begins when the QU's output path is free. -/
def execConvert (h : Fin 16) (g : Fin 17) (s : State) : Host.Outcome State Fault Refusal :=
  let x := gal s h g
  let mine (t : Ticket) : Bool := !t.begun && (findJob s t.sw t.slot).any fun j => dKind j.desc == 2
  match x.quOut, x.tickets.find? mine with
  | none, some t =>
    match findJob s t.sw t.slot with
    | none => .next s
    | some j =>
      let i := ticketBlock j t
      let s := setGal s h g { x with quOut := some (newConversion t i (blockRows j i) .convert [] none) }
      .next (updTicket s h g t.serial fun t => { t with begun := true })
  | _, _ => .next s

/-! ### Generators (R143) -/

/-- The generator bound to a pair, or the lowest unbound one. -/
def pickGen (x : Gallery) (stream seed : Nat) : Option Nat :=
  match x.gens.find? fun e => e.2.stream == stream && e.2.seed == seed with
  | some e => some e.1
  | none => (List.range 4).find? fun i => (NatMap.get? x.gens i).isNone

/-- A ticket holds generator `i`. -/
def bindGen (s : State) (h g : Nat) (i stream seed serial : Nat) : State :=
  let x := gal s h g
  match NatMap.get? x.gens i with
  | some e => setGal s h g { x with gens := NatMap.set x.gens i { e with users := serial :: e.users.filter (· != serial) } }
  | none =>
    wr (setGal s h g { x with gens := NatMap.set x.gens i { stream := stream, seed := seed, users := [serial] } })
      (quPage h g) (Reg.qu.GEN_SEED i) seed

/-- GENERATOR_BIND: the conversion that rounds stochastically takes a generator, or waits for one. -/
def execGeneratorBind (h : Fin 16) (g : Fin 17) (s : State) : Host.Outcome State Fault Refusal :=
  let x := gal s h g
  match x.quOut with
  | none => .next s
  | some c =>
    match ticketJob s h g c.serial with
    | none => .next s
    | some (t, j) =>
      let b := cbOf c j
      if c.gen.isSome || !cbSr b then .next s
      else
        match pickGen x (cbStream b) (cbSeed b) with
        | some i =>
          let s := bindGen s h g i (cbStream b) (cbSeed b) t.serial
          .next (setGal s h g { gal s h g with quOut := some { c with gen := some i } })
        | none =>
          if t.waited then .next s
          else .next (bump (updTicket s h g t.serial fun t => { t with waited := true }) (quPage h g) Reg.qu.SR_WAIT)

/-! ### Rows (R133 to R145, R242) -/

/-- The row of a conversion is free to convert: its generator is bound. -/
def Conversion.bound (c : Conversion) (j : Job) : Bool := c.gen.isSome || !cbSr (cbOf c j)

/-- The conversion whose row the QU takes next, `true` for the output path: none proceeds behind an earlier one
that waits for a generator (R143). -/
def nextConversion (s : State) (h g : Nat) : Option (Bool × Conversion) :=
  let x := gal s h g
  let out := x.quOut.filter fun c => !c.rowsDone
  let stuck := out.filter fun c => !((ticketJob s h g c.serial).any fun e => c.bound e.2)
  match x.conversion.filter (fun c => !c.rowsDone && !(stuck.any fun o => decide (o.serial < c.serial))) with
  | some c => some (false, c)
  | none => if stuck.isSome then none else out.map fun c => (true, c)

/-- The source row of a conversion as FP32 values; none when its read failed. -/
def sourceRow (s : State) (h g : Nat) (t : Ticket) (j : Job) (c : Conversion) : State × Option (List Nat) :=
  match c.path with
  | .drain => (s, some (c.values.getD c.next []))
  | _ =>
    let d := j.desc
    let fmt := cbSrc (j.conv.getD 0)
    let n := fmtBytes fmt
    let r := dMBlock d * c.block + c.next
    match ticketRead s h g (.gallery (Fin.ofNat 17 g)) t (dActAddr d + r * dActRowStride d) (j.k * n) with
    | (s, none) => (s, none)
    | (s, some img) => (s, some ((List.range j.k).map fun k => widen (fmtOf fmt) (bits img (8 * n * k) (8 * n))))

/-- A row block of a conversion on entry: side word, then codes from byte 64, in the ring or the spill area. -/
def writeBlock (s : State) (h g : Nat) (t : Ticket) (j : Job) (c : Conversion) (v : Converted) : State × Bool :=
  let cw := container (dWa j.desc)
  let blk := rowCourses j.k cw
  let n := 64 + 64 * ceilDiv (j.k * cw) 512
  let img := v.side + packCodes cw v.codes * 2 ^ 512
  match c.spill.filter (· ≤ c.next) with
  | some f => ticketWrite s h g t (spillRow s h g f blk c.next) n img
  | none => (writeStore s h g 1 (ringRow blk c.next) (n / 4) img, true)

/-- The outputs of one row on the paths that write memory (R190). -/
def writeOutRow (s : State) (h g : Nat) (t : Ticket) (j : Job) (c : Conversion) (v : Converted) : State × Bool :=
  let d := j.desc
  let cw := container (fmtWidth (cbAfmt (cbOf c j)))
  let r := dMBlock d * c.block + c.next
  match ticketWrite s h g t (dOutAddr d + r * dOutRowStride d) (ceilDiv (v.codes.length * cw) 8) (packCodes cw v.codes) with
  | (s, false) => (s, false)
  | (s, true) => ticketWrite s h g t (dOutSideAddr d + 8 * r) 8 v.side

/-- The row error, when the block asks for it (R145). -/
def writeRowErr (s : State) (h g : Nat) (t : Ticket) (j : Job) (c : Conversion) (v : Converted) : State × Bool :=
  let b := cbOf c j
  if cbRowErr b then ticketWrite s h g t (cbRowErrAddr b + 4 * (dMBlock j.desc * c.block + c.next)) 4 v.err else (s, true)

/-- The boulder list of a conversion whose rows are done, where its readers find it. -/
def writeList (s : State) (h g : Nat) (t : Ticket) (j : Job) (c : Conversion) : State × Bool :=
  let n := 8 + 8 * c.boulders.length
  match c.path with
  | .entry =>
    if listSpills s h g then ticketWrite s h g t (rd s (memPage h g) Reg.gm.SPILL_ADDR) n (boulderImage c.boulders)
    else (writeStore s h g 1 0 (n / 4) (boulderImage c.boulders), true)
  | _ => ticketWrite s h g t (dOutBlAddr j.desc + 16448 * c.block) n (boulderImage c.boulders)

/-- What one converted row counts (R149). -/
def countRow (s : State) (h g : Nat) (c : Conversion) (v : Converted) : State :=
  let p := quPage h g
  let x := v.stats
  let s := bump s p Reg.qu.ROWS
  let s := count s p Reg.qu.ZERO_ROWS x.zero.toNat
  let s := count s p Reg.qu.FLUSHED_ROWS x.flushed.toNat
  let s := count s p Reg.qu.CLIPPED_CODES x.clipped
  let s := count s p Reg.qu.SCALE_CLAMPS x.clamped.toNat
  let s := count s p Reg.qu.BOULDERS_MADE x.boulders
  let s := count s p Reg.qu.BOULDERS_DROPPED x.dropped
  let s := count s p Reg.qu.ROT_GROUPS v.rotated
  match c.gen with
  | some i => count s p (Reg.qu.DRAWS i) v.draws
  | none => s

/-- The conversion kept in its place. -/
def putConversion (s : State) (h g : Nat) (out : Bool) (c : Conversion) : State :=
  let x := gal s h g
  setGal s h g (if out then { x with quOut := some c } else { x with conversion := some c })

/-- A conversion whose rows are done, and whose burst is not due or made. -/
def conversionOver (s : State) (h g : Nat) (out : Bool) (c : Conversion) : State :=
  if out then
    let s := if c.path = .drain then
      let x := gal s h g
      setGal s h g { x with groups := x.groups.map fun e => if e.serial = c.serial then { e with drained := true } else e }
      else s
    settleQuOut s h g
  else
    match ticketJob s h g c.serial with
    | some (t, j) => if statsDue c t j then s else setGal s h g (markConverted (gal s h g) c)
    | none => s

/-- The last row of a conversion has been converted: its boulder list is written. -/
def endRows (s : State) (h g : Nat) (out : Bool) (t : Ticket) (j : Job) (c : Conversion) : State :=
  if c.rowsDone then
    match writeList s h g t j c with
    | (s, false) => s
    | (s, true) => conversionOver s h g out c
  else s

/-- The row of a conversion is converted and written. -/
def convertNext (s : State) (h g : Nat) (out : Bool) (c : Conversion) (t : Ticket) (j : Job) : State :=
  match sourceRow s h g t j c with
  | (s, none) => s
  | (s, some xs) =>
    let b := cbOf c j
    let v := convertRow b (dMBlock j.desc * c.block + c.next) c.next (2048 - c.boulders.length) xs
    let s := quFlags (countRow s h g c v) h g c.sw c.slot v.flags
    match if out then writeOutRow s h g t j c v else writeBlock s h g t j c v with
    | (s, false) => s
    | (s, true) =>
      match writeRowErr s h g t j c v with
      | (s, false) => s
      | (s, true) =>
        let s := if out then s else setGal s h g (noteBoulders (gal s h g) c v.boulders)
        let c := { c with next := c.next + 1, boulders := c.boulders ++ v.boulders, stats := c.stats ++ [v.stats] }
        endRows (putConversion s h g out c) h g out t j c

/-- ROW_CONVERSION: the QU converts the next row of the conversion it works on. -/
def execRowConversion (h : Fin 16) (g : Fin 17) (s : State) : Host.Outcome State Fault Refusal :=
  match nextConversion s h g with
  | none => .next s
  | some (out, c) =>
    match ticketJob s h g c.serial with
    | some (t, j) => .next (convertNext s h g out c t j)
    | none => .next s

/-! ### The statistics burst (R146, R338) -/

/-- The conversion whose burst is due. -/
def nextBurst (s : State) (h g : Nat) : Option (Bool × Conversion × Ticket × Job) :=
  let due (o : Bool) (c : Option Conversion) : Option (Bool × Conversion × Ticket × Job) :=
    match c with
    | none => none
    | some c =>
      match ticketJob s h g c.serial with
      | some (t, j) => if c.rowsDone && statsDue c t j then some (o, c, t, j) else none
      | none => none
  match due false (gal s h g).conversion with
  | some b => some b
  | none => due true (gal s h g).quOut

/-- The tally marks the units that the adds of a ticket belong to. -/
def markBurst (s : State) (t : Ticket) : State :=
  updJob s t.sw t.slot fun j => { j with burst := j.burst ++ t.units.filter fun u => (unitPlace j u).2 == (0, 0) }

/-- STATISTICS_ADD_BURST: every row's adds in one burst at the stack controller. -/
def execStatisticsAddBurst (h : Fin 16) (g : Fin 17) (s : State) : Host.Outcome State Fault Refusal :=
  match nextBurst s h g with
  | none => .next s
  | some (out, c, t, j) =>
    let a := cbStatsAddr (cbOf c j)
    let s := markBurst s t
    match memAdd s .stats a (c.stats.foldl addStats ·) with
    | (s, .fault k f) => .next (galleryAccessFault s h g t.sw t.slot k f)
    | (s, .ok _) =>
      let c := { c with burst := true }
      .next (conversionOver (putConversion s h g out c) h g out c)

end Sys2Proof.Machine
end

