-- ==== Sys2Proof/Machine/Drain.lean ====
section
/-! DEFINITION. The drain: the values of R119, the boulder stage (R120), the output formats (R121 to R123), and
the group's end (R118). -/

namespace Sys2Proof.Machine

/-! ### The boulder stage (R120) -/

/-- The heads and position codes of a panel's records, in stream order, those of another part left out; each
with the address of its record. None when a read failed. -/
def panelHeads (h g : Nat) (user : HallUser) (t : Ticket) (j : Job) (part base : Nat) : Nat → State → State × Option (List (Nat × Nat))
  | 0, s => (s, some [])
  | n + 1, s =>
    match ticketRead s h g user t base 96 with
    | (s, none) => (s, none)
    | (s, some hd) =>
      match panelHeads h g user t j part (base + recordBytes (dWw j.desc)) n s with
      | (s, none) => (s, none)
      | (s, some l) => (s, some (if outOfPart j.desc part hd then l else (base, hd) :: l))

/-- Row `k` of an ashlar's payload as it is read: the parts of it, with their places in the payload (R54). -/
def payloadRow (ww k : Nat) : List (Nat × Nat) :=
  if ww = 1 then [(2 * k, 2)] else (List.range (digitCount ww)).map fun j => (64 * j + 4 * k, 4)

/-- Parts of an image read, put together at their places. -/
def readParts (h g : Nat) (user : HallUser) (t : Ticket) (base : Nat) : List (Nat × Nat) → State → State × Option Nat
  | [], s => (s, some 0)
  | (off, n) :: rest, s =>
    match ticketRead s h g user t (base + off) n with
    | (s, none) => (s, none)
    | (s, some v) =>
      match readParts h g user t base rest s with
      | (s, none) => (s, none)
      | (s, some w) => (s, some (w + v * 2 ^ (8 * off)))

/-- One match of a boulder entry: the row and value of the entry, the column-block the slot lands on, and the
weights of the slot's row. -/
structure Match where
  row : Nat
  value : Nat
  block : Nat
  weights : List Int
  deriving DecidableEq, Repr

/-- The present slots of a record that match an entry, by slot number (R120). -/
def matchingSlots (shape hd entry : Nat) : List Nat :=
  (List.range 64).filter fun i => !hVoid hd i && slotWindow hd shape i == bits entry 44 10
    && hCode hd i == bits entry 32 12 / 16

/-- The matches of one entry in one record. -/
def recordMatches (h g : Nat) (user : HallUser) (t : Ticket) (j : Job) (base hd entry : Nat) : List Nat → State → State × Option (List Match)
  | [], s => (s, some [])
  | i :: rest, s =>
    let ww := dWw j.desc
    let k := bits entry 32 12 % 16
    match readParts h g user t (base + 96 + i * payloadBytes ww) (payloadRow ww k) s with
    | (s, none) => (s, none)
    | (s, some pay) =>
      match recordMatches h g user t j base hd entry rest s with
      | (s, none) => (s, none)
      | (s, some l) => (s, some (
        { row := boulderRow entry, value := boulderValue entry,
          block := hTarget hd (slotPlace (dShape j.desc) i).1,
          weights := (List.range 16).map fun c => weightAt ww pay k c } :: l))

/-- The matches of one entry over a panel, in stream order. -/
def entryMatches (h g : Nat) (user : HallUser) (t : Ticket) (j : Job) (entry : Nat) : List (Nat × Nat) → State → State × Option (List Match)
  | [], s => (s, some [])
  | (base, hd) :: rest, s =>
    match recordMatches h g user t j base hd entry (matchingSlots (dShape j.desc) hd entry) s with
    | (s, none) => (s, none)
    | (s, some a) =>
      match entryMatches h g user t j entry rest s with
      | (s, none) => (s, none)
      | (s, some b) => (s, some (a ++ b))

/-- The matches of every entry, in list order. -/
def listMatches (h g : Nat) (user : HallUser) (t : Ticket) (j : Job) (heads : List (Nat × Nat)) : List Nat → State → State × Option (List Match)
  | [], s => (s, some [])
  | e :: rest, s =>
    match entryMatches h g user t j e heads s with
    | (s, none) => (s, none)
    | (s, some a) =>
      match listMatches h g user t j heads rest s with
      | (s, none) => (s, none)
      | (s, some b) => (s, some (a ++ b))

/-- The boulder stage of a group: nothing is read when no entry names a row of the tile. -/
def boulderStage (s : State) (h g : Nat) (t : Ticket) (j : Job) (gr : Group) : State × Option (List Match) :=
  if gr.boulderRows.isEmpty then (s, some [])
  else
    let user := HallUser.boulder (Fin.ofNat 17 g) (Fin.ofNat 8 gr.slot)
    match boulderEntries s h g user t j gr.i with
    | (s, none) => (s, none)
    | (s, some es) =>
      let p := t.panels.getD gr.tile (0, 0)
      match panelHeads h g user t j gr.part (dStreamAddr j.desc + 32 * p.1) p.2 s with
      | (s, none) => (s, none)
      | (s, some heads) => listMatches h g user t j heads (es.filter fun e => decide (boulderRow e < gr.m)) s

/-- The boulder loop of one entry (m, n), from `u` (R60, R119). -/
def addBoulders (u : FRes) (ms : List Match) (m n : Nat) : FRes :=
  (ms.filter fun b => b.row == m && b.block == n / 16).foldl (fun u b =>
    let p := fMul b.value (fOfInt (b.weights.getD (n % 16) 0)).1
    let r := fAdd u.1 p.1
    (r.1, u.2 ||| p.2 ||| r.2)) u

/-! ### Reading a group's rows -/

/-- The words of the first `n` entries of a group, each row counted as it is read (R128); none at an uncorrectable
error. -/
def readGroup (h g : Nat) (t : Ticket) (gr : Group) (first : Nat) : Nat → State → State × Option (List Nat)
  | 0, s => (s, some [])
  | k + 1, s =>
    match readStore s h g 2 (landWord gr (128 * first)) 128 with
    | (s, none) => (ticketMemFault s t, none)
    | (s, some v) =>
      match readGroup h g t gr (first + 1) k (bump s (arrPage h g) Reg.lnd.DRAIN_ROWS) with
      | (s, none) => (s, none)
      | (s, some l) => (s, some (v :: l))

/-- Entry `e` of the rows read. -/
def entryOf (rows : List Nat) (e : Nat) : Int := signed 32 (bits (rows.getD (e / 128) 0) (32 * (e % 128)) 32)

/-- The side words of a group's rows. -/
def readSides (h g : Nat) (t : Ticket) (j : Job) (i row : Nat) : Nat → State → State × Option (List Nat)
  | 0, s => (s, some [])
  | n + 1, s =>
    match sideOf s h g t j i row with
    | (s, none) => (s, none)
    | (s, some w) =>
      match readSides h g t j i (row + 1) n s with
      | (s, none) => (s, none)
      | (s, some l) => (s, some (w :: l))

/-! ### The values of R119 -/

/-- y of one entry: `a` the exact integer, or none in a row of SCALE 0x00. -/
def drainValue (a : Option Int) (scale wscale : Nat) (ms : List Match) (m n : Nat) : FRes :=
  let u : FRes := match a with
    | none => (0, 0)
    | some v =>
      let c := fOfInt v
      let p := fMul c.1 scale
      (p.1, c.2 ||| p.2)
  let u := addBoulders u ms m n
  let y := fMul u.1 wscale
  (y.1, u.2 ||| y.2)

/-- Columns of a tile that lie below N (R196). -/
def liveCols (j : Job) (gr : Group) : Nat := min (dCols j.desc) (j.n - gr.j * dCols j.desc)

/-- The values of a row of a group; none where the entry is weak or far (R172). -/
def drainRow (j : Job) (gr : Group) (x : Gallery) (skips : Bool) (rows : List Nat) (recs side : Nat) (ms : List Match)
    (m : Nat) : List (Option FRes) :=
  let d := j.desc
  let s := effScale (cbT (j.conv.getD 0)) (sideScale side)
  (List.range (liveCols j gr)).map fun n =>
    let e := m * dCols d + n
    if skips && decide (2 ≤ classAt x gr e) then none
    else
      let rec_ := bits recs (64 * n) 64
      let a : Option Int := if sideScale side = 0 then none
        else some (2 ^ gr.shift * entryOf rows e - (rowZp d side : Int) * colSum rec_)
      some (drainValue a s (colScale rec_) ms m n)

/-- What a group's drain has read: its rows, side words, column records and matches. -/
structure DrainIn where
  rows : List Nat
  sides : List Nat
  recs : Nat
  ms : List Match
  deriving DecidableEq, Repr

/-- Everything a drain to values reads. -/
def readDrain (s : State) (h g : Nat) (t : Ticket) (j : Job) (gr : Group) : State × Option DrainIn :=
  match readGroup h g t gr 0 gr.rows s with
  | (s, none) => (s, none)
  | (s, some rows) =>
    match readSides h g t j gr.i 0 gr.m s with
    | (s, none) => (s, none)
    | (s, some sides) =>
      let n := liveCols j gr
      let cols : State × Option Nat := if n = 0 then (s, some 0)
        else ticketRead s h g (.gallery (Fin.ofNat 17 g)) t (dColrecAddr j.desc + 8 * (gr.j * dCols j.desc)) (8 * n)
      match cols with
      | (s, none) => (s, none)
      | (s, some recs) =>
        match boulderStage s h g t j gr with
        | (s, none) => (s, none)
        | (s, some ms) => (s, some { rows := rows, sides := sides, recs := recs, ms := ms })

/-- The group ran under skipping. -/
def groupSkips (t : Ticket) (j : Job) (gr : Group) : Bool := tileSkips t j ((t.panels.getD gr.tile (0, 0)).2)

/-- All the values of a group, by row. -/
def drainRows (s : State) (h g : Nat) (t : Ticket) (j : Job) (gr : Group) (i : DrainIn) : List (List (Option FRes)) :=
  i.sides.zipIdx.map fun e => drainRow j gr (gal s h g) (groupSkips t j gr) i.rows i.recs e.1 i.ms e.2

/-- The flags of a list of values. -/
def flagsOf (l : List (Option FRes)) : Nat := l.foldl (fun a v => a ||| (v.map Prod.snd).getD 0) 0

/-- What a group's drain counts in the VE (R151, R169). -/
def countDrain (s : State) (h g : Nat) (cost hits : Nat) : State :=
  let p := vePage h g
  count (count s p Reg.ve.VE_HS cost) p Reg.ve.BOULDER_MATCHES hits

/-! ### Output formats (R121 to R123) -/

/-- An output element in its format, with the conversion's flags; −∞ for an entry that is weak or far. -/
def outElem (fmt : Nat) : Option FRes → FRes
  | none => ((fmtOf fmt).infBits true, 0)
  | some v => if fmt = 0x30 then v else
      let r := narrow (fmtOf fmt) v.1
      (r.1, v.2 ||| r.2)

/-- Rows formed and written one after another. A row's flags are raised as it is formed, so those of the rows before
a write that faults stand (R66). Whether every row was written. -/
def writeRows (h g : Nat) (t : Ticket) (j : Job) (gr : Group) (m : Nat) : List (List (Option FRes)) → State → State × Bool
  | [], s => (s, true)
  | r :: rest, s =>
    let d := j.desc
    let n := fmtBytes (dYfmt d)
    let out := r.map (outElem (dYfmt d))
    let a := dOutAddr d + (dMBlock d * gr.i + m) * dOutRowStride d + gr.j * dCols d * n
    let s := veFlags s h g gr.sw gr.jobSlot (out.foldl (fun a v => a ||| v.2) 0)
    match if r.isEmpty then (s, true) else ticketWrite s h g t a (n * r.length) (packElems (8 * n) (out.map Prod.fst)) with
    | (s, false) => (s, false)
    | (s, true) => writeRows h g t j gr (m + 1) rest s

/-- The group's outputs are written. -/
def markDrained (s : State) (h g slot : Nat) : State := updGroup s h g slot fun e => { e with drained := true }

/-- A drain to FP32, BF16 or FP16. -/
def drainFloat (s : State) (h g : Nat) (t : Ticket) (j : Job) (gr : Group) : State :=
  match readDrain s h g t j gr with
  | (s, none) => s
  | (s, some i) =>
    let s := countDrain s h g (2 * gr.rows + i.ms.length) i.ms.length
    match writeRows h g t j gr 0 (drainRows s h g t j gr i) s with
    | (s, false) => s
    | (s, true) => markDrained s h g gr.slot

/-- The image of the first `n` entries of rows of 128. -/
def rowsImage (rows : List Nat) (n : Nat) : Nat := packElems 4096 rows % 2 ^ (32 * n)

/-- The boulder-term tile: the boulder loop from +0.0 (R122). -/
def boulderTerms (j : Job) (gr : Group) (ms : List Match) : List FRes :=
  (List.range (gr.m * dCols j.desc)).map fun e => addBoulders (0, 0) ms (e / dCols j.desc) (e % dCols j.desc)

/-- A drain to int32: the entries as held, the boulder-term tile and the tile side word (R122, R123). -/
def drainInt (s : State) (h g : Nat) (t : Ticket) (j : Job) (gr : Group) : State :=
  let d := j.desc
  let n := gr.m * dCols d
  let o := tileIndex d gr.i gr.j
  let at_ := gr.part * dPartStride d + o * tileBytes d
  let bt := !gr.boulderRows.isEmpty
  match readGroup h g t gr 0 gr.rows s with
  | (s, none) => s
  | (s, some rows) =>
    match boulderStage s h g t j gr with
    | (s, none) => s
    | (s, some ms) =>
      let terms := if bt then boulderTerms j gr ms else []
      let s := countDrain s h g (gr.rows + if bt then 2 * gr.rows else 0) ms.length
      let s := veFlags s h g gr.sw gr.jobSlot (terms.foldl (fun a v => a ||| v.2) 0)
      match ticketWrite s h g t (dOutAddr d + at_) (4 * n) (rowsImage rows n) with
      | (s, false) => s
      | (s, true) =>
        match if bt then ticketWrite s h g t (dBtAddr d + at_) (4 * n) (packElems 32 (terms.map Prod.fst)) else (s, true) with
        | (s, false) => s
        | (s, true) =>
          let side := tileSide gr.shift gr.sat bt gr.sig gr.m gr.part
          match ticketWrite s h g t (dOutSideAddr d + gr.part * dPartStride d + 8 * o) 8 side with
          | (s, false) => s
          | (s, true) => markDrained s h g gr.slot

/-- The values of every group of a requantising ticket, side by side by row; none when a read failed. -/
def drainBlocks (h g : Nat) (t : Ticket) (j : Job) : List Group → State → State × Option (List (List (Option FRes)))
  | [], s => (s, some [])
  | gr :: rest, s =>
    match readDrain s h g t j gr with
    | (s, none) => (s, none)
    | (s, some i) =>
      let mine := drainRows s h g t j gr i
      let s := countDrain s h g (2 * gr.rows + i.ms.length) i.ms.length
      let s := veFlags s h g gr.sw gr.jobSlot (mine.foldl (fun a r => a ||| flagsOf r) 0)
      match drainBlocks h g t j rest s with
      | (s, none) => (s, none)
      | (s, some l) => (s, some (if l.isEmpty then mine else (mine.zip l).map fun e => e.1 ++ e.2))

/-- A requantising drain: every group of the ticket, whose values wait for the QU (R129, R130). -/
def drainCodes (s : State) (h g : Nat) (t : Ticket) (j : Job) : State :=
  match drainBlocks h g t j (liveGroups (gal s h g) t.serial) s with
  | (s, none) => s
  | (s, some l) =>
    let i := ticketBlock j t
    let values := l.map fun r => r.map fun v => (v.map Prod.fst).getD 0
    setGal s h g { gal s h g with quOut := some (newConversion t i (blockRows j i) .drain values none) }

/-- The drain runs in the output format of its job. -/
def runDrain (s : State) (h g : Nat) (t : Ticket) (j : Job) (tile : Nat) : State :=
  if dRequant j.desc then drainCodes s h g t j
  else
    match groupOf (gal s h g) t.serial tile with
    | none => s
    | some gr => if dYfmt j.desc = 0x20 then drainInt s h g t j gr else drainFloat s h g t j gr

/-- What a drain waits for: an older group that has yet to close (R118), its M-block's conversion, whose boulder list
it reads (R119, R244), and the QU's output path when it requantises. -/
def drainWaits (x : Gallery) (t : Ticket) (j : Job) (tile : Nat) : Bool :=
  drainBlocked x t.serial tile || (dActFloat j.desc && !t.converted) || (dRequant j.desc && x.quOut.isSome)

/-- DRAIN_START: the VE takes the drain that is its next work item. -/
def execDrainStart (h : Fin 16) (g : Fin 17) (s : State) : Host.Outcome State Fault Refusal :=
  let x := gal s h g
  match x.ve, x.ready with
  | none, .drain serial tile :: rest =>
    match ticketJob s h g serial with
    | none => .next (setGal s h g { x with ready := rest })
    | some (t, j) =>
      if drainWaits x t j tile then .next s
      else .next (runDrain (setGal s h g { x with ve := some (.drain serial tile), ready := rest }) h g t j tile)
  | _, _ => .next s

/-! ### The end of a drain (R118) -/

/-- The groups of the running drain. -/
def drainGroups (x : Gallery) (serial tile : Nat) (requant : Bool) : List Group :=
  x.groups.filter fun e => e.serial == serial && (requant || e.tile == tile) && e.draining && e.phase == .draining

/-- DRAIN_DONE: the last output write is accepted, the groups free their slots and rows, and the unit may
finish. -/
def execDrainDone (h : Fin 16) (g : Fin 17) (s : State) : Host.Outcome State Fault Refusal :=
  let x := gal s h g
  match x.ve with
  | some (.drain serial tile) =>
    match ticketJob s h g serial with
    | none => .next s
    | some (_, j) =>
      let gs := drainGroups x serial tile (dRequant j.desc)
      if gs.all (·.drained) then
        let x := releaseRing (gs.foldl (fun x e => freeGroup x e.slot) { x with ve := none })
        let s := count (setGal s h g x) (vePage h g) Reg.ve.DRAINS gs.length
        if dRequant j.desc then .next (settleQuOut s h g)
        else .next (updTicket s h g serial fun t => { t with finished := t.finished ++ gs.map Group.unit })
      else .next s
  | _ => .next s

end Sys2Proof.Machine
end

