-- ==== Sys2Proof/Machine/Vector.lean ====
section
/-! DEFINITION. The vector operations of the VE: the start of a ticket (R150, R162), MAP, DOT, SOFTMAX, TOPK and
REDUCE_SUM over the rows of an M-block (R154 to R165), and REDUCE_SPLITK (R124, R166, R167). -/

namespace Sys2Proof.Machine

/-- The M-block's rows, the ticket, job and vector block of the VE's running vector ticket. -/
structure VecRun where
  t : Ticket
  j : Job
  b : Nat
  deriving DecidableEq, Repr

/-- The vector ticket that runs in the VE, when its operation is `op`. -/
def vecRun (s : State) (h g op : Nat) : Option VecRun :=
  match (gal s h g).ve with
  | some (.vector serial) =>
    match ticketJob s h g serial with
    | some (t, j) =>
      if vOp (j.aux.getD 0) = op ∧ !t.written then some { t := t, j := j, b := j.aux.getD 0 } else none
    | none => none
  | _ => none

/-! ### The start of a ticket -/

/-- A SOFTMAX ticket: the table registers name its table, and it is read (R162, R169). -/
def loadTable (s : State) (h g : Nat) (t : Ticket) (b : Nat) : State :=
  let a := vTableAddr b
  let s := wr (wr s (vePage h g) Reg.ve.CORR_SRC (if a = 0 then 0 else 1)) (vePage h g) Reg.ve.TABLE_ADDR a
  let keep (s : State) (table : Option (List Nat)) : State := setGal s h g { gal s h g with table := table }
  if a = 0 then keep s none
  else
    match ticketRead s h g (.gallery (Fin.ofNat 17 g)) t a 512 with
    | (s, none) => s
    | (s, some img) => keep s (some ((List.range 128).map fun i => fieldAt img (4 * i) 4))

/-- VECTOR_TICKET_START: the VE takes the vector ticket that is its next work item (R150). -/
def execVectorTicketStart (h : Fin 16) (g : Fin 17) (s : State) : Host.Outcome State Fault Refusal :=
  let x := gal s h g
  match x.ve, x.ready with
  | none, .vector serial :: rest =>
    match ticketJob s h g serial with
    | none => .next (setGal s h g { x with ready := rest })
    | some (t, j) =>
      let s := setGal s h g { x with ve := some (.vector serial), ready := rest }
      let s := updTicket s h g serial fun t => { t with begun := true }
      .next (if vOp (j.aux.getD 0) = 3 then loadTable s h g t (j.aux.getD 0) else s)
  | _, _ => .next s

/-! ### Cost (R151) -/

/-- Lanes of an operation: 128 when every format it reads or writes is BF16 or FP16. -/
def lanesOf (fmts : List Nat) : Nat := if fmts.all (· != 0x30) then 128 else 64

/-- The operation reads SCALAR, an FP32 operand (*Vector operation block*): SOFTMAX, SCALE_ADD, and MAP of a B that
SCALAR stands for. -/
def vReadsScalar (b : Nat) : Bool :=
  vOp b == 3 || (vOp b == 1 && (vFunc b == 6 || (vReadsBMode b && vBMode b == 2)))

/-- The formats of an operation's operands and result. The parts of REDUCE_SPLITK are int32 and FP32 (R122, R124). -/
def opFormats (b : Nat) : List Nat :=
  match vOp b with
  | 4 => [vAfmt b]
  | 6 => [0x20, 0x30, vYfmt b]
  | _ => [vAfmt b, vYfmt b] ++ (if vReadsB b then [vBfmt b] else []) ++ if vReadsScalar b then [0x30] else []

/-- *VE cost* of one group of a sum over `n` terms. -/
def sumCost (b n : Nat) : Nat := if vGrouped b then n + 2 * ceilDiv n 32 else n

/-- *VE cost* of a ticket of `rows` rows of `n` elements. -/
def vecCost (b rows n : Nat) : Nat :=
  let lanes := lanesOf (opFormats b)
  match vOp b with
  | 1 => ceilDiv (rows * n) lanes
  | 2 => ceilDiv rows lanes * sumCost b n
  | 3 => ceilDiv rows lanes * (12 * n)
  | 4 => rows * (ceilDiv n 64 + vTopk b)
  | 5 => ceilDiv (rows * n) lanes * sumCost b (vSources b)
  | _ => ceilDiv (rows * n) lanes * (vSources b + 3)

/-! ### Reading operands (R190) -/

/-- Elements one after another, `step` bytes apart. -/
def readElems (h g : Nat) (t : Ticket) (size step a : Nat) : Nat → State → State × Option (List Nat)
  | 0, s => (s, some [])
  | n + 1, s =>
    match ticketRead s h g (.gallery (Fin.ofNat 17 g)) t a size with
    | (s, none) => (s, none)
    | (s, some v) =>
      match readElems h g t size step (a + step) n s with
      | (s, none) => (s, none)
      | (s, some l) => (s, some (v :: l))

/-- A row of `n` elements of a format at `a`, converted exactly to FP32. -/
def readRow (s : State) (h g : Nat) (t : Ticket) (fmt stride n a : Nat) : State × Option (List Nat) :=
  let size := fmtBytes fmt
  if stride = 1 then
    match ticketRead s h g (.gallery (Fin.ofNat 17 g)) t a (n * size) with
    | (s, none) => (s, none)
    | (s, some img) => (s, some ((List.range n).map fun k => widen (fmtOf fmt) (bits img (8 * size * k) (8 * size))))
  else
    match readElems h g t size (stride * size) a n s with
    | (s, none) => (s, none)
    | (s, some l) => (s, some (l.map (widen (fmtOf fmt))))

/-- Row `r` of tensor A of source `src`. -/
def readA (s : State) (h g : Nat) (v : VecRun) (src r : Nat) : State × Option (List Nat) :=
  let d := v.j.desc
  readRow s h g v.t (vAfmt v.b) (dElemStride d) v.j.k (dActAddr d + src * vPartStride v.b + r * dActRowStride d)

/-- The row of B that goes with row `r` of A: that row, row 0, or the scalar in every place (R152, R154). -/
def readB (s : State) (h g : Nat) (v : VecRun) (r : Nat) : State × Option (List Nat) :=
  let d := v.j.desc
  if vReadsB v.b then
    readRow s h g v.t (vBfmt v.b) (dElemStride d) v.j.k
      (dSrc2Addr d + (if vBMode v.b = 0 then r else 0) * dBRowStride d)
  else (s, some (List.replicate v.j.k (vScalar v.b)))

/-- The sources of one row from source `src` on. -/
def readSources (h g : Nat) (v : VecRun) (r src : Nat) : Nat → State → State × Option (List (List Nat))
  | 0, s => (s, some [])
  | n + 1, s =>
    match readA s h g v src r with
    | (s, none) => (s, none)
    | (s, some xs) =>
      match readSources h g v r (src + 1) n s with
      | (s, none) => (s, none)
      | (s, some l) => (s, some (xs :: l))

/-! ### Writing rows -/

/-- FP32 results converted once to a format, with every flag. -/
def narrowRow (fmt : Nat) (ys : List FRes) : List Nat × Nat :=
  let out := ys.map fun y =>
    let r := narrow (fmtOf fmt) y.1
    (r.1, y.2 ||| r.2)
  (out.map Prod.fst, out.foldl (fun a y => a ||| y.2) 0)

/-- The packed elements of an output row written (R190). -/
def writeOut (s : State) (h g : Nat) (v : VecRun) (r size : Nat) (elems : List Nat) : State × Bool :=
  ticketWrite s h g v.t (dOutAddr v.j.desc + r * dOutRowStride v.j.desc) (size * elems.length)
    (packElems (8 * size) elems)

/-- An output row of FP32 results written in YFMT; its flags are raised. -/
def putRow (s : State) (h g : Nat) (v : VecRun) (r : Nat) (ys : List FRes) (flags : Nat) : State × Bool :=
  let out := narrowRow (vYfmt v.b) ys
  writeOut (veFlags s h g v.t.sw v.t.slot (out.2 ||| flags)) h g v r (fmtBytes (vYfmt v.b)) out.1

/-- The rows of a ticket in ascending order, to the first that faults. -/
def eachRow (f : Nat → State → State × Bool) (r : Nat) : Nat → State → State × Bool
  | 0, s => (s, true)
  | n + 1, s =>
    match f r s with
    | (s, false) => (s, false)
    | (s, true) => eachRow f (r + 1) n s

/-- The ticket's work item ends: counted, and its unit may finish. -/
def endVector (s : State) (h g : Nat) (v : VecRun) : State :=
  let s := bump s (vePage h g) Reg.ve.VEC_TICKETS
  ticketWritten (setGal s h g { gal s h g with ve := none }) h g v.t.serial

/-- A ticket over the rows of its M-block: `row` makes global row `r`. DESIGN CHOICE: its whole cost is charged before its
first row, and stands when a row faults (assumption 119). -/
def runRows (s : State) (h g : Nat) (v : VecRun) (row : Nat → State → State × Bool) : State :=
  let i := ticketBlock v.j v.t
  let rows := blockRows v.j i
  let s := count s (vePage h g) Reg.ve.VE_HS (vecCost v.b rows v.j.k)
  match eachRow row (dMBlock v.j.desc * i) rows s with
  | (s, false) => s
  | (s, true) => endVector s h g v

/-! ### The operations -/

/-- One row of MAP (R154). -/
def mapRow (h g : Nat) (v : VecRun) (r : Nat) (s : State) : State × Bool :=
  match readA s h g v 0 r with
  | (s, none) => (s, false)
  | (s, some xs) =>
    match readB s h g v r with
    | (s, none) => (s, false)
    | (s, some ys) => putRow s h g v r ((xs.zip ys).map fun e => mapFunc (vFunc v.b) e.1 e.2 (vScalar v.b)) 0

/-- MAP: the running ticket's M-block. -/
def execMap (h : Fin 16) (g : Fin 17) (s : State) : Host.Outcome State Fault Refusal :=
  match vecRun s h g 1 with
  | none => .next s
  | some v => .next (runRows s h g v (mapRow h g v))

/-- One row of DOT (R155, R156). -/
def dotOf (h g : Nat) (v : VecRun) (r : Nat) (s : State) : State × Bool :=
  match readA s h g v 0 r with
  | (s, none) => (s, false)
  | (s, some xs) =>
    match readB s h g v r with
    | (s, none) => (s, false)
    | (s, some ys) => putRow s h g v r [dotRow (vGrouped v.b) xs ys] 0

/-- DOT. -/
def execDot (h : Fin 16) (g : Fin 17) (s : State) : Host.Outcome State Fault Refusal :=
  match vecRun s h g 2 with
  | none => .next s
  | some v => .next (runRows s h g v (dotOf h g v))

/-- One row of SOFTMAX with the table in force (R158 to R161). DESIGN CHOICE: SOFTMAX_ROWS counts every row read, those
that are entirely −∞ or hold a NaN too (assumption 100). -/
def softmaxOf (h g : Nat) (v : VecRun) (r : Nat) (s : State) : State × Bool :=
  match readA s h g v 0 r with
  | (s, none) => (s, false)
  | (s, some xs) =>
    let y := softmaxRow (((gal s h g).table).getD builtinTable) (vScalar v.b) (vLogOut v.b) xs
    let s := bump s (vePage h g) Reg.ve.SOFTMAX_ROWS
    let s := if y.2.2 then bump s (vePage h g) Reg.ve.EMPTY_SOFTMAX else s
    putRow s h g v r (y.1.map fun e => (e, 0)) (y.2.1 ||| if y.2.2 then 2 ^ Sticky.ve.EMPTY_ROW else 0)

/-- SOFTMAX. -/
def execSoftmax (h : Fin 16) (g : Fin 17) (s : State) : Host.Outcome State Fault Refusal :=
  match vecRun s h g 3 with
  | none => .next s
  | some v => .next (runRows s h g v (softmaxOf h g v))

/-- One row of TOPK: k entries of VALUE and POSITION (R163). -/
def topkOf (h g : Nat) (v : VecRun) (r : Nat) (s : State) : State × Bool :=
  match readA s h g v 0 r with
  | (s, none) => (s, false)
  | (s, some xs) =>
    let y := topkRow (vSmallest v.b) (vTopk v.b) xs
    let s := veFlags (bump s (vePage h g) Reg.ve.TOPK_ROWS) h g v.t.sw v.t.slot y.2
    writeOut s h g v r 8 (y.1.map fun e => e.1 + 2 ^ 32 * e.2)

/-- TOPK. -/
def execTopk (h : Fin 16) (g : Fin 17) (s : State) : Host.Outcome State Fault Refusal :=
  match vecRun s h g 4 with
  | none => .next s
  | some v => .next (runRows s h g v (topkOf h g v))

/-- The stream ID that comes again among those of a list: that of the last source that repeats an earlier one. -/
def aliasOf : List Nat → List Nat → Option Nat
  | _, [] => none
  | seen, x :: rest => (aliasOf (x :: seen) rest).or (if seen.contains x then some x else none)

/-- An alias is recorded and reported to the job (R144). -/
def noteAlias (s : State) (h g : Nat) (v : VecRun) (ids : List Nat) : State :=
  match aliasOf [] ids with
  | none => s
  | some x =>
    let s := wr (wr s (quPage h g) Reg.qu.ALIAS_STREAM_STREAM_ID x) (quPage h g) Reg.qu.ALIAS_STREAM_VALID 1
    quFlags s h g v.t.sw v.t.slot (2 ^ Sticky.qu.STREAM_ALIAS)

/-- The stream table read and checked, before any output (R165). -/
def checkStreams (s : State) (h g : Nat) (v : VecRun) : State × Bool :=
  if vStreams v.b then
    match ticketRead s h g (.gallery (Fin.ofNat 17 g)) v.t (vStreamAddr v.b) (2 * vSources v.b) with
    | (s, none) => (s, false)
    | (s, some img) =>
      let es := (List.range (vSources v.b)).map fun j => bits img (16 * j) 16
      (noteAlias s h g v ((es.filter (bit · 15)).map (· % 2 ^ 15)), true)
  else (s, true)

/-- One row of REDUCE_SUM (R164). -/
def sumRow (h g : Nat) (v : VecRun) (r : Nat) (s : State) : State × Bool :=
  match readSources h g v r 0 (vSources v.b) s with
  | (s, none) => (s, false)
  | (s, some rows) =>
    putRow s h g v r ((List.range v.j.k).map fun x => sumSources (vGrouped v.b) (rows.map (·.getD x 0))) 0

/-- REDUCE_SUM. -/
def execReduceSum (h : Fin 16) (g : Fin 17) (s : State) : Host.Outcome State Fault Refusal :=
  match vecRun s h g 5 with
  | none => .next s
  | some v =>
    match checkStreams s h g v with
    | (s, false) => .next s
    | (s, true) => .next (runRows s h g v (sumRow h g v))

/-! ### REDUCE_SPLITK (R124, R166, R167) -/

/-- The status of the first check that the side words of an output tile fail. -/
def partsBad (rows : Nat) (ws : List Nat) : Option Nat :=
  if ws.any fun w => tsShift w == 3 || tsRows w != rows then some 0x22
  else if ws.any fun w => tsSignature w != tsSignature (ws.headD 0) then some 0x21
  else if (List.range ws.length).any fun p => !ws.any fun w => tsPart w == p then some 0x23
  else none

/-- The side words of slots `x` on. -/
def readSideWords (h g : Nat) (v : VecRun) (o x : Nat) : Nat → State → State × Option (List Nat)
  | 0, s => (s, some [])
  | n + 1, s =>
    match ticketRead s h g (.gallery (Fin.ofNat 17 g)) v.t (vSideAddr v.b + x * vPartStride v.b + 8 * o) 8 with
    | (s, none) => (s, none)
    | (s, some w) =>
      match readSideWords h g v o (x + 1) n s with
      | (s, none) => (s, none)
      | (s, some l) => (s, some (w :: l))

/-- A part as it is read: its side word, its int32 tile and its boulder-term tile. -/
structure SplitPart where
  side : Nat
  tile : Nat
  terms : Nat
  deriving DecidableEq, Repr

/-- The tiles of the parts in ascending PART, each at the slot of its side word. -/
def readTiles (h g : Nat) (v : VecRun) (o n : Nat) : List (Nat × Nat) → State → State × Option (List SplitPart)
  | [], s => (s, some [])
  | (w, x) :: rest, s =>
    let at_ := x * vPartStride v.b + o * tileBytes v.j.desc
    let user := HallUser.gallery (Fin.ofNat 17 g)
    match ticketRead s h g user v.t (dActAddr v.j.desc + at_) (4 * n) with
    | (s, none) => (s, none)
    | (s, some tile) =>
      match if tsTerms w then ticketRead s h g user v.t (vBtAddr v.b + at_) (4 * n) else (s, some 0) with
      | (s, none) => (s, none)
      | (s, some terms) =>
        match readTiles h g v o n rest s with
        | (s, none) => (s, none)
        | (s, some l) => (s, some ({ side := w, tile := tile, terms := terms } :: l))

/-- Each side word with its slot, in ascending PART. -/
def partOrder (ws : List Nat) : List (Nat × Nat) :=
  (List.range ws.length).filterMap fun p => ws.zipIdx.find? fun e => tsPart e.1 == p

/-- The procedure of R124 for entry `e`, in column `n` and a row of side word `side`. -/
def splitkValue (t wa side rec_ e : Nat) (parts : List SplitPart) : FRes :=
  let u : FRes := if sideScale side = 0 then (0, 0)
    else
      let a := (parts.map fun p => 2 ^ (4 * tsShift p.side) * signed 32 (bits p.tile (32 * e) 32)).sum
        - (sideZp wa side : Int) * colSum rec_
      let c := fOfInt a
      let p := fMul c.1 (effScale t (sideScale side))
      (p.1, c.2 ||| p.2)
  let u := (parts.filter fun p => tsTerms p.side).foldl (fun u p =>
    let r := fAdd u.1 (bits p.terms (32 * e) 32)
    (r.1, u.2 ||| r.2)) u
  let y := fMul u.1 (colScale rec_)
  (y.1, u.2 ||| y.2)

/-- The unit fails: nothing is written, and no further ticket of the job issues (R167). -/
def failSplitk (s : State) (h g : Nat) (v : VecRun) (status : Nat) : State :=
  let s := if status = 0x21 then setSticky s (arrPage h g) Sticky.arr.SIG_FAULT
    else setSticky s (vePage h g) Sticky.ve.PART_FAULT
  let s := updJob s v.t.sw v.t.slot fun j =>
    { j with failures := (v.t.units.headD 0, status) :: j.failures, returned := [], requeue := [] }
  let s := noteRan s h g v.t
  freePlaces (releaseWaits (setGal s h g (stripTicket (gal s h g) v.t.serial))) v.t.sw v.t.slot 1

/-- Output row `m` of a tile of a REDUCE_SPLITK. -/
def splitkRow (h g : Nat) (v : VecRun) (place : Nat × Nat × Nat) (recs cols : Nat) (parts : List SplitPart) (m : Nat)
    (s : State) : State × Bool :=
  let d := v.j.desc
  let r := dMBlock d * place.1 + m
  match ticketRead s h g (.gallery (Fin.ofNat 17 g)) v.t (dSideAddr d + 8 * r) 8 with
  | (s, none) => (s, false)
  | (s, some side) =>
    let wa := fmtWidth (tsSignature ((parts.map SplitPart.side).headD 0) / 2 ^ 8 % 2 ^ 8)
    let ys := (List.range cols).map fun n =>
      splitkValue (cbT (v.j.conv.getD 0)) wa side (bits recs (64 * n) 64) (m * dCols d + n) parts
    let out := narrowRow (vYfmt v.b) ys
    let s := veFlags s h g v.t.sw v.t.slot out.2
    if cols = 0 then (s, true)
    else
      let size := fmtBytes (vYfmt v.b)
      ticketWrite s h g v.t (dOutAddr d + r * dOutRowStride d + place.2.1 * dCols d * size) (size * cols)
        (packElems (8 * size) out.1)

/-- The tile of a ticket whose side words agree. DESIGN CHOICE: every entry of the tile is charged, those in columns at N and
beyond among them, before its first row (assumptions 119, 120). -/
def runSplitk (s : State) (h g : Nat) (v : VecRun) (ws : List Nat) : State :=
  let d := v.j.desc
  let place := unitPlace v.j (v.t.units.headD 0)
  let o := tileIndex d place.1 place.2.1
  let rows := blockRows v.j place.1
  let cols := min (dCols d) (v.j.n - place.2.1 * dCols d)
  match readTiles h g v o (rows * dCols d) (partOrder ws) s with
  | (s, none) => s
  | (s, some parts) =>
    let recs : State × Option Nat := if cols = 0 then (s, some 0)
      else ticketRead s h g (.gallery (Fin.ofNat 17 g)) v.t (dColrecAddr d + 8 * (place.2.1 * dCols d)) (8 * cols)
    match recs with
    | (s, none) => s
    | (s, some recs) =>
      let s := count s (vePage h g) Reg.ve.VE_HS (vecCost v.b rows (dCols d))
      let s := if ws.any tsSaturated then jobFlags s v.t.sw v.t.slot 1 else s
      match eachRow (splitkRow h g v place recs cols parts) 0 rows s with
      | (s, false) => s
      | (s, true) => endVector s h g v

/-- REDUCE_SPLITK: the side words are checked before any entry is read (R166). -/
def execReduceSplitk (h : Fin 16) (g : Fin 17) (s : State) : Host.Outcome State Fault Refusal :=
  match vecRun s h g 6 with
  | none => .next s
  | some v =>
    let place := unitPlace v.j (v.t.units.headD 0)
    match readSideWords h g v (tileIndex v.j.desc place.1 place.2.1) 0 (vSources v.b) s with
    | (s, none) => .next s
    | (s, some ws) =>
      match partsBad (blockRows v.j place.1) ws with
      | some c => .next (failSplitk s h g v c)
      | none => .next (runSplitk s h g v ws)

end Sys2Proof.Machine
end

