-- ==== Sys2Proof/Machine/Dresser.lean ====
section
/-! DEFINITION. The dresser: the row-blocks it keeps and the panel it writes (R102 to R106). -/

namespace Sys2Proof.Machine

/-- The source rows of a panel that lie within K, each as an image of its columns below N. -/
def readSource (h : Nat) (b n0 cols : Nat) (k : Nat) : Nat → State → State × Option (List Nat)
  | 0, s => (s, some [])
  | n + 1, s =>
    let e := fmtBytes (rSrcFmt b)
    match hcRead s h .dresser (rSrc b + k * rRowBytes b + n0 * e) (cols * e) with
    | (s, .fault _ _) => (s, none)
    | (s, .ok v) =>
      match readSource h b n0 cols (k + 1) n s with
      | (s, none) => (s, none)
      | (s, some l) => (s, some (v :: l))

/-- Source element `k` of column `c` of a panel; 0 beyond K and N (R104). -/
def srcElem (b cols : Nat) (rows : List Nat) (k c : Nat) : Nat :=
  let w := 8 * fmtBytes (rSrcFmt b)
  if c < cols then bits (rows.getD k 0) (w * c) w else 0

/-- The 256 elements of row-block `q`, counted over the whole matrix, in column-block `cb` of the panel. -/
def blockElems (b cols : Nat) (rows : List Nat) (q cb : Nat) : List Nat :=
  (List.range 256).map fun i => srcElem b cols rows (16 * q + i / 16) (16 * cb + i % 16)

/-- The score of a block: none when it holds a NaN or an infinity (R104). -/
def blockScore (fmt : Nat) (es : List Nat) : Option Nat :=
  let xs := es.map (widen (fmtOf fmt))
  if xs.all isFinite32 then some (xs.foldl (fun a x => a + (fix x).natAbs ^ 2) 0) else none

/-- A score ranks above another; of two equal ones the lower row-block wins. DESIGN CHOICE: two row-blocks that both hold a
NaN or an infinity rank as equal (assumption 118). -/
def outranks (a b : Option Nat × Nat) : Bool :=
  match a.1, b.1 with
  | none, none => decide (a.2 < b.2)
  | none, some _ => true
  | some _, none => false
  | some x, some y => decide (y < x) || (x == y && decide (a.2 < b.2))

/-- A scored row-block put in its place. -/
def insertScored (e : Option Nat × Nat) : List (Option Nat × Nat) → List (Option Nat × Nat)
  | [] => [e]
  | f :: t => if outranks e f then e :: f :: t else f :: insertScored e t

/-- The `n` kept row-blocks of a group, ascending, and the blocks scored as non-finite. -/
def keepBlocks (n : Nat) (scores : List (Option Nat × Nat)) : List Nat × Nat :=
  let kept := ((scores.foldl (fun l e => insertScored e l) []).take n).map Prod.snd
  ((scores.map Prod.snd).filter kept.contains, (scores.filter (·.1.isNone)).length)

/-- Tiles of a panel: g (R105). -/
def dressTiles (b : Nat) : Nat := ceilDiv (ceilDiv (rK b) 4096) (2 ^ rSpanLog b)

/-- The group of column-block `cb` of the panel in window `w`: its kept row-blocks within the window, and how
many scored as non-finite. -/
def dressGroup (b cols : Nat) (rows : List Nat) (cb w : Nat) : List Nat × Nat :=
  keepBlocks (shapeSlots (rShape b) / 2 ^ rSpanLog b)
    ((List.range 256).map fun r => (blockScore (rSrcFmt b) (blockElems b cols rows (256 * w + r) cb), r))

/-- The kept row-blocks of a panel, by column-block, each over every window as (window, row-block). -/
def dressKept (b : Nat) (groups : List (List (List Nat × Nat))) : List (List (Nat × Nat)) :=
  groups.map fun ws => (ws.zipIdx.flatMap fun e => e.1.1.map fun r => (e.2, r)).take
    (dressTiles b * shapeSlots (rShape b))

/-- The ashlar of slot `i` of tile `t`, as window and row-block. -/
def dressSlot (b : Nat) (kept : List (List (Nat × Nat))) (t i : Nat) : Nat × Nat :=
  let p := slotPlace (rShape b) i
  (kept.getD p.1 []).getD (t * shapeSlots (rShape b) + p.2) (0, 0)

/-- The head and position codes of tile `t` (R92, R105). -/
def dressHead (b : Nat) (kept : List (List (Nat × Nat))) (t : Nat) : Nat :=
  let codes := packElems 8 ((List.range 64).map fun i => (dressSlot b kept t i).2)
  t * 2 ^ rSpanLog b + rSpanLog b * 2 ^ 10 + rShape b * 2 ^ 16 + rWfmt b * 2 ^ 24 + codes * 2 ^ 256

/-- What a panel writes, in order: addresses, lengths and images (R105). -/
def dressWrites (b panel cols : Nat) (rows : List Nat) (groups : List (List (List Nat × Nat))) : List (Nat × Nat × Nat) :=
  let kept := dressKept b groups
  let g := dressTiles b
  let size := recordBytes (fmtWidth (rWfmt b))
  let off := panel * g * size / 32
  let e := fmtBytes (rSrcFmt b)
  let windows := g * 2 ^ rSpanLog b
  let c := shapePositions (rShape b)
  [(rIndex b + 8 * panel, 8, off + g * 2 ^ 40)]
    ++ (List.range g).map (fun t => (rStream b + 32 * off + t * size, 96, dressHead b kept t))
    ++ (if rGather b = 0 then [] else (List.range (64 * g)).map fun n =>
        let s := dressSlot b kept (n / 64) (n % 64)
        (rGather b + (64 * g * panel + n) * 256 * e, 256 * e,
          packElems (8 * e) (blockElems b cols rows (256 * s.1 + s.2) (slotPlace (rShape b) (n % 64)).1)))
    ++ (if rKeep b = 0 then [] else kept.zipIdx.map fun k =>
        (rKeep b + (panel * c + k.2) * 32 * windows, 32 * windows,
          k.1.foldl (fun a q => a ||| 2 ^ (256 * q.1 + q.2)) 0))

/-- Writes one after another through the hall's cache; whether each was accepted. -/
def dressPut (h : Nat) : List (Nat × Nat × Nat) → State → State × Bool
  | [], s => (s, true)
  | (a, n, v) :: rest, s =>
    match hcWrite s h .dresser a n v with
    | (s, .fault _ _) => (s, false)
    | (s, .ok _) => dressPut h rest s

/-- What a panel counts (R107). -/
def countPanel (s : State) (h sw slot : Nat) (b : Nat) (groups : List (List (List Nat × Nat))) : State :=
  let p := drsPage h
  let all := groups.flatten
  let bad := (all.map Prod.snd).sum
  let s := count s p Reg.drs.BLOCKS (256 * all.length)
  let s := count s p Reg.drs.KEPT ((shapeSlots (rShape b) / 2 ^ rSpanLog b) * all.length)
  let s := count s p Reg.drs.NONFINITE bad
  if bad = 0 then s else dresserFlag s h sw slot

/-- A panel dressed: source read, groups scored, outputs written. -/
def dressPanel (s : State) (h : Nat) (t : Ticket) (b : Nat) : State :=
  let panel := t.units.headD 0
  let n0 := panel * shapeCols (rShape b)
  let cols := min (shapeCols (rShape b)) (rN b - n0)
  match readSource h b n0 cols 0 (rK b) s with
  | (s, none) => endJob s t.sw t.slot 0x28
  | (s, some rows) =>
    let groups := (List.range (shapePositions (rShape b))).map fun cb =>
      (List.range (dressTiles b * 2 ^ rSpanLog b)).map fun w => dressGroup b cols rows cb w
    match dressPut h (dressWrites b panel cols rows groups) (countPanel s h t.sw t.slot b groups) with
    | (s, false) => endJob s t.sw t.slot 0x28
    | (s, true) =>
      let s := bump s (drsPage h) Reg.drs.PANELS
      { s with dressers := NatMap.set s.dressers h { t with begun := true, written := true } }

/-- DRESS_PANEL: the dresser of a hall dresses the panel of its ticket. -/
def execDressPanel (h : Fin 16) (s : State) : Host.Outcome State Fault Refusal :=
  match NatMap.get? s.dressers h.val with
  | none => .next s
  | some t =>
    match findJob s t.sw t.slot with
    | none => .next s
    | some j => if t.written then .next s else .next (dressPanel s h t (j.aux.getD 0))

end Sys2Proof.Machine
end

