-- ==== Sys2Proof/Machine/GalleryMem.lean ====
section
/-! DEFINITION. The gallery memories as the host and the MC reach them: one access with its check (R237 to R239,
R248, R249), ACT_SPLIT (R241), local operations (R245, R246), the readback window (R247) and the retirement of
bank rows (R250, R251). -/

namespace Sys2Proof.Machine

/-! ### One access (R237, R238, R248, R249) -/

/-- 64-bit words of a memory. -/
def memWords (m : Nat) : Nat := 64 * memCourses m

/-- The first word of the protected word that holds 64-bit word `w`. -/
def unitOf (m w : Nat) : Nat := 2 * w / unitWords m * unitWords m

/-- Bits of a protected word, its check bits among them. -/
def codeBits (m : Nat) : Nat := if m = 0 then 144 else 72

/-- Bit errors that a code corrects; it detects one more (R248). -/
def correctable (m : Nat) : Nat := if m = 0 then 2 else 1

/-- The conflict counter of the bank pair of a word (R238). -/
def pairCounter (m w : Nat) : Option Fld :=
  match m with
  | 0 => some (Reg.gm.AS_PAIR (w / 64 % 16 / 2))
  | 1 => some (Reg.gm.ACT_PAIR (w / 8 % 32 / 2))
  | 2 => some (Reg.gm.LAND_PAIR (w / 64 % 8 / 2))
  | _ => none

/-- Where a requester of a bank stands in *Bank priority*. -/
def portRank (m : GMem) (p : GPort) : Nat := m.ports.idxOf p

/-- The request that a bank serves next: one that has lost in eight consecutive handshakes, else the first in the
order of *Bank priority* (R238). -/
def nextServed (m : GMem) (rs : List (GPort × Nat)) : Option (GPort × Nat) :=
  let due := rs.filter fun r => decide (8 ≤ r.2)
  (if due.isEmpty then rs else due).foldl (fun (b : Option (GPort × Nat)) r => match b with
    | some x => if portRank m x.1 ≤ portRank m r.1 then some x else some r
    | none => some r) none

/-- Of the requests held back in one handshake, the one that its conflict is counted with: the first in the order of
*Bank priority*. Every such handshake counts once, however many requests it holds back (R238). -/
def countsFor (m : GMem) (p : GPort) (lost : List (GPort × Nat)) : Bool :=
  lost.all fun r => decide (portRank m p ≤ portRank m r.1)

/-- Requests that reach a bank and do not wait there already. -/
def joining (waiting : List (GPort × Nat)) (ps : List GPort) : List (GPort × Nat) :=
  (ps.eraseDups.filter fun q => !waiting.any (·.1 == q)).map fun q => (q, 0)

/-- The handshakes that count a conflict with a request while it is held back. One request is served in each; those left
have lost once more, and others join them (R238). -/
def heldBack (m : GMem) (p : GPort) : Nat → List (GPort × Nat) → List (List GPort) → Nat
  | 0, _, _ => 0
  | n + 1, rs, later =>
    match nextServed m rs with
    | none => 0
    | some x =>
      if x.1 = p then 0
      else
        let lost := (rs.filter (· != x)).map fun r => (r.1, r.2 + 1)
        (countsFor m p lost).toNat + heldBack m p n (lost ++ joining lost (later.headD [])) later.tail

/-- Handshakes a request can wait at most: eight lost ones, and those that serve the other requests that have lost eight. -/
def longestWait : Nat := 16

/-- Conflicts that the request of an access counts in the counter of its bank pair. -/
def conflicts (m : GMem) (c : BankContest) : Nat :=
  heldBack m c.port longestWait ((c.port, 0) :: c.rivals) c.arrivals

/-- What the check of a protected word makes of it (R248). -/
inductive Found where
  | clean | corrected | bad
  deriving DecidableEq, Repr

/-- The data of a protected word replaced by a free value. -/
def freeWord (s : State) (h g m u : Nat) : State :=
  let r := draw s
  writeStore r.2 h g m u (unitWords m) (r.1 % 2 ^ (32 * unitWords m))

/-- The data of a protected word with the bits of a list flipped. -/
def flipWord (s : State) (h g m u : Nat) (flips : List Nat) : State :=
  if flips = [] then s
  else writeStore s h g m u (unitWords m)
    ((flips.filter (· < 32 * unitWords m)).foldl (fun v i => v ^^^ 2 ^ i) (getWords (gal s h g) m u (unitWords m)))

/-- The protected word at `u` holds an uncorrectable error. -/
def breakWord (s : State) (h g m u : Nat) : State :=
  let x := gal s h g
  setGal s h g { x with broken := memKey m u :: x.broken.filter (· != memKey m u) }

/-- What a read of the protected word at `u` finds when upsets have flipped bits of it. Beyond the code's detection
the outcome is free: seen as no error, as a correctable one or as an uncorrectable one, the data changed. -/
def upsetWord (s : State) (h g m u : Nat) (flips : List Nat) : State × Found :=
  if m = 3 then (flipWord s h g m u flips, .clean)
  else if flips.length ≤ correctable m then
    (s, if (brokenIn (gal s h g) m u (unitWords m)).isSome then .bad else if flips.isEmpty then .clean else .corrected)
  else if flips.length = correctable m + 1 then (breakWord (flipWord s h g m u flips) h g m u, .bad)
  else
    let r := draw (freeWord s h g m u)
    match r.1 % 3 with
    | 0 => (r.2, .clean)
    | 1 => (r.2, .corrected)
    | _ => (breakWord r.2 h g m u, .bad)

/-- The bits of a protected word that upsets name. -/
def flipList (m : Nat) (flipped : List (Fin 144)) : List Nat :=
  ((flipped.map Fin.val).eraseDups).filter (· < codeBits m)

/-- An uncorrectable error found by a requester's read: a read for a ticket abandons it, and its job ends MEMORY_FAULT;
the readback window raises no fault (R247, R249). -/
def accessUe (s : State) (h g m u : Nat) (port : GPort) (w : GalleryWork) : State :=
  match port with
  | .window => s
  | .localOp => memUe s h g m u
  | _ =>
    let s := memUe s h g m u
    match workJob (gal s h g) w with
    | some j => endJob s j.1 j.2 0x28
    | none => s

/-- A read of the protected word at `u`. -/
def accessRead (s : State) (h g m u : Nat) (flips : List Nat) (port : GPort) (w : GalleryWork) : State :=
  match upsetWord s h g m u flips with
  | (s, .clean) => s
  | (s, .corrected) => memCe s h g m u
  | (s, .bad) => accessUe s h g m u port w

/-- GALLERY_MEMORY_ACCESS: a requester's read or write of 64-bit word `word`, with the bits that upsets have flipped in
its protected word, the work it is made for, and the other requests at its bank. -/
def execGalleryMemoryAccess (h : Fin 16) (g : Fin 17) (m : GMem) (word : Nat) (write : Option (BitVec 64))
    (flipped : List (Fin 144)) (contest : BankContest) (s : State) : Host.Outcome State Fault Refusal :=
  let n := gmemNum m
  if word < memWords n then
    let s := match pairCounter n word with
      | some c => count s (memPage h g) c (conflicts m contest)
      | none => s
    match write with
    | some v => .next (writeStore s h g n (2 * word) 2 v.toNat)
    | none => .next (accessRead s h g n (unitOf n word) (flipList n flipped) contest.port contest.work)
  else .next s

/-! ### ACT_SPLIT (R241) -/

/-- A write of ACT_SPLIT. -/
def writeActSplit (s : State) (h g v : Nat) : State :=
  if !opensToHost s h g then stateErr s (memPage h g)
  else if 2040 < bits v 0 11 then setSticky s (memPage h g) Sticky.gm.OP_REJECT
  else wr (setGal s h g { gal s h g with streamHead := 0, conversion := none }) (memPage h g) Reg.gm.CONV_COURSES (bits v 0 11)

/-- ACT_SPLIT_WRITE. -/
def execActSplitWrite (h : Fin 16) (g : Fin 17) (value : BitVec 32) (s : State) : Host.Outcome State Fault Refusal :=
  .next (ifPermitted s .mainband (memPage h g) 0x040 value.toNat (writeActSplit s h g value.toNat))

/-! ### Local operations (R245, R246) -/

/-- The range of a local operation lies within its memory. -/
def opLegal (m op src dst n : Nat) : Bool :=
  decide (m < 3) && decide (1 ≤ n ∧ dst + n ≤ memCourses m) && (op == 1 || decide (src + n ≤ memCourses m))

/-- Every protected word of a range that holds an uncorrectable error is found by the operation's reads. -/
def findBroken (s : State) (h g m first n : Nat) : State :=
  ((gal s h g).broken.filter fun k => decide (memKey m first < k + unitWords m ∧ k < memKey m (first + n))).foldl
    (fun s k => memUe s h g m (k - memKey m 0)) s

/-- The operation's effect on its memory; COPY moves overlapping ranges exactly. -/
def applyOp (s : State) (h g : Nat) (o : MemOp) : State :=
  if o.op = 1 then setGal s h g (fillCourses (gal s h g) o.mem o.dst o.courses o.pattern)
  else
    let s := findBroken s h g o.mem (128 * o.src) (128 * o.courses)
    writeStore s h g o.mem (128 * o.dst) (128 * o.courses) (getWords (gal s h g) o.mem (128 * o.src) (128 * o.courses))

/-- A write of MEM_OP that names an operation. -/
def startOp (s : State) (h g m op : Nat) : State :=
  let p := memPage h g
  if (gal s h g).op.isSome || !opensToHost s h g then stateErr s p
  else
    let o : MemOp :=
      { mem := m, op := op, src := rd s p Reg.gm.MEM_OP_RANGE_SRC, dst := rd s p Reg.gm.MEM_OP_RANGE_DST,
        courses := rd s p Reg.gm.MEM_OP_LEN, pattern := rd s p Reg.gm.MEM_OP_PATTERN }
    if opLegal m op o.src o.dst o.courses then
      let s := setGal (wr s p Reg.gm.MEM_OP_MEM m) h g { gal s h g with op := some o, conversion := none }
      applyOp s h g o
    else setSticky s p Sticky.gm.OP_REJECT

/-- MEM_OP_FILL. -/
def execMemOpFill (h : Fin 16) (g : Fin 17) (m : BitVec 2) (s : State) : Host.Outcome State Fault Refusal :=
  .next (ifPermitted s .mainband (memPage h g) 0x050 (m.toNat + 4) (startOp s h g m.toNat 1))

/-- MEM_OP_COPY. -/
def execMemOpCopy (h : Fin 16) (g : Fin 17) (m : BitVec 2) (s : State) : Host.Outcome State Fault Refusal :=
  .next (ifPermitted s .mainband (memPage h g) 0x050 (m.toNat + 8) (startOp s h g m.toNat 2))

/-- MEM_OP_DONE: the operation ends. -/
def execMemOpDone (h : Fin 16) (g : Fin 17) (s : State) : Host.Outcome State Fault Refusal :=
  if (gal s h g).op.isSome then
    .next (setSticky (setGal s h g { gal s h g with op := none }) (memPage h g) Sticky.gm.MEMOP_DONE)
  else .next s

/-! ### The readback window (R247) -/

/-- The memory and word that window word `i` shows; none beyond the memory. -/
def windowWord (s : State) (h g i : Nat) : Option (Nat × Nat) :=
  let m := rd s (memPage h g) Reg.gm.WIN_SEL_MEM
  let c := rd s (memPage h g) Reg.gm.WIN_SEL_COURSE
  if c < memCourses m then some (m, 128 * c + i) else none

/-- A read of window word `i` with the bits that upsets have flipped: the word as corrected, or as found at an
uncorrectable error, and WIN_STATUS. -/
def readWindow (s : State) (h g i : Nat) (flipped : List (Fin 144)) : State × Nat :=
  match windowWord s h g i with
  | none => (s, 0)
  | some (m, w) =>
    let u := w / unitWords m * unitWords m
    let r := upsetWord s h g m u (flipList m flipped)
    let s := if r.2 = .corrected then memCe r.1 h g m u else r.1
    let s := wr s (memPage h g) Reg.gm.WIN_STATUS_UE (decide (r.2 = .bad)).toNat
    (wr s (memPage h g) Reg.gm.WIN_STATUS_CE (decide (r.2 = .corrected)).toNat, getWord (gal s h g) m w)

/-- The word that a register read of a path returns. -/
def returnRead (s : State) (path : Path) (v : Nat) : State :=
  { s with readWord := NatMap.set s.readWord (pathNum path) (v % 2 ^ 32) }

/-- WIN_WORD_READ. -/
def execWinWordRead (path : Path) (h : Fin 16) (g : Fin 17) (i : WindowRead) (s : State) :
    Host.Outcome State Fault Refusal :=
  let r := readWindow s h g i.word i.flipped
  .next (returnRead r.1 path r.2)

/-- A write of window word `i`: only while the gallery is quiesced. -/
def writeWindow (s : State) (h g i v : Nat) : State :=
  if !opensToHost s h g then stateErr s (memPage h g)
  else
    match windowWord s h g i with
    | none => s
    | some (m, w) => setGal s h g { putWords (gal s h g) m w 1 v with conversion := none }

/-- WIN_WORD_WRITE. -/
def execWinWordWrite (h : Fin 16) (g : Fin 17) (i : Fin 128) (value : BitVec 32) (s : State) :
    Host.Outcome State Fault Refusal :=
  .next (ifPermitted s .mainband (memPage h g) (0x800 + 4 * i) value.toNat (writeWindow s h g i value.toNat))

/-! ### Row retirement (R250, R251) -/

/-- RESUME of a gallery (R339). -/
def resumeGallery (s : State) (h g : Nat) : State :=
  setQuiesce (setGal s h g { gal s h g with faulted := false }) h g 0

/-- A row moves to a spare: its uncorrectable words become 0 with fresh check bits. -/
def moveRow (x : Gallery) (row : Nat) : Gallery :=
  let m := row / 2 ^ 12
  let inRow (k : Nat) : Bool := (rowRuns row).any fun r => decide (memKey m r.1 ≤ k ∧ k < memKey m (r.1 + r.2))
  let bad := x.broken.filter inRow
  let mem := bad.foldl (fun mem k => putWordsAt mem k (unitWords m) 0) x.mem
  { x with
    mem := mem
    broken := x.broken.filter fun k => !inRow k
    rowCe := NatMap.del x.rowCe row
    rowQueue := x.rowQueue.filter (· != row)
    rowSpared := row :: x.rowSpared }

/-- The bank and row of the repair record entry of a row (R389). -/
def rowEntry (g row : Nat) : Nat :=
  let banks := [16, 32, 8].getD (row / 2 ^ 12) 8
  g + row / 2 ^ 12 * 2 ^ 13 + bankOf row * 2 ^ 15 + row % 2 ^ 12 / banks * 2 ^ 20

/-- A queued row retired, and recorded; a row left in a bank whose spares are now used up is found (R251). -/
def retireRow (s : State) (h g row : Nat) : State :=
  let s := recordRepair (setGal s h g (moveRow (gal s h g) row)) 3 h (rowEntry g row) 0 0
  let x := gal s h g
  if x.rowQueue.any (sameBank row) && !spareFree x row then exhaustSpares s h g else s

/-- The MC's repair of a gallery's rows ends when no queued row can be retired: RESUME, if it drained the gallery and the
gallery has not faulted meanwhile, which an event of its own answers (R344). -/
def endRowRepair (s : State) (h g : Nat) : State :=
  match s.mc.repairing with
  | some (.rows a b resume) =>
    if a = h ∧ b = g ∧ !(gal s h g).rowQueue.any (spareFree (gal s h g)) then
      let s := { s with mc := { s.mc with repairing := none } }
      if resume && !(gal s h g).faulted then resumeGallery s h g else s
    else s
  | _ => s

/-- GALLERY_ROW_RETIRE: the first queued row that has a free spare, in a quiesced gallery that runs no local
operation. -/
def execGalleryRowRetire (h : Fin 16) (g : Fin 17) (s : State) : Host.Outcome State Fault Refusal :=
  let x := gal s h g
  if mcRuns s && quiesced s h g && quiescent s h g && x.op.isNone then
    match x.rowQueue.find? (spareFree x) with
    | some row => .next (endRowRepair (retireRow s h g row) h g)
    | none => .next (endRowRepair s h g)
  else .next s

end Sys2Proof.Machine
end

