-- ==== Sys2Proof/Machine/Stairwell.lean ====
section
/-! DEFINITION. Stairwells and command lists: the page commands that start one, the reading of the list,
and the list entries, but for those that act on Fenzin links (R208 to R229; KILL is in Machine/Kill.lean). -/

namespace Sys2Proof.Machine

/-! ### START, RESUME and LIST_PTR (R209, R210) -/

/-- A command address may head a list (R210). -/
def listLegal (a : Nat) : Bool := cmdLegal a && a % 64 == 0

/-- RUNNING from LIST_PTR: the set FENCE examines begins afresh, LIST_PTR is checked, and the entry there is
fetched (R210, R217). -/
def runFrom (s : State) (sw : Nat) : State :=
  let s := setStair s sw { stair s sw with state := .running, ahead := [], cur := none, wait := none, errSeen := false }
  let a := rd s (swPage sw) Reg.sw.LIST_PTR
  if listLegal a then issueFetch s sw else swFault s sw a 0x02

/-- A write of SW_CMD. -/
def swCommand (s : State) (sw cmd : Nat) (body : State) : State := ifPermitted s .mainband (swPage sw) 0x050 cmd body

/-- START: legal in IDLE only, never in RETIRED and never in recovery (R209, R355, R363). -/
def execStart (sw : Fin 16) (s : State) : Host.Outcome State Fault Refusal :=
  .next (swCommand s sw 1
    (if (stair s sw).state ≠ .idle then stateErr s (swPage sw)
    else runFrom (wr s (swPage sw) Reg.sw.LIST_PTR (rd s (swPage sw) Reg.sw.LIST_ADDR)) sw))

/-- RESUME: legal in FAULTED only (R209). -/
def execResume (sw : Fin 16) (s : State) : Host.Outcome State Fault Refusal :=
  .next (swCommand s sw 3 (if (stair s sw).state ≠ .faulted then stateErr s (swPage sw) else runFrom s sw))

/-- LIST_PTR_WRITE: the write of the high half, which commits the pair; outside IDLE and FAULTED it has no
effect and sets STATE_ERR (R12, R209). DESIGN CHOICE: such a write releases the staged low half all the same
(assumption 90). -/
def execListPtrWrite (sw : Fin 16) (path : Path) (hi : BitVec 32) (s : State) : Host.Outcome State Fault Refusal :=
  let r := commitPair s path (swPage sw) Reg.sw.LIST_PTR hi.toNat
  .next (ifPermitted s path (swPage sw) (Reg.sw.LIST_PTR.off + 4) hi.toNat
    (if (stair s sw).state = .idle ∨ (stair s sw).state = .faulted then wr r.2 (swPage sw) Reg.sw.LIST_PTR r.1
    else stateErr r.2 (swPage sw)))

/-! ### Reading the list (R214) -/

/-- ENTRY_FETCH. -/
def execEntryFetch (sw : Fin 16) (s : State) : Host.Outcome State Fault Refusal := .next (issueFetch s sw)

/-- ENTRY_READ_DONE: the oldest read of an entry in device memory returns (R214). -/
def execEntryReadDone (sw : Fin 16) (s : State) : Host.Outcome State Fault Refusal :=
  match (stair s sw).ahead.find? fun a => a.got == .pending && !isHost a.addr with
  | none => .next s
  | some a =>
    match memRead s .stairwell a.addr 64 with
    | (s, .ok v) => .next (entryArrives s sw a.addr (.data v))
    | (s, .fault _ _) => .next (entryArrives s sw a.addr .failed)

/-! ### JOB (R191, R213) -/

/-- JOB takes its slot. A misaligned descriptor is not read: the dispatcher refuses it (R191, R215). -/
def startJob (s : State) (sw : Nat) (c : Current) : State :=
  match freeSlot (stair s sw) with
  | none => s
  | some k =>
    let a := eOp0 c.img
    if a % 256 ≠ 0 then holdSlot s sw c k (.offered none)
    else
      let s := holdSlot s sw c k .descriptor
      if isHost a then askHost s (.descriptor sw k) a 256 else s

def execJob (sw : Fin 16) (s : State) : Host.Outcome State Fault Refusal := .next (beginEntry s sw 0x01 startJob)

/-- What came back of a descriptor read: the job is offered, or the entry ends MEMORY_FAULT (R259); one that has
been killed stops here (R230). -/
def descriptorArrives (s : State) (sw slot : Nat) (got : Option Nat) : State :=
  match NatMap.get? (stair s sw).slots slot with
  | some t =>
    if t.body ≠ .descriptor then s
    else if t.killed then endEntry s sw slot 0x30 0 0
    else match got with
      | some d => setBody s sw slot (.offered (some d))
      | none => endEntry s sw slot 0x28 0 0
  | none => s

/-- DESCRIPTOR_READ_DONE: a descriptor in device memory returns. -/
def execDescriptorReadDone (sw : Fin 16) (slot : Fin 8) (s : State) : Host.Outcome State Fault Refusal :=
  match NatMap.get? (stair s sw).slots slot with
  | some t =>
    if t.body = .descriptor ∧ !isHost (eOp0 t.img) then
      match memRead s .stairwell (eOp0 t.img) 256 with
      | (s, .ok d) => .next (descriptorArrives s sw slot (some d))
      | (s, .fault _ _) => .next (descriptorArrives s sw slot none)
    else .next s
  | none => .next s

/-! ### FENCE (R217) -/

/-- FENCE, with every earlier entry complete; the set it examines begins afresh. -/
def startFence (s : State) (sw : Nat) (c : Current) : State :=
  let err := (stair s sw).errSeen
  let s := setStair s sw { stair s sw with errSeen := false }
  if eHaltIfErr c.img && err then swFault s sw c.addr 0x08
  else finishInline (startEntry s sw c) sw c 0

def execFence (sw : Fin 16) (s : State) : Host.Outcome State Fault Refusal := .next (beginEntry s sw 0x02 startFence)

/-! ### WAIT_WORD (R218, R219) -/

/-- The word read for an evaluation: its read is issued. -/
def readWord (s : State) (sw e : Nat) : State :=
  if isHost (eOp0 e) then askHost s (.waitWord sw) (eOp0 e) (eWidth e) else s

/-- WAIT_WORD issues the first read of its word, and its timer starts when it has one. -/
def startWait (s : State) (sw : Nat) (c : Current) : State :=
  let s := startEntry s sw c
  let s := setStair s sw { stair s sw with
    cur := some { c with stage := .waiting }
    wait := some { reading := true, word := .pending, wake := false, timed := eTimeout c.img != 0 } }
  readWord s sw c.img

def execWaitWord (sw : Fin 16) (s : State) : Host.Outcome State Fault Refusal := .next (beginEntry s sw 0x03 startWait)

/-- The condition of a WAIT_WORD (R218). -/
def condMet (e word : Nat) : Bool :=
  let n := 2 ^ (8 * eWidth e)
  let m := (word &&& eOp2 e) % n
  match eCond e with
  | 0 => m == eOp1 e % n
  | 1 => m != eOp1 e % n
  | _ => decide (eOp1 e % n ≤ m)

/-- The wait of a stairwell changed. -/
def setWait (s : State) (sw : Nat) (k : Wait) : State := setStair s sw { stair s sw with wait := some k }

/-- Another read of the word is issued. -/
def rereadWord (s : State) (sw e : Nat) (k : Wait) : State :=
  readWord (setWait s sw { k with reading := true, word := .pending, wake := false }) sw e

/-- WAIT_WORD_WAKE: a write has reached the watched sector, and no read is under way (R218). -/
def execWaitWordWake (sw : Fin 16) (s : State) : Host.Outcome State Fault Refusal :=
  match (stair s sw).cur, (stair s sw).wait with
  | some c, some k =>
    if !isHost (eOp0 c.img) && k.wake && !k.reading then .next (rereadWord s sw c.img k) else .next s
  | _, _ => .next s

/-- WAIT_WORD_POLL_TIMER: POLL_US has passed since the last read of a word in host memory (R218). -/
def execWaitWordPollTimer (sw : Fin 16) (s : State) : Host.Outcome State Fault Refusal :=
  match (stair s sw).cur, (stair s sw).wait with
  | some c, some k => if isHost (eOp0 c.img) && !k.reading then .next (rereadWord s sw c.img k) else .next s
  | _, _ => .next s

/-- The word is evaluated: a satisfied condition ends the wait, also in the handshake in which the timer
expires; the first unsatisfied one enters WAITING (R218, R219). -/
def judgeWord (s : State) (sw : Nat) (c : Current) (word : Nat) (expiring : Bool) : State :=
  match (stair s sw).wait with
  | none => s
  | some k =>
    if condMet c.img word then finishInline s sw c 0
    else if expiring && k.timed then swFault s sw c.addr 0x05
    else
      let first := (stair s sw).state == .running
      let s := if first then bump s (swPage sw) Reg.sw.WAIT_EPISODES else s
      setStair s sw { stair s sw with state := .waiting, wait := some { k with reading := false, word := .pending } }

/-- WAIT_WORD_EVALUATE: the value read reaches the stairwell; a read that failed faults with LIST_READ. -/
def execWaitWordEvaluate (sw : Fin 16) (expiring : Bool) (s : State) : Host.Outcome State Fault Refusal :=
  match (stair s sw).cur, (stair s sw).wait with
  | some c, some k =>
    if !k.reading then .next s
    else if isHost (eOp0 c.img) then
      match k.word with
      | .pending => .next s
      | .failed => .next (swFault s sw c.addr 0x04)
      | .data v => .next (judgeWord s sw c v expiring)
    else
      match memRead s .stairwell (eOp0 c.img) (eWidth c.img) with
      | (s, .fault _ _) => .next (swFault s sw c.addr 0x04)
      | (s, .ok v) => .next (judgeWord s sw c v expiring)
  | _, _ => .next s

/-- WAIT_TIMEOUT: what a read still brings is discarded (R219). -/
def execWaitTimeout (sw : Fin 16) (s : State) : Host.Outcome State Fault Refusal :=
  match (stair s sw).cur, (stair s sw).wait with
  | some c, some k => if k.timed then .next (swFault s sw c.addr 0x05) else .next s
  | _, _ => .next s

/-! ### WRITE_WORD and SIGNAL (R220) -/

/-- WRITE_WORD is over when its write is; a write posted while the link is down is lost without an error (R220,
R323, R328). -/
def startWrite (s : State) (sw : Nat) (c : Current) : State :=
  let e := c.img
  match cmdWrite (startEntry s sw c) (dataOwner sw 8) (eOp0 e) (eWidth e) (eOp1 e % 2 ^ (8 * eWidth e)) with
  | (s, .waits) => setStage s sw c .posting
  | (s, .done) => finishInline s sw c 0
  | (s, .lost) => finishInline s sw c (if isHost (eOp0 e) then 0 else 0x28)

def execWriteWord (sw : Fin 16) (s : State) : Host.Outcome State Fault Refusal := .next (beginEntry s sw 0x04 startWrite)

/-- SIGNAL: its record, then its one message. -/
def startSignal (s : State) (sw : Nat) (c : Current) : State := finishInline (startEntry s sw c) sw c 0

def execSignal (sw : Fin 16) (s : State) : Host.Outcome State Fault Refusal := .next (beginEntry s sw 0x05 startSignal)

/-! ### FILL and COPY (R221, R403) -/

def isCopy (e : Nat) : Bool := eOpcode e == 0x07
def moveLength (e : Nat) : Nat := if isCopy e then eOp2 e else eOp1 e
def moveTarget (e : Nat) : Nat := if isCopy e then eOp1 e else eOp0 e
/-- The source lies in host memory. -/
def hostSource (e : Nat) : Bool := isCopy e && isHost (eOp0 e)

/-- The next part of a source in host memory is asked for: up to the next 4 KiB boundary (R403). -/
def askPiece (s : State) (sw slot e done : Nat) : State :=
  let off := 64 * done
  let n := min (moveLength e - off) (4096 - (eOp0 e + off) % 4096)
  askHost (setBody s sw slot (.moving done (off + n) [])) (.copy sw slot off) (eOp0 e + off) n

/-- A block written: the work ends at a fault and after the last block, and goes on otherwise. -/
def putBlock (s : State) (sw slot e done asked : Nat) (pieces : NatMap (Option Nat)) (v : Nat) : State :=
  let r := cmdWrite s (dataOwner sw slot) (moveTarget e + 64 * done) 64 v
  if r.2 = .lost && !isHost (moveTarget e) then endEntry r.1 sw slot 0x28 0 done
  else if moveLength e ≤ 64 * (done + 1) then endEntry r.1 sw slot 0 0 (done + 1)
  else if hostSource e && decide (asked ≤ 64 * (done + 1)) then askPiece r.1 sw slot e (done + 1)
  else setBody r.1 sw slot (.moving (done + 1) asked pieces)

/-- The next 64-byte block of a FILL or COPY; a COPY that waits for host memory stays. -/
def moveBlock (s : State) (sw slot : Nat) : State :=
  match NatMap.get? (stair s sw).slots slot with
  | some t =>
    match t.body with
    | .moving done asked pieces =>
      let e := t.img
      if !isCopy e then putBlock s sw slot e done asked pieces (packElems 64 (List.replicate 8 (eOp2 e)))
      else if isHost (eOp0 e) then
        match pieces with
        | [] => s
        | (_, none) :: _ => endEntry s sw slot 0x28 0 done
        | (off, some v) :: _ => putBlock s sw slot e done asked pieces (bits v (8 * (64 * done - off)) 512)
      else
        match memRead s .stairwell (eOp0 e + 64 * done) 64 with
        | (s, .fault _ _) => endEntry s sw slot 0x28 0 done
        | (s, .ok v) => putBlock s sw slot e done asked pieces v
    | _ => s
  | none => s

/-- Blocks one after another. -/
def moveBlocks (sw slot : Nat) : Nat → State → State
  | 0, s => s
  | n + 1, s => moveBlocks sw slot n (moveBlock s sw slot)

/-- A FILL or COPY takes its slot; a LENGTH of 0 ends at once as EMPTY. -/
def startMove (blocks : Nat) (s : State) (sw : Nat) (c : Current) : State :=
  match freeSlot (stair s sw) with
  | none => s
  | some k =>
    if moveLength c.img = 0 then holdSlot s sw c k (.ended 1 0 0)
    else
      let s := holdSlot s sw c k (.moving 0 0 [])
      moveBlocks sw k blocks (if hostSource c.img then askPiece s sw k c.img 0 else s)

/-- The slot holds an entry of an opcode. -/
def slotOpcode (s : State) (sw slot op : Nat) : Bool :=
  ((NatMap.get? (stair s sw).slots slot).map fun t => eOpcode t.img) == some op

/-- FILL: at the head of the list, or the next blocks of the one in a slot. -/
def execFill (sw : Fin 16) (slot : Option (Fin 8)) (blocks : Nat) (s : State) : Host.Outcome State Fault Refusal :=
  match slot with
  | none => .next (beginEntry s sw 0x06 (startMove blocks))
  | some k => if slotOpcode s sw k 0x06 then .next (moveBlocks sw k blocks s) else .next s

def execCopy (sw : Fin 16) (slot : Option (Fin 8)) (blocks : Nat) (s : State) : Host.Outcome State Fault Refusal :=
  match slot with
  | none => .next (beginEntry s sw 0x07 (startMove blocks))
  | some k => if slotOpcode s sw k 0x07 then .next (moveBlocks sw k blocks s) else .next s

/-- What came back of a COPY's source read; a COPY that has been killed stops here (R230). -/
def pieceArrives (s : State) (sw slot off : Nat) (got : Option Nat) : State :=
  match NatMap.get? (stair s sw).slots slot with
  | some t =>
    match t.body with
    | .moving done asked _ =>
      if t.killed then endEntry s sw slot 0x30 0 done
      else setBody s sw slot (.moving done asked [(off, got)])
    | _ => s
  | none => s

/-! ### FLUSH (R222, R260) -/

/-- The halls a FLUSH names; a retired hall's bit is ignored. -/
def flushHalls (s : State) (e : Nat) : List Nat :=
  (List.range 16).filter fun h => bit (eHallMask e) h && !on s (hallPage h) Reg.hall.RETIRED

/-- FLUSH starts a walk in each named hall cache. -/
def startFlush (s : State) (sw : Nat) (c : Current) : State :=
  match freeSlot (stair s sw) with
  | none => s
  | some k =>
    let e := c.img
    let halls := flushHalls s e
    let lines := eOp1 e / 64
    let walk := Walk.flush sw k (eMode e) (eOp0 e / 64) (if lines = 0 then none else some lines) 0
    let s := holdSlot s sw c k (if halls.isEmpty then .ended 0 0 0 else .flushing halls)
    halls.foldl (fun s h => setCache s h { cache s h with walks := (cache s h).walks ++ [walk] }) s

def execFlush (sw : Fin 16) (s : State) : Host.Outcome State Fault Refusal := .next (beginEntry s sw 0x08 startFlush)

/-! ### JUMP and HALT (R224) -/

def startJump (s : State) (sw : Nat) (c : Current) : State :=
  finishInline (wr (startEntry s sw c) (swPage sw) Reg.sw.LIST_PTR (eOp0 c.img)) sw c 0

def execJump (sw : Fin 16) (s : State) : Host.Outcome State Fault Refusal := .next (beginEntry s sw 0x0B startJump)

def startHalt (s : State) (sw : Nat) (c : Current) : State := finishInline (startEntry s sw c) sw c 0

def execHalt (sw : Fin 16) (s : State) : Host.Outcome State Fault Refusal := .next (beginEntry s sw 0x0C startHalt)

/-- BAD_OPCODE: the entry the stairwell is at has an opcode that is no command (R213, R225). -/
def execBadOpcode (sw : Fin 16) (s : State) : Host.Outcome State Fault Refusal :=
  match (stair s sw).cur with
  | some c =>
    if (stair s sw).state = .running ∧ c.stage = .fetched ∧ ¬(1 ≤ eOpcode c.img ∧ eOpcode c.img ≤ 0x0C) then
      .next (swFault s sw c.addr 0x01)
    else .next s
  | none => .next s

/-! ### Completion of a tracked entry (R213, R226) -/

/-- ENTRY_COMPLETE: a tracked entry whose work is over. -/
def execEntryComplete (sw : Fin 16) (slot : Fin 8) (s : State) : Host.Outcome State Fault Refusal :=
  match NatMap.get? (stair s sw).slots slot with
  | some t =>
    match t.body with
    | .ended status flags work => .next (completeSlot s sw slot t status flags work)
    | _ => .next s
  | none => .next s

/-- The work of a tracked entry is over, and the write of its record will fail. -/
def recordFails (s : State) (t : Tracked) : Option (Nat × Nat × Nat) :=
  match t.body with
  | .ended status flags work =>
    if eRecord t.img != 0 && (cmdWrite s (recordOwner 0 0) (eRecord t.img) 32 0).2 = .lost then some (status, flags, work) else none
  | _ => none

/-- RECORD_WRITE_FAULT: the first tracked entry whose record cannot be written completes all the same; its
SEQ shows the gap and RECORD_LOST is set (R229). -/
def execRecordWriteFault (sw : Fin 16) (s : State) : Host.Outcome State Fault Refusal :=
  match (stair s sw).slots.find? fun e => (recordFails s e.2).isSome with
  | some (slot, t) =>
    match recordFails s t with
    | some (status, flags, work) => .next (completeSlot s sw slot t status flags work)
    | none => .next s
  | none => .next s

end Sys2Proof.Machine
end

