-- ==== Sys2Proof/Machine/HallCache.lean ====
section
/-! DEFINITION. The hall cache as a unit of its own: a request by hit or miss, with the errors found in a line (R253,
R256), the walks of FLUSH (R222, R260) and of a change of ways (R257). -/

namespace Sys2Proof.Machine

/-! ### Errors in a line (R256, R344) -/

/-- An uncorrectable error in a line: a clean line is invalidated, to be fetched again; a dirty one is poisoned. DESIGN
CHOICE: a way at its threshold or beyond is reported to the MC again at each further error, until it is disabled
(assumption 113). -/
def lineUe (s : State) (h : Nat) (x : Line) : State :=
  let p := hcPage h
  let s := setSticky s p Sticky.hc.HC_UE
  if x.dirty then putLine (bump s p Reg.hc.POISONED) h { x with poison := true }
  else
    let s := dropLine (bump s p Reg.hc.UE_CLEAN) h x.line
    let c := cache s h
    let n := (NatMap.get? c.wayUe x.way).getD 0 + 1
    let s := setCache s h { c with wayUe := NatMap.set c.wayUe x.way n }
    if rd s .mcService Reg.mcs.WAY_UE_THRESHOLD ≤ n then repairEvent s (.wayErrors h x.way) else s

/-- A correctable error in a line: corrected and counted. -/
def lineCe (s : State) (h : Nat) : State := setSticky (bump s (hcPage h) Reg.hc.CE_COUNT) (hcPage h) Sticky.hc.HC_CE

/-- Upsets have flipped `n` bits of the protected word at byte `off` of line `line`. Beyond two the outcome is free. -/
def upsetLine (s : State) (h line off n : Nat) : State :=
  match findLine s h line with
  | none => s
  | some x =>
    match n with
    | 0 => s
    | 1 => lineCe s h
    | 2 => lineUe s h x
    | _ =>
      let r := draw s
      let t := draw r.2
      let y := { x with data := setBits x.data (64 * (off / 8)) 64 r.1 }
      let s := putLine t.2 h y
      match t.1 % 3 with
      | 0 => s
      | 1 => lineCe s h
      | _ => lineUe s h y

/-- Upsets have flipped `n` bits of the tag of line `line`. Beyond two the outcome is free, and the line stands under a
free tag of its set. -/
def upsetTag (s : State) (h line n : Nat) : State :=
  match findLine s h line with
  | none => s
  | some x =>
    match n with
    | 0 => s
    | 1 => lineCe s h
    | 2 => lineUe s h x
    | _ =>
      let r := draw s
      let t := draw r.2
      let y := { x with line := r.1 % 2 ^ 43 * 32768 + x.line % 32768 }
      let s := putLine (dropLine t.2 h x.line) h y
      match t.1 % 3 with
      | 0 => s
      | 1 => lineCe s h
      | _ => lineUe s h y

/-! ### Requests (R253, R259) -/

/-- A line that a request needs from a stack: absent, and not covered by its write. -/
def needsFill (s : State) (h addr len : Nat) (write : Bool) : Bool :=
  !bypass s h && (List.range (ceilDiv (addr % 64 + len) 64)).any fun i =>
    let n := addr / 64 + i
    (findLine s h n).isNone && !(write && decide (addr ≤ 64 * n ∧ 64 * n + 64 ≤ addr + len))

/-- The work that a faulting request was made for ends (R259). -/
def endRequester (s : State) (h : Nat) (user : HallUser) (kind a : Nat) : State :=
  match user.work with
  | some (g, w) =>
    match workJob (gal s h g) w with
    | some j => galleryAccessFault s h g j.1 j.2 kind a
    | none => s
  | none =>
    match user, NatMap.get? s.dressers h with
    | .dresser, some t => endJob s t.sw t.slot 0x28
    | _, _ => s

/-- A request is served. -/
def serve (s : State) (h : Nat) (user : HallUser) (addr len : Nat) (write : Option Nat) : State :=
  match match write with
      | some v => hcWrite s h user addr len v
      | none => hcRead s h user addr len with
  | (s, .ok _) => s
  | (s, .fault k a) => endRequester s h user k a

/-- HALL_CACHE_ACCESS: served by hit, or waiting for its lines; with the bits that upsets have changed in the protected
word that the request begins in and in the tag of its line. None is made before READY, the wipe included (R278). -/
def execHallCacheAccess (h : Fin 16) (user : HallUser) (addr len : Nat) (write : Option Nat) (upset : LineUpset)
    (s : State) : Host.Outcome State Fault Refusal :=
  if !ready s ∨ len = 0 ∨ 2 ^ 40 < addr + len then .next s
  else
    let s := upsetLine (upsetTag s h (addr / 64) upset.tag) h (addr / 64) (addr % 64) upset.word.eraseDups.length
    if needsFill s h addr len write.isSome then
      let c := cache s h
      .next (setCache s h { c with misses := c.misses ++ [{ user := user, addr := addr, len := len, write := write }] })
    else .next (serve s h user addr len write)

/-- HALL_CACHE_FILL: the line that the oldest waiting request waits for arrives, and the request is served. -/
def execHallCacheFill (h : Fin 16) (s : State) : Host.Outcome State Fault Refusal :=
  let c := cache s h
  match c.misses with
  | [] => .next s
  | m :: rest =>
    if !ready s then .next s
    else .next (serve (setCache s h { c with misses := rest }) h m.user m.addr m.len m.write)

/-! ### Walks (R257, R260, R341) -/

/-- A FLUSH or a way walk runs. -/
def walking (s : State) (h : Nat) : Bool := !(cache s h).walks.isEmpty

/-- A line is written back when it is dirty and dropped, whatever the write-back answers (R259). -/
def retireLine (s : State) (h : Nat) (x : Line) : State :=
  dropLine (if x.dirty then (writeBack s h x).1 else s) h x.line

/-- Ways of a mask. -/
def waysOf (mask : Nat) : List Nat := (List.range 24).filter (bit mask)

/-- WAY_DISABLE takes a value, and the walk over every set starts; each newly disabled way is recorded (R345). -/
def setWays (s : State) (h value : Nat) : State :=
  let old := rd s (hcPage h) Reg.hc.WAY_DISABLE
  let v := value % 2 ^ 24
  let off := v - (v &&& old)
  let on_ := old - (v &&& old)
  let s := wr s (hcPage h) Reg.hc.WAY_DISABLE v
  let s := setCache s h { cache s h with walks := (cache s h).walks ++ [.ways off on_ 0] }
  (waysOf off).foldl (fun s w => recordRepair s 7 h w 0 0) s

/-- WAY_DISABLE_WRITE: a write of HC_CTRL, without effect while a walk runs. -/
def execWayDisableWrite (h : Fin 16) (value : BitVec 32) (s : State) : Host.Outcome State Fault Refusal :=
  .next (ifPermitted s .mainband (hcPage h) Reg.hc.WAY_DISABLE.off value.toNat
    (if walking s h then stateErr s (hcPage h) else setWays s h value.toNat))

/-- One set of a way walk: the lines of newly disabled ways leave, and newly enabled ways hold nothing. -/
def walkWays (s : State) (h off on_ pos : Nat) : State :=
  let mine := (cache s h).lines.filter fun x => x.line % 32768 == pos
  let s := (mine.filter fun x => bit off x.way).foldl (fun s x => retireLine s h x) s
  (mine.filter fun x => bit on_ x.way).foldl (fun s x => dropLine s h x.line) s

/-- A walk that stands in place of another, or none when it has ended. -/
def replaceWalk (w : Walk) (by' : Option Walk) : List Walk → List Walk
  | [] => []
  | v :: t => if v = w then by'.toList ++ t else v :: replaceWalk w by' t

def setWalk (s : State) (h : Nat) (w : Walk) (by' : Option Walk) : State :=
  setCache s h { cache s h with walks := replaceWalk w by' (cache s h).walks }

/-- WAY_WALK_STEP: one set of the way walk that runs. -/
def execWayWalkStep (h : Fin 16) (s : State) : Host.Outcome State Fault Refusal :=
  match (cache s h).walks.find? fun w => match w with
      | .ways _ _ _ => true
      | _ => false with
  | some (.ways off on_ pos) =>
    let s := walkWays s h off on_ pos
    .next (setWalk s h (.ways off on_ pos) (if pos + 1 < 32768 then some (.ways off on_ (pos + 1)) else none))
  | _ => .next s

/-! ### FLUSH (R222, R260) -/

/-- What a FLUSH does to a line; false when its write-back faulted. -/
def flushLine (s : State) (h mode : Nat) (x : Line) : State × Bool :=
  let p := hcPage h
  if mode ≠ 2 ∧ x.dirty then
    match writeBack s h x with
    | (s, .fault _ _) => (s, false)
    | (s, .ok _) =>
      let s := bump s p Reg.hc.FLUSH_LINES
      if mode = 1 then
        (setCache s h { cache s h with lines := (cache s h).lines.map fun y => if y.line = x.line then { y with dirty := false } else y },
          true)
      else (dropLine s h x.line, true)
  else if mode = 1 then (s, true)
  else (dropLine (bump s p Reg.hc.FLUSH_LINES) h x.line, true)

/-- Lines of one set, or the one line, to the first write-back that faults. -/
def flushLines (h mode : Nat) : List Line → State → State × Bool
  | [], s => (s, true)
  | x :: rest, s =>
    match flushLine s h mode x with
    | (s, false) => (s, false)
    | (s, true) => flushLines h mode rest s

/-- A FLUSH walks all sets. -/
def wholeWalk (lines : Option Nat) : Bool := lines.all fun n => decide (32768 < n)

/-- The lines that a step of a walk examines. -/
def walkLines (s : State) (h first : Nat) (lines : Option Nat) (pos : Nat) : List Line :=
  if wholeWalk lines then
    (cache s h).lines.filter fun x => x.line % 32768 == pos
      && lines.all fun n => decide (first ≤ x.line ∧ x.line < first + n)
  else (cache s h).lines.filter (·.line == first + pos)

/-- Steps of a walk. -/
def walkEnd (lines : Option Nat) : Nat := if wholeWalk lines then 32768 else lines.getD 0

/-- Every walk of a slot leaves its hall cache. -/
def dropWalks (s : State) (sw slot : Nat) : State :=
  { s with caches := s.caches.map fun e => (e.1, { e.2 with walks := e.2.walks.filter fun w => match w with
      | .flush a b _ _ _ _ => !(a == sw && b == slot)
      | _ => true }) }

/-- The walk of a hall has ended; the FLUSH is over with its last hall. -/
def hallFlushed (s : State) (h sw slot : Nat) : State :=
  match (NatMap.get? (stair s sw).slots slot).map Tracked.body with
  | some (.flushing halls) =>
    let rest := halls.filter (· != h)
    if rest.isEmpty then endEntry s sw slot 0 0 0 else setBody s sw slot (.flushing rest)
  | _ => s

/-- FLUSH_WALK_STEP: one set or one line of the oldest FLUSH walk of a hall cache. -/
def execFlushWalkStep (h : Fin 16) (s : State) : Host.Outcome State Fault Refusal :=
  match (cache s h).walks.find? fun w => match w with
      | .flush _ _ _ _ _ _ => true
      | _ => false with
  | some (.flush sw slot mode first lines pos) =>
    match flushLines h mode (walkLines s h first lines pos) s with
    | (s, false) => .next (endEntry (dropWalks s sw slot) sw slot 0x28 0 0)
    | (s, true) =>
      let w := Walk.flush sw slot mode first lines pos
      if pos + 1 < walkEnd lines then .next (setWalk s h w (some (.flush sw slot mode first lines (pos + 1))))
      else .next (hallFlushed (setWalk s h w none) h sw slot)
  | _ => .next s

end Sys2Proof.Machine
end

