-- ==== Sys2Proof/Machine/Dram.lean ====
section
/-! DEFINITION. The stack controllers: one access at its sector (R267 to R270), refresh and patrol (R271), sparing of
rows and lanes (R272, R273), die retirement (R274 to R276) and the memory map (R264, R265). -/

namespace Sys2Proof.Machine

/-- The place of a stack-local address, in its stack. -/
def stackCell (s : State) (h l : Nat) : Nat := cellOf s h l

/-! ### One access (R267) -/

/-- Where an access stands among those that reach a controller in one cycle: halls in ascending number, then
stairwells, the dispatcher and the host, then maintenance. -/
def accessRank : Requester → Nat
  | .hallCache h => h.val
  | .maintenance => 17
  | _ => 16

/-- Accesses of one cycle in the order in which they take effect; those of one rank as they are listed. -/
def inOrder (xs : List SectorAccess) : List SectorAccess :=
  (List.range 18).flatMap fun r => xs.filter (accessRank ·.who == r)

/-- A fault of an access that a hall cache made shows in its page as well (R258, R269), and ends the work that it was
made for (R259). -/
def cacheSees (s : State) (x : SectorAccess) (write : Bool) (r : Got) : State :=
  match x.who with
  | .hallCache h =>
    match hcSees s h x.user write r with
    | (s, .fault k a) => endRequester s h x.user k a
    | (s, .ok _) => s
  | _ => s

/-- One access at its sector, with the symbols that upsets have changed in it before. -/
def accessSector (s : State) (x : SectorAccess) : State :=
  let base := x.addr / 32 * 32
  let at_ := place s base
  let s := if present s base then upsetSector s (cellOf s at_.1 at_.2) x.upset else s
  match x.op with
  | .read =>
    let r := memRead s x.who base 32
    cacheSees r.1 x false r.2
  | .write lo n v =>
    if 1 ≤ n ∧ lo + n ≤ 32 then
      let r := memWrite s x.who (base + lo) n v
      cacheSees r.1 x true r.2
    else s
  | .poison v =>
    let r := memWritePoison s x.who base 32 v true
    cacheSees r.1 x true r.2

/-- The accesses of a SECTOR_ACCESS's cycle. -/
def cycleAccesses (who : Requester) (addr : Nat) (op : SectorOp) (c : SectorCycle) : List SectorAccess :=
  { who := who, user := c.user, addr := addr, op := op, upset := c.upset } :: c.others

/-- SECTOR_ACCESS, with the other accesses of its cycle; none is accepted before READY, the wipe included (R278). -/
def execSectorAccess (who : Requester) (addr : Nat) (op : SectorOp) (cycle : SectorCycle) (s : State) :
    Host.Outcome State Fault Refusal :=
  if ready s then .next ((inOrder (cycleAccesses who addr op cycle)).foldl accessSector s) else .next s

/-! ### Refresh and patrol (R271) -/

/-- REFRESH_WINDOW: counted toward the next patrol step; queued lanes may move in it (R273). -/
def execRefreshWindow (h : Fin 16) (s : State) : Host.Outcome State Fault Refusal :=
  let d := dram s h
  .next (setDram s h { d with refreshes := d.refreshes + 1, inWindow := true })

/-- Patrol steps of a pass over the present dies. -/
def patrolSteps (s : State) (h : Nat) : Nat := (16 - rd s (scPage h) Reg.sc.RETIRED) * 2 ^ 21

/-- Maintenance has met a bad sector: latched and reported as any read of it (R258, R269, R280). -/
def maintBad (s : State) (h l k : Nat) : State :=
  scFault (setSticky s (scPage h) (if k = 1 then Sticky.sc.DRAM_UE else Sticky.sc.POISON_READ)) .maintenance (unplace s h l) k
    false

/-- The patrol reads one sector: corrected, or left as found, counted and reported. -/
def patrolSector (s : State) (h l : Nat) : State :=
  match readStored s h (stackCell s h l) with
  | (s, _, none) => s
  | (s, _, some k) => maintBad (bump s (scPage h) Reg.sc.PATROL_UE) h l k

/-- Patrol step `n`: a sector of each of the 64 channels, in ascending stack-local order. -/
def patrolAt (s : State) (h n : Nat) : State :=
  (List.range 64).foldl (fun s ch => patrolSector s h (n / 8 * 16384 + ch * 256 + n % 8 * 32)) s

/-- A patrol that a retirement has left beyond the last present die begins again at sector 0; the pass counts. -/
def patrolWrap (s : State) (h : Nat) : State :=
  let d := dram s h
  if d.patrol < patrolSteps s h then s else bump (setDram s h { d with patrol := 0 }) (scPage h) Reg.sc.PATROL_PASSES

/-- PATROL_STEP: due after every SCRUB_EVERY refresh windows; none before the wipe is over (R278). -/
def execPatrolStep (h : Fin 16) (s : State) : Host.Outcome State Fault Refusal :=
  let every := rd s (scPage h) Reg.sc.SCRUB_EVERY
  let d := dram s h
  if !ready s ∨ every = 0 ∨ d.refreshes < every then .next s
  else
    let s := patrolWrap (setDram s h { d with refreshes := 0 }) h
    let s := patrolAt s h (dram s h).patrol
    .next (patrolWrap (setDram s h { dram s h with patrol := (dram s h).patrol + 1 }) h)

/-! ### Row sparing (R272) -/

/-- Spare rows used in the bank of a row. -/
def sparesUsed (d : Stack) (row : Nat) : Nat := (NatMap.get? d.bankSpares (row / 2 ^ 32)).getD 0

/-- The stack-local address that the sector at a place serves, when a present die does. -/
def localOf (s : State) (h c : Nat) : Option Nat :=
  ((List.range (16 - rd s (scPage h) Reg.sc.RETIRED)).map fun l => l * 2 ^ 32 + c % 2 ^ 32).find? fun l => cellOf s h l == c

/-- A sector that maintenance copies is bad: latched and reported at the address that it serves. -/
def copyBad (s : State) (h c k : Nat) : State :=
  match localOf s h c with
  | some l => maintBad s h l k
  | none => s

/-- A copied sector: read under the code, and written as poisoned when it cannot be read. -/
def recopySector (s : State) (h c : Nat) : State :=
  match readStored s h c with
  | (s, _, none) => s
  | (s, v, some k) => copyBad (storeSector s c v true) h c k

/-- Sectors of a stack whose stored code is not as written, by their first byte. -/
def alteredCells (s : State) (h : Nat) : List Nat :=
  (s.codes.filterMap fun e => if e.1 * 32 / 2 ^ 36 = h then some (e.1 * 32) else none)

/-- Something fails for good: the MC is told (R344). -/
def reportRepair (s : State) : State := repairEvent s .report

/-- A copy reads `n` sectors or fewer; only those whose stored code is altered are gone through one by one. -/
def readBulk (s : State) (h n : Nat) : State := crossFifo s (scPage h) n

/-- DRAM_ROW_SPARE: the oldest queued row is copied to a spare of its bank; a bank without one is exhausted. None before
the wipe is over (R278). -/
def execDramRowSpare (h : Fin 16) (s : State) : Host.Outcome State Fault Refusal :=
  let d := dram s h
  match d.rowCopied, d.rowQueue with
  | none, row :: rest =>
    if !ready s then .next s
    else if 4 ≤ sparesUsed d row then
      .next (reportRepair (setSticky (setDram s h { d with rowQueue := rest }) (scPage h) Sticky.sc.ROW_SPARE_EXHAUSTED))
    else
      let s := ((alteredCells s h).filter (rowKey · == row)).foldl (fun s c => recopySector s h c) (readBulk s h (2 ^ 27))
      .next (setDram s h { dram s h with rowCopied := some row })
  | _, _ => .next s

/-- DRAM_ROW_SPARE_DONE: the row is remapped, and recorded. -/
def execDramRowSpareDone (h : Fin 16) (s : State) : Host.Outcome State Fault Refusal :=
  let d := dram s h
  match d.rowCopied with
  | none => .next s
  | some row =>
    let s := setDram s h { d with
      rowCopied := none
      rowQueue := d.rowQueue.filter (· != row)
      bankSpares := NatMap.set d.bankSpares (row / 2 ^ 32) (sparesUsed d row + 1)
      tracker := d.tracker.filter (·.1 != row)
      rowSpared := row :: d.rowSpared }
    let s := setSticky (bump s (scPage h) Reg.sc.ROWS_SPARED) (scPage h) Sticky.sc.ROW_SPARED
    let b := row / 2 ^ 32
    .next (recordRepair s 4 h (b / 256 % 64 + b / 2 ^ 14 % 16 * 2 ^ 18 + b % 256 * 2 ^ 22) (row % 2 ^ 32) 0)

/-! ### Lane sparing (R273) -/

/-- The spare data lanes in use in a channel, as a mask. -/
def spareMask (d : Stack) (ch : Nat) : Nat := (NatMap.get? d.dataSpares ch).getD 0

/-- The lowest free spare data lane of a channel. -/
def freeSpare (d : Stack) (ch : Nat) : Option Nat := (List.range 4).find? fun i => !bit (spareMask d ch) i

/-- DRAM_LANE_REPAIR: the oldest queued lane moves to a free spare of its channel, in a refresh window. -/
def execDramLaneRepair (h : Fin 16) (s : State) : Host.Outcome State Fault Refusal :=
  let d := dram s h
  match d.laneQueue with
  | [] => .next s
  | k :: rest =>
    if !d.inWindow then .next s
    else
      let ch := k / 288
      match freeSpare d ch with
      | none => .next (reportRepair (setSticky (setDram s h { d with laneQueue := rest }) (scPage h) Sticky.sc.LANE_EXHAUSTED))
      | some i =>
        let s := setDram s h { d with
          laneQueue := rest
          dataSpares := NatMap.set d.dataSpares ch (spareMask d ch ||| 2 ^ i)
          laneCharge := NatMap.del d.laneCharge k
          lanesMoved := k :: d.lanesMoved }
        let s := setSticky (bump s (scPage h) Reg.sc.LANES_SPARED) (scPage h) Sticky.sc.LANE_REPAIRED
        .next (recordRepair s 5 h (ch + k % 288 * 2 ^ 6 + i * 2 ^ 15) 0 0)

/-! ### Die retirement (R274 to R276) -/

/-- The logical die that a physical die serves, among the present ones. -/
def logicalDie (s : State) (h phys : Nat) : Option Nat :=
  (List.range (16 - rd s (scPage h) Reg.sc.RETIRED)).find? fun l => physDie s h l == phys

/-- The retirement takes effect: its entry is written first, then the map switches and r rises (R276). -/
def switchMap (s : State) (h named map : Nat) : State :=
  let p := scPage h
  let s := recordRepair s 6 h (named * 2 ^ 18) (map % 2 ^ 32) (map / 2 ^ 32)
  let s := wr (wr s p Reg.sc.DIE_MAP map) p Reg.sc.RETIRED (rd s p Reg.sc.RETIRED + 1)
  setSticky s p Sticky.sc.MIGRATE_DONE

/-- RETIRE of a physical die: at once when it serves the top logical die, else by a migration. -/
def retireDie (s : State) (h die : Nat) : State :=
  let r := rd s (scPage h) Reg.sc.RETIRED
  match (dram s h).migration, (if r = 15 then none else logicalDie s h die) with
  | none, some l =>
    if l = 15 - r then switchMap s h die (rd s (scPage h) Reg.sc.DIE_MAP)
    else setDram (wr s (scPage h) Reg.sc.MIG_PTR 0) h
      { dram s h with migration := some { logical := l, top := 15 - r, named := die } }
  | _, _ => stateErr s (scPage h)

/-- DIE_RETIRE: a write of DIE_CMD. -/
def execDieRetire (h : Fin 16) (value : BitVec 32) (s : State) : Host.Outcome State Fault Refusal :=
  .next (ifPermitted s .mainband (scPage h) 0x08C value.toNat (match bits value.toNat 4 2 with
    | 0 => s
    | 1 => retireDie s h (bits value.toNat 0 4)
    | _ => stateErr s (scPage h)))

/-- Bytes of the old die, from sector `ptr` on, in the place of the new one. -/
def moveCells (h old new ptr : Nat) (m : List Host.Cell) : List Host.Cell :=
  let base (die : Nat) : Nat := h * 2 ^ 36 + die * 2 ^ 32
  let from_ (die : Nat) (k : Nat) : Bool := decide (base die + 32 * ptr ≤ k ∧ k < base die + 2 ^ 32)
  let kept := m.filter fun c => !from_ new c.1
  (m.filter fun c => from_ old c.1).foldl (fun acc c => putByte acc (c.1 - base old + base new) c.2) kept

/-- Stored codes of the old die, from sector `ptr` on, in the place of the new one. -/
def moveCodes (h old new ptr : Nat) (m : NatMap SectorCode) : NatMap SectorCode :=
  let base (die : Nat) : Nat := (h * 2 ^ 36 + die * 2 ^ 32) / 32
  let from_ (die : Nat) (k : Nat) : Bool := decide (base die + ptr ≤ k ∧ k < base die + 2 ^ 27)
  let kept := m.filter fun c => !from_ new c.1
  (m.filter fun c => from_ old c.1).foldl (fun acc c => NatMap.set acc (c.1 - base old + base new) c.2) kept

/-- The sectors of a migrating die from MIG_PTR on are copied, those that cannot be read as poisoned (R275). -/
def copyRest (s : State) (h old new ptr : Nat) : State :=
  let lo := h * 2 ^ 36 + old * 2 ^ 32 + 32 * ptr
  let hi := h * 2 ^ 36 + old * 2 ^ 32 + 2 ^ 32
  let s := ((alteredCells s h).filter fun c => decide (lo ≤ c ∧ c < hi)).foldl (fun s c => recopySector s h c) (readBulk s h (2 ^ 27 - ptr))
  { s with dram := moveCells h old new ptr s.dram, codes := moveCodes h old new ptr s.codes }

/-- The migration of a stack ends. -/
def finishMigration (s : State) (h : Nat) (m : Migration) : State :=
  let s := copyRest s h (physDie s h m.logical) (physDie s h m.top) (rd s (scPage h) Reg.sc.MIG_PTR)
  let map := setBits (rd s (scPage h) Reg.sc.DIE_MAP) (4 * m.logical) 4 (physDie s h m.top)
  switchMap (setDram (wr s (scPage h) Reg.sc.MIG_PTR 0) h { dram s h with migration := none }) h m.named map

/-- One sector of a migration is copied; the last ends it. -/
def copySector (s : State) (h : Nat) (m : Migration) : State :=
  let ptr := rd s (scPage h) Reg.sc.MIG_PTR
  if 2 ^ 27 ≤ ptr + 1 then finishMigration s h m
  else
    let old := h * 2 ^ 36 + physDie s h m.logical * 2 ^ 32 + 32 * ptr
    let new := h * 2 ^ 36 + physDie s h m.top * 2 ^ 32 + 32 * ptr
    match readStored s h old with
    | (s, v, none) => wr (storeSector s new v false) (scPage h) Reg.sc.MIG_PTR (ptr + 1)
    | (s, v, some k) => wr (storeSector (copyBad s h old k) new v true) (scPage h) Reg.sc.MIG_PTR (ptr + 1)

/-- MIGRATION_DONE: the rest of the die is copied, and the retirement takes effect. -/
def execMigrationDone (h : Fin 16) (s : State) : Host.Outcome State Fault Refusal :=
  match (dram s h).migration with
  | some m => .next (finishMigration s h m)
  | none => .next s

/-! ### The memory map (R265) -/

/-- WAYS_LOG2 of segment `i` of a map. -/
def mapWays (map i : Nat) : Nat := bits map (4 * i) 4

/-- Every segment's width is at most 16, and its aligned group carries the same. -/
def mapLegal (map : Nat) : Bool :=
  (List.range 16).all fun i =>
    let k := mapWays map i
    decide (k ≤ 4) && (List.range 16).all fun j => i / 2 ^ k != j / 2 ^ k || mapWays map j == k

/-- A map write may take effect: every stairwell is IDLE with no entry outstanding, and no walk runs. -/
def mapIdle (s : State) : Bool :=
  ((List.range 16).all fun i => (stair s i).state == .idle && (stair s i).slots.isEmpty)
    && (List.range 16).all fun h => !walking s h

/-- MAP_WRITE: the write of MAP_HI, which commits the pair. DESIGN CHOICE: a refused write releases the staged low half
all the same (assumption 90). -/
def execMapWrite (path : Path) (hi : BitVec 32) (s : State) : Host.Outcome State Fault Refusal :=
  let r := commitPair s path .memMap Reg.mm.MAP hi.toNat
  .next (ifPermitted s path .memMap (Reg.mm.MAP.off + 4) hi.toNat
    (if !mapIdle s then stateErr r.2 .memMap
    else if mapLegal r.1 then wr r.2 .memMap Reg.mm.MAP r.1
    else setSticky r.2 .memMap Sticky.mm.MAP_REJECT))

end Sys2Proof.Machine
end

