-- ==== Sys2Proof/Machine/LinkTx.lean ====
section
/-! DEFINITION. Fenzin links, sending: channels and claims (R289), the link quantiser (R299 to R302), flits
with their numbers and replay (R286, R287), and what ends a send (R297, R298, R308). Link 8 is the loopback
(R291). -/

namespace Sys2Proof.Machine

/-! ### Links and channels -/

def chan (s : State) (l c : Nat) : Channel := (NatMap.get? (link s l).channels c).getD .reset

def setChan (s : State) (l c : Nat) (x : Channel) : State :=
  setLink s l { link s l with channels := NatMap.set (link s l).channels c x }

/-- The link is UP or UP_HALF; the loopback always is (R283, R291). -/
def linkIsUp (s : State) (l : Nat) : Bool :=
  decide (8 ≤ l) || ([2, 3] : List Nat).contains (rd s (linkPage l) Reg.lnk.LINK_STATE)

/-- A counter of the link's page; the loopback has no page. -/
def linkCount (s : State) (l : Nat) (f : Fld) (n : Nat) : State := if l < 8 then count s (linkPage l) f n else s

def linkSticky (s : State) (l b : Nat) : State := if l < 8 then setSticky s (linkPage l) b else s

/-- A REDUCE ends with a status; one that had claimed its channel counts among the link's errors. -/
def endReduce (s : State) (l sw slot status : Nat) : State :=
  endEntry (if status ≤ 1 then s else linkCount s l Reg.lnk.SEND_ERRORS 1) sw slot status 0 0

/-! ### REDUCE and its channel (R289, R296, R297) -/

/-- A field of the reduction block lies outside its legal values (R296, R297). -/
def rblockBad (b : Nat) : Bool :=
  let quantised := decide (rbLfmt b < 2)
  rbSrc b % 64 != 0 || decide (2 ^ 40 ≤ rbSrc b) || decide (16777216 < rbElements b) || decide (8 < rbLink b)
    || (rbSr b && !quantised) || decide (rbMargin b < 0x0100)
    || (quantised && (rbHist b % 128 != 0 || decide (2 ^ 40 ≤ rbHist b)))

/-- REDUCE takes its slot, reads and checks its block, and joins the claims on its channel. -/
def startReduce (s : State) (sw : Nat) (c : Current) : State :=
  match freeSlot (stair s sw) with
  | none => s
  | some k =>
    match memRead s .stairwell (eOp0 c.img) 64 with
    | (s, .fault _ _) => holdSlot s sw c k (.ended 0x28 0 0)
    | (s, .ok b) =>
      if rblockBad b then holdSlot s sw c k (.ended 0x42 0 0)
      else if !linkIsUp s (rbLink b) then holdSlot s sw c k (.ended 0x41 0 0)
      else if rbElements b = 0 then holdSlot s sw c k (.ended 1 0 0)
      else
        let s := holdSlot s sw c k (.reducing b)
        let x := chan s (rbLink b) (rbChannel b)
        let busy := x.send.isSome || !x.claims.isEmpty
        let s := if busy then linkCount s (rbLink b) Reg.lnk.CHAN_WAIT 1 else s
        setChan s (rbLink b) (rbChannel b) { x with claims := x.claims ++ [(sw, k)] }

def execReduce (sw : Fin 16) (s : State) : Host.Outcome State Fault Refusal := .next (beginEntry s sw 0x0A startReduce)

/-- The reduction block of a REDUCE in its slot. -/
def reduceBlock (s : State) (sw slot : Nat) : Option Nat :=
  match (NatMap.get? (stair s sw).slots slot).map Tracked.body with
  | some (.reducing b) => some b
  | _ => none

/-! ### The link quantiser (R299 to R302) -/

def sendMax (lfmt : Nat) : Nat := if lfmt = 0 then 7 else 127

/-- Elements of a BODY flit, and bits of one (*Link formats*). -/
def bodyElements (lfmt : Nat) : Nat := [240, 120, 60, 30].getD lfmt 30
def bodyBits (lfmt : Nat) : Nat := [4, 8, 16, 32].getD lfmt 32

/-- `n` elements of an image of the source, as their bits in the source format. -/
def sourceElems (b img n : Nat) : List Nat :=
  (List.range n).map fun i => fieldAt img (fmtBytes (rbSfmt b) * i) (fmtBytes (rbSfmt b))

/-- A source element as FP32, exactly. -/
def sourceValue (b x : Nat) : Nat := if rbSfmt b = 0x30 then x else widen bf16 x

/-- The largest magnitude over the finite elements (R300). -/
def largestFinite (xs : List Nat) : Nat := (xs.filter isFinite32).foldl (fun a x => max a (fAbs x)) 0

/-- H0 to H15 of a history record. -/
def historyMaxima (r : Nat) : List Nat := (List.range 16).map fun i => fieldAt r (4 * i) 4

/-- The largest of H0 to H15. -/
def historyMax (r : Nat) : Nat :=
  (historyMaxima r).foldl (fun a x => if orderKey a < orderKey x then x else a) (fieldAt r 0 4)

/-- A record that no send leaves behind: a maximum that is a NaN, or none that is 0 or more. The manual
states no scale for it. -/
def historyOdd (r : Nat) : Bool := (historyMaxima r).any isNan32 || decide (orderKey (historyMax r) < 0)

/-- h × MARGIN / (256 × QMAX), rounded once and raised to 2^−126 (R300). -/
def scaleOf (lfmt margin h : Nat) : Nat :=
  if isInf32 h then h
  else
    let n := ((fix h).natAbs * margin) <<< 80
    let q := n / sendMax lfmt
    let sticky := if n % sendMax lfmt = 0 then 0 else 1
    max 0x00800000 (fp32.round false (2 * q + sticky) (-149 - 8 - 81)).1

/-- The code of a finite element, and whether it clips (R301). -/
def sendCode (b scale step : Nat) (flushed : Bool) (k x : Nat) : Int × Bool :=
  let top : Int := sendMax (rbLfmt b)
  let near := rneBy (fix x) scale
  let beyond (v : Int) : Bool := decide (top < v ∨ v < -top)
  if scale = 0 || flushed then (0, false)
  else
    let v := if rbSr b then floorNoise (fix x) scale (noise (rbSeed b) step k) else near
    (max (-top) (min top v), beyond v && beyond near)

/-- Every finite element's RNE code is 0 (R301). -/
def allFlushed (scale : Nat) (xs : List Nat) : Bool :=
  scale != 0 && (xs.filter isFinite32).all fun x => rneBy (fix x) scale == 0

/-- The history record after a send (R302). DESIGN CHOICE: STEP wraps at 2^32 (assumption 89). -/
def historyAfter (r scale peak clips : Nat) (flushed : Bool) : Nat :=
  let hs := if flushed then List.replicate 16 peak else peak :: (historyMaxima r).take 15
  let r := setBits r 0 512 (packElems 32 hs)
  let r := setBits r (8 * 0x40) 32 (fieldAt r 0x40 4 + 1)
  let r := setBits r (8 * 0x44) 32 scale
  let r := setBits r (8 * 0x48) 32 peak
  let r := setBits r (8 * 0x4C) 32 clips
  satField (satField r 0x50 4 clips) 0x54 4 flushed.toNat

/-! ### Claiming a channel and forming the scale -/

/-- The whole source as FP32 values, looked at without an access. -/
def peekSource (s : State) (b : Nat) : List Nat :=
  let n := rbElements b
  (sourceElems b (memRead s .linkSender (rbSrc b) (n * fmtBytes (rbSfmt b))).2.img n).map (sourceValue b)

/-- CHANNEL_CLAIM: the oldest claim on a free channel takes it (R289). -/
def execChannelClaim (l : Fin 9) (c : Fin 16) (s : State) : Host.Outcome State Fault Refusal :=
  let x := chan s l c
  match x.send, x.claims with
  | none, (sw, slot) :: rest =>
    match reduceBlock s sw slot with
    | none => .next (setChan s l c { x with claims := rest })
    | some b =>
      let raw := decide (2 ≤ rbLfmt b)
      let s := if l.val < 8 then linkCount s l Reg.lnk.SENDS 1 else bump s .window Reg.win.LOOP_SENDS
      .next (setChan s l c { x with
        claims := rest
        send := some {
          sw := sw, slot := slot, block := b, history := if raw then some 0 else none, scale := 0
          peak := if raw then largestFinite (peekSource s b) else 0, flushed := false, begun := false, sent := 0
          escapes := [], escSent := 0, clips := 0, stop := none, answered := false } })
  | _, _ => .next s

/-- A send must end with a status: at once while nothing has been sent, by ABORT in its turn otherwise. -/
def stopSend (s : State) (l c status : Nat) : State :=
  let x := chan s l c
  match x.send with
  | none => s
  | some d =>
    if !d.begun then endReduce (setChan s l c { x with send := none, waited := false }) l d.sw d.slot status
    else if d.stop.isSome then s
    else setChan s l c { x with send := some { d with stop := some status } }

/-- The scale of a send from its history record. With h = 0 the whole source is read first (R300). -/
def formScale (s : State) (l c : Nat) (d : Send) (r : Nat) : State :=
  let b := d.block
  let xs := peekSource s b
  let peak := largestFinite xs
  let put (s : State) (scale : Nat) : State :=
    setChan s l c { chan s l c with send := some { d with
      history := some r, scale := scale, peak := peak, flushed := peak != 0 && allFlushed scale xs } }
  if historyOdd r then
    let v := draw s
    put v.2 (max 0x00800000 (v.1 % 0x7F800000))
  else if 0 < orderKey (historyMax r) then put s (scaleOf (rbLfmt b) (rbMargin b) (historyMax r))
  else
    match memRead s .linkSender (rbSrc b) (rbElements b * fmtBytes (rbSfmt b)) with
    | (s, .fault _ _) => stopSend s l c 0x28
    | (s, .ok _) => put s (if peak = 0 then 0 else scaleOf (rbLfmt b) (rbMargin b) peak)

/-- HISTORY_READ_DONE (R299, R300). -/
def execHistoryReadDone (l : Fin 9) (c : Fin 16) (s : State) : Host.Outcome State Fault Refusal :=
  match (chan s l c).send with
  | some d =>
    if d.history.isSome || d.stop.isSome then .next s
    else match memRead s .linkSender (rbHist d.block) 128 with
      | (s, .fault _ _) => .next (stopSend s l c 0x28)
      | (s, .ok r) => .next (formScale s l c d r)
  | none => .next s

/-! ### Flits (R286 to R288) -/

/-- CRC-32C over the low `n` bits of a message, lowest bit first, from register `c`. -/
def crcBits : Nat → Nat → Nat → Nat
  | 0, c, _ => c
  | n + 1, c, v =>
    let x := c ^^^ (v % 2)
    crcBits n (if x % 2 = 1 then x / 2 ^^^ 0x82F63B78 else x / 2) (v / 2)

/-- CRC-32C of `n` bytes (R286). PRESUMED: the Castagnoli polynomial, reflected, begun and ended with all ones
(assumption 94). -/
def crc32c (n v : Nat) : Nat := crcBits (8 * n) 0xFFFFFFFF v ^^^ 0xFFFFFFFF

/-- Bytes 0 to 123 of a flit (*Flit layout*). -/
def flitBytes (type c fseq payload : Nat) : Nat :=
  payload % 2 ^ 960 + type % 16 * 2 ^ 960 + c % 16 * 2 ^ 964 + fseq % 2 ^ 16 * 2 ^ 976

def flitCrc (type c fseq payload : Nat) : Nat := crc32c 124 (flitBytes type c fseq payload)

/-- A flit of a link as it leaves for the wire. -/
def sealFlit (type c fseq payload : Nat) : OutFlit :=
  { type := type, channel := c, fseq := fseq, payload := payload, crc := flitCrc type c fseq payload }

/-- A flit leaves: it takes the next FSEQ and a place in the replay buffer. The loopback has neither. -/
def putFlit (s : State) (l type c payload : Nat) : State :=
  let k := link s l
  let f := if l < 8 then sealFlit type c k.nextSeq payload
    else { type := type, channel := c, fseq := k.nextSeq, payload := payload, crc := 0 }
  if l < 8 then
    linkCount (setLink s l { k with
      wire := f :: k.wire, replay := k.replay ++ [f], nextSeq := (k.nextSeq + 1) % 2 ^ 16 }) l Reg.lnk.FLITS_TX 1
  else setLink s l { k with wire := f :: k.wire }

/-- Payload of HEAD. -/
def headPayload (d : Send) : Nat :=
  let b := d.block
  rbWtag b + rbSlot b * 2 ^ 16 + rbLfmt b * 2 ^ 24 + (rbSr b).toNat * 2 ^ 26 + rbElements b * 2 ^ 32
    + d.scale * 2 ^ 64 + rbStream b * 2 ^ 96 + fieldAt (d.history.getD 0) 0x40 4 * 2 ^ 128

/-- Payload of an ESC flit: up to 15 entries. -/
def escPayload (es : List (Nat × Nat)) : Nat :=
  packElems 64 ((List.range 15).map fun i => match es[i]? with
    | some e => e.1 + e.2 * 2 ^ 32
    | none => 0xFFFFFFFF)

/-- Payload of END. -/
def endPayload (d : Send) : Nat :=
  d.escapes.length % 2 ^ 32 + d.clips * 2 ^ 32 + d.flushed.toNat * 2 ^ 64 + d.peak * 2 ^ 96

/-- One flit of a channel leaves, with its credit, and the channel holds what is left of its send. -/
def channelFlit (s : State) (l c type payload : Nat) (d : Option Send) : State :=
  let s := putFlit s l type c payload
  let x := chan s l c
  setChan s l c { x with send := d, spent := x.spent + 1, waited := false }

/-- ABORT in place of the remaining flits: the send ends with its status, and the channel frees. -/
def abortSend (s : State) (l c : Nat) (d : Send) (status : Nat) : State :=
  let s := channelFlit s l c 5 0 none
  let x := chan s l c
  let s := if d.answered then s else setChan s l c { x with awaiting := x.awaiting ++ [{ owner := none, late := false }] }
  endReduce s l d.sw d.slot status

/-- An FP32 element of a raw BF16 send: rounded once, a NaN and an infinity unchanged (R301). A NaN that BF16 cannot hold
unchanged keeps its sign, and the rest of it is a free value. -/
def rawHalf (x : Nat) : Nat :=
  if !isNan32 x then (narrow bf16 x).1
  else if x / 2 ^ 16 % 2 ^ 7 ≠ 0 then x / 2 ^ 16
  else x / 2 ^ 31 * 2 ^ 15 + 0x7F80 + (Config.rawNaN x % 127 + 1)

/-- A BODY flit: its elements are read, coded and sent (R301). -/
def sendBody (s : State) (l c : Nat) (d : Send) : State :=
  let b := d.block
  let n := min (bodyElements (rbLfmt b)) (rbElements b - d.sent)
  let w := fmtBytes (rbSfmt b)
  match memRead s .linkSender (rbSrc b + d.sent * w) (n * w) with
  | (s, .fault _ _) => abortSend s l c d 0x28
  | (s, .ok img) =>
    let raws := sourceElems b img n
    let xs := raws.map (sourceValue b)
    let m := bodyBits (rbLfmt b)
    if 2 ≤ rbLfmt b then
      let out := raws.map fun x => if rbLfmt b = 3 then sourceValue b x
        else if rbSfmt b = 0x40 then x else rawHalf x
      channelFlit s l c 2 (packElems m out) (some { d with sent := d.sent + n })
    else
      let step := fieldAt (d.history.getD 0) 0x40 4
      let coded := xs.zipIdx.map fun e => (e.1, sendCode b d.scale step d.flushed (d.sent + e.2) e.1)
      let out := coded.map fun e =>
        twos m (if isFinite32 e.1 then e.2.1 else -(sendMax (rbLfmt b) : Int) - 1)
      let esc := (xs.zipIdx.filter fun e => !isFinite32 e.1).map fun e => (d.sent + e.2, e.1)
      let clips := (coded.filter fun e => isFinite32 e.1 && e.2.2).length
      let s := if clips = 0 then s else linkSticky (linkCount s l Reg.lnk.CLIPPED clips) l Sticky.lnk.SEND_CLIP
      channelFlit s l c 2 (packElems m out) (some { d with
        sent := d.sent + n, escapes := d.escapes ++ esc, clips := d.clips + clips })

/-- END, after the history record is written (R302). The send then awaits its response. -/
def sendEnd (s : State) (l c : Nat) (d : Send) : State :=
  let b := d.block
  let r := if 2 ≤ rbLfmt b then (s, Got.ok 0)
    else memWrite s .linkSender (rbHist b) 128 (historyAfter (d.history.getD 0) d.scale d.peak d.clips d.flushed)
  if !r.2.isOk then abortSend r.1 l c d 0x28
  else
    let s := if d.flushed then linkSticky (linkCount r.1 l Reg.lnk.FLUSHED 1) l Sticky.lnk.SEND_FLUSH else r.1
    let s := channelFlit s l c 4 (endPayload d) none
    let x := chan s l c
    setChan s l c { x with awaiting := x.awaiting ++ [{ owner := some (d.sw, d.slot), late := false }] }

/-- The next flit of a send: HEAD, BODY flits, ESC flits, END; or ABORT (R289, R297). -/
def sendNext (s : State) (l c : Nat) (d : Send) : State :=
  match d.stop with
  | some status => abortSend s l c d status
  | none =>
    if !d.begun then channelFlit s l c 1 (headPayload d) (some { d with begun := true })
    else if d.sent < rbElements d.block then sendBody s l c d
    else if d.escSent < d.escapes.length then
      let es := (d.escapes.drop d.escSent).take 15
      channelFlit (linkCount s l Reg.lnk.ESCAPES es.length) l c 3 (escPayload es)
        (some { d with escSent := d.escSent + es.length })
    else sendEnd s l c d

/-- The channel holds a flit: its send has its scale, or must be stopped. -/
def holdsFlit (x : Channel) : Bool :=
  match x.send with
  | some d => d.stop.isSome || d.history.isSome
  | none => false

/-- Each channel that holds a flit and no credit begins an episode of waiting (R288). -/
def creditWaits (s : State) (l : Nat) : State :=
  (link s l).channels.foldl (fun s e =>
    if holdsFlit e.2 && decide (64 ≤ e.2.spent) && !e.2.waited then
      setChan (linkCount s l Reg.lnk.CREDIT_WAIT 1) l e.1 { chan s l e.1 with waited := true }
    else s) s

/-- The next channel in turn that holds a flit and a credit (R289). -/
def nextChannel (k : Link) : Option (Nat × Send) :=
  (List.range 16).findSome? fun i =>
    let c := (k.lastChannel + 1 + i) % 16
    match NatMap.get? k.channels c with
    | some x => if holdsFlit x && decide (x.spent < 64) then x.send.map fun d => (c, d) else none
    | none => none

/-- A CTRL flit is due. -/
def ctrlDue (k : Link) : Bool :=
  k.ackDue || k.replayReq || k.spareReq.isSome || !k.responses.isEmpty || k.channels.any fun e => e.2.owed != 0

/-- Credits a CTRL flit returns on a channel. -/
def creditsFor (k : Link) (c : Nat) : Nat := min 255 (((NatMap.get? k.channels c).map Channel.owed).getD 0)

/-- Payload of CTRL (*Flit payloads*); ACK_FSEQ is the last FSEQ accepted in order. -/
def ctrlPayload (k : Link) : Nat :=
  (k.expected + 65535) % 2 ^ 16 + k.replayReq.toNat * 2 ^ 16 + k.spareReq.isSome.toNat * 2 ^ 17
    + k.spareReq.getD 0 * 2 ^ 24 + packElems 8 ((List.range 16).map (creditsFor k)) * 2 ^ 32
    + packElems 32 ((k.responses.take 25).map fun r => r.1 + r.2.1 * 2 ^ 4 + r.2.2 * 2 ^ 8) * 2 ^ 160

/-- A CTRL flit leaves with everything that is due. -/
def sendCtrl (s : State) (l : Nat) : State :=
  let k := link s l
  putFlit (setLink s l { k with
    ackDue := false, replayReq := false, spareReq := none, responses := k.responses.drop 25
    channels := k.channels.map fun e => (e.1, { e.2 with owed := e.2.owed - creditsFor k e.1 }) }) l 6 0 (ctrlPayload k)

/-- An IDLE flit, which takes no FSEQ, is not kept for replay and is not counted. -/
def sendIdle (s : State) (l : Nat) : State :=
  if l < 8 then setLink s l { link s l with wire := sealFlit 0 0 0 0 :: (link s l).wire } else s

/-- The flit whose turn it is: one of a running replay, else CTRL when something is due, else one of the channel whose
turn it is; an IDLE flit otherwise, and while the replay buffer is full (R287, R289). -/
def sendFlit (s : State) (l : Nat) : State :=
  let k := link s l
  if k.resend ≠ 0 then
    match k.replay[k.replay.length - k.resend]? with
    | some f => linkCount (setLink s l { k with resend := k.resend - 1, wire := f :: k.wire }) l Reg.lnk.FLITS_TX 1
    | none => s
  else if 512 ≤ k.replay.length then sendIdle s l
  else if ctrlDue k then sendCtrl s l
  else
    let s := creditWaits s l
    match nextChannel (link s l) with
    | some (c, d) => sendNext (setLink s l { link s l with lastChannel := c }) l c d
    | none => sendIdle s l

/-- A flit crosses the boundary of a Fenzin link (R27); the loopback has none. -/
def linkHeld (s : State) (l : Nat) : State := if l < 8 then crossFifo s (linkPage l) 1 else s

/-- FLIT_SEND on a link that is up. -/
def execFlitSend (l : Fin 9) (s : State) : Host.Outcome State Fault Refusal :=
  if !linkIsUp s l then .next s
  else .next (sendFlit (linkHeld s l) l)

/-! ### Responses (R290, R297) -/

/-- A response reaches the sender: `code` 0 is ACK_END. It belongs to the oldest send of its channel that
awaits one. -/
def responseArrives (s : State) (l c code : Nat) : State :=
  let x := chan s l c
  match x.awaiting with
  | a :: rest =>
    let s := setChan s l c { x with awaiting := rest }
    match a.owner with
    | some (sw, slot) => endReduce s l sw slot code
    | none => if a.late then linkCount s l Reg.lnk.LATE_RESPONSES 1 else s
  | [] =>
    match x.send with
    | some d =>
      if d.begun && !d.answered && code != 0 then
        setChan s l c { x with send := some { d with answered := true, stop := some (d.stop.getD code) } }
      else s
    | none => s

/-- A response of the loopback's receiver to a channel, taken from those that wait. -/
def takeLoopResponse (s : State) (c code : Nat) : Option State :=
  let k := link s 8
  match k.responses.find? fun r => r.1 == c with
  | some r => if r.2.2 = code then some (setLink s 8 { k with responses := k.responses.erase r }) else none
  | none => none

/-- A response as a command: from the peer on a link, or one the loopback's receiver has sent (R291). -/
def response (s : State) (l c code : Nat) : State :=
  if l < 8 then (if linkIsUp s l then responseArrives (crossFifo s (linkPage l) 1) l c code else s)
  else match takeLoopResponse s c code with
    | some s => responseArrives s l c code
    | none => s

def execAckEnd (l : Fin 9) (c : Fin 16) (s : State) : Host.Outcome State Fault Refusal := .next (response s l c 0)

/-- NACK; a code of 0 is no NACK. -/
def execNack (l : Fin 9) (c : Fin 16) (code : BitVec 8) (s : State) : Host.Outcome State Fault Refusal :=
  if code = 0 then .next s else .next (response s l c code.toNat)

/-- ACK_TIMER_EXPIRY: the oldest send whose END has gone without a response ends PEER_TIMEOUT (R297). -/
def execAckTimerExpiry (l : Fin 9) (c : Fin 16) (s : State) : Host.Outcome State Fault Refusal :=
  let x := chan s l c
  match x.awaiting.findIdx? fun a => a.owner.isSome with
  | none => .next s
  | some i =>
    match x.awaiting[i]? with
    | some a =>
      match a.owner with
      | some (sw, slot) =>
        .next (endReduce (setChan s l c { x with awaiting := x.awaiting.set i { owner := none, late := true } })
          l sw slot 0x46)
      | none => .next s
    | none => .next s

/-! ### KILL of a sender (R308) -/

/-- A tracked entry that has been killed and stops later (R230). -/
def markKilled (s : State) (sw slot : Nat) : State :=
  let w := stair s sw
  match NatMap.get? w.slots slot with
  | some t => setStair s sw { w with slots := NatMap.set w.slots slot { t with killed := true } }
  | none => s

/-- KILL of a REDUCE: a claim that waits is withdrawn; a send stops by ABORT and ends KILLED, whatever had stopped it
before (R308); one whose END has gone ends at once. -/
def killSend (s : State) (sw slot b : Nat) : State :=
  let l := rbLink b
  let c := rbChannel b
  let x := chan s l c
  if x.claims.contains (sw, slot) then
    endEntry (setChan s l c { x with claims := x.claims.erase (sw, slot) }) sw slot 0x30 0 0
  else if x.send.any fun d => d.sw == sw && d.slot == slot then
    stopSend (setChan (markKilled s sw slot) l c { x with send := x.send.map fun d => { d with stop := none } }) l c 0x30
  else
    let drop (a : Await) : Await := if a.owner.any (· == (sw, slot)) then { a with owner := none } else a
    endReduce (setChan s l c { x with awaiting := x.awaiting.map drop }) l sw slot 0x30

end Sys2Proof.Machine
end

