-- ==== Sys2Proof/Machine/LinkRx.lean ====
section
/-! DEFINITION. Fenzin links, receiving: training, sparing and loss (R283 to R285), flits in sequence (R287), the
window table as a receiver uses it, and the sends that arrive (R304 to R306). -/

namespace Sys2Proof.Machine

/-! ### The window table (R292 to R294) -/

/-- The open window of a tag. -/
def findWindow (s : State) (tag : Nat) : Option Window :=
  s.windows.find? fun w => w.tag == tag && w.live && !w.closing

/-- The open window of a table entry. -/
def openEntry (s : State) (entry : Nat) : Option Window :=
  s.windows.find? fun w => w.entry == entry && w.live && !w.closing

def updWindow (s : State) (entry : Nat) (f : Window → Window) : State :=
  { s with windows := s.windows.map fun w => if w.entry = entry then f w else w }

/-- The first sector of a window's header updated in one access; whether it succeeded (R267, R306). -/
def updateHeader (s : State) (w : Window) (f : Nat → Nat) : State × Bool :=
  match memRead s .linkReceiver w.addr 32 with
  | (s, .fault _ _) => (s, false)
  | (s, .ok v) =>
    let r := memWrite s .linkReceiver w.addr 32 (f v)
    (r.1, r.2.isOk)

/-! ### Responses, credits and discarded flits -/

/-- A link that has failed carries nothing until it trains again (R283). -/
def linkFailed (s : State) (l : Nat) : Bool := decide (l < 8) && rd s (linkPage l) Reg.lnk.LINK_STATE == 4

/-- A response joins those that wait for a CTRL flit, on a link that has not failed; a NACK is counted (R290, R304,
R306). -/
def respond (s : State) (l c code : Nat) : State :=
  let s := if linkFailed s l then s
    else setLink s l { link s l with responses := (link s l).responses ++ [(c, if code = 0 then 1 else 2, code)] }
  if code = 0 then s else linkSticky (linkCount s l Reg.lnk.NACKS_SENT 1) l Sticky.lnk.NACK_SENT

/-- Flits leave a channel's receive buffer: their credits are owed to the peer (R288). -/
def creditBack (s : State) (l c n : Nat) : State :=
  let x := chan s l c
  setChan s l c { x with owed := x.owed + n }

/-- Flits discarded. -/
def discardFlits (s : State) (l c n : Nat) : State :=
  creditBack (linkCount s l Reg.lnk.DROPPED_FLITS n) l c n

def setReceive (s : State) (l c : Nat) (r : Option Receive) : State :=
  setChan s l c { chan s l c with receive := r }

/-! ### HEAD (R304) -/

/-- The check a HEAD fails, as its NACK. -/
def headRefusal (w : Option Window) (slot elements : Nat) : Option Nat :=
  match w with
  | none => some 0x40
  | some w =>
    if wpSlots w.param ≤ slot then some 0x45
    else if wpElements w.param ≠ elements then some 0x44
    else if w.begun.contains slot then some 0x43
    else none

/-- A HEAD in its turn: the slot begins, or the send is refused. -/
def takeHead (s : State) (l c p : Nat) : State :=
  let slot := bits p 16 8
  let w := findWindow s (bits p 0 16)
  let r : Receive := {
    entry := (w.map Window.entry).getD 256, wtag := bits p 0 16, slotNo := slot, lfmt := bits p 24 2
    sr := bit p 26, elements := bits p 32 32, scale := bits p 64 32, stream := bits p 96 16, got := 0
    drop := false, writes := [], ended := false, closing := none, answered := false }
  match headRefusal w slot r.elements with
  | some code =>
    let s := if code = 0x40 then setSticky (bump s .window Reg.win.REFUSED) .window Sticky.win.WINDOW_DROP else s
    setReceive (respond (discardFlits s l c 1) l c code) l c (some { r with drop := true, answered := true })
  | none =>
    let s := updWindow s r.entry fun w => { w with begun := slot :: w.begun }
    setReceive (creditBack s l c 1) l c (some r)

/-! ### BODY and ESC (R305) -/

/-- An FP32 value in the format of the window's slots. -/
def slotValue (dfmt v : Nat) : Nat := if dfmt = 0x30 then v else (narrow bf16 v).1

/-- One element of a BODY flit in the window's format; none for the escape code. -/
def decodeElem (r : Receive) (dfmt x : Nat) : Option Nat :=
  if r.lfmt = 3 then some (slotValue dfmt x)
  else if r.lfmt = 2 then some (slotValue dfmt (widen bf16 x))
  else
    let c := signed (bodyBits r.lfmt) x
    if c = -(sendMax r.lfmt : Int) - 1 then none
    else some (if c = 0 then 0 else slotValue dfmt (fMul (fOfInt c).1 r.scale).1)

/-- The writes of consecutive elements from element `k` on: one for each run. -/
def runWrites (base d : Nat) : List (Option Nat) → Nat → List (Nat × Nat × Nat)
  | [], _ => []
  | none :: t, k => runWrites base d t (k + 1)
  | some v :: t, k =>
    match runWrites base d t (k + 1) with
    | (a, n, x) :: rest =>
      if a = base + d * (k + 1) then (a - d, n + d, v + x * 2 ^ (8 * d)) :: rest
      else (base + d * k, d, v) :: (a, n, x) :: rest
    | [] => [(base + d * k, d, v)]

/-- Address of the first element of a slot (R292). -/
def slotBase (w : Window) (slot : Nat) : Nat := w.addr + 256 + slot * wpStride w.param

/-- The writes of a BODY flit. -/
def bodyWrites (w : Window) (r : Receive) (p : Nat) : List (Nat × Nat × Nat) :=
  let n := min (bodyElements r.lfmt) (r.elements - r.got)
  let m := bodyBits r.lfmt
  runWrites (slotBase w r.slotNo) (fmtBytes (wpFmt w.param))
    ((List.range n).map fun i => decodeElem r (wpFmt w.param) (bits p (m * i) m)) r.got

/-- The writes of an ESC flit, one for each entry in use. -/
def escWrites (w : Window) (r : Receive) (p : Nat) : List (Nat × Nat × Nat) :=
  let d := fmtBytes (wpFmt w.param)
  (List.range 15).filterMap fun i =>
    let k := fieldAt p (8 * i) 4
    if k < r.elements then some (slotBase w r.slotNo + d * k, d, slotValue (wpFmt w.param) (fieldAt p (8 * i + 4) 4))
    else none

/-- A flit's writes wait to be accepted; a flit without one leaves the buffer at once. -/
def holdWrites (s : State) (l c : Nat) (r : Receive) (ws : List (Nat × Nat × Nat)) : State :=
  if ws.isEmpty then setReceive (creditBack s l c 1) l c (some r)
  else setReceive s l c (some { r with writes := r.writes ++ [ws] })

/-! ### The end of a send (R306) -/

/-- An aborted send: with its window open, ERR_MASK, ABORTED and the slot; and its response. -/
def abortSlot (s : State) (l c : Nat) (r : Receive) : State :=
  let s := match openEntry s r.entry with
    | some w =>
      let t := updateHeader s w fun v => satField (v ||| 2 ^ (128 + r.slotNo)) 0x04 4 1
      updWindow t.1 w.entry fun w => { w with begun := w.begun.filter (· != r.slotNo) }
    | none => s
  if r.answered then s else respond s l c 0x30

/-- An abort with no write left is carried out, and a send that is over leaves its channel. Whether it left. -/
def settleReceive (s : State) (l c : Nat) : State × Bool :=
  match (chan s l c).receive with
  | none => (s, false)
  | some r =>
    if !r.writes.isEmpty || r.closing.any (·.1 == 4) then (s, false)
    else
      let s := if r.closing.isSome then abortSlot s l c r else s
      let left := { r with closing := none, answered := r.answered || r.closing.isSome }
      (setReceive s l c (if r.ended then none else some left), r.ended)

/-- The next flit of a channel in its turn; one that comes behind a send that is not over waits (R290). -/
def takeFlit (l c : Nat) (s : State) (f : Nat × Nat) : State :=
  let x := chan s l c
  let wait (s : State) : State := setChan s l c { chan s l c with queue := (chan s l c).queue ++ [f] }
  match x.receive with
  | none => if f.1 = 1 then takeHead s l c f.2 else discardFlits s l c 1
  | some r =>
    if r.ended then wait s
    else if f.1 = 1 then
      -- a HEAD while a send is under way: the peer has given that send up
      let t := settleReceive (setReceive s l c (some { r with
        ended := true, drop := true, closing := if r.drop then r.closing else some (5, 0) })) l c
      if t.2 then takeHead t.1 l c f.2 else wait t.1
    else if f.1 = 4 || f.1 = 5 then
      if r.drop then (settleReceive (setReceive (discardFlits s l c 1) l c (some { r with ended := true })) l c).1
      else if f.1 = 4 then setReceive s l c (some { r with ended := true, closing := some (4, f.2) })
      else (settleReceive (setReceive (creditBack s l c 1) l c (some { r with
        ended := true, drop := true, closing := some (5, 0) })) l c).1
    else if r.drop then discardFlits s l c 1
    else match openEntry s r.entry with
      | none => discardFlits s l c 1
      | some w =>
        if f.1 = 2 then
          holdWrites s l c { r with got := r.got + bodyElements r.lfmt } (bodyWrites w r f.2)
        else holdWrites s l c r (escWrites w r f.2)

/-- The flits that waited behind a send are processed in order. -/
def drainChannel (s : State) (l c : Nat) : State :=
  let q := (chan s l c).queue
  q.foldl (takeFlit l c) (setChan s l c { chan s l c with queue := [] })

/-- A send settled, and the flits behind it processed once it is over. -/
def settleChannel (s : State) (l c : Nat) : State :=
  let t := settleReceive s l c
  if t.2 then drainChannel t.1 l c else t.1

/-! ### Flits in sequence (R286, R287) -/

/-- A replay is requested: the flit is discarded. -/
def refuseFlit (s : State) (l : Nat) : State :=
  let s := linkCount s l Reg.lnk.CRC_ERRORS 1
  setLink s l { link s l with replayReq := true }

/-- FEC has corrected a receive lane: one more of its corrections since training (R284). -/
def noteFec (l : Nat) (s : State) (lane : Fin 17) : State :=
  let k := link s l
  let n := (NatMap.get? k.corrections lane.val).getD 0
  setLink s l { k with corrections := NatMap.set k.corrections lane.val (min (n + 1) (2 ^ 32 - 1)) }

/-- The CRC field of a received flit is that of its bytes (R286). -/
def crcGood (type : Nat) (f : Flit) : Bool := f.crc.toNat == flitCrc type f.channel f.fseq.toNat f.payload

/-- A flit reaches a receiver; whether it goes on. On a link it must have a good CRC, a type that is defined and the FSEQ
expected, and an IDLE flit ends there; on the loopback it is the oldest flit that its sender has sent. -/
def acceptFlit (s : State) (l type : Nat) (f : Flit) : State × Bool :=
  if l < 8 then
    if !linkIsUp s l then (s, false)
    else
      let s := crossFifo s (linkPage l) 1
      let s := f.fec.foldl (noteFec l) s
      if !crcGood type f then (refuseFlit s l, false)
      else
      let s := linkCount s l Reg.lnk.FLITS_RX 1
      if type = 0 then (s, false)
      else if 6 < type ∨ f.fseq.toNat ≠ (link s l).expected then (refuseFlit s l, false)
      else (setLink s l { link s l with expected := ((link s l).expected + 1) % 2 ^ 16, ackDue := true }, true)
  else
    let k := link s l
    match k.wire.getLast? with
    | some g =>
      if g.type = type ∧ g.channel = f.channel.val ∧ g.payload = f.payload then
        (setLink s l { k with wire := k.wire.dropLast }, true)
      else (s, false)
    | none => (s, false)

/-- A channel's flit received. -/
def receiveFlit (s : State) (l type : Nat) (f : Flit) : State :=
  let t := acceptFlit s l type f
  if t.2 then takeFlit l f.channel.val t.1 (type, f.payload) else t.1

def execHead (l : Fin 9) (f : Flit) (s : State) : Host.Outcome State Fault Refusal := .next (receiveFlit s l 1 f)
def execBody (l : Fin 9) (f : Flit) (s : State) : Host.Outcome State Fault Refusal := .next (receiveFlit s l 2 f)
def execEsc (l : Fin 9) (f : Flit) (s : State) : Host.Outcome State Fault Refusal := .next (receiveFlit s l 3 f)
def execEndFlit (l : Fin 9) (f : Flit) (s : State) : Host.Outcome State Fault Refusal := .next (receiveFlit s l 4 f)
def execAbort (l : Fin 9) (f : Flit) (s : State) : Host.Outcome State Fault Refusal := .next (receiveFlit s l 5 f)

/-! ### Writes accepted and the commit (R288, R305, R306) -/

/-- A link that is retraining retires nothing until it is back (R294, R306). -/
def retires (s : State) (l : Nat) : Bool := linkIsUp s l || rd s (linkPage l) Reg.lnk.LINK_STATE == 4

/-- The writes of one flit; whether all succeeded. -/
def doWrites : List (Nat × Nat × Nat) → State → State × Bool
  | [], s => (s, true)
  | (a, n, v) :: t, s =>
    let r := memWrite s .linkReceiver a n v
    if r.2.isOk then doWrites t r.1 else (r.1, false)

/-- An END in the buffer, waiting for its commit. -/
def heldEnd (r : Receive) : Nat := if r.closing.any (·.1 == 4) then 1 else 0

/-- A write of the send has faulted: the rest is discarded, NACK REMOTE_FAULT, and the slot is handled as
aborted (R305). -/
def receiveFault (s : State) (l c : Nat) (r : Receive) : State :=
  let s := discardFlits s l c (r.writes.length + heldEnd r)
  if r.drop then setReceive s l c (some { r with writes := [] })
  else
    setReceive (if r.answered then s else respond s l c 0x47) l c
      (some { r with writes := [], drop := true, answered := true, closing := some (5, 0) })

/-- RECEIVE_WRITE_ACCEPT: the writes of the oldest flit of a channel. -/
def execReceiveWriteAccept (l : Fin 9) (c : Fin 16) (s : State) : Host.Outcome State Fault Refusal :=
  match (chan s l c).receive with
  | some r =>
    match r.writes with
    | ws :: rest =>
      if !retires s l then .next s
      else
        let t := doWrites ws s
        let s := creditBack t.1 l c 1
        if t.2 then .next (settleChannel (setReceive s l c (some { r with writes := rest })) l c)
        else .next (settleChannel (receiveFault s l c { r with writes := rest }) l c)
    | [] => .next s
  | none => .next s

/-- The header updates of an END in their order: the stream table entry, ESCAPES, and the first sector in one
access (R306). -/
def commitHeader (s : State) (w : Window) (r : Receive) (p : Nat) : State × Bool :=
  let a := memWrite s .linkReceiver (w.addr + 0x40 + 2 * r.slotNo) 2 (r.stream % 2 ^ 15 + r.sr.toNat * 2 ^ 15)
  if !a.2.isOk then (a.1, false)
  else match memRead a.1 .linkReceiver (w.addr + 0x20) 4 with
    | (s, .fault _ _) => (s, false)
    | (s, .ok v) =>
      let b := memWrite s .linkReceiver (w.addr + 0x20) 4 (satField v 0 4 (fieldAt p 0 4))
      if !b.2.isOk then (b.1, false)
      else updateHeader b.1 w fun v =>
        satField (satField (satField (v ||| 2 ^ (64 + r.slotNo)) 0x00 4 1) 0x18 4 (fieldAt p 4 4)) 0x1C 4 (fieldAt p 8 1)

/-- RECEIVE_END_COMMIT: with every write accepted, the header and then ACK_END (R306). -/
def execReceiveEndCommit (l : Fin 9) (c : Fin 16) (s : State) : Host.Outcome State Fault Refusal :=
  match (chan s l c).receive with
  | some r =>
    match r.closing, openEntry s r.entry with
    | some (4, p), some w =>
      if !r.writes.isEmpty || !retires s l then .next s
      else
        let t := commitHeader s w r p
        let s := creditBack t.1 l c 1
        if t.2 then .next (drainChannel (setReceive (respond s l c 0) l c none) l c)
        else .next (settleChannel (receiveFault s l c { r with closing := none }) l c)
    | _, _ => .next s
  | none => .next s

/-! ### CTRL and replay (R284 to R288, R290) -/

/-- Flits up to an FSEQ are acknowledged. -/
def acknowledge (k : Link) (fseq : Nat) : Link :=
  let first := (k.nextSeq + 2 ^ 16 - k.replay.length) % 2 ^ 16
  let n := (fseq + 1 + 2 ^ 16 - first) % 2 ^ 16
  if n = 0 ∨ k.replay.length < n then k
  else { k with replay := k.replay.drop n, resend := min k.resend (k.replay.length - n), sameReplays := 0 }

/-- The link leaves UP or UP_HALF: it trains again while TRAIN_EN is 1 (R283, R285). -/
def loseLock (s : State) (l : Nat) : State :=
  if !linkIsUp s l then s
  else
    let p := linkPage l
    let s := setLink s l { link s l with resend := 0, sameReplays := 0 }
    let s := if on s p Reg.lnk.TRAIN_EN then bump (wr s p Reg.lnk.LINK_STATE 1) p Reg.lnk.RETRAINS
      else wr s p Reg.lnk.LINK_STATE 0
    linkSticky s l Sticky.lnk.LINK_LOST

/-- A replay from the oldest unacknowledged flit starts; the sixteenth of one flit in a row loses the link
(R285, R287). -/
def startReplay (s : State) (l : Nat) : State :=
  let k := link s l
  if k.replay.isEmpty then s
  else
    let s := linkCount (setLink s l { k with resend := k.replay.length, sameReplays := k.sameReplays + 1 }) l Reg.lnk.REPLAYS 1
    if 16 ≤ k.sameReplays + 1 then loseLock s l else s

/-- REPLAY_TIMER_EXPIRY. -/
def execReplayTimerExpiry (l : Fin 8) (s : State) : Host.Outcome State Fault Refusal :=
  if linkIsUp s l then .next (startReplay s l) else .next s

/-- Credits of a CTRL flit return to their channels. -/
def takeCredits (s : State) (l p : Nat) : State :=
  (List.range 16).foldl (fun s c =>
    let n := fieldAt p (4 + c) 1
    if n = 0 then s else setChan s l c { chan s l c with spent := (chan s l c).spent - n }) s

/-- The responses of a CTRL flit, in order. -/
def takeResponses (s : State) (l p : Nat) : State :=
  (List.range 25).foldl (fun s i =>
    let e := fieldAt p (0x14 + 4 * i) 4
    match bits e 4 2 with
    | 1 => responseArrives s l (bits e 0 4) 0
    | 2 => responseArrives s l (bits e 0 4) (bits e 8 8)
    | _ => s) s

/-- A CTRL flit received: acknowledgement, credits, responses, sparing and a request for replay. -/
def receiveCtrl (s : State) (l : Nat) (f : Flit) : State :=
  let t := acceptFlit s l 6 f
  if !t.2 then t.1
  else
    let p := f.payload
    let s := if l < 8 then setLink t.1 l (acknowledge (link t.1 l) (fieldAt p 0 2)) else t.1
    let s := takeResponses (takeCredits s l p) l p
    let s := if bit p 17 ∧ l < 8 then wr s (linkPage l) Reg.lnk.SPARE_TX (fieldAt p 3 1) else s
    if bit p 16 ∧ l < 8 then startReplay s l else s

/-- CTRL. -/
def execCtrl (l : Fin 9) (f : Flit) (s : State) : Host.Outcome State Fault Refusal := .next (receiveCtrl s l f)

/-- CORRUPT_FLIT: a flit whose TYPE field is given; one that is not defined is discarded and a replay requested, and IDLE,
0, is ignored (R286, R287). -/
def execCorruptFlit (l : Fin 9) (type : BitVec 4) (f : Flit) (s : State) : Host.Outcome State Fault Refusal :=
  .next (if type.toNat = 6 then receiveCtrl s l f else receiveFlit s l type.toNat f)

/-! ### Training, sparing and loss (R283 to R285) -/

/-- LINK_LOCK_LOSS. -/
def execLinkLockLoss (l : Fin 8) (s : State) : Host.Outcome State Fault Refusal := .next (loseLock s l)

/-- Training starts anew while TRAIN_EN is 1 (R283). -/
def retrain (s : State) (l : Nat) : State :=
  let p := linkPage l
  if !on s p Reg.lnk.TRAIN_EN || rd s p Reg.lnk.LINK_STATE == 1 then s
  else if linkIsUp s l then loseLock s l
  else bump (wr (setLink s l { link s l with failures := 0 }) p Reg.lnk.LINK_STATE 1) p Reg.lnk.RETRAINS

/-- LINK_RETRAIN: a write of 1 to LINK_CTRL.RETRAIN. -/
def execLinkRetrain (l : Fin 8) (s : State) : Host.Outcome State Fault Refusal :=
  .next (ifPermitted s .mainband (linkPage l) Reg.lnk.TRAIN_EN.off 2 (retrain s l))

/-- A data lane of a link that is up is due for the spare: its corrections since training have reached the threshold, and
the spare does not carry it already (R284). -/
def laneDue (s : State) (l lane : Nat) : Bool :=
  let p := linkPage l
  linkIsUp s l && on s p Reg.lnk.LANE_SPARE_EN && decide (lane < 16) && rd s p Reg.lnk.SPARE_RX != lane
    && decide (atLeastOne (rd s p Reg.lnk.LANE_ERR_THRESHOLD) ≤ (NatMap.get? (link s l).corrections lane).getD 0)

/-- FENZIN_LANE_SPARE: a data lane whose corrections have reached the threshold moves to the spare (R284). -/
def execFenzinLaneSpare (l : Fin 8) (lane : Fin 17) (s : State) : Host.Outcome State Fault Refusal :=
  let p := linkPage l
  if !laneDue s l lane then .next s
  else
    if rd s p Reg.lnk.SPARE_RX = 31 then
      let s := setLink s l { link s l with spareReq := some lane }
      .next (linkSticky (wr s p Reg.lnk.SPARE_RX lane) l Sticky.lnk.LANE_SPARED)
    else .next (linkSticky s l Sticky.lnk.LANE_EXHAUSTED)

/-- A channel of a link that has failed: every send on it ends LINK_DOWN, and one that arrives is aborted (R285). -/
def failChannel (l : Nat) (s : State) (c : Nat) : State :=
  let x := chan s l c
  let s := setChan s l c { x with claims := [], send := none, awaiting := [], queue := [], waited := false }
  let s := x.awaiting.foldl (fun s a => match a.owner with
    | some (sw, slot) => endReduce s l sw slot 0x41
    | none => s) s
  let s := match x.send with
    | some d => endReduce s l d.sw d.slot 0x41
    | none => s
  let s := x.claims.foldl (fun s e => endEntry s e.1 e.2 0x41 0 0) s
  let s := if x.queue.isEmpty then s else discardFlits s l c x.queue.length
  match x.receive with
  | some r => (settleReceive (setReceive (creditBack s l c (heldEnd r)) l c (some { r with
      ended := true, drop := true, closing := if r.drop then r.closing else some (5, 0) })) l c).1
  | none => s

/-- The link enters FAILED (R283, R285, R386). -/
def failLink (s : State) (l : Nat) : State :=
  let s := setLink s l { link s l with failures := 0, responses := [] }
  let s := latchFault (wr s (linkPage l) Reg.lnk.LINK_STATE 4) (linkPage l) 0x01 0
  (List.range 16).foldl (failChannel l) s

/-- The lanes of a direction that train at half or full width: its first data lane, and the lane on the spare, 31 for none.
At most one failing lane of the group may be carried, on a spare that works. -/
def carry (bad : List Nat) (first n : Nat) : Option (Nat × Nat) :=
  match (List.range n).filter fun i => bad.contains (first + i) with
  | [] => some (first, 31)
  | [i] => if bad.contains 16 then none else some (first, first + i)
  | _ => none

/-- The group of eight data lanes that works with the spare, 0 to 7 before 8 to 15. -/
def halfGroup (bad : List Nat) : Option (Nat × Nat) := (carry bad 0 8).orElse fun _ => carry bad 8 8

/-- Two or more data lanes of a direction fail. -/
def failsTwo (bad : List Nat) : Bool := decide (2 ≤ ((List.range 16).filter bad.contains).length)

/-- What a training makes of the lanes: the state entered, and each direction's lanes; none where it fails (R283). -/
def trainOutcome (halfOk : Bool) (tx rx : List Nat) : Option (Nat × (Nat × Nat) × (Nat × Nat)) :=
  match carry tx 0 16, carry rx 0 16 with
  | some a, some b => some (2, a, b)
  | _, _ =>
    if halfOk && (failsTwo tx || failsTwo rx) then
      match halfGroup tx, halfGroup rx with
      | some a, some b => some (3, a, b)
      | _, _ => none
    else none

/-- A training attempt has succeeded: the peer, the lanes in use, and replay from the oldest unacknowledged flit. -/
def trainedLink (s : State) (l state peer : Nat) (tx rx : Nat × Nat) : State :=
  let p := linkPage l
  let s := wr (wr (wr (wr s p Reg.lnk.LINK_STATE state) p Reg.lnk.PEER_ID peer) p Reg.lnk.SPARE_TX tx.2) p Reg.lnk.SPARE_RX rx.2
  let k := link s l
  let s := setLink s l { k with
    corrections := [], failures := 0, sameReplays := 0, resend := k.replay.length, halfTx := tx.1, halfRx := rx.1 }
  if k.replay.isEmpty then s else linkCount s l Reg.lnk.REPLAYS 1

/-- A training attempt has failed: another follows until RETRAIN_LIMIT have failed in a row. -/
def trainingFailed (s : State) (l : Nat) : State :=
  let n := (link s l).failures + 1
  if atLeastOne (rd s (linkPage l) Reg.lnk.RETRAIN_LIMIT) ≤ n then failLink s l
  else bump (setLink s l { link s l with failures := n }) (linkPage l) Reg.lnk.RETRAINS

/-- LINK_TRAINING_ATTEMPT_END: the attempt succeeds when the peer answers and its lanes allow it. -/
def execLinkTrainingAttemptEnd (l : Fin 8) (found : Training) (s : State) : Host.Outcome State Fault Refusal :=
  let p := linkPage l
  if rd s p Reg.lnk.LINK_STATE ≠ 1 then .next s
  else match found.peer, trainOutcome (on s p Reg.lnk.HALF_OK) (found.badTx.map Fin.val) (found.badRx.map Fin.val) with
    | some peer, some (state, tx, rx) =>
      let s := trainedLink s l state peer.toNat tx rx
      .next (if state = 3 then linkSticky s l Sticky.lnk.HALF_WIDTH else s)
    | _, _ => .next (trainingFailed s l)

end Sys2Proof.Machine
end

