-- ==== Sys2Proof/Machine/Window.lean ====
section
/-! DEFINITION. The list entries that open and close a receive window (R223, R292, R294). -/

namespace Sys2Proof.Machine

/-- The lowest free entry of the window table. -/
def freeEntry (s : State) : Option Nat := (List.range 256).find? fun i => s.windows.all (·.entry != i)

/-- WINDOW open: the tag must be free and the table must have room; the entry is taken and the header zeroed. -/
def startOpen (s : State) (sw : Nat) (c : Current) : State :=
  let e := c.img
  if s.windows.any (·.tag == eWtag e) then swFault s sw c.addr 0x06
  else match freeEntry s with
    | none => setSticky (swFault s sw c.addr 0x07) .window Sticky.win.OPEN_EXHAUSTED
    | some i =>
      let s := startEntry s sw c
      match memWrite s .linkReceiver (eOp0 e) 256 0 with
      | (s, .fault _ _) => finishInline s sw c 0x28
      | (s, .ok _) =>
        setStage { s with windows := s.windows ++ [{
          entry := i, tag := eWtag e, addr := eOp0 e, param := eOp2 e, len := eOp1 e, sw := sw
          live := false, closing := false, begun := [] }] } sw c .opening

/-- The entry is a WINDOW of the given SUBOP; entries of the other have another command. -/
def windowEntry (s : State) (sw : Nat) (close : Bool) (body : State → Nat → Current → State) : State :=
  if (stair s sw).cur.any fun c => eClose c.img == close then beginEntry s sw 0x09 body else s

def execWindowOpen (sw : Fin 16) (s : State) : Host.Outcome State Fault Refusal := .next (windowEntry s sw false startOpen)

/-- WINDOW_OPEN_DONE: the header writes are accepted; the window is open and the entry completes. -/
def execWindowOpenDone (sw : Fin 16) (s : State) : Host.Outcome State Fault Refusal :=
  match (stair s sw).cur with
  | some c =>
    if c.stage = .opening then
      let up (w : Window) : Window := if w.tag = eWtag c.img then { w with live := true } else w
      .next (finishInline { s with windows := s.windows.map up } sw c 0)
    else .next s
  | none => .next s

/-- A send that arrives for a window that closes: its later flits are dropped, and it is refused (R305). One that is dropped
already goes on to its end: an abort that waits for its writes is answered after them (R290, R306). -/
def closeReceive (s : State) (l c entry : Nat) : State :=
  match (chan s l c).receive with
  | some r =>
    if r.entry = entry ∧ !r.drop then
      let s := creditBack s l c (heldEnd r)
      settleChannel (setReceive (respond s l c 0x40) l c
        (some { r with drop := true, answered := true, closing := none })) l c
    else s
  | none => s

/-- WINDOW close: at the table in one handshake (R294). -/
def startClose (s : State) (sw : Nat) (c : Current) : State :=
  match findWindow s (eWtag c.img) with
  | none => swFault s sw c.addr 0x06
  | some w =>
    let s := setStage (startEntry s sw c) sw c .closing
    let s := updWindow s w.entry fun w => { w with closing := true }
    (List.range 9).foldl (fun s l => (List.range 16).foldl (fun s k => closeReceive s l k w.entry) s) s

def execWindowClose (sw : Fin 16) (s : State) : Host.Outcome State Fault Refusal := .next (windowEntry s sw true startClose)

/-- Writes accepted for a window wait on some link (R294). -/
def windowPending (s : State) (entry : Nat) : Bool :=
  s.links.any fun k => k.2.channels.any fun x => x.2.receive.any fun r => r.entry == entry && !r.writes.isEmpty

/-- WINDOW_CLOSE_DONE: no link holds a write for the window. -/
def execWindowCloseDone (sw : Fin 16) (s : State) : Host.Outcome State Fault Refusal :=
  match (stair s sw).cur with
  | some c =>
    match s.windows.find? fun w => w.tag == eWtag c.img && w.closing with
    | some w =>
      if c.stage = .closing ∧ !windowPending s w.entry then
        .next (finishInline { s with windows := s.windows.filter (·.entry != w.entry) } sw c 0)
      else .next s
    | none => .next s
  | none => .next s

/-- WINDOW_CLOSE_TIMEOUT: the pending flits of a link that is not back, for windows that close, are discarded. -/
def execWindowCloseTimeout (l : Fin 8) (s : State) : Host.Outcome State Fault Refusal :=
  if retires s l then .next s
  else
    .next ((List.range 16).foldl (fun s c =>
      match (chan s l c).receive with
      | some r =>
        if s.windows.any fun w => w.entry == r.entry && w.closing then
          settleChannel (setReceive (discardFlits s l c r.writes.length) l c (some { r with writes := [] })) l c
        else s
      | none => s) s)

end Sys2Proof.Machine
end

