-- ==== Sys2Proof/Machine/Kill.lean ====
section
/-! DEFINITION. The start of an entry that waited (R216), KILL and its scrub (R230 to R232). -/

namespace Sys2Proof.Machine

/-! ### ENTRY_START_AFTER_WAIT (R216) -/

/-- The entry the stairwell is at starts, by its opcode. -/
def startByOpcode (s : State) (sw : Nat) (c : Current) : State :=
  match eOpcode c.img with
  | 0x01 => startJob s sw c
  | 0x02 => startFence s sw c
  | 0x03 => startWait s sw c
  | 0x04 => startWrite s sw c
  | 0x05 => startSignal s sw c
  | 0x06 | 0x07 => startMove 0 s sw c
  | 0x08 => startFlush s sw c
  | 0x09 => if eClose c.img then startClose s sw c else startOpen s sw c
  | 0x0A => startReduce s sw c
  | 0x0B => startJump s sw c
  | 0x0C => startHalt s sw c
  | _ => s

/-- ENTRY_START_AFTER_WAIT: what the entry waited for has come. -/
def execEntryStartAfterWait (sw : Fin 16) (s : State) : Host.Outcome State Fault Refusal :=
  match (stair s sw).cur with
  | some c =>
    if (stair s sw).state = .running ∧ (c.stage = .waitPrior ∨ c.stage = .waitSlot)
        ∧ (entryWait (stair s sw) c.img).isNone then .next (startByOpcode s sw c)
    else .next s
  | none => .next s

/-! ### KILL (R230, R232) -/

/-- What KILL does to a tracked entry; one that waits on a read of host memory stops when that read returns. -/
def killSlot (sw : Nat) (s : State) (e : Nat × Tracked) : State :=
  let slot := e.1
  match e.2.body with
  | .descriptor => if isHost (eOp0 e.2.img) then markKilled s sw slot else endEntry s sw slot 0x30 0 0
  | .offered _ => endEntry s sw slot 0x30 0 0
  | .issued => endJob s sw slot 0x30
  | .moving done asked pieces =>
    if hostSource e.2.img && pieces.isEmpty && decide (64 * done < asked) then markKilled s sw slot
    else endEntry s sw slot 0x30 0 done
  | .flushing _ => endEntry (dropWalks s sw slot) sw slot 0x30 0 0
  | .reducing b => killSend s sw slot b
  | .ended _ _ _ | .recording _ => s

/-- The entry the stairwell is at: a pending WAIT_WORD ends unsatisfied, WINDOW runs to its own end, and an entry
that has not started is not run. -/
def killCurrent (s : State) (sw : Nat) : State :=
  match (stair s sw).cur with
  | none => s
  | some c =>
    match c.stage with
    | .waiting => finishInline s sw c 0x30
    | .opening | .closing | .posting | .recording _ => s
    | .fetched | .waitPrior | .waitSlot => setStair s sw { stair s sw with cur := none }

/-- Galleries that hold a ticket of the stairwell and have begun to run it. -/
def runningGalleries (s : State) (sw : Nat) : List Nat :=
  (s.galleries.filter fun e => e.2.tickets.any fun t => t.sw == sw && hasRun e.2 t).map (·.1)

/-- Galleries that ran a ticket of an issued job of the stairwell. -/
def killedGalleries (s : State) (sw : Nat) : List Nat :=
  ((s.disp.jobs.filter (·.sw == sw)).flatMap Job.galleries ++ runningGalleries s sw).eraseDups

/-- KILL of a stairwell that is not idle. -/
def killStair (s : State) (sw : Nat) : State :=
  let s := wr (dropReads s sw) (swPage sw) Reg.hdr.FAULT_CODE
    (if (stair s sw).state = .faulted then 0 else rd s (swPage sw) Reg.hdr.FAULT_CODE)
  let s := killCurrent (setStair s sw { stair s sw with state := .killing, ahead := [] }) sw
  (stair s sw).slots.foldl (killSlot sw) s

/-- KILL is legal in this state (R209). -/
def killLegal (s : State) (sw : Nat) : Bool :=
  match (stair s sw).state with
  | .running | .waiting | .faulted => true
  | .idle | .killing => false

def execKill (sw : Fin 16) (s : State) : Host.Outcome State Fault Refusal :=
  .next (swCommand s sw 2 (if killLegal s sw then killStair s sw else stateErr s (swPage sw)))

/-! ### The scrub of a KILL (R231) -/

/-- A gallery stops fetching until it is scrubbed. -/
def beginScrub (s : State) (n : Nat) : State :=
  let x := gal s (n / 17) (n % 17)
  if x.scrub.isSome then s else setGal s (n / 17) (n % 17) { x with scrub := some .waiting }

/-- KILL with SCRUB: the galleries that ran a ticket of the killed jobs are scrubbed. -/
def killAndScrub (s : State) (sw : Nat) : State :=
  let gs := killedGalleries s sw
  let s := killStair s sw
  gs.foldl beginScrub (setStair s sw { stair s sw with scrubbing := gs })

/-- KILL_WITH_SCRUB. -/
def execKillWithScrub (sw : Fin 16) (s : State) : Host.Outcome State Fault Refusal :=
  .next (swCommand s sw 6 (if killLegal s sw then killAndScrub s sw else stateErr s (swPage sw)))

/-- Every memory and the flight and shadow registers filled with a 32-bit value (R231, R340); the weight registers stay. -/
def scrubMemories (x : Gallery) (v : Nat) : Gallery :=
  { (List.range 4).foldl (fun x m => fillMemory x m v) x with
    shadow := none, staged := none, flight := none, sampling := none, ring := []
    conversion := none, streamRows := [], regFill := v }

/-- Every orphan group closed, of any job (R231, R340). -/
def closeOrphans (x : Gallery) : Gallery :=
  ((x.groups.filter (·.phase == .orphan)).map Group.slot).foldl freeGroup x

/-- The stairwell whose KILL scrubs a gallery; the lowest of several. -/
def scrubbedBy (s : State) (n : Nat) : Option Nat :=
  (List.range 16).find? fun sw => (stair s sw).scrubbing.contains n

/-- SCRUB_FILL: the gallery has run its other tickets to their end, and no local operation runs (R246). -/
def execScrubFill (h : Fin 16) (g : Fin 17) (s : State) : Host.Outcome State Fault Refusal :=
  let x := gal s h g
  if x.scrub = some .waiting ∧ quiescent s h g ∧ x.op.isNone then
    let v := match scrubbedBy s (17 * h.val + g.val) with
      | some sw => rd s (swPage sw) Reg.sw.SCRUB_VALUE
      | none => 0
    .next (setGal s h g { scrubMemories x v with scrub := some .filled })
  else .next s

/-- SCRUB_FILL_DONE: the orphans close, and the gallery fetches again. -/
def execScrubFillDone (h : Fin 16) (g : Fin 17) (s : State) : Host.Outcome State Fault Refusal :=
  let x := gal s h g
  if x.scrub = some .filled then
    let s := setGal s h g { closeOrphans x with scrub := none }
    let done (w : Stairwell) : Stairwell := { w with scrubbing := w.scrubbing.filter (· != 17 * h.val + g.val) }
    .next { s with stairs := s.stairs.map fun e => (e.1, done e.2) }
  else .next s

/-- KILL_DONE: every entry has stopped, every record is written and every scrubbing gallery fetches again. -/
def execKillDone (sw : Fin 16) (s : State) : Host.Outcome State Fault Refusal :=
  let w := stair s sw
  if w.state = .killing ∧ w.slots.isEmpty ∧ w.cur.isNone ∧ w.scrubbing.isEmpty then
    .next (setSticky (setStair s sw { w with state := .idle }) (swPage sw) Sticky.sw.KILL_DONE)
  else .next s

end Sys2Proof.Machine
end

