-- ==== Sys2Proof/Machine/HostPort.lean ====
section
/-! DEFINITION. The attachment to the host die, but for register requests: OHT packets with their credits (R316 to
R319, R326), reads of host memory (R321 to R323, R403), the vector table (R324), and the modules of the
mainband (R313 to R315, R328). -/

namespace Sys2Proof.Machine

/-! ### Packets from the host (R316, R326) -/

/-- A packet can reach the device: the link is up and not retraining, and the device is out of reset. -/
def mainbandOpen (s : State) : Bool := linkUp s && !on s .hif Reg.hif.RETRAINING && !s.rst.held

/-- A packet of `units` units has arrived across the boundary (R27). -/
def countUnits (s : State) (units : Nat) : State := count (crossFifo s .hif units) .hif Reg.hif.UNITS_RX units

/-- A host packet beyond its credit is discarded (R326). -/
def overrun (s : State) : State :=
  setSticky (bump s .hif Reg.hif.CREDIT_OVERRUNS) .hif Sticky.hif.CREDIT_OVERRUN

/-- A host request executed under its credit: `body` is its effect; the room it took is then owed back,
unless the request reset the device. -/
def hostRequest (s : State) (posted nonposted units : Nat) (body : State → State) : State :=
  if !mainbandOpen s then s
  else
    let s := countUnits s units
    if 2048 < s.hif.hostPosted + posted ∨ 256 < s.hif.hostNonposted + nonposted then overrun s
    else
      let s := body { s with hif := { s.hif with
        hostPosted := s.hif.hostPosted + posted, hostNonposted := s.hif.hostNonposted + nonposted } }
      if linkUp s then
        { s with hif := { s.hif with
          owedPosted := s.hif.owedPosted + posted, owedNonposted := s.hif.owedNonposted + nonposted } }
      else s

/-- An aperture access is well formed: it lies in device memory and crosses no 4 KiB boundary (R317, R319). -/
def apertureLegal (a len : Nat) : Bool := decide (a < 2 ^ 40) && decide (a % 4096 + len ≤ 4096)

/-- Lengths that an OHT header can carry. -/
def ohtLength (len : Nat) : Bool := decide (1 ≤ len ∧ len ≤ 4096)

/-- APT_RD (R317, R319, R371). -/
def execAptRd (tag : BitVec 10) (addr : BitVec 64) (len : Nat) (s : State) : Host.Outcome State Fault Refusal :=
  if !ohtLength len then .next s
  else .next (hostRequest s 0 1 1 fun s =>
    if !ready s || !apertureLegal addr.toNat len then complete s tag.toNat 1 len none
    else match memRead s .host addr.toNat len with
      | (s, .ok v) => complete s tag.toNat 0 len (some v)
      | (s, .fault _ _) => complete s tag.toNat 2 len none)

/-- APT_WR (R317, R319, R371). -/
def execAptWr (addr : BitVec 64) (len : Nat) (value : Nat) (s : State) : Host.Outcome State Fault Refusal :=
  if !ohtLength len then .next s
  else
    let units := ceilDiv (32 + len) 128
    .next (hostRequest s units 0 units fun s =>
      if !ready s || !apertureLegal addr.toNat len then bump s .hif Reg.hif.UR_DISCARDS
      else match memWrite s .host addr.toNat len (value % 2 ^ (8 * len)) with
        | (s, .ok _) => s
        | (s, .fault _ _) => setSticky (bump s .hif Reg.hif.APT_WR_FAULTS) .hif Sticky.hif.APT_WR_FAULT)

/-- CREDIT: the host's grant; what waited for it leaves, and the entries whose writes those were go on (R323, R326). -/
def execCredit (posted nonposted : BitVec 32) (s : State) : Host.Outcome State Fault Refusal :=
  if !mainbandOpen s then .next s
  else
    let s := wr (countUnits s 1) .hif Reg.hif.HOST_CREDIT_SEEN 1
    .next (settleWrites (flushQueue
      (count (count s .hif Reg.hif.POSTED posted.toNat) .hif Reg.hif.NONPOSTED nonposted.toNat)) true)

/-- NOP: filler, not counted. -/
def execNop (s : State) : Host.Outcome State Fault Refusal := .next s

/-- The types of *OHT packet types*. -/
def packetTypes : List Nat := [0x00, 0x01, 0x02, 0x03, 0x04, 0x08, 0x11, 0x12, 0x13, 0x20]

/-- UNKNOWN_PACKET: discarded with the units that follow it, up to the next header (R317). -/
def execUnknownPacket (type : BitVec 8) (units : Nat) (s : State) : Host.Outcome State Fault Refusal :=
  if !mainbandOpen s || packetTypes.contains type.toNat then .next s
  else .next (setSticky (bump (countUnits s (max 1 units)) .hif Reg.hif.BAD_PACKETS) .hif Sticky.hif.BAD_PACKET)

/-! ### Reads of host memory (R321 to R323, R403) -/

/-- Reads that hold a tag. -/
def outstanding (s : State) : List HostRead := s.hif.reads.filter (·.tag.isSome)

/-- The lowest tag that no read holds and no timeout has retired. -/
def freeTag (s : State) : Option Nat :=
  (List.range 512).find? fun t => !s.hif.retired.contains t && s.hif.reads.all (·.tag != some t)

/-- The first read without a tag takes one. -/
def giveTag (t : Nat) : List HostRead → List HostRead × Option HostRead
  | [] => ([], none)
  | r :: rest =>
    if r.tag.isNone then ({ r with tag := some t } :: rest, some { r with tag := some t })
    else
      let x := giveTag t rest
      (r :: x.1, x.2)

/-- HOST_RD: the oldest waiting read is issued (R321); nothing leaves while the link is down (R328). -/
def execHostRd (s : State) : Host.Outcome State Fault Refusal :=
  match freeTag s with
  | none => .next s
  | some t =>
    match giveTag t s.hif.reads with
    | (_, none) => .next s
    | (rs, some r) =>
      let s := { s with hif := { s.hif with reads := rs } }
      .next (if linkUp s then transmit s (.hostRd t r.addr r.len) else s)

/-- The stairwell a read was issued for, and whether it was made for a LOAD. -/
def ReadFor.reader : ReadFor → Nat × Bool
  | .entry sw _ | .descriptor sw _ | .waitWord sw | .copy sw _ _ | .discarded sw => (sw, false)
  | .firmware _ => (0, true)

/-- The first failed read is latched and reported (R323, R386). -/
def latchHostRead (s : State) (r : HostRead) (kind : Nat) : State :=
  if on s .hif Reg.hif.FAULT_INFO_VALID then s
  else
    let s := wr (wr s .hif Reg.hif.FAULT_ADDR r.addr) .hif Reg.hif.FAULT_INFO_KIND kind
    let s := wr (wr s .hif Reg.hif.FAULT_INFO_STAIRWELL r.who.reader.1) .hif Reg.hif.FWLOAD r.who.reader.2.toNat
    latchFault (wr s .hif Reg.hif.FAULT_INFO_VALID 1) .hif (0x80 + kind) r.addr

/-! ### LOAD and SWITCH of firmware (R343, R355, R360) -/

/-- The next part of a firmware image is asked of the host (R403). -/
def askFirmware (s : State) (x : FwLoad) : State :=
  let a := hostAddr x.addr + x.got
  let n := min (x.len - x.got) (4096 - a % 4096)
  { s with
    hif := { s.hif with reads := s.hif.reads ++ [{ who := .firmware x.got, addr := a, len := n, tag := none }] }
    mc := { s.mc with load := some { x with asked := x.got + n } } }

/-- Image A or B. -/
def imageOfSlot (s : State) (b : Bool) : Image := if b then s.mc.imageB else s.mc.imageA

def setImage (s : State) (b : Bool) (x : Image) : State :=
  { s with mc := if b then { s.mc with imageB := x } else { s.mc with imageA := x } }

/-- The image that does not run. -/
def inactive (s : State) : Image := imageOfSlot s (!s.mc.activeB)

/-- A LOAD ends without an image: FW_REJECT, with the SEB's result code, and nothing in the inactive slot (R343). -/
def rejectLoad (s : State) (result : Nat) : State :=
  let s := setImage s (!s.mc.activeB) .none
  setSticky (wr { s with mc := { s.mc with load := none } } .seb Reg.seb.RESULT result) .mcService Sticky.mcs.FW_REJECT

/-- The SEB is busy: a command runs, or an image is being loaded. -/
def sebBusy (s : State) : Bool := s.seb.run.isSome || s.mc.load.isSome

/-- LOAD begins: the inactive image is invalid from here on, its bytes standing until the new ones replace them (R399),
and those are read. In recovery the SEB reads host memory only. -/
def startLoad (s : State) : State :=
  let a := rd s .mcService Reg.mcs.FW_ADDR
  let n := rd s .mcService Reg.mcs.FW_LEN
  let s := setImage { s with mc := { s.mc with previous := false } } (!s.mc.activeB) { inactive s with valid := false }
  if !cmdWithin a n || a % 64 ≠ 0 || (inRecovery s && !isHost a) then rejectLoad s 1
  else if n % 64 ≠ 0 ∨ n < 64 ∨ 4194304 < n then rejectLoad s 5
  else if isHost a then askFirmware s { addr := a, len := n, asked := 0, got := 0, bytes := 0 }
  else match memRead s .mc a n with
    | (s, .fault _ _) => rejectLoad s 7
    | (s, .ok v) => { s with mc := { s.mc with load := some { addr := a, len := n, asked := n, got := n, bytes := v } } }

/-- SWITCH is accepted: an image is staged and no repair runs; it waits for the job boundary (R343). -/
def startSwitch (s : State) (revert : Bool) : State :=
  if s.mc.switching = 0 ∧ (inactive s).valid ∧ (!revert || s.mc.previous) ∧ s.mc.repairing.isNone then
    { s with mc := { s.mc with switching := 1, reverting := revert } }
  else stateErr s .mcService

/-- LOAD while the SEB is idle; during a firmware switch it is not legal (R343). -/
def loadNow (s : State) : State := if s.mc.switching = 0 then startLoad s else stateErr s .mcService

/-- The FW_CMD commands that waited for the SEB, in order, until one of them makes it busy again. -/
def runHeld : Nat → State → State
  | 0, s => s
  | n + 1, s =>
    if sebBusy s then s
    else match s.mc.held with
      | [] => s
      | c :: rest =>
        let s := { s with mc := { s.mc with held := rest } }
        runHeld n (if c = 1 then loadNow s else startSwitch s false)

/-- What came back of a firmware read. -/
def firmwareArrives (s : State) (off : Nat) (got : Option Nat) : State :=
  match s.mc.load, got with
  | none, _ => s
  | some _, none => runHeld s.mc.held.length (rejectLoad s 7)
  | some x, some v =>
    let y := { x with got := x.asked, bytes := x.bytes + v * 2 ^ (8 * off) }
    let s := { s with mc := { s.mc with load := some y } }
    if y.got < y.len then askFirmware s y else s

/-- What came back of a read reaches the work it was made for; none for a failure (R323). -/
def deliver (s : State) (who : ReadFor) (got : Option Nat) : State :=
  let f := match got with
    | some v => Fetched.data v
    | none => Fetched.failed
  match who with
  | .entry sw a => entryArrives s sw a f
  | .descriptor sw slot => descriptorArrives s sw slot got
  | .waitWord sw => match (stair s sw).wait with
    | some w => setWait s sw { w with word := f }
    | none => s
  | .copy sw slot off => pieceArrives s sw slot off got
  | .firmware off => firmwareArrives s off got
  | .discarded _ => s

/-- The read that holds a tag leaves the list. -/
def dropRead (s : State) (t : Nat) : State :=
  { s with hif := { s.hif with reads := s.hif.reads.filter (·.tag != some t) } }

/-- A completion that answers no read is discarded (R321). -/
def badCpl (s : State) : State := setSticky (bump s .hif Reg.hif.BAD_CPL) .hif Sticky.hif.BAD_CPL

/-- FAULT_INFO.KIND of a completion's STATUS; 4 and more are read as CA. -/
def failKind (status : Nat) : Nat := if status = 1 then 1 else if status = 3 then 3 else 2

/-- CPL: the answer to the read that holds the tag, or discarded (R321, R322). -/
def execCpl (tag : BitVec 10) (status : BitVec 4) (len : Nat) (value : Nat) (s : State) : Host.Outcome State Fault Refusal :=
  if !mainbandOpen s || !ohtLength len then .next s
  else
    let s := countUnits s (if status = 0 then ceilDiv (32 + len) 128 else 1)
    match s.hif.reads.find? fun r => r.tag == some tag.toNat with
    | some r =>
      if r.len ≠ len then .next (badCpl s)
      else
        let s := dropRead s tag.toNat
        if status = 0 then .next (deliver s r.who (some (value % 2 ^ (8 * len))))
        else .next (deliver (latchHostRead s r (failKind status.toNat)) r.who none)
    | none => if s.hif.retired.contains tag.toNat then .next (bump s .hif Reg.hif.LATE_CPL) else .next (badCpl s)

/-- The HOST_RD of a tag has yet to enter the stream, so that its timer does not run (R322). -/
def readWaits (s : State) (tag : Nat) : Bool := s.hif.queued.any fun q => match q.packet with
  | .hostRd t _ _ => t == tag
  | _ => false

/-- CPL_TIMEOUT: the read fails, and its tag stays retired (R322). -/
def execCplTimeout (tag : Fin 512) (s : State) : Host.Outcome State Fault Refusal :=
  match s.hif.reads.find? fun r => r.tag == some tag.val && !readWaits s tag with
  | some r =>
    let s := dropRead s tag
    let s := { s with hif := { s.hif with retired := tag :: s.hif.retired } }
    let s := setSticky (bump s .hif Reg.hif.CPL_TIMEOUTS) .hif Sticky.hif.CPL_TIMEOUT
    .next (deliver (latchHostRead s r 0) r.who none)
  | none => .next s

/-- RETIRED_TAG_RELEASE: a further CPL_TIMEOUT_US has passed (R322). -/
def execRetiredTagRelease (tag : Fin 512) (s : State) : Host.Outcome State Fault Refusal :=
  .next { s with hif := { s.hif with retired := s.hif.retired.filter (· != tag.val) } }

/-! ### The vector table (R324) -/

/-- A write of a vector's MASK: clearing it sends the message that is pending. -/
def writeVecCtrl (s : State) (v : Nat) (mask : Bool) : State :=
  let s := wr s .hif (Reg.hif.VEC_CTRL_MASK v) mask.toNat
  if !mask && on s .hif (Reg.hif.VEC_CTRL_PENDING v) then
    signal (wr s .hif (Reg.hif.VEC_CTRL_PENDING v) 0) v
  else s

/-- VEC_CTRL_WRITE; a signal in the same handshake comes after the write. -/
def execVecCtrlWrite (v : Fin 64) (mask : Bool) (signalled : Bool) (s : State) : Host.Outcome State Fault Refusal :=
  if s.rst.held then .next s
  else
    let s := ifPermitted s .mainband .hif (0x40C + 16 * v.val) mask.toNat (writeVecCtrl s v mask)
    .next (if signalled then signal s v else s)

/-! ### The mainband (R313 to R315, R328) -/

def moduleActive (s : State) (m : Nat) : Bool := bit (rd s .hif Reg.hif.ACTIVE_MASK) m

/-- A retrain starts; one that runs already goes on. -/
def startRetrain (s : State) : State :=
  if on s .hif Reg.hif.RETRAINING then s
  else bump (wr s .hif Reg.hif.RETRAINING 1) .hif Reg.hif.RETRAINS

/-- UCIE_MODULE_LOSS (R314). -/
def execUcieModuleLoss (m : Fin 16) (s : State) : Host.Outcome State Fault Refusal :=
  if moduleActive s m ∧ !on s .hif Reg.hif.RETRAINING then
    let s := { s with hif := { s.hif with lost := s.hif.lost ||| 2 ^ m.val } }
    .next (setSticky (startRetrain s) .hif Sticky.hif.MODULE_LOST)
  else .next s

/-- MODULE_CRC_THRESHOLD: the module's count has reached the threshold (R315). -/
def execModuleCrcThreshold (m : Fin 16) (s : State) : Host.Outcome State Fault Refusal :=
  if moduleActive s m ∧ !on s .hif Reg.hif.RETRAINING then
    let n := atLeastOne (rd s .hif Reg.hif.LANE_ERR_THRESHOLD)
    .next (startRetrain { s with hif := { s.hif with crc := NatMap.set s.hif.crc m n } })
  else .next s

/-- HIF_RETRAIN: the host retrains every enabled module (R328, R332). -/
def execHifRetrain (s : State) : Host.Outcome State Fault Refusal :=
  .next (ifPermitted s .mainband .hif 0x04C 1 (if phaseAtLeast s 2 then startRetrain s else s))

/-- A posted packet that waited is lost as the link falls; a completion record lost so sets RECORD_LOST (R328). -/
def losePacket (s : State) (q : Queued) : State :=
  if !q.packet.posted then s
  else
    let s := setSticky (bump s .hif Reg.hif.TX_DISCARDS) .hif Sticky.hif.LINK_DOWN
    match q.owner with
    | some o => if o.record then setSticky s (swPage o.sw) Sticky.sw.RECORD_LOST else s
    | none => s

/-- No module is active: the link is down (R328), and the entries whose writes waited go on. -/
def linkFalls (s : State) : State :=
  let q := s.hif.queued
  let s := setSticky { s with hif := { s.hif with queued := [] } } .hif Sticky.hif.LINK_DOWN
  settleWrites (q.foldl losePacket s) false

/-- The link comes up: every credit resets, and units count from 0 (R313, R326). -/
def linkRises (s : State) : State :=
  let s := wr (wr (wr s .hif Reg.hif.POSTED 0) .hif Reg.hif.NONPOSTED 0) .hif Reg.hif.HOST_CREDIT_SEEN 0
  { s with hif := { s.hif with
    hostPosted := 0, hostNonposted := 0, owedPosted := 0, owedNonposted := 0, queued := [], unitNo := 0 } }

/-- The lowest module whose sideband has trained and not failed since; 16 when there is none (R391). -/
def nextSideband (up : Nat) (lost : List Nat) : Nat := ((List.range 16).find? fun m => bit up m && !lost.contains m).getD 16

/-- Sidebands have trained: the lowest module whose sideband works answers (R391). -/
def trainSidebands (s : State) (mask : Nat) : State :=
  let up := s.hif.sidebandUp ||| mask
  let lost := s.hif.sidebandLost.filter fun m => !bit mask m
  { s with hif := { s.hif with sidebandUp := up, sidebandLost := lost, sidebandModule := nextSideband up lost } }

/-- Modules that were active and enabled, and are missing from the new active set. -/
def missing (old enable new : Nat) : Nat := (old &&& enable) - (old &&& enable &&& new)

/-- A retrain leaves out active modules: MODULE_LOST is set for those whose loss has not set it, and the MC is told
(R314, R344). -/
def noteMissing (s : State) (gone : Nat) : State :=
  let s := if gone - (gone &&& s.hif.lost) = 0 then s else setSticky s .hif Sticky.hif.MODULE_LOST
  let s := { s with hif := { s.hif with lost := 0 } }
  if gone = 0 then s else repairEvent s .report

/-- UCIE_RETRAIN_DONE: a training ends with the modules that reached their active state, and those whose sidebands have
trained (R313 to R315, R391). -/
def execUcieRetrainDone (modules : ModuleTraining) (repaired : Bool) (s : State) : Host.Outcome State Fault Refusal :=
  if !on s .hif Reg.hif.RETRAINING then .next s
  else
    let enable := rd s .hif Reg.hif.MODULE_ENABLE
    let gone := missing (rd s .hif Reg.hif.ACTIVE_MASK) enable modules.active.toNat
    let new := modules.active.toNat &&& enable
    let was := linkUp s
    let again := s.hif.trained
    let s := wr (wr s .hif Reg.hif.RETRAINING 0) .hif Reg.hif.ACTIVE_MASK new
    let s := wr s .hif Reg.hif.HIF_STATE_UP (if new = 0 then 0 else 1)
    let s := trainSidebands { s with hif := { s.hif with crc := [], trained := true } } modules.sidebands.toNat
    let s := if again && repaired then setSticky s .hif Sticky.hif.LANE_REPAIRED else s
    let s := noteMissing s gone
    if new = 0 then .next (if was then linkFalls s else s)
    else if was then .next (settleWrites (flushQueue s) true) else .next (linkRises s)

end Sys2Proof.Machine
end

