-- ==== Sys2Proof/Machine/Service.lean ====
section
/-! DEFINITION. Service in operation: the fault concentrator (R333 to R335), gallery faults and commands (R336,
R339, R340), hall retirement (R341), automatic repair (R344, R345) and firmware exchange (R343, R354, R355). -/

namespace Sys2Proof.Machine

/-! ### Fault concentrator -/

/-- Reports that arrive in one handshake, in ascending SOURCE (R334). -/
def enterReports (s : State) (rs : List Report) : State :=
  (rs.mergeSort fun a b => decide (a.source.toNat ≤ b.source.toNat)).foldl
    (fun s r => fcEnter s r.source.toNat r.code.toNat r.detail.toNat) s

/-- FC_REPORT. -/
def execFcReport (reports : List Report) (s : State) : Host.Outcome State Fault Refusal := .next (enterReports s reports)

/-- CLEAR_TABLE; reports of the same handshake enter the emptied table (R335). -/
def execClearTable (reports : List Report) (s : State) : Host.Outcome State Fault Refusal :=
  .next (enterReports (ifPermitted s .mainband .fc 0x044 1 (wr { s with fc := [] } .fc Reg.fc.OVERFLOW_REPORTS 0)) reports)

/-! ### Gallery faults and commands (R336, R339, R340) -/

def faultCode : GalleryFault → Nat
  | .treadHang => 1
  | .portHang => 2
  | .logicCheck => 3

/-- TREAD_WATCHDOG_EXPIRY; a tread hangs only in a flight. -/
def execTreadWatchdogExpiry (h : Fin 16) (g : Fin 17) (k : GalleryFault) (s : State) : Host.Outcome State Fault Refusal :=
  if !ready s || (k == .treadHang && (gal s h g).flight.isNone) then .next s
  else .next (galleryFault s h g (faultCode k))

/-- The gallery fetches, or is kept from fetching only by a scrub that runs (R347). -/
def drainLegal (s : State) (h g : Nat) : Bool :=
  !(gal s h g).faulted && !quiesced s h g && !outOfService s h g && (logicalOf s h g).isSome

/-- The gallery runs its tickets to their end after a DRAIN. -/
def draining (s : State) (h g : Nat) : Bool :=
  quiesced s h g && !(gal s h g).faulted && !quiescent s h g

/-- The gallery has stopped: quiesced and quiescent, or faulted. -/
def stopped (s : State) (h g : Nat) : Bool := (quiesced s h g && quiescent s h g) || (gal s h g).faulted

/-- A GALLERY_CMD of the hall page. -/
def galleryCmd (s : State) (h g cmd : Nat) (body : State) : State :=
  ifPermitted s .mainband (hallPage h) 0x048 (g + cmd * 2 ^ 5) body

/-- A write of CONTROL of a gallery. -/
def galleryControl (s : State) (h g word : Nat) (body : State) : State :=
  ifPermitted s .mainband (arrPage h g) 0x00C word body

/-- A command that is not legal: STATE_ERR in the hall page. -/
def hallErr (s : State) (h : Nat) : State := stateErr s (hallPage h)

/-- The gallery stops fetching; GALLERY_QUIESCENT follows. -/
def drainGallery (s : State) (h g : Nat) : State :=
  setQuiesce (setGal s h g { gal s h g with busy := true }) h g 1

/-- DRAIN. -/
def doDrain (s : State) (h g : Nat) : State := if drainLegal s h g then drainGallery s h g else hallErr s h

def execDrain (h : Fin 16) (g : Fin 17) (s : State) : Host.Outcome State Fault Refusal :=
  .next (galleryCmd s h g 1 (doDrain s h g))

/-- ABANDON. -/
def doAbandon (s : State) (h g : Nat) : State :=
  if drainLegal s h g || draining s h g then returnTickets (drainGallery s h g) h g false else hallErr s h

def execAbandon (h : Fin 16) (g : Fin 17) (s : State) : Host.Outcome State Fault Refusal :=
  .next (galleryCmd s h g 2 (doAbandon s h g))

/-- SWAP is legal (*Gallery commands*, R246). -/
def swapLegal (s : State) (h g t : Nat) : Bool :=
  (quiescent s h g || (gal s h g).faulted) && (logicalOf s h g).isSome && (gal s h g).op.isNone && decide (t < 17)
    && quiescent s h t && !(gal s h t).faulted && (logicalOf s h t).isNone && (gal s h t).op.isNone

/-- A logical number moves to another physical gallery; the move is recorded (R340, R345). -/
def doSwap (s : State) (h g t : Nat) : State :=
  match logicalOf s h g with
  | none => s
  | some i =>
    let s := wr s (hallPage h) (Reg.hall.REMAP i) t
    let s := wr s (arrPage h g) (Reg.hdr.OUT_OF_SERVICE (arrPage h g)) 1
    let s := wr s (arrPage h t) (Reg.hdr.OUT_OF_SERVICE (arrPage h t)) 0
    let s := bump (setQuiesce s h t 0) (hallPage h) Reg.hall.SWAPS
    recordRepair (setSticky s (hallPage h) Sticky.hall.SWAP_DONE) 1 h (i + t * 2 ^ 8) 0 0

/-- SWAP. -/
def execSwap (h : Fin 16) (g : Fin 17) (target : Fin 32) (s : State) : Host.Outcome State Fault Refusal :=
  .next (galleryCmd s h g 3 (if swapLegal s h g target then doSwap s h g target else hallErr s h))

/-- RESUME. -/
def doResume (s : State) (h g : Nat) : State :=
  if stopped s h g && (logicalOf s h g).isSome && (gal s h g).op.isNone then resumeGallery s h g else hallErr s h

def execGalleryResume (h : Fin 16) (g : Fin 17) (s : State) : Host.Outcome State Fault Refusal :=
  .next (galleryCmd s h g 4 (doResume s h g))

/-- QUIESCE_SET: a CONTROL write that changes QUIESCE from 0 to 1. -/
def execQuiesceSet (h : Fin 16) (g : Fin 17) (s : State) : Host.Outcome State Fault Refusal :=
  .next (galleryControl s h g 3 (if quiesced s h g then s else doDrain s h g))

/-- QUIESCE_CLEAR: one that changes it from 1 to 0. -/
def execQuiesceClear (h : Fin 16) (g : Fin 17) (s : State) : Host.Outcome State Fault Refusal :=
  .next (galleryControl s h g 1 (if quiesced s h g then doResume s h g else s))

/-- GALLERY_SCRUB (R340, R385, R246). -/
def execGalleryScrub (h : Fin 16) (g : Fin 17) (s : State) : Host.Outcome State Fault Refusal :=
  .next (galleryControl s h g 5 (if quiescent s h g && outOfService s h g && (gal s h g).op.isNone then
      setGal s h g (closeOrphans (scrubMemories (gal s h g) 0))
    else stateErr s (arrPage h g)))

/-- GALLERY_QUIESCENT. -/
def execGalleryQuiescent (h : Fin 16) (g : Fin 17) (s : State) : Host.Outcome State Fault Refusal :=
  if (gal s h g).busy && quiescent s h g then
    .next (setSticky (setGal s h g { gal s h g with busy := false }) (hallPage h) Sticky.hall.QUIESCE_DONE)
  else .next s

/-! ### Hall retirement (R341) -/

/-- The hall enters RETIRING, and every gallery that fetches receives DRAIN. -/
def beginRetire (s : State) (h : Nat) : State :=
  let s := wr s (hallPage h) Reg.hall.RETIRING 1
  (List.range 17).foldl (fun s g => if drainLegal s h g then drainGallery s h g else s) s

/-- HALL_RETIRE. -/
def execHallRetire (h : Fin 16) (s : State) : Host.Outcome State Fault Refusal :=
  .next (ifPermitted s .mainband (hallPage h) 0x044 1 (if hallOut s h then hallErr s h else beginRetire s h))

/-- Every line of a hall cache is written back and dropped, and the cache enters bypass (R257, R341). -/
def emptyCache (s : State) (h : Nat) : State :=
  wr ((cache s h).lines.foldl (fun s x => retireLine s h x) s) (hcPage h) Reg.hc.WAY_DISABLE (2 ^ 24 - 1)

/-- HALL_RETIRE_FLUSH: every gallery is quiescent or faulted, and the dresser holds no ticket. -/
def execHallRetireFlush (h : Fin 16) (s : State) : Host.Outcome State Fault Refusal :=
  if on s (hallPage h) Reg.hall.RETIRING && !(cache s h).walks.contains .retire
      && (List.range 17).all (fun g => quiescent s h g || (gal s h g).faulted) && (NatMap.get? s.dressers h.val).isNone then
    let s := emptyCache s h
    .next (setCache s h { cache s h with walks := (cache s h).walks ++ [.retire] })
  else .next s

/-- A hall is RETIRED: its galleries leave service and its logical numbers are vacant. -/
def retireHall (s : State) (h : Nat) : State :=
  let s := wr (wr s (hallPage h) Reg.hall.RETIRING 0) (hallPage h) Reg.hall.RETIRED 1
  let s := (List.range 16).foldl (fun s i => wr s (hallPage h) (Reg.hall.REMAP i) 31) s
  (List.range 17).foldl (fun s g => wr s (arrPage h g) (Reg.hdr.OUT_OF_SERVICE (arrPage h g)) 1) s

/-- HALL_RETIRE_DONE. -/
def execHallRetireDone (h : Fin 16) (s : State) : Host.Outcome State Fault Refusal :=
  if (cache s h).walks.contains .retire then
    let s := setCache s h { cache s h with walks := (cache s h).walks.filter (· != .retire) }
    .next (recordRepair (setSticky (retireHall s h) (hallPage h) Sticky.hall.RETIRE_DONE) 2 h 0 0 0)
  else .next s

/-! ### Automatic repair (R344) -/

def repairNeeded (s : State) : State := setSticky s .mcService Sticky.mcs.REPAIR_NEEDED

/-- The lowest quiescent, unfaulted gallery of a hall without a logical number (HALL_STATE.SPARE). -/
def spareGallery (s : State) (h : Nat) : Option Nat :=
  (List.range 17).find? fun g => quiescent s h g && !(gal s h g).faulted && (logicalOf s h g).isNone

/-- A stopped gallery is swapped for its hall's spare, or the host is asked. -/
def swapToSpare (s : State) (h g : Nat) : State :=
  match spareGallery s h with
  | some t => if swapLegal s h g t then doSwap s h g t else repairNeeded s
  | none => repairNeeded s

def setRepairing (s : State) (r : Option RepairStep) : State := { s with mc := { s.mc with repairing := r } }

/-- The MC's response to one event. -/
def respondRepair (s : State) (e : RepairEvent) : State :=
  match e with
  | .galleryFault h g =>
    if hallOut s h || !(gal s h g).faulted || (logicalOf s h g).isNone then s
    else if on s .mcService Reg.mcs.AUTO_SWAP then swapToSpare s h g
    else repairNeeded s
  | .rowQueued h g =>
    if !(gal s h g).rowQueue.any (spareFree (gal s h g)) then s
    else if on s .mcService Reg.mcs.AUTO_ROW then
      let drain := drainLegal s h g
      setRepairing (if drain then drainGallery s h g else s) (some (.rows h g drain))
    else repairNeeded s
  | .spareExhausted h g =>
    if hallOut s h || (logicalOf s h g).isNone then s
    else if !on s .mcService Reg.mcs.AUTO_SWAP || (spareGallery s h).isNone then repairNeeded s
    else setRepairing (if drainLegal s h g then drainGallery s h g else s) (some (.swapOut h g))
  | .wayErrors h w =>
    if !wayOn s h w then s
    else if on s .mcService Reg.mcs.AUTO_WAY then setWays s h (rd s (hcPage h) Reg.hc.WAY_DISABLE ||| 2 ^ w)
    else repairNeeded s
  | .unswappable h => if hallOut s h then s else repairNeeded s
  | .report => repairNeeded s

/-- A way can be disabled only when no walk runs in its hall cache (R257). -/
def repairBlocked (s : State) : RepairEvent → Bool
  | .wayErrors h _ => walking s h
  | _ => false

/-- One step of the MC's repairs: the running repair goes on, or the next event is answered. -/
def repairStep (s : State) : State :=
  match s.mc.repairing with
  | some (.rows h g _) => endRowRepair s h g
  | some (.swapOut h g) =>
    if hallOut s h then setRepairing s none
    else if stopped s h g ∧ (gal s h g).op.isNone then swapToSpare (setRepairing s none) h g
    else s
  | none =>
    match s.mc.repairs with
    | [] => s
    | e :: rest => if repairBlocked s e then s else respondRepair { s with mc := { s.mc with repairs := rest } } e

/-- AUTO_REPAIR; repair is suspended while the firmware is exchanged (R343). -/
def execAutoRepair (s : State) : Host.Outcome State Fault Refusal := if mcRuns s then .next (repairStep s) else .next s

/-! ### Firmware images (R354, R355) -/

/-- A key slot is valid and unrevoked, and its fused digest is that of the key (R352). -/
def keyOk (s : State) (slot : Nat) (modulus exponent : List Nat) : Bool :=
  decide (slot < 4) && bit s.seb.keyValid slot && !bit s.seb.keyRevoked slot
    && NatMap.get? s.seb.keyDigest slot == some (osToNat (sha256 (modulus ++ exponent)))

/-- Image digest: header bytes 0x000 to 0x1BF, then the body. -/
def imageDigest (x : Image) : List Nat := sha256 (octets x.bytes 0 0x1C0 ++ octets x.bytes 1024 (x.len - 1024))

def imageVersion (x : Image) : Nat := fieldAt x.bytes 4 2
def imageSvn (x : Image) : Nat := fieldAt x.bytes 6 1

/-- What the SEB's checks make of an image: 0, or the reject code of the first that fails (R354). -/
def imageVerdict (s : State) (x : Image) : Nat :=
  let b := x.bytes
  if fieldAt b 0 4 ≠ 1 ∨ fieldAt b 0x10 48 ≠ 0 ∨ fieldAt b 0x340 192 ≠ 0 then 5
  else if 1024 + fieldAt b 8 4 ≠ x.len then 5
  else if !keyOk s (fieldAt b 7 1) (octets b 0x40 384) (octets b 0x0C 4) then 3
  else if imageSvn x < s.seb.svnFused then 4
  else if !pssVerify (octets b 0x40 384) (octets b 0x0C 4) (octets b 0x1C0 384) (imageDigest x) then 2
  else 0

/-- An image runs from now on, and is the one to boot (R355). -/
def runImage (s : State) (b : Bool) : State :=
  { s with
    mc := { s.mc with activeB := b }
    seb := { s.seb with bootB := b, fwDigest := osToNat (imageDigest (imageOfSlot s b)) } }

/-- A FW_CMD, by its number; LOAD and SWITCH wait while the SEB is busy (R360). -/
def fwCommand (s : State) (cmd : Nat) (body : State) : State :=
  ifPermitted s .mainband .mcService 0x054 cmd
    (if cmd ≠ 3 ∧ sebBusy s then { s with mc := { s.mc with held := s.mc.held ++ [cmd] } } else body)

/-- LOAD. -/
def execLoad (s : State) : Host.Outcome State Fault Refusal := .next (fwCommand s 1 (loadNow s))

/-- SWITCH. -/
def execSwitch (s : State) : Host.Outcome State Fault Refusal := .next (fwCommand s 2 (startSwitch s false))

/-- REVERT. -/
def execRevert (s : State) : Host.Outcome State Fault Refusal := .next (fwCommand s 3 (startSwitch s true))

/-- An image or a token has failed verification (R366, R367). -/
def verifyFail (s : State) : State := setSticky (bump s .seb Reg.seb.VERIFY_FAILS) .seb Sticky.seb.VERIFY_FAIL

/-- IMAGE_VERIFY_DONE: the image of a LOAD is staged or rejected; in recovery it starts at once, and the sequence
goes on at MC_INIT (R343, R354, R355, R370). -/
def execImageVerifyDone (s : State) : Host.Outcome State Fault Refusal :=
  match s.mc.load with
  | none => .next s
  | some x =>
    if x.got < x.len then .next s
    else
      let b := !s.mc.activeB
      let img : Image := { bytes := x.bytes, len := x.len, valid := true }
      let code := imageVerdict s img
      if code ≠ 0 then .next (runHeld s.mc.held.length (verifyFail (rejectLoad s code)))
      else
        let s := wr { setImage s b img with mc := { (setImage s b img).mc with load := none } } .seb Reg.seb.RESULT 0
        if inRecovery s then
          let s := wr (wr (runImage s b) .reset Reg.rst.RECOVERY 0) .seb Reg.seb.RECOVERY 0
          .next (runHeld s.mc.held.length (wr s .reset Reg.rst.PHASE 3))
        else .next (runHeld s.mc.held.length (setSticky s .mcService Sticky.mcs.FW_STAGED))

/-- FW_SWITCH_BEGIN: the job boundary. -/
def execFwSwitchBegin (s : State) : Host.Outcome State Fault Refusal :=
  if s.mc.switching = 1 then .next { s with mc := { s.mc with switching := 2 } } else .next s

/-- FW_READY: the new image runs; the one before it is the previous image. -/
def execFwReady (s : State) : Host.Outcome State Fault Refusal :=
  if s.mc.switching = 2 then
    let s := runImage s (!s.mc.activeB)
    let s := { s with mc := { s.mc with switching := 0, reverting := false, previous := true } }
    .next (setSticky s .mcService Sticky.mcs.FW_SWITCHED)
  else .next s

/-- FW_READY_TIMEOUT: the previous image runs again, and the new one is invalid. -/
def execFwReadyTimeout (s : State) : Host.Outcome State Fault Refusal :=
  if s.mc.switching = 2 then
    let b := !s.mc.activeB
    let s := setImage s b { imageOfSlot s b with valid := false }
    let s := { s with mc := { s.mc with switching := 0, reverting := false } }
    .next (setSticky s .mcService Sticky.mcs.FW_REVERTED)
  else .next s

end Sys2Proof.Machine
end

