-- ==== Sys2Proof/Machine/Reset.lean ====
section
/-! DEFINITION. Reset and bring-up: the triggers and their release (R368, R369, R378, R394, R401) and the phases of the
sequence with the repair record's restoration and the self-test (R370 to R377). -/

namespace Sys2Proof.Machine

/-! ### JTAG instructions by lifecycle state (R363, R395, R401) -/

/-- A JTAG instruction is available (*Access by lifecycle state*). -/
def jtagPermits (s : State) : JtagInstr → Bool
  | .idcode | .bypass => true
  | .boundaryScan => s.seb.state == 0 || s.seb.state == 1
  | .internalScan | .testRegister => s.seb.state == 0 || (s.seb.state == 3 && bit s.seb.debugMask 0)
  | .other => s.seb.state == 0

/-- The instruction that an update selects: BYPASS in place of one that is not available. -/
def jtagSelect (s : State) (i : JtagInstr) : JtagInstr := if jtagPermits s i then i else .bypass

/-- What IDCODE reads (R395). -/
def jtagIdcode : Nat := 0x10A11B87

/-- The straps as boundary scan shows them. DESIGN CHOICE: the order of their cells (assumption 110). -/
def strapBits (x : Straps) : Nat := x.pmaddr.toNat + x.refterm.toNat * 2 ^ 3 + x.testEn.toNat * 2 ^ 4

/-- What the data register of an instruction captures; for one whose register the manual does not describe, a free
value. -/
def jtagCapture (s : State) : JtagInstr → Nat
  | .idcode => jtagIdcode
  | .bypass => 0
  | .boundaryScan => strapBits s.rst.straps
  | .internalScan | .testRegister | .other => Config.free s.drawn

/-- An instruction is selected, with its data register. -/
def selectJtag (s : State) (i : JtagInstr) : State :=
  let j := jtagSelect s i
  { s with jtag := { s.jtag with instr := j, dr := jtagCapture s j }, drawn := s.drawn + 1 }

/-! ### Triggers (R368, R369, R376) -/

/-- The code of a cause (*Reset triggers*). -/
def causeCode : ResetCause → Nat
  | .powerOn => 1
  | .pin => 2
  | .host => 3
  | .sag => 4
  | .thermal _ => 5

/-- The halls whose sensors have triggered. -/
def causeHalls (cs : List ResetCause) : List Nat :=
  cs.filterMap fun c => match c with
    | .thermal h => some h.val
    | _ => none

/-- The first of the causes of one handshake: POWER_ON, PIN, SAG, THERMAL, LIFECYCLE, HOST (R369). -/
def firstCause (codes : List Nat) : Nat := (([1, 2, 4, 5, 6] : List Nat).find? codes.contains).getD 3

/-- The list with what of another is not in it. -/
def joined (l new : List Nat) : List Nat := new.foldl (fun l c => if l.contains c then l else c :: l) l

/-- The sequence has yet to reach READY, or the device is held: a trigger then restarts it (R369). -/
def sequenceRuns (s : State) : Bool := s.rst.held || decide (rd s .reset Reg.rst.PHASE < 6)

/-- What of the MC a reset leaves: its images and the repair record (R376). -/
def Mc.kept (m : Mc) : Mc :=
  { Mc.reset with
    record := m.record
    imageA := { m.imageA with valid := false }
    imageB := { m.imageB with valid := false }
    activeB := m.activeB }

/-- What of the SEB a reset leaves: fuses, key store, service flag and REPORTS (R376). -/
def Seb.kept (m : Seb) : Seb :=
  { m with challengeIn := false, run := none, fwDigest := 0, fallback := false }

/-- RESET_COUNT after triggers. -/
def countAfter (s : State) (codes : List Nat) : Nat :=
  if codes.contains 1 then 1
  else if sequenceRuns s then rd s .reset Reg.rst.RESET_COUNT
  else min (rd s .reset Reg.rst.RESET_COUNT + 1) (2 ^ 32 - 1)

/-- CAUSE_MASK after triggers. -/
def maskAfter (s : State) (codes : List Nat) : Nat :=
  codes.foldl (fun m c => m ||| 2 ^ c) (if sequenceRuns s then rd s .reset Reg.rst.CAUSE_MASK else 0)

/-- RESTARTED of the reset page after a trigger: a sequence that had been released starts anew (R369, R377). -/
def restartedAfter (s : State) : Bool :=
  sequenceRuns s && (!s.rst.held || bit (rd s .reset Reg.hdr.STICKY) Sticky.rst.RESTARTED)

/-- The release conditions pending after triggers; HOST and LIFECYCLE have none. -/
def pendingAfter (r : Reset) (codes halls : List Nat) : Reset :=
  { r with holding := joined r.holding (codes.filter fun c => c != 3 && c != 6), thermHalls := joined r.thermHalls halls }

/-- The triggers of one handshake, by their codes, with the halls of THERMAL (R368, R369): everything but what R376 names is
lost, every register takes its reset value, and the device is held while a release condition is pending. Device memory goes
in the wipe that follows (R278). -/
def enterReset (s : State) (codes halls : List Nat) : State :=
  let t : State := { State.reset with
    pending := s.pending
    regs := []
    dram := s.dram
    codes := s.codes
    mc := s.mc.kept
    seb := s.seb.kept
    rst := pendingAfter s.rst codes halls
    jtag := { s.jtag with mcWord := none, mcOut := none, mcWait := false }
    drawn := s.drawn }
  let t := selectJtag t s.jtag.instr
  let t := wr t .reset Reg.rst.RESET_CAUSE (firstCause codes)
  let t := wr t .reset Reg.rst.CAUSE_MASK (maskAfter s codes)
  let t := wr t .reset Reg.rst.RESET_COUNT (countAfter s codes)
  if restartedAfter s then wr t .reset Reg.hdr.STICKY (2 ^ Sticky.rst.RESTARTED) else t

/-- Triggers of one handshake; none leave the device as it is. -/
def trigger (s : State) (codes halls : List Nat) (also : List ResetCause) : State :=
  let all := codes ++ also.map causeCode
  if all.isEmpty then s else enterReset s all (halls ++ causeHalls also)

/-- POWER_ON_RESET: PORST_N is low, or a rail monitor has tripped (R368, R397). -/
def execPowerOnReset (s : State) : Host.Outcome State Fault Refusal := .next (trigger s [1] [] [])

/-- The filter of RESET_N takes a low pulse: always from 1 µs, never below 0.5 µs, either way between (R394). -/
def pinTakes (lowNs : Nat) (accepted : Bool) : Bool := decide (1000 ≤ lowNs) || (decide (500 ≤ lowNs) && accepted)

/-- PIN_RESET. -/
def execPinReset (lowNs : Nat) (pulse : PinPulse) (s : State) : Host.Outcome State Fault Refusal :=
  .next (trigger s (if pinTakes lowNs pulse.accepted then [2] else []) [] pulse.also)

/-- A write of RESET_CMD that the lifecycle state permits (R378), with the other triggers of its handshake. -/
def writeResetCmd (s : State) (value : Nat) (also : List ResetCause) : State :=
  if bits value 0 16 = 0x5A17 then trigger s [3] [] also
  else trigger (if bits value 0 16 = 0 then s else stateErr s .reset) [] [] also

/-- HOST_RESET. -/
def execHostReset (write : ResetWrite) (s : State) : Host.Outcome State Fault Refusal :=
  .next (if s.rst.held || !permits s .mainband .reset 0x04C then
      trigger (ifPermitted s .mainband .reset 0x04C write.value.toNat s) [] [] write.also
    else writeResetCmd s write.value.toNat write.also)

/-- SAG_RESET (R38). -/
def execSagReset (s : State) : Host.Outcome State Fault Refusal := .next (trigger s [4] [] [])

/-- THERMAL_RESET: THERMTRIP_N is low from here until the sensor's release condition holds (R394). -/
def execThermalReset (trip : ThermalTrip) (s : State) : Host.Outcome State Fault Refusal :=
  .next (trigger s [5] [trip.hall.val] trip.also)

/-- The release condition of a cause holds; that of THERMAL holds once every sensor that has triggered is back. Straps are
sampled when PORST_N rises (R401). -/
def release (r : Reset) (cause : ResetCause) (straps : Straps) : Reset :=
  match cause with
  | .thermal h =>
    let hs := r.thermHalls.filter (· != h.val)
    { r with thermHalls := hs, holding := if hs.isEmpty then r.holding.filter (· != 5) else r.holding }
  | .powerOn => if r.holding.contains 1 then { r with holding := r.holding.filter (· != 1), straps := straps } else r
  | c => { r with holding := r.holding.filter (· != causeCode c) }

/-- RESET_RELEASE: with no condition pending the device leaves reset, and the sequence begins. -/
def execResetRelease (x : Release) (s : State) : Host.Outcome State Fault Refusal :=
  .next { s with rst := release s.rst x.cause x.straps }

/-! ### Status pins (R394) -/

/-- ALERT_N is driven low. -/
def alertLow (s : State) : Bool :=
  !ready s || s.mc.lowVcore || on s .mcService Reg.mcs.STOPPED || on s .reset Reg.rst.RECOVERY

/-- THERMTRIP_N is driven low. -/
def thermTripLow (s : State) : Bool := !s.rst.thermHalls.isEmpty

/-! ### FUSES and BOOT (R370, R355) -/

/-- The device is out of reset, in phase `n`. -/
def inPhase (s : State) (n : Nat) : Bool := !s.rst.held && rd s .reset Reg.rst.PHASE == n

def setPhase (s : State) (n : Nat) : State := wr s .reset Reg.rst.PHASE n

/-- An image can be booted: it is there, and the SEB accepts it. -/
def bootable (s : State) (b : Bool) : Bool :=
  let x := imageOfSlot s b
  x.len != 0 && imageVerdict s x == 0

/-- An image is verified and starts; MC_INIT begins. -/
def bootImage (s : State) (b : Bool) : State :=
  setPhase (runImage (setImage s b { imageOfSlot s b with valid := true }) b) 3

/-- BOOT_DONE: the image that BOOT_IMAGE names, or else the other one, or recovery. -/
def execBootDone (s : State) : Host.Outcome State Fault Refusal :=
  if !inPhase s 2 || on s .reset Reg.rst.RECOVERY then .next s
  else if bootable s s.seb.bootB then .next (bootImage s s.seb.bootB)
  else if bootable s (!s.seb.bootB) then
    let t := bootImage s (!s.seb.bootB)
    .next (setSticky { t with seb := { t.seb with fallback := true } } .seb Sticky.seb.BOOT_FALLBACK)
  else .next (wr (wr s .reset Reg.rst.RECOVERY 1) .seb Reg.seb.RECOVERY 1)

/-! ### MC_INIT: the repair record (R372) -/

/-- A gallery swap is restored: word 1 holds the logical index and the physical gallery (R389). -/
def restoreSwap (s : State) (h w1 : Nat) : Option State :=
  let i := bits w1 0 5
  let t := bits w1 8 5
  if 15 < i ∨ 16 < t ∨ on s (hallPage h) Reg.hall.RETIRED ∨ (logicalOf s h t).isSome then none
  else some (wr s (hallPage h) (Reg.hall.REMAP i) t)

/-- Banks of a gallery memory (*Gallery memory organisation*). -/
def memBanks (m : Nat) : Nat := [16, 32, 8].getD m 8

/-- A gallery memory row is spared again. -/
def restoreRow (s : State) (h w1 : Nat) : Option State :=
  let g := bits w1 0 5
  let m := bits w1 13 2
  let row := m * 2 ^ 12 + bits w1 20 7 * memBanks m + bits w1 15 5
  let x := gal s h g
  if 16 < g ∨ 2 < m ∨ memBanks m ≤ bits w1 15 5 ∨ !spareFree x row then none
  else some (setGal s h g { x with rowSpared := row :: x.rowSpared })

/-- The gallery rows spared at test, from fuses; one that cannot be spared is left (R370). Each carries its hall above its
word. -/
def fuseRow (s : State) (e : Nat) : State := (restoreRow s (bits e 4 4) (bits e 32 32)).getD s

/-- FUSES_DONE: the fuses are loaded, sidebands answer, BOOT begins, and the UCIe modules train. Which sidebands have
trained by then is free (R391). -/
def execFusesDone (s : State) : Host.Outcome State Fault Refusal :=
  if inPhase s 1 then
    let r := draw (s.seb.fusedRows.foldl fuseRow s)
    .next (wr (setPhase (trainSidebands r.2 (r.1 % 2 ^ 16)) 2) .hif Reg.hif.RETRAINING 1)
  else .next s

/-- A DRAM row is spared again. -/
def restoreDramRow (s : State) (h w1 w2 : Nat) : Option State :=
  let d := dram s h
  let row := ((bits w1 18 4 * 64 + bits w1 0 6) * 256 + bits w1 22 8) * 2 ^ 32 + w2
  if 4 ≤ sparesUsed d row then none
  else some (setDram s h { d with
    bankSpares := NatMap.set d.bankSpares (row / 2 ^ 32) (sparesUsed d row + 1)
    rowSpared := row :: d.rowSpared })

/-- A data lane of a channel stands on a spare. -/
def moveLane (d : Stack) (ch lane spare : Nat) : Stack :=
  { d with
    dataSpares := NatMap.set d.dataSpares ch (spareMask d ch ||| 2 ^ spare)
    lanesMoved := (ch * 288 + lane) :: d.lanesMoved }

/-- A DRAM data lane is moved to its spare again, unless that is in use. -/
def restoreLane (s : State) (h w1 : Nat) : Option State :=
  let d := dram s h
  let ch := bits w1 0 6
  let spare := bits w1 15 3
  if 4 ≤ spare ∨ 288 ≤ bits w1 6 9 ∨ bit (spareMask d ch) spare then none
  else some (setDram s h (moveLane d ch (bits w1 6 9) spare))

/-- A die map takes effect again, and r rises (R274). -/
def restoreDie (s : State) (h map : Nat) : Option State :=
  let p := scPage h
  if 15 ≤ rd s p Reg.sc.RETIRED then none
  else some (wr (wr s p Reg.sc.DIE_MAP map) p Reg.sc.RETIRED (rd s p Reg.sc.RETIRED + 1))

/-- A hall-cache way is disabled again. -/
def restoreWay (s : State) (h w1 : Nat) : Option State :=
  if 24 ≤ bits w1 0 5 then none
  else some (wr s (hcPage h) Reg.hc.WAY_DISABLE (rd s (hcPage h) Reg.hc.WAY_DISABLE ||| 2 ^ bits w1 0 5))

/-- One entry of the record applied; none for one that cannot be (R372, R389). -/
def restoreEntry (s : State) (e : Nat) : Option State :=
  let h := bits e 4 4
  let w1 := bits e 32 32
  match bits e 0 4 with
  | 1 => restoreSwap s h w1
  | 2 => some (wr (retireHall s h) (hcPage h) Reg.hc.WAY_DISABLE (2 ^ 24 - 1))
  | 3 => restoreRow s h w1
  | 4 => restoreDramRow s h w1 (bits e 64 32)
  | 5 => restoreLane s h w1
  | 6 => restoreDie s h (bits e 64 64)
  | 7 => restoreWay s h w1
  | _ => none

/-- An entry applied, or skipped with REPAIR_NEEDED. -/
def applyEntry (s : State) (e : Nat) : State :=
  match restoreEntry s e with
  | some t => t
  | none => setSticky (bump s .reset Reg.rst.RECORD_SKIPPED) .mcService Sticky.mcs.REPAIR_NEEDED

/-- A gallery is in service when a logical number is mapped to it (R340, R341, R372). -/
def placeGallery (s : State) (h g : Nat) : State :=
  let out := if (logicalOf s h g).isSome then 0 else 1
  setQuiesce (wr s (arrPage h g) (Reg.hdr.OUT_OF_SERVICE (arrPage h g)) out) h g out

/-- Every gallery of the device: hall and gallery. -/
def allGalleries : List (Nat × Nat) := (List.range 16).flatMap fun h => (List.range 17).map fun g => (h, g)

/-- Every timer has been calibrated; the manual gives no count. -/
def calibrateAll (s : State) : State :=
  { s with
    mc := { s.mc with
      cal := allTimers.zipIdx.map fun e => (e.1, Config.free (s.drawn + e.2) % 2 ^ 24)
      calibrating := [] }
    drawn := s.drawn + allTimers.length }

/-- The Fenzin links begin training (R283, R370). -/
def trainLinks (s : State) : State :=
  (List.range 8).foldl (fun s l =>
    if on s (linkPage l) Reg.lnk.TRAIN_EN then wr s (linkPage l) Reg.lnk.LINK_STATE 1 else s) s

/-- The repair record applied in its order, and the galleries placed. -/
def restoreAll (s : State) : State :=
  allGalleries.foldl (fun s e => placeGallery s e.1 e.2) (s.mc.record.foldl applyEntry s)

/-- MC_INIT_DONE. -/
def execMcInitDone (s : State) : Host.Outcome State Fault Refusal :=
  if inPhase s 3 then .next (trainLinks (setPhase (restoreAll (calibrateAll s)) 4)) else .next s

/-! ### TRAIN (R273) -/

/-- A failing lane of a channel's bond is repaired onto a spare. A channel without a spare data lane keeps its failing lane
and sets LANE_EXHAUSTED, and the MC is told (R344); so does one without a spare command and address lane, but for the bit. -/
def repairLane (s : State) (x : BondLane) : State :=
  let h := x.stack.val
  let ch := x.channel.val
  let d := dram s h
  if x.lane.val < 288 then
    if d.lanesMoved.contains (ch * 288 + x.lane.val) then s
    else match freeSpare d ch with
      | some i => setDram s h (moveLane d ch x.lane i)
      | none => reportRepair (setSticky s (scPage h) Sticky.sc.LANE_EXHAUSTED)
  else
    let used := (NatMap.get? d.caSpares ch).getD 0
    if used < 2 then setDram s h { d with caSpares := NatMap.set d.caSpares ch (used + 1) } else reportRepair s

/-- Every lane of every bond. -/
def bondLanes : List BondLane :=
  (List.finRange 16).flatMap fun h => (List.finRange 64).flatMap fun c =>
    (List.finRange 318).map fun i => { stack := h, channel := c, lane := i }

/-- The lanes that fail in a training: those whose bits a number sets. -/
def failingLanes (v : Nat) : List BondLane :=
  bondLanes.filter fun x => bit v ((64 * x.stack.val + x.channel.val) * 318 + x.lane.val)

/-- TRAIN_DONE: every bond is trained, and its failing lanes are repaired. Which lanes fail is free. -/
def execTrainDone (s : State) : Host.Outcome State Fault Refusal :=
  if inPhase s 4 then let r := draw s; .next (setPhase ((failingLanes r.1).foldl repairLane r.2) 5) else .next s

/-! ### WIPE and self-test (R278, R373) -/

/-- A byte's place lies in a die that no logical die of its stack uses: absent, it is not written. -/
def absentCell (s : State) (k : Nat) : Bool :=
  let st := k / 2 ^ 36
  (List.range (16 - rd s (scPage st) Reg.sc.RETIRED)).all fun l => physDie s st l != k / 2 ^ 32 % 16

/-- Every present sector zero, gallery memories and registers zero, every hall cache line invalid; the spares stay. -/
def wipeAll (s : State) : State :=
  { s with
    dram := s.dram.filter fun c => absentCell s c.1
    codes := s.codes.filter fun c => absentCell s (32 * c.1)
    galleries := s.galleries.map fun e => (e.1, { Gallery.reset with rowSpared := e.2.rowSpared })
    caches := s.caches.map fun e => (e.1, HallCache.reset)
    drams := s.drams.map fun e => (e.1, { e.2 with patrol := 0, tracker := [], laneCharge := [] }) }

/-- A hall had a failure. -/
def selfTestFailed (s : State) (h : Nat) : State :=
  let s := wr s .reset Reg.rst.SELFTEST_HALLS (rd s .reset Reg.rst.SELFTEST_HALLS ||| 2 ^ h)
  setSticky s .reset Sticky.rst.SELFTEST_FAIL

/-- The errors that the self-test reads in a failing row count (R375). -/
def selfTestErrors (s : State) (h g m ce ue : Nat) : State :=
  let p := memPage h g
  let s := if ce = 0 then s else setSticky (count s p (ceCounter m) ce) p Sticky.gm.MEM_CE
  if ue = 0 then s else setSticky (count s p Reg.gm.UE_COUNT ue) p Sticky.gm.MEM_UE

/-- One outcome of the self-test (R373). The parts of a retired hall are not tested. -/
def selfTest (s : State) (o : SelfTest) : State :=
  match o with
  | .row h g m bank row ce ue =>
    let k := gmemNum m
    if on s (hallPage h) Reg.hall.RETIRED || decide (2 < k) || decide (memBanks k ≤ bank)
        || decide (memCourses k ≤ row * memBanks k) then s
    else
      let s := selfTestErrors (selfTestFailed s h) h g k ce ue
      let n := k * 2 ^ 12 + row * memBanks k + bank
      if spareFree (gal s h g) n then bump (retireRow s h g n) .reset Reg.rst.SELFTEST_ROWS
      else queueGalleryRow s h g n
  | .gallery h g =>
    if on s (hallPage h) Reg.hall.RETIRED || (gal s h g).faulted then s
    else bump (galleryFault (selfTestFailed s h) h g 4) .reset Reg.rst.SELFTEST_GALLERIES
  | .way h w =>
    if !wayOn s h w then s
    else repairEvent (selfTestFailed s h) (.wayErrors h w)

/-- The walks of a change of ways are over at once: every line is invalid. -/
def endWalks (s : State) : State := { s with caches := s.caches.map fun e => (e.1, { e.2 with walks := [] }) }

/-- The MC's responses before READY, one after another (R344, R373). -/
def repairAll : Nat → State → State
  | 0, s => s
  | n + 1, s => repairAll n (endWalks (repairStep s))

/-- WIPE_DONE: the device enters READY. -/
def execWipeDone (failures : List SelfTest) (s : State) : Host.Outcome State Fault Refusal :=
  if inPhase s 5 then
    let s := failures.foldl selfTest (wipeAll s)
    let s := repairAll (2 * s.mc.repairs.length) s
    .next (setSticky (setPhase s 6) .reset Sticky.rst.READY_REACHED)
  else .next s

end Sys2Proof.Machine
end

