-- ==== Sys2Proof/Machine/Jtag.lean ====
section
/-! DEFINITION. The debug interfaces: the JTAG port (R28, R363, R395) and the MC debug port (R28, R363). -/

namespace Sys2Proof.Machine

/-- JTAG_TAP_RESET: Test-Logic-Reset selects IDCODE. -/
def execJtagTapReset (s : State) : Host.Outcome State Fault Refusal := .next (selectJtag s .idcode)

/-- JTAG_INSTRUCTION_UPDATE. -/
def execJtagInstructionUpdate (i : JtagInstr) (s : State) : Host.Outcome State Fault Refusal := .next (selectJtag s i)

/-- The MC debug port is open (*Access by lifecycle state*). -/
def mcPortOpen (s : State) : Bool := s.seb.state == 0 || (s.seb.state == 3 && bit s.seb.debugMask 1)

/-- A word crosses into the MC and one out of it; the one before it has to be taken first, and the port answers with its
wait response until then (R28). What the MC gives out is its firmware's, a free value (assumption 102). -/
def crossWord (s : State) (word : Nat) (slow : Bool) : State :=
  if slow && s.jtag.mcWord.isSome then { s with jtag := { s.jtag with mcWait := true } }
  else
    let r := draw s
    { r.2 with jtag := { s.jtag with mcWord := some word, mcOut := some (r.1 % 2 ^ 32), mcWait := false } }

/-- MC_DEBUG_PORT_ACCESS; a closed port ignores its clock. -/
def execMcDebugPortAccess (word : DebugWord) (s : State) : Host.Outcome State Fault Refusal :=
  if mcPortOpen s then .next (crossWord s word.word.toNat word.slow) else .next s

end Sys2Proof.Machine
end

