-- ==== Sys2Proof/Machine/Security.lean ====
section
/-! DEFINITION. The commands of the security block (R356 to R365). -/

namespace Sys2Proof.Machine

/-! ### Starting and ending a command -/

/-- A command runs from here on; RESULT takes its result when it ends. -/
def sebStart (s : State) (cmd target result : Nat) : State :=
  { s with seb := { s.seb with run := some { cmd := cmd, target := target, result := result } } }

/-- A write of SEB_CMD by a path. -/
def sebCommand (s : State) (path : Path) (cmd : Nat) (body : State) : State := ifPermitted s path .seb 0x044 cmd body

/-- A write of SEB_CMD that R360 refuses while the SEB is busy or the firmware is exchanged. -/
def sebGate (s : State) (path : Path) (cmd : Nat) (body : State → State) : State :=
  sebCommand s path cmd (if sebBusy s ∨ s.mc.switching ≠ 0 then stateErr s .seb else body s)

/-- SEB_COMMAND_DONE. -/
def execSebCommandDone (s : State) : Host.Outcome State Fault Refusal :=
  match s.seb.run with
  | none => .next s
  | some r =>
    let t := wr { s with seb := { s.seb with run := none } } .seb Reg.seb.RESULT r.result
    .next (runHeld t.mc.held.length (setSticky t .seb Sticky.seb.CMD_DONE))

/-! ### Arguments (R365) -/

/-- ARG_ADDR. -/
def argAddr (s : State) : Nat := rd s .seb Reg.seb.ARG_ADDR

/-- The argument lies in device memory; in recovery there is none to read. -/
def argLegal (s : State) (n : Nat) : Bool :=
  decide (argAddr s % 64 = 0) && decide (argAddr s + n ≤ 2 ^ 40) && !inRecovery s

/-- A write of the SEB: none of it lands when a part of it fails. -/
def sebWrite (s : State) (a n v : Nat) : State × Bool :=
  match memWrite s .seb a n v with
  | (t, .ok _) => (t, true)
  | (t, .fault _ _) => ({ t with dram := s.dram, codes := s.codes }, false)

/-! ### Challenge (R358) -/

/-- 32 fresh bytes in CHALLENGE0 to CHALLENGE7. -/
def freshChallenge (s : State) : State :=
  let s := (List.range 8).foldl (fun s i => let r := draw s; wr r.2 .seb (Reg.seb.CHALLENGE i) r.1) s
  { s with seb := { s.seb with challengeIn := true } }

/-- CHALLENGE; a command that runs goes on. -/
def execChallenge (s : State) : Host.Outcome State Fault Refusal :=
  let t := freshChallenge s
  .next (sebCommand s .mainband 1 (if sebBusy s then t else sebStart t 1 0 0))

/-- The challenge as an image of its 32 bytes. -/
def challengeImage (s : State) : Nat :=
  (List.range 8).foldr (fun i v => rd s .seb (Reg.seb.CHALLENGE i) + 2 ^ 32 * v) 0

/-! ### Identity (R353) -/

/-- The public key as octets: modulus and exponent. -/
def publicKey (s : State) : List Nat :=
  match s.seb.idKey with
  | some k => natToOs 384 k.1 ++ natToOs 4 k.2.1
  | none => []

/-- ID_DIGEST as octets; 0 where there is no key. -/
def idDigest (s : State) : List Nat :=
  match s.seb.idKey with
  | some _ => sha256 (publicKey s)
  | none => List.replicate 32 0

/-! ### Attestation (R364) -/

/-- SHA-256 of the repair record's entries in order (R389). -/
def repairDigest (s : State) : List Nat := sha256 (s.mc.record.flatMap fun e => octets e 0 16)

/-- Bytes 0x000 to 0x07F of a report (*Attestation report*). -/
def reportBody (s : State) (nonce : Nat) : List Nat :=
  octets 3 0 4 ++ [s.seb.state, (if s.seb.state = 3 then s.seb.debugMask else 0), s.seb.svnFused,
      s.seb.fallback.toNat + 2 * s.seb.recordErased.toNat]
    ++ octets s.seb.reports 0 8 ++ octets nonce 0 32 ++ natToOs 32 s.seb.fwDigest ++ repairDigest s
    ++ octets (imageVersion (imageOfSlot s s.mc.activeB)) 0 2 ++ octets 0xA1 0 2 ++ List.replicate 12 0

/-- The report with its signature. -/
def signedReport (s : State) (nonce salt : Nat) : List Nat :=
  let body := reportBody s nonce
  match s.seb.idKey with
  | some k => body ++ pssSign k.1 k.2.2 (octets salt 0 32) (sha256 body)
  | none => body ++ List.replicate 384 0

/-- A nonce is read, the report counted, signed and written; the result. -/
def runAttest (s : State) : State × Nat :=
  if s.seb.state = 0 ∨ s.seb.state = 4 then (s, 8)
  else if !argLegal s 576 then (s, 1)
  else
    let s := { s with seb := { s.seb with reports := min (s.seb.reports + 1) (2 ^ 64 - 1) } }
    match memRead s .seb (argAddr s) 32 with
    | (s, .fault _ _) => (s, 7)
    | (s, .ok nonce) =>
      let r := draw s
      match sebWrite r.2 (argAddr s + 64) 512 (osToImage (signedReport r.2 nonce r.1)) with
      | (s, true) => (s, 0)
      | (s, false) => (s, 7)

/-- ATTEST. -/
def execAttest (s : State) : Host.Outcome State Fault Refusal :=
  .next (sebGate s .mainband 2 fun s => let r := runAttest s; sebStart r.1 2 0 r.2)

/-! ### Lifecycle (R357 to R359) -/

/-- A transition is legal (*Lifecycle transitions*). -/
def moveLegal (path : Path) (old new : Nat) : Bool :=
  (old == 0 && new == 1 && path == .sideband) || (old == 1 && new == 2) || (old == 1 && new == 4)
    || (old == 2 && new == 3) || (old == 2 && new == 4) || (old == 3 && new == 2) || (old == 3 && new == 4)

/-- A token is required. -/
def needsToken (old : Nat) : Bool := old == 2

/-- What the SEB's checks make of a token: 0, or the code of the first that fails, with whether the challenge was
read (R358). -/
def tokenVerdict (s : State) (target t : Nat) : Nat × Bool :=
  if fieldAt t 0 4 ≠ 2 ∨ fieldAt t 4 1 ≠ target then (5, false)
  else if !s.seb.challengeIn ∨ fieldAt t 0x10 32 ≠ challengeImage s then (6, true)
  else if octets t 0x30 32 ≠ idDigest s then (5, true)
  else if !keyOk s (fieldAt t 6 1) (octets t 0x80 384) (octets t 0x200 4) then (3, true)
  else if !pssVerify (octets t 0x80 384) (octets t 0x200 4) (octets t 0x240 384) (sha256 (octets t 0 0x240)) then (2, true)
  else (0, true)

/-- The new state in its fuses or service flag; what a state's entry makes or destroys (R353, R359). -/
def enterLifecycle (s : State) (target mask : Nat) : State :=
  match target with
  | 1 =>
    let k := identityKey (s.drawn + 1)
    { s with
      seb := { s.seb with state := 1, debugMask := 0, idKey := some k, cert := none, reports := 0, recordErased := false }
      drawn := s.drawn + 1 }
  | 3 => { s with seb := { s.seb with state := 3, debugMask := mask } }
  | 4 => { s with seb := { s.seb with state := 4, debugMask := 0, idKey := none, cert := none } }
  | n => { s with seb := { s.seb with state := n, debugMask := 0 } }

/-- TRANSITION of a legal move, with the token it needs; the codes of the reset that follows: LIFECYCLE when the move passes
its checks (R359). -/
def runTransition (s : State) (target : Nat) : State × List Nat :=
  if !needsToken s.seb.state then (enterLifecycle s target 0, [6])
  else if !argLegal s 960 then (sebStart s 3 target 1, [])
  else match memRead s .seb (argAddr s) 960 with
    | (s, .fault _ _) => (sebStart s 3 target 7, [])
    | (s, .ok t) =>
      let v := tokenVerdict s target t
      let s := if v.2 then { s with seb := { s.seb with challengeIn := false } } else s
      if v.1 = 0 then (enterLifecycle s target (if target = 3 then fieldAt t 5 1 else 0), [6])
      else (sebStart (verifyFail s) 3 target v.1, [])

/-- TRANSITION is reached and not refused (R355, R360, R363, R371). -/
def transitionRuns (s : State) (path : Path) : Bool :=
  !s.rst.held && permits s path .seb 0x044 && !sebBusy s && s.mc.switching == 0

/-- TRANSITION, with the other triggers of its handshake. -/
def execTransition (path : Path) (move : Move) (s : State) : Host.Outcome State Fault Refusal :=
  let target := move.target.toNat
  if transitionRuns s path && moveLegal path s.seb.state target then
    let r := runTransition s target
    .next (trigger r.1 r.2 [] move.also)
  else .next (trigger (sebGate s path 3 fun s => sebStart s 3 target 8) [] [] move.also)

/-! ### The other commands -/

/-- COMMIT_SVN: SVN_FUSED rises to the running image's SVN (R356); in recovery no image runs. -/
def execCommitSvn (s : State) : Host.Outcome State Fault Refusal :=
  .next (sebGate s .mainband 4 fun s =>
    let svn := if inRecovery s then 0 else imageSvn (imageOfSlot s s.mc.activeB)
    sebStart { s with seb := { s.seb with svnFused := max s.seb.svnFused svn } } 4 0 0)

/-- ERASE_RECORD (R361). -/
def execEraseRecord (s : State) : Host.Outcome State Fault Refusal :=
  .next (sebGate s .mainband 5 fun s =>
    if s.seb.state = 3 then
      sebStart { s with mc := { s.mc with record := [] }, seb := { s.seb with recordErased := true } } 5 0 0
    else sebStart s 5 0 8)

/-- The certificate is read and installed; the result (R362). -/
def runWriteCert (s : State) : State × Nat :=
  if s.seb.state ≠ 1 ∨ s.seb.cert.isSome then (s, 8)
  else if !argLegal s 4 then (s, 1)
  else match memRead s .seb (argAddr s) 4 with
    | (s, .fault _ _) => (s, 7)
    | (s, .ok n) =>
      if n = 0 ∨ 4096 < n then (s, 5)
      else if !argLegal s (64 + n) then (s, 1)
      else match memRead s .seb (argAddr s + 64) n with
        | (s, .fault _ _) => (s, 7)
        | (s, .ok v) => ({ s with seb := { s.seb with cert := some (n, v) } }, 0)

/-- WRITE_CERT. -/
def execWriteCert (s : State) : Host.Outcome State Fault Refusal :=
  .next (sebGate s .mainband 6 fun s => let r := runWriteCert s; sebStart r.1 6 0 r.2)

end Sys2Proof.Machine
end

