-- ==== Sys2Proof/Machine/Views.lean ====
section
/-! DEFINITION. The register fields that show a part of a record, and the readback spaces: what a read of a register
word returns (R346, R382, R383, R386 to R389, and the register table of each page). -/

namespace Sys2Proof.Machine

/-- A computed field of a 32-bit word: lowest bit, width and value. -/
abbrev View := Nat × Nat × Nat

/-- A count as a counter of some bits shows it: it saturates (R9). -/
def saturated (width n : Nat) : Nat := min n (2 ^ width - 1)

/-- FIFO_HOLD of a page at a clocked boundary, at its offset (R27). -/
def holdView (s : State) (p : Page) (off : Nat) : List View :=
  if holdOff p = some off then [(0, 32, fifoHold s p)] else []

/-! ### Status of a page (R382, R386) -/

def stickyOf (s : State) (p : Page) (b : Nat) : Bool := bit (rd s p Reg.hdr.STICKY) b

/-- A logical number of a hall has no gallery that can serve it (R336, R340). -/
def vacancy (s : State) (h : Nat) : Bool :=
  (List.range 16).any fun i =>
    let g := rd s (hallPage h) (Reg.hall.REMAP i)
    decide (16 < g) || (gal s h g).faulted

/-- STATUS.BUSY of a gallery: it holds a ticket, a group or a work item of the VE (R386). -/
def galleryBusy (s : State) (h g : Nat) : Bool := !quiescent s h g

/-- STATUS.BUSY (*Header fields by page*). -/
def pageBusy (s : State) : Page → Bool
  | .dispatcher => !s.disp.jobs.isEmpty
  | .hif => !(outstanding s).isEmpty
  | .window => s.windows.any (·.live)
  | .seb => sebBusy s
  | .mcService => s.mc.repairing.isSome || s.mc.switching != 0
  | .reset => !ready s
  | .stairwell i => (stair s i).state != .idle || !(stair s i).slots.isEmpty
  | .link l => (link s l).channels.any fun e => e.2.send.isSome
  | .hall h => (List.range 17).any (galleryBusy s h)
  | .hallCache h => walking s h
  | .stack h => (dram s h).migration.isSome || inPhase s 5
  | .dresser h => (NatMap.get? s.dressers h.val).isSome
  | .array h g | .ve h g | .qu h g | .mems h g => galleryBusy s h g
  | _ => false

/-- STATUS.FAULT. -/
def pageFault (s : State) : Page → Bool
  | .hif => on s .hif Reg.hif.FAULT_INFO_VALID
  | .mcService => on s .reset Reg.rst.RECOVERY
  | .stairwell i => (stair s i).state == .faulted
  | .link l => rd s (.link l) Reg.lnk.LINK_STATE == 4
  | .hall h => (List.range 17).any fun g => (gal s h g).faulted
  | .hallCache h => on s (.hallCache h) Reg.hc.FAULT_INFO_VALID
  | .stack h => on s (.stack h) Reg.sc.FAULT_INFO_VALID
  | .array h g | .ve h g | .qu h g | .mems h g => (gal s h g).faulted
  | _ => false

/-- CAPACITY_GIB (R277). -/
def capacity (s : State) : Nat := ((List.range 16).map fun h => (16 - rd s (scPage h) Reg.sc.RETIRED) * 4).sum

/-- STATUS.DEGRADED. -/
def pageDegraded (s : State) : Page → Bool
  | .mcPower => decide (ticketLimit s < 2048) || on s .mcPower Reg.mcp.HOLDOVER
  | .dispatcher => (List.range 16).any (vacancy s)
  | .memMap => decide (capacity s < 1024)
  | .hif => linkUp s && decide (popcount 16 (rd s .hif Reg.hif.ACTIVE_MASK) < 16)
  | .mcService => stickyOf s .mcService Sticky.mcs.REPAIR_NEEDED
  | .fc => stickyOf s .fc Sticky.fc.TABLE_FULL
  | .reset => stickyOf s .reset Sticky.rst.SELFTEST_FAIL
  | .link l => rd s (.link l) Reg.lnk.LINK_STATE == 3 || rd s (.link l) Reg.lnk.SPARE_TX != 31
      || rd s (.link l) Reg.lnk.SPARE_RX != 31
  | .hall h => vacancy s h
  | .hallCache h => on s (.hallCache h) Reg.hc.WAY_DISABLE
  | .stack h => on s (.stack h) Reg.sc.RETIRED || stickyOf s (.stack h) Sticky.sc.ROW_SPARE_EXHAUSTED
      || stickyOf s (.stack h) Sticky.sc.LANE_EXHAUSTED
  | .array h g | .ve h g | .qu h g | .mems h g => !(gal s h g).rowQueue.isEmpty
  | _ => false

/-- STATUS.OUT_OF_SERVICE of a page. -/
def pageOut (s : State) : Page → Bool
  | .hall h | .hallCache h | .dresser h => on s (.hall h) Reg.hall.RETIRED
  | .array h g | .ve h g | .qu h g | .mems h g => outOfService s h g
  | _ => false

/-- STATUS, but for STATE_ERR and a gallery's OUT_OF_SERVICE, which are stored. -/
def statusViews (s : State) (p : Page) : List View :=
  [(0, 1, (ready s && !pageOut s p).toNat), (1, 1, (pageBusy s p).toNat), (2, 1, (pageFault s p).toNat),
    (4, 1, (pageDegraded s p).toNat)] ++ (match p with
      | .hall _ | .hallCache _ | .dresser _ => [(5, 1, (pageOut s p).toNat)]
      | _ => [])

/-! ### A gallery's pages -/

/-- ARRAY_STATE. -/
def arrayState (x : Gallery) : List View :=
  let shift := match x.flight with
    | some f => ((groupOf x f.serial f.tile).map Group.shift).getD 0 / 4
    | none => 0
  let tile := match x.resident with
    | some r => [(0, 1, (weightSerial r.wa r.ww).toNat), (1, 2, r.shape), (8, 4, r.wa - 1), (12, 4, r.ww - 1)]
    | none => []
  tile ++ [(3, 1, x.flight.isSome.toNat), (4, 2, shift), (16, 1, (x.shadow.any fun r => r.loaded == r.total).toNat)]

/-- Rows of the landing that a ticket's next opening asks for. -/
def openingRows (j : Job) (t : Ticket) : Nat :=
  groupRows (blockRows j ((ticketTiles j t).getD t.opened (0, 0, 0, 0)).2.1) (dShape j.desc)

/-- Whether an opening waits for a slot, and whether it waits for rows. -/
def waitingOpening (s : State) (x : Gallery) : Bool × Bool :=
  match nextOpening s x.tickets with
  | some (t, j) =>
    (t.openWaited && (freeGroupSlot x).isNone, t.openWaited && decide (1024 < rowsHeld x + openingRows j t))
  | none => (false, false)

/-- LANDING_STATE. -/
def landingState (s : State) (x : Gallery) : List View :=
  let w := waitingOpening s x
  [(0, 4, x.groups.length), (4, 11, 1024 - rowsHeld x), (16, 10, x.allocHead), (26, 1, w.1.toNat), (27, 1, w.2.toNat)]

def phaseCode : Phase → Nat
  | .opening => 1
  | .accumulating => 2
  | .retrying => 3
  | .draining => 4
  | .orphan => 5

/-- GROUPg_STATE. -/
def groupState (x : Gallery) (slot : Nat) : List View :=
  match x.groups.find? fun e => e.slot == slot with
  | none => []
  | some e => [(0, 10, e.head), (10, 11, e.rows), (21, 3, phaseCode e.phase), (24, 2, e.shift / 4), (26, 2, e.retries),
      (28, 1, e.sat.toNat), (29, 1, e.preloaded.toNat), (30, 1, (!e.boulderRows.isEmpty).toNat)]

/-- GROUPg_SIG. -/
def groupSig (x : Gallery) (slot : Nat) : List View :=
  match x.groups.find? fun e => e.slot == slot with
  | none => []
  | some e => [(0, 24, e.sig), (24, 3, e.jobSlot), (27, 4, e.sw)]

/-- ASU_STATE: the gallery timer runs for one ticket at most (R178). DESIGN CHOICE: MODE of a re-queued ticket, which runs
with skipping off, is its job's (R182, assumption 125). -/
def asuState (s : State) (h g : Nat) : List View :=
  let x := gal s h g
  let mode := match x.tickets.head? with
    | some t => ((findJob s t.sw t.slot).map fun j => kMode (j.skip.getD 0)).getD 0
    | none => 0
  [(0, 2, mode), (2, 1, (x.flight.any fun f => f.skip.isSome).toNat), (3, 1, (x.tickets.any (·.timer == 1)).toNat),
    (4, 1, (x.tickets.any (·.timer == 2)).toNat), (5, 1, x.sampling.isSome.toNat)]

/-- GENg_STATE. DESIGN CHOICE: STREAM_ID of a generator that is not bound reads 0 (assumption 97). -/
def genState (x : Gallery) (i : Nat) : List View :=
  match NatMap.get? x.gens i with
  | some e => [(0, 16, e.stream), (16, 1, (!e.users.isEmpty).toNat), (17, 3, e.users.length)]
  | none => []

/-- VE_STATE. -/
def veState (s : State) (h g : Nat) : List View :=
  let x := gal s h g
  match x.ve with
  | none => []
  | some (.drain serial tile) =>
    let requant := (ticketJob s h g serial).any fun e => dRequant e.2.desc
    [(0, 1, 1), (11, 3, ((drainGroups x serial tile requant).head?.map Group.slot).getD 0)]
  | some (.vector serial) =>
    let b := ((ticketJob s h g serial).bind fun e => e.2.aux).getD 0
    [(0, 1, 1), (1, 1, 1), (2, 8, vOp b), (10, 1, (vGrouped b).toNat)]

/-- RINGS: the tail is the oldest record held. -/
def ringState (x : Gallery) : List View := [(0, 11, x.asHead), (16, 11, (x.ring.head?.map RingRec.course).getD x.asHead)]

/-- ACT_RINGS: the conversion ring's head is where its next row block goes; it holds the boulder list first (R242). -/
def actRings (s : State) (h g : Nat) : List View :=
  let x := gal s h g
  let conv := match x.conversion with
    | some c =>
      match ticketJob s h g c.serial with
      | some (_, j) =>
        if listSpills s h g then 0
        else 33 + min c.next (c.spill.getD c.next) * rowCourses j.k (container (dWa j.desc))
      | none => 0
    | none => 0
  [(0, 11, conv), (11, 11, convCourses s h g + x.streamHead / 8)]

/-- SPARE_INFO: the spares of the selected bank. -/
def spareInfo (s : State) (h g : Nat) : List View :=
  let x := gal s h g
  let m := rd s (memPage h g) Reg.gm.SPARE_SEL_MEM
  let b := rd s (memPage h g) Reg.gm.SPARE_SEL_BANK
  let mine (rows : List Nat) : Nat := (rows.filter fun r => r / 2 ^ 12 == m && bankOf r == b).length
  [(0, 4, min (mine x.rowSpared) 8), (4, 4, min (mine x.rowQueue) 15)]

/-! ### The other pages -/

def swStateCode : SwState → Nat
  | .idle => 0
  | .running => 1
  | .waiting => 2
  | .faulted => 3
  | .killing => 4

/-- SW_STATE. -/
def swStateViews (w : Stairwell) : List View :=
  [(0, 3, swStateCode w.state), (3, 4, w.slots.length), (8, 8, (w.slots.map fun e => 2 ^ e.1).sum),
    (16, 1, (w.cur.any fun c => c.stage == .waitSlot).toNat), (17, 1, (w.cur.any fun c => c.stage == .waitPrior).toNat)]

/-- The slot that SLOT_SEL shows. -/
def shownSlot (s : State) (i : Fin 16) : Option Tracked := NatMap.get? (stair s i).slots (rd s (.stairwell i) Reg.sw.SLOT_SEL)

/-- A held slot is being stopped: its stairwell is in KILLING, and it has yet to end, or ends KILLED and has not begun its
record. DESIGN CHOICE: it has stopped once its record is on its way (assumption 116). -/
def stopping (w : Stairwell) (e : Tracked) : Bool :=
  w.state == .killing && match e.body with
    | .ended status _ _ => status == 0x30
    | .recording _ => false
    | _ => true

/-- SLOT_INFO. -/
def slotInfo (s : State) (i : Fin 16) : List View :=
  match shownSlot s i with
  | some e => [(0, 8, eOpcode e.img), (8, 1, 1), (9, 1, (stopping (stair s i) e).toNat)]
  | none => []

/-- The job that TALLY_SEL shows, with its tally. -/
def shownJob (s : State) : Option Job :=
  (findJob s (rd s .dispatcher Reg.dsp.TALLY_SEL_STAIRWELL) (rd s .dispatcher Reg.dsp.JOB_SLOT)).filter
    (·.stage == .tallied)

/-- TALLY_STATE. -/
def tallyState (j : Job) : List View :=
  [(0, 1, 1), (1, 1, (exhausted j).toNat), (2, 1, (j.ended.isSome || !j.failures.isEmpty).toNat), (3, 4, dKind j.desc),
    (8, 12, j.held)]

/-- Computed words of the dispatcher page. -/
def dispatcherViews (s : State) : Nat → List View
  | 0x040 => [(0, 12, placesHeld s), (16, 8, s.disp.jobs.length), (24, 1, (s.disp.requests.any fun r => r.waited && (jobFor s r.who).isSome).toNat)]
  | 0x068 => ((shownJob s).map tallyState).getD []
  | 0x06C => [(0, 32, saturated 32 (((shownJob s).map Job.units).getD 0))]
  | 0x070 => [(0, 32, saturated 32 (((shownJob s).map Job.next).getD 0))]
  | 0x074 => [(0, 32, saturated 32 (((shownJob s).map Job.done).getD 0))]
  | 0x078 => [(0, 16, saturated 16 (((shownJob s).map fun j => j.requeue.length).getD 0))]
  | _ => []

/-- The channel that CHAN_SEL shows. -/
def shownChan (s : State) (l : Fin 8) : Channel := chan s l (rd s (.link l) Reg.lnk.CHAN_SEL)

/-- CHAN_STATE. -/
def chanState (c : Channel) : List View :=
  (match c.send with
    | some d => [(0, 1, 1), (1, 4, d.sw), (5, 3, d.slot)]
    | none => []) ++ [(8, 1, c.receive.isSome.toNat), (9, 7, c.awaiting.length), (16, 7, 64 - c.spent)]

/-- Computed words of a link page. -/
def linkViews (s : State) (l : Fin 8) : Nat → List View
  | 0x0AC => [(0, 32, (NatMap.get? (link s l).corrections (rd s (.link l) Reg.lnk.LANE_SEL)).getD 0)]
  | 0x0B4 => chanState (shownChan s l)
  | 0x0B8 => [(0, 32, ((shownChan s l).send.map Send.sent).getD 0)]
  | _ => []

/-- The open window that WIN_SEL shows. -/
def shownWindow (s : State) : Option Window :=
  s.windows.find? fun w => w.entry == rd s .window Reg.win.WIN_SEL && w.live

/-- A hall page holds a set STICKY bit that is unmasked, by STICKY_MASK alone (R325, R384). -/
def pendingPage (s : State) (p : Page) : Bool :=
  let bs := rd s p Reg.hdr.STICKY
  let mask := rd s p (Reg.hdr.STICKY_MASK p)
  bs != bs &&& mask

/-- The pages of a hall (R380). -/
def pagesOfHall (h : Nat) : List Page :=
  [hallPage h, hcPage h, scPage h, drsPage h] ++
    (List.range 17).flatMap fun g => [arrPage h g, vePage h g, quPage h g, memPage h g]

/-- HALL_PENDING. -/
def hallPending (s : State) : Nat := ((List.range 16).map fun h => if (pagesOfHall h).any (pendingPage s) then 2 ^ h else 0).sum

/-- The entry that FC_SEL shows. -/
def shownEntry (s : State) : Option FcEntry := s.fc[rd s .fc Reg.fc.FC_SEL]?

/-- Computed words of the FC page. -/
def fcViews (s : State) : Nat → List View
  | 0x040 => [(0, 10, s.fc.length)]
  | 0x050 => match shownEntry s with
    | some e => [(0, 16, e.source), (16, 8, e.code), (31, 1, 1)]
    | none => []
  | 0x054 => [(0, 16, ((shownEntry s).map FcEntry.dups).getD 0)]
  | 0x058 => [(0, 32, ((shownEntry s).map FcEntry.detail).getD 0)]
  | _ => []

/-- Computed words of the MC service page. -/
def mcsViews (s : State) : Nat → List View
  | 0x04C => [(0, 13, s.mc.record.length), (13, 1, s.mc.repairing.isSome.toNat)]
  | 0x050 => [(0, 1, s.mc.activeB.toNat), (1, 1, (inactive s).valid.toNat), (2, 1, (s.mc.switching != 0).toNat)]
  | 0x064 => [(0, 16, imageVersion (imageOfSlot s s.mc.activeB)), (16, 16, if (inactive s).valid then imageVersion (inactive s) else 0)]
  | _ => []

/-- ID_DIGEST as an image of its bytes. -/
def idDigestImage (s : State) : Nat := osToImage (idDigest s)

/-- Computed words of the SEB page. -/
def sebViews (s : State) (off : Nat) : List View :=
  match off with
  | 0x040 => [(0, 3, s.seb.state), (8, 8, s.seb.debugMask), (16, 6, s.seb.svnFused)]
  | 0x048 => [(0, 1, (sebBusy s).toNat)]
  | 0x05C => [(0, 4, s.seb.keyValid), (4, 4, s.seb.keyRevoked)]
  | n => if 0x080 ≤ n ∧ n < 0x0A0 then [(0, 32, fieldAt (idDigestImage s) (n - 0x080) 4)] else []

/-- Computed words of a stack controller page. -/
def stackViews (s : State) (h : Fin 16) : Nat → List View
  | 0x088 =>
    let ch := rd s (.stack h) Reg.sc.LANE_SEL
    [(0, 3, popcount 4 (spareMask (dram s h) ch)), (3, 2, (NatMap.get? (dram s h).caSpares ch).getD 0)]
  | 0x090 => [(4, 1, (dram s h).migration.isSome.toNat)]
  | _ => []

/-- HALL_STATE. -/
def hallState (s : State) (h : Nat) : List View :=
  [(0, 17, ((List.range 17).map fun g => if fetching s h g then 2 ^ g else 0).sum), (19, 5, (spareGallery s h).getD 31)]

/-- Computed words of an array and landing page. -/
def arrayViews (s : State) (h : Fin 16) (g : Fin 17) (off : Nat) : List View :=
  let x := gal s h g
  match off with
  | 0x068 => arrayState x
  | 0x080 => landingState s x
  | 0x084 => [(0, 10, x.tail)]
  | 0x144 => asuState s h g
  | 0x148 => [(0, 20, if x.tickets.any (·.timer == 1) then Config.free s.drawn else 0)]
  | n =>
    if 0x0A0 ≤ n ∧ n < 0x0E0 then
      (if n % 8 = 0 then groupState x ((n - 0x0A0) / 8) else groupSig x ((n - 0x0A0) / 8))
    else []

/-- Computed words of the pages that remain. -/
def ownViews (s : State) (p : Page) (off : Nat) : List View :=
  match p with
  | .mcPower => if off = 0x05C then [(0, 12, ticketLimit s)] else []
  | .dispatcher => dispatcherViews s off
  | .memMap => if off = 0x048 then [(0, 11, capacity s)] else []
  | .hif =>
    if off = 0x040 then [(0, 5, popcount 16 (rd s .hif Reg.hif.ACTIVE_MASK))]
    else if off = 0x054 then [(0, 10, (outstanding s).length)]
    else if off = 0x0C0 then [(0, 16, hallPending s)]
    else []
  | .window =>
    if off = 0x040 then [(0, 9, (s.windows.filter (·.live)).length)]
    else if off = 0x048 then
      match shownWindow s with
      | some w => [(0, 16, w.tag), (16, 1, 1), (17, 4, w.sw), (21, 1, w.closing.toNat)]
      | none => []
    else []
  | .seb => sebViews s off
  | .mcService => mcsViews s off
  | .fc => fcViews s off
  | .reset => []
  | .stairwell i =>
    if off = 0x054 then swStateViews (stair s i)
    else if off = 0x088 then slotInfo s i
    else if off = 0x08C then [(0, 32, if (stair s i).wait.any (·.timed) then Config.free s.drawn else 0)]
    else []
  | .link l => linkViews s l off
  | .hall h => if off = 0x040 then hallState s h else []
  | .hallCache h =>
    if off = 0x044 then
      [(0, 5, 24 - popcount 24 (rd s (.hallCache h) Reg.hc.WAY_DISABLE)), (5, 1, (walking s h).toNat), (6, 1, (bypass s h).toNat)]
    else []
  | .stack h => stackViews s h off
  | .dresser h => if off = 0x058 then [(0, 1, (NatMap.get? s.dressers h.val).isSome.toNat)] else []
  | .array h g => arrayViews s h g off
  | .ve h g => if off = 0x064 then veState s h g else []
  | .qu h g => if 0x080 ≤ off ∧ off < 0x0C0 ∧ off % 16 = 0 then genState (gal s h g) ((off - 0x080) / 16) else []
  | .mems h g =>
    if off = 0x050 then [(4, 1, (gal s h g).op.isSome.toNat)]
    else if off = 0x068 then ringState (gal s h g)
    else if off = 0x06C then actRings s h g
    else if off = 0x08C then spareInfo s h g
    else []

/-- 64-bit quantities that are computed, by the offset of their low half. -/
def view64 (s : State) (p : Page) (off : Nat) : Option Nat :=
  match p with
  | .stairwell i => if off = 0x080 then some (((shownSlot s i).map Tracked.addr).getD 0) else none
  | .window =>
    if off = 0x04C then some (((shownWindow s).map Window.addr).getD 0)
    else if off = 0x054 then some (((shownWindow s).map Window.param).getD 0)
    else if off = 0x05C then some (((shownWindow s).map Window.len).getD 0)
    else none
  | .seb => if off = 0x054 then some s.seb.reports else none
  | _ => none

/-! ### Readback spaces (R387 to R389) -/

/-- Groups of a flight in ascending order of window and code. -/
def sortedGroups (f : Flight) : List (Nat × Nat) :=
  (f.groups.map Prod.fst).mergeSort fun a b => decide (a.1 < b.1 ∨ (a.1 = b.1 ∧ a.2 ≤ b.2))

/-- Halfword `i` of a flight register: plane `i % 16` of group `i / 16`. -/
def flightHalf (f : Flight) (i : Nat) : Nat :=
  match (sortedGroups f)[i / 16]? with
  | some p => ((List.range 16).map fun e => bits ((flightCodes f p).getD e 0) (i % 16) 1 * 2 ^ e).sum
  | none => 0

/-- A word of a flight register; one without a flight holds what the last scrub left. -/
def flightWord (x : Gallery) (f : Option Flight) (i : Nat) : Nat :=
  match f with
  | some f => flightHalf f (2 * i) + 2 ^ 16 * flightHalf f (2 * i + 1)
  | none => x.regFill

/-- The weight of the lane in physical row `i / 128`, column `i % 128`, as its digits. -/
def laneHalf (r : TileReg) (i : Nat) : Nat :=
  let row := i / 128
  let col := i % 128
  weightBits r.ww (hPayload r.ww r.image (8 * (row / 16) + col / 16)) (row % 16) (col % 16)

/-- A word of the weight or shadow registers; `empty` is what they hold without a tile. -/
def tileWord (r : Option TileReg) (empty i : Nat) : Nat :=
  match r with
  | some r => laneHalf r (2 * i) + 2 ^ 16 * laneHalf r (2 * i + 1)
  | none => empty

/-- A word of a tile's head and position codes. -/
def headWord (r : Option TileReg) (i : Nat) : Nat := (r.map fun r => fieldAt r.image (4 * i) 4).getD 0

/-- POS and SUMW of the resident tile's columns. -/
def sumsWord (x : Gallery) (i : Nat) : Nat :=
  match x.sums[i / 2]? with
  | some c => twos 32 (if i % 2 = 0 then c.1 else c.2.1)
  | none => 0

/-- Words of an array page's spaces. A scrub fills the flight and shadow registers; the weight registers keep their tile, and
hold 0 before the first (R231, R388; assumption 115). -/
def arraySpace (x : Gallery) (space i : Nat) : Nat :=
  match space with
  | 1 => if i < 512 then flightWord x x.flight i else 0
  | 2 => if i < 512 then flightWord x x.staged i else 0
  | 3 => if i < 8192 then tileWord x.resident 0 i else 0
  | 4 => if i < 8192 then tileWord x.shadow x.regFill i else 0
  | 5 => if i < 24 then headWord x.resident i else 0
  | 6 => if i < 24 then headWord x.shadow i else 0
  | 7 => if i < 8192 then getWord x 3 i else 0
  | 8 => if i < 512 then sumsWord x i else 0
  | _ => 0

/-- Word `i` of a space of a page. -/
def readback (s : State) (p : Page) (space i : Nat) : Nat :=
  match p with
  | .array h g => arraySpace (gal s h g) space i
  | .ve h g =>
    if space = 1 then (((gal s h g).table).getD builtinTable).getD i 0
    else if space = 2 then exp2Coefficients.getD i 0
    else 0
  | .mcService => if space = 1 then fieldAt ((s.mc.record).getD (i / 4) 0) (4 * (i % 4)) 4 else 0
  | .seb =>
    if space = 1 then (if i < 97 then fieldAt (osToImage (publicKey s)) (4 * i) 4 else 0)
    else if space = 2 then
      match s.seb.cert with
      | some (n, v) => if i = 0 then n else if i < 1025 then fieldAt (v % 2 ^ (8 * n)) (4 * (i - 1)) 4 else 0
      | none => 0
    else 0
  | _ => 0

/-! ### A word as it reads -/

/-- The page whose stored fields a word shows: STATUS and CONTROL of a gallery are one register each (R383). -/
def homeAt (p : Page) (off : Nat) : Page := if off = 0x008 ∨ off = 0x00C then p.home else p

/-- The stored fields of a word, 64-bit quantities cut to their half. -/
def storedViews (s : State) (p : Page) (off : Nat) : List View :=
  (homeAt p off).rows.filterMap fun e =>
    let f := e.1
    if f.width = 64 then
      (if f.off = off then some (0, 32, rd s p f % 2 ^ 32)
        else if f.off + 4 = off then some (0, 32, rd s p f / 2 ^ 32)
        else none)
    else if f.off = off then some (f.lsb, f.width, rd s (homeAt p off) f)
    else none

/-- Header words that every page computes (R382). -/
def headerViews (s : State) (p : Page) (off : Nat) : List View :=
  match off with
  | 0x000 => [(0, 8, p.type), (8, 8, p.inst), (16, 8, p.sub)]
  | 0x004 => [(8, 8, 1)]
  | 0x008 => statusViews s p
  | 0x024 => [(0, 32, readback s p (rd s p Reg.hdr.READBACK_SEL_SPACE) (rd s p Reg.hdr.READBACK_SEL_INDEX))]
  | _ => []

/-- The computed fields of a word. -/
def computedViews (s : State) (p : Page) (off : Nat) : List View :=
  if off < 0x040 then headerViews s p off
  else match view64 s p off, view64 s p (off - 4) with
    | some v, _ => [(0, 32, v % 2 ^ 32)]
    | none, some v => [(0, 32, v / 2 ^ 32)]
    | none, none => ownViews s p off ++ holdView s p off

/-- A word of a page as it reads; reserved bits and undefined offsets read 0 (R10). -/
def liveWord (s : State) (p : Page) (off : Nat) : Nat :=
  ((storedViews s p off ++ computedViews s p off).map fun v => (v.2.2 % 2 ^ v.2.1) * 2 ^ v.1).sum % 2 ^ 32

end Sys2Proof.Machine
end

