-- ==== Sys2Proof/Machine/Registers.lean ====
section
/-! DEFINITION. Register accesses: by access type and field (R7 to R12, R85, R383 to R387), the lifecycle state's and
the reset phase's permissions (R355, R363, R371), and the requests that carry them (R11, R318, R329). -/

namespace Sys2Proof.Machine

/-- The state after a command, for a write that acts as one. -/
def after (s : State) : Host.Outcome State Fault Refusal → State
  | .next t => t
  | _ => s

/-! ### 64-bit pairs (R12) -/

/-- The stored 64-bit quantity whose low half lies at an offset. -/
def storedPair (p : Page) (off : Nat) : Option (Fld × Acc) := p.rows.find? fun e => e.1.width == 64 && e.1.off == off

/-- A computed 64-bit quantity as a field. -/
def viewFld (off : Nat) : Fld := ⟨off, 0, 64, 0⟩

/-- The 64-bit quantity whose low half lies at an offset, with its value. -/
def pairAt (s : State) (p : Page) (off : Nat) : Option (Fld × Nat) :=
  match storedPair p off with
  | some e => some (e.1, rd s p e.1)
  | none => (view64 s p off).map fun v => (viewFld off, v)

/-- A read of a low half latches the high half for its path. -/
def readLow (s : State) (path : Path) (p : Page) (f : Fld) (v : Nat) : State × Nat :=
  ({ s with latches := NatMap.set s.latches (pairKey path p f) (v / 2 ^ 32) }, v % 2 ^ 32)

/-- A read of a high half returns what its path latched and releases the latch, or the live value. -/
def readHigh (s : State) (path : Path) (p : Page) (f : Fld) (v : Nat) : State × Nat :=
  match NatMap.get? s.latches (pairKey path p f) with
  | some w => ({ s with latches := NatMap.del s.latches (pairKey path p f) }, w)
  | none => (s, v / 2 ^ 32)

/-- PAIR_LOW_READ. -/
def execPairLowRead (path : Path) (page : Page) (off : BitVec 12) (s : State) : Host.Outcome State Fault Refusal :=
  match pairAt s page off.toNat with
  | some e => let r := readLow s path page e.1 e.2; .next (returnRead r.1 path r.2)
  | none => .next s

/-- PAIR_HIGH_READ. -/
def execPairHighRead (path : Path) (page : Page) (off : BitVec 12) (s : State) : Host.Outcome State Fault Refusal :=
  if off.toNat < 4 then .next s
  else match pairAt s page (off.toNat - 4) with
    | some e => let r := readHigh s path page e.1 e.2; .next (returnRead r.1 path r.2)
    | none => .next s

/-- The bits of a quantity that its register holds; the others are reserved (R10, R262). -/
def pairBits (p : Page) (f : Fld) (v : Nat) : Nat :=
  match p with
  | .mems _ _ => if f = Reg.gm.SPILL_ADDR then v % 2 ^ 40 else v
  | _ => v

/-- A write of a low half is staged. -/
def writeLow (s : State) (path : Path) (p : Page) (off v : Nat) : State :=
  match storedPair p off with
  | some (f, .rw) => stageLow s path p f v
  | _ => s

/-- A write of a high half commits the quantity; LIST_PTR and MAP have commands of their own. -/
def writeHigh (s : State) (path : Path) (p : Page) (off v : Nat) : State :=
  match storedPair p (off - 4) with
  | some (f, .rw) =>
    match p with
    | .stairwell i =>
      if f = Reg.sw.LIST_PTR then after s (execListPtrWrite i path (BitVec.ofNat 32 v) s)
      else let r := commitPair s path p f v; wr r.2 p f r.1
    | .memMap => after s (execMapWrite path (BitVec.ofNat 32 v) s)
    | _ => let r := commitPair s path p f v; wr r.2 p f (pairBits p f r.1)
  | _ => s

/-! ### Reads -/

/-- A word whose value is the time a timer has left, which the manual does not fix. -/
def isTimer (p : Page) (off : Nat) : Bool :=
  match p with
  | .array _ _ => off == 0x148
  | .stairwell _ => off == 0x08C
  | _ => false

/-- READBACK_DATA: AUTO_INC advances INDEX (R387). -/
def readData (s : State) (p : Page) : State × Nat :=
  let v := liveWord s p 0x024
  (if on s p Reg.hdr.AUTO_INC then wr s p Reg.hdr.READBACK_SEL_INDEX (rd s p Reg.hdr.READBACK_SEL_INDEX + 1) else s, v)

/-- READBACK_DATA_READ. -/
def execReadbackDataRead (path : Path) (page : Page) (s : State) : Host.Outcome State Fault Refusal :=
  let r := readData s page
  .next (returnRead r.1 path r.2)

/-- The RC fields of a word. -/
def rcFields (p : Page) (off : Nat) : List Fld := (p.rows.filter fun e => e.2 == .rc && e.1.off == off).map Prod.fst

/-- A word read, and its RC fields cleared; one that counts an event in the same handshake holds 1 (R7, R8). -/
def readClear (s : State) (p : Page) (off : Nat) (event : Bool) : State × Nat :=
  ((rcFields p off).foldl (fun s f => wr s p f event.toNat) s, liveWord s p off)

/-- RC_FIELD_READ. -/
def execRcFieldRead (path : Path) (page : Page) (off : BitVec 12) (event : Bool) (s : State) :
    Host.Outcome State Fault Refusal :=
  let r := readClear s page off.toNat event
  .next (returnRead r.1 path r.2)

/-- A word that has no behaviour of its own when it is read. -/
def readPlain (s : State) (p : Page) (off : Nat) : State × Nat :=
  let r := readClear s p off false
  (if isTimer p off then { r.1 with drawn := r.1.drawn + 1 } else r.1, r.2)

/-- The window words of a memories page. -/
def windowAt (p : Page) (off : Nat) : Option (Fin 16 × Fin 17 × Nat) :=
  match p with
  | .mems h g => if 0x800 ≤ off ∧ off < 0xA00 then some (h, g, (off - 0x800) / 4) else none
  | _ => none

/-- A register read by a path. -/
def readReg (s : State) (path : Path) (p : Page) (off : Nat) : State × Nat :=
  if off = 0x024 then readData s p
  else match windowAt p off with
    | some (h, g, i) => readWindow s h g i []
    | none =>
      match pairAt s p off with
      | some e => readLow s path p e.1 e.2
      | none =>
        match (if off < 4 then none else pairAt s p (off - 4)) with
        | some e => readHigh s path p e.1 e.2
        | none => readPlain s p off

/-! ### Writes by access type (R7, R10) -/

/-- Fields for which 0 is written as 1 (R235, R262, R281, R310, R332). -/
def zeroAsOne (p : Page) (f : Fld) : Bool :=
  match p with
  | .stairwell _ => f == Reg.sw.POLL_US
  | .mems _ _ => f == Reg.gm.CE_THRESHOLD
  | .stack _ => f == Reg.sc.ROW_CE_THRESHOLD || f == Reg.sc.LANE_CE_THRESHOLD
  | .link _ => f == Reg.lnk.RETRAIN_LIMIT || f == Reg.lnk.LANE_ERR_THRESHOLD || f == Reg.lnk.REPLAY_100NS
      || f == Reg.lnk.CLOSE_100NS || f == Reg.lnk.ACK_100NS
  | .hif => f == Reg.hif.CPL_TIMEOUT_US || f == Reg.hif.LANE_ERR_THRESHOLD
  | _ => false

/-- A field written with its bits of a word. -/
def writeField (s : State) (p : Page) (f : Fld) (a : Acc) (word : Nat) : State :=
  let v := bits word f.lsb f.width
  match a with
  | .rw => wr s p f (if v = 0 ∧ zeroAsOne p f then 1 else v)
  | .w1c => wr s p f (rd s p f - (rd s p f &&& v))
  | .w1s => wr s p f (rd s p f ||| v)
  | .ro | .rc => s

/-- The fields of a word written by their access types. -/
def writeFieldsAt (s : State) (p : Page) (off word : Nat) : State :=
  (p.rows.filter fun e => e.1.off == off && e.1.width != 64).foldl (fun s e => writeField s p e.1 e.2 word) s

/-- A register of the MC service page whose fields lie within their ranges (R350). -/
def rangeLegal (off word : Nat) : Bool :=
  match off with
  | 0x040 => decide (60 ≤ bits word 0 8 ∧ bits word 0 8 ≤ 104) && decide (1 ≤ bits word 9 12 ∧ bits word 9 12 ≤ 2048)
  | 0x048 => decide (1 ≤ bits word 8 8)
  | _ => true

/-- The word at an offset written by access types; one of the MC service page out of range is discarded. -/
def writePlain (s : State) (p : Page) (off word : Nat) : State :=
  if p = .mcService ∧ !rangeLegal off word then stateErr s p else writeFieldsAt s p off word

/-! ### The header (R382 to R385) -/

/-- Bits of a mask, lowest first. -/
def bitList (mask : Nat) : List Nat := (List.range 32).filter (bit mask)

/-- STICKY bits that hardware sets in the handshake of a write. -/
def setBitsOf (s : State) (p : Page) (hw : Nat) : State :=
  (bitList (hw &&& p.stickyBits)).foldl (fun s b => setSticky s p b) s

/-- STICKY written; a bit that hardware sets in the same handshake stays set (R8). -/
def clearSticky (s : State) (p : Page) (value hw : Nat) : State :=
  let old := rd s p Reg.hdr.STICKY
  setBitsOf (wr s p Reg.hdr.STICKY (old - (old &&& (value - (value &&& hw))))) p hw

/-- A host write of a word, and what hardware does in the same handshake: `body` is both, and `other` is hardware's part
alone, which stands when the write is not permitted. -/
def beside (s : State) (p : Page) (off word : Nat) (other : State → State) (body : State) : State :=
  if s.rst.held then s
  else if permits s .mainband p off then body else other (refuseWrite s .mainband p off word)

/-- STICKY_CLEAR. -/
def execStickyClear (page : Page) (value hw : BitVec 32) (s : State) : Host.Outcome State Fault Refusal :=
  .next (beside s page 0x018 value.toNat (fun s => setBitsOf s page hw.toNat) (clearSticky s page value.toNat hw.toNat))

/-- STICKY_MASK written, before the settings of the same handshake (R384). -/
def writeMask (s : State) (p : Page) (value hw : Nat) : State :=
  setBitsOf (wr s p (Reg.hdr.STICKY_MASK p) (value &&& p.stickyBits)) p hw

/-- STICKY_MASK_WRITE. -/
def execStickyMaskWrite (page : Page) (value hw : BitVec 32) (s : State) : Host.Outcome State Fault Refusal :=
  .next (beside s page 0x01C value.toNat (fun s => setBitsOf s page hw.toNat) (writeMask s page value.toNat hw.toNat))

/-- CONTROL.ENABLE written, before the settings of the same handshake (R384). -/
def writeEnable (s : State) (p : Page) (enable : Bool) (hw : Nat) : State :=
  setBitsOf (wr s p.home Reg.hdr.CONTROL_ENABLE enable.toNat) p hw

/-- CONTROL_ENABLE_WRITE. -/
def execControlEnableWrite (page : Page) (enable : Bool) (hw : BitVec 32) (s : State) :
    Host.Outcome State Fault Refusal :=
  .next (beside s page 0x00C enable.toNat (fun s => setBitsOf s page hw.toNat) (writeEnable s page enable hw.toNat))

/-- CONTROL of a gallery beyond ENABLE: a change of QUIESCE acts as DRAIN or RESUME (R339), and then SCRUB (R385). -/
def writeGalleryControl (s : State) (h : Fin 16) (g : Fin 17) (word : Nat) : State :=
  let s :=
    if bit word 1 && !quiesced s h g then after s (execQuiesceSet h g s)
    else if !bit word 1 && quiesced s h g then after s (execQuiesceClear h g s)
    else s
  if bit word 2 then after s (execGalleryScrub h g s) else s

/-- CONTROL written. -/
def writeControl (s : State) (p : Page) (word : Nat) : State :=
  let s := writeEnable s p (bit word 0) 0
  match p with
  | .array h g | .ve h g | .qu h g | .mems h g => writeGalleryControl s h g word
  | _ => s

/-! ### Counters and latches (R85, R258) -/

/-- The counters at the offsets of a range set to 0, FIFO_HOLD among them. -/
def clearRange (s : State) (p : Page) (r : Nat × Nat) : State :=
  let s := if (holdOff p).any fun off => decide (r.1 ≤ off ∧ off ≤ r.2) then clearHold s p else s
  (p.rows.filter fun e => decide (r.1 ≤ e.1.off ∧ e.1.off ≤ r.2)).foldl (fun s e => wr s p e.1 0) s

/-- The counters of a page's clear bit set to 0. -/
def clearCounters (s : State) (p : Page) (off : Nat) : State :=
  match p.clears.find? fun c => c.1 == off with
  | some c => c.2.2.foldl (fun s r => clearRange s p r) s
  | none => s

/-- An event counted by the counter at an offset, when a clear bit covers it. -/
def countEvent (s : State) (p : Page) (off : Nat) : State :=
  if holdOff p = some off then countHold s p 1
  else match p.rows.find? fun e => e.1.off == off && p.clears.any fun c => c.2.2.any fun r => decide (r.1 ≤ off ∧ off ≤ r.2) with
  | some e => bump s p e.1
  | none => s

/-- The word that writes the clear bit of a page at an offset as 1. -/
def clearWord (p : Page) (off : Nat) : Nat := ((p.clears.find? fun c => c.1 == off).map fun c => 2 ^ c.2.1).getD 0

/-- Events counted by a page's counters, by their offsets. -/
def countEvents (s : State) (p : Page) (events : List (BitVec 12)) : State :=
  events.foldl (fun s e => countEvent s p e.toNat) s

/-- COUNTER_CLEAR: an event of the same handshake counts after the clear. -/
def execCounterClear (page : Page) (off : BitVec 12) (events : List (BitVec 12)) (s : State) :
    Host.Outcome State Fault Refusal :=
  .next (beside s page off.toNat (clearWord page off.toNat) (fun s => countEvents s page events)
    (countEvents (clearCounters s page off.toNat) page events))

/-- The VALID bit of a page's fault latch. -/
def latchBit : Page → Option Fld
  | .hallCache _ => some Reg.hc.FAULT_INFO_VALID
  | .stack _ => some Reg.sc.FAULT_INFO_VALID
  | .hif => some Reg.hif.FAULT_INFO_VALID
  | .mems _ _ => some Reg.gm.UE_INFO_VALID
  | _ => none

/-- VALID as it stands after a handshake in which hardware latches a fault, or none. -/
def latchAgain (s : State) (p : Page) (f : Fld) (hw : Bool) : State := if hw then wr s p f 1 else s

/-- FAULT_LATCH_RELEASE; a latch that hardware takes in the same handshake stays (R8). -/
def execFaultLatchRelease (latch : LatchRelease) (s : State) : Host.Outcome State Fault Refusal :=
  let page := latch.page
  match latchBit page with
  | some f =>
    .next (beside s page f.off (2 ^ f.lsb) (fun s => latchAgain s page f latch.hw)
      (latchAgain (wr s page f 0) page f latch.hw))
  | none => .next s

/-! ### Command registers -/

/-- SW_CMD. -/
def writeSwCmd (s : State) (i : Fin 16) (word : Nat) : State :=
  match bits word 0 2 with
  | 1 => after s (execStart i s)
  | 2 => after s (if bit word 2 then execKillWithScrub i s else execKill i s)
  | 3 => after s (execResume i s)
  | _ => s

/-- GALLERY_CMD (*Gallery commands*). -/
def writeGalleryCmd (s : State) (h : Fin 16) (word : Nat) : State :=
  let g := bits word 0 5
  let cmd := bits word 5 3
  if 16 < g ∨ 4 < cmd then hallErr s h
  else match cmd with
    | 1 => after s (execDrain h (Fin.ofNat 17 g) s)
    | 2 => after s (execAbandon h (Fin.ofNat 17 g) s)
    | 3 => after s (execSwap h (Fin.ofNat 17 g) (Fin.ofNat 32 (bits word 8 5)) s)
    | 4 => after s (execGalleryResume h (Fin.ofNat 17 g) s)
    | _ => s

/-- HALL_CMD. -/
def writeHallCmd (s : State) (h : Fin 16) (word : Nat) : State :=
  match bits word 0 2 with
  | 0 => s
  | 1 => after s (execHallRetire h s)
  | _ => hallErr s h

/-- MEM_OP: without an operation MEM takes its value; OP 3 and MEM 3 are rejected (R245, R262). -/
def writeMemOp (s : State) (h : Fin 16) (g : Fin 17) (word : Nat) : State :=
  let m : BitVec 2 := BitVec.ofNat 2 word
  match bits word 2 2 with
  | 1 => after s (execMemOpFill h g m s)
  | 2 => after s (execMemOpCopy h g m s)
  | op =>
    if !opensToHost s h g || (gal s h g).op.isSome then stateErr s (memPage h g)
    else if op = 3 ∨ m = 3 then setSticky s (memPage h g) Sticky.gm.OP_REJECT
    else wr s (memPage h g) Reg.gm.MEM_OP_MEM m.toNat

/-- FW_CMD. -/
def writeFwCmd (s : State) (word : Nat) : State :=
  match bits word 0 2 with
  | 1 => after s (execLoad s)
  | 2 => after s (execSwitch s)
  | 3 => after s (execRevert s)
  | _ => s

/-- SEB_CMD. -/
def writeSebCmd (s : State) (path : Path) (word : Nat) : State :=
  match bits word 0 4 with
  | 0 => s
  | 1 => after s (execChallenge s)
  | 2 => after s (execAttest s)
  | 3 => after s (execTransition path { target := BitVec.ofNat 3 (bits word 4 3), also := [] } s)
  | 4 => after s (execCommitSvn s)
  | 5 => after s (execEraseRecord s)
  | 6 => after s (execWriteCert s)
  | _ => stateErr s .seb

/-- GROUP_CMD (R126). -/
def writeGroupCmd (s : State) (h : Fin 16) (g : Fin 17) (word : Nat) : State :=
  match bits word 4 2 with
  | 0 => s
  | 1 => after s (execGroupCmdClose h g (Fin.ofNat 8 (bits word 0 3)) s)
  | _ => stateErr s (arrPage h g)

/-- A MC power page write, with CAL_NOW. -/
def writeMcPower (s : State) (off word : Nat) : State :=
  let s := after s (execMcConfigWrite (BitVec.ofNat 12 off) (BitVec.ofNat 32 word) s)
  if off = 0x060 ∧ bit word 31 then after s (execCalNow s) else s

/-- A word after the header of a page, with the commands that its WO and special fields are. -/
def writeOwn (s : State) (path : Path) (p : Page) (off word : Nat) : State :=
  match p, off with
  | .mcPower, _ => writeMcPower s off word
  | .stairwell i, 0x050 => writeSwCmd s i word
  | .hall h, 0x044 => writeHallCmd s h word
  | .hall h, 0x048 => writeGalleryCmd s h word
  | .hallCache h, 0x040 => after s (execWayDisableWrite h (BitVec.ofNat 32 word) s)
  | .stack h, 0x08C => after s (execDieRetire h (BitVec.ofNat 32 word) s)
  | .mems h g, 0x040 => after s (execActSplitWrite h g (BitVec.ofNat 32 word) s)
  | .mems h g, 0x050 => writeMemOp s h g word
  | .array h g, 0x08C => writeGroupCmd s h g word
  | .link l, 0x040 =>
    let s := writePlain s p off word
    if bit word 1 then after s (execLinkRetrain l s) else s
  | .hif, 0x04C => if bit word 0 then after s (execHifRetrain s) else s
  | .fc, 0x044 => if bit word 0 then after s (execClearTable [] s) else s
  | .mcService, 0x054 => writeFwCmd s word
  | .seb, 0x044 => writeSebCmd s path word
  | .reset, 0x04C => after s (execHostReset { value := BitVec.ofNat 32 word, also := [] } s)
  | _, _ => writePlain s p off word

/-- VEC_CTRL of a vector, at its offset in the host interface page. -/
def vectorAt (p : Page) (off : Nat) : Option (Fin 64) :=
  match p with
  | .hif => if 0x400 ≤ off ∧ off < 0x800 ∧ off % 16 = 12 then some (Fin.ofNat 64 ((off - 0x400) / 16)) else none
  | _ => none

/-- The clear bit of a page at an offset is written as 1. -/
def clearsAt (p : Page) (off word : Nat) : Bool := p.clears.any fun c => c.1 == off && bit word c.2.1

/-- A write of a whole word of a page, taken as the commands that it is. -/
def writeWord (s : State) (path : Path) (p : Page) (off word : Nat) : State :=
  if off = 0x00C then writeControl s p word
  else if off = 0x018 then clearSticky s p word 0
  else if off = 0x01C then writeMask s p word 0
  else if off < 0x040 then writeFieldsAt s (homeAt p off) off word
  else match windowAt p off with
    | some (h, g, i) => after s (execWinWordWrite h g (Fin.ofNat 128 i) (BitVec.ofNat 32 word) s)
    | none =>
      match vectorAt p off with
      | some v => writeVecCtrl s v.val (bit word 0)
      | none =>
        if (storedPair p off).isSome then writeLow s path p off word
        else if (storedPair p (off - 4)).isSome then writeHigh s path p off word
        else
          let s := writeOwn s path p off word
          if clearsAt p off word then clearCounters s p off else s

/-! ### Host writes (R8, R355, R363, R371) -/

/-- A register write by a path, and whether it was permitted. -/
def writeReg (s : State) (path : Path) (p : Page) (off word : Nat) : State × Bool :=
  if permits s path p off then (writeWord s path p off word, true) else (refuseWrite s path p off word, false)

/-- The W1C fields of a word; those of a gallery's STATUS are in its home page. -/
def w1cFields (p : Page) (off : Nat) : List Fld :=
  ((homeAt p off).rows.filter fun e => e.2 == .w1c && e.1.off == off && e.1.width != 64).map Prod.fst

/-- The W1C bits of a word. -/
def w1cBits (p : Page) (off : Nat) : Nat :=
  (w1cFields p off).foldl (fun m f => m ||| (2 ^ f.width - 1) * 2 ^ f.lsb) 0

/-- W1C bits of a word that hardware sets; those of STICKY signal. -/
def hwSets (s : State) (p : Page) (off hw : Nat) : State :=
  if hw = 0 then s
  else if off = 0x018 then setBitsOf s p hw
  else (w1cFields p off).foldl
    (fun s f => wr s (homeAt p off) f (rd s (homeAt p off) f ||| bits hw f.lsb f.width)) s

/-- A word written in the handshake in which hardware sets W1C bits of it: those bits are not cleared (R8). -/
def writeBeside (s : State) (path : Path) (p : Page) (off word hw : Nat) : State :=
  let set := hw &&& w1cBits p off
  hwSets (writeReg s path p off (word - (word &&& set))).1 p off set

/-- A word that selects what another word shows: a write of it takes effect after a read of the other in the same
handshake, by whichever path (R235, R262, R281, R310, R350, R387, and *Dispatcher registers*). -/
def selects (p : Page) (off shown : Nat) : Bool :=
  (off == 0x020 && shown == 0x024) || match p with
    | .dispatcher => off == 0x064 && decide (0x068 ≤ shown ∧ shown ≤ 0x078)
    | .stairwell _ => off == 0x07C && decide (0x080 ≤ shown ∧ shown ≤ 0x088)
    | .mems _ _ => (off == 0x060 && decide (0x800 ≤ shown ∧ shown < 0xA00)) || (off == 0x088 && shown == 0x08C)
    | .stack _ => off == 0x084 && shown == 0x088
    | .link _ => (off == 0x0A8 && shown == 0x0AC) || (off == 0x0B0 && decide (0x0B4 ≤ shown ∧ shown ≤ 0x0B8))
    | .fc => off == 0x04C && decide (0x050 ≤ shown ∧ shown ≤ 0x058)
    | _ => false

/-- A read of a page by a path, and the word it returns. -/
def readAlso (s : State) (p : Page) (reading : Path × BitVec 12) : State :=
  let r := readReg s reading.1 p reading.2.toNat
  returnRead r.1 reading.1 r.2

/-- A read beside a write of the same page in one handshake comes first, but a mainband request comes before a sideband
one, unless the word written selects what the read shows (R281, R329). -/
def readsFirst (path : Path) (p : Page) (off : Nat) (reading : Path × BitVec 12) : Bool :=
  path == .sideband || reading.1 == .mainband || selects p off reading.2.toNat

/-- REGISTER_WRITE, with the read of its page in the same handshake. -/
def execRegisterWrite (path : Path) (page : Page) (off : BitVec 12) (value : WordWrite) (s : State) :
    Host.Outcome State Fault Refusal :=
  let write (s : State) : State := writeBeside s path page off.toNat value.word.toNat value.hw.toNat
  if s.rst.held then .next s
  else match value.reading with
    | none => .next (write s)
    | some r => .next (if readsFirst path page off.toNat r then write (readAlso s page r) else readAlso (write s) page r)

/-- PAIR_LOW_WRITE. -/
def execPairLowWrite (path : Path) (page : Page) (off : BitVec 12) (value : BitVec 32) (s : State) :
    Host.Outcome State Fault Refusal :=
  .next (ifPermitted s path page off.toNat value.toNat (writeLow s path page off.toNat value.toNat))

/-- PAIR_HIGH_WRITE. -/
def execPairHighWrite (path : Path) (page : Page) (off : BitVec 12) (value : BitVec 32) (s : State) :
    Host.Outcome State Fault Refusal :=
  if off.toNat < 4 then .next s
  else .next (ifPermitted s path page off.toNat value.toNat (writeHigh s path page off.toNat value.toNat))

/-! ### Requests (R318, R329) -/

/-- The page at an address of register space (R379, R380). -/
def pageAt (a : Nat) : Option Page :=
  let n := a / 4096
  if n < 9 then
    [Page.mcPower, .dispatcher, .memMap, .hif, .window, .seb, .mcService, .fc, .reset][n]?
  else if 0x100 ≤ n ∧ n < 0x110 then some (swPage (n - 0x100))
  else if 0x200 ≤ n ∧ n < 0x208 then some (linkPage (n - 0x200))
  else if 0x1000 ≤ n ∧ n < 0x2000 then
    let h := (n - 0x1000) / 256
    let k := n % 256
    if k < 4 then [hallPage h, hcPage h, scPage h, drsPage h][k]?
    else if 0x10 ≤ k ∧ k < 0x54 then
      let g := (k - 0x10) / 4
      [arrPage h g, vePage h g, quPage h g, memPage h g][k % 4]?
    else none
  else none

/-- The address of a register access is legal: one aligned word below 0x0400_0000 (R11, R318). -/
def regLegal (a len : Nat) : Bool := len == 4 && a % 4 == 0 && decide (a < 0x4000000)

/-- A read of a word of register space. -/
def readSpace (s : State) (path : Path) (a : Nat) : State × Nat :=
  match pageAt a with
  | some p => readReg s path p (a % 4096)
  | none => (s, 0)

/-- A write of a word of register space, and whether it was permitted. -/
def writeSpace (s : State) (path : Path) (a word : Nat) : State × Bool :=
  match pageAt a with
  | some p => writeReg s path p (a % 4096) word
  | none => (s, ready s)

/-- REG_RD. -/
def execRegRd (tag : BitVec 10) (addr : BitVec 64) (len : Nat) (s : State) : Host.Outcome State Fault Refusal :=
  if !ohtLength len then .next s
  else .next (hostRequest s 0 1 1 fun s =>
    if regLegal addr.toNat len then
      let r := readSpace s .mainband addr.toNat
      complete (returnRead r.1 .mainband r.2) tag.toNat 0 4 (some r.2)
    else complete s tag.toNat 1 len none)

/-- REG_WR. Its completion carries no byte, LEN_M1 0, as chapter 15's example shows for one that succeeds (DEDUCED for the
others, assumption 117). -/
def execRegWr (tag : BitVec 10) (addr : BitVec 64) (len : Nat) (value : BitVec 32) (s : State) :
    Host.Outcome State Fault Refusal :=
  if !ohtLength len then .next s
  else .next (hostRequest s 0 1 (ceilDiv (32 + len) 128) fun s =>
    if regLegal addr.toNat len then
      let r := writeSpace s .mainband addr.toNat value.toNat
      complete r.1 tag.toNat (if r.2 then 0 else 2) 1 none
    else complete s tag.toNat 1 1 none)

/-- The sideband answers: the device is out of reset and past FUSES, and a sideband is left (R329, R370, R391). -/
def sidebandOpen (s : State) : Bool := phaseAtLeast s 2 && decide (s.hif.sidebandModule < 16)

/-- A sideband completion; a sideband that the request has closed by a reset sends none. -/
def reply (s : State) (r : SidebandReply) : State :=
  if sidebandOpen s then { s with hif := { s.hif with sideband := r :: s.hif.sideband } } else s

/-- What a sideband request does, and what it is answered with. -/
def serveSideband (s : State) (addr : Nat) (op : SidebandOp) : State × SidebandReply :=
  if !regLegal addr 4 then (s, .error)
  else match op with
    | .read => let r := readSpace s .sideband addr; (returnRead r.1 .sideband r.2, .data (r.2 % 2 ^ 32))
    | .write v => let r := writeSpace s .sideband addr v.toNat; (r.1, if r.2 then .written else .error)

/-- The answering sideband fails, and the next one answers (R391). -/
def failSideband (s : State) : State :=
  if 16 ≤ s.hif.sidebandModule then s
  else
    let lost := s.hif.sidebandModule :: s.hif.sidebandLost
    { s with hif := { s.hif with sidebandLost := lost, sidebandModule := nextSideband s.hif.sidebandUp lost } }

/-- A register request on the mainband. -/
def mainbandRequest (s : State) (x : MainbandCall) : State :=
  match x.write with
  | some v => after s (execRegWr x.tag x.addr x.len v s)
  | none => after s (execRegRd x.tag x.addr x.len s)

/-- SIDEBAND_REQUEST, behind a mainband request that reaches a page in the same handshake (R329). One whose sideband fails
once it has reached its page receives no completion (R391). -/
def execSidebandRequest (addr : BitVec 64) (call : SidebandCall) (s : State) : Host.Outcome State Fault Refusal :=
  let s := match call.mainband with
    | some x => mainbandRequest s x
    | none => s
  if sidebandOpen s then
    let r := serveSideband s addr.toNat call.op
    .next (if call.lost then failSideband r.1 else reply r.1 r.2)
  else .next s

/-- SIDEBAND_FAILOVER: the answering sideband fails with no request of its in flight. -/
def execSidebandFailover (s : State) : Host.Outcome State Fault Refusal := .next (failSideband s)

end Sys2Proof.Machine
end

