-- ==== Sys2Proof/Machine/Tick.lean ====
section
/-! DEFINITION. What the device does when no command waits: it returns the credits it owes the host (R326) and copies
one sector of each migrating stack (R275). -/

namespace Sys2Proof.Machine

/-- The credits owed to the host go back in one CREDIT packet. -/
def returnCredits (s : State) : State :=
  if !linkUp s || on s .hif Reg.hif.RETRAINING || (s.hif.owedPosted == 0 && s.hif.owedNonposted == 0) then s
  else
    let p : Packet := .credit s.hif.owedPosted s.hif.owedNonposted
    emit { s with hif := { s.hif with
      hostPosted := s.hif.hostPosted - s.hif.owedPosted
      hostNonposted := s.hif.hostNonposted - s.hif.owedNonposted
      owedPosted := 0
      owedNonposted := 0 } } p

/-- One sector of a stack's migration. -/
def migrate (s : State) (h : Nat) : State :=
  match (dram s h).migration with
  | some m => copySector s h m
  | none => s

def tick (s : State) : State := (List.range 16).foldl migrate (returnCredits s)

end Sys2Proof.Machine
end

