-- ==== Sys2Proof/Machine/Timers.lean ====
section
/-! DEFINITION. The end of a timer's calibration, with an expiry of the same handshake (R30, R31). -/

namespace Sys2Proof.Machine

/-- What the expiry of a timer does. -/
def execExpiry (x : Expiry) (s : State) : Host.Outcome State Fault Refusal :=
  match x with
  | .deadline h g => execDeadlineTimerExpiry h g s
  | .watchdog h g k => execTreadWatchdogExpiry h g k s
  | .timeout sw => execWaitTimeout sw s
  | .poll sw => execWaitWordPollTimer sw s
  | .completion tag => execCplTimeout tag s
  | .retiredTag tag => execRetiredTagRelease tag s
  | .replay l => execReplayTimerExpiry l s
  | .ack l c => execAckTimerExpiry l c s
  | .close l => execWindowCloseTimeout l s
  | .sagEntry => execSagWarnEntry s
  | .sagExit => execSagWarnExit s
  | .loop sample => execPowerLoopPeriod sample s
  | .firmware => execFwReadyTimeout s

/-- TIMER_CALIBRATION_DONE: the timer's new value, which leaves a running timer as it is. An expiry of that timer in the same
handshake stands, and the new value applies from the next programmed duration (R31). -/
def execTimerCalibrationDone (t : Timer) (periods : Nat) (expiring : Option Expiry) (s : State) :
    Host.Outcome State Fault Refusal :=
  match expiring.filter (·.timer == t) with
  | none => .next (calibrate s t periods)
  | some x =>
    match execExpiry x s with
    | .next u => .next (calibrate u t periods)
    | o => o

end Sys2Proof.Machine
end

