-- ==== Sys2Proof/Machine/Dispatch.lean ====
section
/-! DEFINITION. What each command does: one arm per constructor, each a call of its meaning. -/

namespace Sys2Proof.Machine

def exec (i : Instr) (s : State) : Host.Outcome State Fault Refusal :=
  match i with
  | .registerWrite path page off value => Sys2Proof.Machine.execRegisterWrite path page off value s
  | .rcFieldRead path page off event => Sys2Proof.Machine.execRcFieldRead path page off event s
  | .pairLowRead path page off => Sys2Proof.Machine.execPairLowRead path page off s
  | .pairHighRead path page off => Sys2Proof.Machine.execPairHighRead path page off s
  | .pairLowWrite path page off value => Sys2Proof.Machine.execPairLowWrite path page off value s
  | .pairHighWrite path page off value => Sys2Proof.Machine.execPairHighWrite path page off value s
  | .stickyClear page value hw => Sys2Proof.Machine.execStickyClear page value hw s
  | .stickyMaskWrite page value hw => Sys2Proof.Machine.execStickyMaskWrite page value hw s
  | .controlEnableWrite page enable hw => Sys2Proof.Machine.execControlEnableWrite page enable hw s
  | .readbackDataRead path page => Sys2Proof.Machine.execReadbackDataRead path page s
  | .counterClear page off events => Sys2Proof.Machine.execCounterClear page off events s
  | .faultLatchRelease latch => Sys2Proof.Machine.execFaultLatchRelease latch s
  | .mcConfigWrite off value => Sys2Proof.Machine.execMcConfigWrite off value s
  | .calNow => Sys2Proof.Machine.execCalNow s
  | .calIntervalExpiry t => Sys2Proof.Machine.execCalIntervalExpiry t s
  | .timerCalibrationDone t periods expiring => Sys2Proof.Machine.execTimerCalibrationDone t periods expiring s
  | .powerLoopPeriod sample => Sys2Proof.Machine.execPowerLoopPeriod sample s
  | .vcoreBelowVwarn mv => Sys2Proof.Machine.execVcoreBelowVwarn mv s
  | .sagWarnEntry => Sys2Proof.Machine.execSagWarnEntry s
  | .vcoreAboveVwarn mv => Sys2Proof.Machine.execVcoreAboveVwarn mv s
  | .sagWarnExit => Sys2Proof.Machine.execSagWarnExit s
  | .refoscMonitorWindow periods => Sys2Proof.Machine.execRefoscMonitorWindow periods s
  | .refoscReturn => Sys2Proof.Machine.execRefoscReturn s
  | .regulatorSilent rail => Sys2Proof.Machine.execRegulatorSilent rail s
  | .regulatorAnswersAgain rail => Sys2Proof.Machine.execRegulatorAnswersAgain rail s
  | .start sw => Sys2Proof.Machine.execStart sw s
  | .kill sw => Sys2Proof.Machine.execKill sw s
  | .killWithScrub sw => Sys2Proof.Machine.execKillWithScrub sw s
  | .resume sw => Sys2Proof.Machine.execResume sw s
  | .listPtrWrite sw path hi => Sys2Proof.Machine.execListPtrWrite sw path hi s
  | .entryFetch sw => Sys2Proof.Machine.execEntryFetch sw s
  | .entryReadDone sw => Sys2Proof.Machine.execEntryReadDone sw s
  | .entryStartAfterWait sw => Sys2Proof.Machine.execEntryStartAfterWait sw s
  | .job sw => Sys2Proof.Machine.execJob sw s
  | .descriptorReadDone sw slot => Sys2Proof.Machine.execDescriptorReadDone sw slot s
  | .fence sw => Sys2Proof.Machine.execFence sw s
  | .waitWord sw => Sys2Proof.Machine.execWaitWord sw s
  | .waitWordWake sw => Sys2Proof.Machine.execWaitWordWake sw s
  | .waitWordPollTimer sw => Sys2Proof.Machine.execWaitWordPollTimer sw s
  | .waitWordEvaluate sw expiring => Sys2Proof.Machine.execWaitWordEvaluate sw expiring s
  | .waitTimeout sw => Sys2Proof.Machine.execWaitTimeout sw s
  | .writeWord sw => Sys2Proof.Machine.execWriteWord sw s
  | .signal sw => Sys2Proof.Machine.execSignal sw s
  | .fill sw slot blocks => Sys2Proof.Machine.execFill sw slot blocks s
  | .copy sw slot blocks => Sys2Proof.Machine.execCopy sw slot blocks s
  | .flush sw => Sys2Proof.Machine.execFlush sw s
  | .flushWalkStep h => Sys2Proof.Machine.execFlushWalkStep h s
  | .windowOpen sw => Sys2Proof.Machine.execWindowOpen sw s
  | .windowOpenDone sw => Sys2Proof.Machine.execWindowOpenDone sw s
  | .windowClose sw => Sys2Proof.Machine.execWindowClose sw s
  | .windowCloseDone sw => Sys2Proof.Machine.execWindowCloseDone sw s
  | .windowCloseTimeout l => Sys2Proof.Machine.execWindowCloseTimeout l s
  | .reduce sw => Sys2Proof.Machine.execReduce sw s
  | .jump sw => Sys2Proof.Machine.execJump sw s
  | .halt sw => Sys2Proof.Machine.execHalt sw s
  | .badOpcode sw => Sys2Proof.Machine.execBadOpcode sw s
  | .entryComplete sw slot => Sys2Proof.Machine.execEntryComplete sw slot s
  | .recordWriteFault sw => Sys2Proof.Machine.execRecordWriteFault sw s
  | .killDone sw => Sys2Proof.Machine.execKillDone sw s
  | .scrubFill h g => Sys2Proof.Machine.execScrubFill h g s
  | .scrubFillDone h g => Sys2Proof.Machine.execScrubFillDone h g s
  | .jobIssue => Sys2Proof.Machine.execJobIssue s
  | .issueBlockReadDone sw slot => Sys2Proof.Machine.execIssueBlockReadDone sw slot s
  | .extentReadDone sw slot => Sys2Proof.Machine.execExtentReadDone sw slot s
  | .ticketFetchRequest f => Sys2Proof.Machine.execTicketFetchRequest f s
  | .ticketGrant => Sys2Proof.Machine.execTicketGrant s
  | .unitFinish f => Sys2Proof.Machine.execUnitFinish f s
  | .convertOnEntry h g => Sys2Proof.Machine.execConvertOnEntry h g s
  | .rowConversion h g => Sys2Proof.Machine.execRowConversion h g s
  | .generatorBind h g => Sys2Proof.Machine.execGeneratorBind h g s
  | .statisticsAddBurst h g => Sys2Proof.Machine.execStatisticsAddBurst h g s
  | .convert h g => Sys2Proof.Machine.execConvert h g s
  | .groupOpen h g => Sys2Proof.Machine.execGroupOpen h g s
  | .preloadRowLoad h g => Sys2Proof.Machine.execPreloadRowLoad h g s
  | .tileRecordReceive h g => Sys2Proof.Machine.execTileRecordReceive h g s
  | .streamRingFetch h g => Sys2Proof.Machine.execStreamRingFetch h g s
  | .tileLoadHandshake h g => Sys2Proof.Machine.execTileLoadHandshake h g s
  | .shadowSwap h g => Sys2Proof.Machine.execShadowSwap h g s
  | .flightStage h g => Sys2Proof.Machine.execFlightStage h g s
  | .tread h g parityFail => Sys2Proof.Machine.execTread h g parityFail s
  | .flightEndAdd h g => Sys2Proof.Machine.execFlightEndAdd h g s
  | .deadlineTimerExpiry h g => Sys2Proof.Machine.execDeadlineTimerExpiry h g s
  | .samplingFlight h g => Sys2Proof.Machine.execSamplingFlight h g s
  | .drainStart h g => Sys2Proof.Machine.execDrainStart h g s
  | .drainDone h g => Sys2Proof.Machine.execDrainDone h g s
  | .vectorTicketStart h g => Sys2Proof.Machine.execVectorTicketStart h g s
  | .map h g => Sys2Proof.Machine.execMap h g s
  | .dot h g => Sys2Proof.Machine.execDot h g s
  | .softmax h g => Sys2Proof.Machine.execSoftmax h g s
  | .topk h g => Sys2Proof.Machine.execTopk h g s
  | .reduceSum h g => Sys2Proof.Machine.execReduceSum h g s
  | .reduceSplitk h g => Sys2Proof.Machine.execReduceSplitk h g s
  | .dressPanel h => Sys2Proof.Machine.execDressPanel h s
  | .groupCmdClose h g slot => Sys2Proof.Machine.execGroupCmdClose h g slot s
  | .galleryMemoryAccess h g m word write flipped contest => Sys2Proof.Machine.execGalleryMemoryAccess h g m word write flipped contest s
  | .actSplitWrite h g value => Sys2Proof.Machine.execActSplitWrite h g value s
  | .memOpFill h g m => Sys2Proof.Machine.execMemOpFill h g m s
  | .memOpCopy h g m => Sys2Proof.Machine.execMemOpCopy h g m s
  | .memOpDone h g => Sys2Proof.Machine.execMemOpDone h g s
  | .winWordRead path h g k => Sys2Proof.Machine.execWinWordRead path h g k s
  | .winWordWrite h g k value => Sys2Proof.Machine.execWinWordWrite h g k value s
  | .galleryRowRetire h g => Sys2Proof.Machine.execGalleryRowRetire h g s
  | .hallCacheAccess h user addr len write upset => Sys2Proof.Machine.execHallCacheAccess h user addr len write upset s
  | .hallCacheFill h => Sys2Proof.Machine.execHallCacheFill h s
  | .wayDisableWrite h value => Sys2Proof.Machine.execWayDisableWrite h value s
  | .wayWalkStep h => Sys2Proof.Machine.execWayWalkStep h s
  | .sectorAccess who addr op cycle => Sys2Proof.Machine.execSectorAccess who addr op cycle s
  | .refreshWindow h => Sys2Proof.Machine.execRefreshWindow h s
  | .patrolStep h => Sys2Proof.Machine.execPatrolStep h s
  | .dramLaneRepair h => Sys2Proof.Machine.execDramLaneRepair h s
  | .dramRowSpare h => Sys2Proof.Machine.execDramRowSpare h s
  | .dramRowSpareDone h => Sys2Proof.Machine.execDramRowSpareDone h s
  | .dieRetire h value => Sys2Proof.Machine.execDieRetire h value s
  | .migrationDone h => Sys2Proof.Machine.execMigrationDone h s
  | .mapWrite path hi => Sys2Proof.Machine.execMapWrite path hi s
  | .linkRetrain l => Sys2Proof.Machine.execLinkRetrain l s
  | .linkTrainingAttemptEnd l found => Sys2Proof.Machine.execLinkTrainingAttemptEnd l found s
  | .linkLockLoss l => Sys2Proof.Machine.execLinkLockLoss l s
  | .fenzinLaneSpare l lane => Sys2Proof.Machine.execFenzinLaneSpare l lane s
  | .flitSend l => Sys2Proof.Machine.execFlitSend l s
  | .channelClaim l c => Sys2Proof.Machine.execChannelClaim l c s
  | .historyReadDone l c => Sys2Proof.Machine.execHistoryReadDone l c s
  | .replayTimerExpiry l => Sys2Proof.Machine.execReplayTimerExpiry l s
  | .head l f => Sys2Proof.Machine.execHead l f s
  | .body l f => Sys2Proof.Machine.execBody l f s
  | .esc l f => Sys2Proof.Machine.execEsc l f s
  | .endFlit l f => Sys2Proof.Machine.execEndFlit l f s
  | .abort l f => Sys2Proof.Machine.execAbort l f s
  | .ctrl l f => Sys2Proof.Machine.execCtrl l f s
  | .receiveWriteAccept l c => Sys2Proof.Machine.execReceiveWriteAccept l c s
  | .receiveEndCommit l c => Sys2Proof.Machine.execReceiveEndCommit l c s
  | .ackEnd l c => Sys2Proof.Machine.execAckEnd l c s
  | .nack l c code => Sys2Proof.Machine.execNack l c code s
  | .ackTimerExpiry l c => Sys2Proof.Machine.execAckTimerExpiry l c s
  | .regRd tag addr len => Sys2Proof.Machine.execRegRd tag addr len s
  | .regWr tag addr len value => Sys2Proof.Machine.execRegWr tag addr len value s
  | .aptRd tag addr len => Sys2Proof.Machine.execAptRd tag addr len s
  | .aptWr addr len value => Sys2Proof.Machine.execAptWr addr len value s
  | .cpl tag status len value => Sys2Proof.Machine.execCpl tag status len value s
  | .credit posted nonposted => Sys2Proof.Machine.execCredit posted nonposted s
  | .nop => Sys2Proof.Machine.execNop s
  | .unknownPacket type units => Sys2Proof.Machine.execUnknownPacket type units s
  | .hostRd => Sys2Proof.Machine.execHostRd s
  | .cplTimeout tag => Sys2Proof.Machine.execCplTimeout tag s
  | .vecCtrlWrite v mask signalled => Sys2Proof.Machine.execVecCtrlWrite v mask signalled s
  | .ucieModuleLoss m => Sys2Proof.Machine.execUcieModuleLoss m s
  | .ucieRetrainDone modules repaired => Sys2Proof.Machine.execUcieRetrainDone modules repaired s
  | .moduleCrcThreshold m => Sys2Proof.Machine.execModuleCrcThreshold m s
  | .hifRetrain => Sys2Proof.Machine.execHifRetrain s
  | .sidebandRequest addr call => Sys2Proof.Machine.execSidebandRequest addr call s
  | .sidebandFailover => Sys2Proof.Machine.execSidebandFailover s
  | .treadWatchdogExpiry h g k => Sys2Proof.Machine.execTreadWatchdogExpiry h g k s
  | .fcReport reports => Sys2Proof.Machine.execFcReport reports s
  | .clearTable reports => Sys2Proof.Machine.execClearTable reports s
  | .drain h g => Sys2Proof.Machine.execDrain h g s
  | .abandon h g => Sys2Proof.Machine.execAbandon h g s
  | .swap h g target => Sys2Proof.Machine.execSwap h g target s
  | .galleryResume h g => Sys2Proof.Machine.execGalleryResume h g s
  | .quiesceSet h g => Sys2Proof.Machine.execQuiesceSet h g s
  | .quiesceClear h g => Sys2Proof.Machine.execQuiesceClear h g s
  | .galleryScrub h g => Sys2Proof.Machine.execGalleryScrub h g s
  | .galleryQuiescent h g => Sys2Proof.Machine.execGalleryQuiescent h g s
  | .hallRetire h => Sys2Proof.Machine.execHallRetire h s
  | .hallRetireFlush h => Sys2Proof.Machine.execHallRetireFlush h s
  | .hallRetireDone h => Sys2Proof.Machine.execHallRetireDone h s
  | .autoRepair => Sys2Proof.Machine.execAutoRepair s
  | .load => Sys2Proof.Machine.execLoad s
  | .imageVerifyDone => Sys2Proof.Machine.execImageVerifyDone s
  | .switch => Sys2Proof.Machine.execSwitch s
  | .revert => Sys2Proof.Machine.execRevert s
  | .fwSwitchBegin => Sys2Proof.Machine.execFwSwitchBegin s
  | .fwReady => Sys2Proof.Machine.execFwReady s
  | .fwReadyTimeout => Sys2Proof.Machine.execFwReadyTimeout s
  | .challenge => Sys2Proof.Machine.execChallenge s
  | .attest => Sys2Proof.Machine.execAttest s
  | .transition path move => Sys2Proof.Machine.execTransition path move s
  | .commitSvn => Sys2Proof.Machine.execCommitSvn s
  | .eraseRecord => Sys2Proof.Machine.execEraseRecord s
  | .writeCert => Sys2Proof.Machine.execWriteCert s
  | .sebCommandDone => Sys2Proof.Machine.execSebCommandDone s
  | .powerOnReset => Sys2Proof.Machine.execPowerOnReset s
  | .pinReset lowNs pulse => Sys2Proof.Machine.execPinReset lowNs pulse s
  | .hostReset write => Sys2Proof.Machine.execHostReset write s
  | .sagReset => Sys2Proof.Machine.execSagReset s
  | .thermalReset trip => Sys2Proof.Machine.execThermalReset trip s
  | .resetRelease release => Sys2Proof.Machine.execResetRelease release s
  | .fusesDone => Sys2Proof.Machine.execFusesDone s
  | .bootDone => Sys2Proof.Machine.execBootDone s
  | .mcInitDone => Sys2Proof.Machine.execMcInitDone s
  | .trainDone => Sys2Proof.Machine.execTrainDone s
  | .wipeDone failures => Sys2Proof.Machine.execWipeDone failures s
  | .jtagTapReset => Sys2Proof.Machine.execJtagTapReset s
  | .jtagInstructionUpdate k => Sys2Proof.Machine.execJtagInstructionUpdate k s
  | .retiredTagRelease tag => Sys2Proof.Machine.execRetiredTagRelease tag s
  | .corruptFlit l type f => Sys2Proof.Machine.execCorruptFlit l type f s
  | .mcDebugPortAccess word => Sys2Proof.Machine.execMcDebugPortAccess word s

end Sys2Proof.Machine
end

