-- ==== Sys2Proof/Safety.lean ====
section
/-! DEFINITION. What a well-formed state is (the list of register fields in rising order, device memory in its
canonical form), what a safe run is, and what it is for a command to complete. -/

namespace Sys2Proof.Machine

/-- Keys rise strictly. -/
def sortedKeys {α : Type} (m : NatMap α) : Bool := decide ((m.map Prod.fst).Pairwise (· < ·))

/-- The canonical form of register space and of device memory. -/
def State.wf (s : State) : Bool := sortedKeys s.regs && Memory.wf s.dram

/-- A run is safe when it never stops. -/
def Safe (n : Nat) (s : State) : Prop :=
  match n with
  | 0 => True
  | n + 1 => match step s with
    | .next t => Safe n t
    | .fault _ => False
    | .refused _ => False

/-- STICKY bit `b` of a page (R382). -/
def sticky (s : State) (p : Page) (b : Nat) : Bool := bit (rd s p Reg.hdr.STICKY) b

/-- A command answers a next state, and that state has a property. -/
def Completes (c : Instr) (s : State) (E : State → Prop) : Prop := ∃ t, exec c s = .next t ∧ E t

end Sys2Proof.Machine
end

