-- ==== Sys2Proof/Certificates/Slice0/Obligations.lean ====
section
/-! DEFINITION. The statements for the provers. The statements named …Complete say where each command answers a next
state with its own effect, and what that state holds; they name the rules of the manual they rest on. The frames say
what a command leaves alone. -/

open Sys2Proof Sys2Proof.Machine

/-- Words above the header that are commands, or hold one (*Registers*). -/
def Sys2Proof.commandWords : Page → List Nat
  | .stairwell _ => [0x050]
  | .hall _ => [0x044, 0x048]
  | .hallCache _ => [0x040]
  | .stack _ => [0x08C]
  | .mems _ _ => [0x040, 0x050]
  | .array _ _ => [0x08C]
  | .link _ => [0x040]
  | .hif => [0x04C]
  | .fc => [0x044]
  | .mcService => [0x054]
  | .seb => [0x044]
  | .reset => [0x04C]
  | _ => []

/-- A word whose write is no more than the write of its fields by access type: no mask, no STICKY, no CONTROL, no
command, no clear bit, no half of a 64-bit pair, no vector's control and no window word. -/
def Sys2Proof.plainWord (p : Page) (off : Nat) : Bool :=
  if off < 0x040 then off != 0x00C && off != 0x018 && off != 0x01C
  else p != .mcPower && !(commandWords p).contains off && p.clears.all (·.1 != off) && (windowAt p off).isNone
    && (vectorAt p off).isNone && (storedPair p off).isNone && (storedPair p (off - 4)).isNone

/-- What a field holds after a write of a word to it, by its access type (R7). -/
def Sys2Proof.writtenField (p : Page) (f : Fld) (a : Acc) (old word : Nat) : Nat :=
  let v := bits word f.lsb f.width
  match a with
  | .rw => if v = 0 ∧ zeroAsOne p f then 1 else v
  | .w1c => (old - (old &&& v)) % 2 ^ f.width
  | .w1s => (old ||| v) % 2 ^ f.width
  | .ro | .rc => old

/-- A host write by a path reaches its page. -/
def Sys2Proof.Reaches (s : State) (path : Path) (page : Page) (off : Nat) : Prop :=
  s.rst.held = false ∧ permits s path page off = true

/-- R7, R8, R9, R12, R85, R350, R382, R384, R387: what each register command leaves. -/
def Obligations.RegisterCommandsComplete : Prop :=
  (∀ (path : Path) (page : Page) (off : BitVec 12) (v hw : BitVec 32) (s : State), Reaches s path page off.toNat →
    plainWord page off.toNat = true → (page = .mcService → rangeLegal off.toNat v.toNat = true) →
    hw.toNat &&& w1cBits page off.toNat = 0 →
    Completes (.registerWrite path page off ⟨v, hw, none⟩) s fun t =>
      (∀ e ∈ (homeAt page off.toNat).rows, e.1.off = off.toNat → e.1.width ≠ 64 →
        rd t (homeAt page off.toNat) e.1
          = writtenField (homeAt page off.toNat) e.1 e.2 (rd s (homeAt page off.toNat) e.1) v.toNat)
        ∧ (∀ (q : Page) (f : Fld), (∀ e ∈ (homeAt page off.toNat).rows, e.1.off = off.toNat → e.1.width ≠ 64 →
          key q f ≠ key (homeAt page off.toNat) e.1) → rd t q f = rd s q f)
        ∧ t = { s with regs := t.regs }) ∧
  (∀ (path : Path) (off : BitVec 12) (v : BitVec 32) (s : State), Reaches s path .mcService off.toNat →
    rangeLegal off.toNat v.toNat = false →
    Completes (.registerWrite path .mcService off ⟨v, 0, none⟩) s fun t =>
      rd t .mcService Reg.hdr.STATE_ERR = 1 ∧ t = { s with regs := t.regs }
        ∧ ∀ (q : Page) (f : Fld), key q f ≠ key .mcService Reg.hdr.STATE_ERR → rd t q f = rd s q f) ∧
  (∀ (path : Path) (page : Page) (off : BitVec 12) (v hw : BitVec 32) (f : Fld) (s : State), s.rst.held = false →
    off ≠ 0x018 → f ∈ w1cFields page off.toNat → f.width = 1 → bit hw.toNat f.lsb = true →
    Completes (.registerWrite path page off ⟨v, hw, none⟩) s fun t => rd t (homeAt page off.toNat) f = 1) ∧
  (∀ (page : Page), Reg.hdr.STATE_ERR ∈ w1cFields page 0x008) ∧
  (∀ (path path' : Path) (page : Page) (off off' : BitVec 12) (v hw : BitVec 32) (s : State), s.rst.held = false →
    plainWord page off.toNat = true → path = .sideband ∨ path' = .mainband ∨ selects page off.toNat off'.toNat = true →
    Completes (.registerWrite path page off ⟨v, hw, (some (path', off'))⟩) s fun t =>
      NatMap.get? t.readWord (pathNum path') = some ((readReg s path' page off'.toNat).2 % 2 ^ 32)) ∧
  (∀ (page : Page) (off off' : BitVec 12) (v hw : BitVec 32) (s u : State), s.rst.held = false →
    selects page off.toNat off'.toNat = false → exec (.registerWrite .mainband page off ⟨v, hw, none⟩) s = .next u →
    Completes (.registerWrite .mainband page off ⟨v, hw, (some (.sideband, off'))⟩) s fun t =>
      NatMap.get? t.readWord 1 = some ((readReg u .sideband page off'.toNat).2 % 2 ^ 32)
        ∧ t.regs = (readReg u .sideband page off'.toNat).1.regs) ∧
  (∀ (page : Page) (v : BitVec 32) (s : State),
    exec (.registerWrite .mainband page 0x018 ⟨v, 0, none⟩) s = exec (.stickyClear page v 0) s
      ∧ exec (.registerWrite .mainband page 0x01C ⟨v, 0, none⟩) s = exec (.stickyMaskWrite page v 0) s) ∧
  (∀ (i : Fin 16) (v : BitVec 32) (s : State),
    (bits v.toNat 0 2 = 1 → exec (.registerWrite .mainband (.stairwell i) 0x050 ⟨v, 0, none⟩) s = exec (.start i) s)
      ∧ (bits v.toNat 0 3 = 2 → exec (.registerWrite .mainband (.stairwell i) 0x050 ⟨v, 0, none⟩) s = exec (.kill i) s)
      ∧ (bits v.toNat 0 3 = 6 →
        exec (.registerWrite .mainband (.stairwell i) 0x050 ⟨v, 0, none⟩) s = exec (.killWithScrub i) s)
      ∧ (bits v.toNat 0 2 = 3 → exec (.registerWrite .mainband (.stairwell i) 0x050 ⟨v, 0, none⟩) s = exec (.resume i) s)) ∧
  (∀ (path : Path) (page : Page) (off : BitVec 12) (event : Bool) (s : State),
    Completes (.rcFieldRead path page off event) s fun t =>
      NatMap.get? t.readWord (pathNum path) = some (liveWord s page off.toNat % 2 ^ 32) ∧ t.regs = s.regs) ∧
  (∀ (path : Path) (page : Page) (off : BitVec 12) (f : Fld) (v : Nat) (s : State), pairAt s page off.toNat = some (f, v) →
    Completes (.pairLowRead path page off) s fun t =>
      NatMap.get? t.readWord (pathNum path) = some (v % 2 ^ 32)
        ∧ NatMap.get? t.latches (pairKey path page f) = some (v / 2 ^ 32) ∧ t.regs = s.regs) ∧
  (∀ (path : Path) (page : Page) (off : BitVec 12) (f : Fld) (v : Nat) (s : State), 4 ≤ off.toNat →
    pairAt s page (off.toNat - 4) = some (f, v) →
    Completes (.pairHighRead path page off) s fun t =>
      NatMap.get? t.readWord (pathNum path)
          = some ((NatMap.get? s.latches (pairKey path page f)).getD (v / 2 ^ 32) % 2 ^ 32)
        ∧ NatMap.get? t.latches (pairKey path page f) = none ∧ t.regs = s.regs) ∧
  (∀ (path : Path) (page : Page) (off : BitVec 12) (f : Fld) (v : BitVec 32) (s : State), Reaches s path page off.toNat →
    storedPair page off.toNat = some (f, .rw) →
    Completes (.pairLowWrite path page off v) s fun t =>
      NatMap.get? t.staging (pairKey path page f) = some v.toNat ∧ t.regs = s.regs) ∧
  (∀ (path : Path) (page : Page) (off : BitVec 12) (f : Fld) (v : BitVec 32) (s : State), Reaches s path page off.toNat →
    4 ≤ off.toNat → storedPair page (off.toNat - 4) = some (f, .rw) → page ≠ .memMap → f ≠ Reg.sw.LIST_PTR →
    Completes (.pairHighWrite path page off v) s fun t =>
      rd t page f = pairBits page f (v.toNat * 2 ^ 32
          + (NatMap.get? s.staging (pairKey path page f)).getD (rd s page f % 2 ^ 32)) % 2 ^ 64
        ∧ NatMap.get? t.staging (pairKey path page f) = none) ∧
  (∀ (page : Page) (v : BitVec 32) (s : State), Reaches s .mainband page 0x018 →
    Completes (.stickyClear page v 0) s fun t => ∀ b < 32, sticky t page b = (sticky s page b && !bit v.toNat b)) ∧
  (∀ (page : Page) (v hw : BitVec 32) (b : Nat) (s : State), s.rst.held = false → b < 32 →
    bit page.stickyBits b = true → bit hw.toNat b = true →
    Completes (.stickyClear page v hw) s fun t => sticky t page b = true) ∧
  (∀ (page : Page) (v hw : BitVec 32) (s : State), Reaches s .mainband page 0x01C →
    Completes (.stickyMaskWrite page v hw) s fun t =>
      rd t page (Reg.hdr.STICKY_MASK page) = v.toNat &&& page.stickyBits
        ∧ ∀ b < 32, bit page.stickyBits b = true → bit hw.toNat b = true → sticky t page b = true) ∧
  (∀ (page : Page) (e : Bool) (hw : BitVec 32) (s : State), Reaches s .mainband page 0x00C →
    Completes (.controlEnableWrite page e hw) s fun t =>
      rd t page.home Reg.hdr.CONTROL_ENABLE = e.toNat
        ∧ ∀ b < 32, bit page.stickyBits b = true → bit hw.toNat b = true → sticky t page b = true) ∧
  (∀ (path : Path) (page : Page) (s : State),
    Completes (.readbackDataRead path page) s fun t =>
      NatMap.get? t.readWord (pathNum path) = some (liveWord s page 0x024 % 2 ^ 32)
        ∧ rd t page Reg.hdr.READBACK_SEL_INDEX
          = (if on s page Reg.hdr.AUTO_INC then (rd s page Reg.hdr.READBACK_SEL_INDEX + 1) % 2 ^ 16
            else rd s page Reg.hdr.READBACK_SEL_INDEX)) ∧
  (∀ (page : Page) (off : BitVec 12) (events : List (BitVec 12)) (n : Nat) (rs : List (Nat × Nat)) (f : Fld) (a : Acc)
    (r : Nat × Nat) (s : State), Reaches s .mainband page off.toNat →
    page.clears.find? (fun c => c.1 == off.toNat) = some (off.toNat, n, rs) → r ∈ rs → (f, a) ∈ page.rows →
    r.1 ≤ f.off → f.off ≤ r.2 → (∀ e ∈ events, e.toNat ≠ f.off) →
    Completes (.counterClear page off events) s fun t => rd t page f = 0) ∧
  (∀ (page : Page) (off : BitVec 12) (events : List (BitVec 12)) (n : Nat) (rs : List (Nat × Nat)) (f : Fld) (a : Acc)
    (r : Nat × Nat) (s : State), Reaches s .mainband page off.toNat →
    page.clears.find? (fun c => c.1 == off.toNat) = some (off.toNat, n, rs) → r ∈ rs →
    page.rows.find? (fun e => e.1.off == f.off) = some (f, a) → r.1 ≤ f.off → f.off ≤ r.2 →
    Completes (.counterClear page off events) s fun t =>
      rd t page f = min (events.filter fun e => e.toNat == f.off).length (2 ^ f.width - 1)) ∧
  (∀ (page : Page) (off : BitVec 12) (events : List (BitVec 12)) (n o : Nat) (rs : List (Nat × Nat)) (r : Nat × Nat)
    (s : State), Reaches s .mainband page off.toNat →
    page.clears.find? (fun c => c.1 == off.toNat) = some (off.toNat, n, rs) → r ∈ rs → holdOff page = some o →
    r.1 ≤ o → o ≤ r.2 →
    Completes (.counterClear page off events) s fun t =>
      fifoHold t page = min (events.filter fun e => e.toNat == o).length (2 ^ 32 - 1)) ∧
  (∀ (page : Page) (f : Fld) (hw : Bool) (s : State), latchBit page = some f → Reaches s .mainband page f.off →
    Completes (.faultLatchRelease ⟨page, hw⟩) s fun t => rd t page f = hw.toNat)

/-- What one period of the loop does to the target and to the ticket limit that the cap holds (R35, R36, R400), `t` with
the window of measurements after the period. -/
def Sys2Proof.LoopMoves (s t : State) : Prop :=
  let target := rd s .mcPower Reg.mcp.TARGET_MV
  let vset := rd s .mcPower Reg.mcp.VSET_MV
  let step := rd s .mcPower Reg.mcp.STEP_MV
  let watts (n : Nat) : Nat := n * 10000 * t.mc.power.length
  let above := watts (rd s .mcPower Reg.mcp.CAP_W) < t.mc.power.sum
  let below := t.mc.power.sum < watts (rd s .mcPower Reg.mcp.CAP_W - rd s .mcPower Reg.mcp.HYST_W)
  let leaves (mv limit : Nat) : Prop := rd t .mcPower Reg.mcp.TARGET_MV = mv ∧ t.mc.capLimit = limit
  let unmet : Prop := leaves target (max 128 (s.mc.capLimit - 128))
    ∧ sticky t .mcPower Sticky.mcp.CAP_UNMET = true ∧ ticketLimit t ≤ max 128 (s.mc.capLimit - 128)
  (s.mc.silent ≠ [] → unmet)
    ∧ (s.mc.silent = [] → on s .mcPower Reg.mcp.LOOP_EN = false →
      leaves vset 2048 ∧ rd t .mcPower Reg.mcp.BY_CAP = 0)
    ∧ (s.mc.silent = [] → on s .mcPower Reg.mcp.LOOP_EN = true →
      (above → 620 < target → leaves (max 620 (target - step)) s.mc.capLimit)
        ∧ (above → target ≤ 620 → unmet)
        ∧ (¬above → vset < target → leaves (max vset (target - step)) s.mc.capLimit)
        ∧ (¬above → target ≤ vset → below ∨ (s.mc.vsetMove = true ∧ target < vset) →
          if s.mc.capLimit < 2048 then leaves target (min 2048 (s.mc.capLimit + 128))
          else leaves (min vset (target + step)) s.mc.capLimit)
        ∧ (¬above → target ≤ vset → ¬below → ¬(s.mc.vsetMove = true ∧ target < vset) →
          leaves target s.mc.capLimit))

/-- What one period does to the thermal warning and the thermal stop (R342), in units of 0.25 °C. -/
def Sys2Proof.ThermalMoves (s t : State) (hot : Int) : Prop :=
  let at_ := 4 * (rd s .mcService Reg.mcs.WARN_C : Int)
  let warning (b : Bool) : Prop := t.mc.thermWarning = b
    ∧ rd t .mcService Reg.mcs.WARNING = (if b then rd s .mcService Reg.mcs.THERM_THROTTLE % 2 else 0)
    ∧ rd t .mcPower Reg.mcp.BY_THERM = (if b then rd s .mcService Reg.mcs.THERM_THROTTLE % 2 else 0)
  (at_ ≤ hot → sticky t .mcService Sticky.mcs.THERM_WARN = true ∧ warning true)
    ∧ (at_ - 12 < hot → hot < at_ → warning s.mc.thermWarning)
    ∧ (hot ≤ at_ - 12 → warning false)
    ∧ (420 < hot → sticky t .mcService Sticky.mcs.THERM_STOP = true ∧ rd t .mcService Reg.mcs.STOPPED = 1)
    ∧ (400 < hot → hot ≤ 420 → rd t .mcService Reg.mcs.STOPPED = rd s .mcService Reg.mcs.STOPPED)
    ∧ (hot ≤ 400 → rd t .mcService Reg.mcs.STOPPED = 0)
    ∧ (0 ≤ hot → rd t .mcService Reg.mcs.MAX_TEMP = hot.toNat)

/-- The MC power page: a configuration write takes effect whole or is discarded with CFG_REJECT (R39); CAL_NOW
and an expired interval queue the timers, and a finished calibration writes the timer's value (R30, R31, R40); one
period of the loop shows the sample in the registers (R35, R342). -/
def Obligations.PowerConfigurationCompletes : Prop :=
  (∀ (off : BitVec 12) (v : BitVec 32) (s : State), Reaches s .mainband .mcPower off.toNat →
    configLegal off.toNat v.toNat = true →
    Completes (.mcConfigWrite off v) s fun t =>
      (∀ r ∈ configRanges off.toNat, rd t .mcPower r.1 = bits v.toNat r.1.lsb r.1.width)
        ∧ (off = 0x040 → bits v.toNat 0 10 ≠ rd s .mcPower Reg.mcp.VSET_MV → t.mc.vsetMove = true)) ∧
  (∀ (v : BitVec 32) (s : State), Reaches s .mainband .mcPower 0x050 → configLegal 0x050 v.toNat = true →
    bits v.toNat 31 1 = 0 → mcRuns s = true → s.mc.silent = [] → rd s .mcPower Reg.mcp.VSET_MV < 2 ^ 10 →
    Completes (.mcConfigWrite 0x050 v) s fun t =>
      rd t .mcPower Reg.mcp.TARGET_MV = rd s .mcPower Reg.mcp.VSET_MV ∧ t.mc.capLimit = 2048
        ∧ rd t .mcPower Reg.mcp.BY_CAP = 0) ∧
  (∀ (off : BitVec 12) (v : BitVec 32) (s : State), Reaches s .mainband .mcPower off.toNat →
    configLegal off.toNat v.toNat = false →
    Completes (.mcConfigWrite off v) s fun t =>
      (∀ r ∈ configRanges off.toNat, rd t .mcPower r.1 = rd s .mcPower r.1)
        ∧ sticky t .mcPower Sticky.mcp.CFG_REJECT = true) ∧
  (∀ (off : BitVec 12) (v : BitVec 32) (s : State), Reaches s .mainband .mcPower off.toNat →
    configRanges off.toNat = [] → Completes (.mcConfigWrite off v) s fun t => t = s) ∧
  (∀ (s : State), Reaches s .mainband .mcPower 0x060 → mcUp s = true → rd s .mcPower Reg.mcp.HOLDOVER = 0 →
    Completes .calNow s fun t => t.regs = s.regs ∧ ∀ τ ∈ allTimers, τ ∈ t.mc.calibrating) ∧
  (∀ (τ : Timer) (s : State), mcUp s = true → rd s .mcPower Reg.mcp.HOLDOVER = 0 →
    Completes (.calIntervalExpiry τ) s fun t => t.regs = s.regs ∧ τ ∈ t.mc.calibrating) ∧
  (∀ (τ : Timer) (n : Nat) (e : Option Expiry) (s : State), (∀ x ∈ e, x.timer ≠ τ) → mcRuns s = true →
    τ ∈ s.mc.calibrating →
    Completes (.timerCalibrationDone τ n e) s fun t =>
      calOf t τ = some (n * 25600 / 4096 % 2 ^ 24) ∧ List.lookup τ t.mc.calTemps = some s.mc.temps
        ∧ τ ∉ t.mc.calibrating ∧ ∀ υ, υ ≠ τ →
          calOf t υ = calOf s υ ∧ List.lookup υ t.mc.calTemps = List.lookup υ s.mc.calTemps
            ∧ (υ ∈ t.mc.calibrating ↔ υ ∈ s.mc.calibrating)) ∧
  (∀ (τ : Timer) (n : Nat) (x : Expiry) (s u : State), x.timer = τ → execExpiry x s = .next u → mcRuns u = true →
    τ ∈ u.mc.calibrating →
    Completes (.timerCalibrationDone τ n (some x)) s fun t =>
      calOf t τ = some (n * 25600 / 4096 % 2 ^ 24) ∧ τ ∉ t.mc.calibrating ∧ t = { u with mc := t.mc, regs := t.regs }
        ∧ t.mc = { u.mc with cal := t.mc.cal, calTemps := t.mc.calTemps, calibrating := t.mc.calibrating }
        ∧ ∀ (q : Page) (f : Fld), key q f ≠ key .mcPower Reg.mcp.CAL_COUNT → rd t q f = rd u q f) ∧
  (∀ (τ : Timer) (n : Nat) (s : State), mcRuns s = false →
    Completes (.timerCalibrationDone τ n none) s fun t => t = s) ∧
  (∀ (x : Sensors) (s : State), mcUp s = true → x.wellFormed = true → Sensors.beyond x = false →
    Completes (.powerLoopPeriod x) s fun t =>
      (∀ h < 16, 0 ≤ x.hallTemp.getD h 0 →
        rd t .mcService (Reg.mcs.HALL_TEMP h) = (x.hallTemp.getD h 0).toNat)
        ∧ (∀ r < 6, ∀ a ∈ x.rails.getD r none,
          rd t .mcService (Reg.mcs.RAIL_MV r) = a.1.toNat ∧ rd t .mcService (Reg.mcs.RAIL_CURRENT r) = a.2.toNat
            ∧ (r ≠ 0 → NatMap.get? t.mc.fails r = none))
        ∧ (∀ r < 6, x.rails.getD r none = none →
          rd t .mcService (Reg.mcs.RAIL_MV r) = rd s .mcService (Reg.mcs.RAIL_MV r)
            ∧ (r ≠ 0 → NatMap.get? t.mc.fails r = some ((NatMap.get? s.mc.fails r).getD 0 + 1)))
        ∧ rd t .mcPower Reg.mcp.VCORE_MV = rd t .mcService (Reg.mcs.RAIL_MV 0) % 2 ^ 10
        ∧ t.mc.temps = x.hallTemp ∧ ThermalMoves s t (hottest x.hallTemp)) ∧
  (∀ (x : Sensors) (s : State), mcRuns s = true → x.wellFormed = true → Sensors.beyond x = false →
    rd s .mcPower Reg.mcp.VSET_MV < 2 ^ 10 → rd s .mcPower Reg.mcp.TARGET_MV < 2 ^ 10 →
    Completes (.powerLoopPeriod x) s fun t => LoopMoves s t
      ∧ (let n := if (x.rails.getD 0 none).isSome then 0 else (NatMap.get? s.mc.fails 0).getD 0 + 1
        if rd t .mcPower Reg.mcp.TARGET_MV = rd s .mcPower Reg.mcp.TARGET_MV
        then (NatMap.get? t.mc.fails 0).getD 0 = n
        else NatMap.get? t.mc.fails 0 = none ∨ NatMap.get? t.mc.fails 0 = some (n + 1))) ∧
  (∀ (x : Sensors) (s : State), mcUp s = false → Sensors.beyond x = false →
    Completes (.powerLoopPeriod x) s fun t => t = s)

/-- The sag warning, REFOSC and the regulators (R32, R36, R37, R400). -/
def Obligations.SagReferenceAndRegulatorsComplete : Prop :=
  (∀ (mv : BitVec 10) (s : State), mv.toNat < rd s .mcPower Reg.mcp.VWARN_MV →
    Completes (.vcoreBelowVwarn mv) s fun t =>
      t.mc.lowVcore = true ∧ t.mc.sagEntry = !s.mc.sagWarning ∧ t.mc.sagExit = false ∧ t.regs = s.regs) ∧
  (∀ (s : State), s.mc.sagEntry = true →
    Completes .sagWarnEntry s fun t =>
      t.mc.sagWarning = true ∧ t.mc.sagEntry = false ∧ sticky t .mcPower Sticky.mcp.SAG_WARN = true
        ∧ rd t .mcPower Reg.mcp.BY_SAG = rd s .mcPower Reg.mcp.SAG_THROTTLE % 2) ∧
  (∀ (mv : BitVec 10) (s : State), rd s .mcPower Reg.mcp.VWARN_MV ≤ mv.toNat →
    Completes (.vcoreAboveVwarn mv) s fun t =>
      t.mc.lowVcore = false ∧ t.mc.sagEntry = false ∧ t.regs = s.regs
        ∧ t.mc.sagExit = (s.mc.sagWarning && decide (rd s .mcPower Reg.mcp.VWARN_MV + 20 ≤ mv.toNat))) ∧
  (∀ (s : State), s.mc.sagExit = true →
    Completes .sagWarnExit s fun t =>
      t.mc.sagWarning = false ∧ rd t .mcPower Reg.mcp.BY_SAG = 0
        ∧ sticky t .mcPower Sticky.mcp.SAG_WARN = sticky s .mcPower Sticky.mcp.SAG_WARN) ∧
  (∀ (n : Nat) (s : State), 796 ≤ n → n ≤ 804 →
    Completes (.refoscMonitorWindow n) s fun t => rd t .mcPower Reg.mcp.REFOSC_OK = 1 ∧ t.mc = s.mc) ∧
  (∀ (n : Nat) (s : State), n < 796 ∨ 804 < n →
    Completes (.refoscMonitorWindow n) s fun t =>
      rd t .mcPower Reg.mcp.REFOSC_OK = 0 ∧ rd t .mcPower Reg.mcp.HOLDOVER = 1 ∧ t.mc.calibrating = []
        ∧ t.mc.cal = s.mc.cal ∧ sticky t .mcPower Sticky.mcp.REFOSC_LOST = true) ∧
  (∀ (s : State), rd s .mcPower Reg.mcp.HOLDOVER ≠ 0 →
    Completes .refoscReturn s fun t =>
      rd t .mcPower Reg.mcp.REFOSC_OK = 1 ∧ rd t .mcPower Reg.mcp.HOLDOVER = 0
        ∧ (mcUp s = true → ∀ τ ∈ allTimers, τ ∈ t.mc.calibrating)) ∧
  (∀ (rail : Fin 6) (s : State), 3 ≤ (NatMap.get? s.mc.fails rail.val).getD 0 →
    Completes (.regulatorSilent rail) s fun t =>
      rail.val ∈ t.mc.silent ∧ sticky t .mcPower Sticky.mcp.CAP_UNMET = true
        ∧ sticky t .mcService Sticky.mcs.REPAIR_NEEDED = true
        ∧ rd t .mcPower Reg.mcp.TARGET_MV = rd s .mcPower Reg.mcp.TARGET_MV
        ∧ t.mc.capLimit = max 128 (s.mc.capLimit - 128)) ∧
  (∀ (rail : Fin 6) (s : State), (NatMap.get? s.mc.fails rail.val).getD 0 < 3 →
    Completes (.regulatorSilent rail) s fun t => t = s) ∧
  (∀ (rail : Fin 6) (s : State), rail.val ∈ s.mc.silent → NatMap.get? s.mc.fails rail.val = none →
    Completes (.regulatorAnswersAgain rail) s fun t =>
      rail.val ∉ t.mc.silent ∧ rd t .mcPower Reg.mcp.TARGET_MV = rd s .mcPower Reg.mcp.TARGET_MV
        ∧ t.mc.capLimit = if t.mc.silent = [] then min 2048 (s.mc.capLimit + 128) else s.mc.capLimit)

/-- The entry `c` at the head of a list has been fetched, has opcode `op`, passes its checks (R215), and waits for
nothing (R216). -/
def Sys2Proof.AtEntry (s : State) (sw : Fin 16) (op : Nat) (c : Current) : Prop :=
  (stair s sw).state = .running ∧ (stair s sw).cur = some c ∧ c.stage = .fetched ∧ eOpcode c.img = op
    ∧ entryFault c.img = none ∧ entryWait (stair s sw) c.img = none

/-- The counter has advanced by one, or stays at its all-ones value (R9). -/
def Sys2Proof.Advanced (s t : State) (p : Page) (f : Fld) : Prop := rd t p f = min (rd s p f + 1) (2 ^ f.width - 1)

/-- FIFO_HOLD of a page has advanced by an episode for some of `n` crossings of its boundary, which only time decides
(R27, R34); it saturates (R9). -/
def Sys2Proof.MayHold (s t : State) (p : Page) (n : Nat) : Prop :=
  fifoHold t p = fifoHold s p ∨ ∃ k ≤ n, fifoHold t p = min (fifoHold s p + k) (2 ^ 32 - 1)

/-- The stairwell has faulted at an entry (R225). -/
def Sys2Proof.FaultedAt (t : State) (sw : Fin 16) (addr code : Nat) : Prop :=
  (stair t sw).state = .faulted ∧ rd t (swPage sw) Reg.sw.LIST_PTR = addr % 2 ^ 64
    ∧ rd t (swPage sw) Reg.hdr.FAULT_CODE = code ∧ sticky t (swPage sw) Sticky.sw.FAULTED = true

/-- A slot holds the entry `c`, with a body of its own. -/
def Sys2Proof.SlotHolds (t : State) (sw : Fin 16) (k : Nat) (c : Current) (body : Body → Prop) : Prop :=
  ∃ e : Tracked, NatMap.get? (stair t sw).slots k = some e ∧ e.addr = c.addr ∧ e.img = c.img ∧ body e.body

/-- The word a WAIT_WORD reads has come back as `v`: from host memory, or at the stack controller (R218). -/
def Sys2Proof.WordRead (s : State) (c : Current) (w : Wait) (v : Nat) : Prop :=
  if isHost (eOp0 c.img) then w.word = .data v
  else (memRead s .stairwell (eOp0 c.img) (eWidth c.img)).2 = .ok v

/-- The packets that have been handed to the stream: those that have entered it, and those that wait to. -/
def Sys2Proof.toHost (t : State) : List Packet := t.hif.sent ++ t.hif.queued.map Queued.packet

/-- The entry the stairwell is at has written its record to host memory, and the write has yet to enter the stream
(R323). -/
def Sys2Proof.RecordWaits (t : State) (sw : Fin 16) (c : Current) : Prop :=
  isHost (eRecord c.img) = true ∧ writeWaits t (recordOwner sw 8) = true
    ∧ (stair t sw).cur = some { c with stage := .recording 0 }

/-- What KILL makes of a tracked entry in slot `k` (R230, R308): one that waits on a read of host memory, and a send whose
ABORT is to go, are marked and end later; every other one has ended KILLED, with the work done. -/
def Sys2Proof.KilledSlot (s t : State) (sw : Fin 16) (k : Nat) (e : Tracked) : Prop :=
  let is (x : Tracked) : Prop := NatMap.get? (stair t sw).slots k = some x
  let killed : Prop := is { e with body := .ended 0x30 0 0 }
  match e.body with
  | .descriptor => if isHost (eOp0 e.img) then is { e with killed := true } else killed
  | .offered _ | .flushing _ => killed
  | .issued => ∀ j, findJob s sw k = some j →
      findJob t sw k = none ∧ is { e with body := .ended (j.ended.getD 0x30) j.flags j.done }
  | .moving done asked pieces =>
    if hostSource e.img = true ∧ pieces = [] ∧ 64 * done < asked then is { e with killed := true }
    else is { e with body := .ended 0x30 0 done }
  | .reducing b => killed ∨ is { e with killed := true, body := .ended 0x30 0 0 } ∨ (is { e with killed := true }
      ∧ ∃ d, (chan t (rbLink b) (rbChannel b)).send = some d ∧ d.sw = sw.val ∧ d.slot = k ∧ d.stop = some 0x30)
  | .ended _ _ _ | .recording _ => is e

/-- No gallery and no dresser holds a ticket of the job in slot `k` any longer; what its tickets left is no flight, and
their groups are orphans (R74, R125, R230). -/
def Sys2Proof.TicketsAbandoned (s t : State) (sw : Fin 16) (k : Nat) : Prop :=
  (∀ h g : Nat, (∀ τ ∈ (gal t h g).tickets, ¬(τ.sw = sw.val ∧ τ.slot = k))
    ∧ ∀ τ ∈ (gal s h g).tickets, τ.sw = sw.val → τ.slot = k →
        (∀ f ∈ (gal t h g).flight, f.serial ≠ τ.serial) ∧ (∀ f ∈ (gal t h g).staged, f.serial ≠ τ.serial)
          ∧ ∀ gr ∈ (gal t h g).groups, gr.serial = τ.serial → gr.phase = .orphan)
    ∧ ∀ e ∈ t.dressers, ¬(e.2.sw = sw.val ∧ e.2.slot = k)

/-- What KILL does to every entry of its stairwell (R230). -/
def Sys2Proof.EntriesKilled (s t : State) (sw : Fin 16) : Prop :=
  ((stair s sw).slots.map Prod.fst).Nodup →
    (∀ k e, NatMap.get? (stair s sw).slots k = some e →
      KilledSlot s t sw k e ∧ (e.body = .issued → TicketsAbandoned s t sw k))
    ∧ ∀ c, (stair s sw).cur = some c →
        (c.stage = .fetched ∨ c.stage = .waitPrior ∨ c.stage = .waitSlot → (stair t sw).cur = none)
          ∧ (c.stage = .waiting →
            (stair t sw).cur = none ∨ (stair t sw).cur = some { c with stage := .recording 0x30 })
          ∧ (c.stage = .opening ∨ c.stage = .closing → (stair t sw).cur = some c)

/-- START, RESUME, KILL and the list pointer (R209, R210, R217, R230, R231). -/
def Obligations.StairwellControlCompletes : Prop :=
  (∀ (sw : Fin 16) (s : State), ready s = true → rd s .reset Reg.rst.RECOVERY = 0 → (stair s sw).state = .idle →
    s.seb.state ≠ 4 → listLegal (rd s (swPage sw) Reg.sw.LIST_ADDR) = true →
    Completes (.start sw) s fun t =>
      (stair t sw).state = .running ∧ (stair t sw).errSeen = false ∧ (stair t sw).cur = none
        ∧ rd t (swPage sw) Reg.sw.LIST_PTR = rd s (swPage sw) Reg.sw.LIST_ADDR % 2 ^ 64
        ∧ (stair t sw).ahead = [{
            addr := rd s (swPage sw) Reg.sw.LIST_ADDR % 2 ^ 64, got := .pending, again := true }]) ∧
  (∀ (sw : Fin 16) (s : State), ready s = true → s.seb.state ≠ 4 → (stair s sw).state = .faulted →
    listLegal (rd s (swPage sw) Reg.sw.LIST_PTR) = true →
    Completes (.resume sw) s fun t =>
      (stair t sw).state = .running ∧ (stair t sw).errSeen = false ∧ (stair t sw).cur = none
        ∧ (stair t sw).ahead = [{
            addr := rd s (swPage sw) Reg.sw.LIST_PTR, got := .pending, again := true }]) ∧
  (∀ (sw : Fin 16) (s : State), ready s = true → s.seb.state ≠ 4 → killLegal s sw = true →
    Completes (.kill sw) s fun t =>
      (stair t sw).state = .killing ∧ (stair t sw).ahead = [] ∧ (stair t sw).scrubbing = (stair s sw).scrubbing
        ∧ rd t (swPage sw) Reg.sw.LIST_PTR = rd s (swPage sw) Reg.sw.LIST_PTR ∧ EntriesKilled s t sw) ∧
  (∀ (sw : Fin 16) (s : State), ready s = true → s.seb.state ≠ 4 → killLegal s sw = true →
    Completes (.killWithScrub sw) s fun t =>
      (stair t sw).state = .killing ∧ (stair t sw).ahead = []
        ∧ (stair t sw).scrubbing = killedGalleries s sw
        ∧ (∀ n ∈ killedGalleries s sw, (gal t (n / 17) (n % 17)).scrub ≠ none)
        ∧ EntriesKilled s t sw) ∧
  (∀ (sw : Fin 16) (path : Path) (hi : BitVec 32) (s : State), Reaches s path (swPage sw) 0x04C →
    (stair s sw).state = .idle ∨ (stair s sw).state = .faulted →
    Completes (.listPtrWrite sw path hi) s fun t =>
      rd t (swPage sw) Reg.sw.LIST_PTR
          = (hi.toNat * 2 ^ 32 + (NatMap.get? s.staging (pairKey path (swPage sw) Reg.sw.LIST_PTR)).getD
              (rd s (swPage sw) Reg.sw.LIST_PTR % 2 ^ 32)) % 2 ^ 64
        ∧ NatMap.get? t.staging (pairKey path (swPage sw) Reg.sw.LIST_PTR) = none) ∧
  (∀ (sw : Fin 16) (path : Path) (hi : BitVec 32) (s : State), Reaches s path (swPage sw) 0x04C →
    (stair s sw).state ≠ .idle → (stair s sw).state ≠ .faulted →
    Completes (.listPtrWrite sw path hi) s fun t =>
      rd t (swPage sw) Reg.sw.LIST_PTR = rd s (swPage sw) Reg.sw.LIST_PTR
        ∧ rd t (swPage sw) Reg.hdr.STATE_ERR = 1) ∧
  (∀ (sw : Fin 16) (s : State), (stair s sw).state = .killing → (stair s sw).slots = [] → (stair s sw).cur = none →
    (stair s sw).scrubbing = [] →
    Completes (.killDone sw) s fun t =>
      (stair t sw).state = .idle ∧ sticky t (swPage sw) Sticky.sw.KILL_DONE = true)

/-- The page commands of a stairwell that are illegal in its state set STATE_ERR and leave it (R209). -/
def Obligations.IllegalPageCommandsSetStateErr : Prop :=
  (∀ (sw : Fin 16) (s : State), ready s = true → s.seb.state ≠ 4 → (stair s sw).state ≠ .idle →
    Completes (.start sw) s fun t =>
      rd t (swPage sw) Reg.hdr.STATE_ERR = 1 ∧ t.stairs = s.stairs ∧ t.dram = s.dram ∧ t.hif = s.hif) ∧
  (∀ (sw : Fin 16) (s : State), ready s = true → s.seb.state ≠ 4 → (stair s sw).state ≠ .faulted →
    Completes (.resume sw) s fun t =>
      rd t (swPage sw) Reg.hdr.STATE_ERR = 1 ∧ t.stairs = s.stairs ∧ t.dram = s.dram ∧ t.hif = s.hif) ∧
  (∀ (sw : Fin 16) (s : State), ready s = true → s.seb.state ≠ 4 → (stair s sw).state = .idle ∨ (stair s sw).state = .killing →
    (Completes (.kill sw) s fun t =>
      rd t (swPage sw) Reg.hdr.STATE_ERR = 1 ∧ t.stairs = s.stairs ∧ t.dram = s.dram ∧ t.hif = s.hif) ∧
    Completes (.killWithScrub sw) s fun t =>
      rd t (swPage sw) Reg.hdr.STATE_ERR = 1 ∧ t.stairs = s.stairs ∧ t.dram = s.dram ∧ t.hif = s.hif)

/-- The reading of the list: an entry is asked for, comes back, and an entry that waited starts (R214, R216). -/
def Obligations.ListReadingCompletes : Prop :=
  (∀ (sw : Fin 16) (a : Nat) (s : State), nextRead s sw = some a → cmdLegal a = true →
    Completes (.entryFetch sw) s fun t =>
      t.regs = s.regs ∧ (stair t sw).cur = (stair s sw).cur
        ∧ (stair t sw).ahead = (stair s sw).ahead ++ [{
            addr := a, got := .pending, again := (stair s sw).cur.isNone && (stair s sw).ahead.isEmpty }]) ∧
  (∀ (sw : Fin 16) (a : Ahead) (rest : List Ahead) (v : Nat) (s : State), (stair s sw).state = .running →
    (stair s sw).cur = none → (stair s sw).ahead = a :: rest → a.got = .pending → isHost a.addr = false →
    (memRead s .stairwell a.addr 64).2 = .ok v →
    Completes (.entryReadDone sw) s fun t =>
      (stair t sw).cur = some { addr := a.addr, img := v, stage := .fetched }
        ∧ (stair t sw).ahead.length = rest.length) ∧
  (∀ (sw : Fin 16) (c : Current) (a : Ahead) (v : Nat) (s : State), (stair s sw).cur = some c →
    (stair s sw).ahead.find? (fun a => a.got == .pending && !isHost a.addr) = some a →
    (memRead s .stairwell a.addr 64).2 = .ok v →
    Completes (.entryReadDone sw) s fun t =>
      (stair t sw).cur = some c ∧ { a with got := .data v } ∈ (stair t sw).ahead) ∧
  (∀ (sw : Fin 16) (c : Current) (s : State), (stair s sw).state = .running → (stair s sw).cur = some c →
    c.stage = .waitPrior ∨ c.stage = .waitSlot → entryWait (stair s sw) c.img = none →
    1 ≤ eOpcode c.img → eOpcode c.img ≤ 0x0C →
    (eOpcode c.img = 0x02 → (eHaltIfErr c.img && (stair s sw).errSeen) = false) →
    (eOpcode c.img = 0x09 → eClose c.img = true → (findWindow s (eWtag c.img)).isSome = true) →
    (eOpcode c.img = 0x09 → eClose c.img = false →
      (s.windows.any fun w => w.tag == eWtag c.img) = false ∧ (freeEntry s).isSome = true) →
    Completes (.entryStartAfterWait sw) s fun t =>
      Advanced s t (swPage sw) Reg.sw.ENTRIES ∧ (stair t sw).cur ≠ some c) ∧
  (∀ (sw : Fin 16) (c : Current) (s : State), (stair s sw).cur = some c → (stair s sw).state = .running →
    c.stage = .fetched → ¬(1 ≤ eOpcode c.img ∧ eOpcode c.img ≤ 0x0C) →
    Completes (.badOpcode sw) s fun t => FaultedAt t sw c.addr 0x01)

/-- The list entries JOB, FENCE, WAIT_WORD, WRITE_WORD and SIGNAL (R213, R217 to R220). -/
def Obligations.SimpleEntriesComplete : Prop :=
  (∀ (sw : Fin 16) (c : Current) (k : Nat) (s : State), AtEntry s sw 0x01 c → freeSlot (stair s sw) = some k →
    Completes (.job sw) s fun t =>
      Advanced s t (swPage sw) Reg.sw.ENTRIES
        ∧ SlotHolds t sw k c fun b => b = if eOp0 c.img % 256 = 0 then .descriptor else .offered none) ∧
  (∀ (sw : Fin 16) (c : Current) (s : State), AtEntry s sw 0x02 c →
    (eHaltIfErr c.img && (stair s sw).errSeen) = false →
    Completes (.fence sw) s fun t =>
      Advanced s t (swPage sw) Reg.sw.ENTRIES ∧ (stair t sw).errSeen = false ∧ (stair t sw).slots = (stair s sw).slots) ∧
  (∀ (sw : Fin 16) (c : Current) (s : State), AtEntry s sw 0x02 c → eHaltIfErr c.img = true →
    (stair s sw).errSeen = true →
    Completes (.fence sw) s fun t => FaultedAt t sw c.addr 0x08) ∧
  (∀ (sw : Fin 16) (c : Current) (s : State), AtEntry s sw 0x03 c →
    Completes (.waitWord sw) s fun t =>
      Advanced s t (swPage sw) Reg.sw.ENTRIES ∧ (stair t sw).cur = some { c with stage := .waiting }
        ∧ (stair t sw).wait = some { reading := true, word := .pending, wake := false,
                                     timed := decide (eTimeout c.img ≠ 0) }
        ∧ t.dram = s.dram) ∧
  (∀ (sw : Fin 16) (c : Current) (s : State), AtEntry s sw 0x04 c → isHost (eOp0 c.img) = true → linkUp s = true →
    Completes (.writeWord sw) s fun t =>
      Advanced s t (swPage sw) Reg.sw.ENTRIES
        ∧ Packet.hostWr (hostAddr (eOp0 c.img)) (eWidth c.img) (eOp1 c.img % 2 ^ (8 * eWidth c.img)) ∈ toHost t
        ∧ (writeWaits t (dataOwner sw 8) = true → (stair t sw).cur = some { c with stage := .posting })) ∧
  (∀ (sw : Fin 16) (c : Current) (s : State), AtEntry s sw 0x04 c → isHost (eOp0 c.img) = false →
    eRecord c.img = 0 →
    Completes (.writeWord sw) s fun t =>
      Advanced s t (swPage sw) Reg.sw.ENTRIES
        ∧ t.dram = (memWrite (startEntry s sw c) .stairwell (eOp0 c.img) (eWidth c.img)
            (eOp1 c.img % 2 ^ (8 * eWidth c.img))).1.dram) ∧
  (∀ (sw : Fin 16) (c : Current) (m : State × Got) (record : Nat) (s : State), AtEntry s sw 0x04 c →
    isHost (eOp0 c.img) = false → eRecord c.img ≠ 0 →
    m = memWrite (startEntry s sw c) .stairwell (eOp0 c.img) (eWidth c.img) (eOp1 c.img % 2 ^ (8 * eWidth c.img)) →
    record = recordImage sw 0 c.img c.addr (if m.2.isOk then 0 else 0x28) 0 0 (((stair s sw).seq + 1) % 2 ^ 32) →
    Completes (.writeWord sw) s fun t =>
      Advanced s t (swPage sw) Reg.sw.ENTRIES ∧ (stair t sw).seq = ((stair s sw).seq + 1) % 2 ^ 32
        ∧ (isHost (eRecord c.img) = false →
          t.dram = (memWrite m.1 .stairwell (eRecord c.img) 32 record).1.dram)
        ∧ (isHost (eRecord c.img) = true → t.dram = m.1.dram
          ∧ (linkUp s = true → Packet.hostWr (hostAddr (eRecord c.img)) 32 record ∈ toHost t))) ∧
  (∀ (sw : Fin 16) (c : Current) (s : State), AtEntry s sw 0x05 c →
    Completes (.signal sw) s fun t =>
      Advanced s t (swPage sw) Reg.sw.ENTRIES
        ∧ (RecordWaits t sw c ∨
          (rd s .hif (Reg.hif.VEC_CTRL_MASK (eVec c.img)) ≠ 0 → rd t .hif (Reg.hif.VEC_CTRL_PENDING (eVec c.img)) = 1)
            ∧ (rd s .hif (Reg.hif.VEC_CTRL_MASK (eVec c.img)) = 0 → rd s .hif (Reg.hif.VEC_ADDR (eVec c.img)) % 4 = 0 →
              linkUp s = true →
              Packet.msg (rd s .hif (Reg.hif.VEC_ADDR (eVec c.img))) (rd s .hif (Reg.hif.VEC_DATA (eVec c.img)))
                ∈ toHost t)))

/-- The wait of a WAIT_WORD: another read of its word, its evaluation, and its timeout (R218, R219). -/
def Obligations.WaitWordCompletes : Prop :=
  (∀ (sw : Fin 16) (c : Current) (w : Wait) (s : State), (stair s sw).cur = some c → (stair s sw).wait = some w →
    isHost (eOp0 c.img) = false → w.wake = true → w.reading = false →
    Completes (.waitWordWake sw) s fun t =>
      (stair t sw).wait = some { w with reading := true, word := .pending, wake := false }
        ∧ (stair t sw).cur = some c ∧ t.regs = s.regs ∧ t.dram = s.dram ∧ t.hif = s.hif) ∧
  (∀ (sw : Fin 16) (c : Current) (w : Wait) (s : State), (stair s sw).cur = some c → (stair s sw).wait = some w →
    isHost (eOp0 c.img) = true → w.reading = false →
    Completes (.waitWordPollTimer sw) s fun t =>
      (stair t sw).wait = some { w with reading := true, word := .pending, wake := false }
        ∧ t.hif.reads = s.hif.reads ++ [{
            who := .waitWord sw, addr := hostAddr (eOp0 c.img), len := eWidth c.img, tag := none }]
        ∧ t.regs = s.regs ∧ t.dram = s.dram) ∧
  (∀ (sw : Fin 16) (e : Bool) (c : Current) (w : Wait) (v : Nat) (s : State), (stair s sw).cur = some c →
    (stair s sw).wait = some w → w.reading = true → WordRead s c w v → condMet c.img v = true →
    Completes (.waitWordEvaluate sw e) s fun t =>
      (stair t sw).wait = none ∧ (stair t sw).cur ≠ some { c with stage := .waiting }) ∧
  (∀ (sw : Fin 16) (e : Bool) (c : Current) (w : Wait) (v : Nat) (s : State), (stair s sw).cur = some c →
    (stair s sw).wait = some w → w.reading = true → WordRead s c w v → condMet c.img v = false →
    (e && w.timed) = false →
    Completes (.waitWordEvaluate sw e) s fun t =>
      (stair t sw).state = .waiting ∧ (stair t sw).cur = some c
        ∧ (stair t sw).wait = some { w with reading := false, word := .pending }
        ∧ rd t (swPage sw) Reg.sw.WAIT_EPISODES
          = if (stair s sw).state = .running then min (rd s (swPage sw) Reg.sw.WAIT_EPISODES + 1) (2 ^ 32 - 1)
            else rd s (swPage sw) Reg.sw.WAIT_EPISODES) ∧
  (∀ (sw : Fin 16) (c : Current) (w : Wait) (v : Nat) (s : State), (stair s sw).cur = some c →
    (stair s sw).wait = some w → w.reading = true → w.timed = true → WordRead s c w v → condMet c.img v = false →
    Completes (.waitWordEvaluate sw true) s fun t => FaultedAt t sw c.addr 0x05) ∧
  (∀ (sw : Fin 16) (c : Current) (w : Wait) (s : State), (stair s sw).cur = some c → (stair s sw).wait = some w →
    w.timed = true →
    Completes (.waitTimeout sw) s fun t => FaultedAt t sw c.addr 0x05)

/-- The list entries FILL, COPY and FLUSH, and the reading of a descriptor (R213, R221, R222, R260). -/
def Obligations.TrackedEntriesComplete : Prop :=
  (∀ (sw : Fin 16) (slot : Fin 8) (e : Tracked) (d : Nat) (s : State),
    NatMap.get? (stair s sw).slots slot = some e → e.body = .descriptor → isHost (eOp0 e.img) = false →
    (memRead s .stairwell (eOp0 e.img) 256).2 = .ok d →
    Completes (.descriptorReadDone sw slot) s fun t =>
      NatMap.get? (stair t sw).slots slot = some { e with body := .offered (some d) }) ∧
  (∀ (sw : Fin 16) (c : Current) (k n : Nat) (s : State), AtEntry s sw 0x06 c → freeSlot (stair s sw) = some k →
    Completes (.fill sw none n) s fun t =>
      Advanced s t (swPage sw) Reg.sw.ENTRIES
        ∧ SlotHolds t sw k c fun b => eOp1 c.img = 0 → b = .ended 1 0 0) ∧
  (∀ (sw : Fin 16) (slot : Fin 8) (e : Tracked) (done asked : Nat) (ps : NatMap (Option Nat)) (r : State × Written)
    (s : State), NatMap.get? (stair s sw).slots slot = some e → eOpcode e.img = 0x06 → e.body = .moving done asked ps →
    cmdWrite s (dataOwner sw slot) (eOp0 e.img + 64 * done) 64 (packElems 64 (List.replicate 8 (eOp2 e.img))) = r →
    Completes (.fill sw (some slot) 1) s fun t =>
      NatMap.get? (stair t sw).slots slot = some { e with
          body := if r.2 = .lost ∧ isHost (eOp0 e.img) = false then .ended 0x28 0 done
            else if eOp1 e.img ≤ 64 * (done + 1) then .ended 0 0 (done + 1) else .moving (done + 1) asked ps }
        ∧ t.dram = r.1.dram) ∧
  (∀ (sw : Fin 16) (c : Current) (k n : Nat) (s : State), AtEntry s sw 0x07 c → freeSlot (stair s sw) = some k →
    Completes (.copy sw none n) s fun t =>
      Advanced s t (swPage sw) Reg.sw.ENTRIES
        ∧ SlotHolds t sw k c fun b => eOp2 c.img = 0 → b = .ended 1 0 0) ∧
  (∀ (sw : Fin 16) (slot : Fin 8) (e : Tracked) (done asked v : Nat) (ps : NatMap (Option Nat)) (r : State × Written)
    (s u : State), NatMap.get? (stair s sw).slots slot = some e → eOpcode e.img = 0x07 → e.body = .moving done asked ps →
    isHost (eOp0 e.img) = false → memRead s .stairwell (eOp0 e.img + 64 * done) 64 = (u, .ok v) →
    cmdWrite u (dataOwner sw slot) (eOp1 e.img + 64 * done) 64 v = r →
    Completes (.copy sw (some slot) 1) s fun t =>
      NatMap.get? (stair t sw).slots slot = some { e with
          body := if r.2 = .lost ∧ isHost (eOp1 e.img) = false then .ended 0x28 0 done
            else if eOp2 e.img ≤ 64 * (done + 1) then .ended 0 0 (done + 1) else .moving (done + 1) asked ps }
        ∧ t.dram = r.1.dram) ∧
  (∀ (sw : Fin 16) (slot : Fin 8) (e : Tracked) (done asked off v : Nat) (ps : NatMap (Option Nat)) (r : State × Written)
    (s : State), NatMap.get? (stair s sw).slots slot = some e → eOpcode e.img = 0x07 →
    e.body = .moving done asked ((off, some v) :: ps) → isHost (eOp0 e.img) = true →
    cmdWrite s (dataOwner sw slot) (eOp1 e.img + 64 * done) 64 (bits v (8 * (64 * done - off)) 512) = r →
    ¬(r.2 = .lost ∧ isHost (eOp1 e.img) = false) →
    Completes (.copy sw (some slot) 1) s fun t =>
      t.dram = r.1.dram
        ∧ (eOp2 e.img ≤ 64 * (done + 1) →
          NatMap.get? (stair t sw).slots slot = some { e with body := .ended 0 0 (done + 1) })
        ∧ (64 * (done + 1) < eOp2 e.img → 64 * (done + 1) < asked →
          NatMap.get? (stair t sw).slots slot
            = some { e with body := .moving (done + 1) asked ((off, some v) :: ps) })
        ∧ (64 * (done + 1) < eOp2 e.img → asked ≤ 64 * (done + 1) →
          t.hif.reads = r.1.hif.reads ++ [{
            who := .copy sw slot (64 * (done + 1)), addr := hostAddr (eOp0 e.img + 64 * (done + 1))
            len := min (eOp2 e.img - 64 * (done + 1)) (4096 - (eOp0 e.img + 64 * (done + 1)) % 4096), tag := none }])) ∧
  (∀ (sw : Fin 16) (slot : Fin 8) (e : Tracked) (done asked off : Nat) (ps : NatMap (Option Nat)) (s : State),
    NatMap.get? (stair s sw).slots slot = some e → eOpcode e.img = 0x07 → e.body = .moving done asked ((off, none) :: ps) →
    isHost (eOp0 e.img) = true →
    Completes (.copy sw (some slot) 1) s fun t =>
      NatMap.get? (stair t sw).slots slot = some { e with body := .ended 0x28 0 done }) ∧
  (∀ (sw : Fin 16) (slot : Fin 8) (m n : Nat) (s u : State),
    (exec (.fill sw (some slot) m) s = .next u → exec (.fill sw (some slot) (m + n)) s = exec (.fill sw (some slot) n) u)
      ∧ (exec (.copy sw (some slot) m) s = .next u →
        exec (.copy sw (some slot) (m + n)) s = exec (.copy sw (some slot) n) u)) ∧
  (∀ (sw : Fin 16) (c : Current) (k : Nat) (s : State), AtEntry s sw 0x08 c → freeSlot (stair s sw) = some k →
    Completes (.flush sw) s fun t =>
      Advanced s t (swPage sw) Reg.sw.ENTRIES
        ∧ (SlotHolds t sw k c fun b => b = if flushHalls s c.img = [] then .ended 0 0 0
            else .flushing (flushHalls s c.img))
        ∧ ∀ h ∈ flushHalls s c.img, (cache t h).walks = (cache s h).walks ++ [.flush sw k (eMode c.img)
            (eOp0 c.img / 64) (if eOp1 c.img / 64 = 0 then none else some (eOp1 c.img / 64)) 0])

/-- The list entries that act on the receive windows and on links, JUMP and HALT, and the completion of a tracked
entry (R213, R223, R224, R226 to R229, R292 to R296). -/
def Obligations.WindowAndControlEntriesComplete : Prop :=
  (∀ (sw : Fin 16) (c : Current) (i : Nat) (s : State), AtEntry s sw 0x09 c → eClose c.img = false →
    (s.windows.any fun w => w.tag == eWtag c.img) = false → freeEntry s = some i →
    (memWrite (startEntry s sw c) .linkReceiver (eOp0 c.img) 256 0).2.isOk = true →
    Completes (.windowOpen sw) s fun t =>
      Advanced s t (swPage sw) Reg.sw.ENTRIES ∧ (stair t sw).cur = some { c with stage := .opening }
        ∧ t.windows = s.windows ++ [{
            entry := i, tag := eWtag c.img, addr := eOp0 c.img, param := eOp2 c.img, len := eOp1 c.img, sw := sw
            live := false, closing := false, begun := [] }]) ∧
  (∀ (sw : Fin 16) (c : Current) (s : State), AtEntry s sw 0x09 c → eClose c.img = false →
    (s.windows.any fun w => w.tag == eWtag c.img) = true →
    Completes (.windowOpen sw) s fun t => FaultedAt t sw c.addr 0x06 ∧ t.windows = s.windows) ∧
  (∀ (sw : Fin 16) (c : Current) (s : State), (stair s sw).cur = some c → c.stage = .opening →
    Completes (.windowOpenDone sw) s fun t =>
      (stair t sw).cur ≠ some c
        ∧ t.windows = s.windows.map fun w => if w.tag = eWtag c.img then { w with live := true } else w) ∧
  (∀ (sw : Fin 16) (c : Current) (w : Window) (s : State), AtEntry s sw 0x09 c → eClose c.img = true →
    findWindow s (eWtag c.img) = some w →
    Completes (.windowClose sw) s fun t =>
      Advanced s t (swPage sw) Reg.sw.ENTRIES ∧ (stair t sw).cur = some { c with stage := .closing }
        ∧ (∃ v ∈ t.windows, v.entry = w.entry ∧ v.tag = w.tag ∧ v.closing = true)
        ∧ ∀ (l : Fin 9) (k : Fin 16) (r : Receive), (chan s l k).receive = some r → r.entry = w.entry →
            (r.drop = true → (chan t l k).receive = some r)
              ∧ (r.drop = false → linkFailed s l = false → (k.val, 2, 0x40) ∈ (link t l).responses)) ∧
  (∀ (sw : Fin 16) (c : Current) (w : Window) (s : State), (stair s sw).cur = some c → c.stage = .closing →
    (s.windows.find? fun w => w.tag == eWtag c.img && w.closing) = some w → windowPending s w.entry = false →
    Completes (.windowCloseDone sw) s fun t =>
      (stair t sw).cur ≠ some c ∧ t.windows = s.windows.filter fun v => v.entry != w.entry) ∧
  (∀ (sw : Fin 16) (c : Current) (k : Nat) (s : State), AtEntry s sw 0x0A c → freeSlot (stair s sw) = some k →
    Completes (.reduce sw) s fun t =>
      Advanced s t (swPage sw) Reg.sw.ENTRIES
        ∧ (SlotHolds t sw k c fun _ => True)
        ∧ ∀ b, (memRead s .stairwell (eOp0 c.img) 64).2 = .ok b → rblockBad b = false → linkIsUp s (rbLink b) = true →
            rbElements b ≠ 0 →
            (SlotHolds t sw k c fun y => y = .reducing b)
              ∧ (chan t (rbLink b) (rbChannel b)).claims = (chan s (rbLink b) (rbChannel b)).claims ++ [(sw.val, k)]) ∧
  (∀ (sw : Fin 16) (c : Current) (s : State), AtEntry s sw 0x0B c →
    Completes (.jump sw) s fun t =>
      Advanced s t (swPage sw) Reg.sw.ENTRIES ∧ (stair t sw).cur ≠ some c
        ∧ ((stair t sw).state = .running → rd t (swPage sw) Reg.sw.LIST_PTR = eOp0 c.img % 2 ^ 64)) ∧
  (∀ (sw : Fin 16) (c : Current) (s : State), AtEntry s sw 0x0C c →
    Completes (.halt sw) s fun t =>
      Advanced s t (swPage sw) Reg.sw.ENTRIES
        ∧ (RecordWaits t sw c ∨
          (stair t sw).state = .idle ∧ (stair t sw).ahead = [] ∧ sticky t (swPage sw) Sticky.sw.HALTED = true)) ∧
  (∀ (sw : Fin 16) (slot : Fin 8) (e : Tracked) (st fl wk : Nat) (s : State),
    NatMap.get? (stair s sw).slots slot = some e → e.body = .ended st fl wk → writeWaits s (dataOwner sw slot) = true →
    Completes (.entryComplete sw slot) s fun t => t = s) ∧
  (∀ (sw : Fin 16) (slot : Fin 8) (e : Tracked) (st fl wk : Nat) (s : State),
    NatMap.get? (stair s sw).slots slot = some e → e.body = .ended st fl wk → writeWaits s (dataOwner sw slot) = false →
    Completes (.entryComplete sw slot) s fun t =>
      (stair t sw).seq = (if eRecord e.img = 0 then (stair s sw).seq else ((stair s sw).seq + 1) % 2 ^ 32)
        ∧ t.dram = (if eRecord e.img = 0 ∨ isHost (eRecord e.img) = true then s.dram
          else (memWrite s .stairwell (eRecord e.img) 32
            (recordImage sw slot e.img e.addr st fl wk (((stair s sw).seq + 1) % 2 ^ 32))).1.dram)
        ∧ (isHost (eRecord e.img) = true → linkUp s = true →
          Packet.hostWr (hostAddr (eRecord e.img)) 32
            (recordImage sw slot e.img e.addr st fl wk (((stair s sw).seq + 1) % 2 ^ 32)) ∈ toHost t)
        ∧ (isHost (eRecord e.img) = true ∧ writeWaits t (recordOwner sw slot) = true
            ∧ NatMap.get? (stair t sw).slots slot = some { e with body := .recording st }
          ∨ NatMap.get? (stair t sw).slots slot = none
            ∧ (stair t sw).errSeen = ((stair s sw).errSeen || decide (1 < st)))) ∧
  (∀ (sw : Fin 16) (slot : Fin 8) (e : Tracked) (st fl wk seq : Nat), st < 2 ^ 8 → fl < 2 ^ 32 → e.addr < 2 ^ 64 →
    seq < 2 ^ 32 →
    let x := recordImage sw slot e.img e.addr st fl wk seq
    bits x 0 8 = st ∧ bits x 8 8 = eOpcode e.img ∧ bits x 16 4 = sw.val ∧ bits x 20 3 = slot.val ∧ bits x 23 8 = 0
      ∧ bits x 31 1 = 1 ∧ bits x 32 32 = fl ∧ bits x 64 64 = eTag e.img ∧ bits x 128 64 = e.addr
      ∧ bits x 192 32 = min wk (2 ^ 32 - 1) ∧ bits x 224 32 = seq) ∧
  (∀ (sw : Fin 16) (slot : Nat) (e : Tracked) (s : State),
    ((stair s sw).slots.find? fun e => (recordFails s e.2).isSome) = some (slot, e) →
    writeWaits s (dataOwner sw slot) = false →
    Completes (.recordWriteFault sw) s fun t =>
      NatMap.get? (stair t sw).slots slot = none ∧ sticky t (swPage sw) Sticky.sw.RECORD_LOST = true
        ∧ (stair t sw).seq = ((stair s sw).seq + 1) % 2 ^ 32)

/-- The dispatcher accepts a job, reads its blocks and its extents, and refuses what fails a check (R191 to R195,
R198, R200, R404). -/
def Obligations.JobIssueCompletes : Prop :=
  (∀ (sw slot d : Nat) (s : State), nextOffer s = some (sw, slot, some d) → s.mc.switching ≠ 2 →
    (nextBlock (newJob sw slot d)).isSome = true →
    Completes .jobIssue s fun t =>
      Advanced s t .dispatcher Reg.dsp.JOBS_ISSUED ∧ t.disp.lastSw = sw
        ∧ t.disp.jobs = s.disp.jobs ++ [newJob sw slot d]) ∧
  (∀ (sw slot : Nat) (s : State), nextOffer s = some (sw, slot, none) → s.mc.switching ≠ 2 →
    Completes .jobIssue s fun t =>
      Advanced s t .dispatcher Reg.dsp.JOBS_ISSUED ∧ Advanced s t .dispatcher Reg.dsp.JOBS_REFUSED
        ∧ sticky t .dispatcher Sticky.dsp.JOB_REFUSED = true ∧ findJob t sw slot = none
        ∧ (NatMap.get? (stair t sw).slots slot).map Tracked.body = some (.ended 0x10 0 0)) ∧
  (∀ (sw : Fin 16) (slot : Fin 8) (j : Job) (which a n al v : Nat) (s : State), findJob s sw slot = some j →
    j.stage = .blocks → nextBlock j = some (which, a, n, al) → (memRead s .stairwell a n).2 = .ok v →
    Completes (.issueBlockReadDone sw slot) s fun t =>
      ((nextBlock (keepBlock j which v)).isSome = true → findJob t sw slot = some (keepBlock j which v))
        ∧ ((nextBlock (keepBlock j which v)).isNone = true → staticStatus (keepBlock j which v) = none →
            findJob t sw slot = some { keepBlock j which v with stage := .extents })
        ∧ ((nextBlock (keepBlock j which v)).isNone = true → staticStatus (keepBlock j which v) ≠ none →
            findJob t sw slot = none ∧ sticky t .dispatcher Sticky.dsp.JOB_REFUSED = true)) ∧
  (∀ (sw : Fin 16) (slot : Fin 8) (j : Job) (m n k : Nat) (s u : State), findJob s sw slot = some j →
    j.stage = .extents → readExtents s j = (u, some (m, n, k)) →
    Completes (.extentReadDone sw slot) s fun t =>
      ((∀ e ∈ extentPairs j m n k, 1 ≤ e.1 ∧ e.1 ≤ e.2) → findJob t sw slot = some (createTally j m n k))
        ∧ ((∃ e ∈ extentPairs j m n k, e.2 < e.1) →
            findJob t sw slot = none ∧ Advanced u t .dispatcher Reg.dsp.JOBS_REFUSED
              ∧ sticky t .dispatcher Sticky.dsp.JOB_REFUSED = true)
        ∧ ((∀ e ∈ extentPairs j m n k, e.1 ≤ e.2) → (∃ e ∈ extentPairs j m n k, e.1 = 0) →
            findJob t sw slot = none ∧ Advanced u t .dispatcher Reg.dsp.JOBS_EMPTY))

/-- Tickets: a fetcher asks, the dispatcher grants or the fetch waits, and a unit finishes (R199 to R204). -/
def Obligations.TicketsComplete : Prop :=
  (∀ (f : Fetcher) (s : State), ready s = true → mayFetch s f = true →
    (s.disp.requests.any fun r => r.who == f) = false →
    Completes (.ticketFetchRequest f) s fun t =>
      t.disp = { s.disp with requests := s.disp.requests ++ [{ who := f, waited := false }] } ∧ t.regs = s.regs) ∧
  (∀ (r : Request) (j : Job) (s : State), rd s .mcService Reg.mcs.STOPPED = 0 → nextRequest s = some (r, j) →
    fits s ((takeUnits j).1.length * unitPlaces j.desc) = true →
    Completes .ticketGrant s fun t =>
      Advanced s t .dispatcher Reg.dsp.FETCHES ∧ t.disp.serial = s.disp.serial + 1
        ∧ (∀ q ∈ t.disp.requests, q.who ≠ r.who)
        ∧ ∃ k : Ticket, k.serial = s.disp.serial ∧ k.units = (takeUnits j).1 ∧ k.exact = (takeUnits j).2.1 ∧ k.sw = j.sw ∧ k.slot = j.slot
          ∧ match r.who with
            | .gallery h g => k ∈ (gal t h g).tickets
            | .dresser h => NatMap.get? t.dressers h.val = some k) ∧
  (∀ (r : Request) (j : Job) (s : State), rd s .mcService Reg.mcs.STOPPED = 0 → nextRequest s = some (r, j) →
    fits s ((takeUnits j).1.length * unitPlaces j.desc) = false → r.waited = false →
    Completes .ticketGrant s fun t =>
      Advanced s t .dispatcher Reg.dsp.FETCH_WAIT ∧ t.disp.jobs = s.disp.jobs ∧ t.galleries = s.galleries
        ∧ ∀ q ∈ t.disp.requests, q.who = r.who → q.waited = true) ∧
  (∀ (h : Fin 16) (g : Fin 17) (k : Ticket) (s : State),
    ((gal s h g).tickets.find? fun t => !t.finished.isEmpty) = some k →
    Completes (.unitFinish (.gallery h g)) s fun t =>
      (∀ e ∈ (gal t h g).tickets, e.serial = k.serial → e.left = k.left.filter fun u => u != k.finished.headD 0)
        ∧ ∀ j, findJob s k.sw k.slot = some j →
          findJob t k.sw k.slot = none ∨ ∃ i, findJob t k.sw k.slot = some i ∧ i.done = j.done + 1
            ∧ i.held = j.held - unitPlaces j.desc) ∧
  (∀ (h : Fin 16) (k : Ticket) (s : State), NatMap.get? s.dressers h.val = some k → k.written = true →
    Completes (.unitFinish (.dresser h)) s fun t =>
      NatMap.get? t.dressers h.val = none
        ∧ ∀ j, findJob s k.sw k.slot = some j →
          findJob t k.sw k.slot = none ∨ ∃ i, findJob t k.sw k.slot = some i ∧ i.done = j.done + 1
            ∧ i.held = j.held - unitPlaces j.desc)

/-- The global row of the row that a conversion converts next (R141). -/
def Sys2Proof.globalRow (c : Conversion) (j : Job) : Nat := dMBlock j.desc * c.block + c.next

/-- The QU has taken the next row `xs` of a conversion and made `v` of it; `u` is the state with the row counted and its
flags raised (R133, R149). -/
def Sys2Proof.RowTaken (s : State) (h : Fin 16) (g : Fin 17) (out : Bool) (c : Conversion) (k : Ticket) (j : Job) (xs : List Nat)
    (v : Converted) (u : State) : Prop :=
  nextConversion s h g = some (out, c) ∧ ticketJob s h g c.serial = some (k, j)
    ∧ v = convertRow (cbOf c j) (globalRow c j) c.next (2048 - c.boulders.length) xs
    ∧ ∃ w, sourceRow s h g k j c = (w, some xs) ∧ u = quFlags (countRow w h g c v) h g c.sw c.slot v.flags

/-- The row error has been written, where the block asks for it (R145). -/
def Sys2Proof.ErrWritten (s : State) (h : Fin 16) (g : Fin 17) (k : Ticket) (j : Job) (c : Conversion) (v : Converted) (t : State) :
    Prop :=
  if cbRowErr (cbOf c j) then
    ticketWrite s h g k (cbRowErrAddr (cbOf c j) + 4 * globalRow c j) 4 v.err = (t, true)
  else t = s

/-- A conversion with one more row: its entries join the boulder list (R135). -/
def Sys2Proof.rowAdded (c : Conversion) (v : Converted) : Conversion :=
  { c with next := c.next + 1, boulders := c.boulders ++ v.boulders, stats := c.stats ++ [v.stats] }

/-- What a row becomes (R44, R48, R135, R137, R138): its codes, its boulder entries and the fields of its side word. -/
def Sys2Proof.RowRules : Prop :=
  ∀ (b row inBlock room wa : Nat) (xs : List Nat) (v : Converted), wa = fmtWidth (cbAfmt b) →
    v = convertRow b row inBlock room xs →
    v.codes.length = xs.length
      ∧ (∀ x ∈ v.codes, x ≤ codeTop wa ∨ (2 ≤ wa ∧ x = escapeCode wa))
      ∧ v.boulders.length ≤ min 16 room
      ∧ (∀ e ∈ v.boulders, ∃ k < xs.length, e = mkBoulder ((rotateRow b xs).1.getD k 0) k inBlock
          ∧ (2 ≤ wa → v.codes.getD k 0 = escapeCode wa))
      ∧ bits v.side 40 8 = v.boulders.length ∧ bits v.side 48 4 = wa - 1 ∧ v.side < 2 ^ 52
      ∧ (sideScale v.side = 0 → sideZp wa v.side = 0 ∧ sideMask wa v.side = 0
          ∧ ∀ x ∈ v.codes, x = 0 ∨ (2 ≤ wa ∧ x = escapeCode wa))
      ∧ (sideScale v.side ≠ 0 → sideMask wa v.side = (v.codes.map fun x =>
            if 2 ≤ wa ∧ x = escapeCode wa then sideZp wa v.side else x).foldl (· ||| ·) 0)
      ∧ (sideScale v.side ≠ 0 → usableScale (cbT b) = true → cbMult b = 0 → cbSr b = false → cbRot b = false →
          xs.all isFinite32 = true → v.boulders = [] ∧ ∀ k < xs.length,
            v.codes.getD k 0 = clampCode (codeTop wa)
              (rneBy (fix (xs.getD k 0)) (effScale (cbT b) (sideScale v.side)) + sideZp wa v.side))

/-- The quantisation unit: conversion on entry, CONVERT, a row, a generator and the statistics burst (R129, R133 to
R146, R242 to R244). -/
def Obligations.QuantisationCompletes : Prop :=
  (∀ (h : Fin 16) (g : Fin 17) (prior : Option Ticket) (k : Ticket) (j : Job) (s : State),
    nextEntry s none (gal s h g).tickets = some (prior, k, j) →
    ((gal s h g).conversion.any fun c => c.sw == k.sw && c.slot == k.slot && c.block == ticketBlock j k) = false →
    doneWithRing s (gal s h g) prior = true →
    spillNeed s h g j (blockRows j (ticketBlock j k)) ≤ rd s (memPage h g) Reg.gm.SPILL_SIZE →
    Completes (.convertOnEntry h g) s fun t =>
      (∃ c, (gal t h g).conversion = some c ∧ c.serial = k.serial ∧ c.block = ticketBlock j k ∧ c.path = .entry
          ∧ c.rows = blockRows j (ticketBlock j k) ∧ c.next = 0)
        ∧ (∀ e ∈ (gal t h g).tickets, e.serial = k.serial → e.begun = true) ∧ t.regs = s.regs) ∧
  (∀ (h : Fin 16) (g : Fin 17) (prior : Option Ticket) (k : Ticket) (j : Job) (s : State),
    nextEntry s none (gal s h g).tickets = some (prior, k, j) →
    ((gal s h g).conversion.any fun c => c.sw == k.sw && c.slot == k.slot && c.block == ticketBlock j k) = false →
    doneWithRing s (gal s h g) prior = false → k.waited = false →
    Completes (.convertOnEntry h g) s fun t =>
      Advanced s t (arrPage h g) Reg.arr.STAGE_WAIT ∧ (gal t h g).conversion = (gal s h g).conversion
        ∧ ∀ e ∈ (gal t h g).tickets, e.serial = k.serial → e.waited = true) ∧
  (∀ (h : Fin 16) (g : Fin 17) (p k : Ticket) (j : Job) (c : Conversion) (s : State),
    nextEntry s none (gal s h g).tickets = some (some p, k, j) → p.sw = k.sw → p.slot = k.slot →
    ticketBlock j p = ticketBlock j k → (gal s h g).conversion = some c → c.sw = k.sw → c.slot = k.slot →
    c.block = ticketBlock j k → k.afresh = false →
    Completes (.convertOnEntry h g) s fun t =>
      (gal t h g).conversion = some c ∧ t.regs = s.regs
        ∧ ∀ e ∈ (gal t h g).tickets, e.serial = k.serial → e.begun = true ∧ e.records = false) ∧
  (∀ (h : Fin 16) (g : Fin 17) (out : Bool) (c : Conversion) (k : Ticket) (j : Job) (xs : List Nat) (s u : State),
    nextConversion s h g = some (out, c) → ticketJob s h g c.serial = some (k, j) →
    sourceRow s h g k j c = (u, some xs) →
    Completes (.rowConversion h g) s fun t =>
      Advanced u t (quPage h g) Reg.qu.ROWS
        ∧ rd t (quPage h g) Reg.qu.CLIPPED_CODES
          = min (rd u (quPage h g) Reg.qu.CLIPPED_CODES
              + (convertRow (cbOf c j) (dMBlock j.desc * c.block + c.next) c.next (2048 - c.boulders.length) xs).stats.clipped)
              (2 ^ 32 - 1)) ∧
  (∀ (h : Fin 16) (g : Fin 17) (c d : Conversion) (k : Ticket) (j : Job) (xs : List Nat) (v : Converted) (cw : Nat)
    (s u u1 u2 u3 : State), RowTaken s h g true c k j xs v u → c.path ≠ .entry →
    cw = container (fmtWidth (cbAfmt (cbOf c j))) →
    ticketWrite u h g k (dOutAddr j.desc + globalRow c j * dOutRowStride j.desc) (ceilDiv (v.codes.length * cw) 8)
      (packCodes cw v.codes) = (u1, true) →
    ticketWrite u1 h g k (dOutSideAddr j.desc + 8 * globalRow c j) 8 v.side = (u2, true) →
    ErrWritten u2 h g k j c v u3 → d = rowAdded c v →
    Completes (.rowConversion h g) s fun t =>
      (d.next < d.rows → t.dram = u3.dram ∧ t.caches = u3.caches ∧ (gal t h g).quOut = some d)
        ∧ (d.rows ≤ d.next → ∀ u4, ticketWrite (putConversion u3 h g true d) h g k (dOutBlAddr j.desc + 16448 * c.block)
            (8 + 8 * d.boulders.length) (boulderImage d.boulders) = (u4, true) →
          t.dram = u4.dram ∧ t.caches = u4.caches)) ∧
  (∀ (h : Fin 16) (g : Fin 17) (c d : Conversion) (k : Ticket) (j : Job) (xs : List Nat) (v : Converted) (cw img : Nat)
    (s u u1 u2 : State), RowTaken s h g false c k j xs v u → c.path = .entry → cw = container (dWa j.desc) →
    img = v.side + packCodes cw v.codes * 2 ^ 512 →
    (match c.spill.filter (· ≤ c.next) with
      | some f => ticketWrite u h g k (spillRow u h g f (rowCourses j.k cw) c.next) (64 + 64 * ceilDiv (j.k * cw) 512) img
      | none => (writeStore u h g 1 (ringRow (rowCourses j.k cw) c.next) ((64 + 64 * ceilDiv (j.k * cw) 512) / 4) img, true))
      = (u1, true) →
    ErrWritten u1 h g k j c v u2 → d = rowAdded c v →
    Completes (.rowConversion h g) s fun t =>
      (d.next < d.rows → t.dram = u2.dram ∧ t.caches = u2.caches ∧ (gal t h g).mem = (gal u2 h g).mem
          ∧ (gal t h g).conversion = some d)
        ∧ (d.rows ≤ d.next → listSpills s h g = false →
          t.dram = u2.dram ∧ t.caches = u2.caches
            ∧ (gal t h g).mem = putWordsAt (gal u2 h g).mem (memKey 1 0) ((8 + 8 * d.boulders.length) / 4)
                (boulderImage d.boulders))) ∧
  RowRules ∧
  (∀ (h : Fin 16) (g : Fin 17) (c : Conversion) (k : Ticket) (j : Job) (i : Nat) (s : State),
    (gal s h g).quOut = some c → ticketJob s h g c.serial = some (k, j) → c.gen = none → cbSr (cbOf c j) = true →
    pickGen (gal s h g) (cbStream (cbOf c j)) (cbSeed (cbOf c j)) = some i →
    Completes (.generatorBind h g) s fun t =>
      (gal t h g).quOut = some { c with gen := some i }
        ∧ ∃ e, NatMap.get? (gal t h g).gens i = some e ∧ k.serial ∈ e.users
          ∧ (NatMap.get? (gal s h g).gens i = none →
              e.stream = cbStream (cbOf c j) ∧ e.seed = cbSeed (cbOf c j) ∧ e.users = [k.serial])) ∧
  (∀ (h : Fin 16) (g : Fin 17) (c : Conversion) (k : Ticket) (j : Job) (s : State),
    (gal s h g).quOut = some c → ticketJob s h g c.serial = some (k, j) → c.gen = none → cbSr (cbOf c j) = true →
    pickGen (gal s h g) (cbStream (cbOf c j)) (cbSeed (cbOf c j)) = none → k.waited = false →
    Completes (.generatorBind h g) s fun t =>
      Advanced s t (quPage h g) Reg.qu.SR_WAIT
        ∧ ∀ e ∈ (gal t h g).tickets, e.serial = k.serial → e.waited = true) ∧
  (∀ (h : Fin 16) (g : Fin 17) (out : Bool) (c : Conversion) (k : Ticket) (j : Job) (v w : Nat) (s u u' : State),
    nextBurst s h g = some (out, c, k, j) →
    readMerge (markBurst s k) .stats (cbStatsAddr (cbOf c j)) = (u, v, none) →
    readMerge u .stats (cbStatsAddr (cbOf c j) + 32) = (u', w, none) →
    (memWrite u' .stats (cbStatsAddr (cbOf c j)) 64 (c.stats.foldl addStats (v + w * 2 ^ 256))).2.isOk = true →
    Completes (.statisticsAddBurst h g) s fun t =>
      t.dram = (memWrite u' .stats (cbStatsAddr (cbOf c j)) 64 (c.stats.foldl addStats (v + w * 2 ^ 256))).1.dram
        ∧ t.disp = (markBurst s k).disp) ∧
  (∀ (h : Fin 16) (g : Fin 17) (k : Ticket) (j : Job) (s : State), (gal s h g).quOut = none →
    ((gal s h g).tickets.find? fun t =>
      !t.begun && (findJob s t.sw t.slot).any fun j => dKind j.desc == 2) = some k →
    findJob s k.sw k.slot = some j →
    Completes (.convert h g) s fun t =>
      (∃ c, (gal t h g).quOut = some c ∧ c.serial = k.serial ∧ c.block = ticketBlock j k ∧ c.path = .convert
          ∧ c.rows = blockRows j (ticketBlock j k) ∧ c.next = 0)
        ∧ (∀ e ∈ (gal t h g).tickets, e.serial = k.serial → e.begun = true) ∧ t.regs = s.regs)

/-- The M-block and the rows of the output tile that a ticket opens next. -/
def Sys2Proof.newGroupBlock (j : Job) (k : Ticket) : Nat := ((ticketTiles j k).getD k.opened (0, 0, 0, 0)).2.1
def Sys2Proof.newGroupRows (j : Job) (k : Ticket) : Nat := groupRows (blockRows j (newGroupBlock j k)) (dShape j.desc)

/-- The next opening of a gallery has its panel entry read, a slot and its rows, and the rows its boulder list names. -/
def Sys2Proof.Opens (s v : State) (h : Fin 16) (g : Fin 17) (k : Ticket) (j : Job) (p : Nat × Nat) (slot : Nat) (es : List Nat) :
    Prop :=
  ∃ u, nextOpening s (gal s h g).tickets = some (k, j) ∧ panelOf s h g k.serial k.opened = (u, some p)
    ∧ freeGroupSlot (gal u h g) = some slot ∧ rowsHeld (gal u h g) + newGroupRows j k ≤ 1024
    ∧ openRows u h g slot k j (newGroupBlock j k) (blockRows j (newGroupBlock j k)) = (v, some es)

/-- Accumulation groups: an opening, a preload row, and the close of an orphan (R109 to R113, R126). -/
def Obligations.LandingsComplete : Prop :=
  (∀ (h : Fin 16) (g : Fin 17) (k : Ticket) (j : Job) (p : Nat × Nat) (slot : Nat) (es : List Nat) (s v : State),
    Opens s v h g k j p slot es → dPreload j.desc = false →
    Completes (.groupOpen h g) s fun t =>
      Advanced v t (arrPage h g) Reg.lnd.GROUPS_OPENED
        ∧ (∃ gr ∈ (gal t h g).groups, gr.slot = slot ∧ gr.serial = k.serial ∧ gr.tile = k.opened
            ∧ gr.head = (gal v h g).allocHead ∧ gr.rows = newGroupRows j k ∧ gr.shift = 0 ∧ gr.boulderRows = es)
        ∧ (gal t h g).allocHead = ((gal v h g).allocHead + newGroupRows j k) % 1024) ∧
  (∀ (h : Fin 16) (g : Fin 17) (k : Ticket) (j : Job) (p : Nat × Nat) (slot w sh0 : Nat) (sat : Bool) (es : List Nat)
    (s v u : State), Opens s v h g k j p slot es → dPreload j.desc = true →
    ticketRead v h g (.gallery g) k (dPreSideAddr j.desc + 8 * tileIndex j.desc (newGroupBlock j k)
      ((ticketTiles j k).getD k.opened (0, 0, 0, 0)).2.2.1) 8 = (u, some w) →
    checkSide j.desc (blockRows j (newGroupBlock j k)) w = .ok (sh0, sat) →
    Completes (.groupOpen h g) s fun t =>
      rd t (arrPage h g) Reg.lnd.GROUPS_OPENED = rd u (arrPage h g) Reg.lnd.GROUPS_OPENED
        ∧ ∃ gr ∈ (gal t h g).groups, gr.slot = slot ∧ gr.serial = k.serial ∧ gr.tile = k.opened ∧ gr.phase = .opening
            ∧ gr.head = (gal u h g).allocHead ∧ gr.shift = sh0 ∧ gr.sat = sat ∧ gr.loaded = 0) ∧
  (∀ (h : Fin 16) (g : Fin 17) (k : Ticket) (j : Job) (p : Nat × Nat) (slot w c : Nat) (es : List Nat) (s v u : State),
    Opens s v h g k j p slot es → dPreload j.desc = true →
    ticketRead v h g (.gallery g) k (dPreSideAddr j.desc + 8 * tileIndex j.desc (newGroupBlock j k)
      ((ticketTiles j k).getD k.opened (0, 0, 0, 0)).2.2.1) 8 = (u, some w) →
    checkSide j.desc (blockRows j (newGroupBlock j k)) w = .error c →
    Completes (.groupOpen h g) s fun t =>
      findJob t k.sw k.slot = none
        ∧ sticky t (arrPage h g) (if c = 0x22 then Sticky.arr.BAD_SIDE else Sticky.arr.SIG_FAULT) = true) ∧
  (∀ (h : Fin 16) (g : Fin 17) (k : Ticket) (j : Job) (p : Nat × Nat) (s u : State),
    nextOpening s (gal s h g).tickets = some (k, j) → panelOf s h g k.serial k.opened = (u, some p) →
    freeGroupSlot (gal u h g) = none ∨ 1024 < rowsHeld (gal u h g) + newGroupRows j k → k.openWaited = false →
    Completes (.groupOpen h g) s fun t =>
      Advanced u t (arrPage h g) Reg.lnd.OPEN_WAIT ∧ (gal t h g).groups = (gal u h g).groups) ∧
  (∀ (h : Fin 16) (g : Fin 17) (gr : Group) (k : Ticket) (j : Job) (img : Nat) (s u : State),
    nextLoad (gal s h g) = some gr → ticketJob s h g gr.serial = some (k, j) →
    ticketRead s h g (.gallery g) k
        (dSrc2Addr j.desc + tileIndex j.desc gr.i gr.j * tileBytes j.desc + 512 * gr.loaded)
        (4 * min 128 (gr.m * dCols j.desc - 128 * gr.loaded)) = (u, some img) →
    Completes (.preloadRowLoad h g) s fun t =>
      (∀ e ∈ (gal t h g).groups, e.slot = gr.slot → e.loaded = gr.loaded + 1)
        ∧ (gr.rows ≤ gr.loaded + 1 → gr.retries = 0 → Advanced u t (arrPage h g) Reg.lnd.GROUPS_OPENED)
        ∧ (gal t h g).mem = putWordsAt (gal u h g).mem (memKey 2 (landWord gr (128 * gr.loaded)))
            (min 128 (gr.m * dCols j.desc - 128 * gr.loaded))
            (shiftPreload (min 128 (gr.m * dCols j.desc - 128 * gr.loaded)) (gr.shift - gr.sh0) img)) ∧
  (∀ (h : Fin 16) (g : Fin 17) (slot : Fin 8) (s : State), Reaches s .mainband (.array h g) 0x08C →
    ((gal s h g).groups.any fun e => e.slot == slot.val && e.phase == .orphan) = true →
    Completes (.groupCmdClose h g slot) s fun t =>
      (∀ e ∈ (gal t h g).groups, e.slot ≠ slot.val) ∧ t.regs = s.regs ∧ (gal t h g).mem = (gal s h g).mem) ∧
  (∀ (h : Fin 16) (g : Fin 17) (slot : Fin 8) (s : State), Reaches s .mainband (.array h g) 0x08C →
    ((gal s h g).groups.any fun e => e.slot == slot.val && e.phase == .orphan) = false →
    Completes (.groupCmdClose h g slot) s fun t =>
      rd t (arrPage h g) Reg.hdr.STATE_ERR = 1 ∧ t.galleries = s.galleries)

/-- Tile records, the shadow, the swap and the stream ring (R79, R81, R82, R91 to R95, R171, R240, R242). -/
def Obligations.TilesComplete : Prop :=
  (∀ (h : Fin 16) (g : Fin 17) (k0 k : Ticket) (j0 j : Job) (p : Nat × Nat) (img : Nat) (s u w : State),
    nextReceive s (gal s h g).tickets = some (k0, j0) →
    ticketJob (passPanels h g k0.serial ((ticketTiles j0 k0).length + 1) s) h g k0.serial = some (k, j) →
    k.recvTile < (ticketTiles j k).length →
    panelOf (passPanels h g k0.serial ((ticketTiles j0 k0).length + 1) s) h g k.serial k.recvTile = (u, some p) →
    ringUsed (gal u h g) + ceilDiv (recordBytes (dWw j.desc)) 512 ≤ 2048 → dSplitK j.desc = false →
    ticketRead u h g (.gallery (Fin.ofNat 17 g)) k
      (dStreamAddr j.desc + 32 * p.1 + k.recvRec * recordBytes (dWw j.desc)) (recordBytes (dWw j.desc)) = (w, some img) →
    Completes (.tileRecordReceive h g) s fun t =>
      (gal t h g).ring = (gal w h g).ring ++ [{
          serial := k.serial, tile := k.recvTile, record := k.recvRec, course := (gal w h g).asHead,
          courses := ceilDiv (recordBytes (dWw j.desc)) 512, left := false }]
        ∧ (gal t h g).asHead = ((gal w h g).asHead + ceilDiv (recordBytes (dWw j.desc)) 512) % 2048) ∧
  (∀ (h : Fin 16) (g : Fin 17) (a : RowAt) (side codes : Nat) (i : Inputs) (ns : List Nat) (ws : List (Nat × Nat))
    (s u v w : State), nextFetch s h g = some a → streamedAt s h g a.j a.gr.i a.row = some (side, codes) →
    ringHasRoom s h g a = true → readInputs s h g a = (u, some i) → wordsNeeded u h g a i = (v, some ns) →
    fetchWords h g a codes ns (placeWord v h g i.side).1 = (w, some ws) →
    Completes (.streamRingFetch h g) s fun t =>
      (gal t h g).streamRows = (gal w h g).streamRows ++ [{
          serial := a.t.serial, tile := a.gr.tile, record := a.r.record, row := a.row, side := i.side, qpos := i.qpos
          theta := i.theta, words := ws }]
        ∧ (gal t h g).mem = (gal w h g).mem ∧ (gal t h g).streamHead = (gal w h g).streamHead) ∧
  (∀ (h : Fin 16) (g : Fin 17) (e : RingRec) (k : Ticket) (j : Job) (img : Nat) (s u : State),
    (gal s h g).shadow = none → nextLoadRec (gal s h g) = some e → ticketJob s h g e.serial = some (k, j) →
    readRing s h g e 0 24 = (u, some img) → headBad (dShape j.desc) (dWfmt j.desc) img = false →
    Completes (.tileLoadHandshake h g) s fun t =>
      ∃ r, (gal t h g).shadow = some r ∧ r.serial = e.serial ∧ r.tile = e.tile ∧ r.record = e.record ∧ r.image = img
        ∧ r.loaded = 1 ∧ r.total = 1 + ceilDiv (64 * payloadBytes (dWw j.desc)) 512) ∧
  (∀ (h : Fin 16) (g : Fin 17) (r : TileReg) (e : RingRec) (k : Ticket × Job) (img : Nat) (s u : State),
    (gal s h g).shadow = some r → r.loaded < r.total → ticketJob s h g r.serial = some k →
    ((gal s h g).ring.find? fun e => e.isTile (some r)) = some e →
    readRing s h g e (24 + 128 * (r.loaded - 1)) (min 128 (r.size / 4 - (24 + 128 * (r.loaded - 1)))) = (u, some img) →
    Completes (.tileLoadHandshake h g) s fun t =>
      ∃ q, (gal t h g).shadow = some q ∧ q.loaded = r.loaded + 1
        ∧ q.image = r.image + img * 2 ^ (32 * (24 + 128 * (r.loaded - 1)))) ∧
  (∀ (h : Fin 16) (g : Fin 17) (r : TileReg) (s : State), (gal s h g).shadow = some r →
    residentDone (gal s h g) = true → r.loaded < r.total →
    Completes (.shadowSwap h g) s fun t =>
      (gal t h g).shadow = some { r with waited := true } ∧ (gal t h g).resident = (gal s h g).resident
        ∧ t.regs = s.regs) ∧
  (∀ (h : Fin 16) (g : Fin 17) (r : TileReg) (s : State), (gal s h g).shadow = some r →
    residentDone (gal s h g) = true → r.total ≤ r.loaded → groupOf (gal s h g) r.serial r.tile = none →
    Completes (.shadowSwap h g) s fun t =>
      (gal t h g).shadow = some { r with landWaited := true } ∧ (gal t h g).resident = (gal s h g).resident
        ∧ t.regs = s.regs) ∧
  (∀ (h : Fin 16) (g : Fin 17) (r : TileReg) (k : Ticket) (j : Job) (gr : Group) (s : State),
    (gal s h g).shadow = some r → residentDone (gal s h g) = true → r.total ≤ r.loaded →
    ticketJob s h g r.serial = some (k, j) → groupOf (gal s h g) r.serial r.tile = some gr → gr.phase ≠ .draining →
    tileSkips k j ((k.panels.getD gr.tile (0, 0)).2) = false →
    Completes (.shadowSwap h g) s fun t =>
      (gal t h g).resident = some r ∧ (gal t h g).shadow = none ∧ (gal t h g).sums = []
        ∧ Advanced s t (arrPage h g) Reg.arr.TILES_LOADED) ∧
  (∀ (h : Fin 16) (g : Fin 17) (r : TileReg) (k : Ticket) (j : Job) (gr : Group) (sums : List (Int × Int × Int × Nat))
    (s u : State),
    (gal s h g).shadow = some r → residentDone (gal s h g) = true → r.total ≤ r.loaded →
    ticketJob s h g r.serial = some (k, j) → groupOf (gal s h g) r.serial r.tile = some gr → gr.phase ≠ .draining →
    tileSkips k j ((k.panels.getD gr.tile (0, 0)).2) = true → formSums s h g k j r gr.j = (u, some sums) →
    Completes (.shadowSwap h g) s fun t =>
      (gal t h g).resident = some r ∧ (gal t h g).shadow = none ∧ (gal t h g).sums = sums
        ∧ Advanced u t (arrPage h g) Reg.arr.TILES_LOADED)

/-- The mask of a row's flight: 0 when every entry is far, which reads no codes (R174), else the effective mask. -/
def Sys2Proof.StagesMask (u : State) (h : Fin 16) (g : Fin 17) (a : RowAt) (i : Inputs) (v : State) (m : Nat) : Prop :=
  (allFar (rowClasses a i) = true ∧ v = u ∧ m = 0) ∨
    (allFar (rowClasses a i) = false ∧ rowMask u h g a i.side = (v, some m))

/-- A row has gone into the staged register; its flight begins when it can. -/
def Sys2Proof.Staged (s t : State) (h : Fin 16) (g : Fin 17) (a : RowAt) (m : Nat) : Prop :=
  ((gal s h g).resident = some a.r → ∀ gr ∈ (gal t h g).groups, gr.slot = a.gr.slot → gr.stageRow = a.row + 1)
    ∧ (∀ f, (gal t h g).staged = some f → f.serial = a.t.serial ∧ f.row = a.row ∧ f.mask = m)
    ∧ ((gal s h g).flight.isSome = true → (gal t h g).staged.isSome = true)

/-- A flight has run its last tread, with its tile, ticket, job and group; its signature agrees and the row of its group
is open to it (R115, R116). -/
def Sys2Proof.FlightEnds (s : State) (h : Fin 16) (g : Fin 17) (f : Flight) (r : TileReg) (k : Ticket) (j : Job) (gr : Group) :
    Prop :=
  (gal s h g).flight = some f ∧ (gal s h g).resident = some r ∧ f.todo = [] ∧ ticketJob s h g f.serial = some (k, j)
    ∧ flightGroup (gal s h g) f = some gr ∧ gr.sig = dSignature j.desc ∧ rowLoaded gr f.row (shapeCols r.shape) = true

/-- The waits that the addition of a flight may count: for the opening of its group, and for a drain (R116, R118). -/
def Sys2Proof.additionWaits (s : State) (h : Fin 16) (g : Fin 17) (f : Flight) (r : TileReg) : State :=
  countDrainWait (countOpeningWait s h g f r) h g

/-- The totals of a flight added to its row, by column-blocks (R73). -/
def Sys2Proof.addTotals (h : Fin 16) (g : Fin 17) (f : Flight) (r : TileReg) (gr : Group) (adds : List (Option Int)) (s : State) :
    State × Option Nat :=
  addRow h g gr (f.row * shapeCols r.shape) (chunks 16 adds.length adds) s

/-- Flights: staging, a tread, the addition, the deadline timer and the sampler (R68 to R79, R172 to R181). -/
def Obligations.FlightsComplete : Prop :=
  (∀ (h : Fin 16) (g : Fin 17) (a : RowAt) (i : Inputs) (m : Nat) (s u v : State), (gal s h g).staged = none →
    nextRow s h g = some a → streamedAt s h g a.j a.gr.i a.row = none → readInputs s h g a = (u, some i) →
    StagesMask u h g a i v m → (m = 0 ∨ ∃ w r, gather v h g a false (ringWords a) i.side m = (w, some r)) →
    Completes (.flightStage h g) s fun t => Staged s t h g a m) ∧
  (∀ (h : Fin 16) (g : Fin 17) (a : RowAt) (p : Nat × Nat) (x : StreamRow) (m : Nat) (s v : State),
    (gal s h g).staged = none → nextRow s h g = some a → streamedAt s h g a.j a.gr.i a.row = some p →
    fetchedRow (gal s h g) a = some x →
    StagesMask s h g a { side := x.side, qpos := x.qpos, theta := x.theta } v m →
    (m = 0 ∨ ∃ w r, gather v h g a true x.words x.side m = (w, some r)) →
    Completes (.flightStage h g) s fun t =>
      Staged s t h g a m ∧ ∀ w ∈ (gal t h g).streamRows, ¬(w.isFor a.r = true ∧ w.row = a.row)) ∧
  (∀ (h : Fin 16) (g : Fin 17) (f : Flight) (r : TileReg) (ij : Nat × Nat) (rest : List (Nat × Nat)) (k : Ticket × Job)
    (gr : Group) (s : State), (gal s h g).flight = some f → (gal s h g).resident = some r → f.todo = ij :: rest →
    ticketJob s h g f.serial = some k → flightGroup (gal s h g) f = some gr →
    Completes (.tread h g false) s fun t =>
      Advanced s t (arrPage h g) Reg.arr.TREADS
        ∧ ∃ e, (gal t h g).flight = some e ∧ e.acc = treadAdd r f ij ∧ (f.skip = none → e.todo = rest)) ∧
  (∀ (h : Fin 16) (g : Fin 17) (f : Flight) (r : TileReg) (ij : Nat × Nat) (rest : List (Nat × Nat)) (k : Ticket × Job)
    (gr : Group) (s : State), (gal s h g).flight = some f → (gal s h g).resident = some r → f.todo = ij :: rest →
    ticketJob s h g f.serial = some k → flightGroup (gal s h g) f = some gr →
    Completes (.tread h g true) s fun t =>
      (gal t h g).faulted = true ∧ rd t (arrPage h g) Reg.hdr.FAULT_CODE = 3 ∧ (gal t h g).tickets = []) ∧
  (∀ (h : Fin 16) (g : Fin 17) (f : Flight) (r : TileReg) (k : Ticket) (j : Job) (gr : Group) (s u : State),
    FlightEnds s h g f r k j gr → f.skip = none → (gal s h g).staged = none →
    addTotals h g f r gr (landed r f.acc) (additionWaits s h g f r) = (u, some 0) →
    rd s (arrPage h g) Reg.lnd.LAND_WAIT < 2 ^ 32 →
    Completes (.flightEndAdd h g) s fun t =>
      (gal t h g).mem = (gal u h g).mem ∧ (gal t h g).flight = none
        ∧ (∃ n ≤ (drainRuns (gal s h g)).toNat, rd t (arrPage h g) Reg.lnd.LAND_WAIT
          = min (rd s (arrPage h g) Reg.lnd.LAND_WAIT + (r.landWaited && !f.waited).toNat + n) (2 ^ 32 - 1))
        ∧ ∀ e ∈ (gal t h g).groups, e.slot = gr.slot → e.addRow = f.row + 1) ∧
  (∀ (h : Fin 16) (g : Fin 17) (f e : Flight) (r : TileReg) (k : Ticket) (j : Job) (kj : Ticket × Job) (gr : Group)
    (s u : State), FlightEnds s h g f r k j gr → f.skip = none → (gal s h g).staged = some e → e.isFor r = true →
    (gal s h g).sampling = none → e.empty = false → e.skip = none → ticketJob s h g e.serial = some kj →
    addTotals h g f r gr (landed r f.acc) (additionWaits s h g f r) = (u, some 0) →
    Completes (.flightEndAdd h g) s fun t =>
      (gal t h g).mem = (gal u h g).mem ∧ (gal t h g).flight = some e ∧ (gal t h g).staged = none
        ∧ Advanced s t (arrPage h g) Reg.arr.FLIGHTS) ∧
  (∀ (h : Fin 16) (g : Fin 17) (f : Flight) (r : TileReg) (k : Ticket) (j : Job) (gr : Group) (n : Nat) (s u : State),
    FlightEnds s h g f r k j gr → f.skip = none → n ≠ 0 → gr.shift < 8 → gr.retries < 2 →
    addTotals h g f r gr (landed r f.acc) (additionWaits s h g f r) = (u, some n) →
    Completes (.flightEndAdd h g) s fun t =>
      rd t (arrPage h g) Reg.lnd.SAT_EVENTS = min (rd s (arrPage h g) Reg.lnd.SAT_EVENTS + n) (2 ^ 32 - 1)
        ∧ Advanced s t (arrPage h g) Reg.lnd.RETRIES ∧ sticky t (arrPage h g) Sticky.arr.RETRIED = true
        ∧ (gal t h g).flight = none ∧ (gal t h g).staged = none ∧ (gal t h g).shadow = none
        ∧ (∀ e ∈ (gal t h g).tickets, e.serial = gr.serial → e.recvTile = gr.tile ∧ e.recvRec = 0)
        ∧ (gr.preloaded = false → ∀ e ∈ (gal t h g).mem, inRows gr e.1 = false)
        ∧ ∃ e ∈ (gal t h g).groups, e.slot = gr.slot ∧ e.serial = gr.serial ∧ e.tile = gr.tile ∧ e.phase = .retrying
            ∧ e.shift = gr.shift + 4 ∧ e.retries = gr.retries + 1 ∧ e.loaded = 0 ∧ e.tilesDone = 0 ∧ e.addRow = 0) ∧
  (∀ (h : Fin 16) (g : Fin 17) (f : Flight) (r : TileReg) (k : Ticket) (j : Job) (gr : Group) (n : Nat) (s u : State),
    FlightEnds s h g f r k j gr → f.skip = none → (gal s h g).staged = none → n ≠ 0 → 8 ≤ gr.shift ∨ 2 ≤ gr.retries →
    addTotals h g f r gr (landed r f.acc) (additionWaits s h g f r) = (u, some n) →
    Completes (.flightEndAdd h g) s fun t =>
      rd t (arrPage h g) Reg.lnd.SAT_EVENTS = min (rd s (arrPage h g) Reg.lnd.SAT_EVENTS + n) (2 ^ 32 - 1)
        ∧ rd t (arrPage h g) Reg.lnd.RETRIES = rd s (arrPage h g) Reg.lnd.RETRIES
        ∧ sticky t (arrPage h g) Sticky.arr.SATURATE = true ∧ (gal t h g).mem = (gal u h g).mem
        ∧ ∃ e ∈ (gal t h g).groups, e.slot = gr.slot ∧ e.serial = gr.serial ∧ e.tile = gr.tile ∧ e.sat = true
            ∧ e.shift = gr.shift ∧ e.addRow = f.row + 1) ∧
  (∀ (h : Fin 16) (g : Fin 17) (f : Flight) (r : TileReg) (k : Ticket) (j : Job) (gr : Group) (s u : State),
    FlightEnds s h g f r k j gr → f.skip = none → (gal s h g).staged = none → f.row + 1 = gr.m →
    gr.phase = .accumulating ∨ gr.phase = .retrying → gr.preloaded = false ∨ gr.rows ≤ gr.loaded →
    tileComplete { gal s h g with flight := none } k { gr with tilesDone := f.record + 1 }
      ((k.panels.getD gr.tile (0, 1)).2) = true →
    addTotals h g f r gr (landed r f.acc) (additionWaits s h g f r) = (u, some 0) →
    Completes (.flightEndAdd h g) s fun t =>
      (∃ e ∈ (gal t h g).groups, e.slot = gr.slot ∧ e.serial = gr.serial ∧ e.tile = gr.tile ∧ e.phase = .draining
          ∧ (dRequant j.desc = false → e.draining = true))
        ∧ (dRequant j.desc = false → VeItem.drain f.serial f.tile ∈ (gal t h g).ready)) ∧
  (∀ (h : Fin 16) (g : Fin 17) (f e : Flight) (r : TileReg) (k : Ticket) (j : Job) (gr : Group) (x : SkipRun)
    (adds : List (Option Int)) (cols : List (Nat × Option Int)) (s u : State), FlightEnds s h g f r k j gr →
    e = fallback f → e.skip = some x → adds = flightAdds (gal s h g) r e → (gal s h g).staged = none →
    addTotals h g f r gr adds (count (additionWaits s h g f r) (arrPage h g) Reg.skp.ESTIMATED
      (x.classes.filter (· == 1)).length) = (u, some 0) →
    cols = sampledCols (kPeriod (skipOf j)) gr.numbered x.classes (fun c => (adds.getD c none).getD 0) →
    Completes (.flightEndAdd h g) s fun t =>
      rd t (arrPage h g) Reg.skp.ESTIMATED
          = min (rd s (arrPage h g) Reg.skp.ESTIMATED + (x.classes.filter (· == 1)).length) (2 ^ 64 - 1)
        ∧ (gal t h g).flight = none ∧ (gal t h g).mem = (putClasses (gal u h g) gr f.row x.classes).mem
        ∧ (gal t h g).sampling = (if cols = [] then none else some (f.row, cols))
        ∧ ∃ e ∈ (gal t h g).groups, e.slot = gr.slot ∧ e.serial = gr.serial ∧ e.tile = gr.tile ∧ e.addRow = f.row + 1
            ∧ e.numbered = gr.numbered + numberedIn x.classes) ∧
  (∀ (h : Fin 16) (g : Fin 17) (f : Flight) (r : TileReg) (k : Ticket) (j : Job) (gr : Group) (s : State),
    (gal s h g).flight = some f → (gal s h g).resident = some r → f.todo = [] →
    ticketJob s h g f.serial = some (k, j) → flightGroup (gal s h g) f = some gr → gr.sig ≠ dSignature j.desc →
    Completes (.flightEndAdd h g) s fun t =>
      sticky t (arrPage h g) Sticky.arr.SIG_FAULT = true ∧ findJob t k.sw k.slot = none
        ∧ ∀ e ∈ (gal t h g).tickets, ¬(e.sw = k.sw ∧ e.slot = k.slot)) ∧
  (∀ (h : Fin 16) (g : Fin 17) (f : Flight) (r : TileReg) (k : Ticket) (j : Job) (gr : Group) (s : State),
    (gal s h g).flight = some f → (gal s h g).resident = some r → f.todo = [] →
    ticketJob s h g f.serial = some (k, j) → flightGroup (gal s h g) f = some gr → gr.sig = dSignature j.desc →
    rowLoaded gr f.row (shapeCols r.shape) = false → f.waited = false →
    Completes (.flightEndAdd h g) s fun t =>
      Advanced s t (arrPage h g) Reg.lnd.LAND_WAIT ∧ (gal t h g).flight = some { f with waited := true }
        ∧ (gal t h g).mem = (gal s h g).mem) ∧
  (∀ (h : Fin 16) (g : Fin 17) (k : Ticket) (s : State),
    ((gal s h g).tickets.find? fun t => t.timer == 1) = some k →
    Completes (.deadlineTimerExpiry h g) s fun t =>
      Advanced s t (arrPage h g) Reg.skp.DEADLINE_HITS ∧ sticky t (arrPage h g) Sticky.arr.DEADLINE_HIT = true
        ∧ ∀ e ∈ (gal t h g).tickets, e.serial = k.serial → e.timer = 2) ∧
  (∀ (h : Fin 16) (g : Fin 17) (row : Nat) (cols : List (Nat × Option Int)) (r : TileReg) (k : Ticket) (j : Job)
    (gr : Group) (i : Inputs) (m bad : Nat) (gs : List ((Nat × Nat) × List Nat)) (s u v w : State),
    (gal s h g).sampling = some (row, cols) → (gal s h g).resident = some r → ticketJob s h g r.serial = some (k, j) →
    groupOf (gal s h g) r.serial r.tile = some gr →
    readInputs s h g { t := k, j := j, r := r, gr := gr, row := row } = (u, some i) →
    rowMask u h g { t := k, j := j, r := r, gr := gr, row := row } i.side = (v, some m) →
    (if m = 0 then (v, some []) else sampleGather v h g { t := k, j := j, r := r, gr := gr, row := row } i.side m)
      = (w, some gs) →
    bad = (cols.filter fun e => missed gr.shift (stageSkip { t := k, j := j, r := r, gr := gr, row := row } i m [])
      ((gal s h g).sums.getD e.1 (0, 0, 0, 0)) (((exactTotals r gs).getD e.1 none).getD 0) e.2).length →
    Completes (.samplingFlight h g) s fun t =>
      rd t (arrPage h g) Reg.skp.SAMPLED
        = min (rd w (arrPage h g) Reg.skp.SAMPLED + cols.length) (2 ^ Reg.skp.SAMPLED.width - 1)
        ∧ rd t (arrPage h g) Reg.skp.MISSES
          = min (rd w (arrPage h g) Reg.skp.MISSES + bad) (2 ^ Reg.skp.MISSES.width - 1)
        ∧ rd t (arrPage h g) Reg.skp.SAMPLE_TREADS
          = min (rd w (arrPage h g) Reg.skp.SAMPLE_TREADS + (treadList r.wa r.ww m).length)
              (2 ^ Reg.skp.SAMPLE_TREADS.width - 1)
        ∧ ((gal s h g).staged = none → (gal t h g).sampling = none)
        ∧ ∃ e ∈ (gal t h g).groups, e.slot = gr.slot ∧ e.serial = gr.serial ∧ e.tile = gr.tile
            ∧ e.misses = gr.misses + bad)

/-- The gallery with the drain of an output tile taken by its VE. -/
def Sys2Proof.drainTaken (s : State) (h g serial tile : Nat) (rest : List VeItem) : State :=
  setGal s h g { gal s h g with ve := some (.drain serial tile), ready := rest }

/-- The gallery with a vector ticket taken by its VE. -/
def Sys2Proof.vectorTaken (s : State) (h g serial : Nat) (rest : List VeItem) : State :=
  updTicket (setGal s h g { gal s h g with ve := some (.vector serial), ready := rest }) h g serial
    fun t => { t with begun := true }

/-- The rows of a vector ticket's M-block, run one after another from a state. -/
def Sys2Proof.rowsRun (s : State) (h g : Nat) (v : VecRun) (row : Nat → State → State × Bool) : State × Bool :=
  eachRow row (dMBlock v.j.desc * ticketBlock v.j v.t) (blockRows v.j (ticketBlock v.j v.t))
    (count s (vePage h g) Reg.ve.VE_HS (vecCost v.b (blockRows v.j (ticketBlock v.j v.t)) v.j.k))

/-- A vector ticket's outputs are written, as its rows have left memory and the caches: it is counted, the VE is free, and
its units may finish (R150, R169). -/
def Sys2Proof.VectorEnded (u t : State) (h g : Nat) (v : VecRun) : Prop :=
  Advanced u t (vePage h g) Reg.ve.VEC_TICKETS ∧ (gal t h g).ve = none ∧ t.dram = u.dram ∧ t.caches = u.caches
    ∧ ∀ e ∈ (gal t h g).tickets, e.serial = v.t.serial → e.written = true ∧ e.finished = e.left

/-- Drains: to floating point, to int32, to codes, and their end (R118 to R123, R129, R130). -/
def Obligations.DrainsComplete : Prop :=
  (∀ (h : Fin 16) (g : Fin 17) (serial tile : Nat) (rest : List VeItem) (k : Ticket) (j : Job) (gr : Group)
    (i : DrainIn) (s v c w : State),
    (gal s h g).ve = none → (gal s h g).ready = .drain serial tile :: rest → ticketJob s h g serial = some (k, j) →
    drainWaits (gal s h g) k j tile = false → dRequant j.desc = false → dYfmt j.desc ≠ 0x20 →
    groupOf (gal s h g) k.serial tile = some gr →
    readDrain (drainTaken s h g serial tile rest) h g k j gr = (v, some i) →
    c = countDrain v h g (2 * gr.rows + i.ms.length) i.ms.length →
    writeRows h g k j gr 0 (drainRows c h g k j gr i) c = (w, true) →
    rd s (arrPage h g) Reg.lnd.DRAIN_ROWS < 2 ^ 32 →
    Completes (.drainStart h g) s fun t =>
      (∀ e ∈ (gal t h g).groups, e.slot = gr.slot → e.drained = true) ∧ t.dram = w.dram ∧ t.caches = w.caches
        ∧ rd t (arrPage h g) Reg.lnd.DRAIN_ROWS
          = min (rd s (arrPage h g) Reg.lnd.DRAIN_ROWS + gr.rows) (2 ^ Reg.lnd.DRAIN_ROWS.width - 1)) ∧
  (∀ (h : Fin 16) (g : Fin 17) (serial tile at_ n : Nat) (rest : List VeItem) (k : Ticket) (j : Job) (gr : Group)
    (rows : List Nat) (ms : List Match) (bt : Bool) (terms : List FRes) (s v w c x y z : State),
    (gal s h g).ve = none → (gal s h g).ready = .drain serial tile :: rest → ticketJob s h g serial = some (k, j) →
    drainWaits (gal s h g) k j tile = false → dRequant j.desc = false → dYfmt j.desc = 0x20 →
    groupOf (gal s h g) k.serial tile = some gr →
    bt = !gr.boulderRows.isEmpty → at_ = gr.part * dPartStride j.desc + tileIndex j.desc gr.i gr.j * tileBytes j.desc →
    n = gr.m * dCols j.desc →
    readGroup h g k gr 0 gr.rows (drainTaken s h g serial tile rest) = (v, some rows) →
    boulderStage v h g k j gr = (w, some ms) → terms = (if bt then boulderTerms j gr ms else []) →
    c = veFlags (countDrain w h g (gr.rows + if bt then 2 * gr.rows else 0) ms.length) h g gr.sw gr.jobSlot
      (terms.foldl (fun a v => a ||| v.2) 0) →
    ticketWrite c h g k (dOutAddr j.desc + at_) (4 * n) (rowsImage rows n) = (x, true) →
    (if bt then ticketWrite x h g k (dBtAddr j.desc + at_) (4 * n) (packElems 32 (terms.map Prod.fst))
      else (x, true)) = (y, true) →
    ticketWrite y h g k (dOutSideAddr j.desc + gr.part * dPartStride j.desc + 8 * tileIndex j.desc gr.i gr.j) 8
      (tileSide gr.shift gr.sat bt gr.sig gr.m gr.part) = (z, true) →
    Completes (.drainStart h g) s fun t =>
      (∀ e ∈ (gal t h g).groups, e.slot = gr.slot → e.drained = true) ∧ t.dram = z.dram ∧ t.caches = z.caches) ∧
  (∀ (h : Fin 16) (g : Fin 17) (serial tile : Nat) (rest : List VeItem) (k : Ticket) (j : Job)
    (l : List (List (Option FRes))) (s v : State),
    (gal s h g).ve = none → (gal s h g).ready = .drain serial tile :: rest → ticketJob s h g serial = some (k, j) →
    dRequant j.desc = true → drainWaits (gal s h g) k j tile = false →
    drainBlocks h g k j (liveGroups (gal (drainTaken s h g serial tile rest) h g) k.serial)
      (drainTaken s h g serial tile rest) = (v, some l) →
    Completes (.drainStart h g) s fun t =>
      ∃ c, (gal t h g).quOut = some c ∧ c.serial = k.serial ∧ c.path = .drain ∧ c.next = 0
        ∧ c.rows = blockRows j (ticketBlock j k)
        ∧ c.values = l.map fun r => r.map fun v => (v.map Prod.fst).getD 0) ∧
  (∀ (h : Fin 16) (g : Fin 17) (serial tile : Nat) (rest : List VeItem) (k : Ticket) (j : Job) (s : State),
    (gal s h g).ve = none → (gal s h g).ready = .drain serial tile :: rest → ticketJob s h g serial = some (k, j) →
    drainWaits (gal s h g) k j tile = true → Completes (.drainStart h g) s fun t => t = s) ∧
  (∀ (h : Fin 16) (g : Fin 17) (serial tile : Nat) (k : Ticket) (j : Job) (s : State),
    (gal s h g).ve = some (.drain serial tile) → ticketJob s h g serial = some (k, j) →
    (∀ e ∈ drainGroups (gal s h g) serial tile (dRequant j.desc), e.drained = true) →
    Completes (.drainDone h g) s fun t =>
      (gal t h g).ve = none
        ∧ (∀ e ∈ drainGroups (gal s h g) serial tile (dRequant j.desc), ∀ d ∈ (gal t h g).groups, d.slot ≠ e.slot)
        ∧ rd t (vePage h g) Reg.ve.DRAINS
          = min (rd s (vePage h g) Reg.ve.DRAINS
              + (drainGroups (gal s h g) serial tile (dRequant j.desc)).length) (2 ^ Reg.ve.DRAINS.width - 1))

/-- Vector tickets: their start, the rows of each operation, and REDUCE_SPLITK (R124, R150, R154 to R167). -/
def Obligations.VectorAndDresserComplete : Prop :=
  (∀ (h : Fin 16) (g : Fin 17) (serial : Nat) (rest : List VeItem) (k : Ticket) (j : Job) (s : State),
    (gal s h g).ve = none → (gal s h g).ready = .vector serial :: rest → ticketJob s h g serial = some (k, j) →
    vOp (j.aux.getD 0) ≠ 3 →
    Completes (.vectorTicketStart h g) s fun t =>
      (gal t h g).ve = some (.vector serial) ∧ (gal t h g).ready = rest ∧ t.regs = s.regs
        ∧ ∀ e ∈ (gal t h g).tickets, e.serial = serial → e.begun = true) ∧
  (∀ (h : Fin 16) (g : Fin 17) (serial img : Nat) (rest : List VeItem) (k : Ticket) (j : Job) (s u : State),
    (gal s h g).ve = none → (gal s h g).ready = .vector serial :: rest → ticketJob s h g serial = some (k, j) →
    vOp (j.aux.getD 0) = 3 → vTableAddr (j.aux.getD 0) ≠ 0 →
    ticketRead (vectorTaken s h g serial rest) h g (.gallery (Fin.ofNat 17 g)) k (vTableAddr (j.aux.getD 0)) 512
      = (u, some img) →
    Completes (.vectorTicketStart h g) s fun t =>
      (gal t h g).table = some ((List.range 128).map fun i => fieldAt img (4 * i) 4)
        ∧ rd t (vePage h g) Reg.ve.CORR_SRC = 1 ∧ (gal t h g).ve = some (.vector serial)) ∧
  (∀ (h : Fin 16) (g : Fin 17) (serial : Nat) (rest : List VeItem) (k : Ticket) (j : Job) (s : State),
    (gal s h g).ve = none → (gal s h g).ready = .vector serial :: rest → ticketJob s h g serial = some (k, j) →
    vOp (j.aux.getD 0) = 3 →
    Completes (.vectorTicketStart h g) s fun t =>
      rd t (vePage h g) Reg.ve.TABLE_ADDR = vTableAddr (j.aux.getD 0) % 2 ^ 64
        ∧ rd t (vePage h g) Reg.ve.CORR_SRC = if vTableAddr (j.aux.getD 0) = 0 then 0 else 1) ∧
  (∀ (h : Fin 16) (g : Fin 17) (v : VecRun) (s u : State), vecRun s h g 1 = some v →
    rowsRun s h g v (mapRow h g v) = (u, true) → Completes (.map h g) s fun t => VectorEnded u t h g v) ∧
  (∀ (h : Fin 16) (g : Fin 17) (v : VecRun) (s u : State), vecRun s h g 2 = some v →
    rowsRun s h g v (dotOf h g v) = (u, true) → Completes (.dot h g) s fun t => VectorEnded u t h g v) ∧
  (∀ (h : Fin 16) (g : Fin 17) (v : VecRun) (s u : State), vecRun s h g 3 = some v →
    rowsRun s h g v (softmaxOf h g v) = (u, true) → Completes (.softmax h g) s fun t => VectorEnded u t h g v) ∧
  (∀ (h : Fin 16) (g : Fin 17) (v : VecRun) (s u : State), vecRun s h g 4 = some v →
    rowsRun s h g v (topkOf h g v) = (u, true) → Completes (.topk h g) s fun t => VectorEnded u t h g v) ∧
  (∀ (h : Fin 16) (g : Fin 17) (v : VecRun) (s c u : State), vecRun s h g 5 = some v →
    checkStreams s h g v = (c, true) → rowsRun c h g v (sumRow h g v) = (u, true) →
    Completes (.reduceSum h g) s fun t => VectorEnded u t h g v) ∧
  (∀ (h : Fin 16) (g : Fin 17) (v : VecRun) (place : Nat × Nat × Nat) (ws : List Nat) (parts : List SplitPart)
    (recs cols : Nat) (s a b c d u : State), vecRun s h g 6 = some v → place = unitPlace v.j (v.t.units.headD 0) →
    cols = min (dCols v.j.desc) (v.j.n - place.2.1 * dCols v.j.desc) →
    readSideWords h g v (tileIndex v.j.desc place.1 place.2.1) 0 (vSources v.b) s = (a, some ws) →
    partsBad (blockRows v.j place.1) ws = none →
    readTiles h g v (tileIndex v.j.desc place.1 place.2.1) (blockRows v.j place.1 * dCols v.j.desc) (partOrder ws) a
      = (b, some parts) →
    (if cols = 0 then (b, some 0) else ticketRead b h g (.gallery (Fin.ofNat 17 g)) v.t
      (dColrecAddr v.j.desc + 8 * (place.2.1 * dCols v.j.desc)) (8 * cols)) = (c, some recs) →
    d = count c (vePage h g) Reg.ve.VE_HS (vecCost v.b (blockRows v.j place.1) (dCols v.j.desc)) →
    eachRow (splitkRow h g v place recs cols parts) 0 (blockRows v.j place.1)
      (if ws.any tsSaturated then jobFlags d v.t.sw v.t.slot 1 else d) = (u, true) →
    Completes (.reduceSplitk h g) s fun t => VectorEnded u t h g v) ∧
  (∀ (h : Fin 16) (g : Fin 17) (v : VecRun) (ws : List Nat) (code : Nat) (s u : State), vecRun s h g 6 = some v →
    readSideWords h g v (tileIndex v.j.desc (unitPlace v.j (v.t.units.headD 0)).1
      (unitPlace v.j (v.t.units.headD 0)).2.1) 0 (vSources v.b) s = (u, some ws) →
    partsBad (blockRows v.j (unitPlace v.j (v.t.units.headD 0)).1) ws = some code →
    Completes (.reduceSplitk h g) s fun t =>
      t.dram = u.dram ∧ t.caches = u.caches
        ∧ (code = 0x21 → sticky t (arrPage h g) Sticky.arr.SIG_FAULT = true)
        ∧ (code ≠ 0x21 → sticky t (vePage h g) Sticky.ve.PART_FAULT = true)) ∧
  (∀ (h : Fin 16) (k : Ticket) (j : Job) (b n0 cols : Nat) (rows : List Nat) (groups : List (List (List Nat × Nat)))
    (s u w : State), NatMap.get? s.dressers h.val = some k → findJob s k.sw k.slot = some j → k.written = false →
    b = j.aux.getD 0 → n0 = k.units.headD 0 * shapeCols (rShape b) → cols = min (shapeCols (rShape b)) (rN b - n0) →
    readSource h b n0 cols 0 (rK b) s = (u, some rows) →
    groups = (List.range (shapePositions (rShape b))).map (fun cb =>
      (List.range (dressTiles b * 2 ^ rSpanLog b)).map fun w => dressGroup b cols rows cb w) →
    dressPut h (dressWrites b (k.units.headD 0) cols rows groups) (countPanel u h k.sw k.slot b groups) = (w, true) →
    Completes (.dressPanel h) s fun t =>
      Advanced w t (drsPage h) Reg.drs.PANELS ∧ t.dram = w.dram ∧ t.caches = w.caches
        ∧ NatMap.get? t.dressers h.val = some { k with begun := true, written := true })

/-- The job in a slot of a stairwell has left the dispatcher, and a gallery holds no ticket of it (R249, R259). -/
def Sys2Proof.WorkEnded (t : State) (h : Fin 16) (g : Fin 17) (j : Nat × Nat) : Prop :=
  findJob t j.1 j.2 = none ∧ ∀ e ∈ (gal t h g).tickets, ¬(e.sw = j.1 ∧ e.slot = j.2)

/-- The gallery memories: an access, what it finds and what held it back, ACT_SPLIT, the local operations, the readback
window and a row moved to a spare (R237 to R250). -/
def Obligations.GalleryMemoriesComplete : Prop :=
  (∀ (h : Fin 16) (g : Fin 17) (m : GMem) (word : Nat) (v : BitVec 64) (fl : List (Fin 144)) (c : BankContest)
    (s : State), word < memWords (gmemNum m) →
    Completes (.galleryMemoryAccess h g m word (some v) fl c) s fun t =>
      getWords (gal t h g) (gmemNum m) (2 * word) 2 = v.toNat
        ∧ ∀ n w, memKey n w ≠ memKey (gmemNum m) (2 * word) → memKey n w ≠ memKey (gmemNum m) (2 * word) + 1 →
            getWord (gal t h g) n w = getWord (gal s h g) n w) ∧
  (∀ (h : Fin 16) (g : Fin 17) (m : GMem) (word : Nat) (fl : List (Fin 144)) (port q : GPort) (w : GalleryWork)
    (lost : Nat) (c : Fld) (write : Option (BitVec 64)) (s : State), word < memWords (gmemNum m) →
    pairCounter (gmemNum m) word = some c → q ≠ port →
    Completes (.galleryMemoryAccess h g m word write fl ⟨port, w, [(q, lost)], []⟩) s fun t =>
      (8 ≤ lost ∨ portRank m q < portRank m port → Advanced s t (memPage h g) c)
        ∧ (lost < 8 → portRank m port ≤ portRank m q → rd s (memPage h g) c < 2 ^ c.width →
          rd t (memPage h g) c = rd s (memPage h g) c)) ∧
  (∀ (h : Fin 16) (g : Fin 17) (m : GMem) (word : Nat) (fl : List (Fin 144)) (port q r : GPort) (w : GalleryWork)
    (c : Fld) (write : Option (BitVec 64)) (s : State), word < memWords (gmemNum m) →
    pairCounter (gmemNum m) word = some c → portRank m q < portRank m r → portRank m q < portRank m port →
    portRank m r ≠ portRank m port →
    Completes (.galleryMemoryAccess h g m word write fl ⟨port, w, [(q, 0), (r, 0)], []⟩) s fun t =>
      Advanced s t (memPage h g) c) ∧
  (∀ (h : Fin 16) (g : Fin 17) (m : GMem) (word n : Nat) (fl : List (Fin 144)) (port q : GPort) (w : GalleryWork)
    (c : Fld) (write : Option (BitVec 64)) (s : State), word < memWords (gmemNum m) →
    pairCounter (gmemNum m) word = some c → portRank m q < portRank m port → 8 ≤ n →
    Completes (.galleryMemoryAccess h g m word write fl ⟨port, w, [(q, 0)], List.replicate n [q]⟩) s fun t =>
      rd t (memPage h g) c = min (rd s (memPage h g) c + 8) (2 ^ c.width - 1)) ∧
  (∀ (h : Fin 16) (g : Fin 17) (m : GMem) (word : Nat) (fl : List (Fin 144)) (c : BankContest)
    (es : List Nat) (s : State), word < memWords (gmemNum m) → m ≠ .skipMap →
    es = flipList (gmemNum m) fl → 1 ≤ es.length → es.length ≤ correctable (gmemNum m) →
    brokenIn (gal s h g) (gmemNum m) (unitOf (gmemNum m) word) (unitWords (gmemNum m)) = none →
    Completes (.galleryMemoryAccess h g m word none fl c) s fun t =>
      Advanced s t (memPage h g) (ceCounter (gmemNum m)) ∧ sticky t (memPage h g) Sticky.gm.MEM_CE = true
        ∧ (gal t h g).mem = (gal s h g).mem) ∧
  (∀ (h : Fin 16) (g : Fin 17) (m : GMem) (word : Nat) (fl : List (Fin 144)) (c : BankContest)
    (es : List Nat) (s : State), word < memWords (gmemNum m) → m ≠ .skipMap →
    es = flipList (gmemNum m) fl → es.length = correctable (gmemNum m) + 1 →
    Completes (.galleryMemoryAccess h g m word none fl c) s fun t =>
      memKey (gmemNum m) (unitOf (gmemNum m) word) ∈ (gal t h g).broken
        ∧ (c.port = .window →
          rd t (memPage h g) Reg.gm.UE_COUNT = rd s (memPage h g) Reg.gm.UE_COUNT ∧ t.fc = s.fc)
        ∧ (c.port ≠ .window →
          Advanced s t (memPage h g) Reg.gm.UE_COUNT ∧ sticky t (memPage h g) Sticky.gm.MEM_UE = true)
        ∧ (c.port ≠ .window → c.port ≠ .localOp → ∀ j, workJob (gal s h g) c.work = some j → WorkEnded t h g j)) ∧
  (∀ (h : Fin 16) (g : Fin 17) (v : BitVec 32) (s : State), Reaches s .mainband (memPage h g) 0x040 →
    opensToHost s h g = true → v.toNat % 2 ^ 11 ≤ 2040 →
    Completes (.actSplitWrite h g v) s fun t =>
      rd t (memPage h g) Reg.gm.CONV_COURSES = v.toNat % 2 ^ 11 ∧ (gal t h g).conversion = none
        ∧ (gal t h g).mem = (gal s h g).mem) ∧
  (∀ (h : Fin 16) (g : Fin 17) (v : BitVec 32) (s : State), Reaches s .mainband (memPage h g) 0x040 →
    opensToHost s h g = true → 2040 < v.toNat % 2 ^ 11 →
    Completes (.actSplitWrite h g v) s fun t =>
      rd t (memPage h g) Reg.gm.CONV_COURSES = rd s (memPage h g) Reg.gm.CONV_COURSES
        ∧ sticky t (memPage h g) Sticky.gm.OP_REJECT = true ∧ t.galleries = s.galleries) ∧
  (∀ (h : Fin 16) (g : Fin 17) (v : BitVec 32) (s : State), Reaches s .mainband (memPage h g) 0x040 →
    opensToHost s h g = false →
    Completes (.actSplitWrite h g v) s fun t =>
      rd t (arrPage h g) Reg.hdr.STATE_ERR = 1 ∧ t.galleries = s.galleries
        ∧ rd t (memPage h g) Reg.gm.CONV_COURSES = rd s (memPage h g) Reg.gm.CONV_COURSES) ∧
  (∀ (h : Fin 16) (g : Fin 17) (m : BitVec 2) (s : State), Reaches s .mainband (memPage h g) 0x050 →
    (gal s h g).op = none → opensToHost s h g = true →
    opLegal m.toNat 1 (rd s (memPage h g) Reg.gm.MEM_OP_RANGE_SRC) (rd s (memPage h g) Reg.gm.MEM_OP_RANGE_DST)
      (rd s (memPage h g) Reg.gm.MEM_OP_LEN) = true →
    Completes (.memOpFill h g m) s fun t =>
      (gal t h g).op.isSome = true ∧ (gal t h g).conversion = none
        ∧ ∀ i < 128 * rd s (memPage h g) Reg.gm.MEM_OP_LEN,
            getWord (gal t h g) m.toNat (128 * rd s (memPage h g) Reg.gm.MEM_OP_RANGE_DST + i)
              = rd s (memPage h g) Reg.gm.MEM_OP_PATTERN % 2 ^ 32) ∧
  (∀ (h : Fin 16) (g : Fin 17) (m : BitVec 2) (s : State), Reaches s .mainband (memPage h g) 0x050 →
    (gal s h g).op = none → opensToHost s h g = true →
    opLegal m.toNat 2 (rd s (memPage h g) Reg.gm.MEM_OP_RANGE_SRC) (rd s (memPage h g) Reg.gm.MEM_OP_RANGE_DST)
      (rd s (memPage h g) Reg.gm.MEM_OP_LEN) = true → (gal s h g).broken = [] →
    Completes (.memOpCopy h g m) s fun t =>
      (gal t h g).op.isSome = true ∧ (gal t h g).conversion = none
        ∧ ∀ i < 128 * rd s (memPage h g) Reg.gm.MEM_OP_LEN,
            getWord (gal t h g) m.toNat (128 * rd s (memPage h g) Reg.gm.MEM_OP_RANGE_DST + i)
              = getWord (gal s h g) m.toNat (128 * rd s (memPage h g) Reg.gm.MEM_OP_RANGE_SRC + i)) ∧
  (∀ (h : Fin 16) (g : Fin 17) (s : State), (gal s h g).op.isSome = true →
    Completes (.memOpDone h g) s fun t =>
      (gal t h g).op = none ∧ sticky t (memPage h g) Sticky.gm.MEMOP_DONE = true
        ∧ (gal t h g).mem = (gal s h g).mem) ∧
  (∀ (path : Path) (h : Fin 16) (g : Fin 17) (i : Fin 128) (m w : Nat) (s : State),
    windowWord s h g i = some (m, w) →
    Completes (.winWordRead path h g ⟨i, []⟩) s fun t =>
      NatMap.get? t.readWord (pathNum path) = some (getWord (gal s h g) m w)
        ∧ rd t (memPage h g) Reg.gm.WIN_STATUS_UE
          = (m != 3 && (brokenIn (gal s h g) m (w / unitWords m * unitWords m) (unitWords m)).isSome).toNat
        ∧ rd t (memPage h g) Reg.gm.WIN_STATUS_CE = 0 ∧ ∀ a b, gal t a b = gal s a b) ∧
  (∀ (path : Path) (h : Fin 16) (g : Fin 17) (i : Fin 128) (fl : List (Fin 144)) (m w : Nat) (s : State),
    windowWord s h g i = some (m, w) → m ≠ 3 → 1 ≤ (flipList m fl).length → (flipList m fl).length ≤ correctable m →
    brokenIn (gal s h g) m (w / unitWords m * unitWords m) (unitWords m) = none →
    Completes (.winWordRead path h g ⟨i, fl⟩) s fun t =>
      NatMap.get? t.readWord (pathNum path) = some (getWord (gal s h g) m w)
        ∧ rd t (memPage h g) Reg.gm.WIN_STATUS_UE = 0 ∧ rd t (memPage h g) Reg.gm.WIN_STATUS_CE = 1
        ∧ Advanced s t (memPage h g) (ceCounter m) ∧ (gal t h g).mem = (gal s h g).mem) ∧
  (∀ (h : Fin 16) (g : Fin 17) (i : Fin 128) (v : BitVec 32) (m w : Nat) (s : State),
    Reaches s .mainband (memPage h g) (0x800 + 4 * i) → opensToHost s h g = true → windowWord s h g i = some (m, w) →
    Completes (.winWordWrite h g i v) s fun t =>
      getWord (gal t h g) m w = v.toNat ∧ (gal t h g).conversion = none ∧ t.regs = s.regs
        ∧ ∀ n u, memKey n u ≠ memKey m w → getWord (gal t h g) n u = getWord (gal s h g) n u) ∧
  (∀ (h : Fin 16) (g : Fin 17) (row : Nat) (s : State), mcRuns s = true → quiesced s h g = true →
    quiescent s h g = true → (gal s h g).op = none →
    (gal s h g).rowQueue.find? (spareFree (gal s h g)) = some row →
    Completes (.galleryRowRetire h g) s fun t =>
      row ∈ (gal t h g).rowSpared ∧ row ∉ (gal t h g).rowQueue ∧ NatMap.get? (gal t h g).rowCe row = none)

/-- The hall cache: a hit, a miss that waits, errors in a line and its tag, a line that arrives, and the walks (R222,
R253, R256, R257, R260). -/
def Obligations.HallCacheCompletes : Prop :=
  (∀ (h : Fin 16) (user : HallUser) (addr len : Nat) (x : Line) (s : State),
    ready s = true → 1 ≤ len → addr % 64 + len ≤ 64 →
    addr + len ≤ 2 ^ 40 → findLine s h (addr / 64) = some x →
    Completes (.hallCacheAccess h user addr len none ⟨[], 0⟩) s fun t =>
      Advanced s t (hcPage h) Reg.hc.HITS
        ∧ findLine t h (addr / 64) = some { x with prefetched := false }) ∧
  (∀ (h : Fin 16) (user : HallUser) (addr len v : Nat) (x : Line) (s : State),
    ready s = true → 1 ≤ len → addr % 64 + len ≤ 64 →
    addr + len ≤ 2 ^ 40 → findLine s h (addr / 64) = some x → x.poison = false ∨ len = 64 →
    Completes (.hallCacheAccess h user addr len (some v) ⟨[], 0⟩) s fun t =>
      Advanced s t (hcPage h) Reg.hc.HITS ∧ t.dram = s.dram
        ∧ findLine t h (addr / 64) = some { x with
            data := setBits x.data (8 * (addr % 64)) (8 * len) (v % 2 ^ (8 * len)), dirty := true, poison := false
            prefetched := false }) ∧
  (∀ (h : Fin 16) (user : HallUser) (addr len : Nat) (w : Option Nat) (s : State),
    ready s = true → 1 ≤ len → addr + len ≤ 2 ^ 40 →
    needsFill s h addr len w.isSome = true →
    Completes (.hallCacheAccess h user addr len w ⟨[], 0⟩) s fun t =>
      (cache t h).misses = (cache s h).misses ++ [{ user := user, addr := addr, len := len, write := w }]
        ∧ (cache t h).lines = (cache s h).lines ∧ t.dram = s.dram ∧ t.regs = s.regs) ∧
  (∀ (h : Fin 16) (user : HallUser) (addr len : Nat) (fl : List (Fin 72)) (tag : Nat) (x : Line) (s : State),
    ready s = true → 1 ≤ len →
    addr % 64 + len ≤ 64 → addr + len ≤ 2 ^ 40 → findLine s h (addr / 64) = some x →
    fl.eraseDups.length + tag = 1 →
    Completes (.hallCacheAccess h user addr len none ⟨fl, tag⟩) s fun t =>
      Advanced s t (hcPage h) Reg.hc.CE_COUNT ∧ sticky t (hcPage h) Sticky.hc.HC_CE = true
        ∧ Advanced s t (hcPage h) Reg.hc.HITS
        ∧ findLine t h (addr / 64) = some { x with prefetched := false }) ∧
  (∀ (h : Fin 16) (user : HallUser) (addr len : Nat) (fl : List (Fin 72)) (tag : Nat) (x : Line) (s : State),
    ready s = true → 1 ≤ len →
    addr + len ≤ 2 ^ 40 → findLine s h (addr / 64) = some x → x.dirty = false → bypass s h = false →
    (fl = [] ∧ tag = 2) ∨ (fl.eraseDups.length = 2 ∧ tag = 0) →
    Completes (.hallCacheAccess h user addr len none ⟨fl, tag⟩) s fun t =>
      Advanced s t (hcPage h) Reg.hc.UE_CLEAN ∧ sticky t (hcPage h) Sticky.hc.HC_UE = true
        ∧ findLine t h (addr / 64) = none
        ∧ (cache t h).misses = (cache s h).misses ++ [{ user := user, addr := addr, len := len, write := none }]) ∧
  (∀ (h : Fin 16) (user : HallUser) (addr len : Nat) (fl : List (Fin 72)) (tag : Nat) (x : Line) (s : State),
    ready s = true → 1 ≤ len →
    addr % 64 + len ≤ 64 → addr + len ≤ 2 ^ 40 → findLine s h (addr / 64) = some x → x.dirty = true →
    (fl = [] ∧ tag = 2) ∨ (fl.eraseDups.length = 2 ∧ tag = 0) →
    Completes (.hallCacheAccess h user addr len none ⟨fl, tag⟩) s fun t =>
      Advanced s t (hcPage h) Reg.hc.POISONED ∧ sticky t (hcPage h) Sticky.hc.HC_UE = true
        ∧ findLine t h (addr / 64) = some { x with poison := true, prefetched := false }) ∧
  (∀ (h : Fin 16) (g : Fin 17) (user : HallUser) (w : GalleryWork) (addr len : Nat) (x : Line) (j : Nat × Nat)
    (s : State), ready s = true → 1 ≤ len → addr % 64 + len ≤ 64 → addr + len ≤ 2 ^ 40 →
    findLine s h (addr / 64) = some x → x.poison = true → user.work = some (g, w) → workJob (gal s h g) w = some j →
    Completes (.hallCacheAccess h user addr len none ⟨[], 0⟩) s fun t => WorkEnded t h g j) ∧
  (∀ (h : Fin 16) (addr len : Nat) (x : Line) (k : Ticket) (s : State), ready s = true → 1 ≤ len →
    addr % 64 + len ≤ 64 → addr + len ≤ 2 ^ 40 → findLine s h (addr / 64) = some x → x.poison = true →
    NatMap.get? s.dressers h = some k →
    Completes (.hallCacheAccess h .dresser addr len none ⟨[], 0⟩) s fun t =>
      findJob t k.sw k.slot = none ∧ ∀ e ∈ t.dressers, ¬(e.2.sw = k.sw ∧ e.2.slot = k.slot)) ∧
  (∀ (h : Fin 16) (user : HallUser) (addr len : Nat) (w : Option Nat) (u : LineUpset) (s : State), ready s = false →
    (Completes (.hallCacheAccess h user addr len w u) s fun t => t = s)
      ∧ Completes (.hallCacheFill h) s fun t => t = s) ∧
  (∀ (h : Fin 16) (m : Miss) (rest : List Miss) (s : State), ready s = true →
    (cache s h).misses = m :: rest → 1 ≤ m.len →
    m.addr % 64 + m.len ≤ 64 → findLine s h (m.addr / 64) = none →
    Completes (.hallCacheFill h) s fun t =>
      (cache t h).misses = rest ∧ Advanced s t (hcPage h) Reg.hc.MISSES) ∧
  (∀ (h : Fin 16) (v : BitVec 32) (s : State), Reaches s .mainband (hcPage h) Reg.hc.WAY_DISABLE.off →
    walking s h = false →
    Completes (.wayDisableWrite h v) s fun t =>
      rd t (hcPage h) Reg.hc.WAY_DISABLE = v.toNat % 2 ^ 24 ∧ (cache t h).lines = (cache s h).lines
        ∧ ∃ off on', (cache t h).walks = [.ways off on' 0] ∧ ∀ w < 24,
          bit off w = (bit v.toNat w && !bit (rd s (hcPage h) Reg.hc.WAY_DISABLE) w)
            ∧ bit on' w = (bit (rd s (hcPage h) Reg.hc.WAY_DISABLE) w && !bit v.toNat w)) ∧
  (∀ (h : Fin 16) (v : BitVec 32) (s : State), Reaches s .mainband (hcPage h) Reg.hc.WAY_DISABLE.off →
    walking s h = true →
    Completes (.wayDisableWrite h v) s fun t =>
      rd t (hcPage h) Reg.hdr.STATE_ERR = 1 ∧ t.caches = s.caches
        ∧ rd t (hcPage h) Reg.hc.WAY_DISABLE = rd s (hcPage h) Reg.hc.WAY_DISABLE) ∧
  (∀ (h : Fin 16) (off on' pos : Nat) (s : State),
    (cache s h).walks = [.ways off on' pos] →
    Completes (.wayWalkStep h) s fun t =>
      (cache t h).walks = (if pos + 1 < 32768 then [.ways off on' (pos + 1)] else [])
        ∧ ∀ x ∈ (cache t h).lines, x.line % 32768 = pos → bit off x.way = false ∧ bit on' x.way = false) ∧
  (∀ (h : Fin 16) (sw slot mode first pos : Nat) (lines : Option Nat) (s u : State),
    (cache s h).walks = [.flush sw slot mode first lines pos] →
    flushLines h mode (walkLines s h first lines pos) s = (u, true) → pos + 1 < walkEnd lines →
    Completes (.flushWalkStep h) s fun t =>
      (cache t h).walks = [.flush sw slot mode first lines (pos + 1)] ∧ t.dram = u.dram) ∧
  (∀ (h : Fin 16) (sw slot mode first pos : Nat) (lines : Option Nat) (e : Tracked) (s u : State),
    (cache s h).walks = [.flush sw slot mode first lines pos] →
    flushLines h mode (walkLines s h first lines pos) s = (u, true) → walkEnd lines ≤ pos + 1 →
    NatMap.get? (stair s sw).slots slot = some e → e.body = .flushing [h.val] →
    Completes (.flushWalkStep h) s fun t =>
      (cache t h).walks = [] ∧ NatMap.get? (stair t sw).slots slot = some { e with body := .ended 0 0 0 })

/-- The stack controllers: refresh, patrol, sparing, die retirement and the memory map (R264, R265, R271 to R276). -/
def Obligations.StackMaintenanceCompletes : Prop :=
  (∀ (h : Fin 16) (s : State),
    Completes (.refreshWindow h) s fun t =>
      dram t h = { dram s h with refreshes := (dram s h).refreshes + 1, inWindow := true } ∧ t.regs = s.regs
        ∧ t.dram = s.dram) ∧
  (∀ (h : Fin 16) (s : State), ready s = false →
    (Completes (.patrolStep h) s fun t => t = s)
      ∧ ((dram s h).rowCopied = none → Completes (.dramRowSpare h) s fun t => t = s)) ∧
  (∀ (h : Fin 16) (s : State), ready s = true → 1 ≤ rd s (scPage h) Reg.sc.SCRUB_EVERY →
    rd s (scPage h) Reg.sc.SCRUB_EVERY ≤ (dram s h).refreshes →
    Completes (.patrolStep h) s fun t =>
      (dram t h).refreshes = 0
        ∧ ((dram s h).patrol < patrolSteps s h → (dram t h).patrol
          = if (dram s h).patrol + 1 < patrolSteps s h then (dram s h).patrol + 1 else 0)
        ∧ (patrolSteps s h ≤ (dram s h).patrol → 1 < patrolSteps s h → (dram t h).patrol = 1)) ∧
  (∀ (h : Fin 16) (k i : Nat) (rest : List Nat) (s : State), (dram s h).laneQueue = k :: rest →
    (dram s h).inWindow = true → freeSpare (dram s h) (k / 288) = some i →
    Completes (.dramLaneRepair h) s fun t =>
      (dram t h).laneQueue = rest ∧ k ∈ (dram t h).lanesMoved ∧ Advanced s t (scPage h) Reg.sc.LANES_SPARED
        ∧ spareMask (dram t h) (k / 288) = spareMask (dram s h) (k / 288) ||| 2 ^ i
        ∧ (∀ ch, ch ≠ k / 288 → spareMask (dram t h) ch = spareMask (dram s h) ch)
        ∧ sticky t (scPage h) Sticky.sc.LANE_REPAIRED = true) ∧
  (∀ (h : Fin 16) (k : Nat) (rest : List Nat) (s : State), (dram s h).laneQueue = k :: rest →
    (dram s h).inWindow = true → freeSpare (dram s h) (k / 288) = none →
    Completes (.dramLaneRepair h) s fun t =>
      (dram t h).laneQueue = rest ∧ (dram t h).dataSpares = (dram s h).dataSpares
        ∧ sticky t (scPage h) Sticky.sc.LANE_EXHAUSTED = true) ∧
  (∀ (h : Fin 16) (row : Nat) (rest : List Nat) (s : State), ready s = true →
    (dram s h).rowCopied = none →
    (dram s h).rowQueue = row :: rest → sparesUsed (dram s h) row < 4 →
    Completes (.dramRowSpare h) s fun t => (dram t h).rowCopied = some row) ∧
  (∀ (h : Fin 16) (row : Nat) (rest : List Nat) (s : State), ready s = true →
    (dram s h).rowCopied = none →
    (dram s h).rowQueue = row :: rest → 4 ≤ sparesUsed (dram s h) row →
    Completes (.dramRowSpare h) s fun t =>
      (dram t h).rowQueue = rest ∧ sticky t (scPage h) Sticky.sc.ROW_SPARE_EXHAUSTED = true ∧ t.dram = s.dram) ∧
  (∀ (h : Fin 16) (row : Nat) (s : State), (dram s h).rowCopied = some row →
    Completes (.dramRowSpareDone h) s fun t =>
      (dram t h).rowCopied = none ∧ row ∈ (dram t h).rowSpared ∧ row ∉ (dram t h).rowQueue
        ∧ Advanced s t (scPage h) Reg.sc.ROWS_SPARED ∧ sticky t (scPage h) Sticky.sc.ROW_SPARED = true
        ∧ t.dram = s.dram) ∧
  (∀ (h : Fin 16) (v : BitVec 32) (l : Nat) (s : State), Reaches s .mainband (scPage h) 0x08C →
    bits v.toNat 4 2 = 1 → (dram s h).migration = none →
    rd s (scPage h) Reg.sc.RETIRED ≠ 15 → logicalDie s h (bits v.toNat 0 4) = some l →
    Completes (.dieRetire h v) s fun t =>
      (l = 15 - rd s (scPage h) Reg.sc.RETIRED →
        rd t (scPage h) Reg.sc.RETIRED = (rd s (scPage h) Reg.sc.RETIRED + 1) % 2 ^ Reg.sc.RETIRED.width
          ∧ sticky t (scPage h) Sticky.sc.MIGRATE_DONE = true)
      ∧ (l ≠ 15 - rd s (scPage h) Reg.sc.RETIRED →
        (dram t h).migration = some {
            logical := l, top := 15 - rd s (scPage h) Reg.sc.RETIRED, named := bits v.toNat 0 4 }
          ∧ rd t (scPage h) Reg.sc.MIG_PTR = 0
          ∧ rd t (scPage h) Reg.sc.RETIRED = rd s (scPage h) Reg.sc.RETIRED)) ∧
  (∀ (h : Fin 16) (v : BitVec 32) (s : State), Reaches s .mainband (scPage h) 0x08C → 2 ≤ bits v.toNat 4 2 →
    Completes (.dieRetire h v) s fun t => rd t (scPage h) Reg.hdr.STATE_ERR = 1 ∧ t.drams = s.drams) ∧
  (∀ (h : Fin 16) (m : Migration) (s : State), (dram s h).migration = some m →
    Completes (.migrationDone h) s fun t =>
      (dram t h).migration = none
        ∧ rd t (scPage h) Reg.sc.DIE_MAP
          = setBits (rd s (scPage h) Reg.sc.DIE_MAP) (4 * m.logical) 4 (physDie s h m.top) % 2 ^ 64
        ∧ sticky t (scPage h) Sticky.sc.MIGRATE_DONE = true
        ∧ rd t (scPage h) Reg.sc.MIG_PTR = 0
        ∧ rd t (scPage h) Reg.sc.RETIRED = (rd s (scPage h) Reg.sc.RETIRED + 1) % 2 ^ Reg.sc.RETIRED.width) ∧
  (∀ (path : Path) (hi : BitVec 32) (s : State), Reaches s path .memMap (Reg.mm.MAP.off + 4) → mapIdle s = true →
    mapLegal (commitPair s path .memMap Reg.mm.MAP hi.toNat).1 = true →
    Completes (.mapWrite path hi) s fun t =>
      rd t .memMap Reg.mm.MAP = (commitPair s path .memMap Reg.mm.MAP hi.toNat).1 % 2 ^ 64) ∧
  (∀ (path : Path) (hi : BitVec 32) (s : State), Reaches s path .memMap (Reg.mm.MAP.off + 4) → mapIdle s = true →
    mapLegal (commitPair s path .memMap Reg.mm.MAP hi.toNat).1 = false →
    Completes (.mapWrite path hi) s fun t =>
      rd t .memMap Reg.mm.MAP = rd s .memMap Reg.mm.MAP ∧ sticky t .memMap Sticky.mm.MAP_REJECT = true) ∧
  (∀ (path : Path) (hi : BitVec 32) (s : State), Reaches s path .memMap (Reg.mm.MAP.off + 4) → mapIdle s = false →
    Completes (.mapWrite path hi) s fun t =>
      rd t .memMap Reg.mm.MAP = rd s .memMap Reg.mm.MAP ∧ rd t .memMap Reg.hdr.STATE_ERR = 1)

/-- One access that reaches a controller in a cycle of its own. -/
def Sys2Proof.access (who : Requester) (user : HallUser) (a : Nat) (op : SectorOp) (u : Upset) : Instr :=
  .sectorAccess who a op ⟨user, u, []⟩

/-- A sector access writes the sector at the address that the map gives, and no other byte of device memory; accesses of
one cycle take effect in the order of their requesters (R27, R253, R264, R267, R270, R278). -/
def Obligations.SectorAccessReadsBack : Prop :=
  (∀ (who : Requester) (user : HallUser) (a v : Nat) (u : Upset) (s : State), ready s = true →
    a % 32 = 0 → present s a = true →
    Completes (access who user a (.write 0 32 v) u) s fun t =>
      getBytes t.dram (cellOf s (place s a).1 (place s a).2) 32 = v % 2 ^ 256
        ∧ codeOf t (cellOf s (place s a).1 (place s a).2) = { poison := false, errors := [] }) ∧
  (∀ (who : Requester) (user : HallUser) (a lo n v : Nat) (s : State), ready s = true → a % 32 = 0 →
    present s a = true → 1 ≤ n → n < 32 → lo + n ≤ 32 →
    codeOf s (cellOf s (place s a).1 (place s a).2) = { poison := false, errors := [] } →
    Completes (access who user a (.write lo n v) []) s fun t =>
      ∀ i < 32, byteAt t.dram (cellOf s (place s a).1 (place s a).2 + i)
        = if lo ≤ i ∧ i < lo + n then BitVec.ofNat 8 (v / 256 ^ (i - lo))
          else byteAt s.dram (cellOf s (place s a).1 (place s a).2 + i)) ∧
  (∀ (who : Requester) (user : HallUser) (a v : Nat) (u : Upset) (s : State), ready s = true →
    a % 32 = 0 → present s a = true →
    Completes (access who user a (.poison v) u) s fun t =>
      getBytes t.dram (cellOf s (place s a).1 (place s a).2) 32 = v % 2 ^ 256
        ∧ codeOf t (cellOf s (place s a).1 (place s a).2) = { poison := true, errors := [] }) ∧
  (∀ (who : Requester) (user : HallUser) (a : Nat) (u : Upset) (s : State), ready s = true →
    a % 32 = 0 → present s a = true → isMaint who = false →
    Completes (access who user a .read u) s fun t => Advanced s t (scPage (place s a).1) Reg.sc.READS) ∧
  (∀ (who : Requester) (user : HallUser) (a : Nat) (u : Upset) (s : State), ready s = true →
    a % 32 = 0 → present s a = true → isMaint who = true →
    Completes (access who user a .read u) s fun t =>
      ∀ f ∈ [Reg.sc.READS, Reg.sc.UE_COUNT, Reg.sc.POISON_READS],
        rd t (scPage (place s a).1) f = rd s (scPage (place s a).1) f) ∧
  (∀ (who : Requester) (user : HallUser) (a : Nat) (op : SectorOp) (u : Upset) (s : State), ready s = true →
    a % 32 = 0 → present s a = true →
    Completes (access who user a op u) s fun t => MayHold s t (scPage (place s a).1) 1) ∧
  (∀ (who : Requester) (user : HallUser) (a : Nat) (op : SectorOp) (u : Upset) (s : State),
    Completes (access who user a op u) s fun t =>
      ∀ k, (k < cellOf s (place s (a / 32 * 32)).1 (place s (a / 32 * 32)).2
          ∨ cellOf s (place s (a / 32 * 32)).1 (place s (a / 32 * 32)).2 + 32 ≤ k) →
        byteAt t.dram k = byteAt s.dram k) ∧
  (∀ (who : Requester) (user : HallUser) (a : Nat) (op : SectorOp) (u : Upset) (s : State),
    present s (a / 32 * 32) = false →
    Completes (access who user a op u) s fun t => t.dram = s.dram ∧ t.codes = s.codes) ∧
  (∀ (h : Fin 16) (user : HallUser) (a : Nat) (s : State), ready s = true → a % 32 = 0 →
    present s a = false →
    Completes (access (.hallCache h) user a .read []) s fun t =>
      Advanced s t (scPage (place s a).1) Reg.sc.FAULTS ∧ Advanced s t (hcPage h) Reg.hc.FAULTS) ∧
  (∀ (h : Fin 16) (g : Fin 17) (user : HallUser) (w : GalleryWork) (j : Nat × Nat) (a : Nat) (s : State),
    ready s = true → a % 32 = 0 → present s a = false → user.work = some (g, w) → workJob (gal s h g) w = some j →
    Completes (access (.hallCache h) user a .read []) s fun t => WorkEnded t h g j) ∧
  (∀ (x y : SectorAccess) (s : State), accessRank x.who < accessRank y.who → ready s = true →
    Completes (.sectorAccess y.who y.addr y.op ⟨y.user, y.upset, [x]⟩) s fun t =>
      ∃ u, exec (.sectorAccess x.who x.addr x.op ⟨x.user, x.upset, []⟩) s = .next u
        ∧ exec (.sectorAccess y.who y.addr y.op ⟨y.user, y.upset, []⟩) u = .next t) ∧
  (∀ (who : Requester) (a : Nat) (op : SectorOp) (c : SectorCycle) (s : State), ready s = false →
    Completes (.sectorAccess who a op c) s fun t => t = s)

/-- The link with the turn of a channel taken, before its flit leaves (R289). -/
def Sys2Proof.turnTaken (s : State) (l c : Nat) : State :=
  setLink (creditWaits s l) l { link (creditWaits s l) l with lastChannel := c }

/-- A flit has left for the wire, with its sequence number and, but on the loopback, its CRC and a place in the replay
buffer (R286, R287). -/
def Sys2Proof.FlitSent (s t : State) (l type c payload : Nat) : Prop :=
  ∃ f : OutFlit, (link t l).wire = f :: (link s l).wire ∧ f.type = type ∧ f.channel = c
    ∧ f.fseq = (link s l).nextSeq ∧ f.payload = payload
    ∧ (l < 8 → f.crc = crc32c 124 (flitBytes type c f.fseq payload) ∧ (link t l).replay = (link s l).replay ++ [f])

/-- A response of a channel has reached its sender: from the peer of a link that is up, or taken from those that the
loopback's receiver has sent (R290, R291). -/
def Sys2Proof.ResponseTaken (s : State) (l c code : Nat) (u : State) : Prop :=
  if l < 8 then linkIsUp s l = true ∧ u = s else takeLoopResponse s c code = some u

/-- A tracked entry's work is over with a status. -/
def Sys2Proof.EntryEnded (s t : State) (sw slot status : Nat) : Prop :=
  ∀ e, NatMap.get? (stair s sw).slots slot = some e →
    NatMap.get? (stair t sw).slots slot = some { e with body := .ended status 0 0 }

/-- The data lanes of a direction that fail: none, or one that the working spare lane, 16, can carry. -/
def Sys2Proof.LanesFail (bad : List (Fin 17)) (one : Option (Fin 16)) : Prop :=
  (∀ i ∈ bad, i.val < 16 → one.map Fin.val = some i.val)
    ∧ ∀ i, one = some i → i.castSucc ∈ bad ∧ (16 : Fin 17) ∉ bad

/-- A Fenzin link's state: training, loss of lock, sparing, replay and a corrupt flit (R283 to R287). -/
def Obligations.LinkStateCompletes : Prop :=
  (∀ (l : Fin 8) (s : State), Reaches s .mainband (linkPage l) Reg.lnk.TRAIN_EN.off →
    rd s (linkPage l) Reg.lnk.TRAIN_EN ≠ 0 → rd s (linkPage l) Reg.lnk.LINK_STATE ≠ 1 →
    Completes (.linkRetrain l) s fun t =>
      rd t (linkPage l) Reg.lnk.LINK_STATE = 1 ∧ Advanced s t (linkPage l) Reg.lnk.RETRAINS) ∧
  (∀ (l : Fin 8) (f : Training) (peer : BitVec 32) (tx rx : Option (Fin 16)) (s : State),
    rd s (linkPage l) Reg.lnk.LINK_STATE = 1 → f.peer = some peer → LanesFail f.badTx tx → LanesFail f.badRx rx →
    Completes (.linkTrainingAttemptEnd l f) s fun t =>
      rd t (linkPage l) Reg.lnk.LINK_STATE = 2 ∧ rd t (linkPage l) Reg.lnk.PEER_ID = peer.toNat
        ∧ rd t (linkPage l) Reg.lnk.SPARE_TX = (tx.map Fin.val).getD 31
        ∧ rd t (linkPage l) Reg.lnk.SPARE_RX = (rx.map Fin.val).getD 31
        ∧ (link t l).resend = (link s l).replay.length ∧ (link t l).replay = (link s l).replay
        ∧ (link t l).corrections = [] ∧ (link t l).failures = 0) ∧
  (∀ (l : Fin 8) (f : Training) (peer : BitVec 32) (s : State), rd s (linkPage l) Reg.lnk.LINK_STATE = 1 →
    rd s (linkPage l) Reg.lnk.HALF_OK ≠ 0 → f.peer = some peer → failsTwo (f.badTx.map Fin.val) = true →
    (∀ i ∈ f.badTx, 8 ≤ i.val) → LanesFail f.badRx none →
    Completes (.linkTrainingAttemptEnd l f) s fun t =>
      rd t (linkPage l) Reg.lnk.LINK_STATE = 3 ∧ rd t (linkPage l) Reg.lnk.PEER_ID = peer.toNat
        ∧ rd t (linkPage l) Reg.lnk.SPARE_TX = 31 ∧ rd t (linkPage l) Reg.lnk.SPARE_RX = 31
        ∧ (link t l).halfTx = 0 ∧ (link t l).halfRx = 0 ∧ sticky t (linkPage l) Sticky.lnk.HALF_WIDTH = true) ∧
  (∀ (l : Fin 8) (f : Training) (s : State), rd s (linkPage l) Reg.lnk.LINK_STATE = 1 →
    f.peer = none ∨ (failsTwo (f.badTx.map Fin.val) = true ∧ rd s (linkPage l) Reg.lnk.HALF_OK = 0) →
    (link s l).failures + 1 < atLeastOne (rd s (linkPage l) Reg.lnk.RETRAIN_LIMIT) →
    Completes (.linkTrainingAttemptEnd l f) s fun t =>
      rd t (linkPage l) Reg.lnk.LINK_STATE = 1 ∧ (link t l).failures = (link s l).failures + 1
        ∧ Advanced s t (linkPage l) Reg.lnk.RETRAINS) ∧
  (∀ (l : Fin 8) (f : Training) (s : State), rd s (linkPage l) Reg.lnk.LINK_STATE = 1 →
    f.peer = none ∨ (failsTwo (f.badTx.map Fin.val) = true ∧ rd s (linkPage l) Reg.lnk.HALF_OK = 0) →
    atLeastOne (rd s (linkPage l) Reg.lnk.RETRAIN_LIMIT) ≤ (link s l).failures + 1 →
    Completes (.linkTrainingAttemptEnd l f) s fun t =>
      rd t (linkPage l) Reg.lnk.LINK_STATE = 4 ∧ rd t (linkPage l) Reg.hdr.FAULT_CODE = 1
        ∧ (∀ (c : Fin 16) (d : Send), (chan s l c).send = some d → EntryEnded s t d.sw d.slot 0x41)
        ∧ (∀ (c : Fin 16) (r : Receive), (chan s l c).receive = some r → r.drop = false → r.answered = false →
          r.writes = [] → (chan t l c).receive = none ∧ sticky t (linkPage l) Sticky.lnk.NACK_SENT = true)) ∧
  (∀ (l : Fin 8) (s : State), linkIsUp s l = true →
    Completes (.linkLockLoss l) s fun t =>
      rd t (linkPage l) Reg.lnk.LINK_STATE = (if rd s (linkPage l) Reg.lnk.TRAIN_EN = 0 then 0 else 1)
        ∧ sticky t (linkPage l) Sticky.lnk.LINK_LOST = true ∧ (link t l).replay = (link s l).replay) ∧
  (∀ (l : Fin 8) (lane : Fin 17) (s : State), linkIsUp s l = true → lane.val < 16 →
    atLeastOne (rd s (linkPage l) Reg.lnk.LANE_ERR_THRESHOLD) ≤ (NatMap.get? (link s l).corrections lane.val).getD 0 →
    rd s (linkPage l) Reg.lnk.LANE_SPARE_EN ≠ 0 → rd s (linkPage l) Reg.lnk.SPARE_RX = 31 →
    Completes (.fenzinLaneSpare l lane) s fun t =>
      rd t (linkPage l) Reg.lnk.SPARE_RX = lane.val ∧ (link t l).spareReq = some lane.val
        ∧ sticky t (linkPage l) Sticky.lnk.LANE_SPARED = true) ∧
  (∀ (l : Fin 8) (lane : Fin 17) (s : State), linkIsUp s l = true → lane.val < 16 →
    atLeastOne (rd s (linkPage l) Reg.lnk.LANE_ERR_THRESHOLD) ≤ (NatMap.get? (link s l).corrections lane.val).getD 0 →
    rd s (linkPage l) Reg.lnk.LANE_SPARE_EN ≠ 0 → rd s (linkPage l) Reg.lnk.SPARE_RX ≠ 31 →
    rd s (linkPage l) Reg.lnk.SPARE_RX ≠ lane.val →
    Completes (.fenzinLaneSpare l lane) s fun t =>
      rd t (linkPage l) Reg.lnk.SPARE_RX = rd s (linkPage l) Reg.lnk.SPARE_RX
        ∧ sticky t (linkPage l) Sticky.lnk.LANE_EXHAUSTED = true) ∧
  (∀ (l : Fin 8) (lane : Fin 17) (s : State),
    (NatMap.get? (link s l).corrections lane.val).getD 0 < atLeastOne (rd s (linkPage l) Reg.lnk.LANE_ERR_THRESHOLD) →
    Completes (.fenzinLaneSpare l lane) s fun t => t = s) ∧
  (∀ (l : Fin 8) (s : State), linkIsUp s l = true → (link s l).replay ≠ [] → (link s l).sameReplays + 1 < 16 →
    Completes (.replayTimerExpiry l) s fun t =>
      (link t l).resend = (link s l).replay.length ∧ Advanced s t (linkPage l) Reg.lnk.REPLAYS) ∧
  (∀ (l : Fin 9) (type : BitVec 4) (f : Flit) (s : State), l.val < 8 → 6 < type.toNat → linkIsUp s l = true →
    Completes (.corruptFlit l type f) s fun t =>
      (link t l).replayReq = true ∧ Advanced s t (linkPage l) Reg.lnk.CRC_ERRORS
        ∧ (link t l).channels = (link s l).channels
        ∧ ∀ lane, f.fec = [lane] → (NatMap.get? (link t l).corrections lane.val).getD 0
          = min ((NatMap.get? (link s l).corrections lane.val).getD 0 + 1) (2 ^ 32 - 1)) ∧
  (∀ (l : Fin 9) (f : Flit) (s : State), l.val < 8 → linkIsUp s l = true → f.crc.toNat = flitCrc 0 f.channel f.fseq.toNat f.payload →
    Completes (.corruptFlit l 0 f) s fun t =>
      Advanced s t (linkPage l) Reg.lnk.FLITS_RX ∧ (link t l).replayReq = (link s l).replayReq
        ∧ (link t l).expected = (link s l).expected ∧ (link t l).channels = (link s l).channels)

/-- What a link sends: a claim takes its channel, a send forms its scale, and flits leave; and how a send ends (R287,
R289, R290, R297 to R300). -/
def Obligations.LinkSendingCompletes : Prop :=
  (∀ (l : Fin 9) (c : Fin 16) (sw slot b : Nat) (rest : List (Nat × Nat)) (s : State), (chan s l c).send = none →
    (chan s l c).claims = (sw, slot) :: rest → reduceBlock s sw slot = some b →
    Completes (.channelClaim l c) s fun t =>
      (chan t l c).claims = rest
        ∧ ∃ d, (chan t l c).send = some d ∧ d.sw = sw ∧ d.slot = slot ∧ d.block = b ∧ d.begun = false ∧ d.sent = 0) ∧
  (∀ (l : Fin 9) (c : Fin 16) (d : Send) (r : Nat) (s u : State), (chan s l c).send = some d → d.history = none →
    d.stop = none → memRead s .linkSender (rbHist d.block) 128 = (u, .ok r) → historyOdd r = false →
    0 < orderKey (historyMax r) →
    Completes (.historyReadDone l c) s fun t =>
      ∃ e, (chan t l c).send = some e ∧ e.history = some r ∧ e.block = d.block
        ∧ e.scale = scaleOf (rbLfmt d.block) (rbMargin d.block) (historyMax r)) ∧
  (∀ (l : Fin 9) (c : Fin 16) (d : Send) (r img : Nat) (s u v : State), (chan s l c).send = some d → d.history = none →
    d.stop = none → memRead s .linkSender (rbHist d.block) 128 = (u, .ok r) → historyOdd r = false →
    orderKey (historyMax r) ≤ 0 →
    memRead u .linkSender (rbSrc d.block) (rbElements d.block * fmtBytes (rbSfmt d.block)) = (v, .ok img) →
    Completes (.historyReadDone l c) s fun t =>
      ∃ e, (chan t l c).send = some e ∧ e.history = some r ∧ e.peak = largestFinite (peekSource u d.block)
        ∧ e.scale = if e.peak = 0 then 0 else scaleOf (rbLfmt d.block) (rbMargin d.block) e.peak) ∧
  (∀ (l : Fin 9) (s : State), linkIsUp s l = true →
    Completes (.flitSend l) s fun t => l.val < 8 → MayHold s t (linkPage l) 1) ∧
  (∀ (l : Fin 9) (f : OutFlit) (s : State), linkIsUp s l = true → (link s l).resend ≠ 0 →
    (link s l).replay[(link s l).replay.length - (link s l).resend]? = some f →
    Completes (.flitSend l) s fun t =>
      (link t l).wire = f :: (link s l).wire ∧ (link t l).resend = (link s l).resend - 1) ∧
  (∀ (l : Fin 9) (s : State), linkIsUp s l = true → (link s l).resend = 0 → (link s l).replay.length < 512 →
    ctrlDue (link s l) = true →
    Completes (.flitSend l) s fun t =>
      (link t l).ackDue = false ∧ (link t l).replayReq = false
        ∧ (link t l).responses = (link s l).responses.drop 25
        ∧ FlitSent s t l 6 0 (ctrlPayload (link s l))) ∧
  (∀ (l : Fin 9) (c : Nat) (d : Send) (s : State), linkIsUp s l = true → (link s l).resend = 0 →
    (link s l).replay.length < 512 → ctrlDue (link s l) = false →
    nextChannel (link (creditWaits s l) l) = some (c, d) → d.stop = none → d.begun = false →
    Completes (.flitSend l) s fun t =>
      FlitSent s t l 1 c (headPayload d)
        ∧ (chan t l c).send = some { d with begun := true } ∧ (chan t l c).spent = (chan s l c).spent + 1) ∧
  (∀ (l : Fin 9) (c img : Nat) (d : Send) (s : State), linkIsUp s l = true → (link s l).resend = 0 →
    (link s l).replay.length < 512 → ctrlDue (link s l) = false →
    nextChannel (link (creditWaits s l) l) = some (c, d) → d.stop = none → d.begun = true →
    d.sent < rbElements d.block →
    (memRead (turnTaken (linkHeld s l) l c) .linkSender (rbSrc d.block + d.sent * fmtBytes (rbSfmt d.block))
      (min (bodyElements (rbLfmt d.block)) (rbElements d.block - d.sent) * fmtBytes (rbSfmt d.block))).2 = .ok img →
    Completes (.flitSend l) s fun t =>
      (∃ p, FlitSent s t l 2 c p)
        ∧ ∃ e, (chan t l c).send = some e
          ∧ e.sent = d.sent + min (bodyElements (rbLfmt d.block)) (rbElements d.block - d.sent)) ∧
  (∀ (l : Fin 9) (s : State), l.val < 8 → linkIsUp s l = true → (link s l).resend = 0 →
    512 ≤ (link s l).replay.length ∨ (ctrlDue (link s l) = false ∧ nextChannel (link (creditWaits s l) l) = none) →
    Completes (.flitSend l) s fun t =>
      (link t l).wire = sealFlit 0 0 0 0 :: (link s l).wire ∧ (link t l).nextSeq = (link s l).nextSeq
        ∧ (link t l).replay = (link s l).replay) ∧
  (∀ (l : Fin 9) (c : Fin 16) (a : Await) (rest : List Await) (sw slot : Nat) (s u : State),
    ResponseTaken s l c 0 u → (chan u l c).awaiting = a :: rest → a.owner = some (sw, slot) →
    Completes (.ackEnd l c) s fun t => (chan t l c).awaiting = rest ∧ EntryEnded s t sw slot 0) ∧
  (∀ (l : Fin 9) (c : Fin 16) (code : BitVec 8) (a : Await) (rest : List Await) (sw slot : Nat) (s u : State),
    code ≠ 0 → ResponseTaken s l c code.toNat u → (chan u l c).awaiting = a :: rest → a.owner = some (sw, slot) →
    Completes (.nack l c code) s fun t => (chan t l c).awaiting = rest ∧ EntryEnded s t sw slot code.toNat) ∧
  (∀ (l : Fin 9) (c : Fin 16) (i : Nat) (a : Await) (sw slot : Nat) (s : State),
    ((chan s l c).awaiting.findIdx? fun a => a.owner.isSome) = some i → (chan s l c).awaiting[i]? = some a →
    a.owner = some (sw, slot) →
    Completes (.ackTimerExpiry l c) s fun t =>
      (chan t l c).awaiting = (chan s l c).awaiting.set i { owner := none, late := true }
        ∧ EntryEnded s t sw slot 0x46)

/-- What a link receives: the flits of a send, its writes and its commit, CTRL, and a window that closes while the
link is away (R287 to R290, R294, R304 to R306). -/
def Obligations.LinkReceivingCompletes : Prop :=
  (∀ (l : Fin 9) (f : Flit) (w : Window) (s u : State), acceptFlit s l 1 f = (u, true) →
    (chan u l f.channel.val).receive = none → findWindow u (bits f.payload 0 16) = some w →
    headRefusal (some w) (bits f.payload 16 8) (bits f.payload 32 32) = none →
    Completes (.head l f) s fun t =>
      ∃ r, (chan t l f.channel.val).receive = some r ∧ r.entry = w.entry ∧ r.slotNo = bits f.payload 16 8 ∧ r.got = 0
        ∧ r.drop = false ∧ r.writes = []) ∧
  (∀ (l : Fin 9) (f : Flit) (code : Nat) (s u : State), acceptFlit s l 1 f = (u, true) →
    (chan u l f.channel.val).receive = none →
    headRefusal (findWindow u (bits f.payload 0 16)) (bits f.payload 16 8) (bits f.payload 32 32) = some code →
    Completes (.head l f) s fun t =>
      (∃ r, (chan t l f.channel.val).receive = some r ∧ r.drop = true ∧ r.answered = true)
        ∧ (f.channel.val, 2, code) ∈ (link t l).responses) ∧
  (∀ (l : Fin 9) (f : Flit) (r : Receive) (w : Window) (s u : State), acceptFlit s l 2 f = (u, true) →
    (chan u l f.channel.val).receive = some r → r.ended = false → r.drop = false → openEntry u r.entry = some w →
    Completes (.body l f) s fun t =>
      ∃ q, (chan t l f.channel.val).receive = some q ∧ q.got = r.got + bodyElements r.lfmt
        ∧ q.writes.flatten = r.writes.flatten ++ bodyWrites w r f.payload) ∧
  (∀ (l : Fin 9) (f : Flit) (r : Receive) (w : Window) (s u : State), acceptFlit s l 3 f = (u, true) →
    (chan u l f.channel.val).receive = some r → r.ended = false → r.drop = false → openEntry u r.entry = some w →
    Completes (.esc l f) s fun t =>
      ∃ q, (chan t l f.channel.val).receive = some q ∧ q.got = r.got
        ∧ q.writes.flatten = r.writes.flatten ++ escWrites w r f.payload) ∧
  (∀ (l : Fin 9) (f : Flit) (r : Receive) (s u : State), acceptFlit s l 4 f = (u, true) →
    (chan u l f.channel.val).receive = some r → r.ended = false → r.drop = false →
    Completes (.endFlit l f) s fun t =>
      (chan t l f.channel.val).receive = some { r with ended := true, closing := some (4, f.payload) }) ∧
  (∀ (l : Fin 9) (f : Flit) (r : Receive) (s u : State), acceptFlit s l 5 f = (u, true) →
    (chan u l f.channel.val).receive = some r → r.ended = false → r.drop = false → r.writes = [] →
    Completes (.abort l f) s fun t =>
      (chan t l f.channel.val).receive = none
        ∧ (r.answered = false → (f.channel.val, 2, 0x30) ∈ (link t l).responses)) ∧
  (∀ (l : Fin 9) (f : Flit) (s u : State), acceptFlit s l 6 f = (u, true) →
    Completes (.ctrl l f) s fun t =>
      (∀ c < 16, (chan t l c).spent = (chan u l c).spent - fieldAt f.payload (4 + c) 1)
        ∧ (l.val < 8 → (link t l).replay = (acknowledge (link u l) (fieldAt f.payload 0 2)).replay)) ∧
  (∀ (l : Fin 9) (c : Fin 16) (r : Receive) (ws : List (Nat × Nat × Nat)) (rest : List (List (Nat × Nat × Nat)))
    (s u : State), (chan s l c).receive = some r → r.writes = ws :: rest → retires s l = true →
    doWrites ws s = (u, true) →
    rest ≠ [] ∨ (∃ p, r.closing = some (4, p)) ∨ (r.closing = none ∧ r.ended = false) →
    Completes (.receiveWriteAccept l c) s fun t =>
      (chan t l c).receive = some { r with writes := rest } ∧ (chan t l c).owed = (chan s l c).owed + 1
        ∧ t.dram = u.dram) ∧
  (∀ (l : Fin 9) (c : Fin 16) (r : Receive) (w : Window) (p : Nat) (s u : State), (chan s l c).receive = some r →
    r.closing = some (4, p) → openEntry s r.entry = some w → r.writes = [] → linkIsUp s l = true →
    commitHeader s w r p = (u, true) →
    Completes (.receiveEndCommit l c) s fun t =>
      (c.val, 1, 0) ∈ (link t l).responses
        ∧ ((chan s l c).queue = [] → (chan t l c).receive = none ∧ t.dram = u.dram)) ∧
  (∀ (l : Fin 8) (s : State), retires s l = false →
    Completes (.windowCloseTimeout l) s fun t =>
      ∀ (c : Fin 16) (r : Receive), (chan s l c).receive = some r → (chan s l c).queue = [] →
        (s.windows.any fun w => w.entry == r.entry && w.closing) = true →
        ∀ q, (chan t l c).receive = some q → q.writes = []) ∧
  (∀ (l : Fin 9) (c : Fin 16) (code : BitVec 8) (f : Flit) (type : BitVec 4) (s : State), l.val < 8 →
    linkIsUp s l = true →
    ∀ e ∈ ([.head l f, .body l f, .esc l f, .endFlit l f, .abort l f, .ctrl l f, .corruptFlit l type f, .ackEnd l c,
      .nack l c code] : List Instr), Completes e s fun t => MayHold s t (linkPage l) 1) ∧
  (∀ (l : Fin 9) (f : Flit) (s : State), l.val < 8 → linkIsUp s l = true →
    ∀ e ∈ ([(1, .head l f), (2, .body l f), (3, .esc l f), (4, .endFlit l f), (5, .abort l f), (6, .ctrl l f)] :
        List (Nat × Instr)),
      f.crc.toNat ≠ crc32c 124 (flitBytes e.1 f.channel f.fseq.toNat f.payload) →
      Completes e.2 s fun t =>
        (link t l).replayReq = true ∧ Advanced s t (linkPage l) Reg.lnk.CRC_ERRORS
          ∧ (link t l).expected = (link s l).expected ∧ t.dram = s.dram)

/-- A packet has left for the host, or waits for its credit or for the link (R326). -/
def Sys2Proof.Leaves (t : State) (p : Packet) : Prop := p ∈ toHost t

/-- A host request of `units` units has arrived under its credit. -/
def Sys2Proof.requestArrived (s : State) (posted nonposted units : Nat) : State :=
  { countUnits s units with hif := { s.hif with
    hostPosted := s.hif.hostPosted + posted, hostNonposted := s.hif.hostNonposted + nonposted } }

/-- The host holds the credit for a request, and the request can arrive (R316, R326). -/
def Sys2Proof.InCredit (s : State) (posted nonposted len : Nat) : Prop :=
  mainbandOpen s = true ∧ ohtLength len = true ∧ s.hif.hostPosted + posted ≤ 2048
    ∧ s.hif.hostNonposted + nonposted ≤ 256

/-- No entry waits for a write of host memory to enter the stream (R323). -/
def Sys2Proof.NoWrites (s : State) : Prop :=
  ∀ sw : Fin 16, (∀ c n, (stair s sw).cur = some c → c.stage ≠ .posting ∧ c.stage ≠ .recording n)
    ∧ ∀ e ∈ (stair s sw).slots, ∀ n, e.2.body ≠ .recording n

/-- Requests that the host makes on the mainband and on the sideband, and what they are answered with (R11, R317, R318,
R319, R326, R329, R371, R391). -/
def Obligations.HostRequestsComplete : Prop :=
  (∀ (tag : BitVec 10) (addr : BitVec 64) (len : Nat) (s : State), InCredit s 0 1 len →
    regLegal addr.toNat len = true →
    Completes (.regRd tag addr len) s fun t =>
      Leaves t (.cpl tag.toNat 0 4 (some (readSpace (requestArrived s 0 1 1) .mainband addr.toNat).2))
        ∧ t.hif.owedNonposted = s.hif.owedNonposted + 1) ∧
  (∀ (tag : BitVec 10) (addr : BitVec 64) (len : Nat) (s : State), InCredit s 0 1 len →
    regLegal addr.toNat len = false →
    Completes (.regRd tag addr len) s fun t =>
      Leaves t (.cpl tag.toNat 1 len none) ∧ Advanced s t .hif Reg.hif.UR_SENT) ∧
  (∀ (tag : BitVec 10) (addr : BitVec 64) (len : Nat) (v : BitVec 32) (s u : State) (ok : Bool), InCredit s 0 1 len →
    regLegal addr.toNat len = true →
    writeSpace (requestArrived s 0 1 (ceilDiv (32 + len) 128)) .mainband addr.toNat v.toNat = (u, ok) → linkUp u = true →
    Completes (.regWr tag addr len v) s fun t =>
      Leaves t (.cpl tag.toNat (if ok then 0 else 2) 1 none)
        ∧ ∀ (p : Page) (f : Fld) (a : Acc), (f, a) ∈ p.rows → p ≠ .hif → rd t p f = rd u p f) ∧
  (∀ (tag : BitVec 10) (addr : BitVec 64) (len : Nat) (v : BitVec 32) (s : State), InCredit s 0 1 len →
    regLegal addr.toNat len = false →
    Completes (.regWr tag addr len v) s fun t =>
      Leaves t (.cpl tag.toNat 1 1 none) ∧ Advanced s t .hif Reg.hif.UR_SENT) ∧
  (∀ (tag : BitVec 10) (addr : BitVec 64) (len v : Nat) (s : State), InCredit s 0 1 len → ready s = true →
    apertureLegal addr.toNat len = true → (memRead (requestArrived s 0 1 1) .host addr.toNat len).2 = .ok v →
    Completes (.aptRd tag addr len) s fun t => Leaves t (.cpl tag.toNat 0 len (some v)) ∧ t.hif.owedNonposted = s.hif.owedNonposted + 1) ∧
  (∀ (tag : BitVec 10) (addr : BitVec 64) (len k a : Nat) (s : State), InCredit s 0 1 len → ready s = true →
    apertureLegal addr.toNat len = true → (memRead (requestArrived s 0 1 1) .host addr.toNat len).2 = .fault k a →
    Completes (.aptRd tag addr len) s fun t => Leaves t (.cpl tag.toNat 2 len none)) ∧
  (∀ (tag : BitVec 10) (addr : BitVec 64) (len : Nat) (s : State), InCredit s 0 1 len →
    (ready s && apertureLegal addr.toNat len) = false →
    Completes (.aptRd tag addr len) s fun t =>
      Leaves t (.cpl tag.toNat 1 len none) ∧ Advanced s t .hif Reg.hif.UR_SENT) ∧
  (∀ (addr : BitVec 64) (len v : Nat) (s u : State), InCredit s (ceilDiv (32 + len) 128) 0 len → ready s = true →
    apertureLegal addr.toNat len = true →
    memWrite (requestArrived s (ceilDiv (32 + len) 128) 0 (ceilDiv (32 + len) 128)) .host addr.toNat len (v % 2 ^ (8 * len))
      = (u, .ok 0) →
    Completes (.aptWr addr len v) s fun t =>
      t.dram = u.dram ∧ t.codes = u.codes ∧ t.hif.owedPosted = s.hif.owedPosted + ceilDiv (32 + len) 128) ∧
  (∀ (addr : BitVec 64) (len v k a : Nat) (s u : State), InCredit s (ceilDiv (32 + len) 128) 0 len → ready s = true →
    apertureLegal addr.toNat len = true →
    memWrite (requestArrived s (ceilDiv (32 + len) 128) 0 (ceilDiv (32 + len) 128)) .host addr.toNat len (v % 2 ^ (8 * len))
      = (u, .fault k a) →
    Completes (.aptWr addr len v) s fun t =>
      Advanced s t .hif Reg.hif.APT_WR_FAULTS ∧ sticky t .hif Sticky.hif.APT_WR_FAULT = true) ∧
  (∀ (addr : BitVec 64) (len v : Nat) (s : State), InCredit s (ceilDiv (32 + len) 128) 0 len →
    (ready s && apertureLegal addr.toNat len) = false →
    Completes (.aptWr addr len v) s fun t => Advanced s t .hif Reg.hif.UR_DISCARDS ∧ t.dram = s.dram) ∧
  (∀ (addr : BitVec 64) (s : State), sidebandOpen s = true → regLegal addr.toNat 4 = true →
    Completes (.sidebandRequest addr ⟨.read, false, none⟩) s fun t =>
      t.hif.sideband = .data ((readSpace s .sideband addr.toNat).2 % 2 ^ 32) :: s.hif.sideband) ∧
  (∀ (addr : BitVec 64) (v : BitVec 32) (s u : State) (ok : Bool), sidebandOpen s = true →
    regLegal addr.toNat 4 = true → writeSpace s .sideband addr.toNat v.toNat = (u, ok) → sidebandOpen u = true →
    Completes (.sidebandRequest addr ⟨.write v, false, none⟩) s fun t =>
      t.hif.sideband = (if ok then .written else .error) :: s.hif.sideband ∧ t.regs = u.regs ∧ t.seb = u.seb) ∧
  (∀ (addr : BitVec 64) (op : SidebandOp) (s : State), sidebandOpen s = true → regLegal addr.toNat 4 = false →
    Completes (.sidebandRequest addr ⟨op, false, none⟩) s fun t =>
      t.hif.sideband = .error :: s.hif.sideband ∧ t.regs = s.regs ∧ t.dram = s.dram) ∧
  (∀ (addr : BitVec 64) (v : BitVec 32) (s u : State) (ok : Bool), sidebandOpen s = true →
    regLegal addr.toNat 4 = true → writeSpace s .sideband addr.toNat v.toNat = (u, ok) → u.hif.sidebandModule < 16 →
    Completes (.sidebandRequest addr ⟨.write v, true, none⟩) s fun t =>
      t.hif.sideband = u.hif.sideband ∧ t.regs = u.regs ∧ t.seb = u.seb
        ∧ t.hif.sidebandLost = u.hif.sidebandModule :: u.hif.sidebandLost
        ∧ t.hif.sidebandModule ≠ u.hif.sidebandModule) ∧
  (∀ (addr : BitVec 64) (op : SidebandOp) (lost : Bool) (x : MainbandCall) (s : State),
    ∃ u, (match x.write with
        | some v => exec (.regWr x.tag x.addr x.len v) s
        | none => exec (.regRd x.tag x.addr x.len) s) = .next u
      ∧ exec (.sidebandRequest addr ⟨op, lost, some x⟩) s = exec (.sidebandRequest addr ⟨op, lost, none⟩) u) ∧
  (∀ (tag : BitVec 10) (addr : BitVec 64) (len : Nat) (s : State), InCredit s 0 1 len →
    regLegal addr.toNat len = true → s.hif.queued = [] →
    Completes (.regRd tag addr len) s fun t => MayHold s t .hif 2)

/-- The other packets of the mainband, and reads of host memory (R317, R321 to R323, R326). -/
def Obligations.HostTrafficCompletes : Prop :=
  (∀ (posted nonposted : BitVec 32) (s : State), mainbandOpen s = true →
    Completes (.credit posted nonposted) s fun t =>
      rd t .hif Reg.hif.HOST_CREDIT_SEEN = 1
        ∧ (s.hif.queued = [] → NoWrites s →
            rd t .hif Reg.hif.POSTED = min (rd s .hif Reg.hif.POSTED + posted.toNat) (2 ^ 16 - 1)
              ∧ rd t .hif Reg.hif.NONPOSTED = min (rd s .hif Reg.hif.NONPOSTED + nonposted.toNat) (2 ^ 16 - 1))) ∧
  (∀ (posted nonposted : BitVec 32) (q : Queued) (a n v status : Nat) (sw : Fin 16) (c : Current) (s : State),
    mainbandOpen s = true → s.hif.queued = [q] → q.packet = .hostWr a n v → q.owner = some (recordOwner sw 8) →
    q.packet.units ≤ min (rd s .hif Reg.hif.POSTED + posted.toNat) (2 ^ 16 - 1) → (stair s sw).cur = some c →
    c.stage = .recording status →
    Completes (.credit posted nonposted) s fun t => q.packet ∈ t.hif.sent ∧ (stair t sw).cur ≠ some c) ∧
  (∀ s : State, Completes .nop s fun t => t = s) ∧
  (∀ (type : BitVec 8) (units : Nat) (s : State), mainbandOpen s = true → packetTypes.contains type.toNat = false →
    Completes (.unknownPacket type units) s fun t =>
      Advanced s t .hif Reg.hif.BAD_PACKETS ∧ sticky t .hif Sticky.hif.BAD_PACKET = true) ∧
  (∀ (tag : Nat) (r : HostRead) (pre post : List HostRead) (s : State), freeTag s = some tag →
    s.hif.reads = pre ++ r :: post → (∀ q ∈ pre, q.tag ≠ none) → r.tag = none →
    Completes .hostRd s fun t =>
      t.hif.reads = pre ++ { r with tag := some tag } :: post
        ∧ (linkUp s = true → Leaves t (.hostRd tag r.addr r.len))
        ∧ (s.hif.queued = [] → MayHold s t .hif 1)) ∧
  (∀ (tag : BitVec 10) (len v : Nat) (r : HostRead) (s : State), mainbandOpen s = true → ohtLength len = true →
    (s.hif.reads.find? fun q => q.tag == some tag.toNat) = some r → r.len = len →
    Completes (.cpl tag 0 len v) s fun t =>
      (∀ q ∈ t.hif.reads, q.tag ≠ some tag.toNat)
        ∧ ∀ sw w, r.who = .waitWord sw → (stair s sw).wait = some w →
            (stair t sw).wait = some { w with word := .data (v % 2 ^ (8 * len)) }) ∧
  (∀ (tag : BitVec 10) (st : BitVec 4) (len v : Nat) (r : HostRead) (s : State), mainbandOpen s = true →
    ohtLength len = true → (s.hif.reads.find? fun q => q.tag == some tag.toNat) = some r → r.len = len → st ≠ 0 →
    on s .hif Reg.hif.FAULT_INFO_VALID = false →
    Completes (.cpl tag st len v) s fun t =>
      rd t .hif Reg.hif.FAULT_INFO_VALID = 1 ∧ rd t .hif Reg.hif.FAULT_ADDR = r.addr % 2 ^ 64
        ∧ rd t .hif Reg.hif.FAULT_INFO_KIND = failKind st.toNat) ∧
  (∀ (tag : BitVec 10) (st : BitVec 4) (len v : Nat) (s : State), mainbandOpen s = true → ohtLength len = true →
    (s.hif.reads.find? fun q => q.tag == some tag.toNat) = none →
    Completes (.cpl tag st len v) s fun t =>
      (s.hif.retired.contains tag.toNat = true → Advanced s t .hif Reg.hif.LATE_CPL)
        ∧ (s.hif.retired.contains tag.toNat = false →
            Advanced s t .hif Reg.hif.BAD_CPL ∧ sticky t .hif Sticky.hif.BAD_CPL = true)) ∧
  (∀ (tag : Fin 512) (s : State), readWaits s tag = true → Completes (.cplTimeout tag) s fun t => t = s) ∧
  (∀ (tag : Fin 512) (r : HostRead) (s : State), (s.hif.reads.find? fun q => q.tag == some tag.val) = some r →
    readWaits s tag = false →
    Completes (.cplTimeout tag) s fun t =>
      tag.val ∈ t.hif.retired ∧ (∀ q ∈ t.hif.reads, q.tag ≠ some tag.val)
        ∧ Advanced s t .hif Reg.hif.CPL_TIMEOUTS ∧ sticky t .hif Sticky.hif.CPL_TIMEOUT = true) ∧
  (∀ (tag : Fin 512) (s : State),
    Completes (.retiredTagRelease tag) s fun t =>
      (∀ x, x ∈ t.hif.retired ↔ x ∈ s.hif.retired ∧ x ≠ tag.val) ∧ t.hif.reads = s.hif.reads ∧ t.regs = s.regs)

/-- The vector table, the modules of the mainband, the sideband that answers, and the debug ports (R28, R314, R315,
R324, R326, R328, R332, R363, R391, R395). -/
def Obligations.AttachmentAndDebugPortsComplete : Prop :=
  (∀ (v : Fin 64) (signalled : Bool) (s : State), s.rst.held = false →
    Completes (.vecCtrlWrite v true signalled) s fun t =>
      rd t .hif (Reg.hif.VEC_CTRL_MASK v) = 1
        ∧ rd t .hif (Reg.hif.VEC_CTRL_PENDING v)
          = if signalled then 1 else rd s .hif (Reg.hif.VEC_CTRL_PENDING v)) ∧
  (∀ (v : Fin 64) (signalled : Bool) (s : State), s.rst.held = false →
    Completes (.vecCtrlWrite v false signalled) s fun t =>
      rd t .hif (Reg.hif.VEC_CTRL_MASK v) = 0 ∧ rd t .hif (Reg.hif.VEC_CTRL_PENDING v) = 0) ∧
  (∀ (m : Fin 16) (s : State), moduleActive s m = true → rd s .hif Reg.hif.RETRAINING = 0 →
    Completes (.ucieModuleLoss m) s fun t =>
      rd t .hif Reg.hif.RETRAINING = 1 ∧ Advanced s t .hif Reg.hif.RETRAINS
        ∧ sticky t .hif Sticky.hif.MODULE_LOST = true) ∧
  (∀ (active sidebands : BitVec 16) (repaired : Bool) (s : State), rd s .hif Reg.hif.RETRAINING ≠ 0 →
    Completes (.ucieRetrainDone ⟨active, sidebands⟩ repaired) s fun t =>
      rd t .hif Reg.hif.RETRAINING = 0
        ∧ rd t .hif Reg.hif.ACTIVE_MASK = active.toNat &&& rd s .hif Reg.hif.MODULE_ENABLE
        ∧ rd t .hif Reg.hif.HIF_STATE_UP = (if active.toNat &&& rd s .hif Reg.hif.MODULE_ENABLE = 0 then 0 else 1)
        ∧ (active.toNat &&& rd s .hif Reg.hif.MODULE_ENABLE ≠ 0 → linkUp s = false →
            rd t .hif Reg.hif.POSTED = 0 ∧ rd t .hif Reg.hif.NONPOSTED = 0
              ∧ rd t .hif Reg.hif.HOST_CREDIT_SEEN = 0 ∧ t.hif.hostPosted = 0 ∧ t.hif.hostNonposted = 0)
        ∧ (active.toNat &&& rd s .hif Reg.hif.MODULE_ENABLE = 0 → linkUp s = true →
            sticky t .hif Sticky.hif.LINK_DOWN = true)
        ∧ (∀ m < 16, moduleActive s m = true → bit (rd s .hif Reg.hif.MODULE_ENABLE) m = true →
            bit active.toNat m = false → RepairEvent.report ∈ t.mc.repairs
              ∧ (bit s.hif.lost m = false → sticky t .hif Sticky.hif.MODULE_LOST = true))
        ∧ (∀ m < 16, bit sidebands.toNat m = true → t.hif.sidebandModule ≤ m)
        ∧ (t.hif.sidebandModule < 16 → bit t.hif.sidebandUp t.hif.sidebandModule = true
            ∧ t.hif.sidebandModule ∉ t.hif.sidebandLost)) ∧
  (∀ (m : Fin 16) (s : State), moduleActive s m = true → rd s .hif Reg.hif.RETRAINING = 0 →
    Completes (.moduleCrcThreshold m) s fun t =>
      rd t .hif Reg.hif.RETRAINING = 1 ∧ Advanced s t .hif Reg.hif.RETRAINS) ∧
  (∀ s : State, phaseAtLeast s 2 = true → rd s .hif Reg.hif.RETRAINING = 0 →
    Completes .hifRetrain s fun t => rd t .hif Reg.hif.RETRAINING = 1 ∧ Advanced s t .hif Reg.hif.RETRAINS) ∧
  (∀ s : State, s.hif.sidebandModule < 16 →
    Completes .sidebandFailover s fun t =>
      t.hif.sidebandLost = s.hif.sidebandModule :: s.hif.sidebandLost
        ∧ (∀ m < t.hif.sidebandModule, m < 16 → bit s.hif.sidebandUp m = true → m ∈ t.hif.sidebandLost)
        ∧ (t.hif.sidebandModule < 16 → t.hif.sidebandModule ∉ t.hif.sidebandLost) ∧ t.hif.sidebandModule ≤ 16
        ∧ t.hif.sideband = s.hif.sideband ∧ t.regs = s.regs) ∧
  (∀ s : State,
    Completes .jtagTapReset s fun t => t.jtag = { s.jtag with instr := .idcode, dr := 0x10A11B87 } ∧ t.regs = s.regs) ∧
  (∀ (i : JtagInstr) (s : State),
    Completes (.jtagInstructionUpdate i) s fun t =>
      t.jtag.instr = (if jtagPermits s i then i else .bypass) ∧ t.jtag.mcWord = s.jtag.mcWord ∧ t.regs = s.regs
        ∧ (jtagPermits s i = true → i = .boundaryScan → t.jtag.dr = strapBits s.rst.straps)) ∧
  (∀ (w : BitVec 32) (slow : Bool) (s : State), (s.seb.state = 0 ∨ s.seb.state = 3 ∧ bit s.seb.debugMask 1 = true) →
    slow = false ∨ s.jtag.mcWord = none →
    Completes (.mcDebugPortAccess ⟨w, slow⟩) s fun t =>
      t.jtag.mcWord = some w.toNat ∧ t.jtag.mcOut.isSome = true ∧ t.jtag.mcWait = false ∧ t.regs = s.regs) ∧
  (∀ (w : BitVec 32) (s : State), (s.seb.state = 0 ∨ s.seb.state = 3 ∧ bit s.seb.debugMask 1 = true) →
    s.jtag.mcWord ≠ none →
    Completes (.mcDebugPortAccess ⟨w, true⟩) s fun t => t.jtag = { s.jtag with mcWait := true } ∧ t.regs = s.regs) ∧
  (∀ (w : BitVec 32) (slow : Bool) (s : State), s.seb.state ≠ 0 → ¬(s.seb.state = 3 ∧ bit s.seb.debugMask 1 = true) →
    Completes (.mcDebugPortAccess ⟨w, slow⟩) s fun t => t = s)

/-- The fault concentrator, and the faults, commands and states of galleries (R334, R335, R336, R339, R340). -/
def Obligations.GalleryServiceCompletes : Prop :=
  (∀ (r : Report) (s : State), (s.fc.any (·.source == r.source.toNat)) = false → s.fc.length < 512 →
    Completes (.fcReport [r]) s fun t =>
      t.fc = s.fc ++ [{ source := r.source.toNat, code := r.code.toNat, detail := r.detail.toNat, dups := 0 }]) ∧
  (∀ (r : Report) (s : State), (s.fc.any (·.source == r.source.toNat)) = true →
    Completes (.fcReport [r]) s fun t =>
      t.fc = s.fc.map (fun e => if e.source = r.source.toNat then { e with dups := min (e.dups + 1) 65535 } else e)
        ∧ t.regs = s.regs) ∧
  (∀ (r : Report) (s : State), (s.fc.any (·.source == r.source.toNat)) = false → 512 ≤ s.fc.length →
    Completes (.fcReport [r]) s fun t =>
      t.fc = s.fc ∧ Advanced s t .fc Reg.fc.OVERFLOW_REPORTS ∧ sticky t .fc Sticky.fc.TABLE_FULL = true) ∧
  (∀ s : State, Reaches s .mainband .fc 0x044 → Completes (.clearTable []) s fun t => t.fc = [] ∧ rd t .fc Reg.fc.OVERFLOW_REPORTS = 0) ∧
  (∀ (r : Report) (s : State), Reaches s .mainband .fc 0x044 →
    Completes (.clearTable [r]) s fun t =>
      t.fc = [{ source := r.source.toNat, code := r.code.toNat, detail := r.detail.toNat, dups := 0 }]) ∧
  (∀ (h : Fin 16) (g : Fin 17) (k : GalleryFault) (s : State), ready s = true →
    (k = .treadHang → (gal s h g).flight.isSome = true) →
    Completes (.treadWatchdogExpiry h g k) s fun t =>
      (gal t h g).faulted = true ∧ (gal t h g).tickets = [] ∧ quiesced t h g = true
        ∧ rd t (arrPage h g) Reg.hdr.FAULT_CODE = faultCode k
        ∧ sticky t (hallPage h) Sticky.hall.GALLERY_FAULT = true
        ∧ (if logicalOf s h g = none then RepairEvent.unswappable h else .galleryFault h g) ∈ t.mc.repairs) ∧
  (∀ (h : Fin 16) (g : Fin 17) (f : Flight) (r : TileReg) (ij : Nat × Nat) (rest : List (Nat × Nat)) (k : Ticket × Job)
    (gr : Group) (s : State), (gal s h g).flight = some f → (gal s h g).resident = some r → f.todo = ij :: rest →
    ticketJob s h g f.serial = some k → flightGroup (gal s h g) f = some gr →
    Completes (.tread h g true) s fun t =>
      (gal t h g).faulted = true ∧ (gal t h g).tickets = [] ∧ quiesced t h g = true
        ∧ rd t (arrPage h g) Reg.hdr.FAULT_CODE = 3) ∧
  (∀ (h : Fin 16) (g : Fin 17) (s : State), Reaches s .mainband (hallPage h) 0x048 → drainLegal s h g = true →
    Completes (.drain h g) s (fun t => quiesced t h g = true ∧ (gal t h g).tickets = (gal s h g).tickets)
      ∧ Completes (.abandon h g) s fun t => quiesced t h g = true ∧ (gal t h g).tickets = []) ∧
  (∀ (h : Fin 16) (g : Fin 17) (s : State), Reaches s .mainband (arrPage h g) 0x00C → drainLegal s h g = true →
    Completes (.quiesceSet h g) s fun t => quiesced t h g = true ∧ (gal t h g).tickets = (gal s h g).tickets) ∧
  (∀ (h : Fin 16) (g : Fin 17) (s : State), Reaches s .mainband (hallPage h) 0x048 → drainLegal s h g = false →
    Completes (.drain h g) s fun t =>
      rd t (hallPage h) Reg.hdr.STATE_ERR = 1 ∧ t.galleries = s.galleries ∧ t.disp = s.disp) ∧
  (∀ (h : Fin 16) (g : Fin 17) (target : Fin 32) (i : Nat) (s : State), Reaches s .mainband (hallPage h) 0x048 →
    swapLegal s h g target = true → logicalOf s h g = some i →
    Completes (.swap h g target) s fun t =>
      rd t (hallPage h) (Reg.hall.REMAP i) = target ∧ outOfService t h g = true ∧ outOfService t h target = false
        ∧ quiesced t h target = false ∧ Advanced s t (hallPage h) Reg.hall.SWAPS
        ∧ sticky t (hallPage h) Sticky.hall.SWAP_DONE = true) ∧
  (∀ (h : Fin 16) (g : Fin 17) (target : Fin 32) (s : State), Reaches s .mainband (hallPage h) 0x048 →
    swapLegal s h g target = false →
    Completes (.swap h g target) s fun t =>
      rd t (hallPage h) Reg.hdr.STATE_ERR = 1 ∧ t.galleries = s.galleries ∧ t.mc = s.mc) ∧
  (∀ (h : Fin 16) (g : Fin 17) (s : State), Reaches s .mainband (hallPage h) 0x048 → stopped s h g = true →
    (logicalOf s h g).isSome = true → (gal s h g).op = none →
    Completes (.galleryResume h g) s fun t => quiesced t h g = false ∧ (gal t h g).faulted = false) ∧
  (∀ (h : Fin 16) (g : Fin 17) (s : State), Reaches s .mainband (arrPage h g) 0x00C → stopped s h g = true →
    (logicalOf s h g).isSome = true → (gal s h g).op = none → quiesced s h g = true →
    Completes (.quiesceClear h g) s fun t => quiesced t h g = false ∧ (gal t h g).faulted = false) ∧
  (∀ (h : Fin 16) (g : Fin 17) (s : State), Reaches s .mainband (arrPage h g) 0x00C → quiescent s h g = true →
    outOfService s h g = true → (gal s h g).op = none →
    Completes (.galleryScrub h g) s fun t =>
      (∀ m < 4, ∀ w < 128 * memCourses m, getWord (gal t h g) m w = 0) ∧ (gal t h g).regFill = 0
        ∧ (gal t h g).groups = []) ∧
  (∀ (h : Fin 16) (g : Fin 17) (s : State), (gal s h g).busy = true → quiescent s h g = true →
    Completes (.galleryQuiescent h g) s fun t =>
      (gal t h g).busy = false ∧ sticky t (hallPage h) Sticky.hall.QUIESCE_DONE = true) ∧
  (∀ (h : Fin 16) (g : Fin 17) (s : State), (gal s h g).scrub = some .waiting → quiescent s h g = true →
    (gal s h g).op = none →
    Completes (.scrubFill h g) s fun t =>
      (gal t h g).scrub = some .filled ∧ (gal t h g).resident = (gal s h g).resident
        ∧ (∀ sw, scrubbedBy s (17 * h.val + g.val) = some sw →
            ∀ m < 4, ∀ w < 128 * memCourses m,
              getWord (gal t h g) m w = rd s (swPage sw) Reg.sw.SCRUB_VALUE % 2 ^ 32)) ∧
  (∀ (h : Fin 16) (g : Fin 17) (s : State), (gal s h g).scrub = some .filled →
    Completes (.scrubFillDone h g) s fun t =>
      (gal t h g).scrub = none ∧ (∀ gr ∈ (gal t h g).groups, gr.phase ≠ .orphan)
        ∧ ∀ e ∈ t.stairs, 17 * h.val + g.val ∉ e.2.scrubbing)

/-- Hall retirement and automatic repair (R341, R344). -/
def Obligations.HallServiceCompletes : Prop :=
  (∀ (h : Fin 16) (s : State), Reaches s .mainband (hallPage h) 0x044 → hallOut s h = false →
    Completes (.hallRetire h) s fun t =>
      rd t (hallPage h) Reg.hall.RETIRING = 1 ∧ ∀ g < 17, drainLegal s h g = true → quiesced t h g = true) ∧
  (∀ (h : Fin 16) (s : State), Reaches s .mainband (hallPage h) 0x044 → hallOut s h = true →
    Completes (.hallRetire h) s fun t =>
      rd t (hallPage h) Reg.hdr.STATE_ERR = 1 ∧ t.galleries = s.galleries) ∧
  (∀ (h : Fin 16) (s : State), rd s (hallPage h) Reg.hall.RETIRING ≠ 0 → (cache s h).walks.contains .retire = false →
    (∀ g < 17, (quiescent s h g || (gal s h g).faulted) = true) → NatMap.get? s.dressers h.val = none →
    Completes (.hallRetireFlush h) s fun t =>
      (cache t h).lines = [] ∧ rd t (hcPage h) Reg.hc.WAY_DISABLE = 2 ^ 24 - 1 ∧ .retire ∈ (cache t h).walks) ∧
  (∀ (h : Fin 16) (s : State), (cache s h).walks.contains .retire = true →
    Completes (.hallRetireDone h) s fun t =>
      rd t (hallPage h) Reg.hall.RETIRED = 1 ∧ rd t (hallPage h) Reg.hall.RETIRING = 0
        ∧ (∀ i < 16, rd t (hallPage h) (Reg.hall.REMAP i) = 31) ∧ (∀ g < 17, outOfService t h g = true)
        ∧ sticky t (hallPage h) Sticky.hall.RETIRE_DONE = true) ∧
  (∀ (rest : List RepairEvent) (s : State), mcRuns s = true → s.mc.repairing = none → s.mc.repairs = .report :: rest →
    Completes .autoRepair s fun t =>
      t.mc.repairs = rest ∧ sticky t .mcService Sticky.mcs.REPAIR_NEEDED = true) ∧
  (∀ (h : Nat) (rest : List RepairEvent) (s : State), mcRuns s = true → s.mc.repairing = none →
    s.mc.repairs = .unswappable h :: rest →
    Completes .autoRepair s fun t => t.mc.repairs = rest
      ∧ (hallOut s h = false → sticky t .mcService Sticky.mcs.REPAIR_NEEDED = true)
      ∧ (hallOut s h = true → t.regs = s.regs)) ∧
  (∀ (h : Fin 16) (g : Fin 17) (resume : Bool) (s : State), mcRuns s = true →
    s.mc.repairing = some (.rows h g resume) → (gal s h g).rowQueue.any (spareFree (gal s h g)) = false →
    (gal s h g).faulted = true →
    Completes .autoRepair s fun t => t.mc.repairing = none ∧ (gal t h g).faulted = true ∧ t.mc.repairs = s.mc.repairs) ∧
  (∀ (h w : Nat) (rest : List RepairEvent) (s : State), mcRuns s = true → s.mc.repairing = none →
    s.mc.repairs = .wayErrors h w :: rest → walking s h = false → wayOn s h w = true →
    Completes .autoRepair s fun t =>
      t.mc.repairs = rest
        ∧ (on s .mcService Reg.mcs.AUTO_WAY = true → wayOn t h w = false)
        ∧ (on s .mcService Reg.mcs.AUTO_WAY = false →
            wayOn t h w = true ∧ sticky t .mcService Sticky.mcs.REPAIR_NEEDED = true)) ∧
  (∀ (h : Fin 16) (g spare i : Nat) (rest : List RepairEvent) (s : State), mcRuns s = true → s.mc.repairing = none →
    s.mc.repairs = .galleryFault h g :: rest → hallOut s h = false → (gal s h g).faulted = true → i < 16 →
    logicalOf s h g = some i → on s .mcService Reg.mcs.AUTO_SWAP = true → spareGallery s h = some spare →
    swapLegal s h g spare = true →
    Completes .autoRepair s fun t =>
      t.mc.repairs = rest ∧ rd t (hallPage h) (Reg.hall.REMAP i) = spare
        ∧ Advanced s t (hallPage h) Reg.hall.SWAPS) ∧
  (∀ (h g : Nat) (s : State), mcRuns s = true → s.mc.repairing = some (.swapOut h g) → hallOut s h = true →
    Completes .autoRepair s fun t => t.mc.repairing = none ∧ t.mc.repairs = s.mc.repairs ∧ t.regs = s.regs)

/-- LOAD, SWITCH and REVERT of firmware, and the exchange itself (R343, R354, R355, R360). -/
def Obligations.FirmwareExchangeCompletes : Prop :=
  (∀ (v : Nat) (s u : State), Reaches s .mainband .mcService 0x054 → s.mc.switching = 0 → sebBusy s = false →
    inRecovery s = false →
    rd s .mcService Reg.mcs.FW_ADDR % 64 = 0 → isHost (rd s .mcService Reg.mcs.FW_ADDR) = false →
    cmdWithin (rd s .mcService Reg.mcs.FW_ADDR) (rd s .mcService Reg.mcs.FW_LEN) = true →
    rd s .mcService Reg.mcs.FW_LEN % 64 = 0 → 64 ≤ rd s .mcService Reg.mcs.FW_LEN →
    rd s .mcService Reg.mcs.FW_LEN ≤ 4194304 →
    memRead (setImage { s with mc := { s.mc with previous := false } } (!s.mc.activeB)
      { inactive s with valid := false }) .mc
      (rd s .mcService Reg.mcs.FW_ADDR) (rd s .mcService Reg.mcs.FW_LEN) = (u, .ok v) →
    Completes .load s fun t =>
      t.mc.load = some {
          addr := rd s .mcService Reg.mcs.FW_ADDR, len := rd s .mcService Reg.mcs.FW_LEN
          asked := rd s .mcService Reg.mcs.FW_LEN, got := rd s .mcService Reg.mcs.FW_LEN, bytes := v }
        ∧ inactive t = { inactive s with valid := false } ∧ t.mc.previous = false) ∧
  (∀ s : State, Reaches s .mainband .mcService 0x054 → s.mc.switching = 0 → sebBusy s = false →
    rd s .mcService Reg.mcs.FW_ADDR % 64 = 0 → isHost (rd s .mcService Reg.mcs.FW_ADDR) = true →
    cmdWithin (rd s .mcService Reg.mcs.FW_ADDR) (rd s .mcService Reg.mcs.FW_LEN) = true →
    rd s .mcService Reg.mcs.FW_LEN % 64 = 0 → 64 ≤ rd s .mcService Reg.mcs.FW_LEN →
    rd s .mcService Reg.mcs.FW_LEN ≤ 4194304 →
    Completes .load s fun t =>
      (∃ x, t.mc.load = some x ∧ x.got = 0 ∧ x.len = rd s .mcService Reg.mcs.FW_LEN)
        ∧ inactive t = { inactive s with valid := false }
        ∧ ∃ r, t.hif.reads = s.hif.reads ++ [r] ∧ r.who = .firmware 0 ∧ r.tag = none
            ∧ r.addr = hostAddr (rd s .mcService Reg.mcs.FW_ADDR)) ∧
  (∀ s : State, Reaches s .mainband .mcService 0x054 → s.mc.switching = 0 → sebBusy s = false →
    (rd s .mcService Reg.mcs.FW_ADDR % 64 ≠ 0
      ∨ cmdWithin (rd s .mcService Reg.mcs.FW_ADDR) (rd s .mcService Reg.mcs.FW_LEN) = false) →
    Completes .load s fun t =>
      rd t .seb Reg.seb.RESULT = 1 ∧ sticky t .mcService Sticky.mcs.FW_REJECT = true ∧ (inactive t).len = 0 ∧ t.mc.load = none) ∧
  (∀ s : State, Reaches s .mainband .mcService 0x054 → sebBusy s = true →
    Completes .load s fun t => t.mc.held = s.mc.held ++ [1] ∧ t.regs = s.regs) ∧
  (∀ s : State, Reaches s .mainband .mcService 0x054 → sebBusy s = false → s.mc.switching ≠ 0 →
    Completes .load s fun t => rd t .mcService Reg.hdr.STATE_ERR = 1 ∧ t.mc = s.mc) ∧
  (∀ (x : FwLoad) (s : State), s.mc.load = some x → x.len ≤ x.got → s.mc.held = [] →
    Completes .imageVerifyDone s fun t =>
      imageVerdict s { bytes := x.bytes, len := x.len, valid := true } = 0 →
        rd t .seb Reg.seb.RESULT = 0 ∧ t.mc.load = none
          ∧ (inRecovery s = false → inactive t = { bytes := x.bytes, len := x.len, valid := true }
            ∧ sticky t .mcService Sticky.mcs.FW_STAGED = true)
          ∧ (inRecovery s = true → rd t .reset Reg.rst.PHASE = 3 ∧ rd t .reset Reg.rst.RECOVERY = 0
            ∧ t.mc.activeB = (!s.mc.activeB)
            ∧ imageOfSlot t t.mc.activeB = { bytes := x.bytes, len := x.len, valid := true })) ∧
  (∀ (x : FwLoad) (s : State), s.mc.load = some x → x.len ≤ x.got →
    imageVerdict s { bytes := x.bytes, len := x.len, valid := true } ≠ 0 →
    Completes .imageVerifyDone s fun t =>
      Advanced s t .seb Reg.seb.VERIFY_FAILS ∧ sticky t .seb Sticky.seb.VERIFY_FAIL = true
        ∧ sticky t .mcService Sticky.mcs.FW_REJECT = true
        ∧ (s.mc.held = [] → rd t .seb Reg.seb.RESULT
            = imageVerdict s { bytes := x.bytes, len := x.len, valid := true } ∧ t.mc.load = none)) ∧
  (∀ s : State, Reaches s .mainband .mcService 0x054 → s.mc.switching = 0 → (inactive s).valid = true → s.mc.repairing = none →
    (sebBusy s = false → Completes .switch s fun t => t.mc = { s.mc with switching := 1, reverting := false })
      ∧ (s.mc.previous = true →
          Completes .revert s fun t => t.mc = { s.mc with switching := 1, reverting := true })) ∧
  (∀ s : State, ready s = true →
    (s.mc.switching ≠ 0 ∨ (inactive s).valid = false ∨ s.mc.repairing.isSome = true) →
    (sebBusy s = false → Completes .switch s fun t => rd t .mcService Reg.hdr.STATE_ERR = 1 ∧ t.mc = s.mc)
      ∧ Completes .revert s fun t => rd t .mcService Reg.hdr.STATE_ERR = 1 ∧ t.mc = s.mc) ∧
  (∀ s : State, Reaches s .mainband .mcService 0x054 → s.mc.previous = false →
    Completes .revert s fun t => rd t .mcService Reg.hdr.STATE_ERR = 1 ∧ t.mc = s.mc) ∧
  (∀ s : State, Reaches s .mainband .mcService 0x054 → sebBusy s = true →
    Completes .switch s fun t => t.mc.held = s.mc.held ++ [2] ∧ t.regs = s.regs) ∧
  (∀ s : State, s.mc.switching = 1 → Completes .fwSwitchBegin s fun t => t.mc = { s.mc with switching := 2 }) ∧
  (∀ s : State, s.mc.switching = 2 →
    Completes .fwReady s fun t =>
      t.mc.activeB = (!s.mc.activeB) ∧ t.mc.switching = 0 ∧ t.mc.previous = true ∧ t.seb.bootB = (!s.mc.activeB)
        ∧ sticky t .mcService Sticky.mcs.FW_SWITCHED = true) ∧
  (∀ s : State, s.mc.switching = 2 →
    Completes .fwReadyTimeout s fun t =>
      t.mc.activeB = s.mc.activeB ∧ t.mc.switching = 0 ∧ (inactive t).valid = false ∧ t.seb = s.seb
        ∧ sticky t .mcService Sticky.mcs.FW_REVERTED = true)

/-- The SEB takes a command from a path (R360, R371). -/
def Sys2Proof.SebTakes (s : State) (path : Path) : Prop :=
  Reaches s path .seb 0x044 ∧ sebBusy s = false ∧ s.mc.switching = 0

/-- A command runs, and RESULT will take `result` when it ends. -/
def Sys2Proof.SebRuns (t : State) (cmd target result : Nat) : Prop :=
  t.seb.run = some { cmd := cmd, target := target, result := result }

/-- Triggers of causes `cs` have come over the device in one handshake, of which `c` is the first: what R376 does not name
is lost, but for device memory, which goes in the wipe that follows (R278, R368, R369, R375, R376). -/
def Sys2Proof.WasReset (s t : State) (cs : List Nat) (c : Nat) : Prop :=
  rd t .reset Reg.rst.RESET_CAUSE = c ∧ (∀ k ∈ cs, bit (rd t .reset Reg.rst.CAUSE_MASK) k = true)
    ∧ rd t .reset Reg.rst.PHASE = 1 ∧ (∀ k ∈ s.rst.holding, k ∈ t.rst.holding)
    ∧ (∀ k ∈ t.rst.holding, k ∈ s.rst.holding ∨ (k ∈ cs ∧ k ≠ 3 ∧ k ≠ 6))
    ∧ (∀ k ∈ cs, k ≠ 3 → k ≠ 6 → k ∈ t.rst.holding) ∧ t.rst.straps = s.rst.straps
    ∧ t.dram = s.dram ∧ t.codes = s.codes ∧ t.galleries = [] ∧ t.caches = [] ∧ t.drams = [] ∧ t.links = []
    ∧ t.windows = [] ∧ t.stairs = [] ∧ t.dressers = [] ∧ t.fc = [] ∧ t.disp = .reset ∧ t.hif = .reset
    ∧ t.latches = [] ∧ t.staging = [] ∧ t.fifoHolds = [] ∧ t.mc.record = s.mc.record ∧ t.seb.run = none ∧ t.seb.challengeIn = false
    ∧ ∀ (p : Page) (f : Fld) (a : Acc), (f, a) ∈ p.rows → p ≠ .reset → rd t p f = f.rst

/-- The commands of the security block (R356 to R365). -/
def Obligations.SecurityCommandsComplete : Prop :=
  (∀ s : State, Reaches s .mainband .seb 0x044 →
    Completes .challenge s fun t =>
      t.seb.challengeIn = true
        ∧ (∀ i < 8, rd t .seb (Reg.seb.CHALLENGE i) = Config.free (s.drawn + i) % 2 ^ 32)
        ∧ (sebBusy s = false → SebRuns t 1 0 0) ∧ (sebBusy s = true → t.seb.run = s.seb.run)) ∧
  (∀ (nonce : Nat) (s u w : State), SebTakes s .mainband → s.seb.state ≠ 0 → s.seb.state ≠ 4 → argLegal s 576 = true →
    memRead { s with seb := { s.seb with reports := min (s.seb.reports + 1) (2 ^ 64 - 1) } } .seb (argAddr s) 32
      = (u, .ok nonce) →
    sebWrite (draw u).2 (argAddr u + 64) 512 (osToImage (signedReport (draw u).2 nonce (draw u).1)) = (w, true) →
    Completes .attest s fun t =>
      SebRuns t 2 0 0 ∧ t.dram = w.dram ∧ t.seb.reports = min (s.seb.reports + 1) (2 ^ 64 - 1)) ∧
  (∀ s : State, SebTakes s .mainband → (s.seb.state = 0 ∨ s.seb.state = 4) →
    Completes .attest s fun t => SebRuns t 2 0 8 ∧ t.dram = s.dram ∧ t.seb.reports = s.seb.reports) ∧
  (∀ s : State, SebTakes s .mainband → s.seb.state ≠ 0 → s.seb.state ≠ 4 → argLegal s 576 = false →
    Completes .attest s fun t => SebRuns t 2 0 1 ∧ t.dram = s.dram ∧ t.seb.reports = s.seb.reports) ∧
  (∀ (path : Path) (target : BitVec 3) (s : State), SebTakes s path →
    moveLegal path s.seb.state target.toNat = true → needsToken s.seb.state = false →
    Completes (.transition path ⟨target, []⟩) s fun t =>
      t.seb.state = target.toNat ∧ WasReset s t [6] 6
        ∧ (target = 1 → ∃ n e d, t.seb.idKey = some (n, e, d) ∧ rsaPair n e d)) ∧
  (∀ (path : Path) (target : BitVec 3) (also : List ResetCause) (s : State), SebTakes s path →
    moveLegal path s.seb.state target.toNat = true → needsToken s.seb.state = false →
    Completes (.transition path ⟨target, also⟩) s fun t =>
      t.seb.state = target.toNat
        ∧ WasReset s t (6 :: also.map causeCode) (firstCause (6 :: also.map causeCode))) ∧
  (∀ (path : Path) (target : BitVec 3) (tok : Nat) (s u : State), SebTakes s path →
    moveLegal path s.seb.state target.toNat = true → needsToken s.seb.state = true → argLegal s 960 = true →
    memRead s .seb (argAddr s) 960 = (u, .ok tok) →
    Completes (.transition path ⟨target, []⟩) s fun t =>
      ((tokenVerdict u target.toNat tok).1 = 0 → t.seb.state = target.toNat ∧ WasReset u t [6] 6
        ∧ t.seb.debugMask = if target.toNat = 3 then fieldAt tok 5 1 else 0)
      ∧ ((tokenVerdict u target.toNat tok).1 ≠ 0 →
        SebRuns t 3 target.toNat (tokenVerdict u target.toNat tok).1 ∧ t.seb.state = s.seb.state
        ∧ Advanced s t .seb Reg.seb.VERIFY_FAILS ∧ sticky t .seb Sticky.seb.VERIFY_FAIL = true
        ∧ ((tokenVerdict u target.toNat tok).2 = true → t.seb.challengeIn = false))) ∧
  (∀ (path : Path) (target : BitVec 3) (s : State), SebTakes s path →
    moveLegal path s.seb.state target.toNat = false →
    Completes (.transition path ⟨target, []⟩) s fun t =>
      SebRuns t 3 target.toNat 8 ∧ t.seb.state = s.seb.state ∧ t.regs = s.regs) ∧
  (∀ s : State, SebTakes s .mainband → inRecovery s = false →
    Completes .commitSvn s fun t =>
      SebRuns t 4 0 0 ∧ t.seb.svnFused = max s.seb.svnFused (imageSvn (imageOfSlot s s.mc.activeB))) ∧
  (∀ s : State, SebTakes s .mainband → s.seb.state = 3 →
    Completes .eraseRecord s fun t => SebRuns t 5 0 0 ∧ t.mc.record = [] ∧ t.seb.recordErased = true) ∧
  (∀ s : State, SebTakes s .mainband → s.seb.state ≠ 3 →
    Completes .eraseRecord s fun t => SebRuns t 5 0 8 ∧ t.mc.record = s.mc.record) ∧
  (∀ (n v : Nat) (s u w : State), SebTakes s .mainband → s.seb.state = 1 → s.seb.cert = none → argLegal s 4 = true →
    memRead s .seb (argAddr s) 4 = (u, .ok n) → 1 ≤ n → n ≤ 4096 → argLegal u (64 + n) = true →
    memRead u .seb (argAddr u + 64) n = (w, .ok v) →
    Completes .writeCert s fun t => SebRuns t 6 0 0 ∧ t.seb.cert = some (n, v)) ∧
  (∀ s : State, SebTakes s .mainband → (s.seb.state ≠ 1 ∨ s.seb.cert.isSome = true) →
    Completes .writeCert s fun t => SebRuns t 6 0 8 ∧ t.seb.cert = s.seb.cert) ∧
  (∀ (r : SebRun) (s : State), s.seb.run = some r → r.result < 2 ^ Reg.seb.RESULT.width →
    Completes .sebCommandDone s fun t =>
      t.seb.run = none ∧ sticky t .seb Sticky.seb.CMD_DONE = true
        ∧ (s.mc.held = [] → rd t .seb Reg.seb.RESULT = r.result)) ∧
  (∀ s : State, Reaches s .mainband .seb 0x044 → (sebBusy s = true ∨ s.mc.switching ≠ 0) →
    ∀ c ∈ [Instr.attest, .commitSvn, .eraseRecord, .writeCert],
      Completes c s fun t => rd t .seb Reg.hdr.STATE_ERR = 1 ∧ t.seb = s.seb ∧ t.mc = s.mc)

/-- Every reset trigger loses what a reset loses and holds the device until its condition is released; the triggers of one
handshake name the first of their causes (R368, R369, R376, R378, R394, R401). -/
def Obligations.ResetsComplete : Prop :=
  (∀ s : State,
    Completes .powerOnReset s fun t =>
      WasReset s t [1] 1 ∧ t.rst.held = true ∧ rd t .reset Reg.rst.RESET_COUNT = 1) ∧
  (∀ (ns : Nat) (accepted : Bool) (also : List ResetCause) (s : State), 1000 ≤ ns ∨ (500 ≤ ns ∧ accepted = true) →
    Completes (.pinReset ns ⟨accepted, also⟩) s fun t =>
      WasReset s t (2 :: also.map causeCode) (firstCause (2 :: also.map causeCode)) ∧ t.rst.held = true) ∧
  (∀ (ns : Nat) (accepted : Bool) (also : List ResetCause) (s : State), ns < 500 →
    Completes (.pinReset ns ⟨accepted, also⟩) s fun t =>
      (also = [] → t = s) ∧ (also ≠ [] → WasReset s t (also.map causeCode) (firstCause (also.map causeCode)))
        ∧ (.powerOn ∈ also → rd t .reset Reg.rst.RESET_COUNT = 1)) ∧
  (∀ (v : BitVec 32) (also : List ResetCause) (s : State), Reaches s .mainband .reset 0x04C →
    v.toNat % 2 ^ 16 = 0x5A17 →
    Completes (.hostReset ⟨v, also⟩) s fun t =>
      WasReset s t (3 :: also.map causeCode) (firstCause (3 :: also.map causeCode))
        ∧ (also = [] → t.rst.held = false)) ∧
  (∀ (v : BitVec 32) (s : State), Reaches s .mainband .reset 0x04C → v.toNat % 2 ^ 16 ≠ 0x5A17 →
    v.toNat % 2 ^ 16 ≠ 0 →
    Completes (.hostReset ⟨v, []⟩) s fun t => rd t .reset Reg.hdr.STATE_ERR = 1 ∧ t.dram = s.dram ∧ t.rst = s.rst) ∧
  (∀ s : State, Completes .sagReset s fun t => WasReset s t [4] 4 ∧ t.rst.held = true) ∧
  (∀ (h : Fin 16) (also : List ResetCause) (s : State),
    Completes (.thermalReset ⟨h, also⟩) s fun t =>
      WasReset s t (5 :: also.map causeCode) (firstCause (5 :: also.map causeCode)) ∧ t.rst.held = true
        ∧ h.val ∈ t.rst.thermHalls ∧ thermTripLow t = true) ∧
  (∀ (cs : List ResetCause) (i j : Nat), i < j → j < 5 →
    ([1, 2, 4, 5, 3].getD i 0) ∈ cs.map causeCode → firstCause (cs.map causeCode) ≠ ([1, 2, 4, 5, 3] : List Nat).getD j 0) ∧
  (∀ (c : ResetCause) (straps : Straps) (s : State), (∀ h, c ≠ .thermal h) →
    Completes (.resetRelease ⟨c, straps⟩) s fun t =>
      (∀ k, k ∈ t.rst.holding ↔ k ∈ s.rst.holding ∧ k ≠ causeCode c) ∧ t.regs = s.regs
        ∧ t.rst.thermHalls = s.rst.thermHalls
        ∧ t.rst.straps = (if c = .powerOn ∧ 1 ∈ s.rst.holding then straps else s.rst.straps)) ∧
  (∀ (h : Fin 16) (straps : Straps) (s : State),
    Completes (.resetRelease ⟨.thermal h, straps⟩) s fun t =>
      (∀ k, k ∈ t.rst.thermHalls ↔ k ∈ s.rst.thermHalls ∧ k ≠ h.val) ∧ t.regs = s.regs
        ∧ (t.rst.thermHalls = [] → 5 ∉ t.rst.holding ∧ thermTripLow t = false)
        ∧ (t.rst.thermHalls ≠ [] → t.rst.holding = s.rst.holding ∧ thermTripLow t = true)) ∧
  (∀ s : State, s.rst.held = false → sequenceRuns s = false →
    Completes (.sagReset) s (fun t => rd t .reset Reg.rst.CAUSE_MASK = 2 ^ 4
      ∧ rd t .reset Reg.rst.RESET_COUNT = min (rd s .reset Reg.rst.RESET_COUNT + 1) (2 ^ 32 - 1))
    ∧ Completes (.sagReset) s fun t => sticky t .reset Sticky.rst.RESTARTED = false)

/-- The phases of the bring-up (R273, R278, R355, R370, R372, R373, R375, R391). -/
def Obligations.BringUpCompletes : Prop :=
  (∀ s : State, inPhase s 1 = true →
    Completes .fusesDone s fun t =>
      inPhase t 2 = true ∧ rd t .hif Reg.hif.RETRAINING = 1
        ∧ (∀ m < 16, bit (Config.free s.drawn) m = true → t.hif.sidebandModule ≤ m)) ∧
  (∀ s : State, inPhase s 2 = true → on s .reset Reg.rst.RECOVERY = false →
    Completes .bootDone s fun t =>
      (bootable s s.seb.bootB = true → inPhase t 3 = true ∧ t.mc.activeB = s.seb.bootB
        ∧ (imageOfSlot t t.mc.activeB).valid = true
        ∧ sticky t .seb Sticky.seb.BOOT_FALLBACK = sticky s .seb Sticky.seb.BOOT_FALLBACK)
      ∧ (bootable s s.seb.bootB = false → bootable s (!s.seb.bootB) = true → inPhase t 3 = true
        ∧ t.mc.activeB = (!s.seb.bootB) ∧ t.seb.fallback = true ∧ sticky t .seb Sticky.seb.BOOT_FALLBACK = true)
      ∧ (bootable s s.seb.bootB = false → bootable s (!s.seb.bootB) = false →
        inPhase t 2 = true ∧ inRecovery t = true ∧ rd t .seb Reg.seb.RECOVERY = 1)) ∧
  (∀ s : State, inPhase s 3 = true →
    Completes .mcInitDone s fun t =>
      inPhase t 4 = true ∧ t.mc.calibrating = [] ∧ t.mc.cal.map Prod.fst = allTimers
        ∧ ∀ l < 8, on s (linkPage l) Reg.lnk.TRAIN_EN = true → rd t (linkPage l) Reg.lnk.LINK_STATE = 1) ∧
  (∀ (h ch lane spare : Nat) (s : State), inPhase s 3 = true → h < 16 → ch < 64 → lane < 288 → spare < 4 →
    bit (spareMask (dram s h) ch) spare = true →
    s.mc.record = [5 + h * 2 ^ 4 + (ch + lane * 2 ^ 6 + spare * 2 ^ 15) * 2 ^ 32] →
    Completes .mcInitDone s fun t =>
      Advanced s t .reset Reg.rst.RECORD_SKIPPED ∧ sticky t .mcService Sticky.mcs.REPAIR_NEEDED = true
        ∧ t.drams = s.drams) ∧
  (∀ s : State, inPhase s 4 = true →
    Completes .trainDone s fun t =>
      inPhase t 5 = true
        ∧ (∀ x ∈ failingLanes (Config.free s.drawn), x.lane.val < 288 →
          x.channel.val * 288 + x.lane.val ∈ (dram t x.stack).lanesMoved
            ∨ (freeSpare (dram t x.stack) x.channel = none ∧ sticky t (scPage x.stack) Sticky.sc.LANE_EXHAUSTED = true
              ∧ RepairEvent.report ∈ t.mc.repairs))
        ∧ (∀ x : BondLane, x ∉ failingLanes (Config.free s.drawn) → x.lane.val < 288 →
          (x.channel.val * 288 + x.lane.val ∈ (dram t x.stack).lanesMoved
            ↔ x.channel.val * 288 + x.lane.val ∈ (dram s x.stack).lanesMoved))
        ∧ ∀ (h : Fin 16) (ch : Fin 64), (∀ x ∈ failingLanes (Config.free s.drawn), x.stack = h → x.channel ≠ ch) →
          spareMask (dram t h) ch = spareMask (dram s h) ch) ∧
  (∀ (failures : List SelfTest) (s : State), inPhase s 5 = true →
    Completes (.wipeDone failures) s fun t =>
      ready t = true ∧ sticky t .reset Sticky.rst.READY_REACHED = true
        ∧ ∀ a, absentCell s a = false → byteAt t.dram a = 0) ∧
  (∀ s : State, inPhase s 5 = true → s.mc.repairs = [] →
    Completes (.wipeDone []) s fun t =>
      (∀ h < 16, ∀ g < 17, (gal t h g).mem = [] ∧ (gal t h g).tickets = []) ∧ ∀ h < 16, (cache t h).lines = []) ∧
  (∀ (h : Fin 16) (g : Fin 17) (m : GMem) (bank row ce ue : Nat) (s : State), inPhase s 5 = true → s.mc.repairs = [] →
    m ≠ .skipMap → rd s (hallPage h) Reg.hall.RETIRED = 0 → bank < memBanks (gmemNum m) →
    row * memBanks (gmemNum m) < memCourses (gmemNum m) → 1 ≤ ue →
    Completes (.wipeDone [.row h g m bank row ce ue]) s fun t =>
      rd t (memPage h g) Reg.gm.UE_COUNT = min (rd s (memPage h g) Reg.gm.UE_COUNT + ue) (2 ^ Reg.gm.UE_COUNT.width - 1)
        ∧ sticky t .reset Sticky.rst.SELFTEST_FAIL = true ∧ bit (rd t .reset Reg.rst.SELFTEST_HALLS) h = true)

/-- A step carries out the command at the front of the queue with the queue's rest. On an empty queue the device does
what it does by itself: it returns the credits it owes (R326) and copies a sector of each migrating stack (R275). That
these two happen then is the model's choice (assumption 4). -/
def Obligations.StepRunsTheFrontCommand : Prop :=
  (∀ (c : Instr) (rest : List Instr) (s : State), s.pending = c :: rest → step s = exec c { s with pending := rest }) ∧
  (∀ (c : Instr) (s : State), step { s with pending := c :: s.pending } = exec c s) ∧
  (∀ s : State, s.pending = [] → step s = .next ((List.range 16).foldl migrate (returnCredits s)))

/-- No command and no tick changes the queue, but that a step takes the command at its front. -/
def Obligations.CommandsLeaveTheQueue : Prop :=
  (∀ (c : Instr) (s t : State), exec c s = .next t → t.pending = s.pending) ∧
  (∀ s t : State, step s = .next t → t.pending = s.pending.tail)

/-- Every command answers a next state in every state, but a sample of the sensors, taken by its period or with the
calibration of its timer, which stops when a rail or a hall sensor lies beyond its absolute maximum, where no behaviour is
guaranteed (R2, R397, R402). -/
def Obligations.OnlyAnAbsoluteMaximumStops : Prop :=
  (∀ (c : Instr) (s : State), (∀ x, c = .powerLoopPeriod x → Sensors.beyond x = false) →
    (∀ k n x, c = .timerCalibrationDone k n (some (.loop x)) → k = .loop → Sensors.beyond x = false) →
    ∃ t, exec c s = .next t) ∧
  (∀ (x : Sensors) (n : Nat) (s : State), Sensors.beyond x = true →
    exec (.powerLoopPeriod x) s = .fault .beyondAbsoluteMaximum
      ∧ exec (.timerCalibrationDone .loop n (some (.loop x))) s = .fault .beyondAbsoluteMaximum)

/-- Every step keeps register space and device memory in their canonical forms. -/
def Obligations.StepKeepsTheForm : Prop :=
  ∀ s t : State, s.wf = true → step s = .next t → t.wf = true

/-- The state after reset is in canonical form, with an empty queue, and satisfies the invariant of RETIRED. -/
def Obligations.ResetIsInForm : Prop :=
  State.reset.wf = true ∧ State.reset.pending = []
    ∧ (State.reset.seb.state = 4 → State.reset.seb.idKey = none ∧ State.reset.seb.cert = none)

/-- After a power-on reset the sequence stands at its first phase, the reset page names the cause, and every register
of every other page holds the reset value of its table (R368, R370, R375, R376). -/
def Obligations.ResetLeavesTheTables : Prop :=
  rd State.reset .reset Reg.rst.PHASE = 1 ∧ rd State.reset .reset Reg.rst.RESET_CAUSE = 1
    ∧ rd State.reset .reset Reg.rst.CAUSE_MASK = 2 ∧ rd State.reset .reset Reg.rst.RESET_COUNT = 1
    ∧ rd State.reset .hif Reg.hif.MODULE_ENABLE = 0xFFFF ∧ rd State.reset .hif Reg.hif.CPL_TIMEOUT_US = 1000
    ∧ State.reset.rst.held = false ∧ ready State.reset = false ∧ linkUp State.reset = false
    ∧ (∀ (h : Fin 16) (i : Nat), i < 16 → logicalOf State.reset h i = some i ∧ quiesced State.reset h i = false)
    ∧ (∀ h : Fin 16, logicalOf State.reset h 16 = none ∧ outOfService State.reset h 16 = true)
    ∧ ∀ (p : Page) (f : Fld) (a : Acc), (f, a) ∈ p.rows → p ≠ .reset → rd State.reset p f = f.rst

/-- The commands that can change device memory: those that write it, those whose reads correct it or push a line out of a hall cache, a migration, and those that reset the device. -/
def Sys2Proof.Instr.mayStore : Instr → Bool
  | .registerWrite .. | .timerCalibrationDone .. | .kill .. | .killWithScrub .. | .entryReadDone ..
  | .entryStartAfterWait .. | .descriptorReadDone .. | .fence .. | .waitWordEvaluate .. | .writeWord ..
  | .signal .. | .fill .. | .copy .. | .flushWalkStep .. | .windowOpen .. | .windowOpenDone .. | .windowClose ..
  | .windowCloseDone .. | .windowCloseTimeout .. | .reduce .. | .jump .. | .halt .. | .entryComplete ..
  | .recordWriteFault .. | .issueBlockReadDone .. | .extentReadDone .. | .ticketGrant .. | .rowConversion ..
  | .statisticsAddBurst .. | .groupOpen .. | .preloadRowLoad .. | .tileRecordReceive .. | .streamRingFetch ..
  | .shadowSwap .. | .flightStage .. | .samplingFlight .. | .drainStart .. | .vectorTicketStart .. | .map ..
  | .dot .. | .softmax .. | .topk .. | .reduceSum .. | .reduceSplitk .. | .dressPanel .. | .hallCacheAccess ..
  | .hallCacheFill .. | .wayWalkStep .. | .sectorAccess .. | .patrolStep .. | .dramRowSpare .. | .migrationDone ..
  | .linkTrainingAttemptEnd .. | .flitSend .. | .historyReadDone .. | .head .. | .body .. | .esc .. | .endFlit ..
  | .abort .. | .receiveWriteAccept .. | .receiveEndCommit .. | .regWr .. | .aptRd .. | .aptWr .. | .cpl ..
  | .credit .. | .cplTimeout .. | .ucieRetrainDone .. | .sidebandRequest .. | .hallRetireFlush .. | .load ..
  | .imageVerifyDone .. | .attest .. | .transition .. | .writeCert .. | .sebCommandDone .. | .powerOnReset ..
  | .pinReset .. | .hostReset .. | .sagReset .. | .thermalReset .. | .wipeDone .. | .corruptFlit .. => true
  | _ => false

/-- The commands that can change a stairwell. -/
def Sys2Proof.Instr.mayStair : Instr → Bool
  | .registerWrite .. | .timerCalibrationDone .. | .start .. | .kill .. | .killWithScrub .. | .resume ..
  | .entryFetch .. | .entryReadDone .. | .entryStartAfterWait .. | .job .. | .descriptorReadDone .. | .fence ..
  | .waitWord .. | .waitWordWake .. | .waitWordPollTimer .. | .waitWordEvaluate .. | .waitTimeout ..
  | .writeWord .. | .signal .. | .fill .. | .copy .. | .flush .. | .flushWalkStep .. | .windowOpen ..
  | .windowOpenDone .. | .windowClose .. | .windowCloseDone .. | .windowCloseTimeout .. | .reduce .. | .jump ..
  | .halt .. | .badOpcode .. | .entryComplete .. | .recordWriteFault .. | .killDone .. | .scrubFillDone ..
  | .jobIssue .. | .issueBlockReadDone .. | .extentReadDone .. | .ticketGrant .. | .unitFinish ..
  | .convertOnEntry .. | .rowConversion .. | .statisticsAddBurst .. | .groupOpen .. | .preloadRowLoad ..
  | .tileRecordReceive .. | .streamRingFetch .. | .tileLoadHandshake .. | .shadowSwap .. | .flightStage ..
  | .tread .. | .flightEndAdd .. | .samplingFlight .. | .drainStart .. | .vectorTicketStart .. | .map .. | .dot ..
  | .softmax .. | .topk .. | .reduceSum .. | .reduceSplitk .. | .dressPanel .. | .galleryMemoryAccess ..
  | .hallCacheAccess .. | .hallCacheFill .. | .wayWalkStep .. | .sectorAccess .. | .linkTrainingAttemptEnd ..
  | .flitSend .. | .historyReadDone .. | .head .. | .body .. | .esc .. | .endFlit .. | .abort .. | .ctrl ..
  | .receiveWriteAccept .. | .receiveEndCommit .. | .ackEnd .. | .nack .. | .ackTimerExpiry .. | .regWr ..
  | .aptWr .. | .cpl .. | .credit .. | .cplTimeout .. | .ucieRetrainDone .. | .sidebandRequest ..
  | .treadWatchdogExpiry .. | .abandon .. | .hallRetireFlush .. | .attest .. | .transition .. | .powerOnReset ..
  | .pinReset .. | .hostReset .. | .sagReset .. | .thermalReset .. | .wipeDone .. | .corruptFlit .. => true
  | _ => false

/-- The commands that can change the dispatcher. -/
def Sys2Proof.Instr.mayDispatch : Instr → Bool
  | .registerWrite .. | .timerCalibrationDone .. | .kill .. | .killWithScrub .. | .jobIssue ..
  | .issueBlockReadDone .. | .extentReadDone .. | .ticketFetchRequest .. | .ticketGrant .. | .unitFinish ..
  | .convertOnEntry .. | .rowConversion .. | .statisticsAddBurst .. | .groupOpen .. | .preloadRowLoad ..
  | .tileRecordReceive .. | .streamRingFetch .. | .tileLoadHandshake .. | .shadowSwap .. | .flightStage ..
  | .tread .. | .flightEndAdd .. | .deadlineTimerExpiry .. | .samplingFlight .. | .drainStart ..
  | .vectorTicketStart .. | .map .. | .dot .. | .softmax .. | .topk .. | .reduceSum .. | .reduceSplitk ..
  | .dressPanel .. | .galleryMemoryAccess .. | .hallCacheAccess .. | .hallCacheFill .. | .sectorAccess ..
  | .regWr .. | .sidebandRequest .. | .treadWatchdogExpiry .. | .abandon .. | .transition .. | .powerOnReset ..
  | .pinReset .. | .hostReset .. | .sagReset .. | .thermalReset .. | .wipeDone .. => true
  | _ => false

/-- The commands that can change a gallery. -/
def Sys2Proof.Instr.mayGallery : Instr → Bool
  | .registerWrite .. | .timerCalibrationDone .. | .kill .. | .killWithScrub .. | .scrubFill .. | .scrubFillDone ..
  | .jobIssue .. | .issueBlockReadDone .. | .extentReadDone .. | .ticketGrant .. | .unitFinish ..
  | .convertOnEntry .. | .rowConversion .. | .generatorBind .. | .statisticsAddBurst .. | .convert ..
  | .groupOpen .. | .preloadRowLoad .. | .tileRecordReceive .. | .streamRingFetch .. | .tileLoadHandshake ..
  | .shadowSwap .. | .flightStage .. | .tread .. | .flightEndAdd .. | .deadlineTimerExpiry .. | .samplingFlight ..
  | .drainStart .. | .drainDone .. | .vectorTicketStart .. | .map .. | .dot .. | .softmax .. | .topk ..
  | .reduceSum .. | .reduceSplitk .. | .dressPanel .. | .groupCmdClose .. | .galleryMemoryAccess ..
  | .actSplitWrite .. | .memOpFill .. | .memOpCopy .. | .memOpDone .. | .winWordRead .. | .winWordWrite ..
  | .galleryRowRetire .. | .hallCacheAccess .. | .hallCacheFill .. | .sectorAccess .. | .regRd .. | .regWr ..
  | .sidebandRequest .. | .treadWatchdogExpiry .. | .drain .. | .abandon .. | .galleryResume .. | .quiesceSet ..
  | .quiesceClear .. | .galleryScrub .. | .galleryQuiescent .. | .hallRetire .. | .autoRepair .. | .transition ..
  | .powerOnReset .. | .pinReset .. | .hostReset .. | .sagReset .. | .thermalReset .. | .fusesDone ..
  | .mcInitDone .. | .wipeDone .. => true
  | _ => false

/-- The commands that can change what a dresser holds. -/
def Sys2Proof.Instr.mayDresser : Instr → Bool
  | .registerWrite .. | .timerCalibrationDone .. | .kill .. | .killWithScrub .. | .ticketGrant .. | .unitFinish ..
  | .convertOnEntry .. | .rowConversion .. | .statisticsAddBurst .. | .groupOpen .. | .preloadRowLoad ..
  | .tileRecordReceive .. | .streamRingFetch .. | .tileLoadHandshake .. | .shadowSwap .. | .flightStage ..
  | .tread .. | .flightEndAdd .. | .samplingFlight .. | .drainStart .. | .vectorTicketStart .. | .map .. | .dot ..
  | .softmax .. | .topk .. | .reduceSum .. | .reduceSplitk .. | .dressPanel .. | .galleryMemoryAccess ..
  | .hallCacheAccess .. | .hallCacheFill .. | .sectorAccess .. | .regWr .. | .sidebandRequest ..
  | .treadWatchdogExpiry .. | .abandon .. | .transition .. | .powerOnReset .. | .pinReset .. | .hostReset ..
  | .sagReset .. | .thermalReset .. | .wipeDone .. => true
  | _ => false

/-- The commands that can change a hall cache. -/
def Sys2Proof.Instr.mayCache : Instr → Bool
  | .registerWrite .. | .kill .. | .killWithScrub .. | .entryStartAfterWait .. | .flush .. | .flushWalkStep ..
  | .ticketGrant .. | .rowConversion .. | .groupOpen .. | .preloadRowLoad .. | .tileRecordReceive ..
  | .streamRingFetch .. | .shadowSwap .. | .flightStage .. | .samplingFlight .. | .drainStart ..
  | .vectorTicketStart .. | .map .. | .dot .. | .softmax .. | .topk .. | .reduceSum .. | .reduceSplitk ..
  | .dressPanel .. | .hallCacheAccess .. | .hallCacheFill .. | .wayDisableWrite .. | .wayWalkStep .. | .regWr ..
  | .sidebandRequest .. | .hallRetireFlush .. | .hallRetireDone .. | .autoRepair .. | .transition ..
  | .powerOnReset .. | .pinReset .. | .hostReset .. | .sagReset .. | .thermalReset .. | .wipeDone .. => true
  | _ => false

/-- The commands that can change what a stack controller keeps. -/
def Sys2Proof.Instr.mayStack : Instr → Bool
  | .registerWrite .. | .timerCalibrationDone .. | .kill .. | .killWithScrub .. | .entryReadDone ..
  | .entryStartAfterWait .. | .descriptorReadDone .. | .fence .. | .waitWordEvaluate .. | .writeWord ..
  | .signal .. | .fill .. | .copy .. | .flushWalkStep .. | .windowOpen .. | .windowOpenDone .. | .windowClose ..
  | .windowCloseDone .. | .windowCloseTimeout .. | .reduce .. | .jump .. | .halt .. | .entryComplete ..
  | .recordWriteFault .. | .issueBlockReadDone .. | .extentReadDone .. | .ticketGrant .. | .rowConversion ..
  | .statisticsAddBurst .. | .groupOpen .. | .preloadRowLoad .. | .tileRecordReceive .. | .streamRingFetch ..
  | .shadowSwap .. | .flightStage .. | .samplingFlight .. | .drainStart .. | .vectorTicketStart .. | .map ..
  | .dot .. | .softmax .. | .topk .. | .reduceSum .. | .reduceSplitk .. | .dressPanel .. | .hallCacheAccess ..
  | .hallCacheFill .. | .wayWalkStep .. | .sectorAccess .. | .refreshWindow .. | .patrolStep ..
  | .dramLaneRepair .. | .dramRowSpare .. | .dramRowSpareDone .. | .dieRetire .. | .migrationDone ..
  | .linkTrainingAttemptEnd .. | .flitSend .. | .historyReadDone .. | .head .. | .body .. | .esc .. | .endFlit ..
  | .abort .. | .receiveWriteAccept .. | .receiveEndCommit .. | .regWr .. | .aptRd .. | .aptWr .. | .cpl ..
  | .credit .. | .cplTimeout .. | .ucieRetrainDone .. | .sidebandRequest .. | .hallRetireFlush .. | .load ..
  | .imageVerifyDone .. | .attest .. | .transition .. | .writeCert .. | .sebCommandDone .. | .powerOnReset ..
  | .pinReset .. | .hostReset .. | .sagReset .. | .thermalReset .. | .mcInitDone .. | .trainDone .. | .wipeDone ..
  | .corruptFlit .. => true
  | _ => false

/-- The commands that can change a link. -/
def Sys2Proof.Instr.mayLink : Instr → Bool
  | .registerWrite .. | .timerCalibrationDone .. | .kill .. | .killWithScrub .. | .entryStartAfterWait ..
  | .windowClose .. | .windowCloseTimeout .. | .reduce .. | .linkRetrain .. | .linkTrainingAttemptEnd ..
  | .linkLockLoss .. | .fenzinLaneSpare .. | .flitSend .. | .channelClaim .. | .historyReadDone ..
  | .replayTimerExpiry .. | .head .. | .body .. | .esc .. | .endFlit .. | .abort .. | .ctrl ..
  | .receiveWriteAccept .. | .receiveEndCommit .. | .ackEnd .. | .nack .. | .ackTimerExpiry .. | .regWr ..
  | .sidebandRequest .. | .transition .. | .powerOnReset .. | .pinReset .. | .hostReset .. | .sagReset ..
  | .thermalReset .. | .corruptFlit .. => true
  | _ => false

/-- The commands that can change the window table. -/
def Sys2Proof.Instr.mayWindow : Instr → Bool
  | .registerWrite .. | .timerCalibrationDone .. | .entryStartAfterWait .. | .windowOpen .. | .windowOpenDone ..
  | .windowClose .. | .windowCloseDone .. | .windowCloseTimeout .. | .linkTrainingAttemptEnd .. | .head ..
  | .body .. | .esc .. | .endFlit .. | .abort .. | .receiveWriteAccept .. | .receiveEndCommit .. | .regWr ..
  | .sidebandRequest .. | .transition .. | .powerOnReset .. | .pinReset .. | .hostReset .. | .sagReset ..
  | .thermalReset .. | .corruptFlit .. => true
  | _ => false

/-- The commands that can change what the MC keeps. -/
def Sys2Proof.Instr.mayMc : Instr → Bool
  | .registerWrite .. | .mcConfigWrite .. | .calNow .. | .calIntervalExpiry .. | .timerCalibrationDone ..
  | .powerLoopPeriod .. | .vcoreBelowVwarn .. | .sagWarnEntry .. | .vcoreAboveVwarn .. | .sagWarnExit ..
  | .refoscMonitorWindow .. | .refoscReturn .. | .regulatorSilent .. | .regulatorAnswersAgain .. | .groupOpen ..
  | .streamRingFetch .. | .tileLoadHandshake .. | .flightStage .. | .tread .. | .flightEndAdd ..
  | .samplingFlight .. | .drainStart .. | .galleryMemoryAccess .. | .memOpFill .. | .memOpCopy .. | .winWordRead ..
  | .galleryRowRetire .. | .hallCacheAccess .. | .wayDisableWrite .. | .dramLaneRepair .. | .dramRowSpare ..
  | .dramRowSpareDone .. | .dieRetire .. | .migrationDone .. | .regRd .. | .regWr .. | .cpl .. | .cplTimeout ..
  | .ucieRetrainDone .. | .sidebandRequest .. | .treadWatchdogExpiry .. | .swap .. | .hallRetireDone ..
  | .autoRepair .. | .load .. | .imageVerifyDone .. | .switch .. | .revert .. | .fwSwitchBegin .. | .fwReady ..
  | .fwReadyTimeout .. | .transition .. | .eraseRecord .. | .sebCommandDone .. | .powerOnReset .. | .pinReset ..
  | .hostReset .. | .sagReset .. | .thermalReset .. | .bootDone .. | .mcInitDone .. | .trainDone .. | .wipeDone ..
    => true
  | _ => false

/-- The commands that can change what the SEB keeps. -/
def Sys2Proof.Instr.maySeb : Instr → Bool
  | .registerWrite .. | .regWr .. | .sidebandRequest .. | .imageVerifyDone .. | .fwReady .. | .challenge ..
  | .attest .. | .transition .. | .commitSvn .. | .eraseRecord .. | .writeCert .. | .sebCommandDone ..
  | .powerOnReset .. | .pinReset .. | .hostReset .. | .sagReset .. | .thermalReset .. | .bootDone .. => true
  | _ => false

/-- The commands that can change whether the device is held in reset, its straps and its thermal trips. -/
def Sys2Proof.Instr.mayHold : Instr → Bool
  | .registerWrite .. | .regWr .. | .sidebandRequest .. | .transition .. | .powerOnReset .. | .pinReset ..
  | .hostReset .. | .sagReset .. | .thermalReset .. | .resetRelease .. => true
  | _ => false

/-- The commands that can change the JTAG port. -/
def Sys2Proof.Instr.mayJtag : Instr → Bool
  | .registerWrite .. | .regWr .. | .sidebandRequest .. | .transition .. | .powerOnReset .. | .pinReset ..
  | .hostReset .. | .sagReset .. | .thermalReset .. | .jtagTapReset .. | .jtagInstructionUpdate ..
  | .mcDebugPortAccess .. => true
  | _ => false

/-- The commands that can change the table of the fault concentrator. -/
def Sys2Proof.Instr.mayReport : Instr → Bool
  | .registerWrite .. | .timerCalibrationDone .. | .kill .. | .killWithScrub .. | .entryReadDone ..
  | .entryStartAfterWait .. | .descriptorReadDone .. | .fence .. | .waitWordEvaluate .. | .writeWord ..
  | .signal .. | .fill .. | .copy .. | .flushWalkStep .. | .windowOpen .. | .windowOpenDone .. | .windowClose ..
  | .windowCloseDone .. | .windowCloseTimeout .. | .reduce .. | .jump .. | .halt .. | .entryComplete ..
  | .recordWriteFault .. | .issueBlockReadDone .. | .extentReadDone .. | .ticketGrant .. | .rowConversion ..
  | .statisticsAddBurst .. | .groupOpen .. | .preloadRowLoad .. | .tileRecordReceive .. | .streamRingFetch ..
  | .tileLoadHandshake .. | .shadowSwap .. | .flightStage .. | .tread .. | .flightEndAdd .. | .samplingFlight ..
  | .drainStart .. | .vectorTicketStart .. | .map .. | .dot .. | .softmax .. | .topk .. | .reduceSum ..
  | .reduceSplitk .. | .dressPanel .. | .galleryMemoryAccess .. | .memOpFill .. | .memOpCopy ..
  | .hallCacheAccess .. | .hallCacheFill .. | .wayWalkStep .. | .sectorAccess .. | .patrolStep ..
  | .dramRowSpare .. | .migrationDone .. | .linkTrainingAttemptEnd .. | .flitSend .. | .historyReadDone ..
  | .head .. | .body .. | .esc .. | .endFlit .. | .abort .. | .receiveWriteAccept .. | .receiveEndCommit ..
  | .regWr .. | .aptRd .. | .aptWr .. | .cpl .. | .credit .. | .cplTimeout .. | .ucieRetrainDone ..
  | .sidebandRequest .. | .treadWatchdogExpiry .. | .fcReport .. | .clearTable .. | .hallRetireFlush .. | .load ..
  | .imageVerifyDone .. | .attest .. | .transition .. | .writeCert .. | .sebCommandDone .. | .powerOnReset ..
  | .pinReset .. | .hostReset .. | .sagReset .. | .thermalReset .. | .wipeDone .. | .corruptFlit .. => true
  | _ => false

/-- The commands that can change a read latch or a write staging register. -/
def Sys2Proof.Instr.mayLatch : Instr → Bool
  | .registerWrite .. | .pairLowRead .. | .pairHighRead .. | .pairLowWrite .. | .pairHighWrite ..
  | .listPtrWrite .. | .mapWrite .. | .regRd .. | .regWr .. | .sidebandRequest .. | .transition ..
  | .powerOnReset .. | .pinReset .. | .hostReset .. | .sagReset .. | .thermalReset .. => true
  | _ => false

/-- The commands that can send or take something over a clocked boundary, and those that clear its counter. -/
def Sys2Proof.Instr.mayCross : Instr → Bool
  | .registerWrite .. | .pairLowWrite .. | .pairHighWrite .. | .stickyClear .. | .stickyMaskWrite ..
  | .controlEnableWrite .. | .counterClear .. | .faultLatchRelease .. | .mcConfigWrite .. | .calNow ..
  | .timerCalibrationDone .. | .powerLoopPeriod .. | .sagWarnEntry .. | .refoscMonitorWindow ..
  | .regulatorSilent .. | .start .. | .kill .. | .killWithScrub .. | .resume .. | .listPtrWrite .. | .entryFetch ..
  | .entryReadDone .. | .entryStartAfterWait .. | .job .. | .descriptorReadDone .. | .fence .. | .waitWord ..
  | .waitWordEvaluate .. | .waitTimeout .. | .writeWord .. | .signal .. | .fill .. | .copy .. | .flush ..
  | .flushWalkStep .. | .windowOpen .. | .windowOpenDone .. | .windowClose .. | .windowCloseDone ..
  | .windowCloseTimeout .. | .reduce .. | .jump .. | .halt .. | .badOpcode .. | .entryComplete ..
  | .recordWriteFault .. | .killDone .. | .jobIssue .. | .issueBlockReadDone .. | .extentReadDone ..
  | .ticketGrant .. | .convertOnEntry .. | .rowConversion .. | .statisticsAddBurst .. | .groupOpen ..
  | .preloadRowLoad .. | .tileRecordReceive .. | .streamRingFetch .. | .tileLoadHandshake .. | .shadowSwap ..
  | .flightStage .. | .tread .. | .flightEndAdd .. | .deadlineTimerExpiry .. | .samplingFlight .. | .drainStart ..
  | .vectorTicketStart .. | .map .. | .dot .. | .softmax .. | .topk .. | .reduceSum .. | .reduceSplitk ..
  | .dressPanel .. | .groupCmdClose .. | .galleryMemoryAccess .. | .actSplitWrite .. | .memOpFill ..
  | .memOpCopy .. | .memOpDone .. | .winWordRead .. | .winWordWrite .. | .galleryRowRetire .. | .hallCacheAccess ..
  | .hallCacheFill .. | .wayDisableWrite .. | .wayWalkStep .. | .sectorAccess .. | .patrolStep ..
  | .dramLaneRepair .. | .dramRowSpare .. | .dramRowSpareDone .. | .dieRetire .. | .migrationDone .. | .mapWrite ..
  | .linkRetrain .. | .linkTrainingAttemptEnd .. | .linkLockLoss .. | .fenzinLaneSpare .. | .flitSend ..
  | .historyReadDone .. | .replayTimerExpiry .. | .head .. | .body .. | .esc .. | .endFlit .. | .abort ..
  | .ctrl .. | .receiveWriteAccept .. | .receiveEndCommit .. | .ackEnd .. | .nack .. | .regRd .. | .regWr ..
  | .aptRd .. | .aptWr .. | .cpl .. | .credit .. | .unknownPacket .. | .hostRd .. | .cplTimeout ..
  | .vecCtrlWrite .. | .ucieModuleLoss .. | .ucieRetrainDone .. | .hifRetrain .. | .sidebandRequest ..
  | .treadWatchdogExpiry .. | .fcReport .. | .clearTable .. | .drain .. | .abandon .. | .swap ..
  | .galleryResume .. | .quiesceSet .. | .quiesceClear .. | .galleryScrub .. | .galleryQuiescent ..
  | .hallRetire .. | .hallRetireFlush .. | .hallRetireDone .. | .autoRepair .. | .load .. | .imageVerifyDone ..
  | .switch .. | .revert .. | .fwReady .. | .fwReadyTimeout .. | .challenge .. | .attest .. | .transition ..
  | .commitSvn .. | .eraseRecord .. | .writeCert .. | .sebCommandDone .. | .powerOnReset .. | .pinReset ..
  | .hostReset .. | .sagReset .. | .thermalReset .. | .bootDone .. | .mcInitDone .. | .trainDone .. | .wipeDone ..
  | .corruptFlit .. => true
  | _ => false

/-- A command that stores nothing leaves every byte of device memory, with its check symbols, as it was. -/
def Obligations.MemoryFrame : Prop :=
  ∀ (c : Instr) (s t : State), c.mayStore = false → exec c s = .next t →
    (∀ a, byteAt t.dram a = byteAt s.dram a) ∧ t.codes = s.codes

/-- What a command leaves alone among stairwells, the dispatcher, galleries and dressers. -/
def Obligations.WorkFrame : Prop :=
  ∀ (c : Instr) (s t : State), exec c s = .next t →
    (c.mayStair = false → t.stairs = s.stairs) ∧ (c.mayDispatch = false → t.disp = s.disp)
      ∧ (c.mayGallery = false → t.galleries = s.galleries) ∧ (c.mayDresser = false → t.dressers = s.dressers)

/-- What a command leaves alone among hall caches, stack controllers, links and windows, and the FIFO_HOLD counters of the
clocked boundaries. -/
def Obligations.DeviceFrame : Prop :=
  ∀ (c : Instr) (s t : State), exec c s = .next t →
    (c.mayCache = false → t.caches = s.caches) ∧ (c.mayStack = false → t.drams = s.drams)
      ∧ (c.mayLink = false → t.links = s.links) ∧ (c.mayWindow = false → t.windows = s.windows)
      ∧ (c.mayCross = false → t.fifoHolds = s.fifoHolds)

/-- What a command leaves alone among the management controller, the security block, the reset hold, the JTAG port and
the fault concentrator's table. -/
def Obligations.ServiceFrame : Prop :=
  ∀ (c : Instr) (s t : State), exec c s = .next t →
    (c.mayMc = false → t.mc = s.mc) ∧ (c.maySeb = false → t.seb = s.seb) ∧ (c.mayHold = false → t.rst = s.rst)
      ∧ (c.mayJtag = false → t.jtag = s.jtag) ∧ (c.mayReport = false → t.fc = s.fc)

/-- What a register command leaves alone: every register but the one it writes, and every other part of the device
(R7, R12, R382, R384, R387), where the lifecycle state permits the write. The commands named last change no register at
all. -/
def Obligations.RegisterFrame : Prop :=
  (∀ (c : Instr) (s t : State), c.mayLatch = false → exec c s = .next t →
    t.latches = s.latches ∧ t.staging = s.staging) ∧
  (∀ (page q : Page) (v : BitVec 32) (f : Fld) (a : Acc) (s t : State), (f, a) ∈ q.rows →
    statePermits s .mainband page = true → q ≠ page ∨ f ≠ Reg.hdr.STICKY → exec (.stickyClear page v 0) s = .next t →
    rd t q f = rd s q f ∧ t = { s with regs := t.regs }) ∧
  (∀ (page q : Page) (v : BitVec 32) (f : Fld) (a : Acc) (s t : State), (f, a) ∈ q.rows →
    statePermits s .mainband page = true → q ≠ page ∨ f ≠ Reg.hdr.STICKY_MASK page → exec (.stickyMaskWrite page v 0) s = .next t →
    rd t q f = rd s q f ∧ t = { s with regs := t.regs }) ∧
  (∀ (page q : Page) (e : Bool) (f : Fld) (a : Acc) (s t : State), (f, a) ∈ q.rows →
    statePermits s .mainband page = true → q ≠ page.home ∨ f ≠ Reg.hdr.CONTROL_ENABLE → exec (.controlEnableWrite page e 0) s = .next t →
    rd t q f = rd s q f ∧ t = { s with regs := t.regs }) ∧
  (∀ (page q : Page) (g f : Fld) (a : Acc) (s t : State), (f, a) ∈ q.rows → latchBit page = some g →
    statePermits s .mainband page = true → q ≠ page ∨ f ≠ g → exec (.faultLatchRelease ⟨page, false⟩) s = .next t →
    rd t q f = rd s q f ∧ t = { s with regs := t.regs }) ∧
  (∀ (page q : Page) (off : BitVec 12) (f : Fld) (a : Acc) (s t : State), (f, a) ∈ q.rows →
    statePermits s .mainband page = true → (q ≠ page ∨ ∀ c ∈ page.clears, c.1 = off.toNat → ∀ r ∈ c.2.2, f.off < r.1 ∨ r.2 < f.off) →
    exec (.counterClear page off []) s = .next t →
    rd t q f = rd s q f ∧ t = { s with regs := t.regs, fifoHolds := t.fifoHolds }) ∧
  (∀ (page q : Page) (off : BitVec 12) (s t : State), statePermits s .mainband page = true →
    (q.base ≠ page.base ∨ ∀ c ∈ page.clears, c.1 = off.toNat → ∀ r ∈ c.2.2, ∀ o, holdOff page = some o → o < r.1 ∨ r.2 < o) →
    exec (.counterClear page off []) s = .next t → fifoHold t q = fifoHold s q) ∧
  (∀ (path : Path) (page : Page) (off : BitVec 12) (e : Bool) (s t : State),
    exec (.rcFieldRead path page off e) s = .next t → t = { s with readWord := t.readWord }) ∧
  (∀ (path : Path) (page q : Page) (f : Fld) (a : Acc) (s t : State), (f, a) ∈ q.rows →
    q ≠ page ∨ f ≠ Reg.hdr.READBACK_SEL_INDEX → exec (.readbackDataRead path page) s = .next t →
    rd t q f = rd s q f ∧ t = { s with regs := t.regs, readWord := t.readWord }) ∧
  (∀ (path : Path) (page : Page) (off : BitVec 12) (s t : State),
    exec (.pairLowRead path page off) s = .next t ∨ exec (.pairHighRead path page off) s = .next t →
    t = { s with latches := t.latches, readWord := t.readWord }) ∧
  (∀ (c : Instr) (s t : State),
    c ∈ [Instr.jtagTapReset, .sidebandFailover, .fwSwitchBegin]
      ∨ (c = .calNow ∧ statePermits s .mainband .mcPower = true) ∨ (∃ x, c = .calIntervalExpiry x)
      ∨ (∃ x, c = .vcoreBelowVwarn x) ∨ (∃ x, c = .vcoreAboveVwarn x) ∨ (∃ x, c = .waitWordWake x)
      ∨ (∃ x, c = .waitWordPollTimer x) ∨ (∃ h g, c = .scrubFill h g) ∨ (∃ h g, c = .scrubFillDone h g)
      ∨ (∃ x, c = .ticketFetchRequest x) ∨ (∃ x, c = .unitFinish x) ∨ (∃ h g, c = .convert h g)
      ∨ (∃ x, c = .refreshWindow x) ∨ (∃ x, c = .resetRelease x) ∨ (∃ x, c = .jtagInstructionUpdate x)
      ∨ (∃ x, c = .retiredTagRelease x) ∨ (∃ x, c = .mcDebugPortAccess x) →
    exec c s = .next t → t.regs = s.regs)

/-- Counters saturate (R9), FIFO_HOLD among them (R27). -/
def Obligations.CountersSaturate : Prop :=
  (∀ (s : State) (p : Page) (f : Fld) (n : Nat), rd (count s p f n) p f = min (rd s p f + n) (2 ^ f.width - 1)) ∧
  (∀ (s : State) (p : Page) (n : Nat), fifoHold (countHold s p n) p = min (fifoHold s p + n) (2 ^ 32 - 1)
    ∧ ∃ k ≤ n, fifoHold (crossFifo s p n) p = min (fifoHold s p + k) (2 ^ 32 - 1)) ∧
  (∀ (type : BitVec 8) (units : Nat) (s : State), mainbandOpen s = true → packetTypes.contains type.toNat = false →
    rd s .hif Reg.hif.BAD_PACKETS = 2 ^ 32 - 1 →
    Completes (.unknownPacket type units) s fun t => rd t .hif Reg.hif.BAD_PACKETS = 2 ^ 32 - 1)

/-- No event is lost to a clear of a W1C bit (R8) or of a counter, and a clear disturbs no read of a pair (R85). No
register table names an RC field. -/
def Obligations.NoEventIsLostToAClear : Prop :=
  (∀ (page : Page) (v hw : BitVec 32) (b : Nat) (s : State), s.rst.held = false → b < 32 →
    bit page.stickyBits b = true → bit hw.toNat b = true →
    Completes (.stickyClear page v hw) s fun t => sticky t page b = true) ∧
  (∀ (path : Path) (page : Page) (off : BitVec 12) (v hw : BitVec 32) (f : Fld) (s : State), s.rst.held = false →
    off ≠ 0x018 → f ∈ w1cFields page off.toNat → f.width = 1 → bit hw.toNat f.lsb = true →
    Completes (.registerWrite path page off ⟨v, hw, none⟩) s fun t => rd t (homeAt page off.toNat) f = 1) ∧
  (∀ (page : Page) (f : Fld) (s : State), latchBit page = some f → s.rst.held = false →
    Completes (.faultLatchRelease ⟨page, true⟩) s fun t => rd t page f = 1) ∧
  (∀ (page : Page) (off e : BitVec 12) (n : Nat) (rs : List (Nat × Nat)) (f : Fld) (a : Acc) (r : Nat × Nat) (s : State),
    Reaches s .mainband page off.toNat →
    page.clears.find? (fun c => c.1 == off.toNat) = some (off.toNat, n, rs) → r ∈ rs →
    page.rows.find? (fun x => x.1.off == e.toNat) = some (f, a) → r.1 ≤ e.toNat → e.toNat ≤ r.2 →
    Completes (.counterClear page off [e]) s fun t => rd t page f = 1) ∧
  (∀ (path : Path) (page : Page) (off ctl : BitVec 12) (f : Fld) (a : Acc) (w : Nat) (s : State), 4 ≤ off.toNat →
    storedPair page (off.toNat - 4) = some (f, a) → NatMap.get? s.latches (pairKey path page f) = some w →
    Completes (.counterClear page ctl []) s fun u =>
      Completes (.pairHighRead path page off) u fun t => NatMap.get? t.readWord (pathNum path) = some (w % 2 ^ 32))

/-- The halves of a 64-bit quantity (R12). -/
def Obligations.PairsFollowTheirRule : Prop :=
  (∀ (path : Path) (page : Page) (off : BitVec 12) (f : Fld) (v : Nat) (s : State),
    pairAt s page off.toNat = some (f, v) →
    Completes (.pairLowRead path page off) s fun t =>
      NatMap.get? t.readWord (pathNum path) = some (v % 2 ^ 32)
        ∧ NatMap.get? t.latches (pairKey path page f) = some (v / 2 ^ 32)
        ∧ (∀ k, k ≠ pairKey path page f → NatMap.get? t.latches k = NatMap.get? s.latches k)
        ∧ t.staging = s.staging ∧ t.regs = s.regs) ∧
  (∀ (path : Path) (page : Page) (off : BitVec 12) (f : Fld) (v : Nat) (s : State), 4 ≤ off.toNat →
    pairAt s page (off.toNat - 4) = some (f, v) →
    Completes (.pairHighRead path page off) s fun t =>
      NatMap.get? t.readWord (pathNum path)
          = some ((NatMap.get? s.latches (pairKey path page f)).getD (v / 2 ^ 32) % 2 ^ 32)
        ∧ NatMap.get? t.latches (pairKey path page f) = none
        ∧ (∀ k, k ≠ pairKey path page f → NatMap.get? t.latches k = NatMap.get? s.latches k)
        ∧ t.staging = s.staging ∧ t.regs = s.regs) ∧
  (∀ (path : Path) (page : Page) (off : BitVec 12) (f : Fld) (v : BitVec 32) (s : State),
    Reaches s path page off.toNat →
    storedPair page off.toNat = some (f, .rw) →
    Completes (.pairLowWrite path page off v) s fun t =>
      NatMap.get? t.staging (pairKey path page f) = some v.toNat
        ∧ (∀ k, k ≠ pairKey path page f → NatMap.get? t.staging k = NatMap.get? s.staging k)
        ∧ t.latches = s.latches ∧ t.regs = s.regs) ∧
  (∀ (path : Path) (page : Page) (off : BitVec 12) (f : Fld) (v : BitVec 32) (s : State),
    Reaches s path page off.toNat → 4 ≤ off.toNat →
    storedPair page (off.toNat - 4) = some (f, .rw) →
    (∀ i, page = .stairwell i → f = Reg.sw.LIST_PTR → (stair s i).state = .idle ∨ (stair s i).state = .faulted) →
    (page = .memMap → mapIdle s = true ∧ mapLegal (commitPair s path .memMap Reg.mm.MAP v.toNat).1 = true) →
    Completes (.pairHighWrite path page off v) s fun t =>
      rd t page f = pairBits page f ((v.toNat * 2 ^ 32
          + (NatMap.get? s.staging (pairKey path page f)).getD (rd s page f % 2 ^ 32)) % 2 ^ 64)
        ∧ NatMap.get? t.staging (pairKey path page f) = none
        ∧ (∀ k, k ≠ pairKey path page f → NatMap.get? t.staging k = NatMap.get? s.staging k)
        ∧ t.latches = s.latches) ∧
  (∀ (path path' : Path) (p p' : Page) (off off' v v' : Nat) (f f' : Fld) (s : State), off < 4096 → off' < 4096 →
    pairAt s p off = some (f, v) → pairAt s p' off' = some (f', v') → pairKey path p f = pairKey path' p' f' →
    path = path' ∧ p = p' ∧ off = off') ∧
  (∀ (also : List ResetCause) (h : Fin 16) (ns : Nat) (accepted : Bool) (v : BitVec 32) (s : State),
    Completes .powerOnReset s (fun t => t.latches = [] ∧ t.staging = [])
      ∧ Completes .sagReset s (fun t => t.latches = [] ∧ t.staging = [])
      ∧ Completes (.thermalReset ⟨h, also⟩) s (fun t => t.latches = [] ∧ t.staging = [])
      ∧ (pinTakes ns accepted = true ∨ also ≠ [] →
        Completes (.pinReset ns ⟨accepted, also⟩) s fun t => t.latches = [] ∧ t.staging = [])
      ∧ ((Reaches s .mainband .reset 0x04C ∧ v.toNat % 2 ^ 16 = 0x5A17) ∨ also ≠ [] →
        Completes (.hostReset ⟨v, also⟩) s fun t => t.latches = [] ∧ t.staging = [])) ∧
  (∀ (path : Path) (target : BitVec 3) (also : List ResetCause) (s t : State),
    exec (.transition path ⟨target, also⟩) s = .next t → t.seb.state ≠ s.seb.state →
    t.latches = [] ∧ t.staging = [])

/-- The FC's alarm (R335). -/
def Obligations.FirstErrorIsTheOneAlarm : Prop :=
  (∀ (r : Report) (s : State), s.fc = [] →
    Completes (.fcReport [r]) s fun t => t.fc.length = 1 ∧ sticky t .fc Sticky.fc.FIRST_ERROR = true) ∧
  (∀ (r : Report) (s : State), s.fc ≠ [] → s.fc.length < 512 →
    Completes (.fcReport [r]) s fun t => t = { s with fc := t.fc } ∧ t.fc ≠ []) ∧
  (∀ (r : Report) (s : State), s.fc ≠ [] →
    Completes (.fcReport [r]) s fun t =>
      sticky t .fc Sticky.fc.FIRST_ERROR = sticky s .fc Sticky.fc.FIRST_ERROR) ∧
  (∀ s : State, Reaches s .mainband .fc 0x044 → Completes (.clearTable []) s fun t =>
    t.fc = [] ∧ rd t .fc Reg.fc.OVERFLOW_REPORTS = 0
      ∧ sticky t .fc Sticky.fc.FIRST_ERROR = sticky s .fc Sticky.fc.FIRST_ERROR) ∧
  (∀ (r : Report) (s : State), Reaches s .mainband .fc 0x044 → Completes (.clearTable [r]) s fun t =>
    t.fc = [{ source := r.source.toNat, code := r.code.toNat, detail := r.detail.toNat, dups := 0 }]
      ∧ rd t .fc Reg.fc.OVERFLOW_REPORTS = 0 ∧ sticky t .fc Sticky.fc.FIRST_ERROR = true)

/-- The operands of a LOAD name an image that can be read from host memory (R354, R355, R403). -/
def Sys2Proof.LoadsFromHost (s : State) : Prop :=
  isHost (rd s .mcService Reg.mcs.FW_ADDR) = true ∧ rd s .mcService Reg.mcs.FW_ADDR % 64 = 0
    ∧ cmdWithin (rd s .mcService Reg.mcs.FW_ADDR) (rd s .mcService Reg.mcs.FW_LEN) = true
    ∧ rd s .mcService Reg.mcs.FW_LEN % 64 = 0 ∧ 64 ≤ rd s .mcService Reg.mcs.FW_LEN
    ∧ rd s .mcService Reg.mcs.FW_LEN ≤ 4194304

/-- What the SEB does with a command that comes while it is busy or while the firmware is exchanged, and what becomes of
the LOAD and SWITCH commands that waited once it is idle: at the end of a command, and at the end of a LOAD whose image
passed or failed (R343, R360). That a LOAD written while the firmware is exchanged is refused, that several held commands
start in the order of their writing, and that BUSY of a LOAD ends with its verdict, whereupon they start, is the model's
choice (assumptions 27 and 85). -/
def Obligations.BusySebTurnsCommandsAway : Prop :=
  (∀ (path : Path) (c : Instr) (s : State),
    (path = .mainband ∧ c ∈ [Instr.attest, .commitSvn, .eraseRecord, .writeCert]) ∨ (∃ x, c = .transition path ⟨x, []⟩) →
    Reaches s path .seb 0x044 → (sebBusy s = true ∨ s.mc.switching ≠ 0) →
    Completes c s fun t => rd t .seb Reg.hdr.STATE_ERR = 1 ∧ t = { s with regs := t.regs }) ∧
  (∀ s : State, Reaches s .mainband .mcService 0x054 → sebBusy s = true →
    Completes .load s (fun t => t = { s with mc := { s.mc with held := s.mc.held ++ [1] } })
      ∧ Completes .switch s fun t => t = { s with mc := { s.mc with held := s.mc.held ++ [2] } }) ∧
  (∀ (r : SebRun) (rest : List Nat) (s : State), s.seb.run = some r → s.mc.load = none → s.mc.held = 2 :: rest →
    s.mc.switching = 0 → (inactive s).valid = true → s.mc.repairing = none →
    Completes .sebCommandDone s fun t =>
      t.mc.held = [] ∧ t.mc.switching = 1 ∧ (rest ≠ [] → rd t .mcService Reg.hdr.STATE_ERR = 1)) ∧
  (∀ (r : SebRun) (rest : List Nat) (s : State), s.seb.run = some r → s.mc.load = none → s.mc.held = 1 :: rest →
    s.mc.switching = 0 → LoadsFromHost s →
    Completes .sebCommandDone s fun t => t.mc.held = rest ∧ t.mc.load.isSome = true ∧ sebBusy t = true) ∧
  (∀ (x : FwLoad) (rest : List Nat) (s : State), s.seb.run = none → s.mc.load = some x → x.len ≤ x.got →
    inRecovery s = false → imageVerdict s { bytes := x.bytes, len := x.len, valid := true } = 0 →
    s.mc.held = 2 :: rest → s.mc.switching = 0 → s.mc.repairing = none →
    Completes .imageVerifyDone s fun t => t.mc.held = [] ∧ t.mc.switching = 1) ∧
  (∀ (x : FwLoad) (rest : List Nat) (s : State), s.seb.run = none → s.mc.load = some x → x.len ≤ x.got →
    s.mc.held = 1 :: rest → s.mc.switching = 0 → LoadsFromHost s →
    Completes .imageVerifyDone s fun t => t.mc.held = rest ∧ t.mc.load.isSome = true ∧ sebBusy t = true) ∧
  (∀ (x : FwLoad) (s : State), s.seb.run = none → s.mc.load = some x → x.len ≤ x.got →
    imageVerdict s { bytes := x.bytes, len := x.len, valid := true } ≠ 0 → s.mc.held = [2] → s.mc.switching = 0 →
    Completes .imageVerifyDone s fun t =>
      t.mc.held = [] ∧ t.mc.switching = 0 ∧ rd t .mcService Reg.hdr.STATE_ERR = 1)

/-- The path, page, word and value of a command that is a host's write and no more. -/
def Sys2Proof.hostWrite : Instr → Option (Path × Page × Nat × Nat)
  | .registerWrite path p off ⟨v, hw, none⟩ => if hw = 0 then some (path, p, off.toNat, v.toNat) else none
  | .pairLowWrite path p off v => some (path, p, off.toNat, v.toNat)
  | .pairHighWrite path p off v => if off.toNat < 4 then none else some (path, p, off.toNat, v.toNat)
  | .stickyClear p v hw => if hw = 0 then some (.mainband, p, 0x018, v.toNat) else none
  | .stickyMaskWrite p v hw => if hw = 0 then some (.mainband, p, 0x01C, v.toNat) else none
  | .controlEnableWrite p e hw => if hw = 0 then some (.mainband, p, 0x00C, e.toNat) else none
  | .counterClear p off [] => some (.mainband, p, off.toNat, clearWord p off.toNat)
  | .faultLatchRelease ⟨p, false⟩ => (latchBit p).map fun f => (.mainband, p, f.off, 2 ^ f.lsb)
  | .mcConfigWrite off v => some (.mainband, .mcPower, off.toNat, v.toNat)
  | .calNow => some (.mainband, .mcPower, 0x060, 2 ^ 31)
  | .start i => some (.mainband, .stairwell i, 0x050, 1)
  | .kill i => some (.mainband, .stairwell i, 0x050, 2)
  | .killWithScrub i => some (.mainband, .stairwell i, 0x050, 6)
  | .resume i => some (.mainband, .stairwell i, 0x050, 3)
  | .listPtrWrite i path hi => some (path, .stairwell i, Reg.sw.LIST_PTR.off + 4, hi.toNat)
  | .mapWrite path hi => some (path, .memMap, Reg.mm.MAP.off + 4, hi.toNat)
  | .dieRetire h v => some (.mainband, .stack h, 0x08C, v.toNat)
  | .wayDisableWrite h v => some (.mainband, .hallCache h, Reg.hc.WAY_DISABLE.off, v.toNat)
  | .actSplitWrite h g v => some (.mainband, .mems h g, 0x040, v.toNat)
  | .memOpFill h g m => some (.mainband, .mems h g, 0x050, m.toNat + 4)
  | .memOpCopy h g m => some (.mainband, .mems h g, 0x050, m.toNat + 8)
  | .winWordWrite h g i v => some (.mainband, .mems h g, 0x800 + 4 * i, v.toNat)
  | .groupCmdClose h g i => some (.mainband, .array h g, 0x08C, i + 2 ^ 4)
  | .drain h g => some (.mainband, .hall h, 0x048, g + 1 * 2 ^ 5)
  | .abandon h g => some (.mainband, .hall h, 0x048, g + 2 * 2 ^ 5)
  | .swap h g t => some (.mainband, .hall h, 0x048, g + 3 * 2 ^ 5 + t * 2 ^ 8)
  | .galleryResume h g => some (.mainband, .hall h, 0x048, g + 4 * 2 ^ 5)
  | .hallRetire h => some (.mainband, .hall h, 0x044, 1)
  | .quiesceSet h g => some (.mainband, .array h g, 0x00C, 3)
  | .quiesceClear h g => some (.mainband, .array h g, 0x00C, 1)
  | .galleryScrub h g => some (.mainband, .array h g, 0x00C, 5)
  | .linkRetrain l => some (.mainband, .link l, Reg.lnk.TRAIN_EN.off, 2)
  | .clearTable [] => some (.mainband, .fc, 0x044, 1)
  | .load => some (.mainband, .mcService, 0x054, 1)
  | .switch => some (.mainband, .mcService, 0x054, 2)
  | .revert => some (.mainband, .mcService, 0x054, 3)
  | .challenge => some (.mainband, .seb, 0x044, 1)
  | .attest => some (.mainband, .seb, 0x044, 2)
  | .transition path ⟨_, []⟩ => some (path, .seb, 0x044, 3)
  | .commitSvn => some (.mainband, .seb, 0x044, 4)
  | .eraseRecord => some (.mainband, .seb, 0x044, 5)
  | .writeCert => some (.mainband, .seb, 0x044, 6)
  | .hostReset ⟨v, []⟩ => some (.mainband, .reset, 0x04C, v.toNat)
  | _ => none

/-- A write is a START of a stairwell. -/
def Sys2Proof.StartsList (p : Page) (off word : Nat) : Prop := ∃ i, p = .stairwell i ∧ off = 0x050 ∧ bits word 0 2 = 1

/-- Registers but those of two pages are as they were, and so is every other part of the device, but for what a signal to the
host may add, and its crossing to the host. -/
def Sys2Proof.OnlyRegisters (s t : State) (gone : Page → Fld → Prop) : Prop :=
  t = { s with regs := t.regs, hif := t.hif, fifoHolds := t.fifoHolds, drawn := t.drawn }
    ∧ (∀ q : Page, q ≠ .hif → fifoHold t q = fifoHold s q)
    ∧ ∀ (q : Page) (f : Fld) (a : Acc), (f, a) ∈ q.rows → q ≠ .hif → ¬ gone q f → rd t q f = rd s q f

/-- Host accesses before READY, in recovery, and those that the lifecycle state does not permit: each command that is a
host's write is refused as the rules say, and changes nothing but what they name (R355, R363, R371). That a host's write to a device that is
held in reset changes nothing is the model's reading (assumption 36). -/
def Obligations.AccessBeforeReady : Prop :=
  (∀ (tag : BitVec 10) (addr : BitVec 64) (s : State), ready s = false → InCredit s 0 1 4 →
    regLegal addr.toNat 4 = true →
    Completes (.regRd tag addr 4) s fun t =>
      Leaves t (.cpl tag.toNat 0 4 (some (readSpace (requestArrived s 0 1 1) .mainband addr.toNat).2))) ∧
  (∀ (path : Path) (p : Page) (off word : Nat) (s : State), ready s = false → statePermits s path p = true →
    (p = .hif ∨ p = .reset) → writeReg s path p off word = (writeWord s path p off word, true)) ∧
  (∀ (path : Path) (p : Page) (off word : Nat) (s : State), ready s = false → inRecovery s = true →
    statePermits s path p = true →
    (p = .seb ∨ p = .mcService ∧ off ∈ [0x054, 0x058, 0x05C, 0x060]) →
    writeReg s path p off word = (writeWord s path p off word, true)) ∧
  (∀ (tag : BitVec 10) (addr : BitVec 64) (v : BitVec 32) (p : Page) (s : State), ready s = false →
    inRecovery s = false → InCredit s 0 1 4 → regLegal addr.toNat 4 = true → pageAt addr.toNat = some p →
    p ≠ .hif → p ≠ .reset → statePermits s .mainband p = true →
    Completes (.regWr tag addr 4 v) s fun t =>
      Leaves t (.cpl tag.toNat 2 1 none) ∧ (∀ q f a, (f, a) ∈ q.rows → q ≠ .hif → rd t q f = rd s q f)
        ∧ t = { s with regs := t.regs, hif := t.hif, fifoHolds := t.fifoHolds, drawn := t.drawn }) ∧
  (∀ (addr : BitVec 64) (v : BitVec 32) (p : Page) (s : State), ready s = false →
    inRecovery s = false → sidebandOpen s = true → regLegal addr.toNat 4 = true → pageAt addr.toNat = some p →
    p ≠ .hif → p ≠ .reset → statePermits s .sideband p = true →
    Completes (.sidebandRequest addr ⟨.write v, false, none⟩) s fun t =>
      t = { s with hif := { s.hif with sideband := .error :: s.hif.sideband } }) ∧
  (∀ (tag : BitVec 10) (addr : BitVec 64) (len : Nat) (s : State), ready s = false → InCredit s 0 1 len →
    Completes (.aptRd tag addr len) s fun t => Leaves t (.cpl tag.toNat 1 len none)) ∧
  (∀ (addr : BitVec 64) (len v : Nat) (s : State), ready s = false → InCredit s (ceilDiv (32 + len) 128) 0 len →
    Completes (.aptWr addr len v) s fun t => Advanced s t .hif Reg.hif.UR_DISCARDS ∧ t.dram = s.dram) ∧
  (∀ (tag : BitVec 10) (addr : BitVec 64) (v : BitVec 32) (p : Page) (s : State), InCredit s 0 1 4 →
    regLegal addr.toNat 4 = true → pageAt addr.toNat = some p → permits s .mainband p (addr.toNat % 4096) = false →
    Completes (.regWr tag addr 4 v) s fun t => Leaves t (.cpl tag.toNat 2 1 none)) ∧
  (∀ (addr : BitVec 64) (v : BitVec 32) (p : Page) (s : State), sidebandOpen s = true → regLegal addr.toNat 4 = true →
    pageAt addr.toNat = some p → permits s .sideband p (addr.toNat % 4096) = false →
    Completes (.sidebandRequest addr ⟨.write v, false, none⟩) s fun t =>
      t.hif.sideband = .error :: s.hif.sideband ∧ t.stairs = s.stairs ∧ t.mc = s.mc ∧ t.seb = s.seb ∧ t.dram = s.dram) ∧
  (∀ (c : Instr) (path : Path) (p : Page) (off word : Nat) (s : State), hostWrite c = some (path, p, off, word) →
    s.rst.held = true → Completes c s fun t => t = s) ∧
  (∀ (c : Instr) (path : Path) (p : Page) (off word : Nat) (s : State), hostWrite c = some (path, p, off, word) →
    ready s = false → s.rst.held = false → statePermits s path p = true → p ≠ .hif → p ≠ .reset →
    (inRecovery s = true → p ≠ .seb ∧ (p = .mcService → off ∉ [0x054, 0x058, 0x05C, 0x060])) →
    (inRecovery s = true → ¬ StartsList p off word) →
    Completes c s fun t => t = s) ∧
  (∀ (c : Instr) (path : Path) (p : Page) (off word : Nat) (s : State), hostWrite c = some (path, p, off, word) →
    ready s = false → statePermits s path p = true → inRecovery s = true → StartsList p off word →
    Completes c s fun t => rd t p Reg.hdr.STATE_ERR = 1
      ∧ OnlyRegisters s t (fun q f => q = p ∧ f = Reg.hdr.STATE_ERR) ∧ t.hif = s.hif
      ∧ t.fifoHolds = s.fifoHolds) ∧
  (∀ (c : Instr) (path : Path) (p : Page) (off word : Nat) (s : State), hostWrite c = some (path, p, off, word) →
    s.rst.held = false → statePermits s path p = false →
    Completes c s fun t =>
      Advanced s t .seb Reg.seb.DENIED_WRITES ∧ sticky t .seb Sticky.seb.ACCESS_DENIED = true
        ∧ OnlyRegisters s t (fun q f => (q = .seb ∧ (f = Reg.seb.DENIED_WRITES ∨ f = Reg.hdr.STICKY))
          ∨ (StartsList p off word ∧ q = p ∧ f = Reg.hdr.STATE_ERR))
        ∧ (StartsList p off word → s.seb.state = 4 → rd t p Reg.hdr.STATE_ERR = 1)) ∧
  (∀ (addr : BitVec 64) (s : State), ready s = false → sidebandOpen s = true → regLegal addr.toNat 4 = true →
    Completes (.sidebandRequest addr ⟨.read, false, none⟩) s fun t =>
      t.hif.sideband = .data ((readSpace s .sideband addr.toNat).2 % 2 ^ 32) :: s.hif.sideband)

/-- Where the pages lie, and what an address without a page does (R10, R379, R380). -/
def Obligations.PagesLieAsMapped : Prop :=
  (∀ (p : Page) (off : Nat), off < 4096 → pageAt (p.base + off) = some p) ∧
  (∀ (a : Nat) (p : Page), pageAt a = some p → p.base = a / 4096 * 4096) ∧
  (Page.base .mcPower = 0 ∧ Page.base .dispatcher = 0x1000 ∧ Page.base .memMap = 0x2000 ∧ Page.base .hif = 0x3000
    ∧ Page.base .window = 0x4000 ∧ Page.base .seb = 0x5000 ∧ Page.base .mcService = 0x6000 ∧ Page.base .fc = 0x7000
    ∧ Page.base .reset = 0x8000) ∧
  (∀ i : Fin 16, Page.base (.stairwell i) = 0x100000 + i.val * 0x1000) ∧
  (∀ l : Fin 8, Page.base (.link l) = 0x200000 + l.val * 0x1000) ∧
  (∀ h : Fin 16, Page.base (.hall h) = 0x1000000 + h.val * 0x100000
    ∧ Page.base (.hallCache h) = 0x1000000 + h.val * 0x100000 + 0x1000
    ∧ Page.base (.stack h) = 0x1000000 + h.val * 0x100000 + 0x2000
    ∧ Page.base (.dresser h) = 0x1000000 + h.val * 0x100000 + 0x3000) ∧
  (∀ (h : Fin 16) (g : Fin 17), Page.base (.array h g) = 0x1000000 + h.val * 0x100000 + 0x10000 + g.val * 0x4000
    ∧ Page.base (.ve h g) = Page.base (.array h g) + 0x1000 ∧ Page.base (.qu h g) = Page.base (.array h g) + 0x2000
    ∧ Page.base (.mems h g) = Page.base (.array h g) + 0x3000) ∧
  (∀ (path : Path) (a w : Nat) (s : State), pageAt a = none →
    readSpace s path a = (s, 0) ∧ (writeSpace s path a w).1 = s)

/-- The four pages of a gallery show one STATUS and one CONTROL, and have the rest of their headers for themselves
(R383). -/
def Obligations.GalleryPagesShareStatusAndControl : Prop :=
  (∀ (h : Fin 16) (g : Fin 17) (p : Page) (off : Nat) (s : State), p ∈ [Page.ve h g, .qu h g, .mems h g] →
    off = 0x008 ∨ off = 0x00C → liveWord s p off = liveWord s (.array h g) off) ∧
  (∀ (path : Path) (h : Fin 16) (g : Fin 17) (p : Page) (off : BitVec 12) (v : BitVec 32) (s : State),
    p ∈ [Page.ve h g, .qu h g, .mems h g] → off.toNat = 0x008 ∨ off.toNat = 0x00C →
    exec (.registerWrite path p off ⟨v, 0, none⟩) s = exec (.registerWrite path (.array h g) off ⟨v, 0, none⟩) s) ∧
  (∀ (h : Fin 16) (g : Fin 17) (p q : Page) (f : Fld) (v : Nat) (s : State),
    p ∈ [Page.array h g, .ve h g, .qu h g, .mems h g] → q ∈ [Page.array h g, .ve h g, .qu h g, .mems h g] → p ≠ q →
    f ∈ [Reg.hdr.FAULT_CODE, Reg.hdr.FAULT_COUNT, Reg.hdr.STICKY, Reg.hdr.STICKY_MASK p, Reg.hdr.READBACK_SEL_INDEX,
      Reg.hdr.READBACK_SEL_SPACE, Reg.hdr.AUTO_INC] →
    rd (wr s p f v) q f = rd s q f)

/-- The accumulators after a list of treads. -/
def Sys2Proof.treadsRun (r : TileReg) (f : Flight) (ts : List (Nat × Nat)) : List Int :=
  ts.foldl (fun acc ij => treadAdd r { f with acc := acc } ij) f.acc

/-- A byte of device memory at a device address, where its stack and die keep it. -/
def Sys2Proof.cellAt (s : State) (a : Nat) : Nat := cellOf s (place s a).1 (place s a).2

/-- Every byte of a range lies in an installed die, in a sector without poison or changed symbols. -/
def Sys2Proof.CleanRange (s : State) (a n : Nat) : Prop :=
  ∀ i < n, present s (a + i) = true ∧ codeOf s (cellAt s (a + i)) = { poison := false, errors := [] }

/-- A NaN result is the canonical one, and INVALID is among its flags (R63, R64). -/
def Sys2Proof.CanonicalNaN (r : FRes) : Prop := isNan32 r.1 = true → r.1 = 0x7FC00000 ∧ bit r.2 3 = true

/-- The lifecycle state moves only as *Lifecycle transitions* allows, and the fused security version never falls,
whatever the device does (R356, R357, R359). -/
def Obligations.LifecycleMovesLegally : Prop :=
  ∀ s t : State, step s = .next t →
    (t.seb.state = s.seb.state ∨ ∃ path, moveLegal path s.seb.state t.seb.state = true)
      ∧ s.seb.svnFused ≤ t.seb.svnFused

/-- In RETIRED there is no identity key and no certificate, and no step brings one back (R353, R359). -/
def Obligations.RetiredHoldsNoKey : Prop :=
  ∀ s t : State, (s.seb.state = 4 → s.seb.idKey = none ∧ s.seb.cert = none) → step s = .next t →
    (t.seb.state = 4 → t.seb.idKey = none ∧ t.seb.cert = none)

/-- The private key is not readable: two devices that differ in it alone answer every register read with the same
word (R353, R363). -/
def Obligations.PrivateKeyIsNotReadable : Prop :=
  ∀ (path : Path) (p : Page) (off m e d d' : Nat) (s : State), s.seb.idKey = some (m, e, d) →
    (readReg { s with seb := { s.seb with idKey := some (m, e, d') } } path p off).2 = (readReg s path p off).2

/-- The flight total of a column is the exact sum of code × weight over its lanes, in either mode, with the treads of
unset planes left out (R52, R53, R69, R70, R71, R72). -/
def Obligations.FlightTotalsAreExact : Prop :=
  (∀ (r : TileReg) (f : Flight) (m n c : Nat), 1 ≤ r.wa → r.wa ≤ 16 → 1 ≤ r.ww → r.ww ≤ 16 →
    (∀ p, ∀ q ∈ flightCodes f p, q < 2 ^ r.wa ∧ q &&& m = q) → f.acc = List.replicate n 0 → c < n →
    (treadsRun r f (treadList r.wa r.ww m)).getD c 0
      = columnSum r (flightCodes f) c fun q p k col => (q : Int) * weightAt r.ww p k col) ∧
  (∀ (r : TileReg) (f : Flight) (c : Nat), r.shape < 4 → r.wa ≤ 16 → 1 ≤ r.ww → r.ww ≤ 16 →
    (∀ p, ∀ q ∈ flightCodes f p, q < 2 ^ r.wa) →
    (columnSum r (flightCodes f) c fun q p k col => (q : Int) * weightAt r.ww p k col).natAbs < 2 ^ 40)

/-- The sector code corrects any one erroneous symbol and detects any two (R268). -/
def Obligations.SectorCodeCorrectsOneAndDetectsTwo : Prop :=
  (∀ i x : Nat, i < 36 → 0 < x → x < 256 → checkSector [(i, x)] = .fixed [] i x) ∧
  (∀ i j x y : Nat, i < j → j < 36 → 0 < x → x < 256 → 0 < y → y < 256 → checkSector [(i, x), (j, y)] = .bad)

/-- Every NaN that an operation of the vector engine makes is the canonical one and raises INVALID: the arithmetic, the
comparisons, the functions of MAP (IDENTITY passes its operand to the conversion), exp2, the sums and dot products in
either order, softmax, TOPK and the conversion to the destination format (R63, R64). -/
def Obligations.NaNsAreCanonical : Prop :=
  (∀ a b : Nat, ∀ r ∈ [fAdd a b, fSub a b, fMul a b, fMax a b, fMin a b], isNan32 r.1 = true → r = (0x7FC00000, 8)) ∧
  (∀ a b : Nat, isNan32 a = true ∨ isNan32 b = true →
    ∀ r ∈ [fAdd a b, fMul a b, fMax a b, fMin a b], r = (0x7FC00000, 8)) ∧
  (∀ a : Nat, ∀ f ∈ [fp32, bf16, fp16],
    (f.decode (narrow f a).1 = .nan ↔ fp32.decode a = .nan)
      ∧ (fp32.decode a = .nan → narrow f a = (f.nanBits, 8))) ∧
  (∀ a b : Nat, fp32.decode a = .inf false → fp32.decode b = .inf true → fAdd a b = (0x7FC00000, 8)) ∧
  (∀ (a b : Nat) (s t : Bool) (e : Int), fp32.decode a = .inf s → fp32.decode b = .fin t 0 e →
    fMul a b = (0x7FC00000, 8)) ∧
  (∀ func a b scalar : Nat, func ≠ 0 → CanonicalNaN (mapFunc func a b scalar)) ∧
  (∀ z : Nat, CanonicalNaN (exp2 z)) ∧
  (∀ (grouped : Bool) (xs ys : List Nat), CanonicalNaN (dotRow grouped xs ys)) ∧
  (∀ (grouped : Bool) (xs : List Nat), CanonicalNaN (sumSources grouped xs)) ∧
  (∀ (table : List Nat) (scalar : Nat) (logOut : Bool) (xs : List Nat),
    ∀ y ∈ (softmaxRow table scalar logOut xs).1, CanonicalNaN (y, (softmaxRow table scalar logOut xs).2.1)) ∧
  (∀ (smallest : Bool) (k : Nat) (xs : List Nat), ∀ e ∈ (topkRow smallest k xs).1,
    CanonicalNaN (e.1, (topkRow smallest k xs).2))

/-- A write of device memory reads back and changes no other byte (R264, R267, R270). The range lies in one 4 KiB
block, so that no map makes two of its bytes one. -/
def Obligations.MemoryWritesReadBack : Prop :=
  (∀ (who : Requester) (a n v : Nat) (s : State), 1 ≤ n → a % 4096 + n ≤ 4096 → CleanRange s a n →
    (memWrite s who a n v).2 = .ok 0
      ∧ (memRead (memWrite s who a n v).1 who a n).2 = .ok (v % 2 ^ (8 * n))
      ∧ (∀ i < n, byteAt (memWrite s who a n v).1.dram (cellAt s (a + i)) = BitVec.ofNat 8 (v / 256 ^ i))
      ∧ ∀ k, (∀ i < n, k ≠ cellAt s (a + i)) → byteAt (memWrite s who a n v).1.dram k = byteAt s.dram k) ∧
  (∀ (addr : BitVec 64) (n v : Nat) (s : State), InCredit s (ceilDiv (32 + n) 128) 0 n → ready s = true →
    apertureLegal addr.toNat n = true → CleanRange s addr.toNat n →
    Completes (.aptWr addr n v) s fun t =>
      (∀ i < n, byteAt t.dram (cellAt s (addr.toNat + i)) = BitVec.ofNat 8 (v / 256 ^ i))
        ∧ ∀ k, (∀ i < n, k ≠ cellAt s (addr.toNat + i)) → byteAt t.dram k = byteAt s.dram k)
end

