-- ==== Sys2Proof/Laws/Keeps.lean ====
section
/-! SUPPORT. What an operation can change. A property of states that is closed under changes of some
parts of the state survives every operation that changes those parts alone. One lemma per operation
(the other files Laws/Keeps<...>.lean) names the parts it can change; with the property "this part is as it
was" it says that the operation leaves every other part alone. -/

namespace Sys2Proof.Machine

/-- The parts of the state, and the few operations that write a part in a way of their own. -/
inductive Area where
  /-- one register field written -/
  | regs
  | latches | staging | readWord | fifoHolds
  /-- one sector of device memory written -/
  | sector
  | codes | stairs | disp | galleries | dressers | caches | drams | links | windows | hif | fc | mc
  | seb | rst | jtag | drawn
  /-- every part that a reset sets anew -/
  | reset
  /-- every part that the wipe clears -/
  | wipe
  /-- the sectors that a migration copies -/
  | migrate
  /-- device memory put back as it was before a write that failed -/
  | restore
  deriving DecidableEq, Repr

/-- A property that a change of one part cannot end. -/
def Allows (P : State → Prop) : Area → Prop
  | .regs => ∀ s p f v, P s → P (wr s p f v)
  | .latches => ∀ s x, P s → P { s with latches := x }
  | .staging => ∀ s x, P s → P { s with staging := x }
  | .readWord => ∀ s x, P s → P { s with readWord := x }
  | .fifoHolds => ∀ s x, P s → P { s with fifoHolds := x }
  | .sector => ∀ s c n v, P s → P { s with dram := putBytes s.dram c n v }
  | .codes => ∀ s x, P s → P { s with codes := x }
  | .stairs => ∀ s x, P s → P { s with stairs := x }
  | .disp => ∀ s x, P s → P { s with disp := x }
  | .galleries => ∀ s x, P s → P { s with galleries := x }
  | .dressers => ∀ s x, P s → P { s with dressers := x }
  | .caches => ∀ s x, P s → P { s with caches := x }
  | .drams => ∀ s x, P s → P { s with drams := x }
  | .links => ∀ s x, P s → P { s with links := x }
  | .windows => ∀ s x, P s → P { s with windows := x }
  | .hif => ∀ s x, P s → P { s with hif := x }
  | .fc => ∀ s x, P s → P { s with fc := x }
  | .mc => ∀ s x, P s → P { s with mc := x }
  | .seb => ∀ s x, P s → P { s with seb := x }
  | .rst => ∀ s x, P s → P { s with rst := x }
  | .jtag => ∀ s x, P s → P { s with jtag := x }
  | .drawn => ∀ s x, P s → P { s with drawn := x }
  | .reset => ∀ s c x, P s → P (enterReset s c x)
  | .wipe => ∀ s, P s → P (wipeAll s)
  | .migrate => ∀ s h old new ptr, P s → P (copyRest s h old new ptr)
  | .restore => ∀ s t, P s → P t → P { t with dram := s.dram, codes := s.codes }

/-- A property that changes of the listed parts cannot end. -/
def Closed (P : State → Prop) (F : List Area) : Prop := ∀ q ∈ F, Allows P q

theorem Closed.sub {P : State → Prop} {F G : List Area} (k : Closed P F) (h : ∀ q ∈ G, q ∈ F) : Closed P G :=
  fun q hq => k q (h q hq)

/-! The state with one part set, by name. -/

def withLatches (s : State) (x : NatMap Nat) : State := { s with latches := x }
theorem withLatches_eq (s : State) (x : NatMap Nat) : ({ s with latches := x } : State) = withLatches s x := rfl

def withStaging (s : State) (x : NatMap Nat) : State := { s with staging := x }
theorem withStaging_eq (s : State) (x : NatMap Nat) : ({ s with staging := x } : State) = withStaging s x := rfl

def withReadWord (s : State) (x : NatMap Nat) : State := { s with readWord := x }
theorem withReadWord_eq (s : State) (x : NatMap Nat) : ({ s with readWord := x } : State) = withReadWord s x := rfl

def withFifoHolds (s : State) (x : NatMap Nat) : State := { s with fifoHolds := x }
theorem withFifoHolds_eq (s : State) (x : NatMap Nat) : ({ s with fifoHolds := x } : State) = withFifoHolds s x := rfl

def withCodes (s : State) (x : NatMap SectorCode) : State := { s with codes := x }
theorem withCodes_eq (s : State) (x : NatMap SectorCode) : ({ s with codes := x } : State) = withCodes s x := rfl

def withStairs (s : State) (x : NatMap Stairwell) : State := { s with stairs := x }
theorem withStairs_eq (s : State) (x : NatMap Stairwell) : ({ s with stairs := x } : State) = withStairs s x := rfl

def withDisp (s : State) (x : Dispatcher) : State := { s with disp := x }
theorem withDisp_eq (s : State) (x : Dispatcher) : ({ s with disp := x } : State) = withDisp s x := rfl

def withGalleries (s : State) (x : NatMap Gallery) : State := { s with galleries := x }
theorem withGalleries_eq (s : State) (x : NatMap Gallery) : ({ s with galleries := x } : State) = withGalleries s x := rfl

def withDressers (s : State) (x : NatMap Ticket) : State := { s with dressers := x }
theorem withDressers_eq (s : State) (x : NatMap Ticket) : ({ s with dressers := x } : State) = withDressers s x := rfl

def withCaches (s : State) (x : NatMap HallCache) : State := { s with caches := x }
theorem withCaches_eq (s : State) (x : NatMap HallCache) : ({ s with caches := x } : State) = withCaches s x := rfl

def withDrams (s : State) (x : NatMap Stack) : State := { s with drams := x }
theorem withDrams_eq (s : State) (x : NatMap Stack) : ({ s with drams := x } : State) = withDrams s x := rfl

def withLinks (s : State) (x : NatMap Link) : State := { s with links := x }
theorem withLinks_eq (s : State) (x : NatMap Link) : ({ s with links := x } : State) = withLinks s x := rfl

def withWindows (s : State) (x : List Window) : State := { s with windows := x }
theorem withWindows_eq (s : State) (x : List Window) : ({ s with windows := x } : State) = withWindows s x := rfl

def withHif (s : State) (x : HostIf) : State := { s with hif := x }
theorem withHif_eq (s : State) (x : HostIf) : ({ s with hif := x } : State) = withHif s x := rfl

def withFc (s : State) (x : List FcEntry) : State := { s with fc := x }
theorem withFc_eq (s : State) (x : List FcEntry) : ({ s with fc := x } : State) = withFc s x := rfl

def withMc (s : State) (x : Mc) : State := { s with mc := x }
theorem withMc_eq (s : State) (x : Mc) : ({ s with mc := x } : State) = withMc s x := rfl

def withSeb (s : State) (x : Seb) : State := { s with seb := x }
theorem withSeb_eq (s : State) (x : Seb) : ({ s with seb := x } : State) = withSeb s x := rfl

def withRst (s : State) (x : Reset) : State := { s with rst := x }
theorem withRst_eq (s : State) (x : Reset) : ({ s with rst := x } : State) = withRst s x := rfl

def withJtag (s : State) (x : Jtag) : State := { s with jtag := x }
theorem withJtag_eq (s : State) (x : Jtag) : ({ s with jtag := x } : State) = withJtag s x := rfl

def withDrawn (s : State) (x : Nat) : State := { s with drawn := x }
theorem withDrawn_eq (s : State) (x : Nat) : ({ s with drawn := x } : State) = withDrawn s x := rfl

def withSector (s : State) (c n v : Nat) : State := { s with dram := putBytes s.dram c n v }
theorem withSector_eq (s : State) (c n v : Nat) :
    ({ s with dram := putBytes s.dram c n v } : State) = withSector s c n v := rfl

theorem withDisp_withGalleries_eq (s : State) (x : Dispatcher) (y : NatMap Gallery) :
    ({ s with disp := x, galleries := y } : State) = withDisp (withGalleries s y) x := rfl

theorem withDisp_withDressers_eq (s : State) (x : Dispatcher) (y : NatMap Ticket) :
    ({ s with disp := x, dressers := y } : State) = withDisp (withDressers s y) x := rfl

theorem withHif_withMc_eq (s : State) (x : HostIf) (y : Mc) :
    ({ s with hif := x, mc := y } : State) = withHif (withMc s y) x := rfl

theorem withMc_withSeb_eq (s : State) (x : Mc) (y : Seb) :
    ({ s with mc := x, seb := y } : State) = withMc (withSeb s y) x := rfl

theorem withSeb_withDrawn_eq (s : State) (x : Seb) (y : Nat) :
    ({ s with seb := x, drawn := y } : State) = withSeb (withDrawn s y) x := rfl

theorem withMc_withDrawn_eq (s : State) (x : Mc) (y : Nat) :
    ({ s with mc := x, drawn := y } : State) = withMc (withDrawn s y) x := rfl

theorem withJtag_withDrawn_eq (s : State) (x : Jtag) (y : Nat) :
    ({ s with jtag := x, drawn := y } : State) = withJtag (withDrawn s y) x := rfl

/-! One part at a time. -/

theorem Closed.regs {P : State → Prop} {F : List Area} (k : Closed P F) (m : .regs ∈ F) {s : State} {p : Page} {f : Fld} {v : Nat}
    (h : P s) : P (wr s p f v) := k .regs m _ _ _ _ h

theorem Closed.latches {P : State → Prop} {F : List Area} (k : Closed P F) (m : .latches ∈ F) {s : State} {x : NatMap Nat}
    (h : P s) : P (withLatches s x) := k .latches m _ _ h

theorem Closed.staging {P : State → Prop} {F : List Area} (k : Closed P F) (m : .staging ∈ F) {s : State} {x : NatMap Nat}
    (h : P s) : P (withStaging s x) := k .staging m _ _ h

theorem Closed.readWord {P : State → Prop} {F : List Area} (k : Closed P F) (m : .readWord ∈ F) {s : State} {x : NatMap Nat}
    (h : P s) : P (withReadWord s x) := k .readWord m _ _ h

theorem Closed.fifoHolds {P : State → Prop} {F : List Area} (k : Closed P F) (m : .fifoHolds ∈ F) {s : State} {x : NatMap Nat}
    (h : P s) : P (withFifoHolds s x) := k .fifoHolds m _ _ h

theorem Closed.sector {P : State → Prop} {F : List Area} (k : Closed P F) (m : .sector ∈ F) {s : State} {c n v : Nat}
    (h : P s) : P (withSector s c n v) := k .sector m _ _ _ _ h

theorem Closed.codes {P : State → Prop} {F : List Area} (k : Closed P F) (m : .codes ∈ F) {s : State} {x : NatMap SectorCode}
    (h : P s) : P (withCodes s x) := k .codes m _ _ h

theorem Closed.stairs {P : State → Prop} {F : List Area} (k : Closed P F) (m : .stairs ∈ F) {s : State} {x : NatMap Stairwell}
    (h : P s) : P (withStairs s x) := k .stairs m _ _ h

theorem Closed.disp {P : State → Prop} {F : List Area} (k : Closed P F) (m : .disp ∈ F) {s : State} {x : Dispatcher}
    (h : P s) : P (withDisp s x) := k .disp m _ _ h

theorem Closed.galleries {P : State → Prop} {F : List Area} (k : Closed P F) (m : .galleries ∈ F) {s : State} {x : NatMap Gallery}
    (h : P s) : P (withGalleries s x) := k .galleries m _ _ h

theorem Closed.dressers {P : State → Prop} {F : List Area} (k : Closed P F) (m : .dressers ∈ F) {s : State} {x : NatMap Ticket}
    (h : P s) : P (withDressers s x) := k .dressers m _ _ h

theorem Closed.caches {P : State → Prop} {F : List Area} (k : Closed P F) (m : .caches ∈ F) {s : State} {x : NatMap HallCache}
    (h : P s) : P (withCaches s x) := k .caches m _ _ h

theorem Closed.drams {P : State → Prop} {F : List Area} (k : Closed P F) (m : .drams ∈ F) {s : State} {x : NatMap Stack}
    (h : P s) : P (withDrams s x) := k .drams m _ _ h

theorem Closed.links {P : State → Prop} {F : List Area} (k : Closed P F) (m : .links ∈ F) {s : State} {x : NatMap Link}
    (h : P s) : P (withLinks s x) := k .links m _ _ h

theorem Closed.windows {P : State → Prop} {F : List Area} (k : Closed P F) (m : .windows ∈ F) {s : State} {x : List Window}
    (h : P s) : P (withWindows s x) := k .windows m _ _ h

theorem Closed.hif {P : State → Prop} {F : List Area} (k : Closed P F) (m : .hif ∈ F) {s : State} {x : HostIf}
    (h : P s) : P (withHif s x) := k .hif m _ _ h

theorem Closed.fc {P : State → Prop} {F : List Area} (k : Closed P F) (m : .fc ∈ F) {s : State} {x : List FcEntry}
    (h : P s) : P (withFc s x) := k .fc m _ _ h

theorem Closed.mc {P : State → Prop} {F : List Area} (k : Closed P F) (m : .mc ∈ F) {s : State} {x : Mc}
    (h : P s) : P (withMc s x) := k .mc m _ _ h

theorem Closed.seb {P : State → Prop} {F : List Area} (k : Closed P F) (m : .seb ∈ F) {s : State} {x : Seb}
    (h : P s) : P (withSeb s x) := k .seb m _ _ h

theorem Closed.rst {P : State → Prop} {F : List Area} (k : Closed P F) (m : .rst ∈ F) {s : State} {x : Reset}
    (h : P s) : P (withRst s x) := k .rst m _ _ h

theorem Closed.jtag {P : State → Prop} {F : List Area} (k : Closed P F) (m : .jtag ∈ F) {s : State} {x : Jtag}
    (h : P s) : P (withJtag s x) := k .jtag m _ _ h

theorem Closed.drawn {P : State → Prop} {F : List Area} (k : Closed P F) (m : .drawn ∈ F) {s : State} {x : Nat}
    (h : P s) : P (withDrawn s x) := k .drawn m _ _ h

theorem Closed.reset {P : State → Prop} {F : List Area} (k : Closed P F) (m : .reset ∈ F) {s : State} {c x : List Nat}
    (h : P s) : P (enterReset s c x) := k .reset m _ _ _ h

theorem Closed.wipe {P : State → Prop} {F : List Area} (k : Closed P F) (m : .wipe ∈ F) {s : State}
    (h : P s) : P (wipeAll s) := k .wipe m _ h

theorem Closed.migrate {P : State → Prop} {F : List Area} (k : Closed P F) (m : .migrate ∈ F) {s : State} {st old new ptr : Nat}
    (h : P s) : P (copyRest s st old new ptr) := k .migrate m _ _ _ _ _ h

theorem Closed.restore {P : State → Prop} {F : List Area} (k : Closed P F) (m : .restore ∈ F) {s t : State}
    (h : P s) (ht : P t) : P { t with dram := s.dram, codes := s.codes } := k .restore m _ _ h ht

/-- What a meaning answers has the property when it is a next state. -/
def Answers (P : State → Prop) (o : Host.Outcome State Fault Refusal) : Prop := ∀ t, o = .next t → P t

/-- What may be answered has the property when there is one. -/
def Optional (P : State → Prop) (o : Option State) : Prop := ∀ t, o = some t → P t

theorem answers_next {P : State → Prop} {t : State} (h : P t) : Answers P (.next t) := by
  intro u e; cases e; exact h

theorem answers_fault {P : State → Prop} {f : Fault} : Answers P (.fault f) := by
  intro u e; cases e

theorem optional_some {P : State → Prop} {t : State} (h : P t) : Optional P (some t) := by
  intro u e; cases e; exact h

theorem optional_none {P : State → Prop} : Optional P none := by
  intro u e; cases e

theorem fst_keeps {P : State → Prop} {α : Type} {x : State × α} {t : State} {v : α} (h : P x.1)
    (e : x = (t, v)) : P t := by subst e; exact h

theorem snd_keeps {P : State → Prop} {α : Type} {x : α × State} {t : State} {v : α} (h : P x.2)
    (e : x = (v, t)) : P t := by subst e; exact h

theorem some_keeps {P : State → Prop} {o : Option State} {t : State} (h : Optional P o) (e : o = some t) : P t :=
  h t e

theorem getD_keeps {P : State → Prop} {o : Option State} {s : State} (ho : Optional P o) (h : P s) : P (o.getD s) := by
  cases o with
  | none => exact h
  | some t => exact ho t rfl

theorem ite_keeps {P : State → Prop} {c : Prop} [Decidable c] {a b : State} (ha : P a) (hb : P b) :
    P (if c then a else b) := by split <;> assumption

theorem ite_fst_keeps {P : State → Prop} {α : Type} {c : Prop} [Decidable c] {a b : State × α} (ha : P a.1)
    (hb : P b.1) : P (if c then a else b).1 := by split <;> assumption

theorem ite_answers {P : State → Prop} {c : Prop} [Decidable c] {a b : Host.Outcome State Fault Refusal}
    (ha : Answers P a) (hb : Answers P b) : Answers P (if c then a else b) := by split <;> assumption

theorem ite_optional {P : State → Prop} {c : Prop} [Decidable c] {a b : Option State}
    (ha : Optional P a) (hb : Optional P b) : Optional P (if c then a else b) := by split <;> assumption

theorem foldl_keeps {P : State → Prop} {α : Type} {f : State → α → State} (hf : ∀ s a, P s → P (f s a))
    {l : List α} {s : State} (h : P s) : P (l.foldl f s) := by
  induction l generalizing s with
  | nil => exact h
  | cons a l ih => exact ih (hf s a h)

theorem foldl_fst_keeps {P : State → Prop} {α β : Type} {f : State × β → α → State × β}
    (hf : ∀ p a, P p.1 → P (f p a).1) {l : List α} {p : State × β} (h : P p.1) : P (l.foldl f p).1 := by
  induction l generalizing p with
  | nil => exact h
  | cons a l ih => exact ih (hf p a h)

theorem fst_chain {P : State → Prop} {β γ δ : Type} {p : State × β} {q : State → State × γ} {g : β → γ → δ}
    (h : P (q p.1).1) : P (match p with | (s1, v) => match q s1 with | (s2, w) => (s2, g v w)).1 := h

end Sys2Proof.Machine
end

