-- ==== Sys2Proof/Laws/KeepsShared.lean ====
section
/-! SUPPORT. What each operation can change: shared operations, the power page and transfers. A lemma names the parts of the
state its operation can change (Laws/Keeps.lean). -/

namespace Sys2Proof.Machine

theorem setGal_keeps {P : State → Prop} (k : Closed P [.galleries]) (s : State) (hh : ℕ) (g : ℕ) (x : Gallery) (h : P s) :
    P (setGal s hh g x) := by
  unfold setGal
  try extract_lets
  repeat' first
    | with_reducible assumption
    | with_reducible refine k.galleries (by decide) ?_
    | rw [withGalleries_eq]

theorem count_keeps {P : State → Prop} (k : Closed P [.regs]) (s : State) (p : Page) (f : Fld) (n : ℕ) (h : P s) :
    P (count s p f n) := by
  unfold count
  try extract_lets
  repeat' first
    | with_reducible assumption
    | with_reducible refine k.regs (by decide) ?_

theorem setStair_keeps {P : State → Prop} (k : Closed P [.stairs]) (s : State) (i : ℕ) (w : Stairwell) (h : P s) :
    P (setStair s i w) := by
  unfold setStair
  try extract_lets
  repeat' first
    | with_reducible assumption
    | with_reducible refine k.stairs (by decide) ?_
    | rw [withStairs_eq]

theorem setLink_keeps {P : State → Prop} (k : Closed P [.links]) (s : State) (l : ℕ) (x : Link) (h : P s) :
    P (setLink s l x) := by
  unfold setLink
  try extract_lets
  repeat' first
    | with_reducible assumption
    | with_reducible refine k.links (by decide) ?_
    | rw [withLinks_eq]

theorem bump_keeps {P : State → Prop} (k : Closed P [.regs]) (s : State) (p : Page) (f : Fld) (h : P s) :
    P (bump s p f) := by
  unfold bump
  try extract_lets
  repeat' first
    | with_reducible assumption
    | with_reducible refine count_keeps (k.sub (by decide)) _ _ _ _ ?_

theorem noteWait_keeps {P : State → Prop} (k : Closed P [.regs]) (s : State) (q : Queued) (h : P s) :
    P (noteWait s q).1 := by
  unfold noteWait
  try extract_lets
  repeat' first
    | with_reducible assumption
    | with_reducible refine bump_keeps (k.sub (by decide)) _ _ _ ?_
    | with_reducible refine ite_fst_keeps ?_ ?_

theorem sendUnit_keeps {P : State → Prop} (k : Closed P [.hif]) (s : State) (unit : ℕ) (h : P s) :
    P (sendUnit s unit) := by
  unfold sendUnit
  try extract_lets
  repeat' first
    | with_reducible assumption
    | with_reducible refine k.hif (by decide) ?_
    | rw [withHif_eq]

theorem countHold_keeps {P : State → Prop} (k : Closed P [.fifoHolds]) (s : State) (p : Page) (n : ℕ) (h : P s) :
    P (countHold s p n) := by
  unfold countHold
  try extract_lets
  repeat' first
    | with_reducible assumption
    | with_reducible refine k.fifoHolds (by decide) ?_
    | rw [withFifoHolds_eq]

theorem draw_keeps {P : State → Prop} (k : Closed P [.drawn]) (s : State) (h : P s) :
    P (draw s).2 := by
  unfold draw
  try extract_lets
  repeat' first
    | with_reducible assumption
    | with_reducible refine k.drawn (by decide) ?_
    | rw [withDrawn_eq]

theorem crossFifo_keeps {P : State → Prop} (k : Closed P [.fifoHolds, .drawn]) (s : State) (p : Page) (n : ℕ) (h : P s) :
    P (crossFifo s p n) := by
  unfold crossFifo
  try extract_lets
  repeat' first
    | with_reducible assumption
    | with_reducible refine countHold_keeps (k.sub (by decide)) _ _ _ ?_
    | with_reducible refine draw_keeps (k.sub (by decide)) _ ?_

theorem emit_keeps {P : State → Prop} (k : Closed P [.regs, .fifoHolds, .hif, .drawn]) (s : State) (p : Packet) (h : P s) :
    P (emit s p) := by
  unfold emit
  try extract_lets
  repeat' first
    | with_reducible assumption
    | with_reducible refine sendUnit_keeps (k.sub (by decide)) _ _ ?_
    | with_reducible refine count_keeps (k.sub (by decide)) _ _ _ _ ?_
    | with_reducible refine bump_keeps (k.sub (by decide)) _ _ _ ?_
    | with_reducible refine k.regs (by decide) ?_
    | with_reducible refine crossFifo_keeps (k.sub (by decide)) _ _ _ ?_
    | with_reducible refine ite_keeps ?_ ?_
    | with_reducible refine foldl_keeps (fun _ _ _ => ?_) ?_
    | with_reducible refine k.hif (by decide) ?_
    | rw [withHif_eq]

theorem pump_keeps {P : State → Prop} (k : Closed P [.regs, .fifoHolds, .hif, .drawn]) (s : State) (posted : Bool) (nonposted : Bool) (x1 : List Queued) (h : P s) :
    P (pump s posted nonposted x1).1 := by
  induction x1 generalizing s posted nonposted with
  | nil => unfold pump; exact h
  | cons hd tl ih =>
    unfold pump
    try extract_lets
    repeat' first
      | with_reducible assumption
      | with_reducible refine noteWait_keeps (k.sub (by decide)) _ _ ?_
      | with_reducible refine emit_keeps (k.sub (by decide)) _ _ ?_
      | with_reducible apply ih
      | with_reducible refine ite_fst_keeps ?_ ?_

theorem flushQueue_keeps {P : State → Prop} (k : Closed P [.regs, .fifoHolds, .hif, .drawn]) (s : State) (h : P s) :
    P (flushQueue s) := by
  unfold flushQueue
  try extract_lets
  repeat' first
    | with_reducible assumption
    | with_reducible refine pump_keeps (k.sub (by decide)) _ _ _ _ ?_
    | with_reducible refine ite_keeps ?_ ?_
    | extract_lets
    | with_reducible refine k.hif (by decide) ?_
    | rw [withHif_eq]

theorem transmitFor_keeps {P : State → Prop} (k : Closed P [.regs, .fifoHolds, .hif, .drawn]) (s : State) (owner : Option Owner) (p : Packet) (h : P s) :
    P (transmitFor s owner p) := by
  unfold transmitFor
  try extract_lets
  repeat' first
    | with_reducible assumption
    | with_reducible refine flushQueue_keeps (k.sub (by decide)) _ ?_
    | extract_lets
    | with_reducible refine k.hif (by decide) ?_
    | rw [withHif_eq]

theorem transmit_keeps {P : State → Prop} (k : Closed P [.regs, .fifoHolds, .hif, .drawn]) (s : State) (p : Packet) (h : P s) :
    P (transmit s p) := by
  unfold transmit
  try extract_lets
  repeat' first
    | with_reducible assumption
    | with_reducible refine transmitFor_keeps (k.sub (by decide)) _ _ _ ?_

theorem sendMsg_keeps {P : State → Prop} (k : Closed P [.regs, .fifoHolds, .hif, .drawn]) (raise : State → ℕ → State) (s : State) (v : ℕ) (hb : ∀ y0 y1, P y0 → P (raise y0 y1)) (h : P s) :
    P (sendMsg raise s v) := by
  unfold sendMsg
  try extract_lets
  repeat' first
    | with_reducible assumption
    | with_reducible refine transmit_keeps (k.sub (by decide)) _ _ ?_
    | with_reducible refine bump_keeps (k.sub (by decide)) _ _ _ ?_
    | with_reducible refine hb _ _ ?_
    | with_reducible refine ite_keeps ?_ ?_

theorem signalWith_keeps {P : State → Prop} (k : Closed P [.regs, .fifoHolds, .hif, .drawn]) (raise : State → ℕ → State) (s : State) (v : ℕ) (hb : ∀ y0 y1, P y0 → P (raise y0 y1)) (h : P s) :
    P (signalWith raise s v) := by
  unfold signalWith
  try extract_lets
  repeat' first
    | with_reducible assumption
    | with_reducible refine sendMsg_keeps (k.sub (by decide)) _ _ _ (fun _ _ _ => ?_) ?_
    | with_reducible refine k.regs (by decide) ?_
    | with_reducible refine hb _ _ ?_
    | with_reducible refine ite_keeps ?_ ?_

theorem raise_keeps {P : State → Prop} (k : Closed P [.regs, .fifoHolds, .hif, .drawn]) (n : ℕ) (s : State) (p : Page) (b : ℕ) (h : P s) :
    P (raise n s p b) := by
  induction n generalizing s p b with
  | zero => exact h
  | succ n ih =>
    unfold raise
    extract_lets
    repeat' first
      | with_reducible assumption
      | with_reducible refine signalWith_keeps k _ _ _ (fun u c hu => ih u _ c hu) ?_
      | with_reducible refine ite_keeps ?_ ?_
      | with_reducible refine k.regs (by decide) ?_

theorem setSticky_keeps {P : State → Prop} (k : Closed P [.regs, .fifoHolds, .hif, .drawn]) (s : State) (p : Page) (b : ℕ) (h : P s) :
    P (setSticky s p b) := by
  unfold setSticky
  try extract_lets
  repeat' first
    | with_reducible assumption
    | with_reducible refine raise_keeps (k.sub (by decide)) _ _ _ _ ?_

theorem fcEnter_keeps {P : State → Prop} (k : Closed P [.regs, .fifoHolds, .hif, .fc, .drawn]) (s : State) (src : ℕ) (code : ℕ) (detail : ℕ) (h : P s) :
    P (fcEnter s src code detail) := by
  unfold fcEnter
  try extract_lets
  repeat' first
    | with_reducible assumption
    | with_reducible refine bump_keeps (k.sub (by decide)) _ _ _ ?_
    | with_reducible refine setSticky_keeps (k.sub (by decide)) _ _ _ ?_
    | with_reducible refine ite_keeps ?_ ?_
    | extract_lets
    | with_reducible refine k.fc (by decide) ?_
    | rw [withFc_eq]
    | dsimp +zetaDelta only

theorem report_keeps {P : State → Prop} (k : Closed P [.regs, .fifoHolds, .hif, .fc, .drawn]) (s : State) (p : Page) (code : ℕ) (detail : ℕ) (h : P s) :
    P (report s p code detail) := by
  unfold report
  try extract_lets
  repeat' first
    | with_reducible assumption
    | with_reducible refine fcEnter_keeps (k.sub (by decide)) _ _ _ _ ?_
    | split

theorem setDram_keeps {P : State → Prop} (k : Closed P [.drams]) (s : State) (hh : ℕ) (x : Stack) (h : P s) :
    P (setDram s hh x) := by
  unfold setDram
  try extract_lets
  repeat' first
    | with_reducible assumption
    | with_reducible refine k.drams (by decide) ?_
    | rw [withDrams_eq]

theorem setCache_keeps {P : State → Prop} (k : Closed P [.caches]) (s : State) (hh : ℕ) (x : HallCache) (h : P s) :
    P (setCache s hh x) := by
  unfold setCache
  try extract_lets
  repeat' first
    | with_reducible assumption
    | with_reducible refine k.caches (by decide) ?_
    | rw [withCaches_eq]

theorem stateErr_keeps {P : State → Prop} (k : Closed P [.regs]) (s : State) (p : Page) (h : P s) :
    P (stateErr s p) := by
  unfold stateErr
  try extract_lets
  repeat' first
    | with_reducible assumption
    | with_reducible refine k.regs (by decide) ?_

theorem denyWrite_keeps {P : State → Prop} (k : Closed P [.regs, .fifoHolds, .hif, .drawn]) (s : State) (h : P s) :
    P (denyWrite s) := by
  unfold denyWrite
  try extract_lets
  repeat' first
    | with_reducible assumption
    | with_reducible refine bump_keeps (k.sub (by decide)) _ _ _ ?_
    | with_reducible refine setSticky_keeps (k.sub (by decide)) _ _ _ ?_

theorem refuseWrite_keeps {P : State → Prop} (k : Closed P [.regs, .fifoHolds, .hif, .drawn]) (s : State) (path : Path) (p : Page) (off : ℕ) (word : ℕ) (h : P s) :
    P (refuseWrite s path p off word) := by
  unfold refuseWrite
  try extract_lets
  repeat' first
    | with_reducible assumption
    | with_reducible refine stateErr_keeps (k.sub (by decide)) _ _ ?_
    | with_reducible refine denyWrite_keeps (k.sub (by decide)) _ ?_
    | with_reducible refine ite_keeps ?_ ?_
    | split

theorem clearHold_keeps {P : State → Prop} (k : Closed P [.fifoHolds]) (s : State) (p : Page) (h : P s) :
    P (clearHold s p) := by
  unfold clearHold
  try extract_lets
  repeat' first
    | with_reducible assumption
    | with_reducible refine k.fifoHolds (by decide) ?_
    | rw [withFifoHolds_eq]

theorem signal_keeps {P : State → Prop} (k : Closed P [.regs, .fifoHolds, .hif, .drawn]) (s : State) (v : ℕ) (h : P s) :
    P (signal s v) := by
  unfold signal
  try extract_lets
  repeat' first
    | with_reducible assumption
    | with_reducible refine raise_keeps (k.sub (by decide)) _ _ _ _ ?_
    | with_reducible refine signalWith_keeps (k.sub (by decide)) _ _ _ (fun _ _ _ => ?_) ?_

theorem post_keeps {P : State → Prop} (k : Closed P [.regs, .fifoHolds, .hif, .drawn]) (s : State) (owner : Option Owner) (p : Packet) (h : P s) :
    P (post s owner p) := by
  unfold post
  try extract_lets
  repeat' first
    | with_reducible assumption
    | with_reducible refine bump_keeps (k.sub (by decide)) _ _ _ ?_
    | with_reducible refine setSticky_keeps (k.sub (by decide)) _ _ _ ?_
    | with_reducible refine transmitFor_keeps (k.sub (by decide)) _ _ _ ?_
    | with_reducible refine ite_keeps ?_ ?_

theorem commitPair_keeps {P : State → Prop} (k : Closed P [.staging]) (s : State) (path : Path) (p : Page) (f : Fld) (hi : ℕ) (h : P s) :
    P (commitPair s path p f hi).2 := by
  unfold commitPair
  try extract_lets
  repeat' first
    | with_reducible assumption
    | with_reducible refine k.staging (by decide) ?_
    | rw [withStaging_eq]

theorem complete_keeps {P : State → Prop} (k : Closed P [.regs, .fifoHolds, .hif, .drawn]) (s : State) (tag : ℕ) (status : ℕ) (len : ℕ) (data : Option ℕ) (h : P s) :
    P (complete s tag status len data) := by
  unfold complete
  try extract_lets
  repeat' first
    | with_reducible assumption
    | with_reducible refine transmit_keeps (k.sub (by decide)) _ _ ?_
    | with_reducible refine bump_keeps (k.sub (by decide)) _ _ _ ?_
    | with_reducible refine ite_keeps ?_ ?_

theorem mayCount_keeps {P : State → Prop} (k : Closed P [.regs, .drawn]) (s : State) (p : Page) (f : Fld) (h : P s) :
    P (mayCount s p f) := by
  unfold mayCount
  try extract_lets
  repeat' first
    | with_reducible assumption
    | with_reducible refine count_keeps (k.sub (by decide)) _ _ _ _ ?_
    | with_reducible refine draw_keeps (k.sub (by decide)) _ ?_

theorem ifPermitted_keeps {P : State → Prop} (k : Closed P [.regs, .fifoHolds, .hif, .drawn]) (s : State) (path : Path) (p : Page) (off : ℕ) (word : ℕ) (body : State) (h : P s) (h1 : P body) :
    P (ifPermitted s path p off word body) := by
  unfold ifPermitted
  try extract_lets
  repeat' first
    | with_reducible assumption
    | with_reducible refine refuseWrite_keeps (k.sub (by decide)) _ _ _ _ _ ?_
    | with_reducible refine ite_keeps ?_ ?_

theorem latchFault_keeps {P : State → Prop} (k : Closed P [.regs, .fifoHolds, .hif, .fc, .drawn]) (s : State) (p : Page) (code : ℕ) (detail : ℕ) (h : P s) :
    P (latchFault s p code detail) := by
  unfold latchFault
  try extract_lets
  repeat' first
    | with_reducible assumption
    | with_reducible refine k.regs (by decide) ?_
    | with_reducible refine bump_keeps (k.sub (by decide)) _ _ _ ?_
    | with_reducible refine report_keeps (k.sub (by decide)) _ _ _ _ ?_

theorem stageLow_keeps {P : State → Prop} (k : Closed P [.staging]) (s : State) (path : Path) (p : Page) (f : Fld) (v : ℕ) (h : P s) :
    P (stageLow s path p f v) := by
  unfold stageLow
  try extract_lets
  repeat' first
    | with_reducible assumption
    | with_reducible refine k.staging (by decide) ?_
    | rw [withStaging_eq]

theorem scFault_keeps {P : State → Prop} (k : Closed P [.regs, .fifoHolds, .hif, .fc, .drawn]) (s : State) (who : Requester) (a : ℕ) (kind : ℕ) (write : Bool) (h : P s) :
    P (scFault s who a kind write) := by
  unfold scFault
  try extract_lets
  repeat' first
    | with_reducible assumption
    | with_reducible refine report_keeps (k.sub (by decide)) _ _ _ _ ?_
    | with_reducible refine k.regs (by decide) ?_
    | with_reducible refine setSticky_keeps (k.sub (by decide)) _ _ _ ?_
    | with_reducible refine bump_keeps (k.sub (by decide)) _ _ _ ?_
    | with_reducible refine ite_keeps ?_ ?_

theorem wakeWaiters_keeps {P : State → Prop} (k : Closed P [.stairs]) (s : State) (a : ℕ) (n : ℕ) (h : P s) :
    P (wakeWaiters s a n) := by
  unfold wakeWaiters
  try extract_lets
  repeat' first
    | with_reducible assumption
    | with_reducible refine k.stairs (by decide) ?_
    | rw [withStairs_eq]

theorem noteBad_keeps {P : State → Prop} (k : Closed P [.regs, .fifoHolds, .hif, .drawn]) (s : State) (who : Requester) (st : ℕ) (kind : ℕ) (h : P s) :
    P (noteBad s who st kind) := by
  unfold noteBad
  try extract_lets
  repeat' first
    | with_reducible assumption
    | with_reducible refine bump_keeps (k.sub (by decide)) _ _ _ ?_
    | with_reducible refine setSticky_keeps (k.sub (by decide)) _ _ _ ?_
    | with_reducible refine ite_keeps ?_ ?_

theorem setCode_keeps {P : State → Prop} (k : Closed P [.codes]) (s : State) (c : ℕ) (x : SectorCode) (h : P s) :
    P (setCode s c x) := by
  unfold setCode
  try extract_lets
  repeat' first
    | with_reducible assumption
    | with_reducible refine k.codes (by decide) ?_
    | rw [withCodes_eq]

theorem storeSector_keeps {P : State → Prop} (k : Closed P [.sector, .codes]) (s : State) (c : ℕ) (img : ℕ) (poison : Bool) (h : P s) :
    P (storeSector s c img poison) := by
  unfold storeSector
  try extract_lets
  repeat' first
    | with_reducible assumption
    | with_reducible refine setCode_keeps (k.sub (by decide)) _ _ _ ?_
    | extract_lets
    | with_reducible refine k.sector (by decide) ?_
    | rw [withSector_eq]

theorem chargeLane_keeps {P : State → Prop} (k : Closed P [.drams]) (s : State) (st : ℕ) (c : ℕ) (symbol : ℕ) (flips : ℕ) (h : P s) :
    P (chargeLane s st c symbol flips) := by
  unfold chargeLane
  try extract_lets
  repeat' first
    | with_reducible assumption
    | with_reducible refine setDram_keeps (k.sub (by decide)) _ _ _ ?_
    | split

theorem queueRow_keeps {P : State → Prop} (k : Closed P [.drams]) (s : State) (st : ℕ) (row : ℕ) (h : P s) :
    P (queueRow s st row) := by
  unfold queueRow
  try extract_lets
  repeat' first
    | with_reducible assumption
    | with_reducible refine setDram_keeps (k.sub (by decide)) _ _ _ ?_
    | with_reducible refine ite_keeps ?_ ?_

theorem noteCorrection_keeps {P : State → Prop} (k : Closed P [.regs, .fifoHolds, .drams, .hif, .drawn]) (s : State) (st : ℕ) (c : ℕ) (symbol : ℕ) (flips : ℕ) (h : P s) :
    P (noteCorrection s st c symbol flips) := by
  unfold noteCorrection
  try extract_lets
  repeat' first
    | with_reducible assumption
    | with_reducible refine chargeLane_keeps (k.sub (by decide)) _ _ _ _ _ ?_
    | with_reducible refine queueRow_keeps (k.sub (by decide)) _ _ _ ?_
    | with_reducible refine setDram_keeps (k.sub (by decide)) _ _ _ ?_
    | with_reducible refine bump_keeps (k.sub (by decide)) _ _ _ ?_
    | with_reducible refine setSticky_keeps (k.sub (by decide)) _ _ _ ?_
    | with_reducible refine ite_keeps ?_ ?_

theorem readStored_keeps {P : State → Prop} (k : Closed P [.regs, .fifoHolds, .sector, .codes, .drams, .hif, .drawn]) (s : State) (st : ℕ) (c : ℕ) (h : P s) :
    P (readStored s st c).1 := by
  unfold readStored
  try extract_lets
  repeat' first
    | with_reducible assumption
    | with_reducible refine storeSector_keeps (k.sub (by decide)) _ _ _ _ ?_
    | with_reducible refine noteCorrection_keeps (k.sub (by decide)) _ _ _ _ _ ?_
    | with_reducible refine queueRow_keeps (k.sub (by decide)) _ _ _ ?_
    | with_reducible refine crossFifo_keeps (k.sub (by decide)) _ _ _ ?_
    | split

theorem writeSector_keeps {P : State → Prop} (k : Closed P [.regs, .fifoHolds, .sector, .codes, .drams, .hif, .drawn]) (s : State) (who : Requester) (a : ℕ) (lo : ℕ) (n : ℕ) (v : ℕ) (poison : Bool) (h : P s) :
    P (writeSector s who a lo n v poison).1 := by
  unfold writeSector
  try extract_lets
  repeat' first
    | with_reducible assumption
    | with_reducible refine noteBad_keeps (k.sub (by decide)) _ _ _ _ ?_
    | with_reducible refine readStored_keeps (k.sub (by decide)) _ _ _ ?_
    | with_reducible refine crossFifo_keeps (k.sub (by decide)) _ _ _ ?_
    | with_reducible refine storeSector_keeps (k.sub (by decide)) _ _ _ _ ?_
    | with_reducible refine bump_keeps (k.sub (by decide)) _ _ _ ?_
    | with_reducible refine ite_keeps ?_ ?_
    | with_reducible refine ite_fst_keeps ?_ ?_
    | with_reducible refine fst_keeps ?_ (by with_reducible assumption)
    | extract_lets
    | split

theorem writeSectors_keeps {P : State → Prop} (k : Closed P [.regs, .fifoHolds, .sector, .codes, .drams, .hif, .drawn]) (who : Requester) (poison : Bool) (a : ℕ) (stop : ℕ) (x1 : ℕ) (x2 : ℕ) (x3 : State) (h : P x3) :
    P (writeSectors who poison a stop x1 x2 x3).1 := by
  induction x1 generalizing who poison a stop x2 x3 with
  | zero => unfold writeSectors; exact h
  | succ m ih =>
    unfold writeSectors
    try extract_lets
    repeat' first
      | with_reducible assumption
      | with_reducible refine writeSector_keeps (k.sub (by decide)) _ _ _ _ _ _ _ ?_
      | with_reducible apply ih

theorem memWritePoison_keeps {P : State → Prop} (k : Closed P [.regs, .fifoHolds, .sector, .codes, .stairs, .drams, .hif, .fc, .drawn]) (s : State) (who : Requester) (a : ℕ) (n : ℕ) (v : ℕ) (poison : Bool) (h : P s) :
    P (memWritePoison s who a n v poison).1 := by
  unfold memWritePoison
  try extract_lets
  repeat' first
    | with_reducible assumption
    | with_reducible refine scFault_keeps (k.sub (by decide)) _ _ _ _ _ ?_
    | with_reducible refine wakeWaiters_keeps (k.sub (by decide)) _ _ _ ?_
    | with_reducible refine writeSectors_keeps (k.sub (by decide)) _ _ _ _ _ _ _ ?_
    | with_reducible refine fst_keeps ?_ (by with_reducible assumption)
    | split

theorem memWrite_keeps {P : State → Prop} (k : Closed P [.regs, .fifoHolds, .sector, .codes, .stairs, .drams, .hif, .fc, .drawn]) (s : State) (who : Requester) (a : ℕ) (n : ℕ) (v : ℕ) (h : P s) :
    P (memWrite s who a n v).1 := by
  unfold memWrite
  try extract_lets
  repeat' first
    | with_reducible assumption
    | with_reducible refine memWritePoison_keeps (k.sub (by decide)) _ _ _ _ _ _ ?_

theorem readSector_keeps {P : State → Prop} (k : Closed P [.regs, .fifoHolds, .sector, .codes, .drams, .hif, .drawn]) (s : State) (who : Requester) (a : ℕ) (h : P s) :
    P (readSector s who a).1 := by
  unfold readSector
  try extract_lets
  repeat' first
    | with_reducible assumption
    | with_reducible refine noteBad_keeps (k.sub (by decide)) _ _ _ _ ?_
    | with_reducible refine readStored_keeps (k.sub (by decide)) _ _ _ ?_
    | with_reducible refine bump_keeps (k.sub (by decide)) _ _ _ ?_
    | with_reducible refine ite_keeps ?_ ?_
    | with_reducible refine ite_fst_keeps ?_ ?_
    | with_reducible refine fst_keeps ?_ (by with_reducible assumption)
    | extract_lets
    | split

theorem readSectors_keeps {P : State → Prop} (k : Closed P [.regs, .fifoHolds, .sector, .codes, .drams, .hif, .drawn]) (who : Requester) (a : ℕ)
    (n : ℕ) (s : State) (h : P s) : P (readSectors who a n s).1 := by
  induction n generalizing a s with
  | zero => exact h
  | succ m ih =>
    rw [readSectors]
    exact fst_chain (q := readSectors who (a + 32) m)
      (g := fun v w => (v.1 + w.1 * 2 ^ 256, match v.2 with
        | some f => some (f, a)
        | none => w.2))
      (ih (a + 32) _ (readSector_keeps k s who a h))

theorem memRead_keeps {P : State → Prop} (k : Closed P [.regs, .fifoHolds, .sector, .codes, .drams, .hif, .fc, .drawn]) (s : State) (who : Requester) (a : ℕ) (n : ℕ) (h : P s) :
    P (memRead s who a n).1 := by
  unfold memRead
  try extract_lets
  repeat' first
    | with_reducible assumption
    | with_reducible refine scFault_keeps (k.sub (by decide)) _ _ _ _ _ ?_
    | with_reducible refine readSectors_keeps (k.sub (by decide)) _ _ _ _ ?_
    | with_reducible refine fst_keeps ?_ (by with_reducible assumption)
    | split

theorem hcFault_keeps {P : State → Prop} (k : Closed P [.regs, .fifoHolds, .hif, .fc, .drawn]) (s : State) (hh : ℕ) (user : HallUser) (a : ℕ) (kind : ℕ) (write : Bool) (h : P s) :
    P (hcFault s hh user a kind write) := by
  unfold hcFault
  try extract_lets
  repeat' first
    | with_reducible assumption
    | with_reducible refine report_keeps (k.sub (by decide)) _ _ _ _ ?_
    | with_reducible refine k.regs (by decide) ?_
    | with_reducible refine bump_keeps (k.sub (by decide)) _ _ _ ?_
    | with_reducible refine setSticky_keeps (k.sub (by decide)) _ _ _ ?_
    | with_reducible refine ite_keeps ?_ ?_

theorem hcSees_keeps {P : State → Prop} (k : Closed P [.regs, .fifoHolds, .hif, .fc, .drawn]) (s : State) (hh : ℕ) (user : HallUser) (write : Bool) (x1 : Got) (h : P s) :
    P (hcSees s hh user write x1).1 := by
  unfold hcSees
  try extract_lets
  repeat' first
    | with_reducible assumption
    | with_reducible refine hcFault_keeps (k.sub (by decide)) _ _ _ _ _ _ ?_
    | split

theorem upsetSector_keeps {P : State → Prop} (k : Closed P [.codes]) (s : State) (c : ℕ) (u : Upset) (h : P s) :
    P (upsetSector s c u) := by
  unfold upsetSector
  try extract_lets
  repeat' first
    | with_reducible assumption
    | with_reducible refine setCode_keeps (k.sub (by decide)) _ _ _ ?_
    | with_reducible refine ite_keeps ?_ ?_

theorem putLine_keeps {P : State → Prop} (k : Closed P [.caches]) (s : State) (hh : ℕ) (x : Line) (h : P s) :
    P (putLine s hh x) := by
  unfold putLine
  try extract_lets
  repeat' first
    | with_reducible assumption
    | with_reducible refine setCache_keeps (k.sub (by decide)) _ _ _ ?_

theorem writeBack_keeps {P : State → Prop} (k : Closed P [.regs, .fifoHolds, .sector, .codes, .stairs, .drams, .hif, .fc, .drawn]) (s : State) (hh : ℕ) (x : Line) (h : P s) :
    P (writeBack s hh x).1 := by
  unfold writeBack
  try extract_lets
  repeat' first
    | with_reducible assumption
    | with_reducible refine hcSees_keeps (k.sub (by decide)) _ _ _ _ _ ?_
    | with_reducible refine memWritePoison_keeps (k.sub (by decide)) _ _ _ _ _ _ ?_
    | with_reducible refine bump_keeps (k.sub (by decide)) _ _ _ ?_

theorem dropLine_keeps {P : State → Prop} (k : Closed P [.caches]) (s : State) (hh : ℕ) (n : ℕ) (h : P s) :
    P (dropLine s hh n) := by
  unfold dropLine
  try extract_lets
  repeat' first
    | with_reducible assumption
    | with_reducible refine setCache_keeps (k.sub (by decide)) _ _ _ ?_

theorem allocate_keeps {P : State → Prop} (k : Closed P [.regs, .fifoHolds, .sector, .codes, .stairs, .caches, .drams, .hif, .fc, .drawn]) (s : State) (hh : ℕ) (n : ℕ) (data : ℕ) (dirty : Bool) (prefetched : Bool) (h : P s) :
    P (allocate s hh n data dirty prefetched) := by
  unfold allocate
  try extract_lets
  repeat' first
    | with_reducible assumption
    | with_reducible refine putLine_keeps (k.sub (by decide)) _ _ _ ?_
    | with_reducible refine writeBack_keeps (k.sub (by decide)) _ _ _ ?_
    | with_reducible refine dropLine_keeps (k.sub (by decide)) _ _ _ ?_
    | with_reducible refine ite_keeps ?_ ?_
    | extract_lets
    | split

theorem hitLine_keeps {P : State → Prop} (k : Closed P [.regs, .caches]) (s : State) (hh : ℕ) (x : Line) (h : P s) :
    P (hitLine s hh x) := by
  unfold hitLine
  try extract_lets
  repeat' first
    | with_reducible assumption
    | with_reducible refine putLine_keeps (k.sub (by decide)) _ _ _ ?_
    | with_reducible refine bump_keeps (k.sub (by decide)) _ _ _ ?_
    | with_reducible refine ite_keeps ?_ ?_

theorem readLine_keeps {P : State → Prop} (k : Closed P [.regs, .fifoHolds, .sector, .codes, .stairs, .caches, .drams, .hif, .fc, .drawn]) (s : State) (hh : ℕ) (user : HallUser) (n : ℕ) (lo : ℕ) (m : ℕ) (h : P s) :
    P (readLine s hh user n lo m).1 := by
  unfold readLine
  try extract_lets
  repeat' first
    | with_reducible assumption
    | with_reducible refine allocate_keeps (k.sub (by decide)) _ _ _ _ _ _ ?_
    | with_reducible refine hcSees_keeps (k.sub (by decide)) _ _ _ _ _ ?_
    | with_reducible refine memRead_keeps (k.sub (by decide)) _ _ _ _ ?_
    | with_reducible refine bump_keeps (k.sub (by decide)) _ _ _ ?_
    | with_reducible refine hcFault_keeps (k.sub (by decide)) _ _ _ _ _ _ ?_
    | with_reducible refine hitLine_keeps (k.sub (by decide)) _ _ _ ?_
    | with_reducible refine ite_fst_keeps ?_ ?_
    | with_reducible refine fst_keeps ?_ (by with_reducible assumption)
    | extract_lets
    | split

theorem readLines_keeps {P : State → Prop} (k : Closed P [.regs, .fifoHolds, .sector, .codes, .stairs, .caches, .drams, .hif, .fc, .drawn]) (hh : ℕ) (user : HallUser) (a : ℕ) (stop : ℕ) (x1 : ℕ) (x2 : State) (h : P x2) :
    P (readLines hh user a stop x1 x2).1 := by
  induction x1 generalizing hh user a stop x2 with
  | zero => unfold readLines; exact h
  | succ m ih =>
    unfold readLines
    try extract_lets
    repeat' first
      | with_reducible assumption
      | with_reducible refine readLine_keeps (k.sub (by decide)) _ _ _ _ _ _ ?_
      | with_reducible apply ih
      | with_reducible refine fst_keeps ?_ (by with_reducible assumption)
      | split

theorem hcRead_keeps {P : State → Prop} (k : Closed P [.regs, .fifoHolds, .sector, .codes, .stairs, .caches, .drams, .hif, .fc, .drawn]) (s : State) (hh : ℕ) (user : HallUser) (a : ℕ) (n : ℕ) (h : P s) :
    P (hcRead s hh user a n).1 := by
  unfold hcRead
  try extract_lets
  repeat' first
    | with_reducible assumption
    | with_reducible refine readLines_keeps (k.sub (by decide)) _ _ _ _ _ _ ?_

theorem writeLine_keeps {P : State → Prop} (k : Closed P [.regs, .fifoHolds, .sector, .codes, .stairs, .caches, .drams, .hif, .fc, .drawn]) (s : State) (hh : ℕ) (user : HallUser) (n : ℕ) (lo : ℕ) (m : ℕ) (v : ℕ) (h : P s) :
    P (writeLine s hh user n lo m v).1 := by
  unfold writeLine
  try extract_lets
  repeat' first
    | with_reducible assumption
    | with_reducible refine memRead_keeps (k.sub (by decide)) _ _ _ _ ?_
    | with_reducible refine scFault_keeps (k.sub (by decide)) _ _ _ _ _ ?_
    | with_reducible refine allocate_keeps (k.sub (by decide)) _ _ _ _ _ _ ?_
    | with_reducible refine hcSees_keeps (k.sub (by decide)) _ _ _ _ _ ?_
    | with_reducible refine memWrite_keeps (k.sub (by decide)) _ _ _ _ _ ?_
    | with_reducible refine bump_keeps (k.sub (by decide)) _ _ _ ?_
    | with_reducible refine putLine_keeps (k.sub (by decide)) _ _ _ ?_
    | with_reducible refine hcFault_keeps (k.sub (by decide)) _ _ _ _ _ _ ?_
    | with_reducible refine hitLine_keeps (k.sub (by decide)) _ _ _ ?_
    | with_reducible refine ite_fst_keeps ?_ ?_
    | with_reducible refine fst_keeps ?_ (by with_reducible assumption)
    | extract_lets
    | split

theorem writeLines_keeps {P : State → Prop} (k : Closed P [.regs, .fifoHolds, .sector, .codes, .stairs, .caches, .drams, .hif, .fc, .drawn]) (hh : ℕ) (user : HallUser) (a : ℕ) (stop : ℕ) (x1 : ℕ) (x2 : ℕ) (x3 : State) (h : P x3) :
    P (writeLines hh user a stop x1 x2 x3).1 := by
  induction x1 generalizing hh user a stop x2 x3 with
  | zero => unfold writeLines; exact h
  | succ m ih =>
    unfold writeLines
    try extract_lets
    repeat' first
      | with_reducible assumption
      | with_reducible refine writeLine_keeps (k.sub (by decide)) _ _ _ _ _ _ _ ?_
      | with_reducible apply ih
      | with_reducible refine fst_keeps ?_ (by with_reducible assumption)
      | split

theorem hcWrite_keeps {P : State → Prop} (k : Closed P [.regs, .fifoHolds, .sector, .codes, .stairs, .caches, .drams, .hif, .fc, .drawn]) (s : State) (hh : ℕ) (user : HallUser) (a : ℕ) (n : ℕ) (v : ℕ) (h : P s) :
    P (hcWrite s hh user a n v).1 := by
  unfold hcWrite
  try extract_lets
  repeat' first
    | with_reducible assumption
    | with_reducible refine writeLines_keeps (k.sub (by decide)) _ _ _ _ _ _ _ ?_

theorem prefetchSector_keeps {P : State → Prop} (k : Closed P [.regs, .fifoHolds, .sector, .codes, .drams, .hif, .drawn]) (s : State) (st : ℕ) (l : ℕ) (h : P s) :
    P (prefetchSector s st l).1 := by
  unfold prefetchSector
  try extract_lets
  repeat' first
    | with_reducible assumption
    | with_reducible refine bump_keeps (k.sub (by decide)) _ _ _ ?_
    | with_reducible refine readStored_keeps (k.sub (by decide)) _ _ _ ?_

theorem prefetchLine_keeps {P : State → Prop} (k : Closed P [.regs, .fifoHolds, .sector, .codes, .stairs, .caches, .drams, .hif, .fc, .drawn]) (s : State) (hh : ℕ) (n : ℕ) (h : P s) :
    P (prefetchLine s hh n) := by
  unfold prefetchLine
  try extract_lets
  repeat' first
    | with_reducible assumption
    | with_reducible refine allocate_keeps (k.sub (by decide)) _ _ _ _ _ _ ?_
    | with_reducible refine prefetchSector_keeps (k.sub (by decide)) _ _ _ ?_
    | with_reducible refine bump_keeps (k.sub (by decide)) _ _ _ ?_
    | with_reducible refine ite_keeps ?_ ?_
    | with_reducible refine fst_keeps ?_ (by with_reducible assumption)
    | extract_lets
    | split

theorem prefetchRange_keeps {P : State → Prop} (k : Closed P [.regs, .fifoHolds, .sector, .codes, .stairs, .caches, .drams, .hif, .fc, .drawn]) (s : State) (hh : ℕ) (a : ℕ) (n : ℕ) (h : P s) :
    P (prefetchRange s hh a n) := by
  unfold prefetchRange
  try extract_lets
  repeat' first
    | with_reducible assumption
    | with_reducible refine prefetchLine_keeps (k.sub (by decide)) _ _ _ ?_
    | with_reducible refine foldl_keeps (fun _ _ _ => ?_) ?_

theorem readMerge_keeps {P : State → Prop} (k : Closed P [.regs, .fifoHolds, .sector, .codes, .drams, .hif, .drawn]) (s : State) (who : Requester) (a : ℕ) (h : P s) :
    P (readMerge s who a).1 := by
  unfold readMerge
  try extract_lets
  repeat' first
    | with_reducible assumption
    | with_reducible refine noteBad_keeps (k.sub (by decide)) _ _ _ _ ?_
    | with_reducible refine bump_keeps (k.sub (by decide)) _ _ _ ?_
    | with_reducible refine readStored_keeps (k.sub (by decide)) _ _ _ ?_
    | with_reducible refine ite_fst_keeps ?_ ?_
    | with_reducible refine fst_keeps ?_ (by with_reducible assumption)
    | extract_lets
    | split

theorem memAdd_keeps {P : State → Prop} (k : Closed P [.regs, .fifoHolds, .sector, .codes, .stairs, .drams, .hif, .fc, .drawn]) (s : State) (who : Requester) (a : ℕ) (f : ℕ → ℕ) (h : P s) :
    P (memAdd s who a f).1 := by
  unfold memAdd
  try extract_lets
  repeat' first
    | with_reducible assumption
    | with_reducible refine memWrite_keeps (k.sub (by decide)) _ _ _ _ _ ?_
    | with_reducible refine scFault_keeps (k.sub (by decide)) _ _ _ _ _ ?_
    | with_reducible refine readMerge_keeps (k.sub (by decide)) _ _ _ ?_
    | with_reducible refine fst_keeps ?_ (by with_reducible assumption)
    | split

theorem calibrate_keeps {P : State → Prop} (k : Closed P [.regs, .mc]) (s : State) (t : Timer) (periods : ℕ) (h : P s) :
    P (calibrate s t periods) := by
  unfold calibrate
  try extract_lets
  repeat' first
    | with_reducible assumption
    | with_reducible refine bump_keeps (k.sub (by decide)) _ _ _ ?_
    | with_reducible refine ite_keeps ?_ ?_
    | extract_lets
    | with_reducible refine k.mc (by decide) ?_
    | rw [withMc_eq]
    | dsimp +zetaDelta only

theorem setCapLimit_keeps {P : State → Prop} (k : Closed P [.regs, .mc]) (s : State) (n : ℕ) (h : P s) :
    P (setCapLimit s n) := by
  unfold setCapLimit
  try extract_lets
  repeat' first
    | with_reducible assumption
    | with_reducible refine k.regs (by decide) ?_
    | extract_lets
    | with_reducible refine k.mc (by decide) ?_
    | rw [withMc_eq]

theorem capUnmet_keeps {P : State → Prop} (k : Closed P [.regs, .fifoHolds, .hif, .mc, .drawn]) (s : State) (h : P s) :
    P (capUnmet s) := by
  unfold capUnmet
  try extract_lets
  repeat' first
    | with_reducible assumption
    | with_reducible refine setSticky_keeps (k.sub (by decide)) _ _ _ ?_
    | with_reducible refine setCapLimit_keeps (k.sub (by decide)) _ _ ?_

theorem sendTarget_keeps {P : State → Prop} (k : Closed P [.mc, .drawn]) (s : State) (mv : ℕ) (h : P s) :
    P (sendTarget s mv) := by
  unfold sendTarget
  try extract_lets
  repeat' first
    | with_reducible assumption
    | with_reducible refine draw_keeps (k.sub (by decide)) _ ?_
    | with_reducible refine k.mc (by decide) ?_
    | rw [withMc_eq]

theorem queueTimers_keeps {P : State → Prop} (k : Closed P [.mc]) (s : State) (ts : List Timer) (h : P s) :
    P (queueTimers s ts) := by
  unfold queueTimers
  try extract_lets
  repeat' first
    | with_reducible assumption
    | with_reducible refine ite_keeps ?_ ?_
    | extract_lets
    | with_reducible refine k.mc (by decide) ?_
    | rw [withMc_eq]

theorem setTarget_keeps {P : State → Prop} (k : Closed P [.regs, .mc, .drawn]) (s : State) (mv : ℕ) (h : P s) :
    P (setTarget s mv) := by
  unfold setTarget
  try extract_lets
  repeat' first
    | with_reducible assumption
    | with_reducible refine sendTarget_keeps (k.sub (by decide)) _ _ ?_
    | with_reducible refine k.regs (by decide) ?_
    | with_reducible refine queueTimers_keeps (k.sub (by decide)) _ _ ?_
    | with_reducible refine ite_keeps ?_ ?_

theorem openLoop_keeps {P : State → Prop} (k : Closed P [.regs, .mc, .drawn]) (s : State) (h : P s) :
    P (openLoop s) := by
  unfold openLoop
  try extract_lets
  repeat' first
    | with_reducible assumption
    | with_reducible refine setCapLimit_keeps (k.sub (by decide)) _ _ ?_
    | with_reducible refine setTarget_keeps (k.sub (by decide)) _ _ ?_
    | with_reducible refine ite_keeps ?_ ?_

theorem setMove_keeps {P : State → Prop} (k : Closed P [.mc]) (s : State) (b : Bool) (h : P s) :
    P (setMove s b) := by
  unfold setMove
  try extract_lets
  repeat' first
    | with_reducible assumption
    | with_reducible refine k.mc (by decide) ?_
    | rw [withMc_eq]

theorem writeFields_keeps {P : State → Prop} (k : Closed P [.regs]) (s : State) (p : Page) (fs : List Fld) (value : ℕ) (h : P s) :
    P (writeFields s p fs value) := by
  unfold writeFields
  try extract_lets
  repeat' first
    | with_reducible assumption
    | with_reducible refine k.regs (by decide) ?_
    | with_reducible refine foldl_keeps (fun _ _ _ => ?_) ?_

theorem configure_keeps {P : State → Prop} (k : Closed P [.regs, .mc, .drawn]) (s : State) (off : ℕ) (value : ℕ) (h : P s) :
    P (configure s off value) := by
  unfold configure
  try extract_lets
  repeat' first
    | with_reducible assumption
    | with_reducible refine openLoop_keeps (k.sub (by decide)) _ ?_
    | with_reducible refine setMove_keeps (k.sub (by decide)) _ _ ?_
    | with_reducible refine writeFields_keeps (k.sub (by decide)) _ _ _ _ ?_
    | with_reducible refine ite_keeps ?_ ?_

theorem driftTimers_keeps {P : State → Prop} (k : Closed P [.mc]) (s : State) (temps : List ℤ) (h : P s) :
    P (driftTimers s temps) := by
  unfold driftTimers
  try extract_lets
  repeat' first
    | with_reducible assumption
    | with_reducible refine queueTimers_keeps (k.sub (by decide)) _ _ ?_
    | extract_lets
    | with_reducible refine k.mc (by decide) ?_
    | rw [withMc_eq]
    | dsimp +zetaDelta only

theorem execCalIntervalExpiry_keeps {P : State → Prop} (k : Closed P [.mc]) (t : Timer) (s : State) (h : P s) :
    Answers P (execCalIntervalExpiry t s) := by
  unfold execCalIntervalExpiry
  try extract_lets
  repeat' first
    | with_reducible assumption
    | with_reducible refine queueTimers_keeps (k.sub (by decide)) _ _ ?_
    | with_reducible refine answers_next ?_

theorem execCalNow_keeps {P : State → Prop} (k : Closed P [.regs, .fifoHolds, .hif, .mc, .drawn]) (s : State) (h : P s) :
    Answers P (execCalNow s) := by
  unfold execCalNow
  try extract_lets
  repeat' first
    | with_reducible assumption
    | with_reducible refine queueTimers_keeps (k.sub (by decide)) _ _ ?_
    | with_reducible refine ifPermitted_keeps (k.sub (by decide)) _ _ _ _ _ _ ?_ ?_
    | with_reducible refine answers_next ?_

theorem takePower_keeps {P : State → Prop} (k : Closed P [.regs, .mc]) (s : State) (p : ℕ) (h : P s) :
    P (takePower s p) := by
  unfold takePower
  try extract_lets
  repeat' first
    | with_reducible assumption
    | with_reducible refine count_keeps (k.sub (by decide)) _ _ _ _ ?_
    | with_reducible refine k.regs (by decide) ?_
    | extract_lets
    | with_reducible refine k.mc (by decide) ?_
    | rw [withMc_eq]
    | dsimp +zetaDelta only

theorem warn_keeps {P : State → Prop} (k : Closed P [.regs, .fifoHolds, .hif, .mc, .drawn]) (s : State) (hot : ℤ) (h : P s) :
    P (warn s hot) := by
  unfold warn
  try extract_lets
  repeat' first
    | with_reducible assumption
    | with_reducible refine k.regs (by decide) ?_
    | with_reducible refine setSticky_keeps (k.sub (by decide)) _ _ _ ?_
    | with_reducible refine ite_keeps ?_ ?_
    | extract_lets
    | with_reducible refine k.mc (by decide) ?_
    | rw [withMc_eq]
    | dsimp +zetaDelta only

theorem setTemp_keeps {P : State → Prop} (k : Closed P [.regs, .drawn]) (s : State) (f : Fld) (t : ℤ) (h : P s) :
    P (setTemp s f t) := by
  unfold setTemp
  try extract_lets
  repeat' first
    | with_reducible assumption
    | with_reducible refine draw_keeps (k.sub (by decide)) _ ?_
    | with_reducible refine k.regs (by decide) ?_
    | with_reducible refine ite_keeps ?_ ?_

theorem thermal_keeps {P : State → Prop} (k : Closed P [.regs, .fifoHolds, .hif, .mc, .drawn]) (s : State) (temps : List ℤ) (h : P s) :
    P (thermal s temps) := by
  unfold thermal
  try extract_lets
  repeat' first
    | with_reducible assumption
    | with_reducible refine setSticky_keeps (k.sub (by decide)) _ _ _ ?_
    | with_reducible refine k.regs (by decide) ?_
    | with_reducible refine warn_keeps (k.sub (by decide)) _ _ ?_
    | with_reducible refine setTemp_keeps (k.sub (by decide)) _ _ _ ?_
    | with_reducible refine ite_keeps ?_ ?_

theorem raiseTarget_keeps {P : State → Prop} (k : Closed P [.regs, .mc, .drawn]) (s : State) (step : ℕ) (vset : ℕ) (h : P s) :
    P (raiseTarget s step vset) := by
  unfold raiseTarget
  try extract_lets
  repeat' first
    | with_reducible assumption
    | with_reducible refine setTarget_keeps (k.sub (by decide)) _ _ ?_
    | with_reducible refine setCapLimit_keeps (k.sub (by decide)) _ _ ?_
    | with_reducible refine ite_keeps ?_ ?_

theorem powerLoop_keeps {P : State → Prop} (k : Closed P [.regs, .fifoHolds, .hif, .mc, .drawn]) (s : State) (h : P s) :
    P (powerLoop s) := by
  unfold powerLoop
  try extract_lets
  repeat' first
    | with_reducible assumption
    | with_reducible refine raiseTarget_keeps (k.sub (by decide)) _ _ _ ?_
    | with_reducible refine setTarget_keeps (k.sub (by decide)) _ _ ?_
    | with_reducible refine setMove_keeps (k.sub (by decide)) _ _ ?_
    | with_reducible refine openLoop_keeps (k.sub (by decide)) _ ?_
    | with_reducible refine capUnmet_keeps (k.sub (by decide)) _ ?_
    | with_reducible refine ite_keeps ?_ ?_

theorem takeRail_keeps {P : State → Prop} (k : Closed P [.regs, .mc]) (s : State) (r : ℕ) (answer : Option (BitVec 16 × BitVec 16)) (h : P s) :
    P (takeRail s r answer) := by
  unfold takeRail
  try extract_lets
  repeat' first
    | with_reducible assumption
    | with_reducible refine k.regs (by decide) ?_
    | extract_lets
    | with_reducible refine k.mc (by decide) ?_
    | rw [withMc_eq]
    | split
    | dsimp +zetaDelta only

theorem takeSample_keeps {P : State → Prop} (k : Closed P [.regs, .mc, .drawn]) (s : State) (x : Sensors) (h : P s) :
    P (takeSample s x) := by
  unfold takeSample
  try extract_lets
  repeat' first
    | with_reducible assumption
    | with_reducible refine k.regs (by decide) ?_
    | with_reducible refine takeRail_keeps (k.sub (by decide)) _ _ _ ?_
    | with_reducible refine setTemp_keeps (k.sub (by decide)) _ _ _ ?_
    | with_reducible refine foldl_keeps (fun _ _ _ => ?_) ?_

theorem execPowerLoopPeriod_keeps {P : State → Prop} (k : Closed P [.regs, .fifoHolds, .hif, .mc, .drawn]) (x : Sensors) (s : State) (h : P s) :
    Answers P (execPowerLoopPeriod x s) := by
  unfold execPowerLoopPeriod
  try extract_lets
  repeat' first
    | with_reducible assumption
    | with_reducible refine takePower_keeps (k.sub (by decide)) _ _ ?_
    | with_reducible refine thermal_keeps (k.sub (by decide)) _ _ ?_
    | with_reducible refine powerLoop_keeps (k.sub (by decide)) _ ?_
    | with_reducible refine driftTimers_keeps (k.sub (by decide)) _ _ ?_
    | with_reducible refine takeSample_keeps (k.sub (by decide)) _ _ ?_
    | with_reducible refine answers_next ?_
    | with_reducible exact answers_fault
    | with_reducible refine ite_answers ?_ ?_

theorem execSagWarnExit_keeps {P : State → Prop} (k : Closed P [.regs, .mc]) (s : State) (h : P s) :
    Answers P (execSagWarnExit s) := by
  unfold execSagWarnExit
  try extract_lets
  repeat' first
    | with_reducible assumption
    | with_reducible refine k.regs (by decide) ?_
    | with_reducible refine answers_next ?_
    | with_reducible refine ite_answers ?_ ?_
    | extract_lets
    | with_reducible refine k.mc (by decide) ?_
    | rw [withMc_eq]

theorem execSagWarnEntry_keeps {P : State → Prop} (k : Closed P [.regs, .fifoHolds, .hif, .mc, .drawn]) (s : State) (h : P s) :
    Answers P (execSagWarnEntry s) := by
  unfold execSagWarnEntry
  try extract_lets
  repeat' first
    | with_reducible assumption
    | with_reducible refine setSticky_keeps (k.sub (by decide)) _ _ _ ?_
    | with_reducible refine k.regs (by decide) ?_
    | with_reducible refine answers_next ?_
    | with_reducible refine ite_answers ?_ ?_
    | extract_lets
    | with_reducible refine k.mc (by decide) ?_
    | rw [withMc_eq]
    | dsimp +zetaDelta only

theorem execMcConfigWrite_keeps {P : State → Prop} (k : Closed P [.regs, .fifoHolds, .hif, .mc, .drawn]) (off : BitVec 12) (value : BitVec 32) (s : State) (h : P s) :
    Answers P (execMcConfigWrite off value s) := by
  unfold execMcConfigWrite
  try extract_lets
  repeat' first
    | with_reducible assumption
    | with_reducible refine setSticky_keeps (k.sub (by decide)) _ _ _ ?_
    | with_reducible refine configure_keeps (k.sub (by decide)) _ _ _ ?_
    | with_reducible refine ifPermitted_keeps (k.sub (by decide)) _ _ _ _ _ _ ?_ ?_
    | with_reducible refine answers_next ?_
    | with_reducible refine ite_keeps ?_ ?_

theorem execRefoscMonitorWindow_keeps {P : State → Prop} (k : Closed P [.regs, .fifoHolds, .hif, .mc, .drawn]) (periods : ℕ) (s : State) (h : P s) :
    Answers P (execRefoscMonitorWindow periods s) := by
  unfold execRefoscMonitorWindow
  try extract_lets
  repeat' first
    | with_reducible assumption
    | with_reducible refine setSticky_keeps (k.sub (by decide)) _ _ _ ?_
    | with_reducible refine k.regs (by decide) ?_
    | with_reducible refine answers_next ?_
    | with_reducible refine ite_answers ?_ ?_
    | extract_lets
    | with_reducible refine k.mc (by decide) ?_
    | rw [withMc_eq]

theorem execRefoscReturn_keeps {P : State → Prop} (k : Closed P [.regs, .mc]) (s : State) (h : P s) :
    Answers P (execRefoscReturn s) := by
  unfold execRefoscReturn
  try extract_lets
  repeat' first
    | with_reducible assumption
    | with_reducible refine k.regs (by decide) ?_
    | with_reducible refine queueTimers_keeps (k.sub (by decide)) _ _ ?_
    | with_reducible refine answers_next ?_
    | with_reducible refine ite_answers ?_ ?_

theorem execRegulatorAnswersAgain_keeps {P : State → Prop} (k : Closed P [.regs, .mc]) (rail : Fin 6) (s : State) (h : P s) :
    Answers P (execRegulatorAnswersAgain rail s) := by
  unfold execRegulatorAnswersAgain
  try extract_lets
  repeat' first
    | with_reducible assumption
    | with_reducible refine setCapLimit_keeps (k.sub (by decide)) _ _ ?_
    | with_reducible refine answers_next ?_
    | with_reducible refine ite_answers ?_ ?_
    | with_reducible refine ite_keeps ?_ ?_
    | extract_lets
    | with_reducible refine k.mc (by decide) ?_
    | rw [withMc_eq]
    | dsimp +zetaDelta only

theorem execRegulatorSilent_keeps {P : State → Prop} (k : Closed P [.regs, .fifoHolds, .hif, .mc, .drawn]) (rail : Fin 6) (s : State) (h : P s) :
    Answers P (execRegulatorSilent rail s) := by
  unfold execRegulatorSilent
  try extract_lets
  repeat' first
    | with_reducible assumption
    | with_reducible refine capUnmet_keeps (k.sub (by decide)) _ ?_
    | with_reducible refine setSticky_keeps (k.sub (by decide)) _ _ _ ?_
    | with_reducible refine answers_next ?_
    | with_reducible refine ite_answers ?_ ?_
    | extract_lets
    | with_reducible refine k.mc (by decide) ?_
    | rw [withMc_eq]
    | dsimp +zetaDelta only

theorem execVcoreAboveVwarn_keeps {P : State → Prop} (k : Closed P [.mc]) (mv : BitVec 10) (s : State) (h : P s) :
    Answers P (execVcoreAboveVwarn mv s) := by
  unfold execVcoreAboveVwarn
  try extract_lets
  repeat' first
    | with_reducible assumption
    | with_reducible refine answers_next ?_
    | with_reducible refine ite_answers ?_ ?_
    | extract_lets
    | with_reducible refine k.mc (by decide) ?_
    | rw [withMc_eq]

theorem execVcoreBelowVwarn_keeps {P : State → Prop} (k : Closed P [.mc]) (mv : BitVec 10) (s : State) (h : P s) :
    Answers P (execVcoreBelowVwarn mv s) := by
  unfold execVcoreBelowVwarn
  try extract_lets
  repeat' first
    | with_reducible assumption
    | with_reducible refine answers_next ?_
    | with_reducible refine ite_answers ?_ ?_
    | extract_lets
    | with_reducible refine k.mc (by decide) ?_
    | rw [withMc_eq]

theorem updJob_keeps {P : State → Prop} (k : Closed P [.disp]) (s : State) (sw : ℕ) (slot : ℕ) (f : Job → Job) (h : P s) :
    P (updJob s sw slot f) := by
  unfold updJob
  try extract_lets
  repeat' first
    | with_reducible assumption
    | with_reducible refine k.disp (by decide) ?_
    | rw [withDisp_eq]

theorem setStickies_keeps {P : State → Prop} (k : Closed P [.regs, .fifoHolds, .hif, .drawn]) (s : State) (p : Page) (mask : ℕ) (h : P s) :
    P (setStickies s p mask) := by
  unfold setStickies
  try extract_lets
  repeat' first
    | with_reducible assumption
    | with_reducible refine setSticky_keeps (k.sub (by decide)) _ _ _ ?_
    | with_reducible refine ite_keeps ?_ ?_
    | with_reducible refine foldl_keeps (fun _ _ _ => ?_) ?_

theorem jobFlags_keeps {P : State → Prop} (k : Closed P [.disp]) (s : State) (sw : ℕ) (slot : ℕ) (mask : ℕ) (h : P s) :
    P (jobFlags s sw slot mask) := by
  unfold jobFlags
  try extract_lets
  repeat' first
    | with_reducible assumption
    | with_reducible refine updJob_keeps (k.sub (by decide)) _ _ _ _ ?_

theorem arrFlags_keeps {P : State → Prop} (k : Closed P [.regs, .fifoHolds, .disp, .hif, .drawn]) (s : State) (hh : ℕ) (g : ℕ) (sw : ℕ) (slot : ℕ) (mask : ℕ) (h : P s) :
    P (arrFlags s hh g sw slot mask) := by
  unfold arrFlags
  try extract_lets
  repeat' first
    | with_reducible assumption
    | with_reducible refine setStickies_keeps (k.sub (by decide)) _ _ _ ?_
    | with_reducible refine jobFlags_keeps (k.sub (by decide)) _ _ _ _ ?_

theorem quFlags_keeps {P : State → Prop} (k : Closed P [.regs, .fifoHolds, .disp, .hif, .drawn]) (s : State) (hh : ℕ) (g : ℕ) (sw : ℕ) (slot : ℕ) (mask : ℕ) (h : P s) :
    P (quFlags s hh g sw slot mask) := by
  unfold quFlags
  try extract_lets
  repeat' first
    | with_reducible assumption
    | with_reducible refine setStickies_keeps (k.sub (by decide)) _ _ _ ?_
    | with_reducible refine jobFlags_keeps (k.sub (by decide)) _ _ _ _ ?_

theorem dresserFlag_keeps {P : State → Prop} (k : Closed P [.regs, .fifoHolds, .disp, .hif, .drawn]) (s : State) (hh : ℕ) (sw : ℕ) (slot : ℕ) (h : P s) :
    P (dresserFlag s hh sw slot) := by
  unfold dresserFlag
  try extract_lets
  repeat' first
    | with_reducible assumption
    | with_reducible refine setSticky_keeps (k.sub (by decide)) _ _ _ ?_
    | with_reducible refine jobFlags_keeps (k.sub (by decide)) _ _ _ _ ?_

theorem veFlags_keeps {P : State → Prop} (k : Closed P [.regs, .fifoHolds, .disp, .hif, .drawn]) (s : State) (hh : ℕ) (g : ℕ) (sw : ℕ) (slot : ℕ) (mask : ℕ) (h : P s) :
    P (veFlags s hh g sw slot mask) := by
  unfold veFlags
  try extract_lets
  repeat' first
    | with_reducible assumption
    | with_reducible refine setStickies_keeps (k.sub (by decide)) _ _ _ ?_
    | with_reducible refine jobFlags_keeps (k.sub (by decide)) _ _ _ _ ?_

theorem abandonTicket_keeps {P : State → Prop} (k : Closed P [.galleries]) (s : State) (hh : ℕ) (g : ℕ) (t : Ticket) (orphans : Bool) (h : P s) :
    P (abandonTicket s hh g t orphans) := by
  unfold abandonTicket
  try extract_lets
  repeat' first
    | with_reducible assumption
    | with_reducible refine setGal_keeps (k.sub (by decide)) _ _ _ _ ?_

theorem endEntry_keeps {P : State → Prop} (k : Closed P [.stairs]) (s : State) (sw : ℕ) (slot : ℕ) (status : ℕ) (flags : ℕ) (work : ℕ) (h : P s) :
    P (endEntry s sw slot status flags work) := by
  unfold endEntry
  try extract_lets
  repeat' first
    | with_reducible assumption
    | with_reducible refine setStair_keeps (k.sub (by decide)) _ _ _ ?_
    | split

theorem releaseWaits_keeps {P : State → Prop} (k : Closed P [.disp]) (s : State) (h : P s) :
    P (releaseWaits s) := by
  unfold releaseWaits
  try extract_lets
  repeat' first
    | with_reducible assumption
    | with_reducible refine k.disp (by decide) ?_
    | rw [withDisp_eq]

theorem closeJob_keeps {P : State → Prop} (k : Closed P [.stairs, .disp, .galleries]) (s : State) (j : Job) (status : ℕ) (h : P s) :
    P (closeJob s j status) := by
  unfold closeJob
  try extract_lets
  repeat' first
    | with_reducible assumption
    | with_reducible refine releaseWaits_keeps (k.sub (by decide)) _ ?_
    | with_reducible refine endEntry_keeps (k.sub (by decide)) _ _ _ _ _ _ ?_
    | extract_lets
    | rw [withDisp_withGalleries_eq]
    | with_reducible refine k.galleries (by decide) ?_
    | with_reducible refine k.disp (by decide) ?_
    | dsimp +zetaDelta only

theorem settleJob_keeps {P : State → Prop} (k : Closed P [.stairs, .disp, .galleries]) (s : State) (sw : ℕ) (slot : ℕ) (h : P s) :
    P (settleJob s sw slot) := by
  unfold settleJob
  try extract_lets
  repeat' first
    | with_reducible assumption
    | with_reducible refine closeJob_keeps (k.sub (by decide)) _ _ _ ?_
    | with_reducible refine ite_keeps ?_ ?_
    | split

theorem endJob_keeps {P : State → Prop} (k : Closed P [.stairs, .disp, .galleries, .dressers]) (s : State) (sw : ℕ) (slot : ℕ) (status : ℕ) (h : P s) :
    P (endJob s sw slot status) := by
  unfold endJob
  try extract_lets
  repeat' first
    | with_reducible assumption
    | with_reducible refine releaseWaits_keeps (k.sub (by decide)) _ ?_
    | with_reducible refine settleJob_keeps (k.sub (by decide)) _ _ _ ?_
    | with_reducible refine abandonTicket_keeps (k.sub (by decide)) _ _ _ _ _ ?_
    | with_reducible refine updJob_keeps (k.sub (by decide)) _ _ _ _ ?_
    | with_reducible refine foldl_keeps (fun _ _ _ => ?_) ?_
    | extract_lets
    | with_reducible refine k.dressers (by decide) ?_
    | rw [withDressers_eq]
    | dsimp +zetaDelta only

theorem galleryAccessFault_keeps {P : State → Prop} (k : Closed P [.regs, .fifoHolds, .stairs, .disp, .galleries, .dressers, .hif, .fc, .drawn]) (s : State) (hh : ℕ) (g : ℕ) (sw : ℕ) (slot : ℕ) (kind : ℕ) (a : ℕ) (h : P s) :
    P (galleryAccessFault s hh g sw slot kind a) := by
  unfold galleryAccessFault
  try extract_lets
  repeat' first
    | with_reducible assumption
    | with_reducible refine report_keeps (k.sub (by decide)) _ _ _ _ ?_
    | with_reducible refine endJob_keeps (k.sub (by decide)) _ _ _ _ ?_

theorem updGroup_keeps {P : State → Prop} (k : Closed P [.galleries]) (s : State) (hh : ℕ) (g : ℕ) (slot : ℕ) (f : Group → Group) (h : P s) :
    P (updGroup s hh g slot f) := by
  unfold updGroup
  try extract_lets
  repeat' first
    | with_reducible assumption
    | with_reducible refine setGal_keeps (k.sub (by decide)) _ _ _ _ ?_

theorem readyDrain_keeps {P : State → Prop} (k : Closed P [.regs, .galleries]) (s : State) (hh : ℕ) (g : ℕ) (serial : ℕ) (tile : ℕ) (h : P s) :
    P (readyDrain s hh g serial tile) := by
  unfold readyDrain
  try extract_lets
  repeat' first
    | with_reducible assumption
    | with_reducible refine setGal_keeps (k.sub (by decide)) _ _ _ _ ?_
    | with_reducible refine count_keeps (k.sub (by decide)) _ _ _ _ ?_

theorem updTicket_keeps {P : State → Prop} (k : Closed P [.galleries]) (s : State) (hh : ℕ) (g : ℕ) (serial : ℕ) (f : Ticket → Ticket) (h : P s) :
    P (updTicket s hh g serial f) := by
  unfold updTicket
  try extract_lets
  repeat' first
    | with_reducible assumption
    | with_reducible refine setGal_keeps (k.sub (by decide)) _ _ _ _ ?_

theorem setQuiesce_keeps {P : State → Prop} (k : Closed P [.regs]) (s : State) (hh : ℕ) (g : ℕ) (v : ℕ) (h : P s) :
    P (setQuiesce s hh g v) := by
  unfold setQuiesce
  try extract_lets
  repeat' first
    | with_reducible assumption
    | with_reducible refine k.regs (by decide) ?_

theorem readyVector_keeps {P : State → Prop} (k : Closed P [.regs, .galleries]) (s : State) (hh : ℕ) (g : ℕ) (serial : ℕ) (h : P s) :
    P (readyVector s hh g serial) := by
  unfold readyVector
  try extract_lets
  repeat' first
    | with_reducible assumption
    | with_reducible refine setGal_keeps (k.sub (by decide)) _ _ _ _ ?_
    | with_reducible refine bump_keeps (k.sub (by decide)) _ _ _ ?_
    | with_reducible refine ite_keeps ?_ ?_

theorem returnUnits_keeps {P : State → Prop} (k : Closed P [.regs, .disp]) (hh : ℕ) (byFault : Bool) (s : State) (t : Ticket) (h : P s) :
    P (returnUnits hh byFault s t) := by
  unfold returnUnits
  try extract_lets
  repeat' first
    | with_reducible assumption
    | with_reducible refine updJob_keeps (k.sub (by decide)) _ _ _ _ ?_
    | with_reducible refine count_keeps (k.sub (by decide)) _ _ _ _ ?_

theorem noteRan_keeps {P : State → Prop} (k : Closed P [.disp]) (s : State) (hh : ℕ) (g : ℕ) (t : Ticket) (h : P s) :
    P (noteRan s hh g t) := by
  unfold noteRan
  try extract_lets
  repeat' first
    | with_reducible assumption
    | with_reducible refine updJob_keeps (k.sub (by decide)) _ _ _ _ ?_
    | with_reducible refine ite_keeps ?_ ?_

theorem returnTickets_keeps {P : State → Prop} (k : Closed P [.regs, .stairs, .disp, .galleries, .dressers]) (s : State) (hh : ℕ) (g : ℕ) (byFault : Bool) (h : P s) :
    P (returnTickets s hh g byFault) := by
  unfold returnTickets
  try extract_lets
  repeat' first
    | with_reducible assumption
    | with_reducible refine settleJob_keeps (k.sub (by decide)) _ _ _ ?_
    | with_reducible refine endJob_keeps (k.sub (by decide)) _ _ _ _ ?_
    | with_reducible refine returnUnits_keeps (k.sub (by decide)) _ _ _ _ ?_
    | with_reducible refine abandonTicket_keeps (k.sub (by decide)) _ _ _ _ _ ?_
    | with_reducible refine noteRan_keeps (k.sub (by decide)) _ _ _ _ ?_
    | with_reducible refine foldl_keeps (fun _ _ _ => ?_) ?_

theorem freePlaces_keeps {P : State → Prop} (k : Closed P [.stairs, .disp, .galleries]) (s : State) (sw : ℕ) (slot : ℕ) (n : ℕ) (h : P s) :
    P (freePlaces s sw slot n) := by
  unfold freePlaces
  try extract_lets
  repeat' first
    | with_reducible assumption
    | with_reducible refine updJob_keeps (k.sub (by decide)) _ _ _ _ ?_
    | with_reducible refine settleJob_keeps (k.sub (by decide)) _ _ _ ?_

theorem askHost_keeps {P : State → Prop} (k : Closed P [.hif]) (s : State) (who : ReadFor) (a : ℕ) (n : ℕ) (h : P s) :
    P (askHost s who a n) := by
  unfold askHost
  try extract_lets
  repeat' first
    | with_reducible assumption
    | with_reducible refine k.hif (by decide) ?_
    | rw [withHif_eq]

theorem dropReads_keeps {P : State → Prop} (k : Closed P [.hif]) (s : State) (sw : ℕ) (h : P s) :
    P (dropReads s sw) := by
  unfold dropReads
  try extract_lets
  repeat' first
    | with_reducible assumption
    | with_reducible refine k.hif (by decide) ?_
    | rw [withHif_eq]

theorem swFault_keeps {P : State → Prop} (k : Closed P [.regs, .fifoHolds, .stairs, .hif, .drawn]) (s : State) (sw : ℕ) (addr : ℕ) (code : ℕ) (h : P s) :
    P (swFault s sw addr code) := by
  unfold swFault
  try extract_lets
  repeat' first
    | with_reducible assumption
    | with_reducible refine bump_keeps (k.sub (by decide)) _ _ _ ?_
    | with_reducible refine setSticky_keeps (k.sub (by decide)) _ _ _ ?_
    | with_reducible refine k.regs (by decide) ?_
    | with_reducible refine setStair_keeps (k.sub (by decide)) _ _ _ ?_
    | with_reducible refine dropReads_keeps (k.sub (by decide)) _ _ ?_

theorem advance_keeps {P : State → Prop} (k : Closed P [.regs, .fifoHolds, .stairs, .hif, .drawn]) (s : State) (sw : ℕ) (h : P s) :
    P (advance s sw) := by
  unfold advance
  try extract_lets
  repeat' first
    | with_reducible assumption
    | with_reducible refine askHost_keeps (k.sub (by decide)) _ _ _ _ ?_
    | with_reducible refine swFault_keeps (k.sub (by decide)) _ _ _ _ ?_
    | with_reducible refine setStair_keeps (k.sub (by decide)) _ _ _ ?_
    | with_reducible refine ite_keeps ?_ ?_
    | extract_lets
    | split

theorem setBody_keeps {P : State → Prop} (k : Closed P [.stairs]) (s : State) (sw : ℕ) (slot : ℕ) (b : Body) (h : P s) :
    P (setBody s sw slot b) := by
  unfold setBody
  try extract_lets
  repeat' first
    | with_reducible assumption
    | with_reducible refine setStair_keeps (k.sub (by decide)) _ _ _ ?_
    | split

theorem setStage_keeps {P : State → Prop} (k : Closed P [.stairs]) (s : State) (sw : ℕ) (c : Current) (g : Stage) (h : P s) :
    P (setStage s sw c g) := by
  unfold setStage
  try extract_lets
  repeat' first
    | with_reducible assumption
    | with_reducible refine setStair_keeps (k.sub (by decide)) _ _ _ ?_

theorem beginEntry_keeps {P : State → Prop} (k : Closed P [.regs, .fifoHolds, .stairs, .hif, .drawn]) (s : State) (sw : ℕ) (op : ℕ) (body : State → ℕ → Current → State) (hb : ∀ y0 y1 y2, P y0 → P (body y0 y1 y2)) (h : P s) :
    P (beginEntry s sw op body) := by
  unfold beginEntry
  try extract_lets
  repeat' first
    | with_reducible assumption
    | with_reducible refine bump_keeps (k.sub (by decide)) _ _ _ ?_
    | with_reducible refine setStage_keeps (k.sub (by decide)) _ _ _ _ ?_
    | with_reducible refine swFault_keeps (k.sub (by decide)) _ _ _ _ ?_
    | with_reducible refine hb _ _ _ ?_
    | with_reducible refine ite_keeps ?_ ?_
    | extract_lets
    | split

theorem noteError_keeps {P : State → Prop} (k : Closed P [.regs, .fifoHolds, .stairs, .hif, .drawn]) (s : State) (sw : ℕ) (status : ℕ) (h : P s) :
    P (noteError s sw status) := by
  unfold noteError
  try extract_lets
  repeat' first
    | with_reducible assumption
    | with_reducible refine bump_keeps (k.sub (by decide)) _ _ _ ?_
    | with_reducible refine setSticky_keeps (k.sub (by decide)) _ _ _ ?_
    | with_reducible refine setStair_keeps (k.sub (by decide)) _ _ _ ?_
    | with_reducible refine ite_keeps ?_ ?_

theorem closeEntry_keeps {P : State → Prop} (k : Closed P [.regs, .fifoHolds, .stairs, .hif, .drawn]) (s : State) (sw : ℕ) (e : ℕ) (status : ℕ) (h : P s) :
    P (closeEntry s sw e status) := by
  unfold closeEntry
  try extract_lets
  repeat' first
    | with_reducible assumption
    | with_reducible refine signal_keeps (k.sub (by decide)) _ _ ?_
    | with_reducible refine noteError_keeps (k.sub (by decide)) _ _ _ ?_
    | with_reducible refine ite_keeps ?_ ?_

theorem closeSlot_keeps {P : State → Prop} (k : Closed P [.regs, .fifoHolds, .stairs, .hif, .drawn]) (s : State) (sw : ℕ) (slot : ℕ) (e : ℕ) (status : ℕ) (h : P s) :
    P (closeSlot s sw slot e status) := by
  unfold closeSlot
  try extract_lets
  repeat' first
    | with_reducible assumption
    | with_reducible refine setStair_keeps (k.sub (by decide)) _ _ _ ?_
    | with_reducible refine closeEntry_keeps (k.sub (by decide)) _ _ _ _ ?_

theorem cmdWrite_keeps {P : State → Prop} (k : Closed P [.regs, .fifoHolds, .sector, .codes, .stairs, .drams, .hif, .fc, .drawn]) (s : State) (o : Owner) (a : ℕ) (n : ℕ) (v : ℕ) (h : P s) :
    P (cmdWrite s o a n v).1 := by
  unfold cmdWrite
  try extract_lets
  repeat' first
    | with_reducible assumption
    | with_reducible refine memWrite_keeps (k.sub (by decide)) _ _ _ _ _ ?_
    | with_reducible refine post_keeps (k.sub (by decide)) _ _ _ ?_
    | with_reducible refine ite_fst_keeps ?_ ?_

theorem writeRecord_keeps {P : State → Prop} (k : Closed P [.regs, .fifoHolds, .sector, .codes, .stairs, .drams, .hif, .fc, .drawn]) (s : State) (sw : ℕ) (own : ℕ) (slot : ℕ) (e : ℕ) (addr : ℕ) (status : ℕ) (flags : ℕ) (work : ℕ) (h : P s) :
    P (writeRecord s sw own slot e addr status flags work).1 := by
  unfold writeRecord
  try extract_lets
  repeat' first
    | with_reducible assumption
    | with_reducible refine setSticky_keeps (k.sub (by decide)) _ _ _ ?_
    | with_reducible refine bump_keeps (k.sub (by decide)) _ _ _ ?_
    | with_reducible refine setStair_keeps (k.sub (by decide)) _ _ _ ?_
    | with_reducible refine cmdWrite_keeps (k.sub (by decide)) _ _ _ _ _ ?_
    | with_reducible refine ite_fst_keeps ?_ ?_
    | with_reducible refine fst_keeps ?_ (by with_reducible assumption)
    | extract_lets
    | split

theorem completeSlot_keeps {P : State → Prop} (k : Closed P [.regs, .fifoHolds, .sector, .codes, .stairs, .drams, .hif, .fc, .drawn]) (s : State) (sw : ℕ) (slot : ℕ) (t : Tracked) (status : ℕ) (flags : ℕ) (work : ℕ) (h : P s) :
    P (completeSlot s sw slot t status flags work) := by
  unfold completeSlot
  try extract_lets
  repeat' first
    | with_reducible assumption
    | with_reducible refine closeSlot_keeps (k.sub (by decide)) _ _ _ _ _ ?_
    | with_reducible refine setBody_keeps (k.sub (by decide)) _ _ _ _ ?_
    | with_reducible refine writeRecord_keeps (k.sub (by decide)) _ _ _ _ _ _ _ _ _ ?_
    | with_reducible refine ite_keeps ?_ ?_
    | with_reducible refine fst_keeps ?_ (by with_reducible assumption)
    | extract_lets
    | split

theorem entryArrives_keeps {P : State → Prop} (k : Closed P [.regs, .fifoHolds, .stairs, .hif, .drawn]) (s : State) (sw : ℕ) (addr : ℕ) (got : Fetched) (h : P s) :
    P (entryArrives s sw addr got) := by
  unfold entryArrives
  try extract_lets
  repeat' first
    | with_reducible assumption
    | with_reducible refine setStair_keeps (k.sub (by decide)) _ _ _ ?_
    | with_reducible refine advance_keeps (k.sub (by decide)) _ _ ?_

theorem haltList_keeps {P : State → Prop} (k : Closed P [.regs, .fifoHolds, .stairs, .hif, .drawn]) (s : State) (sw : ℕ) (h : P s) :
    P (haltList s sw) := by
  unfold haltList
  try extract_lets
  repeat' first
    | with_reducible assumption
    | with_reducible refine setStair_keeps (k.sub (by decide)) _ _ _ ?_
    | with_reducible refine setSticky_keeps (k.sub (by decide)) _ _ _ ?_
    | with_reducible refine ite_keeps ?_ ?_

theorem endInline_keeps {P : State → Prop} (k : Closed P [.regs, .fifoHolds, .stairs, .hif, .drawn]) (s : State) (sw : ℕ) (c : Current) (status : ℕ) (h : P s) :
    P (endInline s sw c status) := by
  unfold endInline
  try extract_lets
  repeat' first
    | with_reducible assumption
    | with_reducible refine advance_keeps (k.sub (by decide)) _ _ ?_
    | with_reducible refine haltList_keeps (k.sub (by decide)) _ _ ?_
    | with_reducible refine setStair_keeps (k.sub (by decide)) _ _ _ ?_
    | with_reducible refine closeEntry_keeps (k.sub (by decide)) _ _ _ _ ?_
    | with_reducible refine ite_keeps ?_ ?_

theorem startEntry_keeps {P : State → Prop} (k : Closed P [.regs]) (s : State) (sw : ℕ) (c : Current) (h : P s) :
    P (startEntry s sw c) := by
  unfold startEntry
  try extract_lets
  repeat' first
    | with_reducible assumption
    | with_reducible refine bump_keeps (k.sub (by decide)) _ _ _ ?_
    | with_reducible refine k.regs (by decide) ?_

theorem holdSlot_keeps {P : State → Prop} (k : Closed P [.regs, .fifoHolds, .stairs, .hif, .drawn]) (s : State) (sw : ℕ) (c : Current) (slot : ℕ) (body : Body) (h : P s) :
    P (holdSlot s sw c slot body) := by
  unfold holdSlot
  try extract_lets
  repeat' first
    | with_reducible assumption
    | with_reducible refine setStair_keeps (k.sub (by decide)) _ _ _ ?_
    | with_reducible refine advance_keeps (k.sub (by decide)) _ _ ?_
    | with_reducible refine startEntry_keeps (k.sub (by decide)) _ _ _ ?_

theorem noteRecord_keeps {P : State → Prop} (k : Closed P [.regs]) (s : State) (sw : ℕ) (entered : Bool) (h : P s) :
    P (noteRecord s sw entered) := by
  unfold noteRecord
  try extract_lets
  repeat' first
    | with_reducible assumption
    | with_reducible refine bump_keeps (k.sub (by decide)) _ _ _ ?_
    | with_reducible refine ite_keeps ?_ ?_

theorem settleSlot_keeps {P : State → Prop} (k : Closed P [.regs, .fifoHolds, .stairs, .hif, .drawn]) (entered : Bool) (sw : ℕ) (s : State) (e : ℕ × Tracked) (h : P s) :
    P (settleSlot entered sw s e) := by
  unfold settleSlot
  try extract_lets
  repeat' first
    | with_reducible assumption
    | with_reducible refine noteRecord_keeps (k.sub (by decide)) _ _ _ ?_
    | with_reducible refine closeSlot_keeps (k.sub (by decide)) _ _ _ _ _ ?_
    | with_reducible refine ite_keeps ?_ ?_
    | split

theorem finishInline_keeps {P : State → Prop} (k : Closed P [.regs, .fifoHolds, .sector, .codes, .stairs, .drams, .hif, .fc, .drawn]) (s : State) (sw : ℕ) (c : Current) (status : ℕ) (h : P s) :
    P (finishInline s sw c status) := by
  unfold finishInline
  try extract_lets
  repeat' first
    | with_reducible assumption
    | with_reducible refine endInline_keeps (k.sub (by decide)) _ _ _ _ ?_
    | with_reducible refine setStage_keeps (k.sub (by decide)) _ _ _ _ ?_
    | with_reducible refine setStair_keeps (k.sub (by decide)) _ _ _ ?_
    | with_reducible refine writeRecord_keeps (k.sub (by decide)) _ _ _ _ _ _ _ _ _ ?_
    | with_reducible refine fst_keeps ?_ (by with_reducible assumption)
    | split

theorem settleInline_keeps {P : State → Prop} (k : Closed P [.regs, .fifoHolds, .sector, .codes, .stairs, .drams, .hif, .fc, .drawn]) (entered : Bool) (s : State) (sw : ℕ) (h : P s) :
    P (settleInline entered s sw) := by
  unfold settleInline
  try extract_lets
  repeat' first
    | with_reducible assumption
    | with_reducible refine noteRecord_keeps (k.sub (by decide)) _ _ _ ?_
    | with_reducible refine endInline_keeps (k.sub (by decide)) _ _ _ _ ?_
    | with_reducible refine finishInline_keeps (k.sub (by decide)) _ _ _ _ ?_
    | with_reducible refine ite_keeps ?_ ?_
    | split

theorem settleWrites_keeps {P : State → Prop} (k : Closed P [.regs, .fifoHolds, .sector, .codes, .stairs, .drams, .hif, .fc, .drawn]) (s : State) (entered : Bool) (h : P s) :
    P (settleWrites s entered) := by
  unfold settleWrites
  try extract_lets
  repeat' first
    | with_reducible assumption
    | with_reducible refine settleSlot_keeps (k.sub (by decide)) _ _ _ _ ?_
    | with_reducible refine settleInline_keeps (k.sub (by decide)) _ _ _ ?_
    | with_reducible refine foldl_keeps (fun _ _ _ => ?_) ?_

theorem issueFetch_keeps {P : State → Prop} (k : Closed P [.regs, .fifoHolds, .stairs, .hif, .drawn]) (s : State) (sw : ℕ) (h : P s) :
    P (issueFetch s sw) := by
  unfold issueFetch
  try extract_lets
  repeat' first
    | with_reducible assumption
    | with_reducible refine swFault_keeps (k.sub (by decide)) _ _ _ _ ?_
    | with_reducible refine askHost_keeps (k.sub (by decide)) _ _ _ _ ?_
    | with_reducible refine setStair_keeps (k.sub (by decide)) _ _ _ ?_
    | with_reducible refine ite_keeps ?_ ?_
    | split

end Sys2Proof.Machine
end

