-- ==== Sys2Proof/Laws/KeepsArrays.lean ====
section
/-! SUPPORT. What each operation can change: the stairwells, the dispatcher and the galleries. A lemma names the parts of the
state its operation can change (Laws/Keeps.lean). -/

namespace Sys2Proof.Machine

theorem askPiece_keeps {P : State → Prop} (k : Closed P [.stairs, .hif]) (s : State) (sw : ℕ) (slot : ℕ) (e : ℕ) (done : ℕ) (h : P s) :
    P (askPiece s sw slot e done) := by
  unfold askPiece
  try extract_lets
  repeat' first
    | with_reducible assumption
    | with_reducible refine setBody_keeps (k.sub (by decide)) _ _ _ _ ?_
    | with_reducible refine askHost_keeps (k.sub (by decide)) _ _ _ _ ?_

theorem pieceArrives_keeps {P : State → Prop} (k : Closed P [.stairs]) (s : State) (sw : ℕ) (slot : ℕ) (off : ℕ) (got : Option ℕ) (h : P s) :
    P (pieceArrives s sw slot off got) := by
  unfold pieceArrives
  try extract_lets
  repeat' first
    | with_reducible assumption
    | with_reducible refine setBody_keeps (k.sub (by decide)) _ _ _ _ ?_
    | with_reducible refine endEntry_keeps (k.sub (by decide)) _ _ _ _ _ _ ?_
    | with_reducible refine ite_keeps ?_ ?_
    | split

theorem setWait_keeps {P : State → Prop} (k : Closed P [.stairs]) (s : State) (sw : ℕ) (kk : Wait) (h : P s) :
    P (setWait s sw kk) := by
  unfold setWait
  try extract_lets
  repeat' first
    | with_reducible assumption
    | with_reducible refine setStair_keeps (k.sub (by decide)) _ _ _ ?_

theorem descriptorArrives_keeps {P : State → Prop} (k : Closed P [.stairs]) (s : State) (sw : ℕ) (slot : ℕ) (got : Option ℕ) (h : P s) :
    P (descriptorArrives s sw slot got) := by
  unfold descriptorArrives
  try extract_lets
  repeat' first
    | with_reducible assumption
    | with_reducible refine setBody_keeps (k.sub (by decide)) _ _ _ _ ?_
    | with_reducible refine endEntry_keeps (k.sub (by decide)) _ _ _ _ _ _ ?_
    | with_reducible refine ite_keeps ?_ ?_
    | extract_lets
    | split

theorem execBadOpcode_keeps {P : State → Prop} (k : Closed P [.regs, .fifoHolds, .stairs, .hif, .drawn]) (sw : Fin 16) (s : State) (h : P s) :
    Answers P (execBadOpcode sw s) := by
  unfold execBadOpcode
  try extract_lets
  repeat' first
    | with_reducible assumption
    | with_reducible refine swFault_keeps (k.sub (by decide)) _ _ _ _ ?_
    | with_reducible refine answers_next ?_
    | with_reducible refine ite_answers ?_ ?_
    | split

theorem putBlock_keeps {P : State → Prop} (k : Closed P [.regs, .fifoHolds, .sector, .codes, .stairs, .drams, .hif, .fc, .drawn]) (s : State) (sw : ℕ) (slot : ℕ) (e : ℕ) (done : ℕ) (asked : ℕ) (pieces : NatMap (Option ℕ)) (v : ℕ) (h : P s) :
    P (putBlock s sw slot e done asked pieces v) := by
  unfold putBlock
  try extract_lets
  repeat' first
    | with_reducible assumption
    | with_reducible refine setBody_keeps (k.sub (by decide)) _ _ _ _ ?_
    | with_reducible refine askPiece_keeps (k.sub (by decide)) _ _ _ _ _ ?_
    | with_reducible refine endEntry_keeps (k.sub (by decide)) _ _ _ _ _ _ ?_
    | with_reducible refine cmdWrite_keeps (k.sub (by decide)) _ _ _ _ _ ?_
    | with_reducible refine ite_keeps ?_ ?_

theorem moveBlock_keeps {P : State → Prop} (k : Closed P [.regs, .fifoHolds, .sector, .codes, .stairs, .drams, .hif, .fc, .drawn]) (s : State) (sw : ℕ) (slot : ℕ) (h : P s) :
    P (moveBlock s sw slot) := by
  unfold moveBlock
  try extract_lets
  repeat' first
    | with_reducible assumption
    | with_reducible refine memRead_keeps (k.sub (by decide)) _ _ _ _ ?_
    | with_reducible refine endEntry_keeps (k.sub (by decide)) _ _ _ _ _ _ ?_
    | with_reducible refine putBlock_keeps (k.sub (by decide)) _ _ _ _ _ _ _ _ ?_
    | with_reducible refine ite_keeps ?_ ?_
    | with_reducible refine fst_keeps ?_ (by with_reducible assumption)
    | extract_lets
    | split

theorem moveBlocks_keeps {P : State → Prop} (k : Closed P [.regs, .fifoHolds, .sector, .codes, .stairs, .drams, .hif, .fc, .drawn]) (sw : ℕ) (slot : ℕ) (x1 : ℕ) (x2 : State) (h : P x2) :
    P (moveBlocks sw slot x1 x2) := by
  induction x1 generalizing sw slot x2 with
  | zero => unfold moveBlocks; exact h
  | succ m ih =>
    unfold moveBlocks
    try extract_lets
    repeat' first
      | with_reducible assumption
      | with_reducible refine moveBlock_keeps (k.sub (by decide)) _ _ _ ?_
      | with_reducible apply ih

theorem startMove_keeps {P : State → Prop} (k : Closed P [.regs, .fifoHolds, .sector, .codes, .stairs, .drams, .hif, .fc, .drawn]) (blocks : ℕ) (s : State) (sw : ℕ) (c : Current) (h : P s) :
    P (startMove blocks s sw c) := by
  unfold startMove
  try extract_lets
  repeat' first
    | with_reducible assumption
    | with_reducible refine askPiece_keeps (k.sub (by decide)) _ _ _ _ _ ?_
    | with_reducible refine moveBlocks_keeps (k.sub (by decide)) _ _ _ _ ?_
    | with_reducible refine holdSlot_keeps (k.sub (by decide)) _ _ _ _ _ ?_
    | with_reducible refine ite_keeps ?_ ?_
    | split

theorem execCopy_keeps {P : State → Prop} (k : Closed P [.regs, .fifoHolds, .sector, .codes, .stairs, .drams, .hif, .fc, .drawn]) (sw : Fin 16) (slot : Option (Fin 8)) (blocks : ℕ) (s : State) (h : P s) :
    Answers P (execCopy sw slot blocks s) := by
  unfold execCopy
  try extract_lets
  repeat' first
    | with_reducible assumption
    | with_reducible refine moveBlocks_keeps (k.sub (by decide)) _ _ _ _ ?_
    | with_reducible refine startMove_keeps (k.sub (by decide)) _ _ _ _ ?_
    | with_reducible refine beginEntry_keeps (k.sub (by decide)) _ _ _ _ (fun _ _ _ _ => ?_) ?_
    | with_reducible refine answers_next ?_
    | with_reducible refine ite_answers ?_ ?_
    | split

theorem execDescriptorReadDone_keeps {P : State → Prop} (k : Closed P [.regs, .fifoHolds, .sector, .codes, .stairs, .drams, .hif, .fc, .drawn]) (sw : Fin 16) (slot : Fin 8) (s : State) (h : P s) :
    Answers P (execDescriptorReadDone sw slot s) := by
  unfold execDescriptorReadDone
  try extract_lets
  repeat' first
    | with_reducible assumption
    | with_reducible refine descriptorArrives_keeps (k.sub (by decide)) _ _ _ _ ?_
    | with_reducible refine memRead_keeps (k.sub (by decide)) _ _ _ _ ?_
    | with_reducible refine answers_next ?_
    | with_reducible refine ite_answers ?_ ?_
    | with_reducible refine fst_keeps ?_ (by with_reducible assumption)
    | extract_lets
    | split

theorem execEntryComplete_keeps {P : State → Prop} (k : Closed P [.regs, .fifoHolds, .sector, .codes, .stairs, .drams, .hif, .fc, .drawn]) (sw : Fin 16) (slot : Fin 8) (s : State) (h : P s) :
    Answers P (execEntryComplete sw slot s) := by
  unfold execEntryComplete
  try extract_lets
  repeat' first
    | with_reducible assumption
    | with_reducible refine completeSlot_keeps (k.sub (by decide)) _ _ _ _ _ _ _ ?_
    | with_reducible refine answers_next ?_
    | split

theorem execEntryFetch_keeps {P : State → Prop} (k : Closed P [.regs, .fifoHolds, .stairs, .hif, .drawn]) (sw : Fin 16) (s : State) (h : P s) :
    Answers P (execEntryFetch sw s) := by
  unfold execEntryFetch
  try extract_lets
  repeat' first
    | with_reducible assumption
    | with_reducible refine issueFetch_keeps (k.sub (by decide)) _ _ ?_
    | with_reducible refine answers_next ?_

theorem execEntryReadDone_keeps {P : State → Prop} (k : Closed P [.regs, .fifoHolds, .sector, .codes, .stairs, .drams, .hif, .fc, .drawn]) (sw : Fin 16) (s : State) (h : P s) :
    Answers P (execEntryReadDone sw s) := by
  unfold execEntryReadDone
  try extract_lets
  repeat' first
    | with_reducible assumption
    | with_reducible refine entryArrives_keeps (k.sub (by decide)) _ _ _ _ ?_
    | with_reducible refine memRead_keeps (k.sub (by decide)) _ _ _ _ ?_
    | with_reducible refine answers_next ?_
    | with_reducible refine fst_keeps ?_ (by with_reducible assumption)
    | split

theorem startHalt_keeps {P : State → Prop} (k : Closed P [.regs, .fifoHolds, .sector, .codes, .stairs, .drams, .hif, .fc, .drawn]) (s : State) (sw : ℕ) (c : Current) (h : P s) :
    P (startHalt s sw c) := by
  unfold startHalt
  try extract_lets
  repeat' first
    | with_reducible assumption
    | with_reducible refine startEntry_keeps (k.sub (by decide)) _ _ _ ?_
    | with_reducible refine finishInline_keeps (k.sub (by decide)) _ _ _ _ ?_

theorem startJump_keeps {P : State → Prop} (k : Closed P [.regs, .fifoHolds, .sector, .codes, .stairs, .drams, .hif, .fc, .drawn]) (s : State) (sw : ℕ) (c : Current) (h : P s) :
    P (startJump s sw c) := by
  unfold startJump
  try extract_lets
  repeat' first
    | with_reducible assumption
    | with_reducible refine startEntry_keeps (k.sub (by decide)) _ _ _ ?_
    | with_reducible refine k.regs (by decide) ?_
    | with_reducible refine finishInline_keeps (k.sub (by decide)) _ _ _ _ ?_

theorem startFlush_keeps {P : State → Prop} (k : Closed P [.regs, .fifoHolds, .stairs, .caches, .hif, .drawn]) (s : State) (sw : ℕ) (c : Current) (h : P s) :
    P (startFlush s sw c) := by
  unfold startFlush
  try extract_lets
  repeat' first
    | with_reducible assumption
    | with_reducible refine setCache_keeps (k.sub (by decide)) _ _ _ ?_
    | with_reducible refine holdSlot_keeps (k.sub (by decide)) _ _ _ _ _ ?_
    | with_reducible refine foldl_keeps (fun _ _ _ => ?_) ?_
    | split

theorem startSignal_keeps {P : State → Prop} (k : Closed P [.regs, .fifoHolds, .sector, .codes, .stairs, .drams, .hif, .fc, .drawn]) (s : State) (sw : ℕ) (c : Current) (h : P s) :
    P (startSignal s sw c) := by
  unfold startSignal
  try extract_lets
  repeat' first
    | with_reducible assumption
    | with_reducible refine startEntry_keeps (k.sub (by decide)) _ _ _ ?_
    | with_reducible refine finishInline_keeps (k.sub (by decide)) _ _ _ _ ?_

theorem startWrite_keeps {P : State → Prop} (k : Closed P [.regs, .fifoHolds, .sector, .codes, .stairs, .drams, .hif, .fc, .drawn]) (s : State) (sw : ℕ) (c : Current) (h : P s) :
    P (startWrite s sw c) := by
  unfold startWrite
  try extract_lets
  repeat' first
    | with_reducible assumption
    | with_reducible refine finishInline_keeps (k.sub (by decide)) _ _ _ _ ?_
    | with_reducible refine setStage_keeps (k.sub (by decide)) _ _ _ _ ?_
    | with_reducible refine startEntry_keeps (k.sub (by decide)) _ _ _ ?_
    | with_reducible refine cmdWrite_keeps (k.sub (by decide)) _ _ _ _ _ ?_
    | with_reducible refine fst_keeps ?_ (by with_reducible assumption)
    | split

theorem readWord_keeps {P : State → Prop} (k : Closed P [.hif]) (s : State) (sw : ℕ) (e : ℕ) (h : P s) :
    P (readWord s sw e) := by
  unfold readWord
  try extract_lets
  repeat' first
    | with_reducible assumption
    | with_reducible refine askHost_keeps (k.sub (by decide)) _ _ _ _ ?_
    | with_reducible refine ite_keeps ?_ ?_

theorem startWait_keeps {P : State → Prop} (k : Closed P [.regs, .stairs, .hif]) (s : State) (sw : ℕ) (c : Current) (h : P s) :
    P (startWait s sw c) := by
  unfold startWait
  try extract_lets
  repeat' first
    | with_reducible assumption
    | with_reducible refine readWord_keeps (k.sub (by decide)) _ _ _ ?_
    | with_reducible refine setStair_keeps (k.sub (by decide)) _ _ _ ?_
    | with_reducible refine startEntry_keeps (k.sub (by decide)) _ _ _ ?_

theorem startFence_keeps {P : State → Prop} (k : Closed P [.regs, .fifoHolds, .sector, .codes, .stairs, .drams, .hif, .fc, .drawn]) (s : State) (sw : ℕ) (c : Current) (h : P s) :
    P (startFence s sw c) := by
  unfold startFence
  try extract_lets
  repeat' first
    | with_reducible assumption
    | with_reducible refine startEntry_keeps (k.sub (by decide)) _ _ _ ?_
    | with_reducible refine finishInline_keeps (k.sub (by decide)) _ _ _ _ ?_
    | with_reducible refine swFault_keeps (k.sub (by decide)) _ _ _ _ ?_
    | with_reducible refine setStair_keeps (k.sub (by decide)) _ _ _ ?_
    | with_reducible refine ite_keeps ?_ ?_

theorem startJob_keeps {P : State → Prop} (k : Closed P [.regs, .fifoHolds, .stairs, .hif, .drawn]) (s : State) (sw : ℕ) (c : Current) (h : P s) :
    P (startJob s sw c) := by
  unfold startJob
  try extract_lets
  repeat' first
    | with_reducible assumption
    | with_reducible refine askHost_keeps (k.sub (by decide)) _ _ _ _ ?_
    | with_reducible refine holdSlot_keeps (k.sub (by decide)) _ _ _ _ _ ?_
    | with_reducible refine ite_keeps ?_ ?_
    | split

theorem rereadWord_keeps {P : State → Prop} (k : Closed P [.stairs, .hif]) (s : State) (sw : ℕ) (e : ℕ) (kk : Wait) (h : P s) :
    P (rereadWord s sw e kk) := by
  unfold rereadWord
  try extract_lets
  repeat' first
    | with_reducible assumption
    | with_reducible refine setWait_keeps (k.sub (by decide)) _ _ _ ?_
    | with_reducible refine readWord_keeps (k.sub (by decide)) _ _ _ ?_

theorem execWaitWordPollTimer_keeps {P : State → Prop} (k : Closed P [.stairs, .hif]) (sw : Fin 16) (s : State) (h : P s) :
    Answers P (execWaitWordPollTimer sw s) := by
  unfold execWaitWordPollTimer
  try extract_lets
  repeat' first
    | with_reducible assumption
    | with_reducible refine rereadWord_keeps (k.sub (by decide)) _ _ _ _ ?_
    | with_reducible refine answers_next ?_
    | with_reducible refine ite_answers ?_ ?_
    | split

theorem execWaitTimeout_keeps {P : State → Prop} (k : Closed P [.regs, .fifoHolds, .stairs, .hif, .drawn]) (sw : Fin 16) (s : State) (h : P s) :
    Answers P (execWaitTimeout sw s) := by
  unfold execWaitTimeout
  try extract_lets
  repeat' first
    | with_reducible assumption
    | with_reducible refine swFault_keeps (k.sub (by decide)) _ _ _ _ ?_
    | with_reducible refine answers_next ?_
    | with_reducible refine ite_answers ?_ ?_
    | split

theorem execFence_keeps {P : State → Prop} (k : Closed P [.regs, .fifoHolds, .sector, .codes, .stairs, .drams, .hif, .fc, .drawn]) (sw : Fin 16) (s : State) (h : P s) :
    Answers P (execFence sw s) := by
  unfold execFence
  try extract_lets
  repeat' first
    | with_reducible assumption
    | with_reducible refine startFence_keeps (k.sub (by decide)) _ _ _ ?_
    | with_reducible refine beginEntry_keeps (k.sub (by decide)) _ _ _ _ (fun _ _ _ _ => ?_) ?_
    | with_reducible refine answers_next ?_

theorem execFill_keeps {P : State → Prop} (k : Closed P [.regs, .fifoHolds, .sector, .codes, .stairs, .drams, .hif, .fc, .drawn]) (sw : Fin 16) (slot : Option (Fin 8)) (blocks : ℕ) (s : State) (h : P s) :
    Answers P (execFill sw slot blocks s) := by
  unfold execFill
  try extract_lets
  repeat' first
    | with_reducible assumption
    | with_reducible refine moveBlocks_keeps (k.sub (by decide)) _ _ _ _ ?_
    | with_reducible refine startMove_keeps (k.sub (by decide)) _ _ _ _ ?_
    | with_reducible refine beginEntry_keeps (k.sub (by decide)) _ _ _ _ (fun _ _ _ _ => ?_) ?_
    | with_reducible refine answers_next ?_
    | with_reducible refine ite_answers ?_ ?_
    | split

theorem execFlush_keeps {P : State → Prop} (k : Closed P [.regs, .fifoHolds, .stairs, .caches, .hif, .drawn]) (sw : Fin 16) (s : State) (h : P s) :
    Answers P (execFlush sw s) := by
  unfold execFlush
  try extract_lets
  repeat' first
    | with_reducible assumption
    | with_reducible refine startFlush_keeps (k.sub (by decide)) _ _ _ ?_
    | with_reducible refine beginEntry_keeps (k.sub (by decide)) _ _ _ _ (fun _ _ _ _ => ?_) ?_
    | with_reducible refine answers_next ?_

theorem execHalt_keeps {P : State → Prop} (k : Closed P [.regs, .fifoHolds, .sector, .codes, .stairs, .drams, .hif, .fc, .drawn]) (sw : Fin 16) (s : State) (h : P s) :
    Answers P (execHalt sw s) := by
  unfold execHalt
  try extract_lets
  repeat' first
    | with_reducible assumption
    | with_reducible refine startHalt_keeps (k.sub (by decide)) _ _ _ ?_
    | with_reducible refine beginEntry_keeps (k.sub (by decide)) _ _ _ _ (fun _ _ _ _ => ?_) ?_
    | with_reducible refine answers_next ?_

theorem execJob_keeps {P : State → Prop} (k : Closed P [.regs, .fifoHolds, .stairs, .hif, .drawn]) (sw : Fin 16) (s : State) (h : P s) :
    Answers P (execJob sw s) := by
  unfold execJob
  try extract_lets
  repeat' first
    | with_reducible assumption
    | with_reducible refine startJob_keeps (k.sub (by decide)) _ _ _ ?_
    | with_reducible refine beginEntry_keeps (k.sub (by decide)) _ _ _ _ (fun _ _ _ _ => ?_) ?_
    | with_reducible refine answers_next ?_

theorem execJump_keeps {P : State → Prop} (k : Closed P [.regs, .fifoHolds, .sector, .codes, .stairs, .drams, .hif, .fc, .drawn]) (sw : Fin 16) (s : State) (h : P s) :
    Answers P (execJump sw s) := by
  unfold execJump
  try extract_lets
  repeat' first
    | with_reducible assumption
    | with_reducible refine startJump_keeps (k.sub (by decide)) _ _ _ ?_
    | with_reducible refine beginEntry_keeps (k.sub (by decide)) _ _ _ _ (fun _ _ _ _ => ?_) ?_
    | with_reducible refine answers_next ?_

theorem swCommand_keeps {P : State → Prop} (k : Closed P [.regs, .fifoHolds, .hif, .drawn]) (s : State) (sw : ℕ) (cmd : ℕ) (body : State) (h : P s) (h1 : P body) :
    P (swCommand s sw cmd body) := by
  unfold swCommand
  try extract_lets
  repeat' first
    | with_reducible assumption
    | with_reducible refine ifPermitted_keeps (k.sub (by decide)) _ _ _ _ _ _ ?_ ?_

theorem execListPtrWrite_keeps {P : State → Prop} (k : Closed P [.regs, .staging, .fifoHolds, .hif, .drawn]) (sw : Fin 16) (path : Path) (hi : BitVec 32) (s : State) (h : P s) :
    Answers P (execListPtrWrite sw path hi s) := by
  unfold execListPtrWrite
  try extract_lets
  repeat' first
    | with_reducible assumption
    | with_reducible refine stateErr_keeps (k.sub (by decide)) _ _ ?_
    | with_reducible refine k.regs (by decide) ?_
    | with_reducible refine ifPermitted_keeps (k.sub (by decide)) _ _ _ _ _ _ ?_ ?_
    | with_reducible refine commitPair_keeps (k.sub (by decide)) _ _ _ _ _ ?_
    | with_reducible refine answers_next ?_
    | with_reducible refine ite_keeps ?_ ?_

theorem execRecordWriteFault_keeps {P : State → Prop} (k : Closed P [.regs, .fifoHolds, .sector, .codes, .stairs, .drams, .hif, .fc, .drawn]) (sw : Fin 16) (s : State) (h : P s) :
    Answers P (execRecordWriteFault sw s) := by
  unfold execRecordWriteFault
  try extract_lets
  repeat' first
    | with_reducible assumption
    | with_reducible refine completeSlot_keeps (k.sub (by decide)) _ _ _ _ _ _ _ ?_
    | with_reducible refine answers_next ?_
    | split

theorem runFrom_keeps {P : State → Prop} (k : Closed P [.regs, .fifoHolds, .stairs, .hif, .drawn]) (s : State) (sw : ℕ) (h : P s) :
    P (runFrom s sw) := by
  unfold runFrom
  try extract_lets
  repeat' first
    | with_reducible assumption
    | with_reducible refine swFault_keeps (k.sub (by decide)) _ _ _ _ ?_
    | with_reducible refine issueFetch_keeps (k.sub (by decide)) _ _ ?_
    | with_reducible refine setStair_keeps (k.sub (by decide)) _ _ _ ?_
    | with_reducible refine ite_keeps ?_ ?_

theorem execResume_keeps {P : State → Prop} (k : Closed P [.regs, .fifoHolds, .stairs, .hif, .drawn]) (sw : Fin 16) (s : State) (h : P s) :
    Answers P (execResume sw s) := by
  unfold execResume
  try extract_lets
  repeat' first
    | with_reducible assumption
    | with_reducible refine runFrom_keeps (k.sub (by decide)) _ _ ?_
    | with_reducible refine stateErr_keeps (k.sub (by decide)) _ _ ?_
    | with_reducible refine swCommand_keeps (k.sub (by decide)) _ _ _ _ ?_ ?_
    | with_reducible refine answers_next ?_
    | with_reducible refine ite_keeps ?_ ?_

theorem execStart_keeps {P : State → Prop} (k : Closed P [.regs, .fifoHolds, .stairs, .hif, .drawn]) (sw : Fin 16) (s : State) (h : P s) :
    Answers P (execStart sw s) := by
  unfold execStart
  try extract_lets
  repeat' first
    | with_reducible assumption
    | with_reducible refine k.regs (by decide) ?_
    | with_reducible refine runFrom_keeps (k.sub (by decide)) _ _ ?_
    | with_reducible refine stateErr_keeps (k.sub (by decide)) _ _ ?_
    | with_reducible refine swCommand_keeps (k.sub (by decide)) _ _ _ _ ?_ ?_
    | with_reducible refine answers_next ?_
    | with_reducible refine ite_keeps ?_ ?_

theorem execSignal_keeps {P : State → Prop} (k : Closed P [.regs, .fifoHolds, .sector, .codes, .stairs, .drams, .hif, .fc, .drawn]) (sw : Fin 16) (s : State) (h : P s) :
    Answers P (execSignal sw s) := by
  unfold execSignal
  try extract_lets
  repeat' first
    | with_reducible assumption
    | with_reducible refine startSignal_keeps (k.sub (by decide)) _ _ _ ?_
    | with_reducible refine beginEntry_keeps (k.sub (by decide)) _ _ _ _ (fun _ _ _ _ => ?_) ?_
    | with_reducible refine answers_next ?_

theorem execWaitWord_keeps {P : State → Prop} (k : Closed P [.regs, .fifoHolds, .stairs, .hif, .drawn]) (sw : Fin 16) (s : State) (h : P s) :
    Answers P (execWaitWord sw s) := by
  unfold execWaitWord
  try extract_lets
  repeat' first
    | with_reducible assumption
    | with_reducible refine startWait_keeps (k.sub (by decide)) _ _ _ ?_
    | with_reducible refine beginEntry_keeps (k.sub (by decide)) _ _ _ _ (fun _ _ _ _ => ?_) ?_
    | with_reducible refine answers_next ?_

theorem judgeWord_keeps {P : State → Prop} (k : Closed P [.regs, .fifoHolds, .sector, .codes, .stairs, .drams, .hif, .fc, .drawn]) (s : State) (sw : ℕ) (c : Current) (word : ℕ) (expiring : Bool) (h : P s) :
    P (judgeWord s sw c word expiring) := by
  unfold judgeWord
  try extract_lets
  repeat' first
    | with_reducible assumption
    | with_reducible refine setStair_keeps (k.sub (by decide)) _ _ _ ?_
    | with_reducible refine bump_keeps (k.sub (by decide)) _ _ _ ?_
    | with_reducible refine swFault_keeps (k.sub (by decide)) _ _ _ _ ?_
    | with_reducible refine finishInline_keeps (k.sub (by decide)) _ _ _ _ ?_
    | with_reducible refine ite_keeps ?_ ?_
    | split

theorem execWaitWordEvaluate_keeps {P : State → Prop} (k : Closed P [.regs, .fifoHolds, .sector, .codes, .stairs, .drams, .hif, .fc, .drawn]) (sw : Fin 16) (expiring : Bool) (s : State) (h : P s) :
    Answers P (execWaitWordEvaluate sw expiring s) := by
  unfold execWaitWordEvaluate
  try extract_lets
  repeat' first
    | with_reducible assumption
    | with_reducible refine memRead_keeps (k.sub (by decide)) _ _ _ _ ?_
    | with_reducible refine judgeWord_keeps (k.sub (by decide)) _ _ _ _ _ ?_
    | with_reducible refine swFault_keeps (k.sub (by decide)) _ _ _ _ ?_
    | with_reducible refine answers_next ?_
    | with_reducible refine ite_answers ?_ ?_
    | with_reducible refine fst_keeps ?_ (by with_reducible assumption)
    | extract_lets
    | split

theorem execWaitWordWake_keeps {P : State → Prop} (k : Closed P [.stairs, .hif]) (sw : Fin 16) (s : State) (h : P s) :
    Answers P (execWaitWordWake sw s) := by
  unfold execWaitWordWake
  try extract_lets
  repeat' first
    | with_reducible assumption
    | with_reducible refine rereadWord_keeps (k.sub (by decide)) _ _ _ _ ?_
    | with_reducible refine answers_next ?_
    | with_reducible refine ite_answers ?_ ?_
    | split

theorem execWriteWord_keeps {P : State → Prop} (k : Closed P [.regs, .fifoHolds, .sector, .codes, .stairs, .drams, .hif, .fc, .drawn]) (sw : Fin 16) (s : State) (h : P s) :
    Answers P (execWriteWord sw s) := by
  unfold execWriteWord
  try extract_lets
  repeat' first
    | with_reducible assumption
    | with_reducible refine startWrite_keeps (k.sub (by decide)) _ _ _ ?_
    | with_reducible refine beginEntry_keeps (k.sub (by decide)) _ _ _ _ (fun _ _ _ _ => ?_) ?_
    | with_reducible refine answers_next ?_

theorem refuseJob_keeps {P : State → Prop} (k : Closed P [.regs, .fifoHolds, .stairs, .disp, .galleries, .hif, .drawn]) (s : State) (j : Job) (status : ℕ) (h : P s) :
    P (refuseJob s j status) := by
  unfold refuseJob
  try extract_lets
  repeat' first
    | with_reducible assumption
    | with_reducible refine bump_keeps (k.sub (by decide)) _ _ _ ?_
    | with_reducible refine setSticky_keeps (k.sub (by decide)) _ _ _ ?_
    | with_reducible refine closeJob_keeps (k.sub (by decide)) _ _ _ ?_

theorem checkJob_keeps {P : State → Prop} (k : Closed P [.regs, .fifoHolds, .stairs, .disp, .galleries, .hif, .drawn]) (s : State) (j : Job) (h : P s) :
    P (checkJob s j) := by
  unfold checkJob
  try extract_lets
  repeat' first
    | with_reducible assumption
    | with_reducible refine updJob_keeps (k.sub (by decide)) _ _ _ _ ?_
    | with_reducible refine refuseJob_keeps (k.sub (by decide)) _ _ _ ?_
    | split

theorem prefetchRecords_keeps {P : State → Prop} (k : Closed P [.regs, .fifoHolds, .sector, .codes, .stairs, .caches, .drams, .hif, .fc, .drawn]) (s : State) (hh : ℕ) (j : Job) (panel : ℕ × ℕ) (first : ℕ) (n : ℕ) (h : P s) :
    P (prefetchRecords s hh j panel first n) := by
  unfold prefetchRecords
  try extract_lets
  repeat' first
    | with_reducible assumption
    | with_reducible refine prefetchRange_keeps (k.sub (by decide)) _ _ _ _ ?_
    | with_reducible refine ite_keeps ?_ ?_

theorem prefetchPanels_keeps {P : State → Prop} (k : Closed P [.regs, .fifoHolds, .sector, .codes, .stairs, .caches, .drams, .hif, .fc, .drawn])
    (h : ℕ) (j : Job) (n : ℕ) (l : List ℕ) (s : State) (hs : P s) : P (prefetchPanels h j n l s) := by
  induction l generalizing n s with
  | nil => exact hs
  | cons a l ih =>
    unfold prefetchPanels
    exact ite_keeps hs (ih _ _ (prefetchRecords_keeps (k.sub (by decide)) _ _ _ _ _ _ hs))

theorem prefetchAhead_keeps {P : State → Prop} (k : Closed P [.regs, .fifoHolds, .sector, .codes, .stairs, .caches, .drams, .hif, .fc, .drawn]) (s : State) (hh : ℕ) (g : ℕ) (j : Job) (t : Ticket) (h : P s) :
    P (prefetchAhead s hh g j t) := by
  unfold prefetchAhead
  try extract_lets
  repeat' first
    | with_reducible assumption
    | with_reducible refine prefetchPanels_keeps (k.sub (by decide)) _ _ _ _ _ ?_
    | with_reducible refine ite_keeps ?_ ?_

theorem deliverTicket_keeps {P : State → Prop} (k : Closed P [.regs, .fifoHolds, .sector, .codes, .stairs, .disp, .galleries, .dressers, .caches, .drams, .hif, .fc, .drawn]) (s : State) (f : Fetcher) (j : Job) (t : Ticket) (h : P s) :
    P (deliverTicket s f j t) := by
  unfold deliverTicket
  try extract_lets
  repeat' first
    | with_reducible assumption
    | with_reducible refine prefetchAhead_keeps (k.sub (by decide)) _ _ _ _ _ ?_
    | with_reducible refine readyVector_keeps (k.sub (by decide)) _ _ _ _ ?_
    | with_reducible refine setGal_keeps (k.sub (by decide)) _ _ _ _ ?_
    | with_reducible refine ite_keeps ?_ ?_
    | extract_lets
    | rw [withDisp_withDressers_eq]
    | with_reducible refine k.dressers (by decide) ?_
    | with_reducible refine k.disp (by decide) ?_
    | split

theorem readExtents_keeps {P : State → Prop} (k : Closed P [.regs, .fifoHolds, .sector, .codes, .drams, .hif, .fc, .drawn]) (s : State) (j : Job) (h : P s) :
    P (readExtents s j).1 := by
  unfold readExtents
  try extract_lets
  repeat' first
    | with_reducible assumption
    | with_reducible refine memRead_keeps (k.sub (by decide)) _ _ _ _ ?_
    | with_reducible refine fst_keeps ?_ (by with_reducible assumption)
    | split

theorem execExtentReadDone_keeps {P : State → Prop} (k : Closed P [.regs, .fifoHolds, .sector, .codes, .stairs, .disp, .galleries, .drams, .hif, .fc, .drawn]) (sw : Fin 16) (slot : Fin 8) (s : State) (h : P s) :
    Answers P (execExtentReadDone sw slot s) := by
  unfold execExtentReadDone
  try extract_lets
  repeat' first
    | with_reducible assumption
    | with_reducible refine updJob_keeps (k.sub (by decide)) _ _ _ _ ?_
    | with_reducible refine bump_keeps (k.sub (by decide)) _ _ _ ?_
    | with_reducible refine closeJob_keeps (k.sub (by decide)) _ _ _ ?_
    | with_reducible refine refuseJob_keeps (k.sub (by decide)) _ _ _ ?_
    | with_reducible refine readExtents_keeps (k.sub (by decide)) _ _ ?_
    | with_reducible refine answers_next ?_
    | with_reducible refine ite_answers ?_ ?_
    | with_reducible refine fst_keeps ?_ (by with_reducible assumption)
    | extract_lets
    | split

theorem execIssueBlockReadDone_keeps {P : State → Prop} (k : Closed P [.regs, .fifoHolds, .sector, .codes, .stairs, .disp, .galleries, .drams, .hif, .fc, .drawn]) (sw : Fin 16) (slot : Fin 8) (s : State) (h : P s) :
    Answers P (execIssueBlockReadDone sw slot s) := by
  unfold execIssueBlockReadDone
  try extract_lets
  repeat' first
    | with_reducible assumption
    | with_reducible refine checkJob_keeps (k.sub (by decide)) _ _ ?_
    | with_reducible refine updJob_keeps (k.sub (by decide)) _ _ _ _ ?_
    | with_reducible refine refuseJob_keeps (k.sub (by decide)) _ _ _ ?_
    | with_reducible refine memRead_keeps (k.sub (by decide)) _ _ _ _ ?_
    | with_reducible refine answers_next ?_
    | with_reducible refine ite_keeps ?_ ?_
    | with_reducible refine fst_keeps ?_ (by with_reducible assumption)
    | split

theorem markIssued_keeps {P : State → Prop} (k : Closed P [.stairs]) (s : State) (sw : ℕ) (slot : ℕ) (h : P s) :
    P (markIssued s sw slot) := by
  unfold markIssued
  try extract_lets
  repeat' first
    | with_reducible assumption
    | with_reducible refine setStair_keeps (k.sub (by decide)) _ _ _ ?_

theorem execJobIssue_keeps {P : State → Prop} (k : Closed P [.regs, .fifoHolds, .stairs, .disp, .galleries, .hif, .drawn]) (s : State) (h : P s) :
    Answers P (execJobIssue s) := by
  unfold execJobIssue
  try extract_lets
  repeat' first
    | with_reducible assumption
    | with_reducible refine checkJob_keeps (k.sub (by decide)) _ _ ?_
    | with_reducible refine refuseJob_keeps (k.sub (by decide)) _ _ _ ?_
    | with_reducible refine bump_keeps (k.sub (by decide)) _ _ _ ?_
    | with_reducible refine markIssued_keeps (k.sub (by decide)) _ _ _ ?_
    | with_reducible refine answers_next ?_
    | with_reducible refine ite_answers ?_ ?_
    | extract_lets
    | with_reducible refine k.disp (by decide) ?_
    | rw [withDisp_eq]
    | split

theorem execTicketFetchRequest_keeps {P : State → Prop} (k : Closed P [.disp]) (f : Fetcher) (s : State) (h : P s) :
    Answers P (execTicketFetchRequest f s) := by
  unfold execTicketFetchRequest
  try extract_lets
  repeat' first
    | with_reducible assumption
    | with_reducible refine answers_next ?_
    | with_reducible refine ite_answers ?_ ?_
    | extract_lets
    | with_reducible refine k.disp (by decide) ?_
    | rw [withDisp_eq]

theorem execTicketGrant_keeps {P : State → Prop} (k : Closed P [.regs, .fifoHolds, .sector, .codes, .stairs, .disp, .galleries, .dressers, .caches, .drams, .hif, .fc, .drawn]) (s : State) (h : P s) :
    Answers P (execTicketGrant s) := by
  unfold execTicketGrant
  try extract_lets
  repeat' first
    | with_reducible assumption
    | with_reducible refine updJob_keeps (k.sub (by decide)) _ _ _ _ ?_
    | with_reducible refine releaseWaits_keeps (k.sub (by decide)) _ ?_
    | with_reducible refine deliverTicket_keeps (k.sub (by decide)) _ _ _ _ ?_
    | with_reducible refine bump_keeps (k.sub (by decide)) _ _ _ ?_
    | with_reducible refine answers_next ?_
    | with_reducible refine ite_answers ?_ ?_
    | extract_lets
    | with_reducible refine k.disp (by decide) ?_
    | rw [withDisp_eq]
    | split

theorem unitDone_keeps {P : State → Prop} (k : Closed P [.stairs, .disp, .galleries]) (s : State) (sw : ℕ) (slot : ℕ) (h : P s) :
    P (unitDone s sw slot) := by
  unfold unitDone
  try extract_lets
  repeat' first
    | with_reducible assumption
    | with_reducible refine updJob_keeps (k.sub (by decide)) _ _ _ _ ?_
    | with_reducible refine freePlaces_keeps (k.sub (by decide)) _ _ _ _ ?_

theorem execUnitFinish_keeps {P : State → Prop} (k : Closed P [.stairs, .disp, .galleries, .dressers]) (f : Fetcher) (s : State) (h : P s) :
    Answers P (execUnitFinish f s) := by
  unfold execUnitFinish
  try extract_lets
  repeat' first
    | with_reducible assumption
    | with_reducible refine setGal_keeps (k.sub (by decide)) _ _ _ _ ?_
    | with_reducible refine unitDone_keeps (k.sub (by decide)) _ _ _ ?_
    | with_reducible refine noteRan_keeps (k.sub (by decide)) _ _ _ _ ?_
    | with_reducible refine answers_next ?_
    | with_reducible refine ite_answers ?_ ?_
    | extract_lets
    | with_reducible refine k.dressers (by decide) ?_
    | rw [withDressers_eq]
    | split

theorem repairEvent_keeps {P : State → Prop} (k : Closed P [.mc]) (s : State) (e : RepairEvent) (h : P s) :
    P (repairEvent s e) := by
  unfold repairEvent
  try extract_lets
  repeat' first
    | with_reducible assumption
    | with_reducible refine k.mc (by decide) ?_
    | rw [withMc_eq]

theorem swapEvent_keeps {P : State → Prop} (k : Closed P [.mc]) (s : State) (hh : ℕ) (g : ℕ) (e : RepairEvent) (h : P s) :
    P (swapEvent s hh g e) := by
  unfold swapEvent
  try extract_lets
  repeat' first
    | with_reducible assumption
    | with_reducible refine repairEvent_keeps (k.sub (by decide)) _ _ ?_

theorem exhaustSpares_keeps {P : State → Prop} (k : Closed P [.regs, .fifoHolds, .hif, .mc, .drawn]) (s : State) (hh : ℕ) (g : ℕ) (h : P s) :
    P (exhaustSpares s hh g) := by
  unfold exhaustSpares
  try extract_lets
  repeat' first
    | with_reducible assumption
    | with_reducible refine setSticky_keeps (k.sub (by decide)) _ _ _ ?_
    | with_reducible refine swapEvent_keeps (k.sub (by decide)) _ _ _ _ ?_

theorem queueGalleryRow_keeps {P : State → Prop} (k : Closed P [.regs, .fifoHolds, .galleries, .hif, .mc, .drawn]) (s : State) (hh : ℕ) (g : ℕ) (row : ℕ) (h : P s) :
    P (queueGalleryRow s hh g row) := by
  unfold queueGalleryRow
  try extract_lets
  repeat' first
    | with_reducible assumption
    | with_reducible refine exhaustSpares_keeps (k.sub (by decide)) _ _ _ ?_
    | with_reducible refine repairEvent_keeps (k.sub (by decide)) _ _ ?_
    | with_reducible refine setGal_keeps (k.sub (by decide)) _ _ _ _ ?_
    | with_reducible refine ite_keeps ?_ ?_

theorem memUe_keeps {P : State → Prop} (k : Closed P [.regs, .fifoHolds, .galleries, .hif, .fc, .mc, .drawn]) (s : State) (hh : ℕ) (g : ℕ) (m : ℕ) (w : ℕ) (h : P s) :
    P (memUe s hh g m w) := by
  unfold memUe
  try extract_lets
  repeat' first
    | with_reducible assumption
    | with_reducible refine report_keeps (k.sub (by decide)) _ _ _ _ ?_
    | with_reducible refine queueGalleryRow_keeps (k.sub (by decide)) _ _ _ _ ?_
    | with_reducible refine k.regs (by decide) ?_
    | with_reducible refine bump_keeps (k.sub (by decide)) _ _ _ ?_
    | with_reducible refine setSticky_keeps (k.sub (by decide)) _ _ _ ?_
    | with_reducible refine ite_keeps ?_ ?_

theorem memCe_keeps {P : State → Prop} (k : Closed P [.regs, .fifoHolds, .galleries, .hif, .mc, .drawn]) (s : State) (hh : ℕ) (g : ℕ) (m : ℕ) (w : ℕ) (h : P s) :
    P (memCe s hh g m w) := by
  unfold memCe
  try extract_lets
  repeat' first
    | with_reducible assumption
    | with_reducible refine queueGalleryRow_keeps (k.sub (by decide)) _ _ _ _ ?_
    | with_reducible refine setGal_keeps (k.sub (by decide)) _ _ _ _ ?_
    | with_reducible refine bump_keeps (k.sub (by decide)) _ _ _ ?_
    | with_reducible refine setSticky_keeps (k.sub (by decide)) _ _ _ ?_
    | with_reducible refine ite_keeps ?_ ?_

theorem writeStore_keeps {P : State → Prop} (k : Closed P [.galleries]) (s : State) (hh : ℕ) (g : ℕ) (m : ℕ) (w : ℕ) (n : ℕ) (v : ℕ) (h : P s) :
    P (writeStore s hh g m w n v) := by
  unfold writeStore
  try extract_lets
  repeat' first
    | with_reducible assumption
    | with_reducible refine setGal_keeps (k.sub (by decide)) _ _ _ _ ?_

theorem ticketMemFault_keeps {P : State → Prop} (k : Closed P [.stairs, .disp, .galleries, .dressers]) (s : State) (t : Ticket) (h : P s) :
    P (ticketMemFault s t) := by
  unfold ticketMemFault
  try extract_lets
  repeat' first
    | with_reducible assumption
    | with_reducible refine endJob_keeps (k.sub (by decide)) _ _ _ _ ?_

theorem readStore_keeps {P : State → Prop} (k : Closed P [.regs, .fifoHolds, .galleries, .hif, .fc, .mc, .drawn]) (s : State) (hh : ℕ) (g : ℕ) (m : ℕ) (w : ℕ) (n : ℕ) (h : P s) :
    P (readStore s hh g m w n).1 := by
  unfold readStore
  try extract_lets
  repeat' first
    | with_reducible assumption
    | with_reducible refine memUe_keeps (k.sub (by decide)) _ _ _ _ _ ?_
    | split

theorem ticketRead_keeps {P : State → Prop} (k : Closed P [.regs, .fifoHolds, .sector, .codes, .stairs, .disp, .galleries, .dressers, .caches, .drams, .hif, .fc, .drawn]) (s : State) (hh : ℕ) (g : ℕ) (user : HallUser) (t : Ticket) (a : ℕ) (n : ℕ) (h : P s) :
    P (ticketRead s hh g user t a n).1 := by
  unfold ticketRead
  try extract_lets
  repeat' first
    | with_reducible assumption
    | with_reducible refine galleryAccessFault_keeps (k.sub (by decide)) _ _ _ _ _ _ _ ?_
    | with_reducible refine hcRead_keeps (k.sub (by decide)) _ _ _ _ _ ?_
    | with_reducible refine fst_keeps ?_ (by with_reducible assumption)
    | split

theorem ticketWrite_keeps {P : State → Prop} (k : Closed P [.regs, .fifoHolds, .sector, .codes, .stairs, .disp, .galleries, .dressers, .caches, .drams, .hif, .fc, .drawn]) (s : State) (hh : ℕ) (g : ℕ) (t : Ticket) (a : ℕ) (n : ℕ) (v : ℕ) (h : P s) :
    P (ticketWrite s hh g t a n v).1 := by
  unfold ticketWrite
  try extract_lets
  repeat' first
    | with_reducible assumption
    | with_reducible refine galleryAccessFault_keeps (k.sub (by decide)) _ _ _ _ _ _ _ ?_
    | with_reducible refine hcWrite_keeps (k.sub (by decide)) _ _ _ _ _ _ ?_
    | with_reducible refine fst_keeps ?_ (by with_reducible assumption)
    | split

theorem recordRepair_keeps {P : State → Prop} (k : Closed P [.regs, .fifoHolds, .hif, .mc, .drawn]) (s : State) (kind : ℕ) (hall : ℕ) (w1 : ℕ) (w2 : ℕ) (w3 : ℕ) (h : P s) :
    P (recordRepair s kind hall w1 w2 w3) := by
  unfold recordRepair
  try extract_lets
  repeat' first
    | with_reducible assumption
    | with_reducible refine setSticky_keeps (k.sub (by decide)) _ _ _ ?_
    | with_reducible refine ite_keeps ?_ ?_
    | extract_lets
    | with_reducible refine k.mc (by decide) ?_
    | rw [withMc_eq]

theorem galleryFault_keeps {P : State → Prop} (k : Closed P [.regs, .fifoHolds, .stairs, .disp, .galleries, .dressers, .hif, .fc, .mc, .drawn]) (s : State) (hh : ℕ) (g : ℕ) (code : ℕ) (h : P s) :
    P (galleryFault s hh g code) := by
  unfold galleryFault
  try extract_lets
  repeat' first
    | with_reducible assumption
    | with_reducible refine returnTickets_keeps (k.sub (by decide)) _ _ _ _ ?_
    | with_reducible refine swapEvent_keeps (k.sub (by decide)) _ _ _ _ ?_
    | with_reducible refine setGal_keeps (k.sub (by decide)) _ _ _ _ ?_
    | with_reducible refine setQuiesce_keeps (k.sub (by decide)) _ _ _ _ ?_
    | with_reducible refine setSticky_keeps (k.sub (by decide)) _ _ _ ?_
    | with_reducible refine latchFault_keeps (k.sub (by decide)) _ _ _ _ ?_

theorem handToDrain_keeps {P : State → Prop} (k : Closed P [.regs, .galleries]) (s : State) (hh : ℕ) (g : ℕ) (t : Ticket) (j : Job) (slot : ℕ) (tile : ℕ) (h : P s) :
    P (handToDrain s hh g t j slot tile) := by
  unfold handToDrain
  try extract_lets
  repeat' first
    | with_reducible assumption
    | with_reducible refine setGal_keeps (k.sub (by decide)) _ _ _ _ ?_
    | with_reducible refine readyDrain_keeps (k.sub (by decide)) _ _ _ _ _ ?_
    | with_reducible refine ite_keeps ?_ ?_

theorem judgeMisses_keeps {P : State → Prop} (k : Closed P [.regs, .fifoHolds, .disp, .hif, .drawn]) (s : State) (hh : ℕ) (g : ℕ) (gr : Group) (j : Job) (h : P s) :
    P (judgeMisses s hh g gr j) := by
  unfold judgeMisses
  try extract_lets
  repeat' first
    | with_reducible assumption
    | with_reducible refine updJob_keeps (k.sub (by decide)) _ _ _ _ ?_
    | with_reducible refine bump_keeps (k.sub (by decide)) _ _ _ ?_
    | with_reducible refine arrFlags_keeps (k.sub (by decide)) _ _ _ _ _ _ ?_
    | with_reducible refine ite_keeps ?_ ?_

theorem closeGroup_keeps {P : State → Prop} (k : Closed P [.regs, .fifoHolds, .disp, .galleries, .hif, .drawn]) (s : State) (hh : ℕ) (g : ℕ) (gr : Group) (h : P s) :
    P (closeGroup s hh g gr) := by
  unfold closeGroup
  try extract_lets
  repeat' first
    | with_reducible assumption
    | with_reducible refine updGroup_keeps (k.sub (by decide)) _ _ _ _ _ ?_
    | with_reducible refine handToDrain_keeps (k.sub (by decide)) _ _ _ _ _ _ _ ?_
    | with_reducible refine judgeMisses_keeps (k.sub (by decide)) _ _ _ _ _ ?_
    | with_reducible refine ite_keeps ?_ ?_
    | split

theorem closeDone_keeps {P : State → Prop} (k : Closed P [.regs, .fifoHolds, .disp, .galleries, .hif, .drawn]) (s : State) (hh : ℕ) (g : ℕ) (serial : ℕ) (tile : ℕ) (h : P s) :
    P (closeDone s hh g serial tile) := by
  unfold closeDone
  try extract_lets
  repeat' first
    | with_reducible assumption
    | with_reducible refine closeGroup_keeps (k.sub (by decide)) _ _ _ _ ?_
    | with_reducible refine ite_keeps ?_ ?_
    | split

theorem boulderEntries_keeps {P : State → Prop} (k : Closed P [.regs, .fifoHolds, .sector, .codes, .stairs, .disp, .galleries, .dressers, .caches, .drams, .hif, .fc, .mc, .drawn]) (s : State) (hh : ℕ) (g : ℕ) (user : HallUser) (t : Ticket) (j : Job) (i : ℕ) (h : P s) :
    P (boulderEntries s hh g user t j i).1 := by
  unfold boulderEntries
  try extract_lets
  repeat' first
    | with_reducible assumption
    | with_reducible refine ticketRead_keeps (k.sub (by decide)) _ _ _ _ _ _ _ ?_
    | with_reducible refine ticketMemFault_keeps (k.sub (by decide)) _ _ ?_
    | with_reducible refine readStore_keeps (k.sub (by decide)) _ _ _ _ _ _ ?_
    | with_reducible refine ite_fst_keeps ?_ ?_
    | with_reducible refine fst_keeps ?_ (by with_reducible assumption)
    | extract_lets
    | split

theorem closeOrphan_keeps {P : State → Prop} (k : Closed P [.regs, .galleries]) (s : State) (hh : ℕ) (g : ℕ) (slot : ℕ) (h : P s) :
    P (closeOrphan s hh g slot) := by
  unfold closeOrphan
  try extract_lets
  repeat' first
    | with_reducible assumption
    | with_reducible refine stateErr_keeps (k.sub (by decide)) _ _ ?_
    | with_reducible refine setGal_keeps (k.sub (by decide)) _ _ _ _ ?_
    | with_reducible refine ite_keeps ?_ ?_

theorem execGroupCmdClose_keeps {P : State → Prop} (k : Closed P [.regs, .fifoHolds, .galleries, .hif, .drawn]) (hh : Fin 16) (g : Fin 17) (slot : Fin 8) (s : State) (h : P s) :
    Answers P (execGroupCmdClose hh g slot s) := by
  unfold execGroupCmdClose
  try extract_lets
  repeat' first
    | with_reducible assumption
    | with_reducible refine closeOrphan_keeps (k.sub (by decide)) _ _ _ _ ?_
    | with_reducible refine ifPermitted_keeps (k.sub (by decide)) _ _ _ _ _ _ ?_ ?_
    | with_reducible refine answers_next ?_

theorem openWaits_keeps {P : State → Prop} (k : Closed P [.regs, .galleries]) (s : State) (hh : ℕ) (g : ℕ) (t : Ticket) (h : P s) :
    P (openWaits s hh g t) := by
  unfold openWaits
  try extract_lets
  repeat' first
    | with_reducible assumption
    | with_reducible refine updTicket_keeps (k.sub (by decide)) _ _ _ _ _ ?_
    | with_reducible refine bump_keeps (k.sub (by decide)) _ _ _ ?_
    | with_reducible refine ite_keeps ?_ ?_

theorem openGroup_keeps {P : State → Prop} (k : Closed P [.regs, .fifoHolds, .disp, .galleries, .hif, .drawn]) (s : State) (hh : ℕ) (g : ℕ) (t : Ticket) (j : Job) (place : ℕ × ℕ × ℕ × ℕ) (slot : ℕ) (tiles : ℕ) (sh0 : ℕ) (sat : Bool) (bl : List ℕ) (h : P s) :
    P (openGroup s hh g t j place slot tiles sh0 sat bl) := by
  unfold openGroup
  try extract_lets
  repeat' first
    | with_reducible assumption
    | with_reducible refine closeDone_keeps (k.sub (by decide)) _ _ _ _ _ ?_
    | with_reducible refine bump_keeps (k.sub (by decide)) _ _ _ ?_
    | with_reducible refine arrFlags_keeps (k.sub (by decide)) _ _ _ _ _ _ ?_
    | with_reducible refine updTicket_keeps (k.sub (by decide)) _ _ _ _ _ ?_
    | with_reducible refine setGal_keeps (k.sub (by decide)) _ _ _ _ ?_
    | with_reducible refine ite_keeps ?_ ?_

theorem openChecked_keeps {P : State → Prop} (k : Closed P [.regs, .fifoHolds, .sector, .codes, .stairs, .disp, .galleries, .dressers, .caches, .drams, .hif, .fc, .drawn]) (s : State) (hh : ℕ) (g : ℕ) (t : Ticket) (j : Job) (place : ℕ × ℕ × ℕ × ℕ) (slot : ℕ) (tiles : ℕ) (bl : List ℕ) (h : P s) :
    P (openChecked s hh g t j place slot tiles bl) := by
  unfold openChecked
  try extract_lets
  repeat' first
    | with_reducible assumption
    | with_reducible refine openGroup_keeps (k.sub (by decide)) _ _ _ _ _ _ _ _ _ _ _ ?_
    | with_reducible refine setSticky_keeps (k.sub (by decide)) _ _ _ ?_
    | with_reducible refine endJob_keeps (k.sub (by decide)) _ _ _ _ ?_
    | with_reducible refine ticketRead_keeps (k.sub (by decide)) _ _ _ _ _ _ _ ?_
    | with_reducible refine ite_keeps ?_ ?_
    | with_reducible refine fst_keeps ?_ (by with_reducible assumption)
    | extract_lets
    | split

theorem openRows_keeps {P : State → Prop} (k : Closed P [.regs, .fifoHolds, .sector, .codes, .stairs, .disp, .galleries, .dressers, .caches, .drams, .hif, .fc, .mc, .drawn]) (s : State) (hh : ℕ) (g : ℕ) (slot : ℕ) (t : Ticket) (j : Job) (i : ℕ) (m : ℕ) (h : P s) :
    P (openRows s hh g slot t j i m).1 := by
  unfold openRows
  try extract_lets
  repeat' first
    | with_reducible assumption
    | with_reducible refine boulderEntries_keeps (k.sub (by decide)) _ _ _ _ _ _ _ ?_
    | with_reducible refine ite_fst_keeps ?_ ?_
    | with_reducible refine fst_keeps ?_ (by with_reducible assumption)
    | extract_lets
    | split

theorem readPanels_keeps {P : State → Prop} (k : Closed P [.regs, .fifoHolds, .sector, .codes, .stairs, .disp, .galleries, .dressers, .caches, .drams, .hif, .fc, .drawn]) (hh : ℕ) (g : ℕ) (serial : ℕ) (tile : ℕ) (x1 : ℕ) (x2 : State) (h : P x2) :
    P (readPanels hh g serial tile x1 x2).1 := by
  induction x1 generalizing hh g serial tile x2 with
  | zero => unfold readPanels; exact h
  | succ m ih =>
    unfold readPanels
    try extract_lets
    repeat' first
      | with_reducible assumption
      | with_reducible refine updTicket_keeps (k.sub (by decide)) _ _ _ _ _ ?_
      | with_reducible refine ticketRead_keeps (k.sub (by decide)) _ _ _ _ _ _ _ ?_
      | with_reducible apply ih
      | with_reducible refine fst_keeps ?_ (by with_reducible assumption)
      | extract_lets
      | split

theorem panelOf_keeps {P : State → Prop} (k : Closed P [.regs, .fifoHolds, .sector, .codes, .stairs, .disp, .galleries, .dressers, .caches, .drams, .hif, .fc, .drawn]) (s : State) (hh : ℕ) (g : ℕ) (serial : ℕ) (tile : ℕ) (h : P s) :
    P (panelOf s hh g serial tile).1 := by
  unfold panelOf
  try extract_lets
  repeat' first
    | with_reducible assumption
    | with_reducible refine readPanels_keeps (k.sub (by decide)) _ _ _ _ _ _ ?_

theorem execGroupOpen_keeps {P : State → Prop} (k : Closed P [.regs, .fifoHolds, .sector, .codes, .stairs, .disp, .galleries, .dressers, .caches, .drams, .hif, .fc, .mc, .drawn]) (hh : Fin 16) (g : Fin 17) (s : State) (h : P s) :
    Answers P (execGroupOpen hh g s) := by
  unfold execGroupOpen
  try extract_lets
  repeat' first
    | with_reducible assumption
    | with_reducible refine openWaits_keeps (k.sub (by decide)) _ _ _ _ ?_
    | with_reducible refine openChecked_keeps (k.sub (by decide)) _ _ _ _ _ _ _ _ _ ?_
    | with_reducible refine openRows_keeps (k.sub (by decide)) _ _ _ _ _ _ _ _ ?_
    | with_reducible refine panelOf_keeps (k.sub (by decide)) _ _ _ _ _ ?_
    | with_reducible refine answers_next ?_
    | with_reducible refine ite_answers ?_ ?_
    | with_reducible refine fst_keeps ?_ (by with_reducible assumption)
    | extract_lets
    | split

theorem execPreloadRowLoad_keeps {P : State → Prop} (k : Closed P [.regs, .fifoHolds, .sector, .codes, .stairs, .disp, .galleries, .dressers, .caches, .drams, .hif, .fc, .drawn]) (hh : Fin 16) (g : Fin 17) (s : State) (h : P s) :
    Answers P (execPreloadRowLoad hh g s) := by
  unfold execPreloadRowLoad
  try extract_lets
  repeat' first
    | with_reducible assumption
    | with_reducible refine closeDone_keeps (k.sub (by decide)) _ _ _ _ _ ?_
    | with_reducible refine bump_keeps (k.sub (by decide)) _ _ _ ?_
    | with_reducible refine updGroup_keeps (k.sub (by decide)) _ _ _ _ _ ?_
    | with_reducible refine writeStore_keeps (k.sub (by decide)) _ _ _ _ _ _ _ ?_
    | with_reducible refine ticketRead_keeps (k.sub (by decide)) _ _ _ _ _ _ _ ?_
    | with_reducible refine answers_next ?_
    | with_reducible refine ite_answers ?_ ?_
    | with_reducible refine ite_keeps ?_ ?_
    | with_reducible refine fst_keeps ?_ (by with_reducible assumption)
    | extract_lets
    | split

theorem sideOf_keeps {P : State → Prop} (k : Closed P [.regs, .fifoHolds, .sector, .codes, .stairs, .disp, .galleries, .dressers, .caches, .drams, .hif, .fc, .mc, .drawn]) (s : State) (hh : ℕ) (g : ℕ) (t : Ticket) (j : Job) (i : ℕ) (row : ℕ) (h : P s) :
    P (sideOf s hh g t j i row).1 := by
  unfold sideOf
  try extract_lets
  repeat' first
    | with_reducible assumption
    | with_reducible refine ticketMemFault_keeps (k.sub (by decide)) _ _ ?_
    | with_reducible refine readStore_keeps (k.sub (by decide)) _ _ _ _ _ _ ?_
    | with_reducible refine ticketRead_keeps (k.sub (by decide)) _ _ _ _ _ _ _ ?_
    | with_reducible refine fst_keeps ?_ (by with_reducible assumption)
    | split

theorem rowRead_keeps {P : State → Prop} (k : Closed P [.regs, .fifoHolds, .sector, .codes, .stairs, .disp, .galleries, .dressers, .caches, .drams, .hif, .fc, .drawn]) (s : State) (hh : ℕ) (g : ℕ) (a : RowAt) (addr : ℕ) (n : ℕ) (h : P s) :
    P (rowRead s hh g a addr n).1 := by
  unfold rowRead
  try extract_lets
  repeat' first
    | with_reducible assumption
    | with_reducible refine ticketRead_keeps (k.sub (by decide)) _ _ _ _ _ _ _ ?_

theorem readSide_keeps {P : State → Prop} (k : Closed P [.regs, .fifoHolds, .sector, .codes, .stairs, .disp, .galleries, .dressers, .caches, .drams, .hif, .fc, .mc, .drawn]) (s : State) (hh : ℕ) (g : ℕ) (a : RowAt) (h : P s) :
    P (readSide s hh g a).1 := by
  unfold readSide
  try extract_lets
  repeat' first
    | with_reducible assumption
    | with_reducible refine sideOf_keeps (k.sub (by decide)) _ _ _ _ _ _ _ ?_

theorem readGather_keeps {P : State → Prop} (k : Closed P [.regs, .fifoHolds, .stairs, .disp, .galleries, .dressers, .hif, .fc, .mc, .drawn]) (hh : ℕ) (g : ℕ) (a : RowAt) (x1 : List (ℕ × ℕ)) (x2 : State) (h : P x2) :
    P (readGather hh g a x1 x2).1 := by
  induction x1 generalizing hh g a x2 with
  | nil => unfold readGather; exact h
  | cons hd tl ih =>
    unfold readGather
    try extract_lets
    repeat' first
      | with_reducible assumption
      | with_reducible refine ticketMemFault_keeps (k.sub (by decide)) _ _ ?_
      | with_reducible refine readStore_keeps (k.sub (by decide)) _ _ _ _ _ _ ?_
      | with_reducible apply ih
      | with_reducible refine fst_keeps ?_ (by with_reducible assumption)
      | split

theorem gatherConflicts_keeps {P : State → Prop} (k : Closed P [.regs]) (s : State) (hh : ℕ) (g : ℕ) (stream : Bool) (words : List ℕ) (h : P s) :
    P (gatherConflicts s hh g stream words) := by
  unfold gatherConflicts
  try extract_lets
  repeat' first
    | with_reducible assumption
    | with_reducible refine count_keeps (k.sub (by decide)) _ _ _ _ ?_
    | with_reducible refine foldl_keeps (fun _ _ _ => ?_) ?_

theorem gather_keeps {P : State → Prop} (k : Closed P [.regs, .fifoHolds, .stairs, .disp, .galleries, .dressers, .hif, .fc, .mc, .drawn]) (s : State) (hh : ℕ) (g : ℕ) (a : RowAt) (stream : Bool) (words : List (ℕ × ℕ)) (side : ℕ) (mask : ℕ) (h : P s) :
    P (gather s hh g a stream words side mask).1 := by
  unfold gather
  try extract_lets
  repeat' first
    | with_reducible assumption
    | with_reducible refine readGather_keeps (k.sub (by decide)) _ _ _ _ _ ?_
    | with_reducible refine gatherConflicts_keeps (k.sub (by decide)) _ _ _ _ _ ?_
    | with_reducible refine fst_keeps ?_ (by with_reducible assumption)
    | split

theorem readCodes_keeps {P : State → Prop} (k : Closed P [.regs, .fifoHolds, .sector, .codes, .stairs, .disp, .galleries, .dressers, .caches, .drams, .hif, .fc, .mc, .drawn]) (s : State) (hh : ℕ) (g : ℕ) (a : RowAt) (h : P s) :
    P (readCodes s hh g a).1 := by
  unfold readCodes
  try extract_lets
  repeat' first
    | with_reducible assumption
    | with_reducible refine ticketMemFault_keeps (k.sub (by decide)) _ _ ?_
    | with_reducible refine readStore_keeps (k.sub (by decide)) _ _ _ _ _ _ ?_
    | with_reducible refine rowRead_keeps (k.sub (by decide)) _ _ _ _ _ _ ?_
    | with_reducible refine fst_keeps ?_ (by with_reducible assumption)
    | split

theorem rowMask_keeps {P : State → Prop} (k : Closed P [.regs, .fifoHolds, .sector, .codes, .stairs, .disp, .galleries, .dressers, .caches, .drams, .hif, .fc, .mc, .drawn]) (s : State) (hh : ℕ) (g : ℕ) (a : RowAt) (side : ℕ) (h : P s) :
    P (rowMask s hh g a side).1 := by
  unfold rowMask
  try extract_lets
  repeat' first
    | with_reducible assumption
    | with_reducible refine readCodes_keeps (k.sub (by decide)) _ _ _ _ ?_
    | with_reducible refine ite_fst_keeps ?_ ?_
    | with_reducible refine fst_keeps ?_ (by with_reducible assumption)
    | extract_lets
    | split

theorem readRing_keeps {P : State → Prop} (k : Closed P [.regs, .fifoHolds, .galleries, .hif, .fc, .mc, .drawn]) (s : State) (hh : ℕ) (g : ℕ) (r : RingRec) (first : ℕ) (n : ℕ) (h : P s) :
    P (readRing s hh g r first n).1 := by
  unfold readRing
  try extract_lets
  repeat' first
    | with_reducible assumption
    | with_reducible refine readStore_keeps (k.sub (by decide)) _ _ _ _ _ _ ?_
    | with_reducible refine ite_fst_keeps ?_ ?_
    | with_reducible refine fst_keeps ?_ (by with_reducible assumption)
    | extract_lets
    | split

theorem loadHead_keeps {P : State → Prop} (k : Closed P [.regs, .fifoHolds, .stairs, .disp, .galleries, .dressers, .hif, .fc, .mc, .drawn]) (s : State) (hh : ℕ) (g : ℕ) (e : RingRec) (h : P s) :
    P (loadHead s hh g e) := by
  unfold loadHead
  try extract_lets
  repeat' first
    | with_reducible assumption
    | with_reducible refine setGal_keeps (k.sub (by decide)) _ _ _ _ ?_
    | with_reducible refine endJob_keeps (k.sub (by decide)) _ _ _ _ ?_
    | with_reducible refine ticketMemFault_keeps (k.sub (by decide)) _ _ ?_
    | with_reducible refine readRing_keeps (k.sub (by decide)) _ _ _ _ _ _ ?_
    | with_reducible refine ite_keeps ?_ ?_
    | with_reducible refine fst_keeps ?_ (by with_reducible assumption)
    | extract_lets
    | split

theorem loadPayload_keeps {P : State → Prop} (k : Closed P [.regs, .fifoHolds, .stairs, .disp, .galleries, .dressers, .hif, .fc, .mc, .drawn]) (s : State) (hh : ℕ) (g : ℕ) (r : TileReg) (h : P s) :
    P (loadPayload s hh g r) := by
  unfold loadPayload
  try extract_lets
  repeat' first
    | with_reducible assumption
    | with_reducible refine setGal_keeps (k.sub (by decide)) _ _ _ _ ?_
    | with_reducible refine ticketMemFault_keeps (k.sub (by decide)) _ _ ?_
    | with_reducible refine readRing_keeps (k.sub (by decide)) _ _ _ _ _ _ ?_
    | with_reducible refine fst_keeps ?_ (by with_reducible assumption)
    | split

theorem execTileLoadHandshake_keeps {P : State → Prop} (k : Closed P [.regs, .fifoHolds, .stairs, .disp, .galleries, .dressers, .hif, .fc, .mc, .drawn]) (hh : Fin 16) (g : Fin 17) (s : State) (h : P s) :
    Answers P (execTileLoadHandshake hh g s) := by
  unfold execTileLoadHandshake
  try extract_lets
  repeat' first
    | with_reducible assumption
    | with_reducible refine loadHead_keeps (k.sub (by decide)) _ _ _ _ ?_
    | with_reducible refine loadPayload_keeps (k.sub (by decide)) _ _ _ _ ?_
    | with_reducible refine answers_next ?_
    | with_reducible refine ite_answers ?_ ?_
    | split

theorem placeRecord_keeps {P : State → Prop} (k : Closed P [.galleries]) (s : State) (hh : ℕ) (g : ℕ) (t : Ticket) (size : ℕ) (img : ℕ) (h : P s) :
    P (placeRecord s hh g t size img) := by
  unfold placeRecord
  try extract_lets
  repeat' first
    | with_reducible assumption
    | with_reducible refine setGal_keeps (k.sub (by decide)) _ _ _ _ ?_

theorem nextRecord_keeps {P : State → Prop} (k : Closed P [.galleries]) (s : State) (hh : ℕ) (g : ℕ) (serial : ℕ) (h : P s) :
    P (nextRecord s hh g serial) := by
  unfold nextRecord
  try extract_lets
  repeat' first
    | with_reducible assumption
    | with_reducible refine updTicket_keeps (k.sub (by decide)) _ _ _ _ _ ?_

theorem receiveRecord_keeps {P : State → Prop} (k : Closed P [.regs, .fifoHolds, .sector, .codes, .stairs, .disp, .galleries, .dressers, .caches, .drams, .hif, .fc, .drawn]) (s : State) (hh : ℕ) (g : ℕ) (t : Ticket) (j : Job) (p : ℕ × ℕ) (h : P s) :
    P (receiveRecord s hh g t j p) := by
  unfold receiveRecord
  try extract_lets
  repeat' first
    | with_reducible assumption
    | with_reducible refine prefetchRecords_keeps (k.sub (by decide)) _ _ _ _ _ _ ?_
    | with_reducible refine placeRecord_keeps (k.sub (by decide)) _ _ _ _ _ _ ?_
    | with_reducible refine nextRecord_keeps (k.sub (by decide)) _ _ _ _ ?_
    | with_reducible refine ticketRead_keeps (k.sub (by decide)) _ _ _ _ _ _ _ ?_
    | with_reducible refine ite_keeps ?_ ?_
    | with_reducible refine ite_fst_keeps ?_ ?_
    | with_reducible refine fst_keeps ?_ (by with_reducible assumption)
    | extract_lets
    | split

theorem passPanels_keeps {P : State → Prop} (k : Closed P [.regs, .fifoHolds, .sector, .codes, .stairs, .disp, .galleries, .dressers, .caches, .drams, .hif, .fc, .drawn]) (hh : ℕ) (g : ℕ) (serial : ℕ) (x1 : ℕ) (x2 : State) (h : P x2) :
    P (passPanels hh g serial x1 x2) := by
  induction x1 generalizing hh g serial x2 with
  | zero => unfold passPanels; exact h
  | succ m ih =>
    unfold passPanels
    try extract_lets
    repeat' first
      | with_reducible assumption
      | with_reducible refine updTicket_keeps (k.sub (by decide)) _ _ _ _ _ ?_
      | with_reducible refine panelOf_keeps (k.sub (by decide)) _ _ _ _ _ ?_
      | with_reducible apply ih
      | with_reducible refine ite_keeps ?_ ?_
      | with_reducible refine fst_keeps ?_ (by with_reducible assumption)
      | extract_lets
      | split

theorem execTileRecordReceive_keeps {P : State → Prop} (k : Closed P [.regs, .fifoHolds, .sector, .codes, .stairs, .disp, .galleries, .dressers, .caches, .drams, .hif, .fc, .drawn]) (hh : Fin 16) (g : Fin 17) (s : State) (h : P s) :
    Answers P (execTileRecordReceive hh g s) := by
  unfold execTileRecordReceive
  try extract_lets
  repeat' first
    | with_reducible assumption
    | with_reducible refine closeDone_keeps (k.sub (by decide)) _ _ _ _ _ ?_
    | with_reducible refine receiveRecord_keeps (k.sub (by decide)) _ _ _ _ _ _ ?_
    | with_reducible refine panelOf_keeps (k.sub (by decide)) _ _ _ _ _ ?_
    | with_reducible refine passPanels_keeps (k.sub (by decide)) _ _ _ _ _ ?_
    | with_reducible refine answers_next ?_
    | with_reducible refine ite_answers ?_ ?_
    | with_reducible refine fst_keeps ?_ (by with_reducible assumption)
    | extract_lets
    | split

theorem finishRow_keeps {P : State → Prop} (k : Closed P [.regs, .fifoHolds, .disp, .galleries, .hif, .drawn]) (s : State) (hh : ℕ) (g : ℕ) (f : Flight) (est : ℕ → ℤ) (h : P s) :
    P (finishRow s hh g f est) := by
  unfold finishRow
  try extract_lets
  repeat' first
    | with_reducible assumption
    | with_reducible refine closeDone_keeps (k.sub (by decide)) _ _ _ _ _ ?_
    | with_reducible refine updGroup_keeps (k.sub (by decide)) _ _ _ _ _ ?_
    | with_reducible refine setGal_keeps (k.sub (by decide)) _ _ _ _ ?_
    | split

theorem startTimer_keeps {P : State → Prop} (k : Closed P [.galleries]) (s : State) (hh : ℕ) (g : ℕ) (t : Ticket) (j : Job) (h : P s) :
    P (startTimer s hh g t j) := by
  unfold startTimer
  try extract_lets
  repeat' first
    | with_reducible assumption
    | with_reducible refine setGal_keeps (k.sub (by decide)) _ _ _ _ ?_
    | with_reducible refine ite_keeps ?_ ?_

theorem countFlight_keeps {P : State → Prop} (k : Closed P [.regs]) (s : State) (hh : ℕ) (g : ℕ) (wa : ℕ) (ww : ℕ) (empty : Bool) (farEmpty : Bool) (h : P s) :
    P (countFlight s hh g wa ww empty farEmpty) := by
  unfold countFlight
  try extract_lets
  repeat' first
    | with_reducible assumption
    | with_reducible refine bump_keeps (k.sub (by decide)) _ _ _ ?_
    | with_reducible refine count_keeps (k.sub (by decide)) _ _ _ _ ?_
    | with_reducible refine ite_keeps ?_ ?_

theorem startFlight_keeps {P : State → Prop} (k : Closed P [.regs, .fifoHolds, .disp, .galleries, .hif, .drawn]) (s : State) (hh : ℕ) (g : ℕ) (h : P s) :
    P (startFlight s hh g) := by
  unfold startFlight
  try extract_lets
  repeat' first
    | with_reducible assumption
    | with_reducible refine finishRow_keeps (k.sub (by decide)) _ _ _ _ _ ?_
    | with_reducible refine startTimer_keeps (k.sub (by decide)) _ _ _ _ _ ?_
    | with_reducible refine countFlight_keeps (k.sub (by decide)) _ _ _ _ _ _ _ ?_
    | with_reducible refine setGal_keeps (k.sub (by decide)) _ _ _ _ ?_
    | with_reducible refine ite_keeps ?_ ?_
    | split

theorem retryGroup_keeps {P : State → Prop} (k : Closed P [.regs, .fifoHolds, .disp, .galleries, .hif, .drawn]) (s : State) (hh : ℕ) (g : ℕ) (gr : Group) (h : P s) :
    P (retryGroup s hh g gr) := by
  unfold retryGroup
  try extract_lets
  repeat' first
    | with_reducible assumption
    | with_reducible refine bump_keeps (k.sub (by decide)) _ _ _ ?_
    | with_reducible refine arrFlags_keeps (k.sub (by decide)) _ _ _ _ _ _ ?_
    | with_reducible refine setGal_keeps (k.sub (by decide)) _ _ _ _ ?_
    | with_reducible refine updGroup_keeps (k.sub (by decide)) _ _ _ _ _ ?_

theorem formRow_keeps {P : State → Prop} (k : Closed P [.regs, .fifoHolds, .galleries, .hif, .fc, .mc, .drawn]) (hh : ℕ) (g : ℕ) (gr : Group) (first : ℕ) (x1 : List (List (Option ℤ))) (x2 : State) (h : P x2) :
    P (formRow hh g gr first x1 x2).1 := by
  induction x1 generalizing hh g gr first x2 with
  | nil => unfold formRow; exact h
  | cons hd tl ih =>
    unfold formRow
    try extract_lets
    repeat' first
      | with_reducible assumption
      | with_reducible refine readStore_keeps (k.sub (by decide)) _ _ _ _ _ _ ?_
      | with_reducible apply ih
      | with_reducible refine ite_fst_keeps ?_ ?_
      | with_reducible refine fst_keeps ?_ (by with_reducible assumption)
      | extract_lets
      | split

theorem addRow_keeps {P : State → Prop} (k : Closed P [.regs, .fifoHolds, .galleries, .hif, .fc, .mc, .drawn]) (hh : ℕ) (g : ℕ) (gr : Group) (first : ℕ) (blocks : List (List (Option ℤ))) (s : State) (h : P s) :
    P (addRow hh g gr first blocks s).1 := by
  unfold addRow
  try extract_lets
  repeat' first
    | with_reducible assumption
    | with_reducible refine writeStore_keeps (k.sub (by decide)) _ _ _ _ _ _ _ ?_
    | with_reducible refine formRow_keeps (k.sub (by decide)) _ _ _ _ _ _ ?_
    | with_reducible refine foldl_keeps (fun _ _ _ => ?_) ?_
    | with_reducible refine fst_keeps ?_ (by with_reducible assumption)
    | split

theorem addFlight_keeps {P : State → Prop} (k : Closed P [.regs, .fifoHolds, .stairs, .disp, .galleries, .dressers, .hif, .fc, .mc, .drawn]) (s : State) (hh : ℕ) (g : ℕ) (f : Flight) (r : TileReg) (gr : Group) (t : Ticket) (h : P s) :
    P (addFlight s hh g f r gr t) := by
  unfold addFlight
  try extract_lets
  repeat' first
    | with_reducible assumption
    | with_reducible refine finishRow_keeps (k.sub (by decide)) _ _ _ _ _ ?_
    | with_reducible refine startFlight_keeps (k.sub (by decide)) _ _ _ ?_
    | with_reducible refine updGroup_keeps (k.sub (by decide)) _ _ _ _ _ ?_
    | with_reducible refine arrFlags_keeps (k.sub (by decide)) _ _ _ _ _ _ ?_
    | with_reducible refine retryGroup_keeps (k.sub (by decide)) _ _ _ _ ?_
    | with_reducible refine ticketMemFault_keeps (k.sub (by decide)) _ _ ?_
    | with_reducible refine addRow_keeps (k.sub (by decide)) _ _ _ _ _ _ ?_
    | with_reducible refine count_keeps (k.sub (by decide)) _ _ _ _ ?_
    | with_reducible refine ite_keeps ?_ ?_
    | with_reducible refine fst_keeps ?_ (by with_reducible assumption)
    | extract_lets
    | split
    | dsimp +zetaDelta only

theorem countDrainWait_keeps {P : State → Prop} (k : Closed P [.regs, .drawn]) (s : State) (hh : ℕ) (g : ℕ) (h : P s) :
    P (countDrainWait s hh g) := by
  unfold countDrainWait
  try extract_lets
  repeat' first
    | with_reducible assumption
    | with_reducible refine mayCount_keeps (k.sub (by decide)) _ _ _ ?_
    | with_reducible refine ite_keeps ?_ ?_

theorem countOpeningWait_keeps {P : State → Prop} (k : Closed P [.regs, .galleries]) (s : State) (hh : ℕ) (g : ℕ) (f : Flight) (r : TileReg) (h : P s) :
    P (countOpeningWait s hh g f r) := by
  unfold countOpeningWait
  try extract_lets
  repeat' first
    | with_reducible assumption
    | with_reducible refine setGal_keeps (k.sub (by decide)) _ _ _ _ ?_
    | with_reducible refine bump_keeps (k.sub (by decide)) _ _ _ ?_
    | with_reducible refine ite_keeps ?_ ?_

theorem countStageWait_keeps {P : State → Prop} (k : Closed P [.regs]) (s : State) (hh : ℕ) (g : ℕ) (time : ℕ) (h : P s) :
    P (countStageWait s hh g time) := by
  unfold countStageWait
  try extract_lets
  repeat' first
    | with_reducible assumption
    | with_reducible refine bump_keeps (k.sub (by decide)) _ _ _ ?_
    | with_reducible refine ite_keeps ?_ ?_

theorem countStaged_keeps {P : State → Prop} (k : Closed P [.regs]) (s : State) (hh : ℕ) (g : ℕ) (a : RowAt) (kk : Option SkipRun) (h : P s) :
    P (countStaged s hh g a kk) := by
  unfold countStaged
  try extract_lets
  repeat' first
    | with_reducible assumption
    | with_reducible refine bump_keeps (k.sub (by decide)) _ _ _ ?_
    | with_reducible refine count_keeps (k.sub (by decide)) _ _ _ _ ?_
    | with_reducible refine ite_keeps ?_ ?_
    | split

theorem countTreads_keeps {P : State → Prop} (k : Closed P [.regs, .galleries]) (s : State) (hh : ℕ) (g : ℕ) (serial : ℕ) (unit : ℕ) (n : ℕ) (h : P s) :
    P (countTreads s hh g serial unit n) := by
  unfold countTreads
  try extract_lets
  repeat' first
    | with_reducible assumption
    | with_reducible refine count_keeps (k.sub (by decide)) _ _ _ _ ?_
    | with_reducible refine updTicket_keeps (k.sub (by decide)) _ _ _ _ _ ?_

theorem execDeadlineTimerExpiry_keeps {P : State → Prop} (k : Closed P [.regs, .fifoHolds, .disp, .galleries, .hif, .drawn]) (hh : Fin 16) (g : Fin 17) (s : State) (h : P s) :
    Answers P (execDeadlineTimerExpiry hh g s) := by
  unfold execDeadlineTimerExpiry
  try extract_lets
  repeat' first
    | with_reducible assumption
    | with_reducible refine arrFlags_keeps (k.sub (by decide)) _ _ _ _ _ _ ?_
    | with_reducible refine bump_keeps (k.sub (by decide)) _ _ _ ?_
    | with_reducible refine updTicket_keeps (k.sub (by decide)) _ _ _ _ _ ?_
    | with_reducible refine answers_next ?_
    | split

theorem execFlightEndAdd_keeps {P : State → Prop} (k : Closed P [.regs, .fifoHolds, .stairs, .disp, .galleries, .dressers, .hif, .fc, .mc, .drawn]) (hh : Fin 16) (g : Fin 17) (s : State) (h : P s) :
    Answers P (execFlightEndAdd hh g s) := by
  unfold execFlightEndAdd
  try extract_lets
  repeat' first
    | with_reducible assumption
    | with_reducible refine setGal_keeps (k.sub (by decide)) _ _ _ _ ?_
    | with_reducible refine bump_keeps (k.sub (by decide)) _ _ _ ?_
    | with_reducible refine countOpeningWait_keeps (k.sub (by decide)) _ _ _ _ _ ?_
    | with_reducible refine countDrainWait_keeps (k.sub (by decide)) _ _ _ ?_
    | with_reducible refine addFlight_keeps (k.sub (by decide)) _ _ _ _ _ _ _ ?_
    | with_reducible refine setSticky_keeps (k.sub (by decide)) _ _ _ ?_
    | with_reducible refine endJob_keeps (k.sub (by decide)) _ _ _ _ ?_
    | with_reducible refine answers_next ?_
    | with_reducible refine ite_answers ?_ ?_
    | split

theorem readWord32_keeps {P : State → Prop} (k : Closed P [.regs, .fifoHolds, .sector, .codes, .stairs, .disp, .galleries, .dressers, .caches, .drams, .hif, .fc, .drawn]) (s : State) (hh : ℕ) (g : ℕ) (a : RowAt) (fromMem : Bool) (addr : ℕ) (dflt : ℕ) (h : P s) :
    P (readWord32 s hh g a fromMem addr dflt).1 := by
  unfold readWord32
  try extract_lets
  repeat' first
    | with_reducible assumption
    | with_reducible refine rowRead_keeps (k.sub (by decide)) _ _ _ _ _ _ ?_
    | with_reducible refine ite_fst_keeps ?_ ?_

theorem readInputs_keeps {P : State → Prop} (k : Closed P [.regs, .fifoHolds, .sector, .codes, .stairs, .disp, .galleries, .dressers, .caches, .drams, .hif, .fc, .mc, .drawn]) (s : State) (hh : ℕ) (g : ℕ) (a : RowAt) (h : P s) :
    P (readInputs s hh g a).1 := by
  unfold readInputs
  try extract_lets
  repeat' first
    | with_reducible assumption
    | with_reducible refine readWord32_keeps (k.sub (by decide)) _ _ _ _ _ _ _ ?_
    | with_reducible refine readSide_keeps (k.sub (by decide)) _ _ _ _ ?_
    | with_reducible refine ite_fst_keeps ?_ ?_
    | with_reducible refine fst_keeps ?_ (by with_reducible assumption)
    | extract_lets
    | split

theorem stageFlight_keeps {P : State → Prop} (k : Closed P [.regs, .fifoHolds, .disp, .galleries, .hif, .drawn]) (s : State) (hh : ℕ) (g : ℕ) (a : RowAt) (i : Inputs) (mask : ℕ) (groups : List ((ℕ × ℕ) × List ℕ)) (empty : Bool) (h : P s) :
    P (stageFlight s hh g a i mask groups empty) := by
  unfold stageFlight
  try extract_lets
  repeat' first
    | with_reducible assumption
    | with_reducible refine startFlight_keeps (k.sub (by decide)) _ _ _ ?_
    | with_reducible refine updGroup_keeps (k.sub (by decide)) _ _ _ _ _ ?_
    | with_reducible refine setGal_keeps (k.sub (by decide)) _ _ _ _ ?_
    | with_reducible refine countStaged_keeps (k.sub (by decide)) _ _ _ _ _ ?_
    | with_reducible refine ite_keeps ?_ ?_

theorem stageRow_keeps {P : State → Prop} (k : Closed P [.regs, .fifoHolds, .sector, .codes, .stairs, .disp, .galleries, .dressers, .caches, .drams, .hif, .fc, .mc, .drawn]) (s : State) (hh : ℕ) (g : ℕ) (a : RowAt) (i : Inputs) (stream : Bool) (words : List (ℕ × ℕ)) (h : P s) :
    P (stageRow s hh g a i stream words) := by
  unfold stageRow
  try extract_lets
  repeat' first
    | with_reducible assumption
    | with_reducible refine countStageWait_keeps (k.sub (by decide)) _ _ _ _ ?_
    | with_reducible refine gather_keeps (k.sub (by decide)) _ _ _ _ _ _ _ _ ?_
    | with_reducible refine rowMask_keeps (k.sub (by decide)) _ _ _ _ _ ?_
    | with_reducible refine stageFlight_keeps (k.sub (by decide)) _ _ _ _ _ _ _ _ ?_
    | with_reducible refine ite_keeps ?_ ?_
    | with_reducible refine fst_keeps ?_ (by with_reducible assumption)
    | extract_lets
    | split

theorem execFlightStage_keeps {P : State → Prop} (k : Closed P [.regs, .fifoHolds, .sector, .codes, .stairs, .disp, .galleries, .dressers, .caches, .drams, .hif, .fc, .mc, .drawn]) (hh : Fin 16) (g : Fin 17) (s : State) (h : P s) :
    Answers P (execFlightStage hh g s) := by
  unfold execFlightStage
  try extract_lets
  repeat' first
    | with_reducible assumption
    | with_reducible refine readInputs_keeps (k.sub (by decide)) _ _ _ _ ?_
    | with_reducible refine stageRow_keeps (k.sub (by decide)) _ _ _ _ _ _ _ ?_
    | with_reducible refine answers_next ?_
    | with_reducible refine fst_keeps ?_ (by with_reducible assumption)
    | split

theorem readCodeWords_keeps {P : State → Prop} (k : Closed P [.regs, .fifoHolds, .sector, .codes, .stairs, .disp, .galleries, .dressers, .caches, .drams, .hif, .fc, .drawn]) (hh : ℕ) (g : ℕ) (a : RowAt) (codes : ℕ) (x1 : List ℕ) (x2 : State) (h : P x2) :
    P (readCodeWords hh g a codes x1 x2).1 := by
  induction x1 generalizing hh g a codes x2 with
  | nil => unfold readCodeWords; exact h
  | cons hd tl ih =>
    unfold readCodeWords
    try extract_lets
    repeat' first
      | with_reducible assumption
      | with_reducible refine rowRead_keeps (k.sub (by decide)) _ _ _ _ _ _ ?_
      | with_reducible apply ih
      | with_reducible refine fst_keeps ?_ (by with_reducible assumption)
      | split

theorem sampleGather_keeps {P : State → Prop} (k : Closed P [.regs, .fifoHolds, .sector, .codes, .stairs, .disp, .galleries, .dressers, .caches, .drams, .hif, .fc, .mc, .drawn]) (s : State) (hh : ℕ) (g : ℕ) (a : RowAt) (side : ℕ) (m : ℕ) (h : P s) :
    P (sampleGather s hh g a side m).1 := by
  unfold sampleGather
  try extract_lets
  repeat' first
    | with_reducible assumption
    | with_reducible refine gather_keeps (k.sub (by decide)) _ _ _ _ _ _ _ _ ?_
    | with_reducible refine readCodeWords_keeps (k.sub (by decide)) _ _ _ _ _ _ ?_
    | with_reducible refine fst_keeps ?_ (by with_reducible assumption)
    | split

theorem execSamplingFlight_keeps {P : State → Prop} (k : Closed P [.regs, .fifoHolds, .sector, .codes, .stairs, .disp, .galleries, .dressers, .caches, .drams, .hif, .fc, .mc, .drawn]) (hh : Fin 16) (g : Fin 17) (s : State) (h : P s) :
    Answers P (execSamplingFlight hh g s) := by
  unfold execSamplingFlight
  try extract_lets
  repeat' first
    | with_reducible assumption
    | with_reducible refine closeDone_keeps (k.sub (by decide)) _ _ _ _ _ ?_
    | with_reducible refine startFlight_keeps (k.sub (by decide)) _ _ _ ?_
    | with_reducible refine setGal_keeps (k.sub (by decide)) _ _ _ _ ?_
    | with_reducible refine updGroup_keeps (k.sub (by decide)) _ _ _ _ _ ?_
    | with_reducible refine count_keeps (k.sub (by decide)) _ _ _ _ ?_
    | with_reducible refine countFlight_keeps (k.sub (by decide)) _ _ _ _ _ _ _ ?_
    | with_reducible refine countTreads_keeps (k.sub (by decide)) _ _ _ _ _ _ ?_
    | with_reducible refine sampleGather_keeps (k.sub (by decide)) _ _ _ _ _ _ ?_
    | with_reducible refine rowMask_keeps (k.sub (by decide)) _ _ _ _ _ ?_
    | with_reducible refine readInputs_keeps (k.sub (by decide)) _ _ _ _ ?_
    | with_reducible refine answers_next ?_
    | with_reducible refine ite_fst_keeps ?_ ?_
    | with_reducible refine fst_keeps ?_ (by with_reducible assumption)
    | extract_lets
    | split

theorem swapIn_keeps {P : State → Prop} (k : Closed P [.regs, .fifoHolds, .disp, .galleries, .hif, .drawn]) (s : State) (hh : ℕ) (g : ℕ) (r : TileReg) (slot : ℕ) (sums : List (ℤ × ℤ × ℤ × ℕ)) (h : P s) :
    P (swapIn s hh g r slot sums) := by
  unfold swapIn
  try extract_lets
  repeat' first
    | with_reducible assumption
    | with_reducible refine startFlight_keeps (k.sub (by decide)) _ _ _ ?_
    | with_reducible refine bump_keeps (k.sub (by decide)) _ _ _ ?_
    | with_reducible refine updGroup_keeps (k.sub (by decide)) _ _ _ _ _ ?_
    | with_reducible refine setGal_keeps (k.sub (by decide)) _ _ _ _ ?_
    | with_reducible refine ite_keeps ?_ ?_

theorem formSums_keeps {P : State → Prop} (k : Closed P [.regs, .fifoHolds, .sector, .codes, .stairs, .disp, .galleries, .dressers, .caches, .drams, .hif, .fc, .drawn]) (s : State) (hh : ℕ) (g : ℕ) (t : Ticket) (j : Job) (r : TileReg) (nb : ℕ) (h : P s) :
    P (formSums s hh g t j r nb).1 := by
  unfold formSums
  try extract_lets
  repeat' first
    | with_reducible assumption
    | with_reducible refine ticketRead_keeps (k.sub (by decide)) _ _ _ _ _ _ _ ?_
    | with_reducible refine fst_keeps ?_ (by with_reducible assumption)
    | split

theorem execShadowSwap_keeps {P : State → Prop} (k : Closed P [.regs, .fifoHolds, .sector, .codes, .stairs, .disp, .galleries, .dressers, .caches, .drams, .hif, .fc, .drawn]) (hh : Fin 16) (g : Fin 17) (s : State) (h : P s) :
    Answers P (execShadowSwap hh g s) := by
  unfold execShadowSwap
  try extract_lets
  repeat' first
    | with_reducible assumption
    | with_reducible refine swapIn_keeps (k.sub (by decide)) _ _ _ _ _ _ ?_
    | with_reducible refine formSums_keeps (k.sub (by decide)) _ _ _ _ _ _ _ ?_
    | with_reducible refine setGal_keeps (k.sub (by decide)) _ _ _ _ ?_
    | with_reducible refine answers_next ?_
    | with_reducible refine ite_answers ?_ ?_
    | with_reducible refine fst_keeps ?_ (by with_reducible assumption)
    | extract_lets
    | split

theorem placeWord_keeps {P : State → Prop} (k : Closed P [.galleries]) (s : State) (hh : ℕ) (g : ℕ) (v : ℕ) (h : P s) :
    P (placeWord s hh g v).1 := by
  unfold placeWord
  try extract_lets
  repeat' first
    | with_reducible assumption
    | with_reducible refine setGal_keeps (k.sub (by decide)) _ _ _ _ ?_

theorem fetchWords_keeps {P : State → Prop} (k : Closed P [.regs, .fifoHolds, .sector, .codes, .stairs, .disp, .galleries, .dressers, .caches, .drams, .hif, .fc, .drawn]) (hh : ℕ) (g : ℕ) (a : RowAt) (codes : ℕ) (x1 : List ℕ) (x2 : State) (h : P x2) :
    P (fetchWords hh g a codes x1 x2).1 := by
  induction x1 generalizing hh g a codes x2 with
  | nil => unfold fetchWords; exact h
  | cons hd tl ih =>
    unfold fetchWords
    try extract_lets
    repeat' first
      | with_reducible assumption
      | with_reducible refine placeWord_keeps (k.sub (by decide)) _ _ _ _ ?_
      | with_reducible refine rowRead_keeps (k.sub (by decide)) _ _ _ _ _ _ ?_
      | with_reducible apply ih
      | with_reducible refine fst_keeps ?_ (by with_reducible assumption)
      | extract_lets
      | split

theorem wordsNeeded_keeps {P : State → Prop} (k : Closed P [.regs, .fifoHolds, .sector, .codes, .stairs, .disp, .galleries, .dressers, .caches, .drams, .hif, .fc, .mc, .drawn]) (s : State) (hh : ℕ) (g : ℕ) (a : RowAt) (i : Inputs) (h : P s) :
    P (wordsNeeded s hh g a i).1 := by
  unfold wordsNeeded
  try extract_lets
  repeat' first
    | with_reducible assumption
    | with_reducible refine rowMask_keeps (k.sub (by decide)) _ _ _ _ _ ?_
    | with_reducible refine ite_fst_keeps ?_ ?_
    | with_reducible refine fst_keeps ?_ (by with_reducible assumption)
    | extract_lets
    | split

theorem fetchRow_keeps {P : State → Prop} (k : Closed P [.regs, .fifoHolds, .sector, .codes, .stairs, .disp, .galleries, .dressers, .caches, .drams, .hif, .fc, .mc, .drawn]) (s : State) (hh : ℕ) (g : ℕ) (a : RowAt) (codes : ℕ) (h : P s) :
    P (fetchRow s hh g a codes) := by
  unfold fetchRow
  try extract_lets
  repeat' first
    | with_reducible assumption
    | with_reducible refine setGal_keeps (k.sub (by decide)) _ _ _ _ ?_
    | with_reducible refine placeWord_keeps (k.sub (by decide)) _ _ _ _ ?_
    | with_reducible refine fetchWords_keeps (k.sub (by decide)) _ _ _ _ _ _ ?_
    | with_reducible refine wordsNeeded_keeps (k.sub (by decide)) _ _ _ _ _ ?_
    | with_reducible refine readInputs_keeps (k.sub (by decide)) _ _ _ _ ?_
    | with_reducible refine fst_keeps ?_ (by with_reducible assumption)
    | split

theorem execStreamRingFetch_keeps {P : State → Prop} (k : Closed P [.regs, .fifoHolds, .sector, .codes, .stairs, .disp, .galleries, .dressers, .caches, .drams, .hif, .fc, .mc, .drawn]) (hh : Fin 16) (g : Fin 17) (s : State) (h : P s) :
    Answers P (execStreamRingFetch hh g s) := by
  unfold execStreamRingFetch
  try extract_lets
  repeat' first
    | with_reducible assumption
    | with_reducible refine fetchRow_keeps (k.sub (by decide)) _ _ _ _ _ ?_
    | with_reducible refine answers_next ?_
    | with_reducible refine ite_answers ?_ ?_
    | split

theorem treadSkip_keeps {P : State → Prop} (k : Closed P [.regs]) (s : State) (hh : ℕ) (g : ℕ) (r : TileReg) (f : Flight) (plane : ℕ) (t : Ticket) (j : Job) (gr : Group) (h : P s) :
    P (treadSkip s hh g r f plane t j gr).1 := by
  unfold treadSkip
  try extract_lets
  repeat' first
    | with_reducible assumption
    | with_reducible refine count_keeps (k.sub (by decide)) _ _ _ _ ?_
    | with_reducible refine bump_keeps (k.sub (by decide)) _ _ _ ?_
    | with_reducible refine ite_keeps ?_ ?_
    | with_reducible refine ite_fst_keeps ?_ ?_
    | split

theorem execTread_keeps {P : State → Prop} (k : Closed P [.regs, .fifoHolds, .stairs, .disp, .galleries, .dressers, .hif, .fc, .mc, .drawn]) (hh : Fin 16) (g : Fin 17) (parityFail : Bool) (s : State) (h : P s) :
    Answers P (execTread hh g parityFail s) := by
  unfold execTread
  try extract_lets
  repeat' first
    | with_reducible assumption
    | with_reducible refine setGal_keeps (k.sub (by decide)) _ _ _ _ ?_
    | with_reducible refine treadSkip_keeps (k.sub (by decide)) _ _ _ _ _ _ _ _ _ ?_
    | with_reducible refine countTreads_keeps (k.sub (by decide)) _ _ _ _ _ _ ?_
    | with_reducible refine galleryFault_keeps (k.sub (by decide)) _ _ _ _ ?_
    | with_reducible refine answers_next ?_
    | with_reducible refine ite_answers ?_ ?_
    | split

theorem beginEntryConversion_keeps {P : State → Prop} (k : Closed P [.galleries]) (s : State) (hh : ℕ) (g : ℕ) (t : Ticket) (j : Job) (h : P s) :
    P (beginEntryConversion s hh g t j) := by
  unfold beginEntryConversion
  try extract_lets
  repeat' first
    | with_reducible assumption
    | with_reducible refine updTicket_keeps (k.sub (by decide)) _ _ _ _ _ ?_
    | with_reducible refine setGal_keeps (k.sub (by decide)) _ _ _ _ ?_

theorem bindGen_keeps {P : State → Prop} (k : Closed P [.regs, .galleries]) (s : State) (hh : ℕ) (g : ℕ) (i : ℕ) (stream : ℕ) (seed : ℕ) (serial : ℕ) (h : P s) :
    P (bindGen s hh g i stream seed serial) := by
  unfold bindGen
  try extract_lets
  repeat' first
    | with_reducible assumption
    | with_reducible refine k.regs (by decide) ?_
    | with_reducible refine setGal_keeps (k.sub (by decide)) _ _ _ _ ?_
    | split

theorem ticketWritten_keeps {P : State → Prop} (k : Closed P [.galleries]) (s : State) (hh : ℕ) (g : ℕ) (serial : ℕ) (h : P s) :
    P (ticketWritten s hh g serial) := by
  unfold ticketWritten
  try extract_lets
  repeat' first
    | with_reducible assumption
    | with_reducible refine updTicket_keeps (k.sub (by decide)) _ _ _ _ _ ?_

theorem settleQuOut_keeps {P : State → Prop} (k : Closed P [.galleries]) (s : State) (hh : ℕ) (g : ℕ) (h : P s) :
    P (settleQuOut s hh g) := by
  unfold settleQuOut
  try extract_lets
  repeat' first
    | with_reducible assumption
    | with_reducible refine setGal_keeps (k.sub (by decide)) _ _ _ _ ?_
    | with_reducible refine ticketWritten_keeps (k.sub (by decide)) _ _ _ _ ?_
    | with_reducible refine ite_keeps ?_ ?_
    | split

theorem conversionOver_keeps {P : State → Prop} (k : Closed P [.galleries]) (s : State) (hh : ℕ) (g : ℕ) (out : Bool) (c : Conversion) (h : P s) :
    P (conversionOver s hh g out c) := by
  unfold conversionOver
  try extract_lets
  repeat' first
    | with_reducible assumption
    | with_reducible refine settleQuOut_keeps (k.sub (by decide)) _ _ _ ?_
    | with_reducible refine setGal_keeps (k.sub (by decide)) _ _ _ _ ?_
    | with_reducible refine ite_keeps ?_ ?_
    | extract_lets
    | split

theorem putConversion_keeps {P : State → Prop} (k : Closed P [.galleries]) (s : State) (hh : ℕ) (g : ℕ) (out : Bool) (c : Conversion) (h : P s) :
    P (putConversion s hh g out c) := by
  unfold putConversion
  try extract_lets
  repeat' first
    | with_reducible assumption
    | with_reducible refine setGal_keeps (k.sub (by decide)) _ _ _ _ ?_

theorem writeList_keeps {P : State → Prop} (k : Closed P [.regs, .fifoHolds, .sector, .codes, .stairs, .disp, .galleries, .dressers, .caches, .drams, .hif, .fc, .drawn]) (s : State) (hh : ℕ) (g : ℕ) (t : Ticket) (j : Job) (c : Conversion) (h : P s) :
    P (writeList s hh g t j c).1 := by
  unfold writeList
  try extract_lets
  repeat' first
    | with_reducible assumption
    | with_reducible refine writeStore_keeps (k.sub (by decide)) _ _ _ _ _ _ _ ?_
    | with_reducible refine ticketWrite_keeps (k.sub (by decide)) _ _ _ _ _ _ _ ?_
    | with_reducible refine ite_fst_keeps ?_ ?_
    | split

theorem endRows_keeps {P : State → Prop} (k : Closed P [.regs, .fifoHolds, .sector, .codes, .stairs, .disp, .galleries, .dressers, .caches, .drams, .hif, .fc, .drawn]) (s : State) (hh : ℕ) (g : ℕ) (out : Bool) (t : Ticket) (j : Job) (c : Conversion) (h : P s) :
    P (endRows s hh g out t j c) := by
  unfold endRows
  try extract_lets
  repeat' first
    | with_reducible assumption
    | with_reducible refine conversionOver_keeps (k.sub (by decide)) _ _ _ _ _ ?_
    | with_reducible refine writeList_keeps (k.sub (by decide)) _ _ _ _ _ _ ?_
    | with_reducible refine ite_keeps ?_ ?_
    | with_reducible refine fst_keeps ?_ (by with_reducible assumption)
    | extract_lets
    | split

theorem writeRowErr_keeps {P : State → Prop} (k : Closed P [.regs, .fifoHolds, .sector, .codes, .stairs, .disp, .galleries, .dressers, .caches, .drams, .hif, .fc, .drawn]) (s : State) (hh : ℕ) (g : ℕ) (t : Ticket) (j : Job) (c : Conversion) (v : Converted) (h : P s) :
    P (writeRowErr s hh g t j c v).1 := by
  unfold writeRowErr
  try extract_lets
  repeat' first
    | with_reducible assumption
    | with_reducible refine ticketWrite_keeps (k.sub (by decide)) _ _ _ _ _ _ _ ?_
    | with_reducible refine ite_fst_keeps ?_ ?_

theorem writeBlock_keeps {P : State → Prop} (k : Closed P [.regs, .fifoHolds, .sector, .codes, .stairs, .disp, .galleries, .dressers, .caches, .drams, .hif, .fc, .drawn]) (s : State) (hh : ℕ) (g : ℕ) (t : Ticket) (j : Job) (c : Conversion) (v : Converted) (h : P s) :
    P (writeBlock s hh g t j c v).1 := by
  unfold writeBlock
  try extract_lets
  repeat' first
    | with_reducible assumption
    | with_reducible refine writeStore_keeps (k.sub (by decide)) _ _ _ _ _ _ _ ?_
    | with_reducible refine ticketWrite_keeps (k.sub (by decide)) _ _ _ _ _ _ _ ?_
    | split

theorem writeOutRow_keeps {P : State → Prop} (k : Closed P [.regs, .fifoHolds, .sector, .codes, .stairs, .disp, .galleries, .dressers, .caches, .drams, .hif, .fc, .drawn]) (s : State) (hh : ℕ) (g : ℕ) (t : Ticket) (j : Job) (c : Conversion) (v : Converted) (h : P s) :
    P (writeOutRow s hh g t j c v).1 := by
  unfold writeOutRow
  try extract_lets
  repeat' first
    | with_reducible assumption
    | with_reducible refine ticketWrite_keeps (k.sub (by decide)) _ _ _ _ _ _ _ ?_
    | with_reducible refine fst_keeps ?_ (by with_reducible assumption)
    | split

theorem countRow_keeps {P : State → Prop} (k : Closed P [.regs]) (s : State) (hh : ℕ) (g : ℕ) (c : Conversion) (v : Converted) (h : P s) :
    P (countRow s hh g c v) := by
  unfold countRow
  try extract_lets
  repeat' first
    | with_reducible assumption
    | with_reducible refine count_keeps (k.sub (by decide)) _ _ _ _ ?_
    | with_reducible refine bump_keeps (k.sub (by decide)) _ _ _ ?_
    | split

theorem sourceRow_keeps {P : State → Prop} (k : Closed P [.regs, .fifoHolds, .sector, .codes, .stairs, .disp, .galleries, .dressers, .caches, .drams, .hif, .fc, .drawn]) (s : State) (hh : ℕ) (g : ℕ) (t : Ticket) (j : Job) (c : Conversion) (h : P s) :
    P (sourceRow s hh g t j c).1 := by
  unfold sourceRow
  try extract_lets
  repeat' first
    | with_reducible assumption
    | with_reducible refine ticketRead_keeps (k.sub (by decide)) _ _ _ _ _ _ _ ?_
    | with_reducible refine fst_keeps ?_ (by with_reducible assumption)
    | split

theorem convertNext_keeps {P : State → Prop} (k : Closed P [.regs, .fifoHolds, .sector, .codes, .stairs, .disp, .galleries, .dressers, .caches, .drams, .hif, .fc, .drawn]) (s : State) (hh : ℕ) (g : ℕ) (out : Bool) (c : Conversion) (t : Ticket) (j : Job) (h : P s) :
    P (convertNext s hh g out c t j) := by
  unfold convertNext
  try extract_lets
  repeat' first
    | with_reducible assumption
    | with_reducible refine putConversion_keeps (k.sub (by decide)) _ _ _ _ _ ?_
    | with_reducible refine endRows_keeps (k.sub (by decide)) _ _ _ _ _ _ _ ?_
    | with_reducible refine setGal_keeps (k.sub (by decide)) _ _ _ _ ?_
    | with_reducible refine writeRowErr_keeps (k.sub (by decide)) _ _ _ _ _ _ _ ?_
    | with_reducible refine writeBlock_keeps (k.sub (by decide)) _ _ _ _ _ _ _ ?_
    | with_reducible refine writeOutRow_keeps (k.sub (by decide)) _ _ _ _ _ _ _ ?_
    | with_reducible refine countRow_keeps (k.sub (by decide)) _ _ _ _ _ ?_
    | with_reducible refine quFlags_keeps (k.sub (by decide)) _ _ _ _ _ _ ?_
    | with_reducible refine sourceRow_keeps (k.sub (by decide)) _ _ _ _ _ _ ?_
    | with_reducible refine ite_keeps ?_ ?_
    | with_reducible refine ite_fst_keeps ?_ ?_
    | with_reducible refine fst_keeps ?_ (by with_reducible assumption)
    | extract_lets
    | split

theorem execConvert_keeps {P : State → Prop} (k : Closed P [.galleries]) (hh : Fin 16) (g : Fin 17) (s : State) (h : P s) :
    Answers P (execConvert hh g s) := by
  unfold execConvert
  try extract_lets
  repeat' first
    | with_reducible assumption
    | with_reducible refine updTicket_keeps (k.sub (by decide)) _ _ _ _ _ ?_
    | with_reducible refine setGal_keeps (k.sub (by decide)) _ _ _ _ ?_
    | with_reducible refine answers_next ?_
    | split

theorem reuseConversion_keeps {P : State → Prop} (k : Closed P [.galleries]) (s : State) (hh : ℕ) (g : ℕ) (t : Ticket) (j : Job) (c : Conversion) (h : P s) :
    P (reuseConversion s hh g t j c) := by
  unfold reuseConversion
  try extract_lets
  repeat' first
    | with_reducible assumption
    | with_reducible refine setGal_keeps (k.sub (by decide)) _ _ _ _ ?_
    | with_reducible refine updTicket_keeps (k.sub (by decide)) _ _ _ _ _ ?_

theorem execConvertOnEntry_keeps {P : State → Prop} (k : Closed P [.regs, .fifoHolds, .stairs, .disp, .galleries, .dressers, .hif, .drawn]) (hh : Fin 16) (g : Fin 17) (s : State) (h : P s) :
    Answers P (execConvertOnEntry hh g s) := by
  unfold execConvertOnEntry
  try extract_lets
  repeat' first
    | with_reducible assumption
    | with_reducible refine updTicket_keeps (k.sub (by decide)) _ _ _ _ _ ?_
    | with_reducible refine bump_keeps (k.sub (by decide)) _ _ _ ?_
    | with_reducible refine beginEntryConversion_keeps (k.sub (by decide)) _ _ _ _ _ ?_
    | with_reducible refine setSticky_keeps (k.sub (by decide)) _ _ _ ?_
    | with_reducible refine endJob_keeps (k.sub (by decide)) _ _ _ _ ?_
    | with_reducible refine reuseConversion_keeps (k.sub (by decide)) _ _ _ _ _ _ ?_
    | with_reducible refine answers_next ?_
    | with_reducible refine ite_answers ?_ ?_
    | extract_lets
    | split

theorem execGeneratorBind_keeps {P : State → Prop} (k : Closed P [.regs, .galleries]) (hh : Fin 16) (g : Fin 17) (s : State) (h : P s) :
    Answers P (execGeneratorBind hh g s) := by
  unfold execGeneratorBind
  try extract_lets
  repeat' first
    | with_reducible assumption
    | with_reducible refine updTicket_keeps (k.sub (by decide)) _ _ _ _ _ ?_
    | with_reducible refine bump_keeps (k.sub (by decide)) _ _ _ ?_
    | with_reducible refine setGal_keeps (k.sub (by decide)) _ _ _ _ ?_
    | with_reducible refine bindGen_keeps (k.sub (by decide)) _ _ _ _ _ _ _ ?_
    | with_reducible refine answers_next ?_
    | with_reducible refine ite_answers ?_ ?_
    | extract_lets
    | split

theorem execRowConversion_keeps {P : State → Prop} (k : Closed P [.regs, .fifoHolds, .sector, .codes, .stairs, .disp, .galleries, .dressers, .caches, .drams, .hif, .fc, .drawn]) (hh : Fin 16) (g : Fin 17) (s : State) (h : P s) :
    Answers P (execRowConversion hh g s) := by
  unfold execRowConversion
  try extract_lets
  repeat' first
    | with_reducible assumption
    | with_reducible refine convertNext_keeps (k.sub (by decide)) _ _ _ _ _ _ _ ?_
    | with_reducible refine answers_next ?_
    | split

theorem markBurst_keeps {P : State → Prop} (k : Closed P [.disp]) (s : State) (t : Ticket) (h : P s) :
    P (markBurst s t) := by
  unfold markBurst
  try extract_lets
  repeat' first
    | with_reducible assumption
    | with_reducible refine updJob_keeps (k.sub (by decide)) _ _ _ _ ?_

theorem execStatisticsAddBurst_keeps {P : State → Prop} (k : Closed P [.regs, .fifoHolds, .sector, .codes, .stairs, .disp, .galleries, .dressers, .drams, .hif, .fc, .drawn]) (hh : Fin 16) (g : Fin 17) (s : State) (h : P s) :
    Answers P (execStatisticsAddBurst hh g s) := by
  unfold execStatisticsAddBurst
  try extract_lets
  repeat' first
    | with_reducible assumption
    | with_reducible refine putConversion_keeps (k.sub (by decide)) _ _ _ _ _ ?_
    | with_reducible refine conversionOver_keeps (k.sub (by decide)) _ _ _ _ _ ?_
    | with_reducible refine galleryAccessFault_keeps (k.sub (by decide)) _ _ _ _ _ _ _ ?_
    | with_reducible refine memAdd_keeps (k.sub (by decide)) _ _ _ _ ?_
    | with_reducible refine markBurst_keeps (k.sub (by decide)) _ _ ?_
    | with_reducible refine answers_next ?_
    | with_reducible refine fst_keeps ?_ (by with_reducible assumption)
    | extract_lets
    | split

theorem readParts_keeps {P : State → Prop} (k : Closed P [.regs, .fifoHolds, .sector, .codes, .stairs, .disp, .galleries, .dressers, .caches, .drams, .hif, .fc, .drawn]) (hh : ℕ) (g : ℕ) (user : HallUser) (t : Ticket) (base : ℕ) (x1 : List (ℕ × ℕ)) (x2 : State) (h : P x2) :
    P (readParts hh g user t base x1 x2).1 := by
  induction x1 generalizing hh g user t base x2 with
  | nil => unfold readParts; exact h
  | cons hd tl ih =>
    unfold readParts
    try extract_lets
    repeat' first
      | with_reducible assumption
      | with_reducible refine ticketRead_keeps (k.sub (by decide)) _ _ _ _ _ _ _ ?_
      | with_reducible apply ih
      | with_reducible refine fst_keeps ?_ (by with_reducible assumption)
      | split

theorem recordMatches_keeps {P : State → Prop} (k : Closed P [.regs, .fifoHolds, .sector, .codes, .stairs, .disp, .galleries, .dressers, .caches, .drams, .hif, .fc, .drawn]) (hh : ℕ) (g : ℕ) (user : HallUser) (t : Ticket) (j : Job) (base : ℕ) (hd : ℕ) (entry : ℕ) (x1 : List ℕ) (x2 : State) (h : P x2) :
    P (recordMatches hh g user t j base hd entry x1 x2).1 := by
  induction x1 generalizing hh g user t j base hd entry x2 with
  | nil => unfold recordMatches; exact h
  | cons hd tl ih =>
    unfold recordMatches
    try extract_lets
    repeat' first
      | with_reducible assumption
      | with_reducible refine readParts_keeps (k.sub (by decide)) _ _ _ _ _ _ _ ?_
      | with_reducible apply ih
      | with_reducible refine fst_keeps ?_ (by with_reducible assumption)
      | split

theorem entryMatches_keeps {P : State → Prop} (k : Closed P [.regs, .fifoHolds, .sector, .codes, .stairs, .disp, .galleries, .dressers, .caches, .drams, .hif, .fc, .drawn]) (hh : ℕ) (g : ℕ) (user : HallUser) (t : Ticket) (j : Job) (entry : ℕ) (x1 : List (ℕ × ℕ)) (x2 : State) (h : P x2) :
    P (entryMatches hh g user t j entry x1 x2).1 := by
  induction x1 generalizing hh g user t j entry x2 with
  | nil => unfold entryMatches; exact h
  | cons hd tl ih =>
    unfold entryMatches
    try extract_lets
    repeat' first
      | with_reducible assumption
      | with_reducible refine recordMatches_keeps (k.sub (by decide)) _ _ _ _ _ _ _ _ _ _ ?_
      | with_reducible apply ih
      | with_reducible refine fst_keeps ?_ (by with_reducible assumption)
      | split

theorem listMatches_keeps {P : State → Prop} (k : Closed P [.regs, .fifoHolds, .sector, .codes, .stairs, .disp, .galleries, .dressers, .caches, .drams, .hif, .fc, .drawn]) (hh : ℕ) (g : ℕ) (user : HallUser) (t : Ticket) (j : Job) (heads : List (ℕ × ℕ)) (x1 : List ℕ) (x2 : State) (h : P x2) :
    P (listMatches hh g user t j heads x1 x2).1 := by
  induction x1 generalizing hh g user t j heads x2 with
  | nil => unfold listMatches; exact h
  | cons hd tl ih =>
    unfold listMatches
    try extract_lets
    repeat' first
      | with_reducible assumption
      | with_reducible refine entryMatches_keeps (k.sub (by decide)) _ _ _ _ _ _ _ _ ?_
      | with_reducible apply ih
      | with_reducible refine fst_keeps ?_ (by with_reducible assumption)
      | split

theorem panelHeads_keeps {P : State → Prop} (k : Closed P [.regs, .fifoHolds, .sector, .codes, .stairs, .disp, .galleries, .dressers, .caches, .drams, .hif, .fc, .drawn]) (hh : ℕ) (g : ℕ) (user : HallUser) (t : Ticket) (j : Job) (part : ℕ) (base : ℕ) (x1 : ℕ) (x2 : State) (h : P x2) :
    P (panelHeads hh g user t j part base x1 x2).1 := by
  induction x1 generalizing hh g user t j part base x2 with
  | zero => unfold panelHeads; exact h
  | succ m ih =>
    unfold panelHeads
    try extract_lets
    repeat' first
      | with_reducible assumption
      | with_reducible refine ticketRead_keeps (k.sub (by decide)) _ _ _ _ _ _ _ ?_
      | with_reducible apply ih
      | with_reducible refine fst_keeps ?_ (by with_reducible assumption)
      | split

theorem boulderStage_keeps {P : State → Prop} (k : Closed P [.regs, .fifoHolds, .sector, .codes, .stairs, .disp, .galleries, .dressers, .caches, .drams, .hif, .fc, .mc, .drawn]) (s : State) (hh : ℕ) (g : ℕ) (t : Ticket) (j : Job) (gr : Group) (h : P s) :
    P (boulderStage s hh g t j gr).1 := by
  unfold boulderStage
  try extract_lets
  repeat' first
    | with_reducible assumption
    | with_reducible refine listMatches_keeps (k.sub (by decide)) _ _ _ _ _ _ _ _ ?_
    | with_reducible refine panelHeads_keeps (k.sub (by decide)) _ _ _ _ _ _ _ _ _ ?_
    | with_reducible refine boulderEntries_keeps (k.sub (by decide)) _ _ _ _ _ _ _ ?_
    | with_reducible refine ite_fst_keeps ?_ ?_
    | with_reducible refine fst_keeps ?_ (by with_reducible assumption)
    | extract_lets
    | split

theorem countDrain_keeps {P : State → Prop} (k : Closed P [.regs]) (s : State) (hh : ℕ) (g : ℕ) (cost : ℕ) (hits : ℕ) (h : P s) :
    P (countDrain s hh g cost hits) := by
  unfold countDrain
  try extract_lets
  repeat' first
    | with_reducible assumption
    | with_reducible refine count_keeps (k.sub (by decide)) _ _ _ _ ?_

theorem readSides_keeps {P : State → Prop} (k : Closed P [.regs, .fifoHolds, .sector, .codes, .stairs, .disp, .galleries, .dressers, .caches, .drams, .hif, .fc, .mc, .drawn]) (hh : ℕ) (g : ℕ) (t : Ticket) (j : Job) (i : ℕ) (row : ℕ) (x1 : ℕ) (x2 : State) (h : P x2) :
    P (readSides hh g t j i row x1 x2).1 := by
  induction x1 generalizing hh g t j i row x2 with
  | zero => unfold readSides; exact h
  | succ m ih =>
    unfold readSides
    try extract_lets
    repeat' first
      | with_reducible assumption
      | with_reducible refine sideOf_keeps (k.sub (by decide)) _ _ _ _ _ _ _ ?_
      | with_reducible apply ih
      | with_reducible refine fst_keeps ?_ (by with_reducible assumption)
      | split

theorem readGroup_keeps {P : State → Prop} (k : Closed P [.regs, .fifoHolds, .stairs, .disp, .galleries, .dressers, .hif, .fc, .mc, .drawn]) (hh : ℕ) (g : ℕ) (t : Ticket) (gr : Group) (first : ℕ) (x1 : ℕ) (x2 : State) (h : P x2) :
    P (readGroup hh g t gr first x1 x2).1 := by
  induction x1 generalizing hh g t gr first x2 with
  | zero => unfold readGroup; exact h
  | succ m ih =>
    unfold readGroup
    try extract_lets
    repeat' first
      | with_reducible assumption
      | with_reducible refine bump_keeps (k.sub (by decide)) _ _ _ ?_
      | with_reducible refine ticketMemFault_keeps (k.sub (by decide)) _ _ ?_
      | with_reducible refine readStore_keeps (k.sub (by decide)) _ _ _ _ _ _ ?_
      | with_reducible apply ih
      | with_reducible refine fst_keeps ?_ (by with_reducible assumption)
      | split

theorem readDrain_keeps {P : State → Prop} (k : Closed P [.regs, .fifoHolds, .sector, .codes, .stairs, .disp, .galleries, .dressers, .caches, .drams, .hif, .fc, .mc, .drawn]) (s : State) (hh : ℕ) (g : ℕ) (t : Ticket) (j : Job) (gr : Group) (h : P s) :
    P (readDrain s hh g t j gr).1 := by
  unfold readDrain
  try extract_lets
  repeat' first
    | with_reducible assumption
    | with_reducible refine boulderStage_keeps (k.sub (by decide)) _ _ _ _ _ _ ?_
    | with_reducible refine ticketRead_keeps (k.sub (by decide)) _ _ _ _ _ _ _ ?_
    | with_reducible refine readSides_keeps (k.sub (by decide)) _ _ _ _ _ _ _ _ ?_
    | with_reducible refine readGroup_keeps (k.sub (by decide)) _ _ _ _ _ _ _ ?_
    | with_reducible refine ite_fst_keeps ?_ ?_
    | with_reducible refine fst_keeps ?_ (by with_reducible assumption)
    | extract_lets
    | split
    | dsimp +zetaDelta only

theorem drainBlocks_keeps {P : State → Prop} (k : Closed P [.regs, .fifoHolds, .sector, .codes, .stairs, .disp, .galleries, .dressers, .caches, .drams, .hif, .fc, .mc, .drawn]) (hh : ℕ) (g : ℕ) (t : Ticket) (j : Job) (x1 : List Group) (x2 : State) (h : P x2) :
    P (drainBlocks hh g t j x1 x2).1 := by
  induction x1 generalizing hh g t j x2 with
  | nil => unfold drainBlocks; exact h
  | cons hd tl ih =>
    unfold drainBlocks
    try extract_lets
    repeat' first
      | with_reducible assumption
      | with_reducible refine veFlags_keeps (k.sub (by decide)) _ _ _ _ _ _ ?_
      | with_reducible refine countDrain_keeps (k.sub (by decide)) _ _ _ _ _ ?_
      | with_reducible refine readDrain_keeps (k.sub (by decide)) _ _ _ _ _ _ ?_
      | with_reducible apply ih
      | with_reducible refine fst_keeps ?_ (by with_reducible assumption)
      | extract_lets
      | split

theorem drainCodes_keeps {P : State → Prop} (k : Closed P [.regs, .fifoHolds, .sector, .codes, .stairs, .disp, .galleries, .dressers, .caches, .drams, .hif, .fc, .mc, .drawn]) (s : State) (hh : ℕ) (g : ℕ) (t : Ticket) (j : Job) (h : P s) :
    P (drainCodes s hh g t j) := by
  unfold drainCodes
  try extract_lets
  repeat' first
    | with_reducible assumption
    | with_reducible refine setGal_keeps (k.sub (by decide)) _ _ _ _ ?_
    | with_reducible refine drainBlocks_keeps (k.sub (by decide)) _ _ _ _ _ _ ?_
    | with_reducible refine fst_keeps ?_ (by with_reducible assumption)
    | split

theorem markDrained_keeps {P : State → Prop} (k : Closed P [.galleries]) (s : State) (hh : ℕ) (g : ℕ) (slot : ℕ) (h : P s) :
    P (markDrained s hh g slot) := by
  unfold markDrained
  try extract_lets
  repeat' first
    | with_reducible assumption
    | with_reducible refine updGroup_keeps (k.sub (by decide)) _ _ _ _ _ ?_

theorem writeRows_keeps {P : State → Prop} (k : Closed P [.regs, .fifoHolds, .sector, .codes, .stairs, .disp, .galleries, .dressers, .caches, .drams, .hif, .fc, .drawn]) (hh : ℕ) (g : ℕ) (t : Ticket) (j : Job) (gr : Group) (m : ℕ) (x1 : List (List (Option FRes))) (x2 : State) (h : P x2) :
    P (writeRows hh g t j gr m x1 x2).1 := by
  induction x1 generalizing hh g t j gr m x2 with
  | nil => unfold writeRows; exact h
  | cons hd tl ih =>
    unfold writeRows
    try extract_lets
    repeat' first
      | with_reducible assumption
      | with_reducible refine ticketWrite_keeps (k.sub (by decide)) _ _ _ _ _ _ _ ?_
      | with_reducible refine veFlags_keeps (k.sub (by decide)) _ _ _ _ _ _ ?_
      | with_reducible apply ih
      | with_reducible refine ite_fst_keeps ?_ ?_
      | with_reducible refine fst_keeps ?_ (by with_reducible assumption)
      | split

theorem drainFloat_keeps {P : State → Prop} (k : Closed P [.regs, .fifoHolds, .sector, .codes, .stairs, .disp, .galleries, .dressers, .caches, .drams, .hif, .fc, .mc, .drawn]) (s : State) (hh : ℕ) (g : ℕ) (t : Ticket) (j : Job) (gr : Group) (h : P s) :
    P (drainFloat s hh g t j gr) := by
  unfold drainFloat
  try extract_lets
  repeat' first
    | with_reducible assumption
    | with_reducible refine markDrained_keeps (k.sub (by decide)) _ _ _ _ ?_
    | with_reducible refine writeRows_keeps (k.sub (by decide)) _ _ _ _ _ _ _ _ ?_
    | with_reducible refine countDrain_keeps (k.sub (by decide)) _ _ _ _ _ ?_
    | with_reducible refine readDrain_keeps (k.sub (by decide)) _ _ _ _ _ _ ?_
    | with_reducible refine fst_keeps ?_ (by with_reducible assumption)
    | extract_lets
    | split

theorem drainInt_keeps {P : State → Prop} (k : Closed P [.regs, .fifoHolds, .sector, .codes, .stairs, .disp, .galleries, .dressers, .caches, .drams, .hif, .fc, .mc, .drawn]) (s : State) (hh : ℕ) (g : ℕ) (t : Ticket) (j : Job) (gr : Group) (h : P s) :
    P (drainInt s hh g t j gr) := by
  unfold drainInt
  try extract_lets
  repeat' first
    | with_reducible assumption
    | with_reducible refine markDrained_keeps (k.sub (by decide)) _ _ _ _ ?_
    | with_reducible refine ticketWrite_keeps (k.sub (by decide)) _ _ _ _ _ _ _ ?_
    | with_reducible refine veFlags_keeps (k.sub (by decide)) _ _ _ _ _ _ ?_
    | with_reducible refine countDrain_keeps (k.sub (by decide)) _ _ _ _ _ ?_
    | with_reducible refine boulderStage_keeps (k.sub (by decide)) _ _ _ _ _ _ ?_
    | with_reducible refine readGroup_keeps (k.sub (by decide)) _ _ _ _ _ _ _ ?_
    | with_reducible refine ite_fst_keeps ?_ ?_
    | with_reducible refine fst_keeps ?_ (by with_reducible assumption)
    | extract_lets
    | split

theorem execDrainDone_keeps {P : State → Prop} (k : Closed P [.regs, .galleries]) (hh : Fin 16) (g : Fin 17) (s : State) (h : P s) :
    Answers P (execDrainDone hh g s) := by
  unfold execDrainDone
  try extract_lets
  repeat' first
    | with_reducible assumption
    | with_reducible refine updTicket_keeps (k.sub (by decide)) _ _ _ _ _ ?_
    | with_reducible refine settleQuOut_keeps (k.sub (by decide)) _ _ _ ?_
    | with_reducible refine setGal_keeps (k.sub (by decide)) _ _ _ _ ?_
    | with_reducible refine count_keeps (k.sub (by decide)) _ _ _ _ ?_
    | with_reducible refine answers_next ?_
    | with_reducible refine ite_answers ?_ ?_
    | split

theorem runDrain_keeps {P : State → Prop} (k : Closed P [.regs, .fifoHolds, .sector, .codes, .stairs, .disp, .galleries, .dressers, .caches, .drams, .hif, .fc, .mc, .drawn]) (s : State) (hh : ℕ) (g : ℕ) (t : Ticket) (j : Job) (tile : ℕ) (h : P s) :
    P (runDrain s hh g t j tile) := by
  unfold runDrain
  try extract_lets
  repeat' first
    | with_reducible assumption
    | with_reducible refine drainFloat_keeps (k.sub (by decide)) _ _ _ _ _ _ ?_
    | with_reducible refine drainInt_keeps (k.sub (by decide)) _ _ _ _ _ _ ?_
    | with_reducible refine drainCodes_keeps (k.sub (by decide)) _ _ _ _ _ ?_
    | with_reducible refine ite_keeps ?_ ?_
    | extract_lets
    | split

theorem execDrainStart_keeps {P : State → Prop} (k : Closed P [.regs, .fifoHolds, .sector, .codes, .stairs, .disp, .galleries, .dressers, .caches, .drams, .hif, .fc, .mc, .drawn]) (hh : Fin 16) (g : Fin 17) (s : State) (h : P s) :
    Answers P (execDrainStart hh g s) := by
  unfold execDrainStart
  try extract_lets
  repeat' first
    | with_reducible assumption
    | with_reducible refine runDrain_keeps (k.sub (by decide)) _ _ _ _ _ _ ?_
    | with_reducible refine setGal_keeps (k.sub (by decide)) _ _ _ _ ?_
    | with_reducible refine answers_next ?_
    | with_reducible refine ite_answers ?_ ?_
    | split

theorem noteAlias_keeps {P : State → Prop} (k : Closed P [.regs, .fifoHolds, .disp, .hif, .drawn]) (s : State) (hh : ℕ) (g : ℕ) (v : VecRun) (ids : List ℕ) (h : P s) :
    P (noteAlias s hh g v ids) := by
  unfold noteAlias
  try extract_lets
  repeat' first
    | with_reducible assumption
    | with_reducible refine quFlags_keeps (k.sub (by decide)) _ _ _ _ _ _ ?_
    | with_reducible refine k.regs (by decide) ?_
    | split

theorem checkStreams_keeps {P : State → Prop} (k : Closed P [.regs, .fifoHolds, .sector, .codes, .stairs, .disp, .galleries, .dressers, .caches, .drams, .hif, .fc, .drawn]) (s : State) (hh : ℕ) (g : ℕ) (v : VecRun) (h : P s) :
    P (checkStreams s hh g v).1 := by
  unfold checkStreams
  try extract_lets
  repeat' first
    | with_reducible assumption
    | with_reducible refine noteAlias_keeps (k.sub (by decide)) _ _ _ _ _ ?_
    | with_reducible refine ticketRead_keeps (k.sub (by decide)) _ _ _ _ _ _ _ ?_
    | with_reducible refine ite_fst_keeps ?_ ?_
    | with_reducible refine fst_keeps ?_ (by with_reducible assumption)
    | extract_lets
    | split

theorem writeOut_keeps {P : State → Prop} (k : Closed P [.regs, .fifoHolds, .sector, .codes, .stairs, .disp, .galleries, .dressers, .caches, .drams, .hif, .fc, .drawn]) (s : State) (hh : ℕ) (g : ℕ) (v : VecRun) (r : ℕ) (size : ℕ) (elems : List ℕ) (h : P s) :
    P (writeOut s hh g v r size elems).1 := by
  unfold writeOut
  try extract_lets
  repeat' first
    | with_reducible assumption
    | with_reducible refine ticketWrite_keeps (k.sub (by decide)) _ _ _ _ _ _ _ ?_

theorem putRow_keeps {P : State → Prop} (k : Closed P [.regs, .fifoHolds, .sector, .codes, .stairs, .disp, .galleries, .dressers, .caches, .drams, .hif, .fc, .drawn]) (s : State) (hh : ℕ) (g : ℕ) (v : VecRun) (r : ℕ) (ys : List FRes) (flags : ℕ) (h : P s) :
    P (putRow s hh g v r ys flags).1 := by
  unfold putRow
  try extract_lets
  repeat' first
    | with_reducible assumption
    | with_reducible refine veFlags_keeps (k.sub (by decide)) _ _ _ _ _ _ ?_
    | with_reducible refine writeOut_keeps (k.sub (by decide)) _ _ _ _ _ _ _ ?_

theorem readElems_keeps {P : State → Prop} (k : Closed P [.regs, .fifoHolds, .sector, .codes, .stairs, .disp, .galleries, .dressers, .caches, .drams, .hif, .fc, .drawn]) (hh : ℕ) (g : ℕ) (t : Ticket) (size : ℕ) (step : ℕ) (a : ℕ) (x1 : ℕ) (x2 : State) (h : P x2) :
    P (readElems hh g t size step a x1 x2).1 := by
  induction x1 generalizing hh g t size step a x2 with
  | zero => unfold readElems; exact h
  | succ m ih =>
    unfold readElems
    try extract_lets
    repeat' first
      | with_reducible assumption
      | with_reducible refine ticketRead_keeps (k.sub (by decide)) _ _ _ _ _ _ _ ?_
      | with_reducible apply ih
      | with_reducible refine fst_keeps ?_ (by with_reducible assumption)
      | split

theorem readRow_keeps {P : State → Prop} (k : Closed P [.regs, .fifoHolds, .sector, .codes, .stairs, .disp, .galleries, .dressers, .caches, .drams, .hif, .fc, .drawn]) (s : State) (hh : ℕ) (g : ℕ) (t : Ticket) (fmt : ℕ) (stride : ℕ) (n : ℕ) (a : ℕ) (h : P s) :
    P (readRow s hh g t fmt stride n a).1 := by
  unfold readRow
  try extract_lets
  repeat' first
    | with_reducible assumption
    | with_reducible refine readElems_keeps (k.sub (by decide)) _ _ _ _ _ _ _ _ ?_
    | with_reducible refine ticketRead_keeps (k.sub (by decide)) _ _ _ _ _ _ _ ?_
    | with_reducible refine ite_fst_keeps ?_ ?_
    | with_reducible refine fst_keeps ?_ (by with_reducible assumption)
    | extract_lets
    | split

theorem readB_keeps {P : State → Prop} (k : Closed P [.regs, .fifoHolds, .sector, .codes, .stairs, .disp, .galleries, .dressers, .caches, .drams, .hif, .fc, .drawn]) (s : State) (hh : ℕ) (g : ℕ) (v : VecRun) (r : ℕ) (h : P s) :
    P (readB s hh g v r).1 := by
  unfold readB
  try extract_lets
  repeat' first
    | with_reducible assumption
    | with_reducible refine readRow_keeps (k.sub (by decide)) _ _ _ _ _ _ _ _ ?_
    | with_reducible refine ite_fst_keeps ?_ ?_

theorem readA_keeps {P : State → Prop} (k : Closed P [.regs, .fifoHolds, .sector, .codes, .stairs, .disp, .galleries, .dressers, .caches, .drams, .hif, .fc, .drawn]) (s : State) (hh : ℕ) (g : ℕ) (v : VecRun) (src : ℕ) (r : ℕ) (h : P s) :
    P (readA s hh g v src r).1 := by
  unfold readA
  try extract_lets
  repeat' first
    | with_reducible assumption
    | with_reducible refine readRow_keeps (k.sub (by decide)) _ _ _ _ _ _ _ _ ?_

theorem dotOf_keeps {P : State → Prop} (k : Closed P [.regs, .fifoHolds, .sector, .codes, .stairs, .disp, .galleries, .dressers, .caches, .drams, .hif, .fc, .drawn]) (hh : ℕ) (g : ℕ) (v : VecRun) (r : ℕ) (s : State) (h : P s) :
    P (dotOf hh g v r s).1 := by
  unfold dotOf
  try extract_lets
  repeat' first
    | with_reducible assumption
    | with_reducible refine putRow_keeps (k.sub (by decide)) _ _ _ _ _ _ _ ?_
    | with_reducible refine readB_keeps (k.sub (by decide)) _ _ _ _ _ ?_
    | with_reducible refine readA_keeps (k.sub (by decide)) _ _ _ _ _ _ ?_
    | with_reducible refine fst_keeps ?_ (by with_reducible assumption)
    | split

theorem eachRow_keeps {P : State → Prop} (f : ℕ → State → State × Bool) (r : ℕ) (x1 : ℕ) (x2 : State) (hb : ∀ y0 y1, P y1 → P (f y0 y1).1) (h : P x2) :
    P (eachRow f r x1 x2).1 := by
  induction x1 generalizing f r x2 with
  | zero => unfold eachRow; exact h
  | succ m ih =>
    unfold eachRow
    try extract_lets
    repeat' first
      | with_reducible assumption
      | with_reducible apply ih
      | with_reducible refine hb _ _ ?_
      | with_reducible refine fst_keeps ?_ (by with_reducible assumption)
      | split

theorem endVector_keeps {P : State → Prop} (k : Closed P [.regs, .galleries]) (s : State) (hh : ℕ) (g : ℕ) (v : VecRun) (h : P s) :
    P (endVector s hh g v) := by
  unfold endVector
  try extract_lets
  repeat' first
    | with_reducible assumption
    | with_reducible refine setGal_keeps (k.sub (by decide)) _ _ _ _ ?_
    | with_reducible refine ticketWritten_keeps (k.sub (by decide)) _ _ _ _ ?_
    | with_reducible refine bump_keeps (k.sub (by decide)) _ _ _ ?_

theorem runRows_keeps {P : State → Prop} (k : Closed P [.regs, .galleries]) (s : State) (hh : ℕ) (g : ℕ) (v : VecRun) (row : ℕ → State → State × Bool) (hb : ∀ y0 y1, P y1 → P (row y0 y1).1) (h : P s) :
    P (runRows s hh g v row) := by
  unfold runRows
  try extract_lets
  repeat' first
    | with_reducible assumption
    | with_reducible refine endVector_keeps (k.sub (by decide)) _ _ _ _ ?_
    | with_reducible refine eachRow_keeps _ _ _ _ (fun _ _ _ => ?_) ?_
    | with_reducible refine count_keeps (k.sub (by decide)) _ _ _ _ ?_
    | with_reducible refine hb _ _ ?_
    | with_reducible refine fst_keeps ?_ (by with_reducible assumption)
    | split

theorem execDot_keeps {P : State → Prop} (k : Closed P [.regs, .fifoHolds, .sector, .codes, .stairs, .disp, .galleries, .dressers, .caches, .drams, .hif, .fc, .drawn]) (hh : Fin 16) (g : Fin 17) (s : State) (h : P s) :
    Answers P (execDot hh g s) := by
  unfold execDot
  try extract_lets
  repeat' first
    | with_reducible assumption
    | with_reducible refine dotOf_keeps (k.sub (by decide)) _ _ _ _ _ ?_
    | with_reducible refine runRows_keeps (k.sub (by decide)) _ _ _ _ _ (fun _ _ _ => ?_) ?_
    | with_reducible refine answers_next ?_
    | split

theorem mapRow_keeps {P : State → Prop} (k : Closed P [.regs, .fifoHolds, .sector, .codes, .stairs, .disp, .galleries, .dressers, .caches, .drams, .hif, .fc, .drawn]) (hh : ℕ) (g : ℕ) (v : VecRun) (r : ℕ) (s : State) (h : P s) :
    P (mapRow hh g v r s).1 := by
  unfold mapRow
  try extract_lets
  repeat' first
    | with_reducible assumption
    | with_reducible refine putRow_keeps (k.sub (by decide)) _ _ _ _ _ _ _ ?_
    | with_reducible refine readB_keeps (k.sub (by decide)) _ _ _ _ _ ?_
    | with_reducible refine readA_keeps (k.sub (by decide)) _ _ _ _ _ _ ?_
    | with_reducible refine fst_keeps ?_ (by with_reducible assumption)
    | split

theorem execMap_keeps {P : State → Prop} (k : Closed P [.regs, .fifoHolds, .sector, .codes, .stairs, .disp, .galleries, .dressers, .caches, .drams, .hif, .fc, .drawn]) (hh : Fin 16) (g : Fin 17) (s : State) (h : P s) :
    Answers P (execMap hh g s) := by
  unfold execMap
  try extract_lets
  repeat' first
    | with_reducible assumption
    | with_reducible refine mapRow_keeps (k.sub (by decide)) _ _ _ _ _ ?_
    | with_reducible refine runRows_keeps (k.sub (by decide)) _ _ _ _ _ (fun _ _ _ => ?_) ?_
    | with_reducible refine answers_next ?_
    | split

theorem splitkRow_keeps {P : State → Prop} (k : Closed P [.regs, .fifoHolds, .sector, .codes, .stairs, .disp, .galleries, .dressers, .caches, .drams, .hif, .fc, .drawn]) (hh : ℕ) (g : ℕ) (v : VecRun) (place : ℕ × ℕ × ℕ) (recs : ℕ) (cols : ℕ) (parts : List SplitPart) (m : ℕ) (s : State) (h : P s) :
    P (splitkRow hh g v place recs cols parts m s).1 := by
  unfold splitkRow
  try extract_lets
  repeat' first
    | with_reducible assumption
    | with_reducible refine ticketWrite_keeps (k.sub (by decide)) _ _ _ _ _ _ _ ?_
    | with_reducible refine veFlags_keeps (k.sub (by decide)) _ _ _ _ _ _ ?_
    | with_reducible refine ticketRead_keeps (k.sub (by decide)) _ _ _ _ _ _ _ ?_
    | with_reducible refine ite_fst_keeps ?_ ?_
    | with_reducible refine fst_keeps ?_ (by with_reducible assumption)
    | split

theorem readTiles_keeps {P : State → Prop} (k : Closed P [.regs, .fifoHolds, .sector, .codes, .stairs, .disp, .galleries, .dressers, .caches, .drams, .hif, .fc, .drawn]) (hh : ℕ) (g : ℕ) (v : VecRun) (o : ℕ) (n : ℕ) (x1 : List (ℕ × ℕ)) (x2 : State) (h : P x2) :
    P (readTiles hh g v o n x1 x2).1 := by
  induction x1 generalizing hh g v o n x2 with
  | nil => unfold readTiles; exact h
  | cons hd tl ih =>
    unfold readTiles
    try extract_lets
    repeat' first
      | with_reducible assumption
      | with_reducible refine ticketRead_keeps (k.sub (by decide)) _ _ _ _ _ _ _ ?_
      | with_reducible apply ih
      | with_reducible refine ite_fst_keeps ?_ ?_
      | with_reducible refine fst_keeps ?_ (by with_reducible assumption)
      | split

theorem runSplitk_keeps {P : State → Prop} (k : Closed P [.regs, .fifoHolds, .sector, .codes, .stairs, .disp, .galleries, .dressers, .caches, .drams, .hif, .fc, .drawn]) (s : State) (hh : ℕ) (g : ℕ) (v : VecRun) (ws : List ℕ) (h : P s) :
    P (runSplitk s hh g v ws) := by
  unfold runSplitk
  try extract_lets
  repeat' first
    | with_reducible assumption
    | with_reducible refine endVector_keeps (k.sub (by decide)) _ _ _ _ ?_
    | with_reducible refine splitkRow_keeps (k.sub (by decide)) _ _ _ _ _ _ _ _ _ ?_
    | with_reducible refine eachRow_keeps _ _ _ _ (fun _ _ _ => ?_) ?_
    | with_reducible refine jobFlags_keeps (k.sub (by decide)) _ _ _ _ ?_
    | with_reducible refine count_keeps (k.sub (by decide)) _ _ _ _ ?_
    | with_reducible refine ticketRead_keeps (k.sub (by decide)) _ _ _ _ _ _ _ ?_
    | with_reducible refine readTiles_keeps (k.sub (by decide)) _ _ _ _ _ _ _ ?_
    | with_reducible refine ite_keeps ?_ ?_
    | with_reducible refine ite_fst_keeps ?_ ?_
    | with_reducible refine fst_keeps ?_ (by with_reducible assumption)
    | extract_lets
    | split
    | dsimp only
    | dsimp +zetaDelta only

theorem failSplitk_keeps {P : State → Prop} (k : Closed P [.regs, .fifoHolds, .stairs, .disp, .galleries, .hif, .drawn]) (s : State) (hh : ℕ) (g : ℕ) (v : VecRun) (status : ℕ) (h : P s) :
    P (failSplitk s hh g v status) := by
  unfold failSplitk
  try extract_lets
  repeat' first
    | with_reducible assumption
    | with_reducible refine setGal_keeps (k.sub (by decide)) _ _ _ _ ?_
    | with_reducible refine releaseWaits_keeps (k.sub (by decide)) _ ?_
    | with_reducible refine freePlaces_keeps (k.sub (by decide)) _ _ _ _ ?_
    | with_reducible refine noteRan_keeps (k.sub (by decide)) _ _ _ _ ?_
    | with_reducible refine updJob_keeps (k.sub (by decide)) _ _ _ _ ?_
    | with_reducible refine setSticky_keeps (k.sub (by decide)) _ _ _ ?_
    | with_reducible refine ite_keeps ?_ ?_

theorem readSideWords_keeps {P : State → Prop} (k : Closed P [.regs, .fifoHolds, .sector, .codes, .stairs, .disp, .galleries, .dressers, .caches, .drams, .hif, .fc, .drawn]) (h g : ℕ)
    (v : VecRun) (o x n : ℕ) (s : State) (hs : P s) : P (readSideWords h g v o x n s).1 := by
  induction n generalizing x s with
  | zero => exact hs
  | succ n ih =>
    unfold readSideWords
    repeat' first
      | with_reducible assumption
      | with_reducible refine ticketRead_keeps (k.sub (by decide)) _ _ _ _ _ _ _ ?_
      | with_reducible apply ih
      | with_reducible refine fst_keeps ?_ (by with_reducible assumption)
      | split

theorem execReduceSplitk_keeps {P : State → Prop} (k : Closed P [.regs, .fifoHolds, .sector, .codes, .stairs, .disp, .galleries, .dressers, .caches, .drams, .hif, .fc, .drawn]) (hh : Fin 16) (g : Fin 17) (s : State) (h : P s) :
    Answers P (execReduceSplitk hh g s) := by
  unfold execReduceSplitk
  try extract_lets
  repeat' first
    | with_reducible assumption
    | with_reducible refine runSplitk_keeps (k.sub (by decide)) _ _ _ _ _ ?_
    | with_reducible refine failSplitk_keeps (k.sub (by decide)) _ _ _ _ _ ?_
    | with_reducible refine readSideWords_keeps (k.sub (by decide)) _ _ _ _ _ _ _ ?_
    | with_reducible refine answers_next ?_
    | with_reducible refine fst_keeps ?_ (by with_reducible assumption)
    | extract_lets
    | split

theorem readSources_keeps {P : State → Prop} (k : Closed P [.regs, .fifoHolds, .sector, .codes, .stairs, .disp, .galleries, .dressers, .caches, .drams, .hif, .fc, .drawn]) (hh : ℕ) (g : ℕ) (v : VecRun) (r : ℕ) (src : ℕ) (x1 : ℕ) (x2 : State) (h : P x2) :
    P (readSources hh g v r src x1 x2).1 := by
  induction x1 generalizing hh g v r src x2 with
  | zero => unfold readSources; exact h
  | succ m ih =>
    unfold readSources
    try extract_lets
    repeat' first
      | with_reducible assumption
      | with_reducible refine readA_keeps (k.sub (by decide)) _ _ _ _ _ _ ?_
      | with_reducible apply ih
      | with_reducible refine fst_keeps ?_ (by with_reducible assumption)
      | split

theorem sumRow_keeps {P : State → Prop} (k : Closed P [.regs, .fifoHolds, .sector, .codes, .stairs, .disp, .galleries, .dressers, .caches, .drams, .hif, .fc, .drawn]) (hh : ℕ) (g : ℕ) (v : VecRun) (r : ℕ) (s : State) (h : P s) :
    P (sumRow hh g v r s).1 := by
  unfold sumRow
  try extract_lets
  repeat' first
    | with_reducible assumption
    | with_reducible refine putRow_keeps (k.sub (by decide)) _ _ _ _ _ _ _ ?_
    | with_reducible refine readSources_keeps (k.sub (by decide)) _ _ _ _ _ _ _ ?_
    | with_reducible refine fst_keeps ?_ (by with_reducible assumption)
    | split

theorem execReduceSum_keeps {P : State → Prop} (k : Closed P [.regs, .fifoHolds, .sector, .codes, .stairs, .disp, .galleries, .dressers, .caches, .drams, .hif, .fc, .drawn]) (hh : Fin 16) (g : Fin 17) (s : State) (h : P s) :
    Answers P (execReduceSum hh g s) := by
  unfold execReduceSum
  try extract_lets
  repeat' first
    | with_reducible assumption
    | with_reducible refine sumRow_keeps (k.sub (by decide)) _ _ _ _ _ ?_
    | with_reducible refine runRows_keeps (k.sub (by decide)) _ _ _ _ _ (fun _ _ _ => ?_) ?_
    | with_reducible refine checkStreams_keeps (k.sub (by decide)) _ _ _ _ ?_
    | with_reducible refine answers_next ?_
    | with_reducible refine fst_keeps ?_ (by with_reducible assumption)
    | split

theorem softmaxOf_keeps {P : State → Prop} (k : Closed P [.regs, .fifoHolds, .sector, .codes, .stairs, .disp, .galleries, .dressers, .caches, .drams, .hif, .fc, .drawn]) (hh : ℕ) (g : ℕ) (v : VecRun) (r : ℕ) (s : State) (h : P s) :
    P (softmaxOf hh g v r s).1 := by
  unfold softmaxOf
  try extract_lets
  repeat' first
    | with_reducible assumption
    | with_reducible refine putRow_keeps (k.sub (by decide)) _ _ _ _ _ _ _ ?_
    | with_reducible refine bump_keeps (k.sub (by decide)) _ _ _ ?_
    | with_reducible refine readA_keeps (k.sub (by decide)) _ _ _ _ _ _ ?_
    | with_reducible refine ite_keeps ?_ ?_
    | with_reducible refine fst_keeps ?_ (by with_reducible assumption)
    | split

theorem execSoftmax_keeps {P : State → Prop} (k : Closed P [.regs, .fifoHolds, .sector, .codes, .stairs, .disp, .galleries, .dressers, .caches, .drams, .hif, .fc, .drawn]) (hh : Fin 16) (g : Fin 17) (s : State) (h : P s) :
    Answers P (execSoftmax hh g s) := by
  unfold execSoftmax
  try extract_lets
  repeat' first
    | with_reducible assumption
    | with_reducible refine softmaxOf_keeps (k.sub (by decide)) _ _ _ _ _ ?_
    | with_reducible refine runRows_keeps (k.sub (by decide)) _ _ _ _ _ (fun _ _ _ => ?_) ?_
    | with_reducible refine answers_next ?_
    | split

theorem topkOf_keeps {P : State → Prop} (k : Closed P [.regs, .fifoHolds, .sector, .codes, .stairs, .disp, .galleries, .dressers, .caches, .drams, .hif, .fc, .drawn]) (hh : ℕ) (g : ℕ) (v : VecRun) (r : ℕ) (s : State) (h : P s) :
    P (topkOf hh g v r s).1 := by
  unfold topkOf
  try extract_lets
  repeat' first
    | with_reducible assumption
    | with_reducible refine writeOut_keeps (k.sub (by decide)) _ _ _ _ _ _ _ ?_
    | with_reducible refine bump_keeps (k.sub (by decide)) _ _ _ ?_
    | with_reducible refine veFlags_keeps (k.sub (by decide)) _ _ _ _ _ _ ?_
    | with_reducible refine readA_keeps (k.sub (by decide)) _ _ _ _ _ _ ?_
    | with_reducible refine fst_keeps ?_ (by with_reducible assumption)
    | split

theorem execTopk_keeps {P : State → Prop} (k : Closed P [.regs, .fifoHolds, .sector, .codes, .stairs, .disp, .galleries, .dressers, .caches, .drams, .hif, .fc, .drawn]) (hh : Fin 16) (g : Fin 17) (s : State) (h : P s) :
    Answers P (execTopk hh g s) := by
  unfold execTopk
  try extract_lets
  repeat' first
    | with_reducible assumption
    | with_reducible refine topkOf_keeps (k.sub (by decide)) _ _ _ _ _ ?_
    | with_reducible refine runRows_keeps (k.sub (by decide)) _ _ _ _ _ (fun _ _ _ => ?_) ?_
    | with_reducible refine answers_next ?_
    | split

theorem loadTable_keeps {P : State → Prop} (k : Closed P [.regs, .fifoHolds, .sector, .codes, .stairs, .disp, .galleries, .dressers, .caches, .drams, .hif, .fc, .drawn]) (s : State) (hh : ℕ) (g : ℕ) (t : Ticket) (b : ℕ) (h : P s) :
    P (loadTable s hh g t b) := by
  unfold loadTable
  try extract_lets
  repeat' first
    | with_reducible assumption
    | with_reducible refine ticketRead_keeps (k.sub (by decide)) _ _ _ _ _ _ _ ?_
    | with_reducible refine setGal_keeps (k.sub (by decide)) _ _ _ _ ?_
    | with_reducible refine k.regs (by decide) ?_
    | with_reducible refine ite_keeps ?_ ?_
    | with_reducible refine fst_keeps ?_ (by with_reducible assumption)
    | extract_lets
    | split

theorem execVectorTicketStart_keeps {P : State → Prop} (k : Closed P [.regs, .fifoHolds, .sector, .codes, .stairs, .disp, .galleries, .dressers, .caches, .drams, .hif, .fc, .drawn]) (hh : Fin 16) (g : Fin 17) (s : State) (h : P s) :
    Answers P (execVectorTicketStart hh g s) := by
  unfold execVectorTicketStart
  try extract_lets
  repeat' first
    | with_reducible assumption
    | with_reducible refine loadTable_keeps (k.sub (by decide)) _ _ _ _ _ ?_
    | with_reducible refine updTicket_keeps (k.sub (by decide)) _ _ _ _ _ ?_
    | with_reducible refine setGal_keeps (k.sub (by decide)) _ _ _ _ ?_
    | with_reducible refine answers_next ?_
    | with_reducible refine ite_keeps ?_ ?_
    | extract_lets
    | split

theorem countPanel_keeps {P : State → Prop} (k : Closed P [.regs, .fifoHolds, .disp, .hif, .drawn]) (s : State) (hh : ℕ) (sw : ℕ) (slot : ℕ) (b : ℕ) (groups : List (List (List ℕ × ℕ))) (h : P s) :
    P (countPanel s hh sw slot b groups) := by
  unfold countPanel
  try extract_lets
  repeat' first
    | with_reducible assumption
    | with_reducible refine dresserFlag_keeps (k.sub (by decide)) _ _ _ _ ?_
    | with_reducible refine count_keeps (k.sub (by decide)) _ _ _ _ ?_
    | with_reducible refine ite_keeps ?_ ?_

theorem dressPut_keeps {P : State → Prop} (k : Closed P [.regs, .fifoHolds, .sector, .codes, .stairs, .caches, .drams, .hif, .fc, .drawn]) (hh : ℕ) (x1 : List (ℕ × ℕ × ℕ)) (x2 : State) (h : P x2) :
    P (dressPut hh x1 x2).1 := by
  induction x1 generalizing hh x2 with
  | nil => unfold dressPut; exact h
  | cons hd tl ih =>
    unfold dressPut
    try extract_lets
    repeat' first
      | with_reducible assumption
      | with_reducible refine hcWrite_keeps (k.sub (by decide)) _ _ _ _ _ _ ?_
      | with_reducible apply ih
      | with_reducible refine fst_keeps ?_ (by with_reducible assumption)
      | split

theorem readSource_keeps {P : State → Prop} (k : Closed P [.regs, .fifoHolds, .sector, .codes, .stairs, .caches, .drams, .hif, .fc, .drawn]) (hh : ℕ) (b : ℕ) (n0 : ℕ) (cols : ℕ) (kk : ℕ) (x1 : ℕ) (x2 : State) (h : P x2) :
    P (readSource hh b n0 cols kk x1 x2).1 := by
  induction x1 generalizing hh b n0 cols kk x2 with
  | zero => unfold readSource; exact h
  | succ m ih =>
    unfold readSource
    try extract_lets
    repeat' first
      | with_reducible assumption
      | with_reducible refine hcRead_keeps (k.sub (by decide)) _ _ _ _ _ ?_
      | with_reducible apply ih
      | with_reducible refine fst_keeps ?_ (by with_reducible assumption)
      | split

theorem dressPanel_keeps {P : State → Prop} (k : Closed P [.regs, .fifoHolds, .sector, .codes, .stairs, .disp, .galleries, .dressers, .caches, .drams, .hif, .fc, .drawn]) (s : State) (hh : ℕ) (t : Ticket) (b : ℕ) (h : P s) :
    P (dressPanel s hh t b) := by
  unfold dressPanel
  try extract_lets
  repeat' first
    | with_reducible assumption
    | with_reducible refine bump_keeps (k.sub (by decide)) _ _ _ ?_
    | with_reducible refine countPanel_keeps (k.sub (by decide)) _ _ _ _ _ _ ?_
    | with_reducible refine dressPut_keeps (k.sub (by decide)) _ _ _ ?_
    | with_reducible refine endJob_keeps (k.sub (by decide)) _ _ _ _ ?_
    | with_reducible refine readSource_keeps (k.sub (by decide)) _ _ _ _ _ _ _ ?_
    | with_reducible refine fst_keeps ?_ (by with_reducible assumption)
    | extract_lets
    | with_reducible refine k.dressers (by decide) ?_
    | rw [withDressers_eq]
    | split

theorem execDressPanel_keeps {P : State → Prop} (k : Closed P [.regs, .fifoHolds, .sector, .codes, .stairs, .disp, .galleries, .dressers, .caches, .drams, .hif, .fc, .drawn]) (hh : Fin 16) (s : State) (h : P s) :
    Answers P (execDressPanel hh s) := by
  unfold execDressPanel
  try extract_lets
  repeat' first
    | with_reducible assumption
    | with_reducible refine dressPanel_keeps (k.sub (by decide)) _ _ _ _ ?_
    | with_reducible refine answers_next ?_
    | with_reducible refine ite_answers ?_ ?_
    | split

end Sys2Proof.Machine
end

