-- ==== Sys2Proof/Laws/KeepsDevice.lean ====
section
/-! SUPPORT. What each operation can change: the memories, the links, the host interface, service, security, reset and the registers. A lemma names the parts of the
state its operation can change (Laws/Keeps.lean). -/

namespace Sys2Proof.Machine

theorem accessUe_keeps {P : State → Prop} (k : Closed P [.regs, .fifoHolds, .stairs, .disp, .galleries, .dressers, .hif, .fc, .mc, .drawn]) (s : State) (hh : ℕ) (g : ℕ) (m : ℕ) (u : ℕ) (port : GPort) (w : GalleryWork) (h : P s) :
    P (accessUe s hh g m u port w) := by
  unfold accessUe
  try extract_lets
  repeat' first
    | with_reducible assumption
    | with_reducible refine endJob_keeps (k.sub (by decide)) _ _ _ _ ?_
    | with_reducible refine memUe_keeps (k.sub (by decide)) _ _ _ _ _ ?_
    | split

theorem freeWord_keeps {P : State → Prop} (k : Closed P [.galleries, .drawn]) (s : State) (hh : ℕ) (g : ℕ) (m : ℕ) (u : ℕ) (h : P s) :
    P (freeWord s hh g m u) := by
  unfold freeWord
  try extract_lets
  repeat' first
    | with_reducible assumption
    | with_reducible refine writeStore_keeps (k.sub (by decide)) _ _ _ _ _ _ _ ?_
    | with_reducible refine draw_keeps (k.sub (by decide)) _ ?_

theorem breakWord_keeps {P : State → Prop} (k : Closed P [.galleries]) (s : State) (hh : ℕ) (g : ℕ) (m : ℕ) (u : ℕ) (h : P s) :
    P (breakWord s hh g m u) := by
  unfold breakWord
  try extract_lets
  repeat' first
    | with_reducible assumption
    | with_reducible refine setGal_keeps (k.sub (by decide)) _ _ _ _ ?_

theorem flipWord_keeps {P : State → Prop} (k : Closed P [.galleries]) (s : State) (hh : ℕ) (g : ℕ) (m : ℕ) (u : ℕ) (flips : List ℕ) (h : P s) :
    P (flipWord s hh g m u flips) := by
  unfold flipWord
  try extract_lets
  repeat' first
    | with_reducible assumption
    | with_reducible refine writeStore_keeps (k.sub (by decide)) _ _ _ _ _ _ _ ?_
    | with_reducible refine ite_keeps ?_ ?_

theorem upsetWord_keeps {P : State → Prop} (k : Closed P [.galleries, .drawn]) (s : State) (hh : ℕ) (g : ℕ) (m : ℕ) (u : ℕ) (flips : List ℕ) (h : P s) :
    P (upsetWord s hh g m u flips).1 := by
  unfold upsetWord
  try extract_lets
  repeat' first
    | with_reducible assumption
    | with_reducible refine freeWord_keeps (k.sub (by decide)) _ _ _ _ _ ?_
    | with_reducible refine draw_keeps (k.sub (by decide)) _ ?_
    | with_reducible refine breakWord_keeps (k.sub (by decide)) _ _ _ _ _ ?_
    | with_reducible refine flipWord_keeps (k.sub (by decide)) _ _ _ _ _ _ ?_
    | with_reducible refine ite_fst_keeps ?_ ?_
    | extract_lets
    | split

theorem accessRead_keeps {P : State → Prop} (k : Closed P [.regs, .fifoHolds, .stairs, .disp, .galleries, .dressers, .hif, .fc, .mc, .drawn]) (s : State) (hh : ℕ) (g : ℕ) (m : ℕ) (u : ℕ) (flips : List ℕ) (port : GPort) (w : GalleryWork) (h : P s) :
    P (accessRead s hh g m u flips port w) := by
  unfold accessRead
  try extract_lets
  repeat' first
    | with_reducible assumption
    | with_reducible refine accessUe_keeps (k.sub (by decide)) _ _ _ _ _ _ _ ?_
    | with_reducible refine memCe_keeps (k.sub (by decide)) _ _ _ _ _ ?_
    | with_reducible refine upsetWord_keeps (k.sub (by decide)) _ _ _ _ _ _ ?_
    | with_reducible refine fst_keeps ?_ (by with_reducible assumption)
    | split

theorem findBroken_keeps {P : State → Prop} (k : Closed P [.regs, .fifoHolds, .galleries, .hif, .fc, .mc, .drawn]) (s : State) (hh : ℕ) (g : ℕ) (m : ℕ) (first : ℕ) (n : ℕ) (h : P s) :
    P (findBroken s hh g m first n) := by
  unfold findBroken
  try extract_lets
  repeat' first
    | with_reducible assumption
    | with_reducible refine memUe_keeps (k.sub (by decide)) _ _ _ _ _ ?_
    | with_reducible refine foldl_keeps (fun _ _ _ => ?_) ?_

theorem applyOp_keeps {P : State → Prop} (k : Closed P [.regs, .fifoHolds, .galleries, .hif, .fc, .mc, .drawn]) (s : State) (hh : ℕ) (g : ℕ) (o : MemOp) (h : P s) :
    P (applyOp s hh g o) := by
  unfold applyOp
  try extract_lets
  repeat' first
    | with_reducible assumption
    | with_reducible refine writeStore_keeps (k.sub (by decide)) _ _ _ _ _ _ _ ?_
    | with_reducible refine findBroken_keeps (k.sub (by decide)) _ _ _ _ _ _ ?_
    | with_reducible refine setGal_keeps (k.sub (by decide)) _ _ _ _ ?_
    | with_reducible refine ite_keeps ?_ ?_

theorem resumeGallery_keeps {P : State → Prop} (k : Closed P [.regs, .galleries]) (s : State) (hh : ℕ) (g : ℕ) (h : P s) :
    P (resumeGallery s hh g) := by
  unfold resumeGallery
  try extract_lets
  repeat' first
    | with_reducible assumption
    | with_reducible refine setGal_keeps (k.sub (by decide)) _ _ _ _ ?_
    | with_reducible refine setQuiesce_keeps (k.sub (by decide)) _ _ _ _ ?_

theorem endRowRepair_keeps {P : State → Prop} (k : Closed P [.regs, .galleries, .mc]) (s : State) (hh : ℕ) (g : ℕ) (h : P s) :
    P (endRowRepair s hh g) := by
  unfold endRowRepair
  try extract_lets
  repeat' first
    | with_reducible assumption
    | with_reducible refine resumeGallery_keeps (k.sub (by decide)) _ _ _ ?_
    | with_reducible refine ite_keeps ?_ ?_
    | extract_lets
    | with_reducible refine k.mc (by decide) ?_
    | rw [withMc_eq]
    | split
    | dsimp +zetaDelta only

theorem writeActSplit_keeps {P : State → Prop} (k : Closed P [.regs, .fifoHolds, .galleries, .hif, .drawn]) (s : State) (hh : ℕ) (g : ℕ) (v : ℕ) (h : P s) :
    P (writeActSplit s hh g v) := by
  unfold writeActSplit
  try extract_lets
  repeat' first
    | with_reducible assumption
    | with_reducible refine setGal_keeps (k.sub (by decide)) _ _ _ _ ?_
    | with_reducible refine k.regs (by decide) ?_
    | with_reducible refine setSticky_keeps (k.sub (by decide)) _ _ _ ?_
    | with_reducible refine stateErr_keeps (k.sub (by decide)) _ _ ?_
    | with_reducible refine ite_keeps ?_ ?_

theorem execActSplitWrite_keeps {P : State → Prop} (k : Closed P [.regs, .fifoHolds, .galleries, .hif, .drawn]) (hh : Fin 16) (g : Fin 17) (value : BitVec 32) (s : State) (h : P s) :
    Answers P (execActSplitWrite hh g value s) := by
  unfold execActSplitWrite
  try extract_lets
  repeat' first
    | with_reducible assumption
    | with_reducible refine writeActSplit_keeps (k.sub (by decide)) _ _ _ _ ?_
    | with_reducible refine ifPermitted_keeps (k.sub (by decide)) _ _ _ _ _ _ ?_ ?_
    | with_reducible refine answers_next ?_

theorem execGalleryMemoryAccess_keeps {P : State → Prop} (k : Closed P [.regs, .fifoHolds, .stairs, .disp, .galleries, .dressers, .hif, .fc, .mc, .drawn]) (hh : Fin 16) (g : Fin 17) (m : GMem) (word : ℕ) (write : Option (BitVec 64)) (flipped : List (Fin 144)) (contest : BankContest) (s : State) (h : P s) :
    Answers P (execGalleryMemoryAccess hh g m word write flipped contest s) := by
  unfold execGalleryMemoryAccess
  try extract_lets
  repeat' first
    | with_reducible assumption
    | with_reducible refine accessRead_keeps (k.sub (by decide)) _ _ _ _ _ _ _ _ ?_
    | with_reducible refine writeStore_keeps (k.sub (by decide)) _ _ _ _ _ _ _ ?_
    | with_reducible refine count_keeps (k.sub (by decide)) _ _ _ _ ?_
    | with_reducible refine answers_next ?_
    | with_reducible refine ite_answers ?_ ?_
    | extract_lets
    | split
    | dsimp +zetaDelta only

theorem retireRow_keeps {P : State → Prop} (k : Closed P [.regs, .fifoHolds, .galleries, .hif, .mc, .drawn]) (s : State) (hh : ℕ) (g : ℕ) (row : ℕ) (h : P s) :
    P (retireRow s hh g row) := by
  unfold retireRow
  try extract_lets
  repeat' first
    | with_reducible assumption
    | with_reducible refine exhaustSpares_keeps (k.sub (by decide)) _ _ _ ?_
    | with_reducible refine setGal_keeps (k.sub (by decide)) _ _ _ _ ?_
    | with_reducible refine recordRepair_keeps (k.sub (by decide)) _ _ _ _ _ _ ?_
    | with_reducible refine ite_keeps ?_ ?_

theorem execGalleryRowRetire_keeps {P : State → Prop} (k : Closed P [.regs, .fifoHolds, .galleries, .hif, .mc, .drawn]) (hh : Fin 16) (g : Fin 17) (s : State) (h : P s) :
    Answers P (execGalleryRowRetire hh g s) := by
  unfold execGalleryRowRetire
  try extract_lets
  repeat' first
    | with_reducible assumption
    | with_reducible refine retireRow_keeps (k.sub (by decide)) _ _ _ _ ?_
    | with_reducible refine endRowRepair_keeps (k.sub (by decide)) _ _ _ ?_
    | with_reducible refine answers_next ?_
    | with_reducible refine ite_answers ?_ ?_
    | extract_lets
    | split

theorem startOp_keeps {P : State → Prop} (k : Closed P [.regs, .fifoHolds, .galleries, .hif, .fc, .mc, .drawn]) (s : State) (hh : ℕ) (g : ℕ) (m : ℕ) (op : ℕ) (h : P s) :
    P (startOp s hh g m op) := by
  unfold startOp
  try extract_lets
  repeat' first
    | with_reducible assumption
    | with_reducible refine setSticky_keeps (k.sub (by decide)) _ _ _ ?_
    | with_reducible refine applyOp_keeps (k.sub (by decide)) _ _ _ _ ?_
    | with_reducible refine k.regs (by decide) ?_
    | with_reducible refine setGal_keeps (k.sub (by decide)) _ _ _ _ ?_
    | with_reducible refine stateErr_keeps (k.sub (by decide)) _ _ ?_
    | with_reducible refine ite_keeps ?_ ?_

theorem execMemOpCopy_keeps {P : State → Prop} (k : Closed P [.regs, .fifoHolds, .galleries, .hif, .fc, .mc, .drawn]) (hh : Fin 16) (g : Fin 17) (m : BitVec 2) (s : State) (h : P s) :
    Answers P (execMemOpCopy hh g m s) := by
  unfold execMemOpCopy
  try extract_lets
  repeat' first
    | with_reducible assumption
    | with_reducible refine startOp_keeps (k.sub (by decide)) _ _ _ _ _ ?_
    | with_reducible refine ifPermitted_keeps (k.sub (by decide)) _ _ _ _ _ _ ?_ ?_
    | with_reducible refine answers_next ?_

theorem execMemOpDone_keeps {P : State → Prop} (k : Closed P [.regs, .fifoHolds, .galleries, .hif, .drawn]) (hh : Fin 16) (g : Fin 17) (s : State) (h : P s) :
    Answers P (execMemOpDone hh g s) := by
  unfold execMemOpDone
  try extract_lets
  repeat' first
    | with_reducible assumption
    | with_reducible refine setGal_keeps (k.sub (by decide)) _ _ _ _ ?_
    | with_reducible refine setSticky_keeps (k.sub (by decide)) _ _ _ ?_
    | with_reducible refine answers_next ?_
    | with_reducible refine ite_answers ?_ ?_

theorem execMemOpFill_keeps {P : State → Prop} (k : Closed P [.regs, .fifoHolds, .galleries, .hif, .fc, .mc, .drawn]) (hh : Fin 16) (g : Fin 17) (m : BitVec 2) (s : State) (h : P s) :
    Answers P (execMemOpFill hh g m s) := by
  unfold execMemOpFill
  try extract_lets
  repeat' first
    | with_reducible assumption
    | with_reducible refine startOp_keeps (k.sub (by decide)) _ _ _ _ _ ?_
    | with_reducible refine ifPermitted_keeps (k.sub (by decide)) _ _ _ _ _ _ ?_ ?_
    | with_reducible refine answers_next ?_

theorem returnRead_keeps {P : State → Prop} (k : Closed P [.readWord]) (s : State) (path : Path) (v : ℕ) (h : P s) :
    P (returnRead s path v) := by
  unfold returnRead
  try extract_lets
  repeat' first
    | with_reducible assumption
    | with_reducible refine k.readWord (by decide) ?_
    | rw [withReadWord_eq]

theorem readWindow_keeps {P : State → Prop} (k : Closed P [.regs, .fifoHolds, .galleries, .hif, .mc, .drawn]) (s : State) (hh : ℕ) (g : ℕ) (i : ℕ) (flipped : List (Fin 144)) (h : P s) :
    P (readWindow s hh g i flipped).1 := by
  unfold readWindow
  try extract_lets
  repeat' first
    | with_reducible assumption
    | with_reducible refine k.regs (by decide) ?_
    | with_reducible refine memCe_keeps (k.sub (by decide)) _ _ _ _ _ ?_
    | with_reducible refine upsetWord_keeps (k.sub (by decide)) _ _ _ _ _ _ ?_
    | with_reducible refine ite_keeps ?_ ?_
    | split

theorem writeWindow_keeps {P : State → Prop} (k : Closed P [.regs, .galleries]) (s : State) (hh : ℕ) (g : ℕ) (i : ℕ) (v : ℕ) (h : P s) :
    P (writeWindow s hh g i v) := by
  unfold writeWindow
  try extract_lets
  repeat' first
    | with_reducible assumption
    | with_reducible refine setGal_keeps (k.sub (by decide)) _ _ _ _ ?_
    | with_reducible refine stateErr_keeps (k.sub (by decide)) _ _ ?_
    | with_reducible refine ite_keeps ?_ ?_
    | extract_lets
    | split

theorem execWinWordWrite_keeps {P : State → Prop} (k : Closed P [.regs, .fifoHolds, .galleries, .hif, .drawn]) (hh : Fin 16) (g : Fin 17) (i : Fin 128) (value : BitVec 32) (s : State) (h : P s) :
    Answers P (execWinWordWrite hh g i value s) := by
  unfold execWinWordWrite
  try extract_lets
  repeat' first
    | with_reducible assumption
    | with_reducible refine writeWindow_keeps (k.sub (by decide)) _ _ _ _ _ ?_
    | with_reducible refine ifPermitted_keeps (k.sub (by decide)) _ _ _ _ _ _ ?_ ?_
    | with_reducible refine answers_next ?_

theorem execWinWordRead_keeps {P : State → Prop} (k : Closed P [.regs, .readWord, .fifoHolds, .galleries, .hif, .mc, .drawn]) (path : Path) (hh : Fin 16) (g : Fin 17) (i : WindowRead) (s : State) (h : P s) :
    Answers P (execWinWordRead path hh g i s) := by
  unfold execWinWordRead
  try extract_lets
  repeat' first
    | with_reducible assumption
    | with_reducible refine returnRead_keeps (k.sub (by decide)) _ _ _ ?_
    | with_reducible refine readWindow_keeps (k.sub (by decide)) _ _ _ _ _ ?_
    | with_reducible refine answers_next ?_

theorem endRequester_keeps {P : State → Prop} (k : Closed P [.regs, .fifoHolds, .stairs, .disp, .galleries, .dressers, .hif, .fc, .drawn]) (s : State) (hh : ℕ) (user : HallUser) (kind : ℕ) (a : ℕ) (h : P s) :
    P (endRequester s hh user kind a) := by
  unfold endRequester
  try extract_lets
  repeat' first
    | with_reducible assumption
    | with_reducible refine endJob_keeps (k.sub (by decide)) _ _ _ _ ?_
    | with_reducible refine galleryAccessFault_keeps (k.sub (by decide)) _ _ _ _ _ _ _ ?_
    | split

theorem dropWalks_keeps {P : State → Prop} (k : Closed P [.caches]) (s : State) (sw : ℕ) (slot : ℕ) (h : P s) :
    P (dropWalks s sw slot) := by
  unfold dropWalks
  try extract_lets
  repeat' first
    | with_reducible assumption
    | with_reducible refine k.caches (by decide) ?_
    | rw [withCaches_eq]

theorem retireLine_keeps {P : State → Prop} (k : Closed P [.regs, .fifoHolds, .sector, .codes, .stairs, .caches, .drams, .hif, .fc, .drawn]) (s : State) (hh : ℕ) (x : Line) (h : P s) :
    P (retireLine s hh x) := by
  unfold retireLine
  try extract_lets
  repeat' first
    | with_reducible assumption
    | with_reducible refine writeBack_keeps (k.sub (by decide)) _ _ _ ?_
    | with_reducible refine dropLine_keeps (k.sub (by decide)) _ _ _ ?_
    | with_reducible refine ite_keeps ?_ ?_

theorem setWays_keeps {P : State → Prop} (k : Closed P [.regs, .fifoHolds, .caches, .hif, .mc, .drawn]) (s : State) (hh : ℕ) (value : ℕ) (h : P s) :
    P (setWays s hh value) := by
  unfold setWays
  try extract_lets
  repeat' first
    | with_reducible assumption
    | with_reducible refine recordRepair_keeps (k.sub (by decide)) _ _ _ _ _ _ ?_
    | with_reducible refine setCache_keeps (k.sub (by decide)) _ _ _ ?_
    | with_reducible refine k.regs (by decide) ?_
    | with_reducible refine foldl_keeps (fun _ _ _ => ?_) ?_

theorem hallFlushed_keeps {P : State → Prop} (k : Closed P [.stairs]) (s : State) (hh : ℕ) (sw : ℕ) (slot : ℕ) (h : P s) :
    P (hallFlushed s hh sw slot) := by
  unfold hallFlushed
  try extract_lets
  repeat' first
    | with_reducible assumption
    | with_reducible refine setBody_keeps (k.sub (by decide)) _ _ _ _ ?_
    | with_reducible refine endEntry_keeps (k.sub (by decide)) _ _ _ _ _ _ ?_
    | with_reducible refine ite_keeps ?_ ?_
    | split

theorem setWalk_keeps {P : State → Prop} (k : Closed P [.caches]) (s : State) (hh : ℕ) (w : Walk) (by' : Option Walk) (h : P s) :
    P (setWalk s hh w by') := by
  unfold setWalk
  try extract_lets
  repeat' first
    | with_reducible assumption
    | with_reducible refine setCache_keeps (k.sub (by decide)) _ _ _ ?_

theorem flushLine_keeps {P : State → Prop} (k : Closed P [.regs, .fifoHolds, .sector, .codes, .stairs, .caches, .drams, .hif, .fc, .drawn]) (s : State) (hh : ℕ) (mode : ℕ) (x : Line) (h : P s) :
    P (flushLine s hh mode x).1 := by
  unfold flushLine
  try extract_lets
  repeat' first
    | with_reducible assumption
    | with_reducible refine dropLine_keeps (k.sub (by decide)) _ _ _ ?_
    | with_reducible refine setCache_keeps (k.sub (by decide)) _ _ _ ?_
    | with_reducible refine bump_keeps (k.sub (by decide)) _ _ _ ?_
    | with_reducible refine writeBack_keeps (k.sub (by decide)) _ _ _ ?_
    | with_reducible refine ite_fst_keeps ?_ ?_
    | with_reducible refine fst_keeps ?_ (by with_reducible assumption)
    | extract_lets
    | split

theorem flushLines_keeps {P : State → Prop} (k : Closed P [.regs, .fifoHolds, .sector, .codes, .stairs, .caches, .drams, .hif, .fc, .drawn]) (hh : ℕ) (mode : ℕ) (x1 : List Line) (x2 : State) (h : P x2) :
    P (flushLines hh mode x1 x2).1 := by
  induction x1 generalizing hh mode x2 with
  | nil => unfold flushLines; exact h
  | cons hd tl ih =>
    unfold flushLines
    try extract_lets
    repeat' first
      | with_reducible assumption
      | with_reducible refine flushLine_keeps (k.sub (by decide)) _ _ _ _ ?_
      | with_reducible apply ih
      | with_reducible refine fst_keeps ?_ (by with_reducible assumption)
      | split

theorem execFlushWalkStep_keeps {P : State → Prop} (k : Closed P [.regs, .fifoHolds, .sector, .codes, .stairs, .caches, .drams, .hif, .fc, .drawn]) (hh : Fin 16) (s : State) (h : P s) :
    Answers P (execFlushWalkStep hh s) := by
  unfold execFlushWalkStep
  try extract_lets
  repeat' first
    | with_reducible assumption
    | with_reducible refine hallFlushed_keeps (k.sub (by decide)) _ _ _ _ ?_
    | with_reducible refine setWalk_keeps (k.sub (by decide)) _ _ _ _ ?_
    | with_reducible refine dropWalks_keeps (k.sub (by decide)) _ _ _ ?_
    | with_reducible refine endEntry_keeps (k.sub (by decide)) _ _ _ _ _ _ ?_
    | with_reducible refine flushLines_keeps (k.sub (by decide)) _ _ _ _ ?_
    | with_reducible refine answers_next ?_
    | with_reducible refine ite_answers ?_ ?_
    | with_reducible refine fst_keeps ?_ (by with_reducible assumption)
    | extract_lets
    | split

theorem serve_keeps {P : State → Prop} (k : Closed P [.regs, .fifoHolds, .sector, .codes, .stairs, .disp, .galleries, .dressers, .caches, .drams, .hif, .fc, .drawn]) (s : State) (hh : ℕ) (user : HallUser) (addr : ℕ) (len : ℕ) (write : Option ℕ) (h : P s) :
    P (serve s hh user addr len write) := by
  unfold serve
  try extract_lets
  repeat' first
    | with_reducible assumption
    | with_reducible refine endRequester_keeps (k.sub (by decide)) _ _ _ _ _ ?_
    | with_reducible refine hcRead_keeps (k.sub (by decide)) _ _ _ _ _ ?_
    | with_reducible refine hcWrite_keeps (k.sub (by decide)) _ _ _ _ _ _ ?_
    | with_reducible refine fst_keeps ?_ (by with_reducible assumption)
    | extract_lets
    | split

theorem lineUe_keeps {P : State → Prop} (k : Closed P [.regs, .fifoHolds, .caches, .hif, .mc, .drawn]) (s : State) (hh : ℕ) (x : Line) (h : P s) :
    P (lineUe s hh x) := by
  unfold lineUe
  try extract_lets
  repeat' first
    | with_reducible assumption
    | with_reducible refine repairEvent_keeps (k.sub (by decide)) _ _ ?_
    | with_reducible refine setCache_keeps (k.sub (by decide)) _ _ _ ?_
    | with_reducible refine dropLine_keeps (k.sub (by decide)) _ _ _ ?_
    | with_reducible refine bump_keeps (k.sub (by decide)) _ _ _ ?_
    | with_reducible refine putLine_keeps (k.sub (by decide)) _ _ _ ?_
    | with_reducible refine setSticky_keeps (k.sub (by decide)) _ _ _ ?_
    | with_reducible refine ite_keeps ?_ ?_

theorem lineCe_keeps {P : State → Prop} (k : Closed P [.regs, .fifoHolds, .hif, .drawn]) (s : State) (hh : ℕ) (h : P s) :
    P (lineCe s hh) := by
  unfold lineCe
  try extract_lets
  repeat' first
    | with_reducible assumption
    | with_reducible refine bump_keeps (k.sub (by decide)) _ _ _ ?_
    | with_reducible refine setSticky_keeps (k.sub (by decide)) _ _ _ ?_

theorem upsetTag_keeps {P : State → Prop} (k : Closed P [.regs, .fifoHolds, .caches, .hif, .mc, .drawn]) (s : State) (hh : ℕ) (line : ℕ) (n : ℕ) (h : P s) :
    P (upsetTag s hh line n) := by
  unfold upsetTag
  try extract_lets
  repeat' first
    | with_reducible assumption
    | with_reducible refine dropLine_keeps (k.sub (by decide)) _ _ _ ?_
    | with_reducible refine putLine_keeps (k.sub (by decide)) _ _ _ ?_
    | with_reducible refine draw_keeps (k.sub (by decide)) _ ?_
    | with_reducible refine lineUe_keeps (k.sub (by decide)) _ _ _ ?_
    | with_reducible refine lineCe_keeps (k.sub (by decide)) _ _ ?_
    | extract_lets
    | split

theorem upsetLine_keeps {P : State → Prop} (k : Closed P [.regs, .fifoHolds, .caches, .hif, .mc, .drawn]) (s : State) (hh : ℕ) (line : ℕ) (off : ℕ) (n : ℕ) (h : P s) :
    P (upsetLine s hh line off n) := by
  unfold upsetLine
  try extract_lets
  repeat' first
    | with_reducible assumption
    | with_reducible refine putLine_keeps (k.sub (by decide)) _ _ _ ?_
    | with_reducible refine draw_keeps (k.sub (by decide)) _ ?_
    | with_reducible refine lineUe_keeps (k.sub (by decide)) _ _ _ ?_
    | with_reducible refine lineCe_keeps (k.sub (by decide)) _ _ ?_
    | extract_lets
    | split

theorem execHallCacheAccess_keeps {P : State → Prop} (k : Closed P [.regs, .fifoHolds, .sector, .codes, .stairs, .disp, .galleries, .dressers, .caches, .drams, .hif, .fc, .mc, .drawn]) (hh : Fin 16) (user : HallUser) (addr : ℕ) (len : ℕ) (write : Option ℕ) (upset : LineUpset) (s : State) (h : P s) :
    Answers P (execHallCacheAccess hh user addr len write upset s) := by
  unfold execHallCacheAccess
  try extract_lets
  repeat' first
    | with_reducible assumption
    | with_reducible refine serve_keeps (k.sub (by decide)) _ _ _ _ _ _ ?_
    | with_reducible refine setCache_keeps (k.sub (by decide)) _ _ _ ?_
    | with_reducible refine upsetTag_keeps (k.sub (by decide)) _ _ _ _ ?_
    | with_reducible refine upsetLine_keeps (k.sub (by decide)) _ _ _ _ _ ?_
    | with_reducible refine answers_next ?_
    | with_reducible refine ite_answers ?_ ?_

theorem execHallCacheFill_keeps {P : State → Prop} (k : Closed P [.regs, .fifoHolds, .sector, .codes, .stairs, .disp, .galleries, .dressers, .caches, .drams, .hif, .fc, .drawn]) (hh : Fin 16) (s : State) (h : P s) :
    Answers P (execHallCacheFill hh s) := by
  unfold execHallCacheFill
  try extract_lets
  repeat' first
    | with_reducible assumption
    | with_reducible refine setCache_keeps (k.sub (by decide)) _ _ _ ?_
    | with_reducible refine serve_keeps (k.sub (by decide)) _ _ _ _ _ _ ?_
    | with_reducible refine answers_next ?_
    | with_reducible refine ite_answers ?_ ?_
    | split

theorem execWayDisableWrite_keeps {P : State → Prop} (k : Closed P [.regs, .fifoHolds, .caches, .hif, .mc, .drawn]) (hh : Fin 16) (value : BitVec 32) (s : State) (h : P s) :
    Answers P (execWayDisableWrite hh value s) := by
  unfold execWayDisableWrite
  try extract_lets
  repeat' first
    | with_reducible assumption
    | with_reducible refine setWays_keeps (k.sub (by decide)) _ _ _ ?_
    | with_reducible refine stateErr_keeps (k.sub (by decide)) _ _ ?_
    | with_reducible refine ifPermitted_keeps (k.sub (by decide)) _ _ _ _ _ _ ?_ ?_
    | with_reducible refine answers_next ?_
    | with_reducible refine ite_keeps ?_ ?_

theorem walkWays_keeps {P : State → Prop} (k : Closed P [.regs, .fifoHolds, .sector, .codes, .stairs, .caches, .drams, .hif, .fc, .drawn]) (s : State) (hh : ℕ) (off : ℕ) (on_ : ℕ) (pos : ℕ) (h : P s) :
    P (walkWays s hh off on_ pos) := by
  unfold walkWays
  try extract_lets
  repeat' first
    | with_reducible assumption
    | with_reducible refine dropLine_keeps (k.sub (by decide)) _ _ _ ?_
    | with_reducible refine retireLine_keeps (k.sub (by decide)) _ _ _ ?_
    | with_reducible refine foldl_keeps (fun _ _ _ => ?_) ?_

theorem execWayWalkStep_keeps {P : State → Prop} (k : Closed P [.regs, .fifoHolds, .sector, .codes, .stairs, .caches, .drams, .hif, .fc, .drawn]) (hh : Fin 16) (s : State) (h : P s) :
    Answers P (execWayWalkStep hh s) := by
  unfold execWayWalkStep
  try extract_lets
  repeat' first
    | with_reducible assumption
    | with_reducible refine setWalk_keeps (k.sub (by decide)) _ _ _ _ ?_
    | with_reducible refine walkWays_keeps (k.sub (by decide)) _ _ _ _ _ ?_
    | with_reducible refine answers_next ?_
    | split

theorem cacheSees_keeps {P : State → Prop} (k : Closed P [.regs, .fifoHolds, .stairs, .disp, .galleries, .dressers, .hif, .fc, .drawn]) (s : State) (x : SectorAccess) (write : Bool) (r : Got) (h : P s) :
    P (cacheSees s x write r) := by
  unfold cacheSees
  try extract_lets
  repeat' first
    | with_reducible assumption
    | with_reducible refine endRequester_keeps (k.sub (by decide)) _ _ _ _ _ ?_
    | with_reducible refine hcSees_keeps (k.sub (by decide)) _ _ _ _ _ ?_
    | with_reducible refine fst_keeps ?_ (by with_reducible assumption)
    | split

theorem accessSector_keeps {P : State → Prop} (k : Closed P [.regs, .fifoHolds, .sector, .codes, .stairs, .disp, .galleries, .dressers, .drams, .hif, .fc, .drawn]) (s : State) (x : SectorAccess) (h : P s) :
    P (accessSector s x) := by
  unfold accessSector
  try extract_lets
  repeat' first
    | with_reducible assumption
    | with_reducible refine memWritePoison_keeps (k.sub (by decide)) _ _ _ _ _ _ ?_
    | with_reducible refine memWrite_keeps (k.sub (by decide)) _ _ _ _ _ ?_
    | with_reducible refine cacheSees_keeps (k.sub (by decide)) _ _ _ _ ?_
    | with_reducible refine memRead_keeps (k.sub (by decide)) _ _ _ _ ?_
    | with_reducible refine upsetSector_keeps (k.sub (by decide)) _ _ _ ?_
    | with_reducible refine ite_keeps ?_ ?_
    | split

theorem maintBad_keeps {P : State → Prop} (k : Closed P [.regs, .fifoHolds, .hif, .fc, .drawn]) (s : State) (hh : ℕ) (l : ℕ) (kk : ℕ) (h : P s) :
    P (maintBad s hh l kk) := by
  unfold maintBad
  try extract_lets
  repeat' first
    | with_reducible assumption
    | with_reducible refine setSticky_keeps (k.sub (by decide)) _ _ _ ?_
    | with_reducible refine scFault_keeps (k.sub (by decide)) _ _ _ _ _ ?_

theorem copyBad_keeps {P : State → Prop} (k : Closed P [.regs, .fifoHolds, .hif, .fc, .drawn]) (s : State) (hh : ℕ) (c : ℕ) (kk : ℕ) (h : P s) :
    P (copyBad s hh c kk) := by
  unfold copyBad
  try extract_lets
  repeat' first
    | with_reducible assumption
    | with_reducible refine maintBad_keeps (k.sub (by decide)) _ _ _ _ ?_
    | split

theorem readBulk_keeps {P : State → Prop} (k : Closed P [.fifoHolds, .drawn]) (s : State) (hh : ℕ) (n : ℕ) (h : P s) :
    P (readBulk s hh n) := by
  unfold readBulk
  try extract_lets
  repeat' first
    | with_reducible assumption
    | with_reducible refine crossFifo_keeps (k.sub (by decide)) _ _ _ ?_

theorem recopySector_keeps {P : State → Prop} (k : Closed P [.regs, .fifoHolds, .sector, .codes, .drams, .hif, .fc, .drawn]) (s : State) (hh : ℕ) (c : ℕ) (h : P s) :
    P (recopySector s hh c) := by
  unfold recopySector
  try extract_lets
  repeat' first
    | with_reducible assumption
    | with_reducible refine storeSector_keeps (k.sub (by decide)) _ _ _ _ ?_
    | with_reducible refine copyBad_keeps (k.sub (by decide)) _ _ _ _ ?_
    | with_reducible refine readStored_keeps (k.sub (by decide)) _ _ _ ?_
    | with_reducible refine fst_keeps ?_ (by with_reducible assumption)
    | split

theorem switchMap_keeps {P : State → Prop} (k : Closed P [.regs, .fifoHolds, .hif, .mc, .drawn]) (s : State) (hh : ℕ) (named : ℕ) (map : ℕ) (h : P s) :
    P (switchMap s hh named map) := by
  unfold switchMap
  try extract_lets
  repeat' first
    | with_reducible assumption
    | with_reducible refine setSticky_keeps (k.sub (by decide)) _ _ _ ?_
    | with_reducible refine k.regs (by decide) ?_
    | with_reducible refine recordRepair_keeps (k.sub (by decide)) _ _ _ _ _ _ ?_

theorem finishMigration_keeps {P : State → Prop} (k : Closed P [.regs, .fifoHolds, .drams, .hif, .mc, .drawn, .migrate]) (s : State) (hh : ℕ) (m : Migration) (h : P s) :
    P (finishMigration s hh m) := by
  unfold finishMigration
  try extract_lets
  repeat' first
    | with_reducible assumption
    | with_reducible refine k.regs (by decide) ?_
    | with_reducible refine setDram_keeps (k.sub (by decide)) _ _ _ ?_
    | with_reducible refine switchMap_keeps (k.sub (by decide)) _ _ _ _ ?_
    | with_reducible refine k.migrate (by decide) ?_

theorem copySector_keeps {P : State → Prop} (k : Closed P [.regs, .fifoHolds, .sector, .codes, .drams, .hif, .fc, .mc, .drawn, .migrate]) (s : State)
    (h : ℕ) (m : Migration) (hs : P s) : P (copySector s h m) := by
  have hr := fun c => readStored_keeps (k.sub (by decide)) s h c hs
  unfold copySector
  extract_lets ptr old new
  refine ite_keeps (finishMigration_keeps (k.sub (by decide)) _ _ _ hs) ?_
  have hr' := hr old
  clear_value old new ptr
  generalize readStored s h old = p at hr' ⊢
  obtain ⟨t, v, q⟩ := p
  cases q with
  | none => exact k.regs (by decide) (storeSector_keeps (k.sub (by decide)) _ _ _ _ hr')
  | some x =>
    exact k.regs (by decide) (storeSector_keeps (k.sub (by decide)) _ _ _ _ (copyBad_keeps (k.sub (by decide)) _ _ _ _ hr'))

theorem retireDie_keeps {P : State → Prop} (k : Closed P [.regs, .fifoHolds, .drams, .hif, .mc, .drawn]) (s : State) (hh : ℕ) (die : ℕ) (h : P s) :
    P (retireDie s hh die) := by
  unfold retireDie
  try extract_lets
  repeat' first
    | with_reducible assumption
    | with_reducible refine stateErr_keeps (k.sub (by decide)) _ _ ?_
    | with_reducible refine k.regs (by decide) ?_
    | with_reducible refine setDram_keeps (k.sub (by decide)) _ _ _ ?_
    | with_reducible refine switchMap_keeps (k.sub (by decide)) _ _ _ _ ?_
    | with_reducible refine ite_keeps ?_ ?_
    | split

theorem execDieRetire_keeps {P : State → Prop} (k : Closed P [.regs, .fifoHolds, .drams, .hif, .mc, .drawn]) (hh : Fin 16) (value : BitVec 32) (s : State) (h : P s) :
    Answers P (execDieRetire hh value s) := by
  unfold execDieRetire
  try extract_lets
  repeat' first
    | with_reducible assumption
    | with_reducible refine stateErr_keeps (k.sub (by decide)) _ _ ?_
    | with_reducible refine retireDie_keeps (k.sub (by decide)) _ _ _ ?_
    | with_reducible refine ifPermitted_keeps (k.sub (by decide)) _ _ _ _ _ _ ?_ ?_
    | with_reducible refine answers_next ?_
    | extract_lets
    | split

theorem reportRepair_keeps {P : State → Prop} (k : Closed P [.mc]) (s : State) (h : P s) :
    P (reportRepair s) := by
  unfold reportRepair
  try extract_lets
  repeat' first
    | with_reducible assumption
    | with_reducible refine repairEvent_keeps (k.sub (by decide)) _ _ ?_

theorem execDramLaneRepair_keeps {P : State → Prop} (k : Closed P [.regs, .fifoHolds, .drams, .hif, .mc, .drawn]) (hh : Fin 16) (s : State) (h : P s) :
    Answers P (execDramLaneRepair hh s) := by
  unfold execDramLaneRepair
  try extract_lets
  repeat' first
    | with_reducible assumption
    | with_reducible refine recordRepair_keeps (k.sub (by decide)) _ _ _ _ _ _ ?_
    | with_reducible refine bump_keeps (k.sub (by decide)) _ _ _ ?_
    | with_reducible refine setDram_keeps (k.sub (by decide)) _ _ _ ?_
    | with_reducible refine setSticky_keeps (k.sub (by decide)) _ _ _ ?_
    | with_reducible refine reportRepair_keeps (k.sub (by decide)) _ ?_
    | with_reducible refine answers_next ?_
    | with_reducible refine ite_answers ?_ ?_
    | extract_lets
    | split

theorem execDramRowSpare_keeps {P : State → Prop} (k : Closed P [.regs, .fifoHolds, .sector, .codes, .drams, .hif, .fc, .mc, .drawn]) (hh : Fin 16) (s : State) (h : P s) :
    Answers P (execDramRowSpare hh s) := by
  unfold execDramRowSpare
  try extract_lets
  repeat' first
    | with_reducible assumption
    | with_reducible refine readBulk_keeps (k.sub (by decide)) _ _ _ ?_
    | with_reducible refine recopySector_keeps (k.sub (by decide)) _ _ _ ?_
    | with_reducible refine setDram_keeps (k.sub (by decide)) _ _ _ ?_
    | with_reducible refine setSticky_keeps (k.sub (by decide)) _ _ _ ?_
    | with_reducible refine reportRepair_keeps (k.sub (by decide)) _ ?_
    | with_reducible refine answers_next ?_
    | with_reducible refine ite_answers ?_ ?_
    | with_reducible refine foldl_keeps (fun _ _ _ => ?_) ?_
    | split

theorem execDramRowSpareDone_keeps {P : State → Prop} (k : Closed P [.regs, .fifoHolds, .drams, .hif, .mc, .drawn]) (hh : Fin 16) (s : State) (h : P s) :
    Answers P (execDramRowSpareDone hh s) := by
  unfold execDramRowSpareDone
  try extract_lets
  repeat' first
    | with_reducible assumption
    | with_reducible refine recordRepair_keeps (k.sub (by decide)) _ _ _ _ _ _ ?_
    | with_reducible refine bump_keeps (k.sub (by decide)) _ _ _ ?_
    | with_reducible refine setSticky_keeps (k.sub (by decide)) _ _ _ ?_
    | with_reducible refine setDram_keeps (k.sub (by decide)) _ _ _ ?_
    | with_reducible refine answers_next ?_
    | split

theorem execMapWrite_keeps {P : State → Prop} (k : Closed P [.regs, .staging, .fifoHolds, .hif, .drawn]) (path : Path) (hi : BitVec 32) (s : State) (h : P s) :
    Answers P (execMapWrite path hi s) := by
  unfold execMapWrite
  try extract_lets
  repeat' first
    | with_reducible assumption
    | with_reducible refine setSticky_keeps (k.sub (by decide)) _ _ _ ?_
    | with_reducible refine k.regs (by decide) ?_
    | with_reducible refine stateErr_keeps (k.sub (by decide)) _ _ ?_
    | with_reducible refine ifPermitted_keeps (k.sub (by decide)) _ _ _ _ _ _ ?_ ?_
    | with_reducible refine commitPair_keeps (k.sub (by decide)) _ _ _ _ _ ?_
    | with_reducible refine answers_next ?_
    | with_reducible refine ite_keeps ?_ ?_

theorem execMigrationDone_keeps {P : State → Prop} (k : Closed P [.regs, .fifoHolds, .drams, .hif, .mc, .drawn, .migrate]) (hh : Fin 16) (s : State) (h : P s) :
    Answers P (execMigrationDone hh s) := by
  unfold execMigrationDone
  try extract_lets
  repeat' first
    | with_reducible assumption
    | with_reducible refine finishMigration_keeps (k.sub (by decide)) _ _ _ ?_
    | with_reducible refine answers_next ?_
    | split

theorem patrolSector_keeps {P : State → Prop} (k : Closed P [.regs, .fifoHolds, .sector, .codes, .drams, .hif, .fc, .drawn]) (s : State) (hh : ℕ) (l : ℕ) (h : P s) :
    P (patrolSector s hh l) := by
  unfold patrolSector
  try extract_lets
  repeat' first
    | with_reducible assumption
    | with_reducible refine bump_keeps (k.sub (by decide)) _ _ _ ?_
    | with_reducible refine maintBad_keeps (k.sub (by decide)) _ _ _ _ ?_
    | with_reducible refine readStored_keeps (k.sub (by decide)) _ _ _ ?_
    | with_reducible refine fst_keeps ?_ (by with_reducible assumption)
    | split

theorem patrolAt_keeps {P : State → Prop} (k : Closed P [.regs, .fifoHolds, .sector, .codes, .drams, .hif, .fc, .drawn]) (s : State) (hh : ℕ) (n : ℕ) (h : P s) :
    P (patrolAt s hh n) := by
  unfold patrolAt
  try extract_lets
  repeat' first
    | with_reducible assumption
    | with_reducible refine patrolSector_keeps (k.sub (by decide)) _ _ _ ?_
    | with_reducible refine foldl_keeps (fun _ _ _ => ?_) ?_

theorem patrolWrap_keeps {P : State → Prop} (k : Closed P [.regs, .drams]) (s : State) (hh : ℕ) (h : P s) :
    P (patrolWrap s hh) := by
  unfold patrolWrap
  try extract_lets
  repeat' first
    | with_reducible assumption
    | with_reducible refine setDram_keeps (k.sub (by decide)) _ _ _ ?_
    | with_reducible refine bump_keeps (k.sub (by decide)) _ _ _ ?_
    | with_reducible refine ite_keeps ?_ ?_

theorem execPatrolStep_keeps {P : State → Prop} (k : Closed P [.regs, .fifoHolds, .sector, .codes, .drams, .hif, .fc, .drawn]) (hh : Fin 16) (s : State) (h : P s) :
    Answers P (execPatrolStep hh s) := by
  unfold execPatrolStep
  try extract_lets
  repeat' first
    | with_reducible assumption
    | with_reducible refine patrolAt_keeps (k.sub (by decide)) _ _ _ ?_
    | with_reducible refine setDram_keeps (k.sub (by decide)) _ _ _ ?_
    | with_reducible refine patrolWrap_keeps (k.sub (by decide)) _ _ ?_
    | with_reducible refine answers_next ?_
    | with_reducible refine ite_answers ?_ ?_

theorem execRefreshWindow_keeps {P : State → Prop} (k : Closed P [.drams]) (hh : Fin 16) (s : State) (h : P s) :
    Answers P (execRefreshWindow hh s) := by
  unfold execRefreshWindow
  try extract_lets
  repeat' first
    | with_reducible assumption
    | with_reducible refine setDram_keeps (k.sub (by decide)) _ _ _ ?_
    | with_reducible refine answers_next ?_

theorem execSectorAccess_keeps {P : State → Prop} (k : Closed P [.regs, .fifoHolds, .sector, .codes, .stairs, .disp, .galleries, .dressers, .drams, .hif, .fc, .drawn]) (who : Requester) (addr : ℕ) (op : SectorOp) (cycle : SectorCycle) (s : State) (h : P s) :
    Answers P (execSectorAccess who addr op cycle s) := by
  unfold execSectorAccess
  try extract_lets
  repeat' first
    | with_reducible assumption
    | with_reducible refine accessSector_keeps (k.sub (by decide)) _ _ ?_
    | with_reducible refine answers_next ?_
    | with_reducible refine ite_answers ?_ ?_
    | with_reducible refine foldl_keeps (fun _ _ _ => ?_) ?_

theorem linkCount_keeps {P : State → Prop} (k : Closed P [.regs]) (s : State) (l : ℕ) (f : Fld) (n : ℕ) (h : P s) :
    P (linkCount s l f n) := by
  unfold linkCount
  try extract_lets
  repeat' first
    | with_reducible assumption
    | with_reducible refine count_keeps (k.sub (by decide)) _ _ _ _ ?_
    | with_reducible refine ite_keeps ?_ ?_

theorem endReduce_keeps {P : State → Prop} (k : Closed P [.regs, .stairs]) (s : State) (l : ℕ) (sw : ℕ) (slot : ℕ) (status : ℕ) (h : P s) :
    P (endReduce s l sw slot status) := by
  unfold endReduce
  try extract_lets
  repeat' first
    | with_reducible assumption
    | with_reducible refine linkCount_keeps (k.sub (by decide)) _ _ _ _ ?_
    | with_reducible refine endEntry_keeps (k.sub (by decide)) _ _ _ _ _ _ ?_
    | with_reducible refine ite_keeps ?_ ?_

theorem setChan_keeps {P : State → Prop} (k : Closed P [.links]) (s : State) (l : ℕ) (c : ℕ) (x : Channel) (h : P s) :
    P (setChan s l c x) := by
  unfold setChan
  try extract_lets
  repeat' first
    | with_reducible assumption
    | with_reducible refine setLink_keeps (k.sub (by decide)) _ _ _ ?_

theorem putFlit_keeps {P : State → Prop} (k : Closed P [.regs, .links]) (s : State) (l : ℕ) (type : ℕ) (c : ℕ) (payload : ℕ) (h : P s) :
    P (putFlit s l type c payload) := by
  unfold putFlit
  try extract_lets
  repeat' first
    | with_reducible assumption
    | with_reducible refine setLink_keeps (k.sub (by decide)) _ _ _ ?_
    | with_reducible refine linkCount_keeps (k.sub (by decide)) _ _ _ _ ?_
    | with_reducible refine ite_keeps ?_ ?_

theorem channelFlit_keeps {P : State → Prop} (k : Closed P [.regs, .links]) (s : State) (l : ℕ) (c : ℕ) (type : ℕ) (payload : ℕ) (d : Option Send) (h : P s) :
    P (channelFlit s l c type payload d) := by
  unfold channelFlit
  try extract_lets
  repeat' first
    | with_reducible assumption
    | with_reducible refine setChan_keeps (k.sub (by decide)) _ _ _ _ ?_
    | with_reducible refine putFlit_keeps (k.sub (by decide)) _ _ _ _ _ ?_

theorem abortSend_keeps {P : State → Prop} (k : Closed P [.regs, .stairs, .links]) (s : State) (l : ℕ) (c : ℕ) (d : Send) (status : ℕ) (h : P s) :
    P (abortSend s l c d status) := by
  unfold abortSend
  try extract_lets
  repeat' first
    | with_reducible assumption
    | with_reducible refine endReduce_keeps (k.sub (by decide)) _ _ _ _ _ ?_
    | with_reducible refine setChan_keeps (k.sub (by decide)) _ _ _ _ ?_
    | with_reducible refine channelFlit_keeps (k.sub (by decide)) _ _ _ _ _ _ ?_
    | with_reducible refine ite_keeps ?_ ?_

theorem linkSticky_keeps {P : State → Prop} (k : Closed P [.regs, .fifoHolds, .hif, .drawn]) (s : State) (l : ℕ) (b : ℕ) (h : P s) :
    P (linkSticky s l b) := by
  unfold linkSticky
  try extract_lets
  repeat' first
    | with_reducible assumption
    | with_reducible refine setSticky_keeps (k.sub (by decide)) _ _ _ ?_
    | with_reducible refine ite_keeps ?_ ?_

theorem creditWaits_keeps {P : State → Prop} (k : Closed P [.regs, .links]) (s : State) (l : ℕ) (h : P s) :
    P (creditWaits s l) := by
  unfold creditWaits
  try extract_lets
  repeat' first
    | with_reducible assumption
    | with_reducible refine linkCount_keeps (k.sub (by decide)) _ _ _ _ ?_
    | with_reducible refine setChan_keeps (k.sub (by decide)) _ _ _ _ ?_
    | with_reducible refine ite_keeps ?_ ?_
    | with_reducible refine foldl_keeps (fun _ _ _ => ?_) ?_

theorem takeLoopResponse_keeps {P : State → Prop} (k : Closed P [.links]) (s : State) (c : ℕ) (code : ℕ) (h : P s) :
    Optional P (takeLoopResponse s c code) := by
  unfold takeLoopResponse
  try extract_lets
  repeat' first
    | with_reducible assumption
    | with_reducible refine setLink_keeps (k.sub (by decide)) _ _ _ ?_
    | with_reducible refine optional_some ?_
    | with_reducible exact optional_none
    | with_reducible refine ite_optional ?_ ?_
    | split

theorem responseArrives_keeps {P : State → Prop} (k : Closed P [.regs, .stairs, .links]) (s : State) (l : ℕ) (c : ℕ) (code : ℕ) (h : P s) :
    P (responseArrives s l c code) := by
  unfold responseArrives
  try extract_lets
  repeat' first
    | with_reducible assumption
    | with_reducible refine linkCount_keeps (k.sub (by decide)) _ _ _ _ ?_
    | with_reducible refine endReduce_keeps (k.sub (by decide)) _ _ _ _ _ ?_
    | with_reducible refine setChan_keeps (k.sub (by decide)) _ _ _ _ ?_
    | with_reducible refine ite_keeps ?_ ?_
    | extract_lets
    | split

theorem response_keeps {P : State → Prop} (k : Closed P [.regs, .fifoHolds, .stairs, .links, .drawn]) (s : State) (l : ℕ) (c : ℕ) (code : ℕ) (h : P s) :
    P (response s l c code) := by
  unfold response
  try extract_lets
  repeat' first
    | with_reducible assumption
    | with_reducible refine takeLoopResponse_keeps (k.sub (by decide)) _ _ _ ?_
    | with_reducible refine crossFifo_keeps (k.sub (by decide)) _ _ _ ?_
    | with_reducible refine responseArrives_keeps (k.sub (by decide)) _ _ _ _ ?_
    | with_reducible refine ite_keeps ?_ ?_
    | with_reducible refine some_keeps ?_ (by with_reducible assumption)
    | extract_lets
    | split

theorem execAckEnd_keeps {P : State → Prop} (k : Closed P [.regs, .fifoHolds, .stairs, .links, .drawn]) (l : Fin 9) (c : Fin 16) (s : State) (h : P s) :
    Answers P (execAckEnd l c s) := by
  unfold execAckEnd
  try extract_lets
  repeat' first
    | with_reducible assumption
    | with_reducible refine response_keeps (k.sub (by decide)) _ _ _ _ ?_
    | with_reducible refine answers_next ?_

theorem execAckTimerExpiry_keeps {P : State → Prop} (k : Closed P [.regs, .stairs, .links]) (l : Fin 9) (c : Fin 16) (s : State) (h : P s) :
    Answers P (execAckTimerExpiry l c s) := by
  unfold execAckTimerExpiry
  try extract_lets
  repeat' first
    | with_reducible assumption
    | with_reducible refine setChan_keeps (k.sub (by decide)) _ _ _ _ ?_
    | with_reducible refine endReduce_keeps (k.sub (by decide)) _ _ _ _ _ ?_
    | with_reducible refine answers_next ?_
    | split

theorem execChannelClaim_keeps {P : State → Prop} (k : Closed P [.regs, .links]) (l : Fin 9) (c : Fin 16) (s : State) (h : P s) :
    Answers P (execChannelClaim l c s) := by
  unfold execChannelClaim
  try extract_lets
  repeat' first
    | with_reducible assumption
    | with_reducible refine bump_keeps (k.sub (by decide)) _ _ _ ?_
    | with_reducible refine linkCount_keeps (k.sub (by decide)) _ _ _ _ ?_
    | with_reducible refine setChan_keeps (k.sub (by decide)) _ _ _ _ ?_
    | with_reducible refine answers_next ?_
    | with_reducible refine ite_keeps ?_ ?_
    | split

theorem startReduce_keeps {P : State → Prop} (k : Closed P [.regs, .fifoHolds, .sector, .codes, .stairs, .drams, .links, .hif, .fc, .drawn]) (s : State) (sw : ℕ) (c : Current) (h : P s) :
    P (startReduce s sw c) := by
  unfold startReduce
  try extract_lets
  repeat' first
    | with_reducible assumption
    | with_reducible refine setChan_keeps (k.sub (by decide)) _ _ _ _ ?_
    | with_reducible refine linkCount_keeps (k.sub (by decide)) _ _ _ _ ?_
    | with_reducible refine holdSlot_keeps (k.sub (by decide)) _ _ _ _ _ ?_
    | with_reducible refine memRead_keeps (k.sub (by decide)) _ _ _ _ ?_
    | with_reducible refine ite_keeps ?_ ?_
    | with_reducible refine fst_keeps ?_ (by with_reducible assumption)
    | split

theorem linkHeld_keeps {P : State → Prop} (k : Closed P [.fifoHolds, .drawn]) (s : State) (l : ℕ) (h : P s) :
    P (linkHeld s l) := by
  unfold linkHeld
  try extract_lets
  repeat' first
    | with_reducible assumption
    | with_reducible refine crossFifo_keeps (k.sub (by decide)) _ _ _ ?_
    | with_reducible refine ite_keeps ?_ ?_

theorem sendEnd_keeps {P : State → Prop} (k : Closed P [.regs, .fifoHolds, .sector, .codes, .stairs, .drams, .links, .hif, .fc, .drawn]) (s : State) (l : ℕ) (c : ℕ) (d : Send) (h : P s) :
    P (sendEnd s l c d) := by
  unfold sendEnd
  try extract_lets
  repeat' first
    | with_reducible assumption
    | with_reducible refine setChan_keeps (k.sub (by decide)) _ _ _ _ ?_
    | with_reducible refine channelFlit_keeps (k.sub (by decide)) _ _ _ _ _ _ ?_
    | with_reducible refine linkCount_keeps (k.sub (by decide)) _ _ _ _ ?_
    | with_reducible refine linkSticky_keeps (k.sub (by decide)) _ _ _ ?_
    | with_reducible refine abortSend_keeps (k.sub (by decide)) _ _ _ _ _ ?_
    | with_reducible refine memWrite_keeps (k.sub (by decide)) _ _ _ _ _ ?_
    | with_reducible refine ite_keeps ?_ ?_
    | with_reducible refine ite_fst_keeps ?_ ?_

theorem sendBody_keeps {P : State → Prop} (k : Closed P [.regs, .fifoHolds, .sector, .codes, .stairs, .drams, .links, .hif, .fc, .drawn]) (s : State) (l : ℕ) (c : ℕ) (d : Send) (h : P s) :
    P (sendBody s l c d) := by
  unfold sendBody
  try extract_lets
  repeat' first
    | with_reducible assumption
    | with_reducible refine linkCount_keeps (k.sub (by decide)) _ _ _ _ ?_
    | with_reducible refine linkSticky_keeps (k.sub (by decide)) _ _ _ ?_
    | with_reducible refine channelFlit_keeps (k.sub (by decide)) _ _ _ _ _ _ ?_
    | with_reducible refine abortSend_keeps (k.sub (by decide)) _ _ _ _ _ ?_
    | with_reducible refine memRead_keeps (k.sub (by decide)) _ _ _ _ ?_
    | with_reducible refine ite_keeps ?_ ?_
    | with_reducible refine fst_keeps ?_ (by with_reducible assumption)
    | split

theorem sendNext_keeps {P : State → Prop} (k : Closed P [.regs, .fifoHolds, .sector, .codes, .stairs, .drams, .links, .hif, .fc, .drawn]) (s : State) (l : ℕ) (c : ℕ) (d : Send) (h : P s) :
    P (sendNext s l c d) := by
  unfold sendNext
  try extract_lets
  repeat' first
    | with_reducible assumption
    | with_reducible refine sendEnd_keeps (k.sub (by decide)) _ _ _ _ ?_
    | with_reducible refine linkCount_keeps (k.sub (by decide)) _ _ _ _ ?_
    | with_reducible refine sendBody_keeps (k.sub (by decide)) _ _ _ _ ?_
    | with_reducible refine channelFlit_keeps (k.sub (by decide)) _ _ _ _ _ _ ?_
    | with_reducible refine abortSend_keeps (k.sub (by decide)) _ _ _ _ _ ?_
    | with_reducible refine ite_keeps ?_ ?_
    | split

theorem sendCtrl_keeps {P : State → Prop} (k : Closed P [.regs, .links]) (s : State) (l : ℕ) (h : P s) :
    P (sendCtrl s l) := by
  unfold sendCtrl
  try extract_lets
  repeat' first
    | with_reducible assumption
    | with_reducible refine setLink_keeps (k.sub (by decide)) _ _ _ ?_
    | with_reducible refine putFlit_keeps (k.sub (by decide)) _ _ _ _ _ ?_

theorem sendIdle_keeps {P : State → Prop} (k : Closed P [.links]) (s : State) (l : ℕ) (h : P s) :
    P (sendIdle s l) := by
  unfold sendIdle
  try extract_lets
  repeat' first
    | with_reducible assumption
    | with_reducible refine setLink_keeps (k.sub (by decide)) _ _ _ ?_
    | with_reducible refine ite_keeps ?_ ?_

theorem sendFlit_keeps {P : State → Prop} (k : Closed P [.regs, .fifoHolds, .sector, .codes, .stairs, .drams, .links, .hif, .fc, .drawn]) (s : State) (l : ℕ) (h : P s) :
    P (sendFlit s l) := by
  unfold sendFlit
  try extract_lets
  repeat' first
    | with_reducible assumption
    | with_reducible refine sendNext_keeps (k.sub (by decide)) _ _ _ _ ?_
    | with_reducible refine creditWaits_keeps (k.sub (by decide)) _ _ ?_
    | with_reducible refine sendCtrl_keeps (k.sub (by decide)) _ _ ?_
    | with_reducible refine sendIdle_keeps (k.sub (by decide)) _ _ ?_
    | with_reducible refine setLink_keeps (k.sub (by decide)) _ _ _ ?_
    | with_reducible refine linkCount_keeps (k.sub (by decide)) _ _ _ _ ?_
    | with_reducible refine ite_keeps ?_ ?_
    | extract_lets
    | split

theorem execFlitSend_keeps {P : State → Prop} (k : Closed P [.regs, .fifoHolds, .sector, .codes, .stairs, .drams, .links, .hif, .fc, .drawn]) (l : Fin 9) (s : State) (h : P s) :
    Answers P (execFlitSend l s) := by
  unfold execFlitSend
  try extract_lets
  repeat' first
    | with_reducible assumption
    | with_reducible refine linkHeld_keeps (k.sub (by decide)) _ _ ?_
    | with_reducible refine sendFlit_keeps (k.sub (by decide)) _ _ ?_
    | with_reducible refine answers_next ?_
    | with_reducible refine ite_answers ?_ ?_

theorem stopSend_keeps {P : State → Prop} (k : Closed P [.regs, .stairs, .links]) (s : State) (l : ℕ) (c : ℕ) (status : ℕ) (h : P s) :
    P (stopSend s l c status) := by
  unfold stopSend
  try extract_lets
  repeat' first
    | with_reducible assumption
    | with_reducible refine setChan_keeps (k.sub (by decide)) _ _ _ _ ?_
    | with_reducible refine endReduce_keeps (k.sub (by decide)) _ _ _ _ _ ?_
    | with_reducible refine ite_keeps ?_ ?_
    | split

theorem formScale_keeps {P : State → Prop} (k : Closed P [.regs, .fifoHolds, .sector, .codes, .stairs, .drams, .links, .hif, .fc, .drawn]) (s : State) (l : ℕ) (c : ℕ) (d : Send) (r : ℕ) (h : P s) :
    P (formScale s l c d r) := by
  unfold formScale
  try extract_lets
  repeat' first
    | with_reducible assumption
    | with_reducible refine stopSend_keeps (k.sub (by decide)) _ _ _ _ ?_
    | with_reducible refine memRead_keeps (k.sub (by decide)) _ _ _ _ ?_
    | with_reducible refine draw_keeps (k.sub (by decide)) _ ?_
    | with_reducible refine setChan_keeps (k.sub (by decide)) _ _ _ _ ?_
    | with_reducible refine ite_keeps ?_ ?_
    | with_reducible refine fst_keeps ?_ (by with_reducible assumption)
    | extract_lets
    | split

theorem execHistoryReadDone_keeps {P : State → Prop} (k : Closed P [.regs, .fifoHolds, .sector, .codes, .stairs, .drams, .links, .hif, .fc, .drawn]) (l : Fin 9) (c : Fin 16) (s : State) (h : P s) :
    Answers P (execHistoryReadDone l c s) := by
  unfold execHistoryReadDone
  try extract_lets
  repeat' first
    | with_reducible assumption
    | with_reducible refine formScale_keeps (k.sub (by decide)) _ _ _ _ _ ?_
    | with_reducible refine stopSend_keeps (k.sub (by decide)) _ _ _ _ ?_
    | with_reducible refine memRead_keeps (k.sub (by decide)) _ _ _ _ ?_
    | with_reducible refine answers_next ?_
    | with_reducible refine ite_answers ?_ ?_
    | with_reducible refine fst_keeps ?_ (by with_reducible assumption)
    | extract_lets
    | split

theorem markKilled_keeps {P : State → Prop} (k : Closed P [.stairs]) (s : State) (sw : ℕ) (slot : ℕ) (h : P s) :
    P (markKilled s sw slot) := by
  unfold markKilled
  try extract_lets
  repeat' first
    | with_reducible assumption
    | with_reducible refine setStair_keeps (k.sub (by decide)) _ _ _ ?_
    | split

theorem killSend_keeps {P : State → Prop} (k : Closed P [.regs, .stairs, .links]) (s : State) (sw : ℕ) (slot : ℕ) (b : ℕ) (h : P s) :
    P (killSend s sw slot b) := by
  unfold killSend
  try extract_lets
  repeat' first
    | with_reducible assumption
    | with_reducible refine endReduce_keeps (k.sub (by decide)) _ _ _ _ _ ?_
    | with_reducible refine markKilled_keeps (k.sub (by decide)) _ _ _ ?_
    | with_reducible refine stopSend_keeps (k.sub (by decide)) _ _ _ _ ?_
    | with_reducible refine setChan_keeps (k.sub (by decide)) _ _ _ _ ?_
    | with_reducible refine endEntry_keeps (k.sub (by decide)) _ _ _ _ _ _ ?_
    | with_reducible refine ite_keeps ?_ ?_

theorem execNack_keeps {P : State → Prop} (k : Closed P [.regs, .fifoHolds, .stairs, .links, .drawn]) (l : Fin 9) (c : Fin 16) (code : BitVec 8) (s : State) (h : P s) :
    Answers P (execNack l c code s) := by
  unfold execNack
  try extract_lets
  repeat' first
    | with_reducible assumption
    | with_reducible refine response_keeps (k.sub (by decide)) _ _ _ _ ?_
    | with_reducible refine answers_next ?_
    | with_reducible refine ite_answers ?_ ?_

theorem execReduce_keeps {P : State → Prop} (k : Closed P [.regs, .fifoHolds, .sector, .codes, .stairs, .drams, .links, .hif, .fc, .drawn]) (sw : Fin 16) (s : State) (h : P s) :
    Answers P (execReduce sw s) := by
  unfold execReduce
  try extract_lets
  repeat' first
    | with_reducible assumption
    | with_reducible refine startReduce_keeps (k.sub (by decide)) _ _ _ ?_
    | with_reducible refine beginEntry_keeps (k.sub (by decide)) _ _ _ _ (fun _ _ _ _ => ?_) ?_
    | with_reducible refine answers_next ?_

theorem respond_keeps {P : State → Prop} (k : Closed P [.regs, .fifoHolds, .links, .hif, .drawn]) (s : State) (l : ℕ) (c : ℕ) (code : ℕ) (h : P s) :
    P (respond s l c code) := by
  unfold respond
  try extract_lets
  repeat' first
    | with_reducible assumption
    | with_reducible refine linkCount_keeps (k.sub (by decide)) _ _ _ _ ?_
    | with_reducible refine linkSticky_keeps (k.sub (by decide)) _ _ _ ?_
    | with_reducible refine setLink_keeps (k.sub (by decide)) _ _ _ ?_
    | with_reducible refine ite_keeps ?_ ?_

theorem updWindow_keeps {P : State → Prop} (k : Closed P [.windows]) (s : State) (entry : ℕ) (f : Window → Window) (h : P s) :
    P (updWindow s entry f) := by
  unfold updWindow
  try extract_lets
  repeat' first
    | with_reducible assumption
    | with_reducible refine k.windows (by decide) ?_
    | rw [withWindows_eq]

theorem updateHeader_keeps {P : State → Prop} (k : Closed P [.regs, .fifoHolds, .sector, .codes, .stairs, .drams, .hif, .fc, .drawn]) (s : State) (w : Window) (f : ℕ → ℕ) (h : P s) :
    P (updateHeader s w f).1 := by
  unfold updateHeader
  try extract_lets
  repeat' first
    | with_reducible assumption
    | with_reducible refine memWrite_keeps (k.sub (by decide)) _ _ _ _ _ ?_
    | with_reducible refine memRead_keeps (k.sub (by decide)) _ _ _ _ ?_
    | with_reducible refine fst_keeps ?_ (by with_reducible assumption)
    | split

theorem abortSlot_keeps {P : State → Prop} (k : Closed P [.regs, .fifoHolds, .sector, .codes, .stairs, .drams, .links, .windows, .hif, .fc, .drawn]) (s : State) (l : ℕ) (c : ℕ) (r : Receive) (h : P s) :
    P (abortSlot s l c r) := by
  unfold abortSlot
  try extract_lets
  repeat' first
    | with_reducible assumption
    | with_reducible refine respond_keeps (k.sub (by decide)) _ _ _ _ ?_
    | with_reducible refine updWindow_keeps (k.sub (by decide)) _ _ _ ?_
    | with_reducible refine updateHeader_keeps (k.sub (by decide)) _ _ _ ?_
    | with_reducible refine ite_keeps ?_ ?_
    | extract_lets
    | split
    | dsimp +zetaDelta only

theorem refuseFlit_keeps {P : State → Prop} (k : Closed P [.regs, .links]) (s : State) (l : ℕ) (h : P s) :
    P (refuseFlit s l) := by
  unfold refuseFlit
  try extract_lets
  repeat' first
    | with_reducible assumption
    | with_reducible refine setLink_keeps (k.sub (by decide)) _ _ _ ?_
    | with_reducible refine linkCount_keeps (k.sub (by decide)) _ _ _ _ ?_

theorem noteFec_keeps {P : State → Prop} (k : Closed P [.links]) (l : ℕ) (s : State) (lane : Fin 17) (h : P s) :
    P (noteFec l s lane) := by
  unfold noteFec
  try extract_lets
  repeat' first
    | with_reducible assumption
    | with_reducible refine setLink_keeps (k.sub (by decide)) _ _ _ ?_

theorem acceptFlit_keeps {P : State → Prop} (k : Closed P [.regs, .fifoHolds, .links, .drawn]) (s : State) (l : ℕ) (type : ℕ) (f : Flit) (h : P s) :
    P (acceptFlit s l type f).1 := by
  unfold acceptFlit
  try extract_lets
  repeat' first
    | with_reducible assumption
    | with_reducible refine setLink_keeps (k.sub (by decide)) _ _ _ ?_
    | with_reducible refine linkCount_keeps (k.sub (by decide)) _ _ _ _ ?_
    | with_reducible refine refuseFlit_keeps (k.sub (by decide)) _ _ ?_
    | with_reducible refine noteFec_keeps (k.sub (by decide)) _ _ _ ?_
    | with_reducible refine crossFifo_keeps (k.sub (by decide)) _ _ _ ?_
    | with_reducible refine ite_fst_keeps ?_ ?_
    | with_reducible refine foldl_keeps (fun _ _ _ => ?_) ?_
    | extract_lets
    | split

theorem setReceive_keeps {P : State → Prop} (k : Closed P [.links]) (s : State) (l : ℕ) (c : ℕ) (r : Option Receive) (h : P s) :
    P (setReceive s l c r) := by
  unfold setReceive
  try extract_lets
  repeat' first
    | with_reducible assumption
    | with_reducible refine setChan_keeps (k.sub (by decide)) _ _ _ _ ?_

theorem creditBack_keeps {P : State → Prop} (k : Closed P [.links]) (s : State) (l : ℕ) (c : ℕ) (n : ℕ) (h : P s) :
    P (creditBack s l c n) := by
  unfold creditBack
  try extract_lets
  repeat' first
    | with_reducible assumption
    | with_reducible refine setChan_keeps (k.sub (by decide)) _ _ _ _ ?_

theorem holdWrites_keeps {P : State → Prop} (k : Closed P [.links]) (s : State) (l : ℕ) (c : ℕ) (r : Receive) (ws : List (ℕ × ℕ × ℕ)) (h : P s) :
    P (holdWrites s l c r ws) := by
  unfold holdWrites
  try extract_lets
  repeat' first
    | with_reducible assumption
    | with_reducible refine creditBack_keeps (k.sub (by decide)) _ _ _ _ ?_
    | with_reducible refine setReceive_keeps (k.sub (by decide)) _ _ _ _ ?_
    | with_reducible refine ite_keeps ?_ ?_

theorem settleReceive_keeps {P : State → Prop} (k : Closed P [.regs, .fifoHolds, .sector, .codes, .stairs, .drams, .links, .windows, .hif, .fc, .drawn]) (s : State) (l : ℕ) (c : ℕ) (h : P s) :
    P (settleReceive s l c).1 := by
  unfold settleReceive
  try extract_lets
  repeat' first
    | with_reducible assumption
    | with_reducible refine setReceive_keeps (k.sub (by decide)) _ _ _ _ ?_
    | with_reducible refine abortSlot_keeps (k.sub (by decide)) _ _ _ _ ?_
    | with_reducible refine ite_keeps ?_ ?_
    | with_reducible refine ite_fst_keeps ?_ ?_
    | split

theorem discardFlits_keeps {P : State → Prop} (k : Closed P [.regs, .links]) (s : State) (l : ℕ) (c : ℕ) (n : ℕ) (h : P s) :
    P (discardFlits s l c n) := by
  unfold discardFlits
  try extract_lets
  repeat' first
    | with_reducible assumption
    | with_reducible refine linkCount_keeps (k.sub (by decide)) _ _ _ _ ?_
    | with_reducible refine creditBack_keeps (k.sub (by decide)) _ _ _ _ ?_

theorem takeHead_keeps {P : State → Prop} (k : Closed P [.regs, .fifoHolds, .links, .windows, .hif, .drawn]) (s : State) (l : ℕ) (c : ℕ) (p : ℕ) (h : P s) :
    P (takeHead s l c p) := by
  unfold takeHead
  try extract_lets
  repeat' first
    | with_reducible assumption
    | with_reducible refine creditBack_keeps (k.sub (by decide)) _ _ _ _ ?_
    | with_reducible refine updWindow_keeps (k.sub (by decide)) _ _ _ ?_
    | with_reducible refine discardFlits_keeps (k.sub (by decide)) _ _ _ _ ?_
    | with_reducible refine respond_keeps (k.sub (by decide)) _ _ _ _ ?_
    | with_reducible refine setReceive_keeps (k.sub (by decide)) _ _ _ _ ?_
    | with_reducible refine bump_keeps (k.sub (by decide)) _ _ _ ?_
    | with_reducible refine setSticky_keeps (k.sub (by decide)) _ _ _ ?_
    | with_reducible refine ite_keeps ?_ ?_
    | split

theorem takeFlit_keeps {P : State → Prop} (k : Closed P [.regs, .fifoHolds, .sector, .codes, .stairs, .drams, .links, .windows, .hif, .fc, .drawn]) (l : ℕ) (c : ℕ) (s : State) (f : ℕ × ℕ) (h : P s) :
    P (takeFlit l c s f) := by
  unfold takeFlit
  try extract_lets
  repeat' first
    | with_reducible assumption
    | with_reducible refine holdWrites_keeps (k.sub (by decide)) _ _ _ _ _ ?_
    | with_reducible refine creditBack_keeps (k.sub (by decide)) _ _ _ _ ?_
    | with_reducible refine setReceive_keeps (k.sub (by decide)) _ _ _ _ ?_
    | with_reducible refine settleReceive_keeps (k.sub (by decide)) _ _ _ ?_
    | with_reducible refine discardFlits_keeps (k.sub (by decide)) _ _ _ _ ?_
    | with_reducible refine takeHead_keeps (k.sub (by decide)) _ _ _ _ ?_
    | with_reducible refine setChan_keeps (k.sub (by decide)) _ _ _ _ ?_
    | with_reducible refine ite_keeps ?_ ?_
    | extract_lets
    | split

theorem drainChannel_keeps {P : State → Prop} (k : Closed P [.regs, .fifoHolds, .sector, .codes, .stairs, .drams, .links, .windows, .hif, .fc, .drawn]) (s : State) (l : ℕ) (c : ℕ) (h : P s) :
    P (drainChannel s l c) := by
  unfold drainChannel
  try extract_lets
  repeat' first
    | with_reducible assumption
    | with_reducible refine setChan_keeps (k.sub (by decide)) _ _ _ _ ?_
    | with_reducible refine takeFlit_keeps (k.sub (by decide)) _ _ _ _ ?_
    | with_reducible refine foldl_keeps (fun _ _ _ => ?_) ?_

theorem settleChannel_keeps {P : State → Prop} (k : Closed P [.regs, .fifoHolds, .sector, .codes, .stairs, .drams, .links, .windows, .hif, .fc, .drawn]) (s : State) (l : ℕ) (c : ℕ) (h : P s) :
    P (settleChannel s l c) := by
  unfold settleChannel
  try extract_lets
  repeat' first
    | with_reducible assumption
    | with_reducible refine drainChannel_keeps (k.sub (by decide)) _ _ _ ?_
    | with_reducible refine settleReceive_keeps (k.sub (by decide)) _ _ _ ?_
    | with_reducible refine ite_keeps ?_ ?_

theorem commitHeader_keeps {P : State → Prop} (k : Closed P [.regs, .fifoHolds, .sector, .codes, .stairs, .drams, .hif, .fc, .drawn]) (s : State) (w : Window) (r : Receive) (p : ℕ) (h : P s) :
    P (commitHeader s w r p).1 := by
  unfold commitHeader
  try extract_lets
  repeat' first
    | with_reducible assumption
    | with_reducible refine updateHeader_keeps (k.sub (by decide)) _ _ _ ?_
    | with_reducible refine memRead_keeps (k.sub (by decide)) _ _ _ _ ?_
    | with_reducible refine memWrite_keeps (k.sub (by decide)) _ _ _ _ _ ?_
    | with_reducible refine ite_fst_keeps ?_ ?_
    | with_reducible refine fst_keeps ?_ (by with_reducible assumption)
    | extract_lets
    | split

theorem doWrites_keeps {P : State → Prop} (k : Closed P [.regs, .fifoHolds, .sector, .codes, .stairs, .drams, .hif, .fc, .drawn]) (x1 : List (ℕ × ℕ × ℕ)) (x2 : State) (h : P x2) :
    P (doWrites x1 x2).1 := by
  induction x1 generalizing x2 with
  | nil => unfold doWrites; exact h
  | cons hd tl ih =>
    unfold doWrites
    try extract_lets
    repeat' first
      | with_reducible assumption
      | with_reducible refine memWrite_keeps (k.sub (by decide)) _ _ _ _ _ ?_
      | with_reducible apply ih
      | with_reducible refine ite_fst_keeps ?_ ?_

theorem receiveFlit_keeps {P : State → Prop} (k : Closed P [.regs, .fifoHolds, .sector, .codes, .stairs, .drams, .links, .windows, .hif, .fc, .drawn]) (s : State) (l : ℕ) (type : ℕ) (f : Flit) (h : P s) :
    P (receiveFlit s l type f) := by
  unfold receiveFlit
  try extract_lets
  repeat' first
    | with_reducible assumption
    | with_reducible refine takeFlit_keeps (k.sub (by decide)) _ _ _ _ ?_
    | with_reducible refine acceptFlit_keeps (k.sub (by decide)) _ _ _ _ ?_
    | with_reducible refine ite_keeps ?_ ?_

theorem execAbort_keeps {P : State → Prop} (k : Closed P [.regs, .fifoHolds, .sector, .codes, .stairs, .drams, .links, .windows, .hif, .fc, .drawn]) (l : Fin 9) (f : Flit) (s : State) (h : P s) :
    Answers P (execAbort l f s) := by
  unfold execAbort
  try extract_lets
  repeat' first
    | with_reducible assumption
    | with_reducible refine receiveFlit_keeps (k.sub (by decide)) _ _ _ _ ?_
    | with_reducible refine answers_next ?_

theorem execBody_keeps {P : State → Prop} (k : Closed P [.regs, .fifoHolds, .sector, .codes, .stairs, .drams, .links, .windows, .hif, .fc, .drawn]) (l : Fin 9) (f : Flit) (s : State) (h : P s) :
    Answers P (execBody l f s) := by
  unfold execBody
  try extract_lets
  repeat' first
    | with_reducible assumption
    | with_reducible refine receiveFlit_keeps (k.sub (by decide)) _ _ _ _ ?_
    | with_reducible refine answers_next ?_

theorem loseLock_keeps {P : State → Prop} (k : Closed P [.regs, .fifoHolds, .links, .hif, .drawn]) (s : State) (l : ℕ) (h : P s) :
    P (loseLock s l) := by
  unfold loseLock
  try extract_lets
  repeat' first
    | with_reducible assumption
    | with_reducible refine linkSticky_keeps (k.sub (by decide)) _ _ _ ?_
    | with_reducible refine k.regs (by decide) ?_
    | with_reducible refine bump_keeps (k.sub (by decide)) _ _ _ ?_
    | with_reducible refine setLink_keeps (k.sub (by decide)) _ _ _ ?_
    | with_reducible refine ite_keeps ?_ ?_

theorem startReplay_keeps {P : State → Prop} (k : Closed P [.regs, .fifoHolds, .links, .hif, .drawn]) (s : State) (l : ℕ) (h : P s) :
    P (startReplay s l) := by
  unfold startReplay
  try extract_lets
  repeat' first
    | with_reducible assumption
    | with_reducible refine loseLock_keeps (k.sub (by decide)) _ _ ?_
    | with_reducible refine setLink_keeps (k.sub (by decide)) _ _ _ ?_
    | with_reducible refine linkCount_keeps (k.sub (by decide)) _ _ _ _ ?_
    | with_reducible refine ite_keeps ?_ ?_

theorem takeCredits_keeps {P : State → Prop} (k : Closed P [.links]) (s : State) (l : ℕ) (p : ℕ) (h : P s) :
    P (takeCredits s l p) := by
  unfold takeCredits
  try extract_lets
  repeat' first
    | with_reducible assumption
    | with_reducible refine setChan_keeps (k.sub (by decide)) _ _ _ _ ?_
    | with_reducible refine ite_keeps ?_ ?_
    | with_reducible refine foldl_keeps (fun _ _ _ => ?_) ?_

theorem takeResponses_keeps {P : State → Prop} (k : Closed P [.regs, .stairs, .links]) (s : State) (l : ℕ) (p : ℕ) (h : P s) :
    P (takeResponses s l p) := by
  unfold takeResponses
  try extract_lets
  repeat' first
    | with_reducible assumption
    | with_reducible refine responseArrives_keeps (k.sub (by decide)) _ _ _ _ ?_
    | with_reducible refine foldl_keeps (fun _ _ _ => ?_) ?_
    | extract_lets
    | split

theorem receiveCtrl_keeps {P : State → Prop} (k : Closed P [.regs, .fifoHolds, .stairs, .links, .hif, .drawn]) (s : State) (l : ℕ) (f : Flit) (h : P s) :
    P (receiveCtrl s l f) := by
  unfold receiveCtrl
  try extract_lets
  repeat' first
    | with_reducible assumption
    | with_reducible refine startReplay_keeps (k.sub (by decide)) _ _ ?_
    | with_reducible refine k.regs (by decide) ?_
    | with_reducible refine takeCredits_keeps (k.sub (by decide)) _ _ _ ?_
    | with_reducible refine takeResponses_keeps (k.sub (by decide)) _ _ _ ?_
    | with_reducible refine setLink_keeps (k.sub (by decide)) _ _ _ ?_
    | with_reducible refine acceptFlit_keeps (k.sub (by decide)) _ _ _ _ ?_
    | with_reducible refine ite_keeps ?_ ?_

theorem execCorruptFlit_keeps {P : State → Prop} (k : Closed P [.regs, .fifoHolds, .sector, .codes, .stairs, .drams, .links, .windows, .hif, .fc, .drawn]) (l : Fin 9) (type : BitVec 4) (f : Flit) (s : State) (h : P s) :
    Answers P (execCorruptFlit l type f s) := by
  unfold execCorruptFlit
  try extract_lets
  repeat' first
    | with_reducible assumption
    | with_reducible refine receiveFlit_keeps (k.sub (by decide)) _ _ _ _ ?_
    | with_reducible refine receiveCtrl_keeps (k.sub (by decide)) _ _ _ ?_
    | with_reducible refine answers_next ?_
    | with_reducible refine ite_keeps ?_ ?_

theorem execCtrl_keeps {P : State → Prop} (k : Closed P [.regs, .fifoHolds, .stairs, .links, .hif, .drawn]) (l : Fin 9) (f : Flit) (s : State) (h : P s) :
    Answers P (execCtrl l f s) := by
  unfold execCtrl
  try extract_lets
  repeat' first
    | with_reducible assumption
    | with_reducible refine receiveCtrl_keeps (k.sub (by decide)) _ _ _ ?_
    | with_reducible refine answers_next ?_

theorem execEndFlit_keeps {P : State → Prop} (k : Closed P [.regs, .fifoHolds, .sector, .codes, .stairs, .drams, .links, .windows, .hif, .fc, .drawn]) (l : Fin 9) (f : Flit) (s : State) (h : P s) :
    Answers P (execEndFlit l f s) := by
  unfold execEndFlit
  try extract_lets
  repeat' first
    | with_reducible assumption
    | with_reducible refine receiveFlit_keeps (k.sub (by decide)) _ _ _ _ ?_
    | with_reducible refine answers_next ?_

theorem execEsc_keeps {P : State → Prop} (k : Closed P [.regs, .fifoHolds, .sector, .codes, .stairs, .drams, .links, .windows, .hif, .fc, .drawn]) (l : Fin 9) (f : Flit) (s : State) (h : P s) :
    Answers P (execEsc l f s) := by
  unfold execEsc
  try extract_lets
  repeat' first
    | with_reducible assumption
    | with_reducible refine receiveFlit_keeps (k.sub (by decide)) _ _ _ _ ?_
    | with_reducible refine answers_next ?_

theorem execReplayTimerExpiry_keeps {P : State → Prop} (k : Closed P [.regs, .fifoHolds, .links, .hif, .drawn]) (l : Fin 8) (s : State) (h : P s) :
    Answers P (execReplayTimerExpiry l s) := by
  unfold execReplayTimerExpiry
  try extract_lets
  repeat' first
    | with_reducible assumption
    | with_reducible refine startReplay_keeps (k.sub (by decide)) _ _ ?_
    | with_reducible refine answers_next ?_
    | with_reducible refine ite_answers ?_ ?_

theorem execFenzinLaneSpare_keeps {P : State → Prop} (k : Closed P [.regs, .fifoHolds, .links, .hif, .drawn]) (l : Fin 8) (lane : Fin 17) (s : State) (h : P s) :
    Answers P (execFenzinLaneSpare l lane s) := by
  unfold execFenzinLaneSpare
  try extract_lets
  repeat' first
    | with_reducible assumption
    | with_reducible refine k.regs (by decide) ?_
    | with_reducible refine linkSticky_keeps (k.sub (by decide)) _ _ _ ?_
    | with_reducible refine setLink_keeps (k.sub (by decide)) _ _ _ ?_
    | with_reducible refine answers_next ?_
    | with_reducible refine ite_answers ?_ ?_

theorem execHead_keeps {P : State → Prop} (k : Closed P [.regs, .fifoHolds, .sector, .codes, .stairs, .drams, .links, .windows, .hif, .fc, .drawn]) (l : Fin 9) (f : Flit) (s : State) (h : P s) :
    Answers P (execHead l f s) := by
  unfold execHead
  try extract_lets
  repeat' first
    | with_reducible assumption
    | with_reducible refine receiveFlit_keeps (k.sub (by decide)) _ _ _ _ ?_
    | with_reducible refine answers_next ?_

theorem execLinkLockLoss_keeps {P : State → Prop} (k : Closed P [.regs, .fifoHolds, .links, .hif, .drawn]) (l : Fin 8) (s : State) (h : P s) :
    Answers P (execLinkLockLoss l s) := by
  unfold execLinkLockLoss
  try extract_lets
  repeat' first
    | with_reducible assumption
    | with_reducible refine loseLock_keeps (k.sub (by decide)) _ _ ?_
    | with_reducible refine answers_next ?_

theorem retrain_keeps {P : State → Prop} (k : Closed P [.regs, .fifoHolds, .links, .hif, .drawn]) (s : State) (l : ℕ) (h : P s) :
    P (retrain s l) := by
  unfold retrain
  try extract_lets
  repeat' first
    | with_reducible assumption
    | with_reducible refine setLink_keeps (k.sub (by decide)) _ _ _ ?_
    | with_reducible refine k.regs (by decide) ?_
    | with_reducible refine bump_keeps (k.sub (by decide)) _ _ _ ?_
    | with_reducible refine loseLock_keeps (k.sub (by decide)) _ _ ?_
    | with_reducible refine ite_keeps ?_ ?_

theorem execLinkRetrain_keeps {P : State → Prop} (k : Closed P [.regs, .fifoHolds, .links, .hif, .drawn]) (l : Fin 8) (s : State) (h : P s) :
    Answers P (execLinkRetrain l s) := by
  unfold execLinkRetrain
  try extract_lets
  repeat' first
    | with_reducible assumption
    | with_reducible refine retrain_keeps (k.sub (by decide)) _ _ ?_
    | with_reducible refine ifPermitted_keeps (k.sub (by decide)) _ _ _ _ _ _ ?_ ?_
    | with_reducible refine answers_next ?_

theorem failChannel_keeps {P : State → Prop} (k : Closed P [.regs, .fifoHolds, .sector, .codes, .stairs, .drams, .links, .windows, .hif, .fc, .drawn]) (l : ℕ) (s : State) (c : ℕ) (h : P s) :
    P (failChannel l s c) := by
  unfold failChannel
  try extract_lets
  repeat' first
    | with_reducible assumption
    | with_reducible refine creditBack_keeps (k.sub (by decide)) _ _ _ _ ?_
    | with_reducible refine setReceive_keeps (k.sub (by decide)) _ _ _ _ ?_
    | with_reducible refine settleReceive_keeps (k.sub (by decide)) _ _ _ ?_
    | with_reducible refine discardFlits_keeps (k.sub (by decide)) _ _ _ _ ?_
    | with_reducible refine endEntry_keeps (k.sub (by decide)) _ _ _ _ _ _ ?_
    | with_reducible refine endReduce_keeps (k.sub (by decide)) _ _ _ _ _ ?_
    | with_reducible refine setChan_keeps (k.sub (by decide)) _ _ _ _ ?_
    | with_reducible refine ite_keeps ?_ ?_
    | with_reducible refine foldl_keeps (fun _ _ _ => ?_) ?_
    | extract_lets
    | split
    | dsimp +zetaDelta only

theorem failLink_keeps {P : State → Prop} (k : Closed P [.regs, .fifoHolds, .sector, .codes, .stairs, .drams, .links, .windows, .hif, .fc, .drawn]) (s : State) (l : ℕ) (h : P s) :
    P (failLink s l) := by
  unfold failLink
  try extract_lets
  repeat' first
    | with_reducible assumption
    | with_reducible refine failChannel_keeps (k.sub (by decide)) _ _ _ ?_
    | with_reducible refine k.regs (by decide) ?_
    | with_reducible refine latchFault_keeps (k.sub (by decide)) _ _ _ _ ?_
    | with_reducible refine setLink_keeps (k.sub (by decide)) _ _ _ ?_
    | with_reducible refine foldl_keeps (fun _ _ _ => ?_) ?_

theorem trainingFailed_keeps {P : State → Prop} (k : Closed P [.regs, .fifoHolds, .sector, .codes, .stairs, .drams, .links, .windows, .hif, .fc, .drawn]) (s : State) (l : ℕ) (h : P s) :
    P (trainingFailed s l) := by
  unfold trainingFailed
  try extract_lets
  repeat' first
    | with_reducible assumption
    | with_reducible refine setLink_keeps (k.sub (by decide)) _ _ _ ?_
    | with_reducible refine bump_keeps (k.sub (by decide)) _ _ _ ?_
    | with_reducible refine failLink_keeps (k.sub (by decide)) _ _ ?_
    | with_reducible refine ite_keeps ?_ ?_

theorem trainedLink_keeps {P : State → Prop} (k : Closed P [.regs, .links]) (s : State) (l : ℕ) (state : ℕ) (peer : ℕ) (tx : ℕ × ℕ) (rx : ℕ × ℕ) (h : P s) :
    P (trainedLink s l state peer tx rx) := by
  unfold trainedLink
  try extract_lets
  repeat' first
    | with_reducible assumption
    | with_reducible refine linkCount_keeps (k.sub (by decide)) _ _ _ _ ?_
    | with_reducible refine setLink_keeps (k.sub (by decide)) _ _ _ ?_
    | with_reducible refine k.regs (by decide) ?_
    | with_reducible refine ite_keeps ?_ ?_

theorem execLinkTrainingAttemptEnd_keeps {P : State → Prop} (k : Closed P [.regs, .fifoHolds, .sector, .codes, .stairs, .drams, .links, .windows, .hif, .fc, .drawn]) (l : Fin 8) (found : Training) (s : State) (h : P s) :
    Answers P (execLinkTrainingAttemptEnd l found s) := by
  unfold execLinkTrainingAttemptEnd
  try extract_lets
  repeat' first
    | with_reducible assumption
    | with_reducible refine trainingFailed_keeps (k.sub (by decide)) _ _ ?_
    | with_reducible refine linkSticky_keeps (k.sub (by decide)) _ _ _ ?_
    | with_reducible refine trainedLink_keeps (k.sub (by decide)) _ _ _ _ _ _ ?_
    | with_reducible refine answers_next ?_
    | with_reducible refine ite_answers ?_ ?_
    | with_reducible refine ite_keeps ?_ ?_
    | extract_lets
    | split

theorem receiveFault_keeps {P : State → Prop} (k : Closed P [.regs, .fifoHolds, .links, .hif, .drawn]) (s : State) (l : ℕ) (c : ℕ) (r : Receive) (h : P s) :
    P (receiveFault s l c r) := by
  unfold receiveFault
  try extract_lets
  repeat' first
    | with_reducible assumption
    | with_reducible refine respond_keeps (k.sub (by decide)) _ _ _ _ ?_
    | with_reducible refine setReceive_keeps (k.sub (by decide)) _ _ _ _ ?_
    | with_reducible refine discardFlits_keeps (k.sub (by decide)) _ _ _ _ ?_
    | with_reducible refine ite_keeps ?_ ?_

theorem execReceiveEndCommit_keeps {P : State → Prop} (k : Closed P [.regs, .fifoHolds, .sector, .codes, .stairs, .drams, .links, .windows, .hif, .fc, .drawn]) (l : Fin 9) (c : Fin 16) (s : State) (h : P s) :
    Answers P (execReceiveEndCommit l c s) := by
  unfold execReceiveEndCommit
  try extract_lets
  repeat' first
    | with_reducible assumption
    | with_reducible refine receiveFault_keeps (k.sub (by decide)) _ _ _ _ ?_
    | with_reducible refine settleChannel_keeps (k.sub (by decide)) _ _ _ ?_
    | with_reducible refine respond_keeps (k.sub (by decide)) _ _ _ _ ?_
    | with_reducible refine setReceive_keeps (k.sub (by decide)) _ _ _ _ ?_
    | with_reducible refine drainChannel_keeps (k.sub (by decide)) _ _ _ ?_
    | with_reducible refine creditBack_keeps (k.sub (by decide)) _ _ _ _ ?_
    | with_reducible refine commitHeader_keeps (k.sub (by decide)) _ _ _ _ ?_
    | with_reducible refine answers_next ?_
    | with_reducible refine ite_answers ?_ ?_
    | split

theorem execReceiveWriteAccept_keeps {P : State → Prop} (k : Closed P [.regs, .fifoHolds, .sector, .codes, .stairs, .drams, .links, .windows, .hif, .fc, .drawn]) (l : Fin 9) (c : Fin 16) (s : State) (h : P s) :
    Answers P (execReceiveWriteAccept l c s) := by
  unfold execReceiveWriteAccept
  try extract_lets
  repeat' first
    | with_reducible assumption
    | with_reducible refine receiveFault_keeps (k.sub (by decide)) _ _ _ _ ?_
    | with_reducible refine setReceive_keeps (k.sub (by decide)) _ _ _ _ ?_
    | with_reducible refine settleChannel_keeps (k.sub (by decide)) _ _ _ ?_
    | with_reducible refine creditBack_keeps (k.sub (by decide)) _ _ _ _ ?_
    | with_reducible refine doWrites_keeps (k.sub (by decide)) _ _ ?_
    | with_reducible refine answers_next ?_
    | with_reducible refine ite_answers ?_ ?_
    | split

theorem closeReceive_keeps {P : State → Prop} (k : Closed P [.regs, .fifoHolds, .sector, .codes, .stairs, .drams, .links, .windows, .hif, .fc, .drawn]) (s : State) (l : ℕ) (c : ℕ) (entry : ℕ) (h : P s) :
    P (closeReceive s l c entry) := by
  unfold closeReceive
  try extract_lets
  repeat' first
    | with_reducible assumption
    | with_reducible refine respond_keeps (k.sub (by decide)) _ _ _ _ ?_
    | with_reducible refine setReceive_keeps (k.sub (by decide)) _ _ _ _ ?_
    | with_reducible refine settleChannel_keeps (k.sub (by decide)) _ _ _ ?_
    | with_reducible refine creditBack_keeps (k.sub (by decide)) _ _ _ _ ?_
    | with_reducible refine ite_keeps ?_ ?_
    | split

theorem startOpen_keeps {P : State → Prop} (k : Closed P [.regs, .fifoHolds, .sector, .codes, .stairs, .drams, .windows, .hif, .fc, .drawn]) (s : State) (sw : ℕ) (c : Current) (h : P s) :
    P (startOpen s sw c) := by
  unfold startOpen
  try extract_lets
  repeat' first
    | with_reducible assumption
    | with_reducible refine setStage_keeps (k.sub (by decide)) _ _ _ _ ?_
    | with_reducible refine finishInline_keeps (k.sub (by decide)) _ _ _ _ ?_
    | with_reducible refine memWrite_keeps (k.sub (by decide)) _ _ _ _ _ ?_
    | with_reducible refine startEntry_keeps (k.sub (by decide)) _ _ _ ?_
    | with_reducible refine setSticky_keeps (k.sub (by decide)) _ _ _ ?_
    | with_reducible refine swFault_keeps (k.sub (by decide)) _ _ _ _ ?_
    | with_reducible refine ite_keeps ?_ ?_
    | with_reducible refine fst_keeps ?_ (by with_reducible assumption)
    | extract_lets
    | with_reducible refine k.windows (by decide) ?_
    | rw [withWindows_eq]
    | split

theorem startClose_keeps {P : State → Prop} (k : Closed P [.regs, .fifoHolds, .sector, .codes, .stairs, .drams, .links, .windows, .hif, .fc, .drawn]) (s : State) (sw : ℕ) (c : Current) (h : P s) :
    P (startClose s sw c) := by
  unfold startClose
  try extract_lets
  repeat' first
    | with_reducible assumption
    | with_reducible refine closeReceive_keeps (k.sub (by decide)) _ _ _ _ ?_
    | with_reducible refine updWindow_keeps (k.sub (by decide)) _ _ _ ?_
    | with_reducible refine startEntry_keeps (k.sub (by decide)) _ _ _ ?_
    | with_reducible refine setStage_keeps (k.sub (by decide)) _ _ _ _ ?_
    | with_reducible refine swFault_keeps (k.sub (by decide)) _ _ _ _ ?_
    | with_reducible refine foldl_keeps (fun _ _ _ => ?_) ?_
    | split

theorem execWindowCloseTimeout_keeps {P : State → Prop} (k : Closed P [.regs, .fifoHolds, .sector, .codes, .stairs, .drams, .links, .windows, .hif, .fc, .drawn]) (l : Fin 8) (s : State) (h : P s) :
    Answers P (execWindowCloseTimeout l s) := by
  unfold execWindowCloseTimeout
  try extract_lets
  repeat' first
    | with_reducible assumption
    | with_reducible refine discardFlits_keeps (k.sub (by decide)) _ _ _ _ ?_
    | with_reducible refine setReceive_keeps (k.sub (by decide)) _ _ _ _ ?_
    | with_reducible refine settleChannel_keeps (k.sub (by decide)) _ _ _ ?_
    | with_reducible refine answers_next ?_
    | with_reducible refine ite_answers ?_ ?_
    | with_reducible refine ite_keeps ?_ ?_
    | with_reducible refine foldl_keeps (fun _ _ _ => ?_) ?_
    | extract_lets
    | split

theorem windowEntry_keeps {P : State → Prop} (k : Closed P [.regs, .fifoHolds, .stairs, .hif, .drawn]) (s : State) (sw : ℕ) (close : Bool) (body : State → ℕ → Current → State) (hb : ∀ y0 y1 y2, P y0 → P (body y0 y1 y2)) (h : P s) :
    P (windowEntry s sw close body) := by
  unfold windowEntry
  try extract_lets
  repeat' first
    | with_reducible assumption
    | with_reducible refine beginEntry_keeps (k.sub (by decide)) _ _ _ _ (fun _ _ _ _ => ?_) ?_
    | with_reducible refine hb _ _ _ ?_
    | with_reducible refine ite_keeps ?_ ?_

theorem execWindowClose_keeps {P : State → Prop} (k : Closed P [.regs, .fifoHolds, .sector, .codes, .stairs, .drams, .links, .windows, .hif, .fc, .drawn]) (sw : Fin 16) (s : State) (h : P s) :
    Answers P (execWindowClose sw s) := by
  unfold execWindowClose
  try extract_lets
  repeat' first
    | with_reducible assumption
    | with_reducible refine startClose_keeps (k.sub (by decide)) _ _ _ ?_
    | with_reducible refine windowEntry_keeps (k.sub (by decide)) _ _ _ _ (fun _ _ _ _ => ?_) ?_
    | with_reducible refine answers_next ?_

theorem execWindowCloseDone_keeps {P : State → Prop} (k : Closed P [.regs, .fifoHolds, .sector, .codes, .stairs, .drams, .windows, .hif, .fc, .drawn]) (sw : Fin 16) (s : State) (h : P s) :
    Answers P (execWindowCloseDone sw s) := by
  unfold execWindowCloseDone
  try extract_lets
  repeat' first
    | with_reducible assumption
    | with_reducible refine finishInline_keeps (k.sub (by decide)) _ _ _ _ ?_
    | with_reducible refine answers_next ?_
    | with_reducible refine ite_answers ?_ ?_
    | extract_lets
    | with_reducible refine k.windows (by decide) ?_
    | rw [withWindows_eq]
    | split

theorem execWindowOpen_keeps {P : State → Prop} (k : Closed P [.regs, .fifoHolds, .sector, .codes, .stairs, .drams, .windows, .hif, .fc, .drawn]) (sw : Fin 16) (s : State) (h : P s) :
    Answers P (execWindowOpen sw s) := by
  unfold execWindowOpen
  try extract_lets
  repeat' first
    | with_reducible assumption
    | with_reducible refine startOpen_keeps (k.sub (by decide)) _ _ _ ?_
    | with_reducible refine windowEntry_keeps (k.sub (by decide)) _ _ _ _ (fun _ _ _ _ => ?_) ?_
    | with_reducible refine answers_next ?_

theorem execWindowOpenDone_keeps {P : State → Prop} (k : Closed P [.regs, .fifoHolds, .sector, .codes, .stairs, .drams, .windows, .hif, .fc, .drawn]) (sw : Fin 16) (s : State) (h : P s) :
    Answers P (execWindowOpenDone sw s) := by
  unfold execWindowOpenDone
  try extract_lets
  repeat' first
    | with_reducible assumption
    | with_reducible refine finishInline_keeps (k.sub (by decide)) _ _ _ _ ?_
    | with_reducible refine answers_next ?_
    | with_reducible refine ite_answers ?_ ?_
    | extract_lets
    | with_reducible refine k.windows (by decide) ?_
    | rw [withWindows_eq]
    | split

theorem beginScrub_keeps {P : State → Prop} (k : Closed P [.galleries]) (s : State) (n : ℕ) (h : P s) :
    P (beginScrub s n) := by
  unfold beginScrub
  try extract_lets
  repeat' first
    | with_reducible assumption
    | with_reducible refine setGal_keeps (k.sub (by decide)) _ _ _ _ ?_
    | with_reducible refine ite_keeps ?_ ?_

theorem startByOpcode_keeps {P : State → Prop} (k : Closed P [.regs, .fifoHolds, .sector, .codes, .stairs, .caches, .drams, .links, .windows, .hif, .fc, .drawn]) (s : State) (sw : ℕ) (c : Current) (h : P s) :
    P (startByOpcode s sw c) := by
  unfold startByOpcode
  try extract_lets
  repeat' first
    | with_reducible assumption
    | with_reducible refine startHalt_keeps (k.sub (by decide)) _ _ _ ?_
    | with_reducible refine startJump_keeps (k.sub (by decide)) _ _ _ ?_
    | with_reducible refine startReduce_keeps (k.sub (by decide)) _ _ _ ?_
    | with_reducible refine startOpen_keeps (k.sub (by decide)) _ _ _ ?_
    | with_reducible refine startClose_keeps (k.sub (by decide)) _ _ _ ?_
    | with_reducible refine startFlush_keeps (k.sub (by decide)) _ _ _ ?_
    | with_reducible refine startMove_keeps (k.sub (by decide)) _ _ _ _ ?_
    | with_reducible refine startSignal_keeps (k.sub (by decide)) _ _ _ ?_
    | with_reducible refine startWrite_keeps (k.sub (by decide)) _ _ _ ?_
    | with_reducible refine startWait_keeps (k.sub (by decide)) _ _ _ ?_
    | with_reducible refine startFence_keeps (k.sub (by decide)) _ _ _ ?_
    | with_reducible refine startJob_keeps (k.sub (by decide)) _ _ _ ?_
    | with_reducible refine ite_keeps ?_ ?_
    | split

theorem execEntryStartAfterWait_keeps {P : State → Prop} (k : Closed P [.regs, .fifoHolds, .sector, .codes, .stairs, .caches, .drams, .links, .windows, .hif, .fc, .drawn]) (sw : Fin 16) (s : State) (h : P s) :
    Answers P (execEntryStartAfterWait sw s) := by
  unfold execEntryStartAfterWait
  try extract_lets
  repeat' first
    | with_reducible assumption
    | with_reducible refine startByOpcode_keeps (k.sub (by decide)) _ _ _ ?_
    | with_reducible refine answers_next ?_
    | with_reducible refine ite_answers ?_ ?_
    | split

theorem killSlot_keeps {P : State → Prop} (k : Closed P [.regs, .stairs, .disp, .galleries, .dressers, .caches, .links]) (sw : ℕ) (s : State) (e : ℕ × Tracked) (h : P s) :
    P (killSlot sw s e) := by
  unfold killSlot
  try extract_lets
  repeat' first
    | with_reducible assumption
    | with_reducible refine killSend_keeps (k.sub (by decide)) _ _ _ _ ?_
    | with_reducible refine dropWalks_keeps (k.sub (by decide)) _ _ _ ?_
    | with_reducible refine endJob_keeps (k.sub (by decide)) _ _ _ _ ?_
    | with_reducible refine endEntry_keeps (k.sub (by decide)) _ _ _ _ _ _ ?_
    | with_reducible refine markKilled_keeps (k.sub (by decide)) _ _ _ ?_
    | with_reducible refine ite_keeps ?_ ?_
    | split

theorem killCurrent_keeps {P : State → Prop} (k : Closed P [.regs, .fifoHolds, .sector, .codes, .stairs, .drams, .hif, .fc, .drawn]) (s : State) (sw : ℕ) (h : P s) :
    P (killCurrent s sw) := by
  unfold killCurrent
  try extract_lets
  repeat' first
    | with_reducible assumption
    | with_reducible refine setStair_keeps (k.sub (by decide)) _ _ _ ?_
    | with_reducible refine finishInline_keeps (k.sub (by decide)) _ _ _ _ ?_
    | split

theorem killStair_keeps {P : State → Prop} (k : Closed P [.regs, .fifoHolds, .sector, .codes, .stairs, .disp, .galleries, .dressers, .caches, .drams, .links, .hif, .fc, .drawn]) (s : State) (sw : ℕ) (h : P s) :
    P (killStair s sw) := by
  unfold killStair
  try extract_lets
  repeat' first
    | with_reducible assumption
    | with_reducible refine killSlot_keeps (k.sub (by decide)) _ _ _ ?_
    | with_reducible refine setStair_keeps (k.sub (by decide)) _ _ _ ?_
    | with_reducible refine killCurrent_keeps (k.sub (by decide)) _ _ ?_
    | with_reducible refine dropReads_keeps (k.sub (by decide)) _ _ ?_
    | with_reducible refine k.regs (by decide) ?_
    | with_reducible refine foldl_keeps (fun _ _ _ => ?_) ?_

theorem execKill_keeps {P : State → Prop} (k : Closed P [.regs, .fifoHolds, .sector, .codes, .stairs, .disp, .galleries, .dressers, .caches, .drams, .links, .hif, .fc, .drawn]) (sw : Fin 16) (s : State) (h : P s) :
    Answers P (execKill sw s) := by
  unfold execKill
  try extract_lets
  repeat' first
    | with_reducible assumption
    | with_reducible refine stateErr_keeps (k.sub (by decide)) _ _ ?_
    | with_reducible refine killStair_keeps (k.sub (by decide)) _ _ ?_
    | with_reducible refine swCommand_keeps (k.sub (by decide)) _ _ _ _ ?_ ?_
    | with_reducible refine answers_next ?_
    | with_reducible refine ite_keeps ?_ ?_

theorem execKillDone_keeps {P : State → Prop} (k : Closed P [.regs, .fifoHolds, .stairs, .hif, .drawn]) (sw : Fin 16) (s : State) (h : P s) :
    Answers P (execKillDone sw s) := by
  unfold execKillDone
  try extract_lets
  repeat' first
    | with_reducible assumption
    | with_reducible refine setStair_keeps (k.sub (by decide)) _ _ _ ?_
    | with_reducible refine setSticky_keeps (k.sub (by decide)) _ _ _ ?_
    | with_reducible refine answers_next ?_
    | with_reducible refine ite_answers ?_ ?_

theorem killAndScrub_keeps {P : State → Prop} (k : Closed P [.regs, .fifoHolds, .sector, .codes, .stairs, .disp, .galleries, .dressers, .caches, .drams, .links, .hif, .fc, .drawn]) (s : State) (sw : ℕ) (h : P s) :
    P (killAndScrub s sw) := by
  unfold killAndScrub
  try extract_lets
  repeat' first
    | with_reducible assumption
    | with_reducible refine setStair_keeps (k.sub (by decide)) _ _ _ ?_
    | with_reducible refine beginScrub_keeps (k.sub (by decide)) _ _ ?_
    | with_reducible refine killStair_keeps (k.sub (by decide)) _ _ ?_
    | with_reducible refine foldl_keeps (fun _ _ _ => ?_) ?_

theorem execKillWithScrub_keeps {P : State → Prop} (k : Closed P [.regs, .fifoHolds, .sector, .codes, .stairs, .disp, .galleries, .dressers, .caches, .drams, .links, .hif, .fc, .drawn]) (sw : Fin 16) (s : State) (h : P s) :
    Answers P (execKillWithScrub sw s) := by
  unfold execKillWithScrub
  try extract_lets
  repeat' first
    | with_reducible assumption
    | with_reducible refine stateErr_keeps (k.sub (by decide)) _ _ ?_
    | with_reducible refine killAndScrub_keeps (k.sub (by decide)) _ _ ?_
    | with_reducible refine swCommand_keeps (k.sub (by decide)) _ _ _ _ ?_ ?_
    | with_reducible refine answers_next ?_
    | with_reducible refine ite_keeps ?_ ?_

theorem execScrubFill_keeps {P : State → Prop} (k : Closed P [.galleries]) (hh : Fin 16) (g : Fin 17) (s : State) (h : P s) :
    Answers P (execScrubFill hh g s) := by
  unfold execScrubFill
  try extract_lets
  repeat' first
    | with_reducible assumption
    | with_reducible refine setGal_keeps (k.sub (by decide)) _ _ _ _ ?_
    | with_reducible refine answers_next ?_
    | with_reducible refine ite_answers ?_ ?_

theorem execScrubFillDone_keeps {P : State → Prop} (k : Closed P [.stairs, .galleries]) (hh : Fin 16) (g : Fin 17) (s : State) (h : P s) :
    Answers P (execScrubFillDone hh g s) := by
  unfold execScrubFillDone
  try extract_lets
  repeat' first
    | with_reducible assumption
    | with_reducible refine setGal_keeps (k.sub (by decide)) _ _ _ _ ?_
    | with_reducible refine answers_next ?_
    | with_reducible refine ite_answers ?_ ?_
    | extract_lets
    | with_reducible refine k.stairs (by decide) ?_
    | rw [withStairs_eq]

theorem askFirmware_keeps {P : State → Prop} (k : Closed P [.hif, .mc]) (s : State) (x : FwLoad) (h : P s) :
    P (askFirmware s x) := by
  unfold askFirmware
  try extract_lets
  repeat' first
    | with_reducible assumption
    | extract_lets
    | rw [withHif_withMc_eq]
    | with_reducible refine k.mc (by decide) ?_
    | with_reducible refine k.hif (by decide) ?_

theorem badCpl_keeps {P : State → Prop} (k : Closed P [.regs, .fifoHolds, .hif, .drawn]) (s : State) (h : P s) :
    P (badCpl s) := by
  unfold badCpl
  try extract_lets
  repeat' first
    | with_reducible assumption
    | with_reducible refine bump_keeps (k.sub (by decide)) _ _ _ ?_
    | with_reducible refine setSticky_keeps (k.sub (by decide)) _ _ _ ?_

theorem setImage_keeps {P : State → Prop} (k : Closed P [.mc]) (s : State) (b : Bool) (x : Image) (h : P s) :
    P (setImage s b x) := by
  unfold setImage
  try extract_lets
  repeat' first
    | with_reducible assumption
    | with_reducible refine k.mc (by decide) ?_
    | rw [withMc_eq]

theorem countUnits_keeps {P : State → Prop} (k : Closed P [.regs, .fifoHolds, .drawn]) (s : State) (units : ℕ) (h : P s) :
    P (countUnits s units) := by
  unfold countUnits
  try extract_lets
  repeat' first
    | with_reducible assumption
    | with_reducible refine crossFifo_keeps (k.sub (by decide)) _ _ _ ?_
    | with_reducible refine count_keeps (k.sub (by decide)) _ _ _ _ ?_

theorem rejectLoad_keeps {P : State → Prop} (k : Closed P [.regs, .fifoHolds, .hif, .mc, .drawn]) (s : State) (result : ℕ) (h : P s) :
    P (rejectLoad s result) := by
  unfold rejectLoad
  try extract_lets
  repeat' first
    | with_reducible assumption
    | with_reducible refine k.regs (by decide) ?_
    | with_reducible refine setSticky_keeps (k.sub (by decide)) _ _ _ ?_
    | with_reducible refine setImage_keeps (k.sub (by decide)) _ _ _ ?_
    | extract_lets
    | with_reducible refine k.mc (by decide) ?_
    | rw [withMc_eq]

theorem startSwitch_keeps {P : State → Prop} (k : Closed P [.regs, .mc]) (s : State) (revert : Bool) (h : P s) :
    P (startSwitch s revert) := by
  unfold startSwitch
  try extract_lets
  repeat' first
    | with_reducible assumption
    | with_reducible refine stateErr_keeps (k.sub (by decide)) _ _ ?_
    | with_reducible refine ite_keeps ?_ ?_
    | extract_lets
    | with_reducible refine k.mc (by decide) ?_
    | rw [withMc_eq]

theorem startLoad_keeps {P : State → Prop} (k : Closed P [.regs, .fifoHolds, .sector, .codes, .drams, .hif, .fc, .mc, .drawn]) (s : State) (h : P s) :
    P (startLoad s) := by
  unfold startLoad
  try extract_lets
  repeat' first
    | with_reducible assumption
    | with_reducible refine memRead_keeps (k.sub (by decide)) _ _ _ _ ?_
    | with_reducible refine askFirmware_keeps (k.sub (by decide)) _ _ ?_
    | with_reducible refine rejectLoad_keeps (k.sub (by decide)) _ _ ?_
    | with_reducible refine setImage_keeps (k.sub (by decide)) _ _ _ ?_
    | with_reducible refine ite_keeps ?_ ?_
    | with_reducible refine fst_keeps ?_ (by with_reducible assumption)
    | extract_lets
    | with_reducible refine k.mc (by decide) ?_
    | rw [withMc_eq]
    | split

theorem loadNow_keeps {P : State → Prop} (k : Closed P [.regs, .fifoHolds, .sector, .codes, .drams, .hif, .fc, .mc, .drawn]) (s : State) (h : P s) :
    P (loadNow s) := by
  unfold loadNow
  try extract_lets
  repeat' first
    | with_reducible assumption
    | with_reducible refine stateErr_keeps (k.sub (by decide)) _ _ ?_
    | with_reducible refine startLoad_keeps (k.sub (by decide)) _ ?_
    | with_reducible refine ite_keeps ?_ ?_

theorem runHeld_keeps {P : State → Prop} (k : Closed P [.regs, .fifoHolds, .sector, .codes, .drams, .hif, .fc, .mc, .drawn]) (x1 : ℕ) (x2 : State) (h : P x2) :
    P (runHeld x1 x2) := by
  induction x1 generalizing x2 with
  | zero => unfold runHeld; exact h
  | succ m ih =>
    unfold runHeld
    try extract_lets
    repeat' first
      | with_reducible assumption
      | with_reducible refine startSwitch_keeps (k.sub (by decide)) _ _ ?_
      | with_reducible refine loadNow_keeps (k.sub (by decide)) _ ?_
      | with_reducible apply ih
      | with_reducible refine ite_keeps ?_ ?_
      | extract_lets
      | with_reducible refine k.mc (by decide) ?_
      | rw [withMc_eq]
      | split

theorem firmwareArrives_keeps {P : State → Prop} (k : Closed P [.regs, .fifoHolds, .sector, .codes, .drams, .hif, .fc, .mc, .drawn]) (s : State) (off : ℕ) (got : Option ℕ) (h : P s) :
    P (firmwareArrives s off got) := by
  unfold firmwareArrives
  try extract_lets
  repeat' first
    | with_reducible assumption
    | with_reducible refine askFirmware_keeps (k.sub (by decide)) _ _ ?_
    | with_reducible refine rejectLoad_keeps (k.sub (by decide)) _ _ ?_
    | with_reducible refine runHeld_keeps (k.sub (by decide)) _ _ ?_
    | with_reducible refine ite_keeps ?_ ?_
    | extract_lets
    | with_reducible refine k.mc (by decide) ?_
    | rw [withMc_eq]
    | split

theorem deliver_keeps {P : State → Prop} (k : Closed P [.regs, .fifoHolds, .sector, .codes, .stairs, .drams, .hif, .fc, .mc, .drawn]) (s : State) (who : ReadFor) (got : Option ℕ) (h : P s) :
    P (deliver s who got) := by
  unfold deliver
  try extract_lets
  repeat' first
    | with_reducible assumption
    | with_reducible refine firmwareArrives_keeps (k.sub (by decide)) _ _ _ ?_
    | with_reducible refine pieceArrives_keeps (k.sub (by decide)) _ _ _ _ _ ?_
    | with_reducible refine setWait_keeps (k.sub (by decide)) _ _ _ ?_
    | with_reducible refine descriptorArrives_keeps (k.sub (by decide)) _ _ _ _ ?_
    | with_reducible refine entryArrives_keeps (k.sub (by decide)) _ _ _ _ ?_
    | split

theorem dropRead_keeps {P : State → Prop} (k : Closed P [.hif]) (s : State) (t : ℕ) (h : P s) :
    P (dropRead s t) := by
  unfold dropRead
  try extract_lets
  repeat' first
    | with_reducible assumption
    | with_reducible refine k.hif (by decide) ?_
    | rw [withHif_eq]

theorem overrun_keeps {P : State → Prop} (k : Closed P [.regs, .fifoHolds, .hif, .drawn]) (s : State) (h : P s) :
    P (overrun s) := by
  unfold overrun
  try extract_lets
  repeat' first
    | with_reducible assumption
    | with_reducible refine bump_keeps (k.sub (by decide)) _ _ _ ?_
    | with_reducible refine setSticky_keeps (k.sub (by decide)) _ _ _ ?_

theorem hostRequest_keeps {P : State → Prop} (k : Closed P [.regs, .fifoHolds, .hif, .drawn]) (s : State) (posted : ℕ) (nonposted : ℕ) (units : ℕ) (body : State → State) (hb : ∀ y0, P y0 → P (body y0)) (h : P s) :
    P (hostRequest s posted nonposted units body) := by
  unfold hostRequest
  try extract_lets
  repeat' first
    | with_reducible assumption
    | with_reducible refine overrun_keeps (k.sub (by decide)) _ ?_
    | with_reducible refine countUnits_keeps (k.sub (by decide)) _ _ ?_
    | with_reducible refine hb _ ?_
    | with_reducible refine ite_keeps ?_ ?_
    | extract_lets
    | with_reducible refine k.hif (by decide) ?_
    | rw [withHif_eq]

theorem execAptRd_keeps {P : State → Prop} (k : Closed P [.regs, .fifoHolds, .sector, .codes, .drams, .hif, .fc, .drawn]) (tag : BitVec 10) (addr : BitVec 64) (len : ℕ) (s : State) (h : P s) :
    Answers P (execAptRd tag addr len s) := by
  unfold execAptRd
  try extract_lets
  repeat' first
    | with_reducible assumption
    | with_reducible refine memRead_keeps (k.sub (by decide)) _ _ _ _ ?_
    | with_reducible refine complete_keeps (k.sub (by decide)) _ _ _ _ _ ?_
    | with_reducible refine hostRequest_keeps (k.sub (by decide)) _ _ _ _ _ (fun _ _ => ?_) ?_
    | with_reducible refine answers_next ?_
    | with_reducible refine ite_answers ?_ ?_
    | with_reducible refine ite_keeps ?_ ?_
    | with_reducible refine fst_keeps ?_ (by with_reducible assumption)
    | extract_lets
    | split

theorem execAptWr_keeps {P : State → Prop} (k : Closed P [.regs, .fifoHolds, .sector, .codes, .stairs, .drams, .hif, .fc, .drawn]) (addr : BitVec 64) (len : ℕ) (value : ℕ) (s : State) (h : P s) :
    Answers P (execAptWr addr len value s) := by
  unfold execAptWr
  try extract_lets
  repeat' first
    | with_reducible assumption
    | with_reducible refine setSticky_keeps (k.sub (by decide)) _ _ _ ?_
    | with_reducible refine memWrite_keeps (k.sub (by decide)) _ _ _ _ _ ?_
    | with_reducible refine bump_keeps (k.sub (by decide)) _ _ _ ?_
    | with_reducible refine hostRequest_keeps (k.sub (by decide)) _ _ _ _ _ (fun _ _ => ?_) ?_
    | with_reducible refine answers_next ?_
    | with_reducible refine ite_answers ?_ ?_
    | with_reducible refine ite_keeps ?_ ?_
    | with_reducible refine fst_keeps ?_ (by with_reducible assumption)
    | extract_lets
    | split

theorem latchHostRead_keeps {P : State → Prop} (k : Closed P [.regs, .fifoHolds, .hif, .fc, .drawn]) (s : State) (r : HostRead) (kind : ℕ) (h : P s) :
    P (latchHostRead s r kind) := by
  unfold latchHostRead
  try extract_lets
  repeat' first
    | with_reducible assumption
    | with_reducible refine latchFault_keeps (k.sub (by decide)) _ _ _ _ ?_
    | with_reducible refine k.regs (by decide) ?_
    | with_reducible refine ite_keeps ?_ ?_

theorem execCpl_keeps {P : State → Prop} (k : Closed P [.regs, .fifoHolds, .sector, .codes, .stairs, .drams, .hif, .fc, .mc, .drawn]) (tag : BitVec 10) (status : BitVec 4) (len : ℕ) (value : ℕ) (s : State) (h : P s) :
    Answers P (execCpl tag status len value s) := by
  unfold execCpl
  try extract_lets
  repeat' first
    | with_reducible assumption
    | with_reducible refine bump_keeps (k.sub (by decide)) _ _ _ ?_
    | with_reducible refine latchHostRead_keeps (k.sub (by decide)) _ _ _ ?_
    | with_reducible refine deliver_keeps (k.sub (by decide)) _ _ _ ?_
    | with_reducible refine dropRead_keeps (k.sub (by decide)) _ _ ?_
    | with_reducible refine badCpl_keeps (k.sub (by decide)) _ ?_
    | with_reducible refine countUnits_keeps (k.sub (by decide)) _ _ ?_
    | with_reducible refine answers_next ?_
    | with_reducible refine ite_answers ?_ ?_
    | extract_lets
    | split

theorem execCplTimeout_keeps {P : State → Prop} (k : Closed P [.regs, .fifoHolds, .sector, .codes, .stairs, .drams, .hif, .fc, .mc, .drawn]) (tag : Fin 512) (s : State) (h : P s) :
    Answers P (execCplTimeout tag s) := by
  unfold execCplTimeout
  try extract_lets
  repeat' first
    | with_reducible assumption
    | with_reducible refine latchHostRead_keeps (k.sub (by decide)) _ _ _ ?_
    | with_reducible refine deliver_keeps (k.sub (by decide)) _ _ _ ?_
    | with_reducible refine bump_keeps (k.sub (by decide)) _ _ _ ?_
    | with_reducible refine setSticky_keeps (k.sub (by decide)) _ _ _ ?_
    | with_reducible refine dropRead_keeps (k.sub (by decide)) _ _ ?_
    | with_reducible refine answers_next ?_
    | extract_lets
    | with_reducible refine k.hif (by decide) ?_
    | rw [withHif_eq]
    | split
    | dsimp +zetaDelta only

theorem execCredit_keeps {P : State → Prop} (k : Closed P [.regs, .fifoHolds, .sector, .codes, .stairs, .drams, .hif, .fc, .drawn]) (posted : BitVec 32) (nonposted : BitVec 32) (s : State) (h : P s) :
    Answers P (execCredit posted nonposted s) := by
  unfold execCredit
  try extract_lets
  repeat' first
    | with_reducible assumption
    | with_reducible refine count_keeps (k.sub (by decide)) _ _ _ _ ?_
    | with_reducible refine flushQueue_keeps (k.sub (by decide)) _ ?_
    | with_reducible refine settleWrites_keeps (k.sub (by decide)) _ _ ?_
    | with_reducible refine countUnits_keeps (k.sub (by decide)) _ _ ?_
    | with_reducible refine k.regs (by decide) ?_
    | with_reducible refine answers_next ?_
    | with_reducible refine ite_answers ?_ ?_

theorem execRetiredTagRelease_keeps {P : State → Prop} (k : Closed P [.hif]) (tag : Fin 512) (s : State) (h : P s) :
    Answers P (execRetiredTagRelease tag s) := by
  unfold execRetiredTagRelease
  try extract_lets
  repeat' first
    | with_reducible assumption
    | with_reducible refine answers_next ?_
    | extract_lets
    | with_reducible refine k.hif (by decide) ?_
    | rw [withHif_eq]

theorem trainSidebands_keeps {P : State → Prop} (k : Closed P [.hif]) (s : State) (mask : ℕ) (h : P s) :
    P (trainSidebands s mask) := by
  unfold trainSidebands
  try extract_lets
  repeat' first
    | with_reducible assumption
    | with_reducible refine k.hif (by decide) ?_
    | rw [withHif_eq]

theorem startRetrain_keeps {P : State → Prop} (k : Closed P [.regs]) (s : State) (h : P s) :
    P (startRetrain s) := by
  unfold startRetrain
  try extract_lets
  repeat' first
    | with_reducible assumption
    | with_reducible refine k.regs (by decide) ?_
    | with_reducible refine bump_keeps (k.sub (by decide)) _ _ _ ?_
    | with_reducible refine ite_keeps ?_ ?_

theorem execHifRetrain_keeps {P : State → Prop} (k : Closed P [.regs, .fifoHolds, .hif, .drawn]) (s : State) (h : P s) :
    Answers P (execHifRetrain s) := by
  unfold execHifRetrain
  try extract_lets
  repeat' first
    | with_reducible assumption
    | with_reducible refine startRetrain_keeps (k.sub (by decide)) _ ?_
    | with_reducible refine ifPermitted_keeps (k.sub (by decide)) _ _ _ _ _ _ ?_ ?_
    | with_reducible refine answers_next ?_
    | with_reducible refine ite_keeps ?_ ?_

theorem execHostRd_keeps {P : State → Prop} (k : Closed P [.regs, .fifoHolds, .hif, .drawn]) (s : State) (h : P s) :
    Answers P (execHostRd s) := by
  unfold execHostRd
  try extract_lets
  repeat' first
    | with_reducible assumption
    | with_reducible refine transmit_keeps (k.sub (by decide)) _ _ ?_
    | with_reducible refine answers_next ?_
    | with_reducible refine ite_keeps ?_ ?_
    | extract_lets
    | with_reducible refine k.hif (by decide) ?_
    | rw [withHif_eq]
    | split

theorem execModuleCrcThreshold_keeps {P : State → Prop} (k : Closed P [.regs, .hif]) (m : Fin 16) (s : State) (h : P s) :
    Answers P (execModuleCrcThreshold m s) := by
  unfold execModuleCrcThreshold
  try extract_lets
  repeat' first
    | with_reducible assumption
    | with_reducible refine startRetrain_keeps (k.sub (by decide)) _ ?_
    | with_reducible refine answers_next ?_
    | with_reducible refine ite_answers ?_ ?_
    | extract_lets
    | with_reducible refine k.hif (by decide) ?_
    | rw [withHif_eq]

theorem execNop_keeps {P : State → Prop} (s : State) (h : P s) :
    Answers P (execNop s) := by
  unfold execNop
  try extract_lets
  repeat' first
    | with_reducible assumption
    | with_reducible refine answers_next ?_

theorem writeVecCtrl_keeps {P : State → Prop} (k : Closed P [.regs, .fifoHolds, .hif, .drawn]) (s : State) (v : ℕ) (mask : Bool) (h : P s) :
    P (writeVecCtrl s v mask) := by
  unfold writeVecCtrl
  try extract_lets
  repeat' first
    | with_reducible assumption
    | with_reducible refine signal_keeps (k.sub (by decide)) _ _ ?_
    | with_reducible refine k.regs (by decide) ?_
    | with_reducible refine ite_keeps ?_ ?_

theorem execUcieModuleLoss_keeps {P : State → Prop} (k : Closed P [.regs, .fifoHolds, .hif, .drawn]) (m : Fin 16) (s : State) (h : P s) :
    Answers P (execUcieModuleLoss m s) := by
  unfold execUcieModuleLoss
  try extract_lets
  repeat' first
    | with_reducible assumption
    | with_reducible refine startRetrain_keeps (k.sub (by decide)) _ ?_
    | with_reducible refine setSticky_keeps (k.sub (by decide)) _ _ _ ?_
    | with_reducible refine answers_next ?_
    | with_reducible refine ite_answers ?_ ?_
    | extract_lets
    | with_reducible refine k.hif (by decide) ?_
    | rw [withHif_eq]
    | dsimp +zetaDelta only

theorem linkRises_keeps {P : State → Prop} (k : Closed P [.regs, .hif]) (s : State) (h : P s) :
    P (linkRises s) := by
  unfold linkRises
  try extract_lets
  repeat' first
    | with_reducible assumption
    | with_reducible refine k.regs (by decide) ?_
    | with_reducible refine k.hif (by decide) ?_
    | rw [withHif_eq]

theorem losePacket_keeps {P : State → Prop} (k : Closed P [.regs, .fifoHolds, .hif, .drawn]) (s : State) (q : Queued) (h : P s) :
    P (losePacket s q) := by
  unfold losePacket
  try extract_lets
  repeat' first
    | with_reducible assumption
    | with_reducible refine bump_keeps (k.sub (by decide)) _ _ _ ?_
    | with_reducible refine setSticky_keeps (k.sub (by decide)) _ _ _ ?_
    | with_reducible refine ite_keeps ?_ ?_
    | extract_lets
    | split

theorem linkFalls_keeps {P : State → Prop} (k : Closed P [.regs, .fifoHolds, .sector, .codes, .stairs, .drams, .hif, .fc, .drawn]) (s : State) (h : P s) :
    P (linkFalls s) := by
  unfold linkFalls
  try extract_lets
  repeat' first
    | with_reducible assumption
    | with_reducible refine losePacket_keeps (k.sub (by decide)) _ _ ?_
    | with_reducible refine settleWrites_keeps (k.sub (by decide)) _ _ ?_
    | with_reducible refine setSticky_keeps (k.sub (by decide)) _ _ _ ?_
    | with_reducible refine foldl_keeps (fun _ _ _ => ?_) ?_
    | extract_lets
    | with_reducible refine k.hif (by decide) ?_
    | rw [withHif_eq]

theorem noteMissing_keeps {P : State → Prop} (k : Closed P [.regs, .fifoHolds, .hif, .mc, .drawn]) (s : State) (gone : ℕ) (h : P s) :
    P (noteMissing s gone) := by
  unfold noteMissing
  try extract_lets
  repeat' first
    | with_reducible assumption
    | with_reducible refine repairEvent_keeps (k.sub (by decide)) _ _ ?_
    | with_reducible refine setSticky_keeps (k.sub (by decide)) _ _ _ ?_
    | with_reducible refine ite_keeps ?_ ?_
    | extract_lets
    | with_reducible refine k.hif (by decide) ?_
    | rw [withHif_eq]
    | dsimp +zetaDelta only

theorem execUcieRetrainDone_keeps {P : State → Prop} (k : Closed P [.regs, .fifoHolds, .sector, .codes, .stairs, .drams, .hif, .fc, .mc, .drawn]) (modules : ModuleTraining) (repaired : Bool) (s : State) (h : P s) :
    Answers P (execUcieRetrainDone modules repaired s) := by
  unfold execUcieRetrainDone
  try extract_lets
  repeat' first
    | with_reducible assumption
    | with_reducible refine linkRises_keeps (k.sub (by decide)) _ ?_
    | with_reducible refine flushQueue_keeps (k.sub (by decide)) _ ?_
    | with_reducible refine settleWrites_keeps (k.sub (by decide)) _ _ ?_
    | with_reducible refine linkFalls_keeps (k.sub (by decide)) _ ?_
    | with_reducible refine noteMissing_keeps (k.sub (by decide)) _ _ ?_
    | with_reducible refine setSticky_keeps (k.sub (by decide)) _ _ _ ?_
    | with_reducible refine trainSidebands_keeps (k.sub (by decide)) _ _ ?_
    | with_reducible refine k.regs (by decide) ?_
    | with_reducible refine answers_next ?_
    | with_reducible refine ite_answers ?_ ?_
    | with_reducible refine ite_keeps ?_ ?_
    | extract_lets
    | with_reducible refine k.hif (by decide) ?_
    | rw [withHif_eq]

theorem execUnknownPacket_keeps {P : State → Prop} (k : Closed P [.regs, .fifoHolds, .hif, .drawn]) (type : BitVec 8) (units : ℕ) (s : State) (h : P s) :
    Answers P (execUnknownPacket type units s) := by
  unfold execUnknownPacket
  try extract_lets
  repeat' first
    | with_reducible assumption
    | with_reducible refine countUnits_keeps (k.sub (by decide)) _ _ ?_
    | with_reducible refine bump_keeps (k.sub (by decide)) _ _ _ ?_
    | with_reducible refine setSticky_keeps (k.sub (by decide)) _ _ _ ?_
    | with_reducible refine answers_next ?_
    | with_reducible refine ite_answers ?_ ?_

theorem execVecCtrlWrite_keeps {P : State → Prop} (k : Closed P [.regs, .fifoHolds, .hif, .drawn]) (v : Fin 64) (mask : Bool) (signalled : Bool) (s : State) (h : P s) :
    Answers P (execVecCtrlWrite v mask signalled s) := by
  unfold execVecCtrlWrite
  try extract_lets
  repeat' first
    | with_reducible assumption
    | with_reducible refine signal_keeps (k.sub (by decide)) _ _ ?_
    | with_reducible refine writeVecCtrl_keeps (k.sub (by decide)) _ _ _ ?_
    | with_reducible refine ifPermitted_keeps (k.sub (by decide)) _ _ _ _ _ _ ?_ ?_
    | with_reducible refine answers_next ?_
    | with_reducible refine ite_answers ?_ ?_
    | with_reducible refine ite_keeps ?_ ?_

theorem retireHall_keeps {P : State → Prop} (k : Closed P [.regs]) (s : State) (hh : ℕ) (h : P s) :
    P (retireHall s hh) := by
  unfold retireHall
  try extract_lets
  repeat' first
    | with_reducible assumption
    | with_reducible refine k.regs (by decide) ?_
    | with_reducible refine foldl_keeps (fun _ _ _ => ?_) ?_

theorem drainGallery_keeps {P : State → Prop} (k : Closed P [.regs, .galleries]) (s : State) (hh : ℕ) (g : ℕ) (h : P s) :
    P (drainGallery s hh g) := by
  unfold drainGallery
  try extract_lets
  repeat' first
    | with_reducible assumption
    | with_reducible refine setGal_keeps (k.sub (by decide)) _ _ _ _ ?_
    | with_reducible refine setQuiesce_keeps (k.sub (by decide)) _ _ _ _ ?_

theorem beginRetire_keeps {P : State → Prop} (k : Closed P [.regs, .galleries]) (s : State) (hh : ℕ) (h : P s) :
    P (beginRetire s hh) := by
  unfold beginRetire
  try extract_lets
  repeat' first
    | with_reducible assumption
    | with_reducible refine drainGallery_keeps (k.sub (by decide)) _ _ _ ?_
    | with_reducible refine k.regs (by decide) ?_
    | with_reducible refine ite_keeps ?_ ?_
    | with_reducible refine foldl_keeps (fun _ _ _ => ?_) ?_

theorem runImage_keeps {P : State → Prop} (k : Closed P [.mc, .seb]) (s : State) (b : Bool) (h : P s) :
    P (runImage s b) := by
  unfold runImage
  try extract_lets
  repeat' first
    | with_reducible assumption
    | extract_lets
    | rw [withMc_withSeb_eq]
    | with_reducible refine k.seb (by decide) ?_
    | with_reducible refine k.mc (by decide) ?_

theorem hallErr_keeps {P : State → Prop} (k : Closed P [.regs]) (s : State) (hh : ℕ) (h : P s) :
    P (hallErr s hh) := by
  unfold hallErr
  try extract_lets
  repeat' first
    | with_reducible assumption
    | with_reducible refine stateErr_keeps (k.sub (by decide)) _ _ ?_

theorem doAbandon_keeps {P : State → Prop} (k : Closed P [.regs, .stairs, .disp, .galleries, .dressers]) (s : State) (hh : ℕ) (g : ℕ) (h : P s) :
    P (doAbandon s hh g) := by
  unfold doAbandon
  try extract_lets
  repeat' first
    | with_reducible assumption
    | with_reducible refine hallErr_keeps (k.sub (by decide)) _ _ ?_
    | with_reducible refine drainGallery_keeps (k.sub (by decide)) _ _ _ ?_
    | with_reducible refine returnTickets_keeps (k.sub (by decide)) _ _ _ _ ?_
    | with_reducible refine ite_keeps ?_ ?_

theorem doDrain_keeps {P : State → Prop} (k : Closed P [.regs, .galleries]) (s : State) (hh : ℕ) (g : ℕ) (h : P s) :
    P (doDrain s hh g) := by
  unfold doDrain
  try extract_lets
  repeat' first
    | with_reducible assumption
    | with_reducible refine hallErr_keeps (k.sub (by decide)) _ _ ?_
    | with_reducible refine drainGallery_keeps (k.sub (by decide)) _ _ _ ?_
    | with_reducible refine ite_keeps ?_ ?_

theorem doResume_keeps {P : State → Prop} (k : Closed P [.regs, .galleries]) (s : State) (hh : ℕ) (g : ℕ) (h : P s) :
    P (doResume s hh g) := by
  unfold doResume
  try extract_lets
  repeat' first
    | with_reducible assumption
    | with_reducible refine hallErr_keeps (k.sub (by decide)) _ _ ?_
    | with_reducible refine resumeGallery_keeps (k.sub (by decide)) _ _ _ ?_
    | with_reducible refine ite_keeps ?_ ?_

theorem doSwap_keeps {P : State → Prop} (k : Closed P [.regs, .fifoHolds, .hif, .mc, .drawn]) (s : State) (hh : ℕ) (g : ℕ) (t : ℕ) (h : P s) :
    P (doSwap s hh g t) := by
  unfold doSwap
  try extract_lets
  repeat' first
    | with_reducible assumption
    | with_reducible refine setSticky_keeps (k.sub (by decide)) _ _ _ ?_
    | with_reducible refine recordRepair_keeps (k.sub (by decide)) _ _ _ _ _ _ ?_
    | with_reducible refine setQuiesce_keeps (k.sub (by decide)) _ _ _ _ ?_
    | with_reducible refine bump_keeps (k.sub (by decide)) _ _ _ ?_
    | with_reducible refine k.regs (by decide) ?_
    | split

theorem emptyCache_keeps {P : State → Prop} (k : Closed P [.regs, .fifoHolds, .sector, .codes, .stairs, .caches, .drams, .hif, .fc, .drawn]) (s : State) (hh : ℕ) (h : P s) :
    P (emptyCache s hh) := by
  unfold emptyCache
  try extract_lets
  repeat' first
    | with_reducible assumption
    | with_reducible refine retireLine_keeps (k.sub (by decide)) _ _ _ ?_
    | with_reducible refine k.regs (by decide) ?_
    | with_reducible refine foldl_keeps (fun _ _ _ => ?_) ?_

theorem enterReports_keeps {P : State → Prop} (k : Closed P [.regs, .fifoHolds, .hif, .fc, .drawn]) (s : State) (rs : List Report) (h : P s) :
    P (enterReports s rs) := by
  unfold enterReports
  try extract_lets
  repeat' first
    | with_reducible assumption
    | with_reducible refine fcEnter_keeps (k.sub (by decide)) _ _ _ _ ?_
    | with_reducible refine foldl_keeps (fun _ _ _ => ?_) ?_

theorem galleryCmd_keeps {P : State → Prop} (k : Closed P [.regs, .fifoHolds, .hif, .drawn]) (s : State) (hh : ℕ) (g : ℕ) (cmd : ℕ) (body : State) (h : P s) (h1 : P body) :
    P (galleryCmd s hh g cmd body) := by
  unfold galleryCmd
  try extract_lets
  repeat' first
    | with_reducible assumption
    | with_reducible refine ifPermitted_keeps (k.sub (by decide)) _ _ _ _ _ _ ?_ ?_

theorem execAbandon_keeps {P : State → Prop} (k : Closed P [.regs, .fifoHolds, .stairs, .disp, .galleries, .dressers, .hif, .drawn]) (hh : Fin 16) (g : Fin 17) (s : State) (h : P s) :
    Answers P (execAbandon hh g s) := by
  unfold execAbandon
  try extract_lets
  repeat' first
    | with_reducible assumption
    | with_reducible refine doAbandon_keeps (k.sub (by decide)) _ _ _ ?_
    | with_reducible refine galleryCmd_keeps (k.sub (by decide)) _ _ _ _ _ ?_ ?_
    | with_reducible refine answers_next ?_

theorem setRepairing_keeps {P : State → Prop} (k : Closed P [.mc]) (s : State) (r : Option RepairStep) (h : P s) :
    P (setRepairing s r) := by
  unfold setRepairing
  try extract_lets
  repeat' first
    | with_reducible assumption
    | with_reducible refine k.mc (by decide) ?_
    | rw [withMc_eq]

theorem repairNeeded_keeps {P : State → Prop} (k : Closed P [.regs, .fifoHolds, .hif, .drawn]) (s : State) (h : P s) :
    P (repairNeeded s) := by
  unfold repairNeeded
  try extract_lets
  repeat' first
    | with_reducible assumption
    | with_reducible refine setSticky_keeps (k.sub (by decide)) _ _ _ ?_

theorem swapToSpare_keeps {P : State → Prop} (k : Closed P [.regs, .fifoHolds, .hif, .mc, .drawn]) (s : State) (hh : ℕ) (g : ℕ) (h : P s) :
    P (swapToSpare s hh g) := by
  unfold swapToSpare
  try extract_lets
  repeat' first
    | with_reducible assumption
    | with_reducible refine repairNeeded_keeps (k.sub (by decide)) _ ?_
    | with_reducible refine doSwap_keeps (k.sub (by decide)) _ _ _ _ ?_
    | with_reducible refine ite_keeps ?_ ?_
    | split

theorem respondRepair_keeps {P : State → Prop} (k : Closed P [.regs, .fifoHolds, .galleries, .caches, .hif, .mc, .drawn]) (s : State) (e : RepairEvent) (h : P s) :
    P (respondRepair s e) := by
  unfold respondRepair
  try extract_lets
  repeat' first
    | with_reducible assumption
    | with_reducible refine setWays_keeps (k.sub (by decide)) _ _ _ ?_
    | with_reducible refine drainGallery_keeps (k.sub (by decide)) _ _ _ ?_
    | with_reducible refine setRepairing_keeps (k.sub (by decide)) _ _ ?_
    | with_reducible refine repairNeeded_keeps (k.sub (by decide)) _ ?_
    | with_reducible refine swapToSpare_keeps (k.sub (by decide)) _ _ _ ?_
    | with_reducible refine ite_keeps ?_ ?_
    | split

theorem repairStep_keeps {P : State → Prop} (k : Closed P [.regs, .fifoHolds, .galleries, .caches, .hif, .mc, .drawn]) (s : State) (h : P s) :
    P (repairStep s) := by
  unfold repairStep
  try extract_lets
  repeat' first
    | with_reducible assumption
    | with_reducible refine respondRepair_keeps (k.sub (by decide)) _ _ ?_
    | with_reducible refine swapToSpare_keeps (k.sub (by decide)) _ _ _ ?_
    | with_reducible refine setRepairing_keeps (k.sub (by decide)) _ _ ?_
    | with_reducible refine endRowRepair_keeps (k.sub (by decide)) _ _ _ ?_
    | with_reducible refine ite_keeps ?_ ?_
    | extract_lets
    | with_reducible refine k.mc (by decide) ?_
    | rw [withMc_eq]
    | split

theorem execAutoRepair_keeps {P : State → Prop} (k : Closed P [.regs, .fifoHolds, .galleries, .caches, .hif, .mc, .drawn]) (s : State) (h : P s) :
    Answers P (execAutoRepair s) := by
  unfold execAutoRepair
  try extract_lets
  repeat' first
    | with_reducible assumption
    | with_reducible refine repairStep_keeps (k.sub (by decide)) _ ?_
    | with_reducible refine answers_next ?_
    | with_reducible refine ite_answers ?_ ?_

theorem execClearTable_keeps {P : State → Prop} (k : Closed P [.regs, .fifoHolds, .hif, .fc, .drawn]) (reports : List Report) (s : State) (h : P s) :
    Answers P (execClearTable reports s) := by
  unfold execClearTable
  try extract_lets
  repeat' first
    | with_reducible assumption
    | with_reducible refine k.regs (by decide) ?_
    | with_reducible refine ifPermitted_keeps (k.sub (by decide)) _ _ _ _ _ _ ?_ ?_
    | with_reducible refine enterReports_keeps (k.sub (by decide)) _ _ ?_
    | with_reducible refine answers_next ?_
    | extract_lets
    | with_reducible refine k.fc (by decide) ?_
    | rw [withFc_eq]

theorem execDrain_keeps {P : State → Prop} (k : Closed P [.regs, .fifoHolds, .galleries, .hif, .drawn]) (hh : Fin 16) (g : Fin 17) (s : State) (h : P s) :
    Answers P (execDrain hh g s) := by
  unfold execDrain
  try extract_lets
  repeat' first
    | with_reducible assumption
    | with_reducible refine doDrain_keeps (k.sub (by decide)) _ _ _ ?_
    | with_reducible refine galleryCmd_keeps (k.sub (by decide)) _ _ _ _ _ ?_ ?_
    | with_reducible refine answers_next ?_

theorem execFwReadyTimeout_keeps {P : State → Prop} (k : Closed P [.regs, .fifoHolds, .hif, .mc, .drawn]) (s : State) (h : P s) :
    Answers P (execFwReadyTimeout s) := by
  unfold execFwReadyTimeout
  try extract_lets
  repeat' first
    | with_reducible assumption
    | with_reducible refine setSticky_keeps (k.sub (by decide)) _ _ _ ?_
    | with_reducible refine setImage_keeps (k.sub (by decide)) _ _ _ ?_
    | with_reducible refine answers_next ?_
    | with_reducible refine ite_answers ?_ ?_
    | extract_lets
    | with_reducible refine k.mc (by decide) ?_
    | rw [withMc_eq]
    | dsimp +zetaDelta only

theorem execTreadWatchdogExpiry_keeps {P : State → Prop} (k : Closed P [.regs, .fifoHolds, .stairs, .disp, .galleries, .dressers, .hif, .fc, .mc, .drawn]) (hh : Fin 16) (g : Fin 17) (kk : GalleryFault) (s : State) (h : P s) :
    Answers P (execTreadWatchdogExpiry hh g kk s) := by
  unfold execTreadWatchdogExpiry
  try extract_lets
  repeat' first
    | with_reducible assumption
    | with_reducible refine galleryFault_keeps (k.sub (by decide)) _ _ _ _ ?_
    | with_reducible refine answers_next ?_
    | with_reducible refine ite_answers ?_ ?_

theorem execFcReport_keeps {P : State → Prop} (k : Closed P [.regs, .fifoHolds, .hif, .fc, .drawn]) (reports : List Report) (s : State) (h : P s) :
    Answers P (execFcReport reports s) := by
  unfold execFcReport
  try extract_lets
  repeat' first
    | with_reducible assumption
    | with_reducible refine enterReports_keeps (k.sub (by decide)) _ _ ?_
    | with_reducible refine answers_next ?_

theorem execFwReady_keeps {P : State → Prop} (k : Closed P [.regs, .fifoHolds, .hif, .mc, .seb, .drawn]) (s : State) (h : P s) :
    Answers P (execFwReady s) := by
  unfold execFwReady
  try extract_lets
  repeat' first
    | with_reducible assumption
    | with_reducible refine setSticky_keeps (k.sub (by decide)) _ _ _ ?_
    | with_reducible refine runImage_keeps (k.sub (by decide)) _ _ ?_
    | with_reducible refine answers_next ?_
    | with_reducible refine ite_answers ?_ ?_
    | extract_lets
    | with_reducible refine k.mc (by decide) ?_
    | rw [withMc_eq]
    | dsimp +zetaDelta only

theorem execFwSwitchBegin_keeps {P : State → Prop} (k : Closed P [.mc]) (s : State) (h : P s) :
    Answers P (execFwSwitchBegin s) := by
  unfold execFwSwitchBegin
  try extract_lets
  repeat' first
    | with_reducible assumption
    | with_reducible refine answers_next ?_
    | with_reducible refine ite_answers ?_ ?_
    | extract_lets
    | with_reducible refine k.mc (by decide) ?_
    | rw [withMc_eq]

theorem execGalleryQuiescent_keeps {P : State → Prop} (k : Closed P [.regs, .fifoHolds, .galleries, .hif, .drawn]) (hh : Fin 16) (g : Fin 17) (s : State) (h : P s) :
    Answers P (execGalleryQuiescent hh g s) := by
  unfold execGalleryQuiescent
  try extract_lets
  repeat' first
    | with_reducible assumption
    | with_reducible refine setGal_keeps (k.sub (by decide)) _ _ _ _ ?_
    | with_reducible refine setSticky_keeps (k.sub (by decide)) _ _ _ ?_
    | with_reducible refine answers_next ?_
    | with_reducible refine ite_answers ?_ ?_

theorem execGalleryResume_keeps {P : State → Prop} (k : Closed P [.regs, .fifoHolds, .galleries, .hif, .drawn]) (hh : Fin 16) (g : Fin 17) (s : State) (h : P s) :
    Answers P (execGalleryResume hh g s) := by
  unfold execGalleryResume
  try extract_lets
  repeat' first
    | with_reducible assumption
    | with_reducible refine doResume_keeps (k.sub (by decide)) _ _ _ ?_
    | with_reducible refine galleryCmd_keeps (k.sub (by decide)) _ _ _ _ _ ?_ ?_
    | with_reducible refine answers_next ?_

theorem galleryControl_keeps {P : State → Prop} (k : Closed P [.regs, .fifoHolds, .hif, .drawn]) (s : State) (hh : ℕ) (g : ℕ) (word : ℕ) (body : State) (h : P s) (h1 : P body) :
    P (galleryControl s hh g word body) := by
  unfold galleryControl
  try extract_lets
  repeat' first
    | with_reducible assumption
    | with_reducible refine ifPermitted_keeps (k.sub (by decide)) _ _ _ _ _ _ ?_ ?_

theorem execGalleryScrub_keeps {P : State → Prop} (k : Closed P [.regs, .fifoHolds, .galleries, .hif, .drawn]) (hh : Fin 16) (g : Fin 17) (s : State) (h : P s) :
    Answers P (execGalleryScrub hh g s) := by
  unfold execGalleryScrub
  try extract_lets
  repeat' first
    | with_reducible assumption
    | with_reducible refine stateErr_keeps (k.sub (by decide)) _ _ ?_
    | with_reducible refine setGal_keeps (k.sub (by decide)) _ _ _ _ ?_
    | with_reducible refine galleryControl_keeps (k.sub (by decide)) _ _ _ _ _ ?_ ?_
    | with_reducible refine answers_next ?_
    | with_reducible refine ite_keeps ?_ ?_

theorem execHallRetire_keeps {P : State → Prop} (k : Closed P [.regs, .fifoHolds, .galleries, .hif, .drawn]) (hh : Fin 16) (s : State) (h : P s) :
    Answers P (execHallRetire hh s) := by
  unfold execHallRetire
  try extract_lets
  repeat' first
    | with_reducible assumption
    | with_reducible refine beginRetire_keeps (k.sub (by decide)) _ _ ?_
    | with_reducible refine hallErr_keeps (k.sub (by decide)) _ _ ?_
    | with_reducible refine ifPermitted_keeps (k.sub (by decide)) _ _ _ _ _ _ ?_ ?_
    | with_reducible refine answers_next ?_
    | with_reducible refine ite_keeps ?_ ?_

theorem execHallRetireDone_keeps {P : State → Prop} (k : Closed P [.regs, .fifoHolds, .caches, .hif, .mc, .drawn]) (hh : Fin 16) (s : State) (h : P s) :
    Answers P (execHallRetireDone hh s) := by
  unfold execHallRetireDone
  try extract_lets
  repeat' first
    | with_reducible assumption
    | with_reducible refine retireHall_keeps (k.sub (by decide)) _ _ ?_
    | with_reducible refine setSticky_keeps (k.sub (by decide)) _ _ _ ?_
    | with_reducible refine recordRepair_keeps (k.sub (by decide)) _ _ _ _ _ _ ?_
    | with_reducible refine setCache_keeps (k.sub (by decide)) _ _ _ ?_
    | with_reducible refine answers_next ?_
    | with_reducible refine ite_answers ?_ ?_

theorem execHallRetireFlush_keeps {P : State → Prop} (k : Closed P [.regs, .fifoHolds, .sector, .codes, .stairs, .caches, .drams, .hif, .fc, .drawn]) (hh : Fin 16) (s : State) (h : P s) :
    Answers P (execHallRetireFlush hh s) := by
  unfold execHallRetireFlush
  try extract_lets
  repeat' first
    | with_reducible assumption
    | with_reducible refine setCache_keeps (k.sub (by decide)) _ _ _ ?_
    | with_reducible refine emptyCache_keeps (k.sub (by decide)) _ _ ?_
    | with_reducible refine answers_next ?_
    | with_reducible refine ite_answers ?_ ?_

theorem verifyFail_keeps {P : State → Prop} (k : Closed P [.regs, .fifoHolds, .hif, .drawn]) (s : State) (h : P s) :
    P (verifyFail s) := by
  unfold verifyFail
  try extract_lets
  repeat' first
    | with_reducible assumption
    | with_reducible refine bump_keeps (k.sub (by decide)) _ _ _ ?_
    | with_reducible refine setSticky_keeps (k.sub (by decide)) _ _ _ ?_

theorem execImageVerifyDone_keeps {P : State → Prop} (k : Closed P [.regs, .fifoHolds, .sector, .codes, .drams, .hif, .fc, .mc, .seb, .drawn]) (s : State) (h : P s) :
    Answers P (execImageVerifyDone s) := by
  unfold execImageVerifyDone
  try extract_lets
  repeat' first
    | with_reducible assumption
    | with_reducible refine setSticky_keeps (k.sub (by decide)) _ _ _ ?_
    | with_reducible refine runImage_keeps (k.sub (by decide)) _ _ ?_
    | with_reducible refine setImage_keeps (k.sub (by decide)) _ _ _ ?_
    | with_reducible refine k.regs (by decide) ?_
    | with_reducible refine rejectLoad_keeps (k.sub (by decide)) _ _ ?_
    | with_reducible refine verifyFail_keeps (k.sub (by decide)) _ ?_
    | with_reducible refine runHeld_keeps (k.sub (by decide)) _ _ ?_
    | with_reducible refine answers_next ?_
    | with_reducible refine ite_answers ?_ ?_
    | extract_lets
    | with_reducible refine k.mc (by decide) ?_
    | rw [withMc_eq]
    | split

theorem fwCommand_keeps {P : State → Prop} (k : Closed P [.regs, .fifoHolds, .hif, .mc, .drawn]) (s : State) (cmd : ℕ) (body : State) (h : P s) (h1 : P body) :
    P (fwCommand s cmd body) := by
  unfold fwCommand
  try extract_lets
  repeat' first
    | with_reducible assumption
    | with_reducible refine ifPermitted_keeps (k.sub (by decide)) _ _ _ _ _ _ ?_ ?_
    | with_reducible refine ite_keeps ?_ ?_
    | extract_lets
    | with_reducible refine k.mc (by decide) ?_
    | rw [withMc_eq]

theorem execLoad_keeps {P : State → Prop} (k : Closed P [.regs, .fifoHolds, .sector, .codes, .drams, .hif, .fc, .mc, .drawn]) (s : State) (h : P s) :
    Answers P (execLoad s) := by
  unfold execLoad
  try extract_lets
  repeat' first
    | with_reducible assumption
    | with_reducible refine loadNow_keeps (k.sub (by decide)) _ ?_
    | with_reducible refine fwCommand_keeps (k.sub (by decide)) _ _ _ ?_ ?_
    | with_reducible refine answers_next ?_

theorem execQuiesceClear_keeps {P : State → Prop} (k : Closed P [.regs, .fifoHolds, .galleries, .hif, .drawn]) (hh : Fin 16) (g : Fin 17) (s : State) (h : P s) :
    Answers P (execQuiesceClear hh g s) := by
  unfold execQuiesceClear
  try extract_lets
  repeat' first
    | with_reducible assumption
    | with_reducible refine doResume_keeps (k.sub (by decide)) _ _ _ ?_
    | with_reducible refine galleryControl_keeps (k.sub (by decide)) _ _ _ _ _ ?_ ?_
    | with_reducible refine answers_next ?_
    | with_reducible refine ite_keeps ?_ ?_

theorem execQuiesceSet_keeps {P : State → Prop} (k : Closed P [.regs, .fifoHolds, .galleries, .hif, .drawn]) (hh : Fin 16) (g : Fin 17) (s : State) (h : P s) :
    Answers P (execQuiesceSet hh g s) := by
  unfold execQuiesceSet
  try extract_lets
  repeat' first
    | with_reducible assumption
    | with_reducible refine doDrain_keeps (k.sub (by decide)) _ _ _ ?_
    | with_reducible refine galleryControl_keeps (k.sub (by decide)) _ _ _ _ _ ?_ ?_
    | with_reducible refine answers_next ?_
    | with_reducible refine ite_keeps ?_ ?_

theorem execRevert_keeps {P : State → Prop} (k : Closed P [.regs, .fifoHolds, .hif, .mc, .drawn]) (s : State) (h : P s) :
    Answers P (execRevert s) := by
  unfold execRevert
  try extract_lets
  repeat' first
    | with_reducible assumption
    | with_reducible refine startSwitch_keeps (k.sub (by decide)) _ _ ?_
    | with_reducible refine fwCommand_keeps (k.sub (by decide)) _ _ _ ?_ ?_
    | with_reducible refine answers_next ?_

theorem execSwitch_keeps {P : State → Prop} (k : Closed P [.regs, .fifoHolds, .hif, .mc, .drawn]) (s : State) (h : P s) :
    Answers P (execSwitch s) := by
  unfold execSwitch
  try extract_lets
  repeat' first
    | with_reducible assumption
    | with_reducible refine startSwitch_keeps (k.sub (by decide)) _ _ ?_
    | with_reducible refine fwCommand_keeps (k.sub (by decide)) _ _ _ ?_ ?_
    | with_reducible refine answers_next ?_

theorem execSwap_keeps {P : State → Prop} (k : Closed P [.regs, .fifoHolds, .hif, .mc, .drawn]) (hh : Fin 16) (g : Fin 17) (target : Fin 32) (s : State) (h : P s) :
    Answers P (execSwap hh g target s) := by
  unfold execSwap
  try extract_lets
  repeat' first
    | with_reducible assumption
    | with_reducible refine hallErr_keeps (k.sub (by decide)) _ _ ?_
    | with_reducible refine doSwap_keeps (k.sub (by decide)) _ _ _ _ ?_
    | with_reducible refine galleryCmd_keeps (k.sub (by decide)) _ _ _ _ _ ?_ ?_
    | with_reducible refine answers_next ?_
    | with_reducible refine ite_keeps ?_ ?_

theorem restoreWay_keeps {P : State → Prop} (k : Closed P [.regs]) (s : State) (hh : ℕ) (w1 : ℕ) (h : P s) :
    Optional P (restoreWay s hh w1) := by
  unfold restoreWay
  try extract_lets
  repeat' first
    | with_reducible assumption
    | with_reducible refine k.regs (by decide) ?_
    | with_reducible refine optional_some ?_
    | with_reducible exact optional_none
    | with_reducible refine ite_optional ?_ ?_

theorem restoreDie_keeps {P : State → Prop} (k : Closed P [.regs]) (s : State) (hh : ℕ) (map : ℕ) (h : P s) :
    Optional P (restoreDie s hh map) := by
  unfold restoreDie
  try extract_lets
  repeat' first
    | with_reducible assumption
    | with_reducible refine k.regs (by decide) ?_
    | with_reducible refine optional_some ?_
    | with_reducible exact optional_none
    | with_reducible refine ite_optional ?_ ?_

theorem restoreLane_keeps {P : State → Prop} (k : Closed P [.drams]) (s : State) (hh : ℕ) (w1 : ℕ) (h : P s) :
    Optional P (restoreLane s hh w1) := by
  unfold restoreLane
  try extract_lets
  repeat' first
    | with_reducible assumption
    | with_reducible refine setDram_keeps (k.sub (by decide)) _ _ _ ?_
    | with_reducible refine optional_some ?_
    | with_reducible exact optional_none
    | with_reducible refine ite_optional ?_ ?_

theorem restoreDramRow_keeps {P : State → Prop} (k : Closed P [.drams]) (s : State) (hh : ℕ) (w1 : ℕ) (w2 : ℕ) (h : P s) :
    Optional P (restoreDramRow s hh w1 w2) := by
  unfold restoreDramRow
  try extract_lets
  repeat' first
    | with_reducible assumption
    | with_reducible refine setDram_keeps (k.sub (by decide)) _ _ _ ?_
    | with_reducible refine optional_some ?_
    | with_reducible exact optional_none
    | with_reducible refine ite_optional ?_ ?_

theorem restoreRow_keeps {P : State → Prop} (k : Closed P [.galleries]) (s : State) (hh : ℕ) (w1 : ℕ) (h : P s) :
    Optional P (restoreRow s hh w1) := by
  unfold restoreRow
  try extract_lets
  repeat' first
    | with_reducible assumption
    | with_reducible refine setGal_keeps (k.sub (by decide)) _ _ _ _ ?_
    | with_reducible refine optional_some ?_
    | with_reducible exact optional_none
    | with_reducible refine ite_optional ?_ ?_

theorem restoreSwap_keeps {P : State → Prop} (k : Closed P [.regs]) (s : State) (hh : ℕ) (w1 : ℕ) (h : P s) :
    Optional P (restoreSwap s hh w1) := by
  unfold restoreSwap
  try extract_lets
  repeat' first
    | with_reducible assumption
    | with_reducible refine k.regs (by decide) ?_
    | with_reducible refine optional_some ?_
    | with_reducible exact optional_none
    | with_reducible refine ite_optional ?_ ?_

theorem restoreEntry_keeps {P : State → Prop} (k : Closed P [.regs, .galleries, .drams]) (s : State) (e : ℕ) (h : P s) :
    Optional P (restoreEntry s e) := by
  unfold restoreEntry
  try extract_lets
  repeat' first
    | with_reducible assumption
    | with_reducible refine restoreWay_keeps (k.sub (by decide)) _ _ _ ?_
    | with_reducible refine restoreDie_keeps (k.sub (by decide)) _ _ _ ?_
    | with_reducible refine restoreLane_keeps (k.sub (by decide)) _ _ _ ?_
    | with_reducible refine restoreDramRow_keeps (k.sub (by decide)) _ _ _ _ ?_
    | with_reducible refine restoreRow_keeps (k.sub (by decide)) _ _ _ ?_
    | with_reducible refine retireHall_keeps (k.sub (by decide)) _ _ ?_
    | with_reducible refine k.regs (by decide) ?_
    | with_reducible refine restoreSwap_keeps (k.sub (by decide)) _ _ _ ?_
    | with_reducible refine optional_some ?_
    | with_reducible exact optional_none
    | split

theorem applyEntry_keeps {P : State → Prop} (k : Closed P [.regs, .fifoHolds, .galleries, .drams, .hif, .drawn]) (s : State) (e : ℕ) (h : P s) :
    P (applyEntry s e) := by
  unfold applyEntry
  try extract_lets
  repeat' first
    | with_reducible assumption
    | with_reducible refine bump_keeps (k.sub (by decide)) _ _ _ ?_
    | with_reducible refine setSticky_keeps (k.sub (by decide)) _ _ _ ?_
    | with_reducible refine restoreEntry_keeps (k.sub (by decide)) _ _ ?_
    | with_reducible refine some_keeps ?_ (by with_reducible assumption)
    | split

theorem setPhase_keeps {P : State → Prop} (k : Closed P [.regs]) (s : State) (n : ℕ) (h : P s) :
    P (setPhase s n) := by
  unfold setPhase
  try extract_lets
  repeat' first
    | with_reducible assumption
    | with_reducible refine k.regs (by decide) ?_

theorem bootImage_keeps {P : State → Prop} (k : Closed P [.regs, .mc, .seb]) (s : State) (b : Bool) (h : P s) :
    P (bootImage s b) := by
  unfold bootImage
  try extract_lets
  repeat' first
    | with_reducible assumption
    | with_reducible refine setImage_keeps (k.sub (by decide)) _ _ _ ?_
    | with_reducible refine runImage_keeps (k.sub (by decide)) _ _ ?_
    | with_reducible refine setPhase_keeps (k.sub (by decide)) _ _ ?_

theorem calibrateAll_keeps {P : State → Prop} (k : Closed P [.mc, .drawn]) (s : State) (h : P s) :
    P (calibrateAll s) := by
  unfold calibrateAll
  try extract_lets
  repeat' first
    | with_reducible assumption
    | extract_lets
    | rw [withMc_withDrawn_eq]
    | with_reducible refine k.drawn (by decide) ?_
    | with_reducible refine k.mc (by decide) ?_

theorem endWalks_keeps {P : State → Prop} (k : Closed P [.caches]) (s : State) (h : P s) :
    P (endWalks s) := by
  unfold endWalks
  try extract_lets
  repeat' first
    | with_reducible assumption
    | with_reducible refine k.caches (by decide) ?_
    | rw [withCaches_eq]

theorem selectJtag_keeps {P : State → Prop} (k : Closed P [.jtag, .drawn]) (s : State) (i : JtagInstr) (h : P s) :
    P (selectJtag s i) := by
  unfold selectJtag
  try extract_lets
  repeat' first
    | with_reducible assumption
    | extract_lets
    | rw [withJtag_withDrawn_eq]
    | with_reducible refine k.drawn (by decide) ?_
    | with_reducible refine k.jtag (by decide) ?_

theorem execBootDone_keeps {P : State → Prop} (k : Closed P [.regs, .fifoHolds, .hif, .mc, .seb, .drawn]) (s : State) (h : P s) :
    Answers P (execBootDone s) := by
  have hb := fun b => bootImage_keeps (k.sub (by decide)) s b h
  unfold execBootDone
  extract_lets t
  have ht : P t := hb _
  clear_value t
  refine ite_answers (answers_next h) (ite_answers (answers_next (hb _)) (ite_answers (answers_next ?_) (answers_next ?_)))
  · exact setSticky_keeps (k.sub (by decide)) _ _ _ (k.seb (x := { t.seb with fallback := true }) (by decide) ht)
  · exact k.regs (by decide) (k.regs (by decide) h)

theorem fuseRow_keeps {P : State → Prop} (k : Closed P [.galleries]) (s : State) (e : ℕ) (h : P s) : P (fuseRow s e) :=
  getD_keeps (restoreRow_keeps (k.sub (by decide)) _ _ _ h) h

theorem execFusesDone_keeps {P : State → Prop} (k : Closed P [.regs, .galleries, .hif, .drawn]) (s : State) (h : P s) :
    Answers P (execFusesDone s) := by
  unfold execFusesDone
  try extract_lets
  repeat' first
    | with_reducible assumption
    | with_reducible refine trainSidebands_keeps (k.sub (by decide)) _ _ ?_
    | with_reducible refine setPhase_keeps (k.sub (by decide)) _ _ ?_
    | with_reducible refine k.regs (by decide) ?_
    | with_reducible refine fuseRow_keeps (k.sub (by decide)) _ _ ?_
    | with_reducible refine draw_keeps (k.sub (by decide)) _ ?_
    | with_reducible refine answers_next ?_
    | with_reducible refine ite_answers ?_ ?_
    | with_reducible refine foldl_keeps (fun _ _ _ => ?_) ?_

theorem trigger_keeps {P : State → Prop} (k : Closed P [.reset]) (s : State) (codes : List ℕ) (halls : List ℕ) (also : List ResetCause) (h : P s) :
    P (trigger s codes halls also) := by
  unfold trigger
  try extract_lets
  repeat' first
    | with_reducible assumption
    | with_reducible refine k.reset (by decide) ?_
    | with_reducible refine ite_keeps ?_ ?_

theorem writeResetCmd_keeps {P : State → Prop} (k : Closed P [.regs, .reset]) (s : State) (value : ℕ) (also : List ResetCause) (h : P s) :
    P (writeResetCmd s value also) := by
  unfold writeResetCmd
  try extract_lets
  repeat' first
    | with_reducible assumption
    | with_reducible refine stateErr_keeps (k.sub (by decide)) _ _ ?_
    | with_reducible refine trigger_keeps (k.sub (by decide)) _ _ _ _ ?_
    | with_reducible refine ite_keeps ?_ ?_

theorem execHostReset_keeps {P : State → Prop} (k : Closed P [.regs, .fifoHolds, .hif, .drawn, .reset]) (write : ResetWrite) (s : State) (h : P s) :
    Answers P (execHostReset write s) := by
  unfold execHostReset
  try extract_lets
  repeat' first
    | with_reducible assumption
    | with_reducible refine writeResetCmd_keeps (k.sub (by decide)) _ _ _ ?_
    | with_reducible refine ifPermitted_keeps (k.sub (by decide)) _ _ _ _ _ _ ?_ ?_
    | with_reducible refine trigger_keeps (k.sub (by decide)) _ _ _ _ ?_
    | with_reducible refine answers_next ?_
    | with_reducible refine ite_keeps ?_ ?_

theorem placeGallery_keeps {P : State → Prop} (k : Closed P [.regs]) (s : State) (hh : ℕ) (g : ℕ) (h : P s) :
    P (placeGallery s hh g) := by
  unfold placeGallery
  try extract_lets
  repeat' first
    | with_reducible assumption
    | with_reducible refine k.regs (by decide) ?_
    | with_reducible refine setQuiesce_keeps (k.sub (by decide)) _ _ _ _ ?_

theorem restoreAll_keeps {P : State → Prop} (k : Closed P [.regs, .fifoHolds, .galleries, .drams, .hif, .drawn]) (s : State) (h : P s) :
    P (restoreAll s) := by
  unfold restoreAll
  try extract_lets
  repeat' first
    | with_reducible assumption
    | with_reducible refine applyEntry_keeps (k.sub (by decide)) _ _ ?_
    | with_reducible refine placeGallery_keeps (k.sub (by decide)) _ _ _ ?_
    | with_reducible refine foldl_keeps (fun _ _ _ => ?_) ?_

theorem trainLinks_keeps {P : State → Prop} (k : Closed P [.regs]) (s : State) (h : P s) :
    P (trainLinks s) := by
  unfold trainLinks
  try extract_lets
  repeat' first
    | with_reducible assumption
    | with_reducible refine k.regs (by decide) ?_
    | with_reducible refine ite_keeps ?_ ?_
    | with_reducible refine foldl_keeps (fun _ _ _ => ?_) ?_

theorem execMcInitDone_keeps {P : State → Prop} (k : Closed P [.regs, .fifoHolds, .galleries, .drams, .hif, .mc, .drawn]) (s : State) (h : P s) :
    Answers P (execMcInitDone s) := by
  unfold execMcInitDone
  try extract_lets
  repeat' first
    | with_reducible assumption
    | with_reducible refine calibrateAll_keeps (k.sub (by decide)) _ ?_
    | with_reducible refine restoreAll_keeps (k.sub (by decide)) _ ?_
    | with_reducible refine setPhase_keeps (k.sub (by decide)) _ _ ?_
    | with_reducible refine trainLinks_keeps (k.sub (by decide)) _ ?_
    | with_reducible refine answers_next ?_
    | with_reducible refine ite_answers ?_ ?_

theorem execPinReset_keeps {P : State → Prop} (k : Closed P [.reset]) (lowNs : ℕ) (pulse : PinPulse) (s : State) (h : P s) :
    Answers P (execPinReset lowNs pulse s) := by
  unfold execPinReset
  try extract_lets
  repeat' first
    | with_reducible assumption
    | with_reducible refine trigger_keeps (k.sub (by decide)) _ _ _ _ ?_
    | with_reducible refine answers_next ?_

theorem execPowerOnReset_keeps {P : State → Prop} (k : Closed P [.reset]) (s : State) (h : P s) :
    Answers P (execPowerOnReset s) := by
  unfold execPowerOnReset
  try extract_lets
  repeat' first
    | with_reducible assumption
    | with_reducible refine trigger_keeps (k.sub (by decide)) _ _ _ _ ?_
    | with_reducible refine answers_next ?_

theorem execResetRelease_keeps {P : State → Prop} (k : Closed P [.rst]) (x : Release) (s : State) (h : P s) :
    Answers P (execResetRelease x s) := by
  unfold execResetRelease
  try extract_lets
  repeat' first
    | with_reducible assumption
    | with_reducible refine answers_next ?_
    | extract_lets
    | with_reducible refine k.rst (by decide) ?_
    | rw [withRst_eq]

theorem execSagReset_keeps {P : State → Prop} (k : Closed P [.reset]) (s : State) (h : P s) :
    Answers P (execSagReset s) := by
  unfold execSagReset
  try extract_lets
  repeat' first
    | with_reducible assumption
    | with_reducible refine trigger_keeps (k.sub (by decide)) _ _ _ _ ?_
    | with_reducible refine answers_next ?_

theorem execThermalReset_keeps {P : State → Prop} (k : Closed P [.reset]) (trip : ThermalTrip) (s : State) (h : P s) :
    Answers P (execThermalReset trip s) := by
  unfold execThermalReset
  try extract_lets
  repeat' first
    | with_reducible assumption
    | with_reducible refine trigger_keeps (k.sub (by decide)) _ _ _ _ ?_
    | with_reducible refine answers_next ?_

theorem repairLane_keeps {P : State → Prop} (k : Closed P [.regs, .fifoHolds, .drams, .hif, .mc, .drawn]) (s : State) (x : BondLane) (h : P s) :
    P (repairLane s x) := by
  unfold repairLane
  try extract_lets
  repeat' first
    | with_reducible assumption
    | with_reducible refine setSticky_keeps (k.sub (by decide)) _ _ _ ?_
    | with_reducible refine reportRepair_keeps (k.sub (by decide)) _ ?_
    | with_reducible refine setDram_keeps (k.sub (by decide)) _ _ _ ?_
    | with_reducible refine ite_keeps ?_ ?_
    | extract_lets
    | split

theorem execTrainDone_keeps {P : State → Prop} (k : Closed P [.regs, .fifoHolds, .drams, .hif, .mc, .drawn]) (s : State) (h : P s) :
    Answers P (execTrainDone s) := by
  unfold execTrainDone
  try extract_lets
  repeat' first
    | with_reducible assumption
    | with_reducible refine repairLane_keeps (k.sub (by decide)) _ _ ?_
    | with_reducible refine setPhase_keeps (k.sub (by decide)) _ _ ?_
    | with_reducible refine draw_keeps (k.sub (by decide)) _ ?_
    | with_reducible refine answers_next ?_
    | with_reducible refine ite_answers ?_ ?_
    | with_reducible refine foldl_keeps (fun _ _ _ => ?_) ?_

theorem repairAll_keeps {P : State → Prop} (k : Closed P [.regs, .fifoHolds, .galleries, .caches, .hif, .mc, .drawn]) (x1 : ℕ) (x2 : State) (h : P x2) :
    P (repairAll x1 x2) := by
  induction x1 generalizing x2 with
  | zero => unfold repairAll; exact h
  | succ m ih =>
    unfold repairAll
    try extract_lets
    repeat' first
      | with_reducible assumption
      | with_reducible refine repairStep_keeps (k.sub (by decide)) _ ?_
      | with_reducible refine endWalks_keeps (k.sub (by decide)) _ ?_
      | with_reducible apply ih

theorem selfTestFailed_keeps {P : State → Prop} (k : Closed P [.regs, .fifoHolds, .hif, .drawn]) (s : State) (hh : ℕ) (h : P s) :
    P (selfTestFailed s hh) := by
  unfold selfTestFailed
  try extract_lets
  repeat' first
    | with_reducible assumption
    | with_reducible refine setSticky_keeps (k.sub (by decide)) _ _ _ ?_
    | with_reducible refine k.regs (by decide) ?_

theorem selfTestErrors_keeps {P : State → Prop} (k : Closed P [.regs, .fifoHolds, .hif, .drawn]) (s : State) (hh : ℕ) (g : ℕ) (m : ℕ) (ce : ℕ) (ue : ℕ) (h : P s) :
    P (selfTestErrors s hh g m ce ue) := by
  unfold selfTestErrors
  try extract_lets
  repeat' first
    | with_reducible assumption
    | with_reducible refine count_keeps (k.sub (by decide)) _ _ _ _ ?_
    | with_reducible refine setSticky_keeps (k.sub (by decide)) _ _ _ ?_
    | with_reducible refine ite_keeps ?_ ?_

theorem selfTest_keeps {P : State → Prop} (k : Closed P [.regs, .fifoHolds, .stairs, .disp, .galleries, .dressers, .hif, .fc, .mc, .drawn]) (s : State) (o : SelfTest) (h : P s) :
    P (selfTest s o) := by
  unfold selfTest
  try extract_lets
  repeat' first
    | with_reducible assumption
    | with_reducible refine repairEvent_keeps (k.sub (by decide)) _ _ ?_
    | with_reducible refine galleryFault_keeps (k.sub (by decide)) _ _ _ _ ?_
    | with_reducible refine queueGalleryRow_keeps (k.sub (by decide)) _ _ _ _ ?_
    | with_reducible refine retireRow_keeps (k.sub (by decide)) _ _ _ _ ?_
    | with_reducible refine bump_keeps (k.sub (by decide)) _ _ _ ?_
    | with_reducible refine selfTestFailed_keeps (k.sub (by decide)) _ _ ?_
    | with_reducible refine selfTestErrors_keeps (k.sub (by decide)) _ _ _ _ _ _ ?_
    | with_reducible refine ite_keeps ?_ ?_
    | split

theorem execWipeDone_keeps {P : State → Prop} (k : Closed P [.regs, .fifoHolds, .stairs, .disp, .galleries, .dressers, .caches, .hif, .fc, .mc, .drawn, .wipe]) (failures : List SelfTest) (s : State) (h : P s) :
    Answers P (execWipeDone failures s) := by
  unfold execWipeDone
  try extract_lets
  repeat' first
    | with_reducible assumption
    | with_reducible refine setPhase_keeps (k.sub (by decide)) _ _ ?_
    | with_reducible refine setSticky_keeps (k.sub (by decide)) _ _ _ ?_
    | with_reducible refine repairAll_keeps (k.sub (by decide)) _ _ ?_
    | with_reducible refine k.wipe (by decide) ?_
    | with_reducible refine selfTest_keeps (k.sub (by decide)) _ _ ?_
    | with_reducible refine answers_next ?_
    | with_reducible refine ite_answers ?_ ?_
    | with_reducible refine foldl_keeps (fun _ _ _ => ?_) ?_

theorem enterLifecycle_keeps {P : State → Prop} (k : Closed P [.seb, .drawn]) (s : State) (target : ℕ) (mask : ℕ) (h : P s) :
    P (enterLifecycle s target mask) := by
  unfold enterLifecycle
  try extract_lets
  repeat' first
    | with_reducible assumption
    | extract_lets
    | rw [withSeb_withDrawn_eq]
    | with_reducible refine k.drawn (by decide) ?_
    | with_reducible refine k.seb (by decide) ?_
    | split

theorem sebStart_keeps {P : State → Prop} (k : Closed P [.seb]) (s : State) (cmd : ℕ) (target : ℕ) (result : ℕ) (h : P s) :
    P (sebStart s cmd target result) := by
  unfold sebStart
  try extract_lets
  repeat' first
    | with_reducible assumption
    | with_reducible refine k.seb (by decide) ?_
    | rw [withSeb_eq]

theorem sebWrite_keeps {P : State → Prop} (k : Closed P [.regs, .fifoHolds, .sector, .codes, .stairs, .drams, .hif, .fc, .drawn, .restore]) (s : State)
    (a n v : ℕ) (h : P s) : P (sebWrite s a n v).1 := by
  have hw := memWrite_keeps (k.sub (by decide)) s .seb a n v h
  unfold sebWrite
  split
  · exact fst_keeps hw (by with_reducible assumption)
  · exact k.restore (by decide) h (fst_keeps hw (by with_reducible assumption))

theorem runAttest_keeps {P : State → Prop} (k : Closed P [.regs, .fifoHolds, .sector, .codes, .stairs, .drams, .hif, .fc, .seb, .drawn, .restore]) (s : State) (h : P s) :
    P (runAttest s).1 := by
  unfold runAttest
  try extract_lets
  repeat' first
    | with_reducible assumption
    | with_reducible refine sebWrite_keeps (k.sub (by decide)) _ _ _ _ ?_
    | with_reducible refine draw_keeps (k.sub (by decide)) _ ?_
    | with_reducible refine memRead_keeps (k.sub (by decide)) _ _ _ _ ?_
    | with_reducible refine ite_fst_keeps ?_ ?_
    | with_reducible refine fst_keeps ?_ (by with_reducible assumption)
    | extract_lets
    | with_reducible refine k.seb (by decide) ?_
    | rw [withSeb_eq]
    | split
    | dsimp +zetaDelta only

theorem sebCommand_keeps {P : State → Prop} (k : Closed P [.regs, .fifoHolds, .hif, .drawn]) (s : State) (path : Path) (cmd : ℕ) (body : State) (h : P s) (h1 : P body) :
    P (sebCommand s path cmd body) := by
  unfold sebCommand
  try extract_lets
  repeat' first
    | with_reducible assumption
    | with_reducible refine ifPermitted_keeps (k.sub (by decide)) _ _ _ _ _ _ ?_ ?_

theorem sebGate_keeps {P : State → Prop} (k : Closed P [.regs, .fifoHolds, .hif, .drawn]) (s : State) (path : Path) (cmd : ℕ) (body : State → State) (hb : ∀ y0, P y0 → P (body y0)) (h : P s) :
    P (sebGate s path cmd body) := by
  unfold sebGate
  try extract_lets
  repeat' first
    | with_reducible assumption
    | with_reducible refine stateErr_keeps (k.sub (by decide)) _ _ ?_
    | with_reducible refine sebCommand_keeps (k.sub (by decide)) _ _ _ _ ?_ ?_
    | with_reducible refine hb _ ?_
    | with_reducible refine ite_keeps ?_ ?_

theorem execAttest_keeps {P : State → Prop} (k : Closed P [.regs, .fifoHolds, .sector, .codes, .stairs, .drams, .hif, .fc, .seb, .drawn, .restore]) (s : State) (h : P s) :
    Answers P (execAttest s) := by
  unfold execAttest
  try extract_lets
  repeat' first
    | with_reducible assumption
    | with_reducible refine sebStart_keeps (k.sub (by decide)) _ _ _ _ ?_
    | with_reducible refine runAttest_keeps (k.sub (by decide)) _ ?_
    | with_reducible refine sebGate_keeps (k.sub (by decide)) _ _ _ _ (fun _ _ => ?_) ?_
    | with_reducible refine answers_next ?_

theorem freshChallenge_keeps {P : State → Prop} (k : Closed P [.regs, .seb, .drawn]) (s : State) (h : P s) :
    P (freshChallenge s) := by
  unfold freshChallenge
  try extract_lets
  repeat' first
    | with_reducible assumption
    | with_reducible refine k.regs (by decide) ?_
    | with_reducible refine draw_keeps (k.sub (by decide)) _ ?_
    | with_reducible refine foldl_keeps (fun _ _ _ => ?_) ?_
    | with_reducible refine k.seb (by decide) ?_
    | rw [withSeb_eq]

theorem execChallenge_keeps {P : State → Prop} (k : Closed P [.regs, .fifoHolds, .hif, .seb, .drawn]) (s : State) (h : P s) :
    Answers P (execChallenge s) := by
  unfold execChallenge
  try extract_lets
  repeat' first
    | with_reducible assumption
    | with_reducible refine sebStart_keeps (k.sub (by decide)) _ _ _ _ ?_
    | with_reducible refine sebCommand_keeps (k.sub (by decide)) _ _ _ _ ?_ ?_
    | with_reducible refine freshChallenge_keeps (k.sub (by decide)) _ ?_
    | with_reducible refine answers_next ?_
    | with_reducible refine ite_keeps ?_ ?_

theorem execCommitSvn_keeps {P : State → Prop} (k : Closed P [.regs, .fifoHolds, .hif, .seb, .drawn]) (s : State) (h : P s) :
    Answers P (execCommitSvn s) := by
  unfold execCommitSvn
  try extract_lets
  repeat' first
    | with_reducible assumption
    | with_reducible refine sebStart_keeps (k.sub (by decide)) _ _ _ _ ?_
    | with_reducible refine sebGate_keeps (k.sub (by decide)) _ _ _ _ (fun _ _ => ?_) ?_
    | with_reducible refine answers_next ?_
    | extract_lets
    | with_reducible refine k.seb (by decide) ?_
    | rw [withSeb_eq]

theorem execEraseRecord_keeps {P : State → Prop} (k : Closed P [.regs, .fifoHolds, .hif, .mc, .seb, .drawn]) (s : State) (h : P s) :
    Answers P (execEraseRecord s) := by
  unfold execEraseRecord
  try extract_lets
  repeat' first
    | with_reducible assumption
    | with_reducible refine sebStart_keeps (k.sub (by decide)) _ _ _ _ ?_
    | with_reducible refine sebGate_keeps (k.sub (by decide)) _ _ _ _ (fun _ _ => ?_) ?_
    | with_reducible refine answers_next ?_
    | with_reducible refine ite_keeps ?_ ?_
    | extract_lets
    | rw [withMc_withSeb_eq]
    | with_reducible refine k.seb (by decide) ?_
    | with_reducible refine k.mc (by decide) ?_

theorem runWriteCert_keeps {P : State → Prop} (k : Closed P [.regs, .fifoHolds, .sector, .codes, .drams, .hif, .fc, .seb, .drawn]) (s : State) (h : P s) :
    P (runWriteCert s).1 := by
  unfold runWriteCert
  try extract_lets
  repeat' first
    | with_reducible assumption
    | with_reducible refine memRead_keeps (k.sub (by decide)) _ _ _ _ ?_
    | with_reducible refine ite_fst_keeps ?_ ?_
    | with_reducible refine fst_keeps ?_ (by with_reducible assumption)
    | extract_lets
    | with_reducible refine k.seb (by decide) ?_
    | rw [withSeb_eq]
    | split

theorem execWriteCert_keeps {P : State → Prop} (k : Closed P [.regs, .fifoHolds, .sector, .codes, .drams, .hif, .fc, .seb, .drawn]) (s : State) (h : P s) :
    Answers P (execWriteCert s) := by
  unfold execWriteCert
  try extract_lets
  repeat' first
    | with_reducible assumption
    | with_reducible refine sebStart_keeps (k.sub (by decide)) _ _ _ _ ?_
    | with_reducible refine runWriteCert_keeps (k.sub (by decide)) _ ?_
    | with_reducible refine sebGate_keeps (k.sub (by decide)) _ _ _ _ (fun _ _ => ?_) ?_
    | with_reducible refine answers_next ?_

theorem runTransition_keeps {P : State → Prop} (k : Closed P [.regs, .fifoHolds, .sector, .codes, .drams, .hif, .fc, .seb, .drawn]) (s : State) (target : ℕ) (h : P s) :
    P (runTransition s target).1 := by
  unfold runTransition
  try extract_lets
  repeat' first
    | with_reducible assumption
    | with_reducible refine verifyFail_keeps (k.sub (by decide)) _ ?_
    | with_reducible refine memRead_keeps (k.sub (by decide)) _ _ _ _ ?_
    | with_reducible refine sebStart_keeps (k.sub (by decide)) _ _ _ _ ?_
    | with_reducible refine enterLifecycle_keeps (k.sub (by decide)) _ _ _ ?_
    | with_reducible refine ite_keeps ?_ ?_
    | with_reducible refine ite_fst_keeps ?_ ?_
    | with_reducible refine fst_keeps ?_ (by with_reducible assumption)
    | extract_lets
    | with_reducible refine k.seb (by decide) ?_
    | rw [withSeb_eq]
    | split

theorem execTransition_keeps {P : State → Prop} (k : Closed P [.regs, .fifoHolds, .sector, .codes, .drams, .hif, .fc, .seb, .drawn, .reset]) (path : Path) (move : Move) (s : State) (h : P s) :
    Answers P (execTransition path move s) := by
  unfold execTransition
  try extract_lets
  repeat' first
    | with_reducible assumption
    | with_reducible refine sebStart_keeps (k.sub (by decide)) _ _ _ _ ?_
    | with_reducible refine sebGate_keeps (k.sub (by decide)) _ _ _ _ (fun _ _ => ?_) ?_
    | with_reducible refine trigger_keeps (k.sub (by decide)) _ _ _ _ ?_
    | with_reducible refine runTransition_keeps (k.sub (by decide)) _ _ ?_
    | with_reducible refine answers_next ?_
    | with_reducible refine ite_answers ?_ ?_

theorem execSebCommandDone_keeps {P : State → Prop} (k : Closed P [.regs, .fifoHolds, .sector, .codes, .drams, .hif, .fc, .mc, .seb, .drawn]) (s : State) (h : P s) :
    Answers P (execSebCommandDone s) := by
  unfold execSebCommandDone
  try extract_lets
  repeat' first
    | with_reducible assumption
    | with_reducible refine setSticky_keeps (k.sub (by decide)) _ _ _ ?_
    | with_reducible refine runHeld_keeps (k.sub (by decide)) _ _ ?_
    | with_reducible refine k.regs (by decide) ?_
    | with_reducible refine answers_next ?_
    | extract_lets
    | with_reducible refine k.seb (by decide) ?_
    | rw [withSeb_eq]
    | split

theorem crossWord_keeps {P : State → Prop} (k : Closed P [.jtag, .drawn]) (s : State) (word : ℕ) (slow : Bool) (h : P s) :
    P (crossWord s word slow) := by
  unfold crossWord
  try extract_lets
  repeat' first
    | with_reducible assumption
    | with_reducible refine draw_keeps (k.sub (by decide)) _ ?_
    | with_reducible refine ite_keeps ?_ ?_
    | extract_lets
    | with_reducible refine k.jtag (by decide) ?_
    | rw [withJtag_eq]

theorem execJtagInstructionUpdate_keeps {P : State → Prop} (k : Closed P [.jtag, .drawn]) (i : JtagInstr) (s : State) (h : P s) :
    Answers P (execJtagInstructionUpdate i s) := by
  unfold execJtagInstructionUpdate
  try extract_lets
  repeat' first
    | with_reducible assumption
    | with_reducible refine selectJtag_keeps (k.sub (by decide)) _ _ ?_
    | with_reducible refine answers_next ?_

theorem execJtagTapReset_keeps {P : State → Prop} (k : Closed P [.jtag, .drawn]) (s : State) (h : P s) :
    Answers P (execJtagTapReset s) := by
  unfold execJtagTapReset
  try extract_lets
  repeat' first
    | with_reducible assumption
    | with_reducible refine selectJtag_keeps (k.sub (by decide)) _ _ ?_
    | with_reducible refine answers_next ?_

theorem execMcDebugPortAccess_keeps {P : State → Prop} (k : Closed P [.jtag, .drawn]) (word : DebugWord) (s : State) (h : P s) :
    Answers P (execMcDebugPortAccess word s) := by
  unfold execMcDebugPortAccess
  try extract_lets
  repeat' first
    | with_reducible assumption
    | with_reducible refine crossWord_keeps (k.sub (by decide)) _ _ _ ?_
    | with_reducible refine answers_next ?_
    | with_reducible refine ite_answers ?_ ?_

theorem after_keeps {P : State → Prop} (s : State) (o : Host.Outcome State Fault Refusal) (h : P s) (ho : Answers P o) :
    P (after s o) := by
  cases o with
  | next t => exact ho t rfl
  | fault _ => exact h
  | refused _ => exact h

theorem beside_keeps {P : State → Prop} (k : Closed P [.regs, .fifoHolds, .hif, .drawn]) (s : State) (p : Page) (off word : ℕ)
    (other : State → State) (body : State) (ho : ∀ u, P u → P (other u)) (h : P s) (h1 : P body) :
    P (beside s p off word other body) :=
  ite_keeps h (ite_keeps h1 (ho _ (refuseWrite_keeps (k.sub (by decide)) _ _ _ _ _ h)))

theorem clearRange_keeps {P : State → Prop} (k : Closed P [.regs, .fifoHolds]) (s : State) (p : Page) (r : ℕ × ℕ) (h : P s) :
    P (clearRange s p r) := by
  unfold clearRange
  try extract_lets
  repeat' first
    | with_reducible assumption
    | with_reducible refine k.regs (by decide) ?_
    | with_reducible refine clearHold_keeps (k.sub (by decide)) _ _ ?_
    | with_reducible refine ite_keeps ?_ ?_
    | with_reducible refine foldl_keeps (fun _ _ _ => ?_) ?_

theorem clearCounters_keeps {P : State → Prop} (k : Closed P [.regs, .fifoHolds]) (s : State) (p : Page) (off : ℕ) (h : P s) :
    P (clearCounters s p off) := by
  unfold clearCounters
  try extract_lets
  repeat' first
    | with_reducible assumption
    | with_reducible refine clearRange_keeps (k.sub (by decide)) _ _ _ ?_
    | with_reducible refine foldl_keeps (fun _ _ _ => ?_) ?_
    | split

theorem setBitsOf_keeps {P : State → Prop} (k : Closed P [.regs, .fifoHolds, .hif, .drawn]) (s : State) (p : Page) (hw : ℕ) (h : P s) :
    P (setBitsOf s p hw) := by
  unfold setBitsOf
  try extract_lets
  repeat' first
    | with_reducible assumption
    | with_reducible refine setSticky_keeps (k.sub (by decide)) _ _ _ ?_
    | with_reducible refine foldl_keeps (fun _ _ _ => ?_) ?_

theorem clearSticky_keeps {P : State → Prop} (k : Closed P [.regs, .fifoHolds, .hif, .drawn]) (s : State) (p : Page) (value : ℕ) (hw : ℕ) (h : P s) :
    P (clearSticky s p value hw) := by
  unfold clearSticky
  try extract_lets
  repeat' first
    | with_reducible assumption
    | with_reducible refine k.regs (by decide) ?_
    | with_reducible refine setBitsOf_keeps (k.sub (by decide)) _ _ _ ?_

theorem countEvent_keeps {P : State → Prop} (k : Closed P [.regs, .fifoHolds]) (s : State) (p : Page) (off : ℕ) (h : P s) :
    P (countEvent s p off) := by
  unfold countEvent
  try extract_lets
  repeat' first
    | with_reducible assumption
    | with_reducible refine bump_keeps (k.sub (by decide)) _ _ _ ?_
    | with_reducible refine countHold_keeps (k.sub (by decide)) _ _ _ ?_
    | with_reducible refine ite_keeps ?_ ?_
    | extract_lets
    | split

theorem countEvents_keeps {P : State → Prop} (k : Closed P [.regs, .fifoHolds]) (s : State) (p : Page) (events : List (BitVec 12)) (h : P s) :
    P (countEvents s p events) := by
  unfold countEvents
  try extract_lets
  repeat' first
    | with_reducible assumption
    | with_reducible refine countEvent_keeps (k.sub (by decide)) _ _ _ ?_
    | with_reducible refine foldl_keeps (fun _ _ _ => ?_) ?_

theorem writeEnable_keeps {P : State → Prop} (k : Closed P [.regs, .fifoHolds, .hif, .drawn]) (s : State) (p : Page) (enable : Bool) (hw : ℕ) (h : P s) :
    P (writeEnable s p enable hw) := by
  unfold writeEnable
  try extract_lets
  repeat' first
    | with_reducible assumption
    | with_reducible refine k.regs (by decide) ?_
    | with_reducible refine setBitsOf_keeps (k.sub (by decide)) _ _ _ ?_

theorem execControlEnableWrite_keeps {P : State → Prop} (k : Closed P [.regs, .fifoHolds, .hif, .drawn]) (page : Page) (enable : Bool) (hw : BitVec 32) (s : State) (h : P s) :
    Answers P (execControlEnableWrite page enable hw s) := by
  unfold execControlEnableWrite
  try extract_lets
  repeat' first
    | with_reducible assumption
    | with_reducible refine writeEnable_keeps (k.sub (by decide)) _ _ _ _ ?_
    | with_reducible refine setBitsOf_keeps (k.sub (by decide)) _ _ _ ?_
    | with_reducible refine beside_keeps (k.sub (by decide)) _ _ _ _ _ _ (fun _ _ => ?_) ?_ ?_
    | with_reducible refine answers_next ?_

theorem execCounterClear_keeps {P : State → Prop} (k : Closed P [.regs, .fifoHolds, .hif, .drawn]) (page : Page) (off : BitVec 12) (events : List (BitVec 12)) (s : State) (h : P s) :
    Answers P (execCounterClear page off events s) := by
  unfold execCounterClear
  try extract_lets
  repeat' first
    | with_reducible assumption
    | with_reducible refine clearCounters_keeps (k.sub (by decide)) _ _ _ ?_
    | with_reducible refine countEvents_keeps (k.sub (by decide)) _ _ _ ?_
    | with_reducible refine beside_keeps (k.sub (by decide)) _ _ _ _ _ _ (fun _ _ => ?_) ?_ ?_
    | with_reducible refine answers_next ?_

theorem latchAgain_keeps {P : State → Prop} (k : Closed P [.regs]) (s : State) (p : Page) (f : Fld) (hw : Bool) (h : P s) :
    P (latchAgain s p f hw) := by
  unfold latchAgain
  try extract_lets
  repeat' first
    | with_reducible assumption
    | with_reducible refine k.regs (by decide) ?_
    | with_reducible refine ite_keeps ?_ ?_

theorem execFaultLatchRelease_keeps {P : State → Prop} (k : Closed P [.regs, .fifoHolds, .hif, .drawn]) (latch : LatchRelease) (s : State) (h : P s) :
    Answers P (execFaultLatchRelease latch s) := by
  unfold execFaultLatchRelease
  try extract_lets
  repeat' first
    | with_reducible assumption
    | with_reducible refine k.regs (by decide) ?_
    | with_reducible refine latchAgain_keeps (k.sub (by decide)) _ _ _ _ ?_
    | with_reducible refine beside_keeps (k.sub (by decide)) _ _ _ _ _ _ (fun _ _ => ?_) ?_ ?_
    | with_reducible refine answers_next ?_
    | split

theorem readHigh_keeps {P : State → Prop} (k : Closed P [.latches]) (s : State) (path : Path) (p : Page) (f : Fld) (v : ℕ) (h : P s) :
    P (readHigh s path p f v).1 := by
  unfold readHigh
  try extract_lets
  repeat' first
    | with_reducible assumption
    | with_reducible refine k.latches (by decide) ?_
    | rw [withLatches_eq]
    | split

theorem execPairHighRead_keeps {P : State → Prop} (k : Closed P [.latches, .readWord]) (path : Path) (page : Page) (off : BitVec 12) (s : State) (h : P s) :
    Answers P (execPairHighRead path page off s) := by
  unfold execPairHighRead
  try extract_lets
  repeat' first
    | with_reducible assumption
    | with_reducible refine returnRead_keeps (k.sub (by decide)) _ _ _ ?_
    | with_reducible refine readHigh_keeps (k.sub (by decide)) _ _ _ _ _ ?_
    | with_reducible refine answers_next ?_
    | with_reducible refine ite_answers ?_ ?_
    | extract_lets
    | split

theorem writeHigh_keeps {P : State → Prop} (k : Closed P [.regs, .staging, .fifoHolds, .hif, .drawn]) (s : State) (path : Path) (p : Page) (off : ℕ) (v : ℕ) (h : P s) :
    P (writeHigh s path p off v) := by
  unfold writeHigh
  try extract_lets
  repeat' first
    | with_reducible assumption
    | with_reducible refine execMapWrite_keeps (k.sub (by decide)) _ _ _ ?_
    | with_reducible refine k.regs (by decide) ?_
    | with_reducible refine commitPair_keeps (k.sub (by decide)) _ _ _ _ _ ?_
    | with_reducible refine execListPtrWrite_keeps (k.sub (by decide)) _ _ _ _ ?_
    | with_reducible refine after_keeps _ _ ?_ ?_
    | with_reducible refine ite_keeps ?_ ?_
    | extract_lets
    | split

theorem execPairHighWrite_keeps {P : State → Prop} (k : Closed P [.regs, .staging, .fifoHolds, .hif, .drawn]) (path : Path) (page : Page) (off : BitVec 12) (value : BitVec 32) (s : State) (h : P s) :
    Answers P (execPairHighWrite path page off value s) := by
  unfold execPairHighWrite
  try extract_lets
  repeat' first
    | with_reducible assumption
    | with_reducible refine writeHigh_keeps (k.sub (by decide)) _ _ _ _ _ ?_
    | with_reducible refine ifPermitted_keeps (k.sub (by decide)) _ _ _ _ _ _ ?_ ?_
    | with_reducible refine answers_next ?_
    | with_reducible refine ite_answers ?_ ?_

theorem readLow_keeps {P : State → Prop} (k : Closed P [.latches]) (s : State) (path : Path) (p : Page) (f : Fld) (v : ℕ) (h : P s) :
    P (readLow s path p f v).1 := by
  unfold readLow
  try extract_lets
  repeat' first
    | with_reducible assumption
    | with_reducible refine k.latches (by decide) ?_
    | rw [withLatches_eq]

theorem execPairLowRead_keeps {P : State → Prop} (k : Closed P [.latches, .readWord]) (path : Path) (page : Page) (off : BitVec 12) (s : State) (h : P s) :
    Answers P (execPairLowRead path page off s) := by
  unfold execPairLowRead
  try extract_lets
  repeat' first
    | with_reducible assumption
    | with_reducible refine returnRead_keeps (k.sub (by decide)) _ _ _ ?_
    | with_reducible refine readLow_keeps (k.sub (by decide)) _ _ _ _ _ ?_
    | with_reducible refine answers_next ?_
    | split

theorem writeLow_keeps {P : State → Prop} (k : Closed P [.staging]) (s : State) (path : Path) (p : Page) (off : ℕ) (v : ℕ) (h : P s) :
    P (writeLow s path p off v) := by
  unfold writeLow
  try extract_lets
  repeat' first
    | with_reducible assumption
    | with_reducible refine stageLow_keeps (k.sub (by decide)) _ _ _ _ _ ?_
    | split

theorem execPairLowWrite_keeps {P : State → Prop} (k : Closed P [.regs, .staging, .fifoHolds, .hif, .drawn]) (path : Path) (page : Page) (off : BitVec 12) (value : BitVec 32) (s : State) (h : P s) :
    Answers P (execPairLowWrite path page off value s) := by
  unfold execPairLowWrite
  try extract_lets
  repeat' first
    | with_reducible assumption
    | with_reducible refine writeLow_keeps (k.sub (by decide)) _ _ _ _ _ ?_
    | with_reducible refine ifPermitted_keeps (k.sub (by decide)) _ _ _ _ _ _ ?_ ?_
    | with_reducible refine answers_next ?_

theorem readClear_keeps {P : State → Prop} (k : Closed P [.regs]) (s : State) (p : Page) (off : ℕ) (event : Bool) (h : P s) :
    P (readClear s p off event).1 := by
  unfold readClear
  try extract_lets
  repeat' first
    | with_reducible assumption
    | with_reducible refine k.regs (by decide) ?_
    | with_reducible refine foldl_keeps (fun _ _ _ => ?_) ?_

theorem execRcFieldRead_keeps {P : State → Prop} (k : Closed P [.regs, .readWord]) (path : Path) (page : Page) (off : BitVec 12) (event : Bool) (s : State) (h : P s) :
    Answers P (execRcFieldRead path page off event s) := by
  unfold execRcFieldRead
  try extract_lets
  repeat' first
    | with_reducible assumption
    | with_reducible refine returnRead_keeps (k.sub (by decide)) _ _ _ ?_
    | with_reducible refine readClear_keeps (k.sub (by decide)) _ _ _ _ ?_
    | with_reducible refine answers_next ?_

theorem readData_keeps {P : State → Prop} (k : Closed P [.regs]) (s : State) (p : Page) (h : P s) :
    P (readData s p).1 := by
  unfold readData
  try extract_lets
  repeat' first
    | with_reducible assumption
    | with_reducible refine k.regs (by decide) ?_
    | with_reducible refine ite_keeps ?_ ?_

theorem execReadbackDataRead_keeps {P : State → Prop} (k : Closed P [.regs, .readWord]) (path : Path) (page : Page) (s : State) (h : P s) :
    Answers P (execReadbackDataRead path page s) := by
  unfold execReadbackDataRead
  try extract_lets
  repeat' first
    | with_reducible assumption
    | with_reducible refine returnRead_keeps (k.sub (by decide)) _ _ _ ?_
    | with_reducible refine readData_keeps (k.sub (by decide)) _ _ ?_
    | with_reducible refine answers_next ?_

theorem readPlain_keeps {P : State → Prop} (k : Closed P [.regs, .drawn]) (s : State) (p : Page) (off : ℕ) (h : P s) :
    P (readPlain s p off).1 := by
  unfold readPlain
  try extract_lets
  repeat' first
    | with_reducible assumption
    | with_reducible refine readClear_keeps (k.sub (by decide)) _ _ _ _ ?_
    | with_reducible refine ite_keeps ?_ ?_
    | extract_lets
    | with_reducible refine k.drawn (by decide) ?_
    | rw [withDrawn_eq]

theorem readReg_keeps {P : State → Prop} (k : Closed P [.regs, .latches, .fifoHolds, .galleries, .hif, .mc, .drawn]) (s : State) (path : Path) (p : Page) (off : ℕ) (h : P s) :
    P (readReg s path p off).1 := by
  unfold readReg
  try extract_lets
  repeat' first
    | with_reducible assumption
    | with_reducible refine readPlain_keeps (k.sub (by decide)) _ _ _ ?_
    | with_reducible refine readHigh_keeps (k.sub (by decide)) _ _ _ _ _ ?_
    | with_reducible refine readLow_keeps (k.sub (by decide)) _ _ _ _ _ ?_
    | with_reducible refine readWindow_keeps (k.sub (by decide)) _ _ _ _ _ ?_
    | with_reducible refine readData_keeps (k.sub (by decide)) _ _ ?_
    | with_reducible refine ite_fst_keeps ?_ ?_
    | extract_lets
    | split

theorem readSpace_keeps {P : State → Prop} (k : Closed P [.regs, .latches, .fifoHolds, .galleries, .hif, .mc, .drawn]) (s : State) (path : Path) (a : ℕ) (h : P s) :
    P (readSpace s path a).1 := by
  unfold readSpace
  try extract_lets
  repeat' first
    | with_reducible assumption
    | with_reducible refine readReg_keeps (k.sub (by decide)) _ _ _ _ ?_
    | split

theorem execRegRd_keeps {P : State → Prop} (k : Closed P [.regs, .latches, .readWord, .fifoHolds, .galleries, .hif, .mc, .drawn]) (tag : BitVec 10) (addr : BitVec 64) (len : ℕ) (s : State) (h : P s) :
    Answers P (execRegRd tag addr len s) := by
  unfold execRegRd
  try extract_lets
  repeat' first
    | with_reducible assumption
    | with_reducible refine returnRead_keeps (k.sub (by decide)) _ _ _ ?_
    | with_reducible refine complete_keeps (k.sub (by decide)) _ _ _ _ _ ?_
    | with_reducible refine readSpace_keeps (k.sub (by decide)) _ _ _ ?_
    | with_reducible refine hostRequest_keeps (k.sub (by decide)) _ _ _ _ _ (fun _ _ => ?_) ?_
    | with_reducible refine answers_next ?_
    | with_reducible refine ite_answers ?_ ?_
    | with_reducible refine ite_keeps ?_ ?_

theorem writeSebCmd_keeps {P : State → Prop} (k : Closed P [.regs, .fifoHolds, .sector, .codes, .stairs, .drams, .hif, .fc, .mc, .seb, .drawn, .reset, .restore]) (s : State) (path : Path) (word : ℕ) (h : P s) :
    P (writeSebCmd s path word) := by
  unfold writeSebCmd
  try extract_lets
  repeat' first
    | with_reducible assumption
    | with_reducible refine stateErr_keeps (k.sub (by decide)) _ _ ?_
    | with_reducible refine execWriteCert_keeps (k.sub (by decide)) _ ?_
    | with_reducible refine execEraseRecord_keeps (k.sub (by decide)) _ ?_
    | with_reducible refine execCommitSvn_keeps (k.sub (by decide)) _ ?_
    | with_reducible refine execTransition_keeps (k.sub (by decide)) _ _ _ ?_
    | with_reducible refine execAttest_keeps (k.sub (by decide)) _ ?_
    | with_reducible refine execChallenge_keeps (k.sub (by decide)) _ ?_
    | with_reducible refine after_keeps _ _ ?_ ?_
    | split

theorem writeFwCmd_keeps {P : State → Prop} (k : Closed P [.regs, .fifoHolds, .sector, .codes, .drams, .hif, .fc, .mc, .drawn]) (s : State) (word : ℕ) (h : P s) :
    P (writeFwCmd s word) := by
  unfold writeFwCmd
  try extract_lets
  repeat' first
    | with_reducible assumption
    | with_reducible refine execRevert_keeps (k.sub (by decide)) _ ?_
    | with_reducible refine execSwitch_keeps (k.sub (by decide)) _ ?_
    | with_reducible refine execLoad_keeps (k.sub (by decide)) _ ?_
    | with_reducible refine after_keeps _ _ ?_ ?_
    | split

theorem writeField_keeps {P : State → Prop} (k : Closed P [.regs]) (s : State) (p : Page) (f : Fld) (a : Acc) (word : ℕ) (h : P s) :
    P (writeField s p f a word) := by
  unfold writeField
  try extract_lets
  repeat' first
    | with_reducible assumption
    | with_reducible refine k.regs (by decide) ?_
    | split

theorem writeFieldsAt_keeps {P : State → Prop} (k : Closed P [.regs]) (s : State) (p : Page) (off : ℕ) (word : ℕ) (h : P s) :
    P (writeFieldsAt s p off word) := by
  unfold writeFieldsAt
  try extract_lets
  repeat' first
    | with_reducible assumption
    | with_reducible refine writeField_keeps (k.sub (by decide)) _ _ _ _ _ ?_
    | with_reducible refine foldl_keeps (fun _ _ _ => ?_) ?_

theorem writePlain_keeps {P : State → Prop} (k : Closed P [.regs]) (s : State) (p : Page) (off : ℕ) (word : ℕ) (h : P s) :
    P (writePlain s p off word) := by
  unfold writePlain
  try extract_lets
  repeat' first
    | with_reducible assumption
    | with_reducible refine writeFieldsAt_keeps (k.sub (by decide)) _ _ _ _ ?_
    | with_reducible refine stateErr_keeps (k.sub (by decide)) _ _ ?_
    | with_reducible refine ite_keeps ?_ ?_

theorem writeGroupCmd_keeps {P : State → Prop} (k : Closed P [.regs, .fifoHolds, .galleries, .hif, .drawn]) (s : State) (hh : Fin 16) (g : Fin 17) (word : ℕ) (h : P s) :
    P (writeGroupCmd s hh g word) := by
  unfold writeGroupCmd
  try extract_lets
  repeat' first
    | with_reducible assumption
    | with_reducible refine stateErr_keeps (k.sub (by decide)) _ _ ?_
    | with_reducible refine execGroupCmdClose_keeps (k.sub (by decide)) _ _ _ _ ?_
    | with_reducible refine after_keeps _ _ ?_ ?_
    | split

theorem writeMemOp_keeps {P : State → Prop} (k : Closed P [.regs, .fifoHolds, .galleries, .hif, .fc, .mc, .drawn]) (s : State) (hh : Fin 16) (g : Fin 17) (word : ℕ) (h : P s) :
    P (writeMemOp s hh g word) := by
  unfold writeMemOp
  try extract_lets
  repeat' first
    | with_reducible assumption
    | with_reducible refine k.regs (by decide) ?_
    | with_reducible refine setSticky_keeps (k.sub (by decide)) _ _ _ ?_
    | with_reducible refine stateErr_keeps (k.sub (by decide)) _ _ ?_
    | with_reducible refine execMemOpCopy_keeps (k.sub (by decide)) _ _ _ _ ?_
    | with_reducible refine execMemOpFill_keeps (k.sub (by decide)) _ _ _ _ ?_
    | with_reducible refine after_keeps _ _ ?_ ?_
    | with_reducible refine ite_keeps ?_ ?_
    | split

theorem writeGalleryCmd_keeps {P : State → Prop} (k : Closed P [.regs, .fifoHolds, .stairs, .disp, .galleries, .dressers, .hif, .mc, .drawn]) (s : State) (hh : Fin 16) (word : ℕ) (h : P s) :
    P (writeGalleryCmd s hh word) := by
  unfold writeGalleryCmd
  try extract_lets
  repeat' first
    | with_reducible assumption
    | with_reducible refine execGalleryResume_keeps (k.sub (by decide)) _ _ _ ?_
    | with_reducible refine execSwap_keeps (k.sub (by decide)) _ _ _ _ ?_
    | with_reducible refine execAbandon_keeps (k.sub (by decide)) _ _ _ ?_
    | with_reducible refine execDrain_keeps (k.sub (by decide)) _ _ _ ?_
    | with_reducible refine after_keeps _ _ ?_ ?_
    | with_reducible refine hallErr_keeps (k.sub (by decide)) _ _ ?_
    | with_reducible refine ite_keeps ?_ ?_
    | extract_lets
    | split
    | dsimp +zetaDelta only

theorem writeHallCmd_keeps {P : State → Prop} (k : Closed P [.regs, .fifoHolds, .galleries, .hif, .drawn]) (s : State) (hh : Fin 16) (word : ℕ) (h : P s) :
    P (writeHallCmd s hh word) := by
  unfold writeHallCmd
  try extract_lets
  repeat' first
    | with_reducible assumption
    | with_reducible refine hallErr_keeps (k.sub (by decide)) _ _ ?_
    | with_reducible refine execHallRetire_keeps (k.sub (by decide)) _ _ ?_
    | with_reducible refine after_keeps _ _ ?_ ?_
    | split

theorem writeSwCmd_keeps {P : State → Prop} (k : Closed P [.regs, .fifoHolds, .sector, .codes, .stairs, .disp, .galleries, .dressers, .caches, .drams, .links, .hif, .fc, .drawn]) (s : State) (i : Fin 16) (word : ℕ) (h : P s) :
    P (writeSwCmd s i word) := by
  unfold writeSwCmd
  try extract_lets
  repeat' first
    | with_reducible assumption
    | with_reducible refine execResume_keeps (k.sub (by decide)) _ _ ?_
    | with_reducible refine execKill_keeps (k.sub (by decide)) _ _ ?_
    | with_reducible refine execKillWithScrub_keeps (k.sub (by decide)) _ _ ?_
    | with_reducible refine execStart_keeps (k.sub (by decide)) _ _ ?_
    | with_reducible refine after_keeps _ _ ?_ ?_
    | extract_lets
    | split

theorem writeMcPower_keeps {P : State → Prop} (k : Closed P [.regs, .fifoHolds, .hif, .mc, .drawn]) (s : State) (off : ℕ) (word : ℕ) (h : P s) :
    P (writeMcPower s off word) := by
  unfold writeMcPower
  try extract_lets
  repeat' first
    | with_reducible assumption
    | with_reducible refine execCalNow_keeps (k.sub (by decide)) _ ?_
    | with_reducible refine execMcConfigWrite_keeps (k.sub (by decide)) _ _ _ ?_
    | with_reducible refine after_keeps _ _ ?_ ?_
    | with_reducible refine ite_keeps ?_ ?_

theorem writeOwn_keeps {P : State → Prop} (k : Closed P [.regs, .fifoHolds, .sector, .codes, .stairs, .disp, .galleries, .dressers, .caches, .drams, .links, .hif, .fc, .mc, .seb, .drawn, .reset, .restore]) (s : State) (path : Path) (p : Page) (off : ℕ) (word : ℕ) (h : P s) :
    P (writeOwn s path p off word) := by
  unfold writeOwn
  try extract_lets
  repeat' first
    | with_reducible assumption
    | with_reducible refine execHostReset_keeps (k.sub (by decide)) _ _ ?_
    | with_reducible refine writeSebCmd_keeps (k.sub (by decide)) _ _ _ ?_
    | with_reducible refine writeFwCmd_keeps (k.sub (by decide)) _ _ ?_
    | with_reducible refine execClearTable_keeps (k.sub (by decide)) _ _ ?_
    | with_reducible refine execHifRetrain_keeps (k.sub (by decide)) _ ?_
    | with_reducible refine execLinkRetrain_keeps (k.sub (by decide)) _ _ ?_
    | with_reducible refine writePlain_keeps (k.sub (by decide)) _ _ _ _ ?_
    | with_reducible refine writeGroupCmd_keeps (k.sub (by decide)) _ _ _ _ ?_
    | with_reducible refine writeMemOp_keeps (k.sub (by decide)) _ _ _ _ ?_
    | with_reducible refine execActSplitWrite_keeps (k.sub (by decide)) _ _ _ _ ?_
    | with_reducible refine execDieRetire_keeps (k.sub (by decide)) _ _ _ ?_
    | with_reducible refine execWayDisableWrite_keeps (k.sub (by decide)) _ _ _ ?_
    | with_reducible refine after_keeps _ _ ?_ ?_
    | with_reducible refine writeGalleryCmd_keeps (k.sub (by decide)) _ _ _ ?_
    | with_reducible refine writeHallCmd_keeps (k.sub (by decide)) _ _ _ ?_
    | with_reducible refine writeSwCmd_keeps (k.sub (by decide)) _ _ _ ?_
    | with_reducible refine writeMcPower_keeps (k.sub (by decide)) _ _ _ ?_
    | with_reducible refine ite_keeps ?_ ?_
    | split

theorem writeMask_keeps {P : State → Prop} (k : Closed P [.regs, .fifoHolds, .hif, .drawn]) (s : State) (p : Page) (value : ℕ) (hw : ℕ) (h : P s) :
    P (writeMask s p value hw) := by
  unfold writeMask
  try extract_lets
  repeat' first
    | with_reducible assumption
    | with_reducible refine k.regs (by decide) ?_
    | with_reducible refine setBitsOf_keeps (k.sub (by decide)) _ _ _ ?_

theorem writeGalleryControl_keeps {P : State → Prop} (k : Closed P [.regs, .fifoHolds, .galleries, .hif, .drawn]) (s : State) (hh : Fin 16) (g : Fin 17) (word : ℕ) (h : P s) :
    P (writeGalleryControl s hh g word) := by
  unfold writeGalleryControl
  try extract_lets
  repeat' first
    | with_reducible assumption
    | with_reducible refine execGalleryScrub_keeps (k.sub (by decide)) _ _ _ ?_
    | with_reducible refine execQuiesceClear_keeps (k.sub (by decide)) _ _ _ ?_
    | with_reducible refine execQuiesceSet_keeps (k.sub (by decide)) _ _ _ ?_
    | with_reducible refine after_keeps _ _ ?_ ?_
    | with_reducible refine ite_keeps ?_ ?_

theorem writeControl_keeps {P : State → Prop} (k : Closed P [.regs, .fifoHolds, .galleries, .hif, .drawn]) (s : State) (p : Page) (word : ℕ) (h : P s) :
    P (writeControl s p word) := by
  unfold writeControl
  try extract_lets
  repeat' first
    | with_reducible assumption
    | with_reducible refine writeGalleryControl_keeps (k.sub (by decide)) _ _ _ _ ?_
    | with_reducible refine writeEnable_keeps (k.sub (by decide)) _ _ _ _ ?_
    | split

theorem writeWord_keeps {P : State → Prop} (k : Closed P [.regs, .staging, .fifoHolds, .sector, .codes, .stairs, .disp, .galleries, .dressers, .caches, .drams, .links, .hif, .fc, .mc, .seb, .drawn, .reset, .restore]) (s : State) (path : Path) (p : Page) (off : ℕ) (word : ℕ) (h : P s) :
    P (writeWord s path p off word) := by
  unfold writeWord
  try extract_lets
  repeat' first
    | with_reducible assumption
    | with_reducible refine clearCounters_keeps (k.sub (by decide)) _ _ _ ?_
    | with_reducible refine writeOwn_keeps (k.sub (by decide)) _ _ _ _ _ ?_
    | with_reducible refine writeHigh_keeps (k.sub (by decide)) _ _ _ _ _ ?_
    | with_reducible refine writeLow_keeps (k.sub (by decide)) _ _ _ _ _ ?_
    | with_reducible refine writeVecCtrl_keeps (k.sub (by decide)) _ _ _ ?_
    | with_reducible refine execWinWordWrite_keeps (k.sub (by decide)) _ _ _ _ _ ?_
    | with_reducible refine after_keeps _ _ ?_ ?_
    | with_reducible refine writeFieldsAt_keeps (k.sub (by decide)) _ _ _ _ ?_
    | with_reducible refine writeMask_keeps (k.sub (by decide)) _ _ _ _ ?_
    | with_reducible refine clearSticky_keeps (k.sub (by decide)) _ _ _ _ ?_
    | with_reducible refine writeControl_keeps (k.sub (by decide)) _ _ _ ?_
    | with_reducible refine ite_keeps ?_ ?_
    | extract_lets
    | split

theorem writeReg_keeps {P : State → Prop} (k : Closed P [.regs, .staging, .fifoHolds, .sector, .codes, .stairs, .disp, .galleries, .dressers, .caches, .drams, .links, .hif, .fc, .mc, .seb, .drawn, .reset, .restore]) (s : State) (path : Path) (p : Page) (off : ℕ) (word : ℕ) (h : P s) :
    P (writeReg s path p off word).1 := by
  unfold writeReg
  try extract_lets
  repeat' first
    | with_reducible assumption
    | with_reducible refine refuseWrite_keeps (k.sub (by decide)) _ _ _ _ _ ?_
    | with_reducible refine writeWord_keeps (k.sub (by decide)) _ _ _ _ _ ?_
    | with_reducible refine ite_fst_keeps ?_ ?_

theorem writeSpace_keeps {P : State → Prop} (k : Closed P [.regs, .staging, .fifoHolds, .sector, .codes, .stairs, .disp, .galleries, .dressers, .caches, .drams, .links, .hif, .fc, .mc, .seb, .drawn, .reset, .restore]) (s : State) (path : Path) (a : ℕ) (word : ℕ) (h : P s) :
    P (writeSpace s path a word).1 := by
  unfold writeSpace
  try extract_lets
  repeat' first
    | with_reducible assumption
    | with_reducible refine writeReg_keeps (k.sub (by decide)) _ _ _ _ _ ?_
    | split

theorem execRegWr_keeps {P : State → Prop} (k : Closed P [.regs, .staging, .fifoHolds, .sector, .codes, .stairs, .disp, .galleries, .dressers, .caches, .drams, .links, .hif, .fc, .mc, .seb, .drawn, .reset, .restore]) (tag : BitVec 10) (addr : BitVec 64) (len : ℕ) (value : BitVec 32) (s : State) (h : P s) :
    Answers P (execRegWr tag addr len value s) := by
  unfold execRegWr
  try extract_lets
  repeat' first
    | with_reducible assumption
    | with_reducible refine complete_keeps (k.sub (by decide)) _ _ _ _ _ ?_
    | with_reducible refine writeSpace_keeps (k.sub (by decide)) _ _ _ _ ?_
    | with_reducible refine hostRequest_keeps (k.sub (by decide)) _ _ _ _ _ (fun _ _ => ?_) ?_
    | with_reducible refine answers_next ?_
    | with_reducible refine ite_answers ?_ ?_
    | with_reducible refine ite_keeps ?_ ?_

theorem readAlso_keeps {P : State → Prop} (k : Closed P [.regs, .latches, .readWord, .fifoHolds, .galleries, .hif, .mc, .drawn]) (s : State) (p : Page) (reading : Path × BitVec 12) (h : P s) :
    P (readAlso s p reading) := by
  unfold readAlso
  try extract_lets
  repeat' first
    | with_reducible assumption
    | with_reducible refine returnRead_keeps (k.sub (by decide)) _ _ _ ?_
    | with_reducible refine readReg_keeps (k.sub (by decide)) _ _ _ _ ?_

theorem hwSets_keeps {P : State → Prop} (k : Closed P [.regs, .fifoHolds, .hif, .drawn]) (s : State) (p : Page) (off : ℕ) (hw : ℕ) (h : P s) :
    P (hwSets s p off hw) := by
  unfold hwSets
  try extract_lets
  repeat' first
    | with_reducible assumption
    | with_reducible refine k.regs (by decide) ?_
    | with_reducible refine setBitsOf_keeps (k.sub (by decide)) _ _ _ ?_
    | with_reducible refine ite_keeps ?_ ?_
    | with_reducible refine foldl_keeps (fun _ _ _ => ?_) ?_

theorem writeBeside_keeps {P : State → Prop} (k : Closed P [.regs, .staging, .fifoHolds, .sector, .codes, .stairs, .disp, .galleries, .dressers, .caches, .drams, .links, .hif, .fc, .mc, .seb, .drawn, .reset, .restore]) (s : State) (path : Path) (p : Page) (off : ℕ) (word : ℕ) (hw : ℕ) (h : P s) :
    P (writeBeside s path p off word hw) := by
  unfold writeBeside
  try extract_lets
  repeat' first
    | with_reducible assumption
    | with_reducible refine writeReg_keeps (k.sub (by decide)) _ _ _ _ _ ?_
    | with_reducible refine hwSets_keeps (k.sub (by decide)) _ _ _ _ ?_

theorem execRegisterWrite_keeps {P : State → Prop} (k : Closed P [.regs, .latches, .staging, .readWord, .fifoHolds, .sector, .codes, .stairs, .disp, .galleries, .dressers, .caches, .drams, .links, .hif, .fc, .mc, .seb, .drawn, .reset, .restore]) (path : Path) (page : Page) (off : BitVec 12) (value : WordWrite) (s : State) (h : P s) :
    Answers P (execRegisterWrite path page off value s) := by
  unfold execRegisterWrite
  try extract_lets
  repeat' first
    | with_reducible assumption
    | with_reducible refine readAlso_keeps (k.sub (by decide)) _ _ _ ?_
    | with_reducible refine writeBeside_keeps (k.sub (by decide)) _ _ _ _ _ _ ?_
    | with_reducible refine answers_next ?_
    | with_reducible refine ite_answers ?_ ?_
    | with_reducible refine ite_keeps ?_ ?_
    | extract_lets
    | split

theorem failSideband_keeps {P : State → Prop} (k : Closed P [.hif]) (s : State) (h : P s) :
    P (failSideband s) := by
  unfold failSideband
  try extract_lets
  repeat' first
    | with_reducible assumption
    | with_reducible refine ite_keeps ?_ ?_
    | extract_lets
    | with_reducible refine k.hif (by decide) ?_
    | rw [withHif_eq]

theorem execSidebandFailover_keeps {P : State → Prop} (k : Closed P [.hif]) (s : State) (h : P s) :
    Answers P (execSidebandFailover s) := by
  unfold execSidebandFailover
  try extract_lets
  repeat' first
    | with_reducible assumption
    | with_reducible refine failSideband_keeps (k.sub (by decide)) _ ?_
    | with_reducible refine answers_next ?_

theorem reply_keeps {P : State → Prop} (k : Closed P [.hif]) (s : State) (r : SidebandReply) (h : P s) :
    P (reply s r) := by
  unfold reply
  try extract_lets
  repeat' first
    | with_reducible assumption
    | with_reducible refine ite_keeps ?_ ?_
    | extract_lets
    | with_reducible refine k.hif (by decide) ?_
    | rw [withHif_eq]

theorem serveSideband_keeps {P : State → Prop} (k : Closed P [.regs, .latches, .staging, .readWord, .fifoHolds, .sector, .codes, .stairs, .disp, .galleries, .dressers, .caches, .drams, .links, .hif, .fc, .mc, .seb, .drawn, .reset, .restore]) (s : State) (addr : ℕ) (op : SidebandOp) (h : P s) :
    P (serveSideband s addr op).1 := by
  unfold serveSideband
  try extract_lets
  repeat' first
    | with_reducible assumption
    | with_reducible refine writeSpace_keeps (k.sub (by decide)) _ _ _ _ ?_
    | with_reducible refine returnRead_keeps (k.sub (by decide)) _ _ _ ?_
    | with_reducible refine readSpace_keeps (k.sub (by decide)) _ _ _ ?_
    | with_reducible refine ite_fst_keeps ?_ ?_
    | extract_lets
    | split

theorem mainbandRequest_keeps {P : State → Prop} (k : Closed P [.regs, .latches, .staging, .readWord, .fifoHolds, .sector, .codes, .stairs, .disp, .galleries, .dressers, .caches, .drams, .links, .hif, .fc, .mc, .seb, .drawn, .reset, .restore]) (s : State) (x : MainbandCall) (h : P s) :
    P (mainbandRequest s x) := by
  unfold mainbandRequest
  try extract_lets
  repeat' first
    | with_reducible assumption
    | with_reducible refine execRegRd_keeps (k.sub (by decide)) _ _ _ _ ?_
    | with_reducible refine execRegWr_keeps (k.sub (by decide)) _ _ _ _ _ ?_
    | with_reducible refine after_keeps _ _ ?_ ?_
    | split

theorem execSidebandRequest_keeps {P : State → Prop} (k : Closed P [.regs, .latches, .staging, .readWord, .fifoHolds, .sector, .codes, .stairs, .disp, .galleries, .dressers, .caches, .drams, .links, .hif, .fc, .mc, .seb, .drawn, .reset, .restore]) (addr : BitVec 64) (call : SidebandCall) (s : State) (h : P s) :
    Answers P (execSidebandRequest addr call s) := by
  unfold execSidebandRequest
  try extract_lets
  repeat' first
    | with_reducible assumption
    | with_reducible refine reply_keeps (k.sub (by decide)) _ _ ?_
    | with_reducible refine failSideband_keeps (k.sub (by decide)) _ ?_
    | with_reducible refine serveSideband_keeps (k.sub (by decide)) _ _ _ ?_
    | with_reducible refine mainbandRequest_keeps (k.sub (by decide)) _ _ ?_
    | with_reducible refine answers_next ?_
    | with_reducible refine ite_answers ?_ ?_
    | with_reducible refine ite_keeps ?_ ?_
    | extract_lets
    | split
    | dsimp +zetaDelta only

theorem execStickyClear_keeps {P : State → Prop} (k : Closed P [.regs, .fifoHolds, .hif, .drawn]) (page : Page) (value : BitVec 32) (hw : BitVec 32) (s : State) (h : P s) :
    Answers P (execStickyClear page value hw s) := by
  unfold execStickyClear
  try extract_lets
  repeat' first
    | with_reducible assumption
    | with_reducible refine clearSticky_keeps (k.sub (by decide)) _ _ _ _ ?_
    | with_reducible refine setBitsOf_keeps (k.sub (by decide)) _ _ _ ?_
    | with_reducible refine beside_keeps (k.sub (by decide)) _ _ _ _ _ _ (fun _ _ => ?_) ?_ ?_
    | with_reducible refine answers_next ?_

theorem execStickyMaskWrite_keeps {P : State → Prop} (k : Closed P [.regs, .fifoHolds, .hif, .drawn]) (page : Page) (value : BitVec 32) (hw : BitVec 32) (s : State) (h : P s) :
    Answers P (execStickyMaskWrite page value hw s) := by
  unfold execStickyMaskWrite
  try extract_lets
  repeat' first
    | with_reducible assumption
    | with_reducible refine writeMask_keeps (k.sub (by decide)) _ _ _ _ ?_
    | with_reducible refine setBitsOf_keeps (k.sub (by decide)) _ _ _ ?_
    | with_reducible refine beside_keeps (k.sub (by decide)) _ _ _ _ _ _ (fun _ _ => ?_) ?_ ?_
    | with_reducible refine answers_next ?_

theorem migrate_keeps {P : State → Prop} (k : Closed P [.regs, .fifoHolds, .sector, .codes, .drams, .hif, .fc, .mc, .drawn, .migrate]) (s : State) (hh : ℕ) (h : P s) :
    P (migrate s hh) := by
  unfold migrate
  try extract_lets
  repeat' first
    | with_reducible assumption
    | with_reducible refine copySector_keeps (k.sub (by decide)) _ _ _ ?_
    | split

theorem returnCredits_keeps {P : State → Prop} (k : Closed P [.regs, .fifoHolds, .hif, .drawn]) (s : State) (h : P s) :
    P (returnCredits s) := by
  unfold returnCredits
  try extract_lets
  repeat' first
    | with_reducible assumption
    | with_reducible refine emit_keeps (k.sub (by decide)) _ _ ?_
    | with_reducible refine ite_keeps ?_ ?_
    | extract_lets
    | with_reducible refine k.hif (by decide) ?_
    | rw [withHif_eq]

theorem tick_keeps {P : State → Prop} (k : Closed P [.regs, .fifoHolds, .sector, .codes, .drams, .hif, .fc, .mc, .drawn, .migrate]) (s : State) (h : P s) :
    P (tick s) := by
  unfold tick
  try extract_lets
  repeat' first
    | with_reducible assumption
    | with_reducible refine returnCredits_keeps (k.sub (by decide)) _ ?_
    | with_reducible refine migrate_keeps (k.sub (by decide)) _ _ ?_
    | with_reducible refine foldl_keeps (fun _ _ _ => ?_) ?_

theorem execExpiry_keeps {P : State → Prop} (k : Closed P [.regs, .fifoHolds, .sector, .codes, .stairs, .disp, .galleries, .dressers, .drams, .links, .windows, .hif, .fc, .mc, .drawn]) (x : Expiry) (s : State) (h : P s) :
    Answers P (execExpiry x s) := by
  unfold execExpiry
  try extract_lets
  repeat' first
    | with_reducible assumption
    | with_reducible refine execFwReadyTimeout_keeps (k.sub (by decide)) _ ?_
    | with_reducible refine execPowerLoopPeriod_keeps (k.sub (by decide)) _ _ ?_
    | with_reducible refine execSagWarnExit_keeps (k.sub (by decide)) _ ?_
    | with_reducible refine execSagWarnEntry_keeps (k.sub (by decide)) _ ?_
    | with_reducible refine execWindowCloseTimeout_keeps (k.sub (by decide)) _ _ ?_
    | with_reducible refine execAckTimerExpiry_keeps (k.sub (by decide)) _ _ _ ?_
    | with_reducible refine execReplayTimerExpiry_keeps (k.sub (by decide)) _ _ ?_
    | with_reducible refine execRetiredTagRelease_keeps (k.sub (by decide)) _ _ ?_
    | with_reducible refine execCplTimeout_keeps (k.sub (by decide)) _ _ ?_
    | with_reducible refine execWaitWordPollTimer_keeps (k.sub (by decide)) _ _ ?_
    | with_reducible refine execWaitTimeout_keeps (k.sub (by decide)) _ _ ?_
    | with_reducible refine execTreadWatchdogExpiry_keeps (k.sub (by decide)) _ _ _ _ ?_
    | with_reducible refine execDeadlineTimerExpiry_keeps (k.sub (by decide)) _ _ _ ?_
    | split

theorem execTimerCalibrationDone_keeps {P : State → Prop}
    (k : Closed P [.regs, .fifoHolds, .sector, .codes, .stairs, .disp, .galleries, .dressers, .drams, .links, .windows, .hif, .fc, .mc, .drawn])
    (t : Timer) (periods : ℕ) (expiring : Option Expiry) (s : State) (h : P s) :
    Answers P (execTimerCalibrationDone t periods expiring s) := by
  have hc := fun u hu => calibrate_keeps (P := P) (k.sub (by decide)) u t periods hu
  unfold execTimerCalibrationDone
  cases expiring.filter (·.timer == t) with
  | none => exact answers_next (hc s h)
  | some x =>
    have hx := execExpiry_keeps (k.sub (by decide)) x s h
    dsimp only
    generalize execExpiry x s = o at hx ⊢
    cases o with
    | next u => exact answers_next (hc u (hx u rfl))
    | fault f => exact answers_fault
    | refused r => exact hx

end Sys2Proof.Machine
end

