-- ==== Sys2Proof/Laws/State.lean ====
section
/-! SUPPORT. What each update of the state leaves as it was: one lemma per field per update, true by
unfolding, so that no later proof unfolds a record update. -/

namespace Sys2Proof.Machine

/-! ### wr -/

@[simp] theorem wr_pending (s : State) (p : Page) (f : Fld) (v : Nat) : (wr s p f v).pending = s.pending := rfl
@[simp] theorem wr_latches (s : State) (p : Page) (f : Fld) (v : Nat) : (wr s p f v).latches = s.latches := rfl
@[simp] theorem wr_staging (s : State) (p : Page) (f : Fld) (v : Nat) : (wr s p f v).staging = s.staging := rfl
@[simp] theorem wr_readWord (s : State) (p : Page) (f : Fld) (v : Nat) : (wr s p f v).readWord = s.readWord := rfl
@[simp] theorem wr_fifoHolds (s : State) (p : Page) (f : Fld) (v : Nat) : (wr s p f v).fifoHolds = s.fifoHolds := rfl
@[simp] theorem wr_dram (s : State) (p : Page) (f : Fld) (v : Nat) : (wr s p f v).dram = s.dram := rfl
@[simp] theorem wr_codes (s : State) (p : Page) (f : Fld) (v : Nat) : (wr s p f v).codes = s.codes := rfl
@[simp] theorem wr_stairs (s : State) (p : Page) (f : Fld) (v : Nat) : (wr s p f v).stairs = s.stairs := rfl
@[simp] theorem wr_disp (s : State) (p : Page) (f : Fld) (v : Nat) : (wr s p f v).disp = s.disp := rfl
@[simp] theorem wr_galleries (s : State) (p : Page) (f : Fld) (v : Nat) : (wr s p f v).galleries = s.galleries := rfl
@[simp] theorem wr_dressers (s : State) (p : Page) (f : Fld) (v : Nat) : (wr s p f v).dressers = s.dressers := rfl
@[simp] theorem wr_caches (s : State) (p : Page) (f : Fld) (v : Nat) : (wr s p f v).caches = s.caches := rfl
@[simp] theorem wr_drams (s : State) (p : Page) (f : Fld) (v : Nat) : (wr s p f v).drams = s.drams := rfl
@[simp] theorem wr_links (s : State) (p : Page) (f : Fld) (v : Nat) : (wr s p f v).links = s.links := rfl
@[simp] theorem wr_windows (s : State) (p : Page) (f : Fld) (v : Nat) : (wr s p f v).windows = s.windows := rfl
@[simp] theorem wr_hif (s : State) (p : Page) (f : Fld) (v : Nat) : (wr s p f v).hif = s.hif := rfl
@[simp] theorem wr_fc (s : State) (p : Page) (f : Fld) (v : Nat) : (wr s p f v).fc = s.fc := rfl
@[simp] theorem wr_mc (s : State) (p : Page) (f : Fld) (v : Nat) : (wr s p f v).mc = s.mc := rfl
@[simp] theorem wr_seb (s : State) (p : Page) (f : Fld) (v : Nat) : (wr s p f v).seb = s.seb := rfl
@[simp] theorem wr_rst (s : State) (p : Page) (f : Fld) (v : Nat) : (wr s p f v).rst = s.rst := rfl
@[simp] theorem wr_jtag (s : State) (p : Page) (f : Fld) (v : Nat) : (wr s p f v).jtag = s.jtag := rfl
@[simp] theorem wr_drawn (s : State) (p : Page) (f : Fld) (v : Nat) : (wr s p f v).drawn = s.drawn := rfl

/-! ### count -/

@[simp] theorem count_pending (s : State) (p : Page) (f : Fld) (n : Nat) : (count s p f n).pending = s.pending := rfl
@[simp] theorem count_latches (s : State) (p : Page) (f : Fld) (n : Nat) : (count s p f n).latches = s.latches := rfl
@[simp] theorem count_staging (s : State) (p : Page) (f : Fld) (n : Nat) : (count s p f n).staging = s.staging := rfl
@[simp] theorem count_readWord (s : State) (p : Page) (f : Fld) (n : Nat) : (count s p f n).readWord = s.readWord := rfl
@[simp] theorem count_fifoHolds (s : State) (p : Page) (f : Fld) (n : Nat) : (count s p f n).fifoHolds = s.fifoHolds := rfl
@[simp] theorem count_dram (s : State) (p : Page) (f : Fld) (n : Nat) : (count s p f n).dram = s.dram := rfl
@[simp] theorem count_codes (s : State) (p : Page) (f : Fld) (n : Nat) : (count s p f n).codes = s.codes := rfl
@[simp] theorem count_stairs (s : State) (p : Page) (f : Fld) (n : Nat) : (count s p f n).stairs = s.stairs := rfl
@[simp] theorem count_disp (s : State) (p : Page) (f : Fld) (n : Nat) : (count s p f n).disp = s.disp := rfl
@[simp] theorem count_galleries (s : State) (p : Page) (f : Fld) (n : Nat) : (count s p f n).galleries = s.galleries := rfl
@[simp] theorem count_dressers (s : State) (p : Page) (f : Fld) (n : Nat) : (count s p f n).dressers = s.dressers := rfl
@[simp] theorem count_caches (s : State) (p : Page) (f : Fld) (n : Nat) : (count s p f n).caches = s.caches := rfl
@[simp] theorem count_drams (s : State) (p : Page) (f : Fld) (n : Nat) : (count s p f n).drams = s.drams := rfl
@[simp] theorem count_links (s : State) (p : Page) (f : Fld) (n : Nat) : (count s p f n).links = s.links := rfl
@[simp] theorem count_windows (s : State) (p : Page) (f : Fld) (n : Nat) : (count s p f n).windows = s.windows := rfl
@[simp] theorem count_hif (s : State) (p : Page) (f : Fld) (n : Nat) : (count s p f n).hif = s.hif := rfl
@[simp] theorem count_fc (s : State) (p : Page) (f : Fld) (n : Nat) : (count s p f n).fc = s.fc := rfl
@[simp] theorem count_mc (s : State) (p : Page) (f : Fld) (n : Nat) : (count s p f n).mc = s.mc := rfl
@[simp] theorem count_seb (s : State) (p : Page) (f : Fld) (n : Nat) : (count s p f n).seb = s.seb := rfl
@[simp] theorem count_rst (s : State) (p : Page) (f : Fld) (n : Nat) : (count s p f n).rst = s.rst := rfl
@[simp] theorem count_jtag (s : State) (p : Page) (f : Fld) (n : Nat) : (count s p f n).jtag = s.jtag := rfl
@[simp] theorem count_drawn (s : State) (p : Page) (f : Fld) (n : Nat) : (count s p f n).drawn = s.drawn := rfl

/-! ### bump -/

@[simp] theorem bump_pending (s : State) (p : Page) (f : Fld) : (bump s p f).pending = s.pending := rfl
@[simp] theorem bump_latches (s : State) (p : Page) (f : Fld) : (bump s p f).latches = s.latches := rfl
@[simp] theorem bump_staging (s : State) (p : Page) (f : Fld) : (bump s p f).staging = s.staging := rfl
@[simp] theorem bump_readWord (s : State) (p : Page) (f : Fld) : (bump s p f).readWord = s.readWord := rfl
@[simp] theorem bump_fifoHolds (s : State) (p : Page) (f : Fld) : (bump s p f).fifoHolds = s.fifoHolds := rfl
@[simp] theorem bump_dram (s : State) (p : Page) (f : Fld) : (bump s p f).dram = s.dram := rfl
@[simp] theorem bump_codes (s : State) (p : Page) (f : Fld) : (bump s p f).codes = s.codes := rfl
@[simp] theorem bump_stairs (s : State) (p : Page) (f : Fld) : (bump s p f).stairs = s.stairs := rfl
@[simp] theorem bump_disp (s : State) (p : Page) (f : Fld) : (bump s p f).disp = s.disp := rfl
@[simp] theorem bump_galleries (s : State) (p : Page) (f : Fld) : (bump s p f).galleries = s.galleries := rfl
@[simp] theorem bump_dressers (s : State) (p : Page) (f : Fld) : (bump s p f).dressers = s.dressers := rfl
@[simp] theorem bump_caches (s : State) (p : Page) (f : Fld) : (bump s p f).caches = s.caches := rfl
@[simp] theorem bump_drams (s : State) (p : Page) (f : Fld) : (bump s p f).drams = s.drams := rfl
@[simp] theorem bump_links (s : State) (p : Page) (f : Fld) : (bump s p f).links = s.links := rfl
@[simp] theorem bump_windows (s : State) (p : Page) (f : Fld) : (bump s p f).windows = s.windows := rfl
@[simp] theorem bump_hif (s : State) (p : Page) (f : Fld) : (bump s p f).hif = s.hif := rfl
@[simp] theorem bump_fc (s : State) (p : Page) (f : Fld) : (bump s p f).fc = s.fc := rfl
@[simp] theorem bump_mc (s : State) (p : Page) (f : Fld) : (bump s p f).mc = s.mc := rfl
@[simp] theorem bump_seb (s : State) (p : Page) (f : Fld) : (bump s p f).seb = s.seb := rfl
@[simp] theorem bump_rst (s : State) (p : Page) (f : Fld) : (bump s p f).rst = s.rst := rfl
@[simp] theorem bump_jtag (s : State) (p : Page) (f : Fld) : (bump s p f).jtag = s.jtag := rfl
@[simp] theorem bump_drawn (s : State) (p : Page) (f : Fld) : (bump s p f).drawn = s.drawn := rfl

/-! ### stateErr -/

@[simp] theorem stateErr_pending (s : State) (p : Page) : (stateErr s p).pending = s.pending := rfl
@[simp] theorem stateErr_latches (s : State) (p : Page) : (stateErr s p).latches = s.latches := rfl
@[simp] theorem stateErr_staging (s : State) (p : Page) : (stateErr s p).staging = s.staging := rfl
@[simp] theorem stateErr_readWord (s : State) (p : Page) : (stateErr s p).readWord = s.readWord := rfl
@[simp] theorem stateErr_fifoHolds (s : State) (p : Page) : (stateErr s p).fifoHolds = s.fifoHolds := rfl
@[simp] theorem stateErr_dram (s : State) (p : Page) : (stateErr s p).dram = s.dram := rfl
@[simp] theorem stateErr_codes (s : State) (p : Page) : (stateErr s p).codes = s.codes := rfl
@[simp] theorem stateErr_stairs (s : State) (p : Page) : (stateErr s p).stairs = s.stairs := rfl
@[simp] theorem stateErr_disp (s : State) (p : Page) : (stateErr s p).disp = s.disp := rfl
@[simp] theorem stateErr_galleries (s : State) (p : Page) : (stateErr s p).galleries = s.galleries := rfl
@[simp] theorem stateErr_dressers (s : State) (p : Page) : (stateErr s p).dressers = s.dressers := rfl
@[simp] theorem stateErr_caches (s : State) (p : Page) : (stateErr s p).caches = s.caches := rfl
@[simp] theorem stateErr_drams (s : State) (p : Page) : (stateErr s p).drams = s.drams := rfl
@[simp] theorem stateErr_links (s : State) (p : Page) : (stateErr s p).links = s.links := rfl
@[simp] theorem stateErr_windows (s : State) (p : Page) : (stateErr s p).windows = s.windows := rfl
@[simp] theorem stateErr_hif (s : State) (p : Page) : (stateErr s p).hif = s.hif := rfl
@[simp] theorem stateErr_fc (s : State) (p : Page) : (stateErr s p).fc = s.fc := rfl
@[simp] theorem stateErr_mc (s : State) (p : Page) : (stateErr s p).mc = s.mc := rfl
@[simp] theorem stateErr_seb (s : State) (p : Page) : (stateErr s p).seb = s.seb := rfl
@[simp] theorem stateErr_rst (s : State) (p : Page) : (stateErr s p).rst = s.rst := rfl
@[simp] theorem stateErr_jtag (s : State) (p : Page) : (stateErr s p).jtag = s.jtag := rfl
@[simp] theorem stateErr_drawn (s : State) (p : Page) : (stateErr s p).drawn = s.drawn := rfl

/-! ### stageLow -/

@[simp] theorem stageLow_pending (s : State) (path : Path) (p : Page) (f : Fld) (v : Nat) : (stageLow s path p f v).pending = s.pending := rfl
@[simp] theorem stageLow_regs (s : State) (path : Path) (p : Page) (f : Fld) (v : Nat) : (stageLow s path p f v).regs = s.regs := rfl
@[simp] theorem stageLow_latches (s : State) (path : Path) (p : Page) (f : Fld) (v : Nat) : (stageLow s path p f v).latches = s.latches := rfl
@[simp] theorem stageLow_readWord (s : State) (path : Path) (p : Page) (f : Fld) (v : Nat) : (stageLow s path p f v).readWord = s.readWord := rfl
@[simp] theorem stageLow_fifoHolds (s : State) (path : Path) (p : Page) (f : Fld) (v : Nat) : (stageLow s path p f v).fifoHolds = s.fifoHolds := rfl
@[simp] theorem stageLow_dram (s : State) (path : Path) (p : Page) (f : Fld) (v : Nat) : (stageLow s path p f v).dram = s.dram := rfl
@[simp] theorem stageLow_codes (s : State) (path : Path) (p : Page) (f : Fld) (v : Nat) : (stageLow s path p f v).codes = s.codes := rfl
@[simp] theorem stageLow_stairs (s : State) (path : Path) (p : Page) (f : Fld) (v : Nat) : (stageLow s path p f v).stairs = s.stairs := rfl
@[simp] theorem stageLow_disp (s : State) (path : Path) (p : Page) (f : Fld) (v : Nat) : (stageLow s path p f v).disp = s.disp := rfl
@[simp] theorem stageLow_galleries (s : State) (path : Path) (p : Page) (f : Fld) (v : Nat) : (stageLow s path p f v).galleries = s.galleries := rfl
@[simp] theorem stageLow_dressers (s : State) (path : Path) (p : Page) (f : Fld) (v : Nat) : (stageLow s path p f v).dressers = s.dressers := rfl
@[simp] theorem stageLow_caches (s : State) (path : Path) (p : Page) (f : Fld) (v : Nat) : (stageLow s path p f v).caches = s.caches := rfl
@[simp] theorem stageLow_drams (s : State) (path : Path) (p : Page) (f : Fld) (v : Nat) : (stageLow s path p f v).drams = s.drams := rfl
@[simp] theorem stageLow_links (s : State) (path : Path) (p : Page) (f : Fld) (v : Nat) : (stageLow s path p f v).links = s.links := rfl
@[simp] theorem stageLow_windows (s : State) (path : Path) (p : Page) (f : Fld) (v : Nat) : (stageLow s path p f v).windows = s.windows := rfl
@[simp] theorem stageLow_hif (s : State) (path : Path) (p : Page) (f : Fld) (v : Nat) : (stageLow s path p f v).hif = s.hif := rfl
@[simp] theorem stageLow_fc (s : State) (path : Path) (p : Page) (f : Fld) (v : Nat) : (stageLow s path p f v).fc = s.fc := rfl
@[simp] theorem stageLow_mc (s : State) (path : Path) (p : Page) (f : Fld) (v : Nat) : (stageLow s path p f v).mc = s.mc := rfl
@[simp] theorem stageLow_seb (s : State) (path : Path) (p : Page) (f : Fld) (v : Nat) : (stageLow s path p f v).seb = s.seb := rfl
@[simp] theorem stageLow_rst (s : State) (path : Path) (p : Page) (f : Fld) (v : Nat) : (stageLow s path p f v).rst = s.rst := rfl
@[simp] theorem stageLow_jtag (s : State) (path : Path) (p : Page) (f : Fld) (v : Nat) : (stageLow s path p f v).jtag = s.jtag := rfl
@[simp] theorem stageLow_drawn (s : State) (path : Path) (p : Page) (f : Fld) (v : Nat) : (stageLow s path p f v).drawn = s.drawn := rfl

/-! ### setStair -/

@[simp] theorem setStair_pending (s : State) (i : Nat) (w : Stairwell) : (setStair s i w).pending = s.pending := rfl
@[simp] theorem setStair_regs (s : State) (i : Nat) (w : Stairwell) : (setStair s i w).regs = s.regs := rfl
@[simp] theorem setStair_latches (s : State) (i : Nat) (w : Stairwell) : (setStair s i w).latches = s.latches := rfl
@[simp] theorem setStair_staging (s : State) (i : Nat) (w : Stairwell) : (setStair s i w).staging = s.staging := rfl
@[simp] theorem setStair_readWord (s : State) (i : Nat) (w : Stairwell) : (setStair s i w).readWord = s.readWord := rfl
@[simp] theorem setStair_fifoHolds (s : State) (i : Nat) (w : Stairwell) : (setStair s i w).fifoHolds = s.fifoHolds := rfl
@[simp] theorem setStair_dram (s : State) (i : Nat) (w : Stairwell) : (setStair s i w).dram = s.dram := rfl
@[simp] theorem setStair_codes (s : State) (i : Nat) (w : Stairwell) : (setStair s i w).codes = s.codes := rfl
@[simp] theorem setStair_disp (s : State) (i : Nat) (w : Stairwell) : (setStair s i w).disp = s.disp := rfl
@[simp] theorem setStair_galleries (s : State) (i : Nat) (w : Stairwell) : (setStair s i w).galleries = s.galleries := rfl
@[simp] theorem setStair_dressers (s : State) (i : Nat) (w : Stairwell) : (setStair s i w).dressers = s.dressers := rfl
@[simp] theorem setStair_caches (s : State) (i : Nat) (w : Stairwell) : (setStair s i w).caches = s.caches := rfl
@[simp] theorem setStair_drams (s : State) (i : Nat) (w : Stairwell) : (setStair s i w).drams = s.drams := rfl
@[simp] theorem setStair_links (s : State) (i : Nat) (w : Stairwell) : (setStair s i w).links = s.links := rfl
@[simp] theorem setStair_windows (s : State) (i : Nat) (w : Stairwell) : (setStair s i w).windows = s.windows := rfl
@[simp] theorem setStair_hif (s : State) (i : Nat) (w : Stairwell) : (setStair s i w).hif = s.hif := rfl
@[simp] theorem setStair_fc (s : State) (i : Nat) (w : Stairwell) : (setStair s i w).fc = s.fc := rfl
@[simp] theorem setStair_mc (s : State) (i : Nat) (w : Stairwell) : (setStair s i w).mc = s.mc := rfl
@[simp] theorem setStair_seb (s : State) (i : Nat) (w : Stairwell) : (setStair s i w).seb = s.seb := rfl
@[simp] theorem setStair_rst (s : State) (i : Nat) (w : Stairwell) : (setStair s i w).rst = s.rst := rfl
@[simp] theorem setStair_jtag (s : State) (i : Nat) (w : Stairwell) : (setStair s i w).jtag = s.jtag := rfl
@[simp] theorem setStair_drawn (s : State) (i : Nat) (w : Stairwell) : (setStair s i w).drawn = s.drawn := rfl

/-! ### setGal -/

@[simp] theorem setGal_pending (s : State) (h g : Nat) (x : Gallery) : (setGal s h g x).pending = s.pending := rfl
@[simp] theorem setGal_regs (s : State) (h g : Nat) (x : Gallery) : (setGal s h g x).regs = s.regs := rfl
@[simp] theorem setGal_latches (s : State) (h g : Nat) (x : Gallery) : (setGal s h g x).latches = s.latches := rfl
@[simp] theorem setGal_staging (s : State) (h g : Nat) (x : Gallery) : (setGal s h g x).staging = s.staging := rfl
@[simp] theorem setGal_readWord (s : State) (h g : Nat) (x : Gallery) : (setGal s h g x).readWord = s.readWord := rfl
@[simp] theorem setGal_fifoHolds (s : State) (h g : Nat) (x : Gallery) : (setGal s h g x).fifoHolds = s.fifoHolds := rfl
@[simp] theorem setGal_dram (s : State) (h g : Nat) (x : Gallery) : (setGal s h g x).dram = s.dram := rfl
@[simp] theorem setGal_codes (s : State) (h g : Nat) (x : Gallery) : (setGal s h g x).codes = s.codes := rfl
@[simp] theorem setGal_stairs (s : State) (h g : Nat) (x : Gallery) : (setGal s h g x).stairs = s.stairs := rfl
@[simp] theorem setGal_disp (s : State) (h g : Nat) (x : Gallery) : (setGal s h g x).disp = s.disp := rfl
@[simp] theorem setGal_dressers (s : State) (h g : Nat) (x : Gallery) : (setGal s h g x).dressers = s.dressers := rfl
@[simp] theorem setGal_caches (s : State) (h g : Nat) (x : Gallery) : (setGal s h g x).caches = s.caches := rfl
@[simp] theorem setGal_drams (s : State) (h g : Nat) (x : Gallery) : (setGal s h g x).drams = s.drams := rfl
@[simp] theorem setGal_links (s : State) (h g : Nat) (x : Gallery) : (setGal s h g x).links = s.links := rfl
@[simp] theorem setGal_windows (s : State) (h g : Nat) (x : Gallery) : (setGal s h g x).windows = s.windows := rfl
@[simp] theorem setGal_hif (s : State) (h g : Nat) (x : Gallery) : (setGal s h g x).hif = s.hif := rfl
@[simp] theorem setGal_fc (s : State) (h g : Nat) (x : Gallery) : (setGal s h g x).fc = s.fc := rfl
@[simp] theorem setGal_mc (s : State) (h g : Nat) (x : Gallery) : (setGal s h g x).mc = s.mc := rfl
@[simp] theorem setGal_seb (s : State) (h g : Nat) (x : Gallery) : (setGal s h g x).seb = s.seb := rfl
@[simp] theorem setGal_rst (s : State) (h g : Nat) (x : Gallery) : (setGal s h g x).rst = s.rst := rfl
@[simp] theorem setGal_jtag (s : State) (h g : Nat) (x : Gallery) : (setGal s h g x).jtag = s.jtag := rfl
@[simp] theorem setGal_drawn (s : State) (h g : Nat) (x : Gallery) : (setGal s h g x).drawn = s.drawn := rfl

/-! ### setCache -/

@[simp] theorem setCache_pending (s : State) (h : Nat) (x : HallCache) : (setCache s h x).pending = s.pending := rfl
@[simp] theorem setCache_regs (s : State) (h : Nat) (x : HallCache) : (setCache s h x).regs = s.regs := rfl
@[simp] theorem setCache_latches (s : State) (h : Nat) (x : HallCache) : (setCache s h x).latches = s.latches := rfl
@[simp] theorem setCache_staging (s : State) (h : Nat) (x : HallCache) : (setCache s h x).staging = s.staging := rfl
@[simp] theorem setCache_readWord (s : State) (h : Nat) (x : HallCache) : (setCache s h x).readWord = s.readWord := rfl
@[simp] theorem setCache_fifoHolds (s : State) (h : Nat) (x : HallCache) : (setCache s h x).fifoHolds = s.fifoHolds := rfl
@[simp] theorem setCache_dram (s : State) (h : Nat) (x : HallCache) : (setCache s h x).dram = s.dram := rfl
@[simp] theorem setCache_codes (s : State) (h : Nat) (x : HallCache) : (setCache s h x).codes = s.codes := rfl
@[simp] theorem setCache_stairs (s : State) (h : Nat) (x : HallCache) : (setCache s h x).stairs = s.stairs := rfl
@[simp] theorem setCache_disp (s : State) (h : Nat) (x : HallCache) : (setCache s h x).disp = s.disp := rfl
@[simp] theorem setCache_galleries (s : State) (h : Nat) (x : HallCache) : (setCache s h x).galleries = s.galleries := rfl
@[simp] theorem setCache_dressers (s : State) (h : Nat) (x : HallCache) : (setCache s h x).dressers = s.dressers := rfl
@[simp] theorem setCache_drams (s : State) (h : Nat) (x : HallCache) : (setCache s h x).drams = s.drams := rfl
@[simp] theorem setCache_links (s : State) (h : Nat) (x : HallCache) : (setCache s h x).links = s.links := rfl
@[simp] theorem setCache_windows (s : State) (h : Nat) (x : HallCache) : (setCache s h x).windows = s.windows := rfl
@[simp] theorem setCache_hif (s : State) (h : Nat) (x : HallCache) : (setCache s h x).hif = s.hif := rfl
@[simp] theorem setCache_fc (s : State) (h : Nat) (x : HallCache) : (setCache s h x).fc = s.fc := rfl
@[simp] theorem setCache_mc (s : State) (h : Nat) (x : HallCache) : (setCache s h x).mc = s.mc := rfl
@[simp] theorem setCache_seb (s : State) (h : Nat) (x : HallCache) : (setCache s h x).seb = s.seb := rfl
@[simp] theorem setCache_rst (s : State) (h : Nat) (x : HallCache) : (setCache s h x).rst = s.rst := rfl
@[simp] theorem setCache_jtag (s : State) (h : Nat) (x : HallCache) : (setCache s h x).jtag = s.jtag := rfl
@[simp] theorem setCache_drawn (s : State) (h : Nat) (x : HallCache) : (setCache s h x).drawn = s.drawn := rfl

/-! ### setDram -/

@[simp] theorem setDram_pending (s : State) (h : Nat) (x : Stack) : (setDram s h x).pending = s.pending := rfl
@[simp] theorem setDram_regs (s : State) (h : Nat) (x : Stack) : (setDram s h x).regs = s.regs := rfl
@[simp] theorem setDram_latches (s : State) (h : Nat) (x : Stack) : (setDram s h x).latches = s.latches := rfl
@[simp] theorem setDram_staging (s : State) (h : Nat) (x : Stack) : (setDram s h x).staging = s.staging := rfl
@[simp] theorem setDram_readWord (s : State) (h : Nat) (x : Stack) : (setDram s h x).readWord = s.readWord := rfl
@[simp] theorem setDram_fifoHolds (s : State) (h : Nat) (x : Stack) : (setDram s h x).fifoHolds = s.fifoHolds := rfl
@[simp] theorem setDram_dram (s : State) (h : Nat) (x : Stack) : (setDram s h x).dram = s.dram := rfl
@[simp] theorem setDram_codes (s : State) (h : Nat) (x : Stack) : (setDram s h x).codes = s.codes := rfl
@[simp] theorem setDram_stairs (s : State) (h : Nat) (x : Stack) : (setDram s h x).stairs = s.stairs := rfl
@[simp] theorem setDram_disp (s : State) (h : Nat) (x : Stack) : (setDram s h x).disp = s.disp := rfl
@[simp] theorem setDram_galleries (s : State) (h : Nat) (x : Stack) : (setDram s h x).galleries = s.galleries := rfl
@[simp] theorem setDram_dressers (s : State) (h : Nat) (x : Stack) : (setDram s h x).dressers = s.dressers := rfl
@[simp] theorem setDram_caches (s : State) (h : Nat) (x : Stack) : (setDram s h x).caches = s.caches := rfl
@[simp] theorem setDram_links (s : State) (h : Nat) (x : Stack) : (setDram s h x).links = s.links := rfl
@[simp] theorem setDram_windows (s : State) (h : Nat) (x : Stack) : (setDram s h x).windows = s.windows := rfl
@[simp] theorem setDram_hif (s : State) (h : Nat) (x : Stack) : (setDram s h x).hif = s.hif := rfl
@[simp] theorem setDram_fc (s : State) (h : Nat) (x : Stack) : (setDram s h x).fc = s.fc := rfl
@[simp] theorem setDram_mc (s : State) (h : Nat) (x : Stack) : (setDram s h x).mc = s.mc := rfl
@[simp] theorem setDram_seb (s : State) (h : Nat) (x : Stack) : (setDram s h x).seb = s.seb := rfl
@[simp] theorem setDram_rst (s : State) (h : Nat) (x : Stack) : (setDram s h x).rst = s.rst := rfl
@[simp] theorem setDram_jtag (s : State) (h : Nat) (x : Stack) : (setDram s h x).jtag = s.jtag := rfl
@[simp] theorem setDram_drawn (s : State) (h : Nat) (x : Stack) : (setDram s h x).drawn = s.drawn := rfl

/-! ### setLink -/

@[simp] theorem setLink_pending (s : State) (l : Nat) (x : Link) : (setLink s l x).pending = s.pending := rfl
@[simp] theorem setLink_regs (s : State) (l : Nat) (x : Link) : (setLink s l x).regs = s.regs := rfl
@[simp] theorem setLink_latches (s : State) (l : Nat) (x : Link) : (setLink s l x).latches = s.latches := rfl
@[simp] theorem setLink_staging (s : State) (l : Nat) (x : Link) : (setLink s l x).staging = s.staging := rfl
@[simp] theorem setLink_readWord (s : State) (l : Nat) (x : Link) : (setLink s l x).readWord = s.readWord := rfl
@[simp] theorem setLink_fifoHolds (s : State) (l : Nat) (x : Link) : (setLink s l x).fifoHolds = s.fifoHolds := rfl
@[simp] theorem setLink_dram (s : State) (l : Nat) (x : Link) : (setLink s l x).dram = s.dram := rfl
@[simp] theorem setLink_codes (s : State) (l : Nat) (x : Link) : (setLink s l x).codes = s.codes := rfl
@[simp] theorem setLink_stairs (s : State) (l : Nat) (x : Link) : (setLink s l x).stairs = s.stairs := rfl
@[simp] theorem setLink_disp (s : State) (l : Nat) (x : Link) : (setLink s l x).disp = s.disp := rfl
@[simp] theorem setLink_galleries (s : State) (l : Nat) (x : Link) : (setLink s l x).galleries = s.galleries := rfl
@[simp] theorem setLink_dressers (s : State) (l : Nat) (x : Link) : (setLink s l x).dressers = s.dressers := rfl
@[simp] theorem setLink_caches (s : State) (l : Nat) (x : Link) : (setLink s l x).caches = s.caches := rfl
@[simp] theorem setLink_drams (s : State) (l : Nat) (x : Link) : (setLink s l x).drams = s.drams := rfl
@[simp] theorem setLink_windows (s : State) (l : Nat) (x : Link) : (setLink s l x).windows = s.windows := rfl
@[simp] theorem setLink_hif (s : State) (l : Nat) (x : Link) : (setLink s l x).hif = s.hif := rfl
@[simp] theorem setLink_fc (s : State) (l : Nat) (x : Link) : (setLink s l x).fc = s.fc := rfl
@[simp] theorem setLink_mc (s : State) (l : Nat) (x : Link) : (setLink s l x).mc = s.mc := rfl
@[simp] theorem setLink_seb (s : State) (l : Nat) (x : Link) : (setLink s l x).seb = s.seb := rfl
@[simp] theorem setLink_rst (s : State) (l : Nat) (x : Link) : (setLink s l x).rst = s.rst := rfl
@[simp] theorem setLink_jtag (s : State) (l : Nat) (x : Link) : (setLink s l x).jtag = s.jtag := rfl
@[simp] theorem setLink_drawn (s : State) (l : Nat) (x : Link) : (setLink s l x).drawn = s.drawn := rfl

/-! ### countHold -/

@[simp] theorem countHold_pending (s : State) (p : Page) (n : Nat) : (countHold s p n).pending = s.pending := rfl
@[simp] theorem countHold_regs (s : State) (p : Page) (n : Nat) : (countHold s p n).regs = s.regs := rfl
@[simp] theorem countHold_latches (s : State) (p : Page) (n : Nat) : (countHold s p n).latches = s.latches := rfl
@[simp] theorem countHold_staging (s : State) (p : Page) (n : Nat) : (countHold s p n).staging = s.staging := rfl
@[simp] theorem countHold_readWord (s : State) (p : Page) (n : Nat) : (countHold s p n).readWord = s.readWord := rfl
@[simp] theorem countHold_dram (s : State) (p : Page) (n : Nat) : (countHold s p n).dram = s.dram := rfl
@[simp] theorem countHold_codes (s : State) (p : Page) (n : Nat) : (countHold s p n).codes = s.codes := rfl
@[simp] theorem countHold_stairs (s : State) (p : Page) (n : Nat) : (countHold s p n).stairs = s.stairs := rfl
@[simp] theorem countHold_disp (s : State) (p : Page) (n : Nat) : (countHold s p n).disp = s.disp := rfl
@[simp] theorem countHold_galleries (s : State) (p : Page) (n : Nat) : (countHold s p n).galleries = s.galleries := rfl
@[simp] theorem countHold_dressers (s : State) (p : Page) (n : Nat) : (countHold s p n).dressers = s.dressers := rfl
@[simp] theorem countHold_caches (s : State) (p : Page) (n : Nat) : (countHold s p n).caches = s.caches := rfl
@[simp] theorem countHold_drams (s : State) (p : Page) (n : Nat) : (countHold s p n).drams = s.drams := rfl
@[simp] theorem countHold_links (s : State) (p : Page) (n : Nat) : (countHold s p n).links = s.links := rfl
@[simp] theorem countHold_windows (s : State) (p : Page) (n : Nat) : (countHold s p n).windows = s.windows := rfl
@[simp] theorem countHold_hif (s : State) (p : Page) (n : Nat) : (countHold s p n).hif = s.hif := rfl
@[simp] theorem countHold_fc (s : State) (p : Page) (n : Nat) : (countHold s p n).fc = s.fc := rfl
@[simp] theorem countHold_mc (s : State) (p : Page) (n : Nat) : (countHold s p n).mc = s.mc := rfl
@[simp] theorem countHold_seb (s : State) (p : Page) (n : Nat) : (countHold s p n).seb = s.seb := rfl
@[simp] theorem countHold_rst (s : State) (p : Page) (n : Nat) : (countHold s p n).rst = s.rst := rfl
@[simp] theorem countHold_jtag (s : State) (p : Page) (n : Nat) : (countHold s p n).jtag = s.jtag := rfl
@[simp] theorem countHold_drawn (s : State) (p : Page) (n : Nat) : (countHold s p n).drawn = s.drawn := rfl

/-! ### clearHold -/

@[simp] theorem clearHold_pending (s : State) (p : Page) : (clearHold s p).pending = s.pending := rfl
@[simp] theorem clearHold_regs (s : State) (p : Page) : (clearHold s p).regs = s.regs := rfl
@[simp] theorem clearHold_latches (s : State) (p : Page) : (clearHold s p).latches = s.latches := rfl
@[simp] theorem clearHold_staging (s : State) (p : Page) : (clearHold s p).staging = s.staging := rfl
@[simp] theorem clearHold_readWord (s : State) (p : Page) : (clearHold s p).readWord = s.readWord := rfl
@[simp] theorem clearHold_dram (s : State) (p : Page) : (clearHold s p).dram = s.dram := rfl
@[simp] theorem clearHold_codes (s : State) (p : Page) : (clearHold s p).codes = s.codes := rfl
@[simp] theorem clearHold_stairs (s : State) (p : Page) : (clearHold s p).stairs = s.stairs := rfl
@[simp] theorem clearHold_disp (s : State) (p : Page) : (clearHold s p).disp = s.disp := rfl
@[simp] theorem clearHold_galleries (s : State) (p : Page) : (clearHold s p).galleries = s.galleries := rfl
@[simp] theorem clearHold_dressers (s : State) (p : Page) : (clearHold s p).dressers = s.dressers := rfl
@[simp] theorem clearHold_caches (s : State) (p : Page) : (clearHold s p).caches = s.caches := rfl
@[simp] theorem clearHold_drams (s : State) (p : Page) : (clearHold s p).drams = s.drams := rfl
@[simp] theorem clearHold_links (s : State) (p : Page) : (clearHold s p).links = s.links := rfl
@[simp] theorem clearHold_windows (s : State) (p : Page) : (clearHold s p).windows = s.windows := rfl
@[simp] theorem clearHold_hif (s : State) (p : Page) : (clearHold s p).hif = s.hif := rfl
@[simp] theorem clearHold_fc (s : State) (p : Page) : (clearHold s p).fc = s.fc := rfl
@[simp] theorem clearHold_mc (s : State) (p : Page) : (clearHold s p).mc = s.mc := rfl
@[simp] theorem clearHold_seb (s : State) (p : Page) : (clearHold s p).seb = s.seb := rfl
@[simp] theorem clearHold_rst (s : State) (p : Page) : (clearHold s p).rst = s.rst := rfl
@[simp] theorem clearHold_jtag (s : State) (p : Page) : (clearHold s p).jtag = s.jtag := rfl
@[simp] theorem clearHold_drawn (s : State) (p : Page) : (clearHold s p).drawn = s.drawn := rfl

/-! ### setCode -/

@[simp] theorem setCode_pending (s : State) (c : Nat) (x : SectorCode) : (setCode s c x).pending = s.pending := rfl
@[simp] theorem setCode_regs (s : State) (c : Nat) (x : SectorCode) : (setCode s c x).regs = s.regs := rfl
@[simp] theorem setCode_latches (s : State) (c : Nat) (x : SectorCode) : (setCode s c x).latches = s.latches := rfl
@[simp] theorem setCode_staging (s : State) (c : Nat) (x : SectorCode) : (setCode s c x).staging = s.staging := rfl
@[simp] theorem setCode_readWord (s : State) (c : Nat) (x : SectorCode) : (setCode s c x).readWord = s.readWord := rfl
@[simp] theorem setCode_fifoHolds (s : State) (c : Nat) (x : SectorCode) : (setCode s c x).fifoHolds = s.fifoHolds := rfl
@[simp] theorem setCode_dram (s : State) (c : Nat) (x : SectorCode) : (setCode s c x).dram = s.dram := rfl
@[simp] theorem setCode_stairs (s : State) (c : Nat) (x : SectorCode) : (setCode s c x).stairs = s.stairs := rfl
@[simp] theorem setCode_disp (s : State) (c : Nat) (x : SectorCode) : (setCode s c x).disp = s.disp := rfl
@[simp] theorem setCode_galleries (s : State) (c : Nat) (x : SectorCode) : (setCode s c x).galleries = s.galleries := rfl
@[simp] theorem setCode_dressers (s : State) (c : Nat) (x : SectorCode) : (setCode s c x).dressers = s.dressers := rfl
@[simp] theorem setCode_caches (s : State) (c : Nat) (x : SectorCode) : (setCode s c x).caches = s.caches := rfl
@[simp] theorem setCode_drams (s : State) (c : Nat) (x : SectorCode) : (setCode s c x).drams = s.drams := rfl
@[simp] theorem setCode_links (s : State) (c : Nat) (x : SectorCode) : (setCode s c x).links = s.links := rfl
@[simp] theorem setCode_windows (s : State) (c : Nat) (x : SectorCode) : (setCode s c x).windows = s.windows := rfl
@[simp] theorem setCode_hif (s : State) (c : Nat) (x : SectorCode) : (setCode s c x).hif = s.hif := rfl
@[simp] theorem setCode_fc (s : State) (c : Nat) (x : SectorCode) : (setCode s c x).fc = s.fc := rfl
@[simp] theorem setCode_mc (s : State) (c : Nat) (x : SectorCode) : (setCode s c x).mc = s.mc := rfl
@[simp] theorem setCode_seb (s : State) (c : Nat) (x : SectorCode) : (setCode s c x).seb = s.seb := rfl
@[simp] theorem setCode_rst (s : State) (c : Nat) (x : SectorCode) : (setCode s c x).rst = s.rst := rfl
@[simp] theorem setCode_jtag (s : State) (c : Nat) (x : SectorCode) : (setCode s c x).jtag = s.jtag := rfl
@[simp] theorem setCode_drawn (s : State) (c : Nat) (x : SectorCode) : (setCode s c x).drawn = s.drawn := rfl

/-! ### draw and commitPair -/

@[simp] theorem draw_pending (s : State) : (draw s).2.pending = s.pending := rfl
@[simp] theorem draw_regs (s : State) : (draw s).2.regs = s.regs := rfl
@[simp] theorem draw_latches (s : State) : (draw s).2.latches = s.latches := rfl
@[simp] theorem draw_staging (s : State) : (draw s).2.staging = s.staging := rfl
@[simp] theorem draw_readWord (s : State) : (draw s).2.readWord = s.readWord := rfl
@[simp] theorem draw_fifoHolds (s : State) : (draw s).2.fifoHolds = s.fifoHolds := rfl
@[simp] theorem draw_dram (s : State) : (draw s).2.dram = s.dram := rfl
@[simp] theorem draw_codes (s : State) : (draw s).2.codes = s.codes := rfl
@[simp] theorem draw_stairs (s : State) : (draw s).2.stairs = s.stairs := rfl
@[simp] theorem draw_disp (s : State) : (draw s).2.disp = s.disp := rfl
@[simp] theorem draw_galleries (s : State) : (draw s).2.galleries = s.galleries := rfl
@[simp] theorem draw_dressers (s : State) : (draw s).2.dressers = s.dressers := rfl
@[simp] theorem draw_caches (s : State) : (draw s).2.caches = s.caches := rfl
@[simp] theorem draw_drams (s : State) : (draw s).2.drams = s.drams := rfl
@[simp] theorem draw_links (s : State) : (draw s).2.links = s.links := rfl
@[simp] theorem draw_windows (s : State) : (draw s).2.windows = s.windows := rfl
@[simp] theorem draw_hif (s : State) : (draw s).2.hif = s.hif := rfl
@[simp] theorem draw_fc (s : State) : (draw s).2.fc = s.fc := rfl
@[simp] theorem draw_mc (s : State) : (draw s).2.mc = s.mc := rfl
@[simp] theorem draw_seb (s : State) : (draw s).2.seb = s.seb := rfl
@[simp] theorem draw_rst (s : State) : (draw s).2.rst = s.rst := rfl
@[simp] theorem draw_jtag (s : State) : (draw s).2.jtag = s.jtag := rfl
@[simp] theorem commitPair_pending (s : State) (path : Path) (p : Page) (f : Fld) (hi : Nat) : (commitPair s path p f hi).2.pending = s.pending := rfl
@[simp] theorem commitPair_regs (s : State) (path : Path) (p : Page) (f : Fld) (hi : Nat) : (commitPair s path p f hi).2.regs = s.regs := rfl
@[simp] theorem commitPair_latches (s : State) (path : Path) (p : Page) (f : Fld) (hi : Nat) : (commitPair s path p f hi).2.latches = s.latches := rfl
@[simp] theorem commitPair_readWord (s : State) (path : Path) (p : Page) (f : Fld) (hi : Nat) : (commitPair s path p f hi).2.readWord = s.readWord := rfl
@[simp] theorem commitPair_fifoHolds (s : State) (path : Path) (p : Page) (f : Fld) (hi : Nat) : (commitPair s path p f hi).2.fifoHolds = s.fifoHolds := rfl
@[simp] theorem commitPair_dram (s : State) (path : Path) (p : Page) (f : Fld) (hi : Nat) : (commitPair s path p f hi).2.dram = s.dram := rfl
@[simp] theorem commitPair_codes (s : State) (path : Path) (p : Page) (f : Fld) (hi : Nat) : (commitPair s path p f hi).2.codes = s.codes := rfl
@[simp] theorem commitPair_stairs (s : State) (path : Path) (p : Page) (f : Fld) (hi : Nat) : (commitPair s path p f hi).2.stairs = s.stairs := rfl
@[simp] theorem commitPair_disp (s : State) (path : Path) (p : Page) (f : Fld) (hi : Nat) : (commitPair s path p f hi).2.disp = s.disp := rfl
@[simp] theorem commitPair_galleries (s : State) (path : Path) (p : Page) (f : Fld) (hi : Nat) : (commitPair s path p f hi).2.galleries = s.galleries := rfl
@[simp] theorem commitPair_dressers (s : State) (path : Path) (p : Page) (f : Fld) (hi : Nat) : (commitPair s path p f hi).2.dressers = s.dressers := rfl
@[simp] theorem commitPair_caches (s : State) (path : Path) (p : Page) (f : Fld) (hi : Nat) : (commitPair s path p f hi).2.caches = s.caches := rfl
@[simp] theorem commitPair_drams (s : State) (path : Path) (p : Page) (f : Fld) (hi : Nat) : (commitPair s path p f hi).2.drams = s.drams := rfl
@[simp] theorem commitPair_links (s : State) (path : Path) (p : Page) (f : Fld) (hi : Nat) : (commitPair s path p f hi).2.links = s.links := rfl
@[simp] theorem commitPair_windows (s : State) (path : Path) (p : Page) (f : Fld) (hi : Nat) : (commitPair s path p f hi).2.windows = s.windows := rfl
@[simp] theorem commitPair_hif (s : State) (path : Path) (p : Page) (f : Fld) (hi : Nat) : (commitPair s path p f hi).2.hif = s.hif := rfl
@[simp] theorem commitPair_fc (s : State) (path : Path) (p : Page) (f : Fld) (hi : Nat) : (commitPair s path p f hi).2.fc = s.fc := rfl
@[simp] theorem commitPair_mc (s : State) (path : Path) (p : Page) (f : Fld) (hi : Nat) : (commitPair s path p f hi).2.mc = s.mc := rfl
@[simp] theorem commitPair_seb (s : State) (path : Path) (p : Page) (f : Fld) (hi : Nat) : (commitPair s path p f hi).2.seb = s.seb := rfl
@[simp] theorem commitPair_rst (s : State) (path : Path) (p : Page) (f : Fld) (hi : Nat) : (commitPair s path p f hi).2.rst = s.rst := rfl
@[simp] theorem commitPair_jtag (s : State) (path : Path) (p : Page) (f : Fld) (hi : Nat) : (commitPair s path p f hi).2.jtag = s.jtag := rfl
@[simp] theorem commitPair_drawn (s : State) (path : Path) (p : Page) (f : Fld) (hi : Nat) : (commitPair s path p f hi).2.drawn = s.drawn := rfl

/-! ### crossFifo -/

@[simp] theorem crossFifo_pending (s : State) (p : Page) (n : Nat) : (crossFifo s p n).pending = s.pending := rfl
@[simp] theorem crossFifo_regs (s : State) (p : Page) (n : Nat) : (crossFifo s p n).regs = s.regs := rfl
@[simp] theorem crossFifo_latches (s : State) (p : Page) (n : Nat) : (crossFifo s p n).latches = s.latches := rfl
@[simp] theorem crossFifo_staging (s : State) (p : Page) (n : Nat) : (crossFifo s p n).staging = s.staging := rfl
@[simp] theorem crossFifo_readWord (s : State) (p : Page) (n : Nat) : (crossFifo s p n).readWord = s.readWord := rfl
@[simp] theorem crossFifo_dram (s : State) (p : Page) (n : Nat) : (crossFifo s p n).dram = s.dram := rfl
@[simp] theorem crossFifo_codes (s : State) (p : Page) (n : Nat) : (crossFifo s p n).codes = s.codes := rfl
@[simp] theorem crossFifo_stairs (s : State) (p : Page) (n : Nat) : (crossFifo s p n).stairs = s.stairs := rfl
@[simp] theorem crossFifo_disp (s : State) (p : Page) (n : Nat) : (crossFifo s p n).disp = s.disp := rfl
@[simp] theorem crossFifo_galleries (s : State) (p : Page) (n : Nat) : (crossFifo s p n).galleries = s.galleries := rfl
@[simp] theorem crossFifo_dressers (s : State) (p : Page) (n : Nat) : (crossFifo s p n).dressers = s.dressers := rfl
@[simp] theorem crossFifo_caches (s : State) (p : Page) (n : Nat) : (crossFifo s p n).caches = s.caches := rfl
@[simp] theorem crossFifo_drams (s : State) (p : Page) (n : Nat) : (crossFifo s p n).drams = s.drams := rfl
@[simp] theorem crossFifo_links (s : State) (p : Page) (n : Nat) : (crossFifo s p n).links = s.links := rfl
@[simp] theorem crossFifo_windows (s : State) (p : Page) (n : Nat) : (crossFifo s p n).windows = s.windows := rfl
@[simp] theorem crossFifo_hif (s : State) (p : Page) (n : Nat) : (crossFifo s p n).hif = s.hif := rfl
@[simp] theorem crossFifo_fc (s : State) (p : Page) (n : Nat) : (crossFifo s p n).fc = s.fc := rfl
@[simp] theorem crossFifo_mc (s : State) (p : Page) (n : Nat) : (crossFifo s p n).mc = s.mc := rfl
@[simp] theorem crossFifo_seb (s : State) (p : Page) (n : Nat) : (crossFifo s p n).seb = s.seb := rfl
@[simp] theorem crossFifo_rst (s : State) (p : Page) (n : Nat) : (crossFifo s p n).rst = s.rst := rfl
@[simp] theorem crossFifo_jtag (s : State) (p : Page) (n : Nat) : (crossFifo s p n).jtag = s.jtag := rfl

end Sys2Proof.Machine
end

