-- ==== Sys2Proof/Laws/Ops.lean ====
section
/-! SUPPORT. What reading after a write answers: maps, register fields, records, and the register a
name stands for. -/

namespace Sys2Proof.Machine

/-! ### Maps -/

@[simp] theorem NatMap.get?_nil {α : Type} (k : Nat) : NatMap.get? ([] : NatMap α) k = none := rfl

theorem NatMap.get?_cons {α : Type} (j : Nat) (v : α) (m : NatMap α) (k : Nat) :
    NatMap.get? ((j, v) :: m) k = if k = j then some v else NatMap.get? m k := by
  unfold NatMap.get?
  rw [List.lookup_cons]
  by_cases h : k = j
  · simp [h]
  · have hb : (k == j) = false := by simpa using h
    simp [hb, h]

theorem NatMap.get?_set {α : Type} (m : NatMap α) (k : Nat) (v : α) (i : Nat) :
    NatMap.get? (NatMap.set m k v) i = if i = k then some v else NatMap.get? m i := by
  induction m with
  | nil => rw [NatMap.set, NatMap.get?_cons]
  | cons e t ih =>
    obtain ⟨j, w⟩ := e
    rw [NatMap.set]
    split_ifs <;> simp_all [NatMap.get?_cons]

theorem NatMap.get?_del {α : Type} (m : NatMap α) (k i : Nat) :
    NatMap.get? (NatMap.del m k) i = if i = k then none else NatMap.get? m i := by
  induction m with
  | nil => simp [NatMap.del]
  | cons e t ih =>
    obtain ⟨j, w⟩ := e
    unfold NatMap.del at ih ⊢
    rw [List.filter_cons]
    by_cases h : j = k
    · subst h
      simp only [bne_self_eq_false, Bool.false_eq_true, if_false, ih, NatMap.get?_cons]
      split <;> simp_all
    · have hb : (j != k) = true := by simpa using h
      simp only [hb, if_true, NatMap.get?_cons, ih]
      split_ifs <;> simp_all

/-! ### Register fields -/

/-- A field just written holds its value, cut to the field's width. -/
@[simp] theorem rd_wr (s : State) (p : Page) (f : Fld) (v : Nat) : rd (wr s p f v) p f = v % 2 ^ f.width := by
  unfold rd wr
  split <;> simp_all [NatMap.get?_set, NatMap.get?_del]

/-- Every other field keeps its value. -/
theorem rd_wr_ne (s : State) (p q : Page) (f g : Fld) (v : Nat) (h : key q g ≠ key p f) :
    rd (wr s p f v) q g = rd s q g := by
  unfold rd wr
  split <;> simp [NatMap.get?_set, NatMap.get?_del, h]

/-- A field is read from the registers alone. -/
theorem rd_congr {s t : State} (h : t.regs = s.regs) (p : Page) (f : Fld) : rd t p f = rd s p f := by
  unfold rd
  rw [h]

/-- A page begins at a multiple of 4,096. -/
theorem Page.base_mod (p : Page) : p.base % 4096 = 0 := by
  cases p <;> simp [Page.base] <;> omega

/-- Every address of a page names that page (R379, R380). -/
theorem pageAt_base (p : Page) (off : Nat) (h : off < 4096) : pageAt (p.base + off) = some p := by
  cases p with
  | mcPower =>
    have e : (Page.base .mcPower + off) / 4096 = 0 := by simp only [Page.base]; omega
    simp [pageAt, e]
  | dispatcher =>
    have e : (Page.base .dispatcher + off) / 4096 = 1 := by simp only [Page.base]; omega
    simp [pageAt, e]
  | memMap =>
    have e : (Page.base .memMap + off) / 4096 = 2 := by simp only [Page.base]; omega
    simp [pageAt, e]
  | hif =>
    have e : (Page.base .hif + off) / 4096 = 3 := by simp only [Page.base]; omega
    simp [pageAt, e]
  | window =>
    have e : (Page.base .window + off) / 4096 = 4 := by simp only [Page.base]; omega
    simp [pageAt, e]
  | seb =>
    have e : (Page.base .seb + off) / 4096 = 5 := by simp only [Page.base]; omega
    simp [pageAt, e]
  | mcService =>
    have e : (Page.base .mcService + off) / 4096 = 6 := by simp only [Page.base]; omega
    simp [pageAt, e]
  | fc =>
    have e : (Page.base .fc + off) / 4096 = 7 := by simp only [Page.base]; omega
    simp [pageAt, e]
  | reset =>
    have e : (Page.base .reset + off) / 4096 = 8 := by simp only [Page.base]; omega
    simp [pageAt, e]
  | stairwell i =>
    have hi := i.isLt
    have e : (Page.base (.stairwell i) + off) / 4096 = 256 + i.val := by simp only [Page.base]; omega
    have z : 256 + i.val - 256 = i.val := by omega
    unfold pageAt
    simp only [e]
    rw [if_neg (by omega), if_pos (by omega), z]
    simp [swPage]
  | link i =>
    have hi := i.isLt
    have e : (Page.base (.link i) + off) / 4096 = 512 + i.val := by simp only [Page.base]; omega
    have z : 512 + i.val - 512 = i.val := by omega
    unfold pageAt
    simp only [e]
    rw [if_neg (by omega), if_neg (by omega), if_pos (by omega), z]
    simp [linkPage]
  | hall i =>
    have hi := i.isLt
    have e : (Page.base (.hall i) + off) / 4096 = 0x1000 + 256 * i.val + 0 := by simp only [Page.base]; omega
    have z : (0x1000 + 256 * i.val + 0 - 0x1000) / 256 = i.val := by omega
    have y : (0x1000 + 256 * i.val + 0) % 256 = 0 := by omega
    unfold pageAt
    simp only [e, z, y]
    rw [if_neg (by omega), if_neg (by omega), if_neg (by omega), if_pos (by omega), if_pos (by omega)]
    simp [hallPage]
  | hallCache i =>
    have hi := i.isLt
    have e : (Page.base (.hallCache i) + off) / 4096 = 0x1000 + 256 * i.val + 1 := by simp only [Page.base]; omega
    have z : (0x1000 + 256 * i.val + 1 - 0x1000) / 256 = i.val := by omega
    have y : (0x1000 + 256 * i.val + 1) % 256 = 1 := by omega
    unfold pageAt
    simp only [e, z, y]
    rw [if_neg (by omega), if_neg (by omega), if_neg (by omega), if_pos (by omega), if_pos (by omega)]
    simp [hcPage]
  | stack i =>
    have hi := i.isLt
    have e : (Page.base (.stack i) + off) / 4096 = 0x1000 + 256 * i.val + 2 := by simp only [Page.base]; omega
    have z : (0x1000 + 256 * i.val + 2 - 0x1000) / 256 = i.val := by omega
    have y : (0x1000 + 256 * i.val + 2) % 256 = 2 := by omega
    unfold pageAt
    simp only [e, z, y]
    rw [if_neg (by omega), if_neg (by omega), if_neg (by omega), if_pos (by omega), if_pos (by omega)]
    simp [scPage]
  | dresser i =>
    have hi := i.isLt
    have e : (Page.base (.dresser i) + off) / 4096 = 0x1000 + 256 * i.val + 3 := by simp only [Page.base]; omega
    have z : (0x1000 + 256 * i.val + 3 - 0x1000) / 256 = i.val := by omega
    have y : (0x1000 + 256 * i.val + 3) % 256 = 3 := by omega
    unfold pageAt
    simp only [e, z, y]
    rw [if_neg (by omega), if_neg (by omega), if_neg (by omega), if_pos (by omega), if_pos (by omega)]
    simp [drsPage]
  | array i j =>
    have hi := i.isLt
    have hj := j.isLt
    have e : (Page.base (.array i j) + off) / 4096 = 0x1000 + 256 * i.val + (0x10 + 4 * j.val + 0) := by
      simp only [Page.base]; omega
    have z : (0x1000 + 256 * i.val + (0x10 + 4 * j.val + 0) - 0x1000) / 256 = i.val := by omega
    have y : (0x1000 + 256 * i.val + (0x10 + 4 * j.val + 0)) % 256 = 0x10 + 4 * j.val + 0 := by omega
    have w : (0x10 + 4 * j.val + 0 - 0x10) / 4 = j.val := by omega
    have v : (0x10 + 4 * j.val + 0) % 4 = 0 := by omega
    unfold pageAt
    simp only [e, z, y, w, v]
    rw [if_neg (by omega), if_neg (by omega), if_neg (by omega), if_pos (by omega), if_neg (by omega), if_pos (by omega)]
    simp [arrPage]
  | ve i j =>
    have hi := i.isLt
    have hj := j.isLt
    have e : (Page.base (.ve i j) + off) / 4096 = 0x1000 + 256 * i.val + (0x10 + 4 * j.val + 1) := by
      simp only [Page.base]; omega
    have z : (0x1000 + 256 * i.val + (0x10 + 4 * j.val + 1) - 0x1000) / 256 = i.val := by omega
    have y : (0x1000 + 256 * i.val + (0x10 + 4 * j.val + 1)) % 256 = 0x10 + 4 * j.val + 1 := by omega
    have w : (0x10 + 4 * j.val + 1 - 0x10) / 4 = j.val := by omega
    have v : (0x10 + 4 * j.val + 1) % 4 = 1 := by omega
    unfold pageAt
    simp only [e, z, y, w, v]
    rw [if_neg (by omega), if_neg (by omega), if_neg (by omega), if_pos (by omega), if_neg (by omega), if_pos (by omega)]
    simp [vePage]
  | qu i j =>
    have hi := i.isLt
    have hj := j.isLt
    have e : (Page.base (.qu i j) + off) / 4096 = 0x1000 + 256 * i.val + (0x10 + 4 * j.val + 2) := by
      simp only [Page.base]; omega
    have z : (0x1000 + 256 * i.val + (0x10 + 4 * j.val + 2) - 0x1000) / 256 = i.val := by omega
    have y : (0x1000 + 256 * i.val + (0x10 + 4 * j.val + 2)) % 256 = 0x10 + 4 * j.val + 2 := by omega
    have w : (0x10 + 4 * j.val + 2 - 0x10) / 4 = j.val := by omega
    have v : (0x10 + 4 * j.val + 2) % 4 = 2 := by omega
    unfold pageAt
    simp only [e, z, y, w, v]
    rw [if_neg (by omega), if_neg (by omega), if_neg (by omega), if_pos (by omega), if_neg (by omega), if_pos (by omega)]
    simp [quPage]
  | mems i j =>
    have hi := i.isLt
    have hj := j.isLt
    have e : (Page.base (.mems i j) + off) / 4096 = 0x1000 + 256 * i.val + (0x10 + 4 * j.val + 3) := by
      simp only [Page.base]; omega
    have z : (0x1000 + 256 * i.val + (0x10 + 4 * j.val + 3) - 0x1000) / 256 = i.val := by omega
    have y : (0x1000 + 256 * i.val + (0x10 + 4 * j.val + 3)) % 256 = 0x10 + 4 * j.val + 3 := by omega
    have w : (0x10 + 4 * j.val + 3 - 0x10) / 4 = j.val := by omega
    have v : (0x10 + 4 * j.val + 3) % 4 = 3 := by omega
    unfold pageAt
    simp only [e, z, y, w, v]
    rw [if_neg (by omega), if_neg (by omega), if_neg (by omega), if_pos (by omega), if_neg (by omega), if_pos (by omega)]
    simp [memPage]

/-- Pages do not overlap. -/
theorem Page.base_inj {p q : Page} (h : p.base = q.base) : p = q := by
  have hp := pageAt_base p 0 (by omega)
  have hq := pageAt_base q 0 (by omega)
  rw [h, hq] at hp
  exact (Option.some.inj hp).symm

/-- A name stands for one field: page, offset and bit. -/
theorem key_inj {p q : Page} {f g : Fld} (hf : f.off < 4096) (hg : g.off < 4096) (bf : f.lsb < 32) (bg : g.lsb < 32) :
    key p f = key q g ↔ p = q ∧ f.off = g.off ∧ f.lsb = g.lsb := by
  constructor
  · intro h
    unfold key at h
    have hp := Page.base_mod p
    have hq := Page.base_mod q
    have e : p.base = q.base := by omega
    exact ⟨Page.base_inj e, by omega, by omega⟩
  · rintro ⟨rfl, h1, h2⟩
    unfold key
    rw [h1, h2]

/-- A write to one page leaves the fields of every other page. -/
theorem rd_wr_page (s : State) (p q : Page) (f g : Fld) (v : Nat) (hp : q ≠ p) (hf : f.off < 4096) (hg : g.off < 4096)
    (bf : f.lsb < 32) (bg : g.lsb < 32) : rd (wr s p f v) q g = rd s q g :=
  rd_wr_ne _ _ _ _ _ _ fun h => hp ((key_inj hg hf bg bf).1 h).1

/-! ### Records -/

@[simp] theorem stair_setStair (s : State) (i : Nat) (w : Stairwell) : stair (setStair s i w) i = w := by
  simp [stair, setStair, NatMap.get?_set]

theorem stair_setStair_ne (s : State) (i j : Nat) (w : Stairwell) (h : j ≠ i) : stair (setStair s i w) j = stair s j := by
  simp [stair, setStair, NatMap.get?_set, h]

@[simp] theorem gal_setGal (s : State) (h g : Nat) (x : Gallery) : gal (setGal s h g x) h g = x := by
  simp [gal, setGal, NatMap.get?_set]

@[simp] theorem cache_setCache (s : State) (h : Nat) (x : HallCache) : cache (setCache s h x) h = x := by
  simp [cache, setCache, NatMap.get?_set]

theorem cache_setCache_ne (s : State) (h i : Nat) (x : HallCache) (e : i ≠ h) : cache (setCache s h x) i = cache s i := by
  simp [cache, setCache, NatMap.get?_set, e]

@[simp] theorem dram_setDram (s : State) (h : Nat) (x : Stack) : dram (setDram s h x) h = x := by
  simp [dram, setDram, NatMap.get?_set]

theorem dram_setDram_ne (s : State) (h i : Nat) (x : Stack) (e : i ≠ h) : dram (setDram s h x) i = dram s i := by
  simp [dram, setDram, NatMap.get?_set, e]

@[simp] theorem link_setLink (s : State) (l : Nat) (x : Link) : link (setLink s l x) l = x := by
  simp [link, setLink, NatMap.get?_set]

theorem link_setLink_ne (s : State) (l i : Nat) (x : Link) (e : i ≠ l) : link (setLink s l x) i = link s i := by
  simp [link, setLink, NatMap.get?_set, e]

/-- What time may have counted before a step: nothing, or one episode. -/
theorem mayCount_counts (s : State) (p : Page) (f : Fld) :
    ∃ k ≤ 1, mayCount s p f = count { s with drawn := s.drawn + 1 } p f k :=
  ⟨Config.free s.drawn % 2, Nat.le_of_lt_succ (Nat.mod_lt _ (by decide)), rfl⟩

/-- A crossing of a boundary advances FIFO_HOLD of its page by some number of episodes, at most one for each crossing, and
takes one free value (R27, R34). -/
theorem crossFifo_counts (s : State) (p : Page) (n : Nat) :
    ∃ k ≤ n, crossFifo s p n = countHold { s with drawn := s.drawn + 1 } p k :=
  ⟨Config.free s.drawn % (n + 1), Nat.le_of_lt_succ (Nat.mod_lt _ (Nat.succ_pos n)), rfl⟩

/-- FIFO_HOLD of one page leaves that of every other page as it was. -/
theorem fifoHold_countHold (s : State) (p q : Page) (n : Nat) :
    fifoHold (countHold s p n) q = if q.base = p.base then min (fifoHold s p + n) (2 ^ 32 - 1) else fifoHold s q := by
  unfold fifoHold countHold
  rw [NatMap.get?_set]
  split <;> simp_all [fifoHold]

end Sys2Proof.Machine
end

