-- ==== Sys2Proof/Laws/Form.lean ====
section
/-! SUPPORT. The canonical form of register space and of device memory, through every part of the
state that an operation can change. -/

namespace Sys2Proof.Machine

/-- Keys rise strictly. -/
def Rising {α : Type} (m : NatMap α) : Prop := (m.map Prod.fst).Pairwise (· < ·)

theorem rising_cons {α : Type} {j : Nat} {w : α} {t : NatMap α} :
    Rising ((j, w) :: t) ↔ (∀ e ∈ t, j < e.1) ∧ Rising t := by
  unfold Rising
  rw [List.map_cons, List.pairwise_cons]
  simp [List.mem_map]

theorem mem_set {α : Type} {m : NatMap α} {k : Nat} {v : α} {e : Nat × α} (h : e ∈ NatMap.set m k v) :
    e = (k, v) ∨ e ∈ m := by
  induction m with
  | nil => exact .inl (by simpa [NatMap.set] using h)
  | cons a t ih =>
    obtain ⟨j, w⟩ := a
    rw [NatMap.set] at h
    split_ifs at h
    · rcases List.mem_cons.1 h with h | h
      · exact .inl h
      · exact .inr h
    · rcases List.mem_cons.1 h with h | h
      · exact .inl h
      · exact .inr (List.mem_cons_of_mem _ h)
    · rcases List.mem_cons.1 h with h | h
      · exact .inr (h ▸ List.mem_cons_self)
      · rcases ih h with h | h
        · exact .inl h
        · exact .inr (List.mem_cons_of_mem _ h)

theorem rising_set {α : Type} {m : NatMap α} (k : Nat) (v : α) (h : Rising m) : Rising (NatMap.set m k v) := by
  induction m with
  | nil => simp [NatMap.set, Rising]
  | cons a t ih =>
    obtain ⟨j, w⟩ := a
    have hc := rising_cons.1 h
    rw [NatMap.set]
    split_ifs with h1 h2
    · refine rising_cons.2 ⟨fun e he => ?_, h⟩
      rcases List.mem_cons.1 he with he | he
      · rw [he]; exact h1
      · exact lt_trans h1 (hc.1 e he)
    · exact rising_cons.2 ⟨fun e he => h2 ▸ hc.1 e he, hc.2⟩
    · refine rising_cons.2 ⟨fun e he => ?_, ih hc.2⟩
      rcases mem_set he with he | he
      · rw [he]
        show j < k
        omega
      · exact hc.1 e he

theorem rising_filter {α : Type} {m : NatMap α} (p : Nat × α → Bool) (h : Rising m) : Rising (m.filter p) :=
  h.sublist ((List.filter_sublist (l := m)).map _)

theorem rising_del {α : Type} {m : NatMap α} (k : Nat) (h : Rising m) : Rising (NatMap.del m k) := rising_filter _ h

theorem sortedKeys_iff {α : Type} (m : NatMap α) : sortedKeys m = true ↔ Rising m := by
  unfold sortedKeys Rising
  exact decide_eq_true_iff

theorem memory_wf_iff (m : List Host.Cell) : Memory.wf m = true ↔ (∀ c ∈ m, c.2 ≠ 0) ∧ Rising (α := Byte) m := by
  unfold Memory.wf Rising
  simp [List.all_eq_true]

/-- Writing a byte keeps the canonical form. -/
theorem memory_wf_putByte {m : List Host.Cell} (k : Nat) (b : Byte) (h : Memory.wf m = true) :
    Memory.wf (putByte m k b) = true := by
  rw [memory_wf_iff] at h ⊢
  unfold putByte
  split
  · exact ⟨fun c hc => h.1 c (List.mem_of_mem_filter hc), rising_del k h.2⟩
  · rename_i hb
    refine ⟨fun c hc => ?_, rising_set k b h.2⟩
    rcases mem_set hc with e | e
    · rw [e]; exact hb
    · exact h.1 c e

/-- Writing bytes keeps the canonical form. -/
theorem memory_wf_putBytes {m : List Host.Cell} (k n v : Nat) (h : Memory.wf m = true) :
    Memory.wf (putBytes m k n v) = true := by
  induction n generalizing m k v with
  | zero => exact h
  | succ n ih => exact ih _ _ (memory_wf_putByte _ _ h)

/-- Filtering the cells keeps the canonical form. -/
theorem memory_wf_filter {m : List Host.Cell} (p : Host.Cell → Bool) (h : Memory.wf m = true) :
    Memory.wf (m.filter p) = true := by
  rw [memory_wf_iff] at h ⊢
  exact ⟨fun c hc => h.1 c (List.mem_of_mem_filter hc), rising_filter p h.2⟩

/-- The move of a die's bytes keeps the canonical form. -/
theorem memory_wf_moveCells {m : List Host.Cell} (h old new ptr : Nat) (w : Memory.wf m = true) :
    Memory.wf (moveCells h old new ptr m) = true := by
  unfold moveCells
  extract_lets base from_ kept
  have hk : Memory.wf kept = true := memory_wf_filter _ w
  clear_value kept
  generalize m.filter (fun c => from_ old c.1) = l
  induction l generalizing kept with
  | nil => exact hk
  | cons a l ih => exact ih _ (memory_wf_putByte _ _ hk)

theorem wf_iff (s : State) : s.wf = true ↔ Rising s.regs ∧ Memory.wf s.dram = true := by
  unfold State.wf
  rw [Bool.and_eq_true, sortedKeys_iff]

theorem wf_wr (s : State) (p : Page) (f : Fld) (v : Nat) (h : s.wf = true) : (wr s p f v).wf = true := by
  rw [wf_iff] at h ⊢
  refine ⟨?_, h.2⟩
  unfold wr
  dsimp only
  split
  · exact rising_del _ h.1
  · exact rising_set _ _ h.1

@[simp] theorem wf_selectJtag (s : State) (i : JtagInstr) : (selectJtag s i).wf = s.wf := rfl

theorem wf_enterReset (s : State) (c x : List Nat) (h : s.wf = true) : (enterReset s c x).wf = true := by
  unfold enterReset
  extract_lets src jt t0 t1 t2 t3 t4
  have h0 : t0.wf = true := by rw [wf_iff] at h ⊢; exact ⟨List.Pairwise.nil, h.2⟩
  have h4 : t4.wf = true := wf_wr _ _ _ _ (wf_wr _ _ _ _ (wf_wr _ _ _ _ ((wf_selectJtag _ _).trans h0)))
  clear_value t4
  split
  · exact wf_wr _ _ _ _ h4
  · exact h4

/-- Every area but the migration's copy keeps the form. -/
theorem wf_closed_most (F : List Area) (hF : .migrate ∉ F) : Closed (fun s => s.wf = true) F := by
  intro q hq
  cases q with
  | migrate => exact absurd hq hF
  | regs => exact fun s p f v h => wf_wr s p f v h
  | sector =>
    intro s c n v h
    rw [wf_iff] at h ⊢
    exact ⟨h.1, memory_wf_putBytes _ _ _ h.2⟩
  | reset => exact fun s c x h => wf_enterReset s c x h
  | wipe =>
    intro s h
    rw [wf_iff] at h ⊢
    exact ⟨h.1, memory_wf_filter _ h.2⟩
  | restore =>
    intro s t h ht
    rw [wf_iff] at h ht ⊢
    exact ⟨ht.1, h.2⟩
  | _ => exact fun s x h => h

/-- Every change that an operation can make keeps the form. -/
theorem wf_closed (F : List Area) : Closed (fun s => s.wf = true) F := by
  intro q hq
  by_cases e : q = .migrate
  · subst e
    intro s h old new ptr w
    unfold copyRest
    extract_lets lo hi t
    have ht : t.wf = true :=
      foldl_keeps (P := fun s => s.wf = true)
        (fun s c w => recopySector_keeps (wf_closed_most _ (by decide)) s _ c w) w
    clear_value t
    rw [wf_iff] at ht ⊢
    exact ⟨ht.1, memory_wf_moveCells _ _ _ _ ht.2⟩
  · exact wf_closed_most [q] (by simp [Ne.symm e]) q (by simp)

/-! ### A part that an operation does not name stays as it was

`closed_mc v F`, and so on: the property "this part is v" is closed under changes of any areas but those that
set the part. With a lemma of Laws/Keeps<...>.lean it says that an operation leaves the part alone. -/

/-- No operation changes the queue of waiting commands. -/
theorem closed_pending (v : List Instr) (F : List Area) : Closed (fun s => s.pending = v) F := by
  have most : ∀ F : List Area, .migrate ∉ F → Closed (fun s => s.pending = v) F := by
    intro F hF q hq
    cases q with
    | migrate => exact absurd hq hF
    | reset =>
      intro s c x h
      unfold enterReset
      extract_lets
      split <;> exact h
    | restore => exact fun s t _ h => h
    | wipe => exact fun s h => h
    | sector => exact fun s c n x h => h
    | regs => exact fun s p f x h => h
    | _ => exact fun s x h => h
  intro q hq
  by_cases e : q = .migrate
  · subst e
    intro s h old new ptr w
    unfold copyRest
    extract_lets lo hi t
    exact foldl_keeps (P := fun s => s.pending = v) (fun s c w => recopySector_keeps (most _ (by decide)) s _ c w) w
  · exact most [q] (by simp [Ne.symm e]) q (by simp)

theorem closed_latches (v : NatMap Nat) (F : List Area) (hF : ∀ q ∈ F, q ∉ ([.latches, .reset] : List Area)) :
    Closed (fun s => s.latches = v) F := by
  intro q hq
  have hn := hF q hq
  cases q with
  | latches => simp at hn
  | reset => simp at hn
  | restore => exact fun s t _ h => h
  | wipe => exact fun s h => h
  | sector => exact fun s c n x h => h
  | regs => exact fun s p f x h => h
  | migrate =>
    intro s h old new ptr w
    unfold copyRest
    extract_lets lo hi t
    refine foldl_keeps (P := fun s => s.latches = v) (fun s c w => recopySector_keeps (P := fun s => s.latches = v) ?_ s _ c w) w
    intro q hq
    fin_cases hq
    all_goals first
      | exact fun s p f x h => h
      | exact fun s x h => h
  | _ => exact fun s x h => h

theorem closed_staging (v : NatMap Nat) (F : List Area) (hF : ∀ q ∈ F, q ∉ ([.staging, .reset] : List Area)) :
    Closed (fun s => s.staging = v) F := by
  intro q hq
  have hn := hF q hq
  cases q with
  | staging => simp at hn
  | reset => simp at hn
  | restore => exact fun s t _ h => h
  | wipe => exact fun s h => h
  | sector => exact fun s c n x h => h
  | regs => exact fun s p f x h => h
  | migrate =>
    intro s h old new ptr w
    unfold copyRest
    extract_lets lo hi t
    refine foldl_keeps (P := fun s => s.staging = v) (fun s c w => recopySector_keeps (P := fun s => s.staging = v) ?_ s _ c w) w
    intro q hq
    fin_cases hq
    all_goals first
      | exact fun s p f x h => h
      | exact fun s x h => h
  | _ => exact fun s x h => h

theorem closed_readWord (v : NatMap Nat) (F : List Area) (hF : ∀ q ∈ F, q ∉ ([.readWord, .reset] : List Area)) :
    Closed (fun s => s.readWord = v) F := by
  intro q hq
  have hn := hF q hq
  cases q with
  | readWord => simp at hn
  | reset => simp at hn
  | restore => exact fun s t _ h => h
  | wipe => exact fun s h => h
  | sector => exact fun s c n x h => h
  | regs => exact fun s p f x h => h
  | migrate =>
    intro s h old new ptr w
    unfold copyRest
    extract_lets lo hi t
    refine foldl_keeps (P := fun s => s.readWord = v) (fun s c w => recopySector_keeps (P := fun s => s.readWord = v) ?_ s _ c w) w
    intro q hq
    fin_cases hq
    all_goals first
      | exact fun s p f x h => h
      | exact fun s x h => h
  | _ => exact fun s x h => h

theorem closed_dram (v : List Host.Cell) (F : List Area) (hF : ∀ q ∈ F, q ∉ ([.sector, .reset, .wipe, .restore, .migrate] : List Area)) :
    Closed (fun s => s.dram = v) F := by
  intro q hq
  have hn := hF q hq
  cases q with
  | sector => simp at hn
  | reset => simp at hn
  | wipe => simp at hn
  | restore => simp at hn
  | migrate => simp at hn
  | regs => exact fun s p f x h => h
  | _ => exact fun s x h => h

theorem closed_codes (v : NatMap SectorCode) (F : List Area) (hF : ∀ q ∈ F, q ∉ ([.codes, .reset, .wipe, .restore, .migrate] : List Area)) :
    Closed (fun s => s.codes = v) F := by
  intro q hq
  have hn := hF q hq
  cases q with
  | codes => simp at hn
  | reset => simp at hn
  | wipe => simp at hn
  | restore => simp at hn
  | migrate => simp at hn
  | sector => exact fun s c n x h => h
  | regs => exact fun s p f x h => h
  | _ => exact fun s x h => h

theorem closed_stairs (v : NatMap Stairwell) (F : List Area) (hF : ∀ q ∈ F, q ∉ ([.stairs, .reset] : List Area)) :
    Closed (fun s => s.stairs = v) F := by
  intro q hq
  have hn := hF q hq
  cases q with
  | stairs => simp at hn
  | reset => simp at hn
  | restore => exact fun s t _ h => h
  | wipe => exact fun s h => h
  | sector => exact fun s c n x h => h
  | regs => exact fun s p f x h => h
  | migrate =>
    intro s h old new ptr w
    unfold copyRest
    extract_lets lo hi t
    refine foldl_keeps (P := fun s => s.stairs = v) (fun s c w => recopySector_keeps (P := fun s => s.stairs = v) ?_ s _ c w) w
    intro q hq
    fin_cases hq
    all_goals first
      | exact fun s p f x h => h
      | exact fun s x h => h
  | _ => exact fun s x h => h

theorem closed_disp (v : Dispatcher) (F : List Area) (hF : ∀ q ∈ F, q ∉ ([.disp, .reset] : List Area)) :
    Closed (fun s => s.disp = v) F := by
  intro q hq
  have hn := hF q hq
  cases q with
  | disp => simp at hn
  | reset => simp at hn
  | restore => exact fun s t _ h => h
  | wipe => exact fun s h => h
  | sector => exact fun s c n x h => h
  | regs => exact fun s p f x h => h
  | migrate =>
    intro s h old new ptr w
    unfold copyRest
    extract_lets lo hi t
    refine foldl_keeps (P := fun s => s.disp = v) (fun s c w => recopySector_keeps (P := fun s => s.disp = v) ?_ s _ c w) w
    intro q hq
    fin_cases hq
    all_goals first
      | exact fun s p f x h => h
      | exact fun s x h => h
  | _ => exact fun s x h => h

theorem closed_galleries (v : NatMap Gallery) (F : List Area) (hF : ∀ q ∈ F, q ∉ ([.galleries, .reset, .wipe] : List Area)) :
    Closed (fun s => s.galleries = v) F := by
  intro q hq
  have hn := hF q hq
  cases q with
  | galleries => simp at hn
  | reset => simp at hn
  | wipe => simp at hn
  | restore => exact fun s t _ h => h
  | sector => exact fun s c n x h => h
  | regs => exact fun s p f x h => h
  | migrate =>
    intro s h old new ptr w
    unfold copyRest
    extract_lets lo hi t
    refine foldl_keeps (P := fun s => s.galleries = v) (fun s c w => recopySector_keeps (P := fun s => s.galleries = v) ?_ s _ c w) w
    intro q hq
    fin_cases hq
    all_goals first
      | exact fun s p f x h => h
      | exact fun s x h => h
  | _ => exact fun s x h => h

theorem closed_dressers (v : NatMap Ticket) (F : List Area) (hF : ∀ q ∈ F, q ∉ ([.dressers, .reset] : List Area)) :
    Closed (fun s => s.dressers = v) F := by
  intro q hq
  have hn := hF q hq
  cases q with
  | dressers => simp at hn
  | reset => simp at hn
  | restore => exact fun s t _ h => h
  | wipe => exact fun s h => h
  | sector => exact fun s c n x h => h
  | regs => exact fun s p f x h => h
  | migrate =>
    intro s h old new ptr w
    unfold copyRest
    extract_lets lo hi t
    refine foldl_keeps (P := fun s => s.dressers = v) (fun s c w => recopySector_keeps (P := fun s => s.dressers = v) ?_ s _ c w) w
    intro q hq
    fin_cases hq
    all_goals first
      | exact fun s p f x h => h
      | exact fun s x h => h
  | _ => exact fun s x h => h

theorem closed_caches (v : NatMap HallCache) (F : List Area) (hF : ∀ q ∈ F, q ∉ ([.caches, .reset, .wipe] : List Area)) :
    Closed (fun s => s.caches = v) F := by
  intro q hq
  have hn := hF q hq
  cases q with
  | caches => simp at hn
  | reset => simp at hn
  | wipe => simp at hn
  | restore => exact fun s t _ h => h
  | sector => exact fun s c n x h => h
  | regs => exact fun s p f x h => h
  | migrate =>
    intro s h old new ptr w
    unfold copyRest
    extract_lets lo hi t
    refine foldl_keeps (P := fun s => s.caches = v) (fun s c w => recopySector_keeps (P := fun s => s.caches = v) ?_ s _ c w) w
    intro q hq
    fin_cases hq
    all_goals first
      | exact fun s p f x h => h
      | exact fun s x h => h
  | _ => exact fun s x h => h

theorem closed_drams (v : NatMap Stack) (F : List Area) (hF : ∀ q ∈ F, q ∉ ([.drams, .reset, .wipe, .migrate] : List Area)) :
    Closed (fun s => s.drams = v) F := by
  intro q hq
  have hn := hF q hq
  cases q with
  | drams => simp at hn
  | reset => simp at hn
  | wipe => simp at hn
  | migrate => simp at hn
  | restore => exact fun s t _ h => h
  | sector => exact fun s c n x h => h
  | regs => exact fun s p f x h => h
  | _ => exact fun s x h => h

theorem closed_links (v : NatMap Link) (F : List Area) (hF : ∀ q ∈ F, q ∉ ([.links, .reset] : List Area)) :
    Closed (fun s => s.links = v) F := by
  intro q hq
  have hn := hF q hq
  cases q with
  | links => simp at hn
  | reset => simp at hn
  | restore => exact fun s t _ h => h
  | wipe => exact fun s h => h
  | sector => exact fun s c n x h => h
  | regs => exact fun s p f x h => h
  | migrate =>
    intro s h old new ptr w
    unfold copyRest
    extract_lets lo hi t
    refine foldl_keeps (P := fun s => s.links = v) (fun s c w => recopySector_keeps (P := fun s => s.links = v) ?_ s _ c w) w
    intro q hq
    fin_cases hq
    all_goals first
      | exact fun s p f x h => h
      | exact fun s x h => h
  | _ => exact fun s x h => h

theorem closed_windows (v : List Window) (F : List Area) (hF : ∀ q ∈ F, q ∉ ([.windows, .reset] : List Area)) :
    Closed (fun s => s.windows = v) F := by
  intro q hq
  have hn := hF q hq
  cases q with
  | windows => simp at hn
  | reset => simp at hn
  | restore => exact fun s t _ h => h
  | wipe => exact fun s h => h
  | sector => exact fun s c n x h => h
  | regs => exact fun s p f x h => h
  | migrate =>
    intro s h old new ptr w
    unfold copyRest
    extract_lets lo hi t
    refine foldl_keeps (P := fun s => s.windows = v) (fun s c w => recopySector_keeps (P := fun s => s.windows = v) ?_ s _ c w) w
    intro q hq
    fin_cases hq
    all_goals first
      | exact fun s p f x h => h
      | exact fun s x h => h
  | _ => exact fun s x h => h

theorem closed_hif (v : HostIf) (F : List Area) (hF : ∀ q ∈ F, q ∉ ([.hif, .reset, .migrate] : List Area)) :
    Closed (fun s => s.hif = v) F := by
  intro q hq
  have hn := hF q hq
  cases q with
  | hif => simp at hn
  | reset => simp at hn
  | migrate => simp at hn
  | restore => exact fun s t _ h => h
  | wipe => exact fun s h => h
  | sector => exact fun s c n x h => h
  | regs => exact fun s p f x h => h
  | _ => exact fun s x h => h

theorem closed_fc (v : List FcEntry) (F : List Area) (hF : ∀ q ∈ F, q ∉ ([.fc, .reset, .migrate] : List Area)) :
    Closed (fun s => s.fc = v) F := by
  intro q hq
  have hn := hF q hq
  cases q with
  | fc => simp at hn
  | reset => simp at hn
  | migrate => simp at hn
  | restore => exact fun s t _ h => h
  | wipe => exact fun s h => h
  | sector => exact fun s c n x h => h
  | regs => exact fun s p f x h => h
  | _ => exact fun s x h => h

theorem closed_mc (v : Mc) (F : List Area) (hF : ∀ q ∈ F, q ∉ ([.mc, .reset] : List Area)) :
    Closed (fun s => s.mc = v) F := by
  intro q hq
  have hn := hF q hq
  cases q with
  | mc => simp at hn
  | reset => simp at hn
  | restore => exact fun s t _ h => h
  | wipe => exact fun s h => h
  | sector => exact fun s c n x h => h
  | regs => exact fun s p f x h => h
  | migrate =>
    intro s h old new ptr w
    unfold copyRest
    extract_lets lo hi t
    refine foldl_keeps (P := fun s => s.mc = v) (fun s c w => recopySector_keeps (P := fun s => s.mc = v) ?_ s _ c w) w
    intro q hq
    fin_cases hq
    all_goals first
      | exact fun s p f x h => h
      | exact fun s x h => h
  | _ => exact fun s x h => h

theorem closed_seb (v : Seb) (F : List Area) (hF : ∀ q ∈ F, q ∉ ([.seb, .reset] : List Area)) :
    Closed (fun s => s.seb = v) F := by
  intro q hq
  have hn := hF q hq
  cases q with
  | seb => simp at hn
  | reset => simp at hn
  | restore => exact fun s t _ h => h
  | wipe => exact fun s h => h
  | sector => exact fun s c n x h => h
  | regs => exact fun s p f x h => h
  | migrate =>
    intro s h old new ptr w
    unfold copyRest
    extract_lets lo hi t
    refine foldl_keeps (P := fun s => s.seb = v) (fun s c w => recopySector_keeps (P := fun s => s.seb = v) ?_ s _ c w) w
    intro q hq
    fin_cases hq
    all_goals first
      | exact fun s p f x h => h
      | exact fun s x h => h
  | _ => exact fun s x h => h

theorem closed_rst (v : Reset) (F : List Area) (hF : ∀ q ∈ F, q ∉ ([.rst, .reset] : List Area)) :
    Closed (fun s => s.rst = v) F := by
  intro q hq
  have hn := hF q hq
  cases q with
  | rst => simp at hn
  | reset => simp at hn
  | restore => exact fun s t _ h => h
  | wipe => exact fun s h => h
  | sector => exact fun s c n x h => h
  | regs => exact fun s p f x h => h
  | migrate =>
    intro s h old new ptr w
    unfold copyRest
    extract_lets lo hi t
    refine foldl_keeps (P := fun s => s.rst = v) (fun s c w => recopySector_keeps (P := fun s => s.rst = v) ?_ s _ c w) w
    intro q hq
    fin_cases hq
    all_goals first
      | exact fun s p f x h => h
      | exact fun s x h => h
  | _ => exact fun s x h => h

theorem closed_jtag (v : Jtag) (F : List Area) (hF : ∀ q ∈ F, q ∉ ([.jtag, .reset] : List Area)) :
    Closed (fun s => s.jtag = v) F := by
  intro q hq
  have hn := hF q hq
  cases q with
  | jtag => simp at hn
  | reset => simp at hn
  | restore => exact fun s t _ h => h
  | wipe => exact fun s h => h
  | sector => exact fun s c n x h => h
  | regs => exact fun s p f x h => h
  | migrate =>
    intro s h old new ptr w
    unfold copyRest
    extract_lets lo hi t
    refine foldl_keeps (P := fun s => s.jtag = v) (fun s c w => recopySector_keeps (P := fun s => s.jtag = v) ?_ s _ c w) w
    intro q hq
    fin_cases hq
    all_goals first
      | exact fun s p f x h => h
      | exact fun s x h => h
  | _ => exact fun s x h => h

theorem closed_drawn (v : Nat) (F : List Area) (hF : ∀ q ∈ F, q ∉ ([.drawn, .reset, .migrate] : List Area)) :
    Closed (fun s => s.drawn = v) F := by
  intro q hq
  have hn := hF q hq
  cases q with
  | drawn => simp at hn
  | reset => simp at hn
  | migrate => simp at hn
  | restore => exact fun s t _ h => h
  | wipe => exact fun s h => h
  | sector => exact fun s c n x h => h
  | regs => exact fun s p f x h => h
  | _ => exact fun s x h => h

theorem closed_fifoHolds (v : NatMap Nat) (F : List Area) (hF : ∀ q ∈ F, q ∉ ([.fifoHolds, .reset, .migrate] : List Area)) :
    Closed (fun s => s.fifoHolds = v) F := by
  intro q hq
  have hn := hF q hq
  cases q with
  | fifoHolds => simp at hn
  | reset => simp at hn
  | migrate => simp at hn
  | restore => exact fun s t _ h => h
  | wipe => exact fun s h => h
  | sector => exact fun s c n x h => h
  | regs => exact fun s p f x h => h
  | _ => exact fun s x h => h

end Sys2Proof.Machine
end

