-- ==== Sys2Proof/Laws/PerInstr.lean ====
section
/-! SUPPORT. What holds of every command as syntax, one lemma per constructor of Instr: the data that a well-formed
command carries fits the bytes that the command says it carries. -/

namespace Sys2Proof

/-- The data of an access to a sector, with their bytes. -/
def SectorOp.data : SectorOp → Option (Nat × Nat)
  | .read => none
  | .write _ n v => some (v, n)
  | .poison v => some (v, 32)

/-- The data of a well-formed access fit their bytes. -/
theorem SectorOp.data_fits {o : SectorOp} (w : o.wellFormed = true) : ∀ d ∈ o.data, d.1 < 2 ^ (8 * d.2) := by
  cases o with
  | read => simp [SectorOp.data]
  | write lo n v =>
    simp only [SectorOp.wellFormed, decide_eq_true_eq] at w
    simpa [SectorOp.data] using w.2.2
  | poison v =>
    simp only [SectorOp.wellFormed, decide_eq_true_eq] at w
    simpa [SectorOp.data] using w

/-- The data a command carries, with its bytes: of a packet, a flit, a sector access or a hall-cache request. -/
def Instr.payload : Instr → List (Nat × Nat)
  | .aptWr _ len v | .cpl _ _ len v => [(v, len)]
  | .head _ f | .body _ f | .esc _ f | .endFlit _ f | .abort _ f | .ctrl _ f | .corruptFlit _ _ f => [(f.payload, 120)]
  | .sectorAccess _ _ op c => op.data.toList ++ c.others.filterMap fun a => a.op.data
  | .hallCacheAccess _ _ _ len (some v) _ => [(v, len)]
  | _ => []

/-- The data of a well-formed command fits its bytes. -/
def Laws.Payload.Statement (i : Instr) : Prop :=
  i.wellFormed = true → ∀ d ∈ i.payload, d.1 < 2 ^ (8 * d.2)

/-- A command that carries no data. -/
theorem Laws.Payload.of_none {i : Instr} (h : i.payload = []) : Laws.Payload.Statement i := by
  intro _ d hd
  simp [h] at hd

/-- A command whose data are one image of known length. -/
theorem Laws.Payload.of_some {i : Instr} {v n : Nat} (h : i.payload = [(v, n)])
    (hw : i.wellFormed = true → v < 2 ^ (8 * n)) : Laws.Payload.Statement i := by
  intro w d hd
  rw [h, List.mem_singleton] at hd
  exact hd ▸ hw w

theorem Laws.Payload.registerWrite (path : Path) (page : Page) (off : BitVec 12) (value : WordWrite) :
    Laws.Payload.Statement (.registerWrite path page off value) := Laws.Payload.of_none rfl

theorem Laws.Payload.rcFieldRead (path : Path) (page : Page) (off : BitVec 12) (event : Bool) :
    Laws.Payload.Statement (.rcFieldRead path page off event) := Laws.Payload.of_none rfl

theorem Laws.Payload.pairLowRead (path : Path) (page : Page) (off : BitVec 12) :
    Laws.Payload.Statement (.pairLowRead path page off) := Laws.Payload.of_none rfl

theorem Laws.Payload.pairHighRead (path : Path) (page : Page) (off : BitVec 12) :
    Laws.Payload.Statement (.pairHighRead path page off) := Laws.Payload.of_none rfl

theorem Laws.Payload.pairLowWrite (path : Path) (page : Page) (off : BitVec 12) (value : BitVec 32) :
    Laws.Payload.Statement (.pairLowWrite path page off value) := Laws.Payload.of_none rfl

theorem Laws.Payload.pairHighWrite (path : Path) (page : Page) (off : BitVec 12) (value : BitVec 32) :
    Laws.Payload.Statement (.pairHighWrite path page off value) := Laws.Payload.of_none rfl

theorem Laws.Payload.stickyClear (page : Page) (value : BitVec 32) (hw : BitVec 32) :
    Laws.Payload.Statement (.stickyClear page value hw) := Laws.Payload.of_none rfl

theorem Laws.Payload.stickyMaskWrite (page : Page) (value : BitVec 32) (hw : BitVec 32) :
    Laws.Payload.Statement (.stickyMaskWrite page value hw) := Laws.Payload.of_none rfl

theorem Laws.Payload.controlEnableWrite (page : Page) (enable : Bool) (hw : BitVec 32) :
    Laws.Payload.Statement (.controlEnableWrite page enable hw) := Laws.Payload.of_none rfl

theorem Laws.Payload.readbackDataRead (path : Path) (page : Page) :
    Laws.Payload.Statement (.readbackDataRead path page) := Laws.Payload.of_none rfl

theorem Laws.Payload.counterClear (page : Page) (off : BitVec 12) (events : List (BitVec 12)) :
    Laws.Payload.Statement (.counterClear page off events) := Laws.Payload.of_none rfl

theorem Laws.Payload.faultLatchRelease (latch : LatchRelease) :
    Laws.Payload.Statement (.faultLatchRelease latch) := Laws.Payload.of_none rfl

theorem Laws.Payload.mcConfigWrite (off : BitVec 12) (value : BitVec 32) :
    Laws.Payload.Statement (.mcConfigWrite off value) := Laws.Payload.of_none rfl

theorem Laws.Payload.calNow : Laws.Payload.Statement (.calNow) := Laws.Payload.of_none rfl

theorem Laws.Payload.calIntervalExpiry (t : Timer) :
    Laws.Payload.Statement (.calIntervalExpiry t) := Laws.Payload.of_none rfl

theorem Laws.Payload.timerCalibrationDone (t : Timer) (periods : Nat) (expiring : Option Expiry) :
    Laws.Payload.Statement (.timerCalibrationDone t periods expiring) := Laws.Payload.of_none rfl

theorem Laws.Payload.powerLoopPeriod (sample : Sensors) :
    Laws.Payload.Statement (.powerLoopPeriod sample) := Laws.Payload.of_none rfl

theorem Laws.Payload.vcoreBelowVwarn (mv : BitVec 10) :
    Laws.Payload.Statement (.vcoreBelowVwarn mv) := Laws.Payload.of_none rfl

theorem Laws.Payload.sagWarnEntry : Laws.Payload.Statement (.sagWarnEntry) := Laws.Payload.of_none rfl

theorem Laws.Payload.vcoreAboveVwarn (mv : BitVec 10) :
    Laws.Payload.Statement (.vcoreAboveVwarn mv) := Laws.Payload.of_none rfl

theorem Laws.Payload.sagWarnExit : Laws.Payload.Statement (.sagWarnExit) := Laws.Payload.of_none rfl

theorem Laws.Payload.refoscMonitorWindow (periods : Nat) :
    Laws.Payload.Statement (.refoscMonitorWindow periods) := Laws.Payload.of_none rfl

theorem Laws.Payload.refoscReturn : Laws.Payload.Statement (.refoscReturn) := Laws.Payload.of_none rfl

theorem Laws.Payload.regulatorSilent (rail : Fin 6) :
    Laws.Payload.Statement (.regulatorSilent rail) := Laws.Payload.of_none rfl

theorem Laws.Payload.regulatorAnswersAgain (rail : Fin 6) :
    Laws.Payload.Statement (.regulatorAnswersAgain rail) := Laws.Payload.of_none rfl

theorem Laws.Payload.start (sw : Fin 16) : Laws.Payload.Statement (.start sw) := Laws.Payload.of_none rfl

theorem Laws.Payload.kill (sw : Fin 16) : Laws.Payload.Statement (.kill sw) := Laws.Payload.of_none rfl

theorem Laws.Payload.killWithScrub (sw : Fin 16) :
    Laws.Payload.Statement (.killWithScrub sw) := Laws.Payload.of_none rfl

theorem Laws.Payload.resume (sw : Fin 16) : Laws.Payload.Statement (.resume sw) := Laws.Payload.of_none rfl

theorem Laws.Payload.listPtrWrite (sw : Fin 16) (path : Path) (hi : BitVec 32) :
    Laws.Payload.Statement (.listPtrWrite sw path hi) := Laws.Payload.of_none rfl

theorem Laws.Payload.entryFetch (sw : Fin 16) : Laws.Payload.Statement (.entryFetch sw) := Laws.Payload.of_none rfl

theorem Laws.Payload.entryReadDone (sw : Fin 16) :
    Laws.Payload.Statement (.entryReadDone sw) := Laws.Payload.of_none rfl

theorem Laws.Payload.entryStartAfterWait (sw : Fin 16) :
    Laws.Payload.Statement (.entryStartAfterWait sw) := Laws.Payload.of_none rfl

theorem Laws.Payload.job (sw : Fin 16) : Laws.Payload.Statement (.job sw) := Laws.Payload.of_none rfl

theorem Laws.Payload.descriptorReadDone (sw : Fin 16) (slot : Fin 8) :
    Laws.Payload.Statement (.descriptorReadDone sw slot) := Laws.Payload.of_none rfl

theorem Laws.Payload.fence (sw : Fin 16) : Laws.Payload.Statement (.fence sw) := Laws.Payload.of_none rfl

theorem Laws.Payload.waitWord (sw : Fin 16) : Laws.Payload.Statement (.waitWord sw) := Laws.Payload.of_none rfl

theorem Laws.Payload.waitWordWake (sw : Fin 16) :
    Laws.Payload.Statement (.waitWordWake sw) := Laws.Payload.of_none rfl

theorem Laws.Payload.waitWordPollTimer (sw : Fin 16) :
    Laws.Payload.Statement (.waitWordPollTimer sw) := Laws.Payload.of_none rfl

theorem Laws.Payload.waitWordEvaluate (sw : Fin 16) (expiring : Bool) :
    Laws.Payload.Statement (.waitWordEvaluate sw expiring) := Laws.Payload.of_none rfl

theorem Laws.Payload.waitTimeout (sw : Fin 16) : Laws.Payload.Statement (.waitTimeout sw) := Laws.Payload.of_none rfl

theorem Laws.Payload.writeWord (sw : Fin 16) : Laws.Payload.Statement (.writeWord sw) := Laws.Payload.of_none rfl

theorem Laws.Payload.signal (sw : Fin 16) : Laws.Payload.Statement (.signal sw) := Laws.Payload.of_none rfl

theorem Laws.Payload.fill (sw : Fin 16) (slot : Option (Fin 8)) (blocks : Nat) :
    Laws.Payload.Statement (.fill sw slot blocks) := Laws.Payload.of_none rfl

theorem Laws.Payload.copy (sw : Fin 16) (slot : Option (Fin 8)) (blocks : Nat) :
    Laws.Payload.Statement (.copy sw slot blocks) := Laws.Payload.of_none rfl

theorem Laws.Payload.flush (sw : Fin 16) : Laws.Payload.Statement (.flush sw) := Laws.Payload.of_none rfl

theorem Laws.Payload.flushWalkStep (h : Fin 16) :
    Laws.Payload.Statement (.flushWalkStep h) := Laws.Payload.of_none rfl

theorem Laws.Payload.windowOpen (sw : Fin 16) : Laws.Payload.Statement (.windowOpen sw) := Laws.Payload.of_none rfl

theorem Laws.Payload.windowOpenDone (sw : Fin 16) :
    Laws.Payload.Statement (.windowOpenDone sw) := Laws.Payload.of_none rfl

theorem Laws.Payload.windowClose (sw : Fin 16) : Laws.Payload.Statement (.windowClose sw) := Laws.Payload.of_none rfl

theorem Laws.Payload.windowCloseDone (sw : Fin 16) :
    Laws.Payload.Statement (.windowCloseDone sw) := Laws.Payload.of_none rfl

theorem Laws.Payload.windowCloseTimeout (l : Fin 8) :
    Laws.Payload.Statement (.windowCloseTimeout l) := Laws.Payload.of_none rfl

theorem Laws.Payload.reduce (sw : Fin 16) : Laws.Payload.Statement (.reduce sw) := Laws.Payload.of_none rfl

theorem Laws.Payload.jump (sw : Fin 16) : Laws.Payload.Statement (.jump sw) := Laws.Payload.of_none rfl

theorem Laws.Payload.halt (sw : Fin 16) : Laws.Payload.Statement (.halt sw) := Laws.Payload.of_none rfl

theorem Laws.Payload.badOpcode (sw : Fin 16) : Laws.Payload.Statement (.badOpcode sw) := Laws.Payload.of_none rfl

theorem Laws.Payload.entryComplete (sw : Fin 16) (slot : Fin 8) :
    Laws.Payload.Statement (.entryComplete sw slot) := Laws.Payload.of_none rfl

theorem Laws.Payload.recordWriteFault (sw : Fin 16) :
    Laws.Payload.Statement (.recordWriteFault sw) := Laws.Payload.of_none rfl

theorem Laws.Payload.killDone (sw : Fin 16) : Laws.Payload.Statement (.killDone sw) := Laws.Payload.of_none rfl

theorem Laws.Payload.scrubFill (h : Fin 16) (g : Fin 17) :
    Laws.Payload.Statement (.scrubFill h g) := Laws.Payload.of_none rfl

theorem Laws.Payload.scrubFillDone (h : Fin 16) (g : Fin 17) :
    Laws.Payload.Statement (.scrubFillDone h g) := Laws.Payload.of_none rfl

theorem Laws.Payload.jobIssue : Laws.Payload.Statement (.jobIssue) := Laws.Payload.of_none rfl

theorem Laws.Payload.issueBlockReadDone (sw : Fin 16) (slot : Fin 8) :
    Laws.Payload.Statement (.issueBlockReadDone sw slot) := Laws.Payload.of_none rfl

theorem Laws.Payload.extentReadDone (sw : Fin 16) (slot : Fin 8) :
    Laws.Payload.Statement (.extentReadDone sw slot) := Laws.Payload.of_none rfl

theorem Laws.Payload.ticketFetchRequest (f : Fetcher) :
    Laws.Payload.Statement (.ticketFetchRequest f) := Laws.Payload.of_none rfl

theorem Laws.Payload.ticketGrant : Laws.Payload.Statement (.ticketGrant) := Laws.Payload.of_none rfl

theorem Laws.Payload.unitFinish (f : Fetcher) : Laws.Payload.Statement (.unitFinish f) := Laws.Payload.of_none rfl

theorem Laws.Payload.convertOnEntry (h : Fin 16) (g : Fin 17) :
    Laws.Payload.Statement (.convertOnEntry h g) := Laws.Payload.of_none rfl

theorem Laws.Payload.rowConversion (h : Fin 16) (g : Fin 17) :
    Laws.Payload.Statement (.rowConversion h g) := Laws.Payload.of_none rfl

theorem Laws.Payload.generatorBind (h : Fin 16) (g : Fin 17) :
    Laws.Payload.Statement (.generatorBind h g) := Laws.Payload.of_none rfl

theorem Laws.Payload.statisticsAddBurst (h : Fin 16) (g : Fin 17) :
    Laws.Payload.Statement (.statisticsAddBurst h g) := Laws.Payload.of_none rfl

theorem Laws.Payload.convert (h : Fin 16) (g : Fin 17) :
    Laws.Payload.Statement (.convert h g) := Laws.Payload.of_none rfl

theorem Laws.Payload.groupOpen (h : Fin 16) (g : Fin 17) :
    Laws.Payload.Statement (.groupOpen h g) := Laws.Payload.of_none rfl

theorem Laws.Payload.preloadRowLoad (h : Fin 16) (g : Fin 17) :
    Laws.Payload.Statement (.preloadRowLoad h g) := Laws.Payload.of_none rfl

theorem Laws.Payload.tileRecordReceive (h : Fin 16) (g : Fin 17) :
    Laws.Payload.Statement (.tileRecordReceive h g) := Laws.Payload.of_none rfl

theorem Laws.Payload.streamRingFetch (h : Fin 16) (g : Fin 17) :
    Laws.Payload.Statement (.streamRingFetch h g) := Laws.Payload.of_none rfl

theorem Laws.Payload.tileLoadHandshake (h : Fin 16) (g : Fin 17) :
    Laws.Payload.Statement (.tileLoadHandshake h g) := Laws.Payload.of_none rfl

theorem Laws.Payload.shadowSwap (h : Fin 16) (g : Fin 17) :
    Laws.Payload.Statement (.shadowSwap h g) := Laws.Payload.of_none rfl

theorem Laws.Payload.flightStage (h : Fin 16) (g : Fin 17) :
    Laws.Payload.Statement (.flightStage h g) := Laws.Payload.of_none rfl

theorem Laws.Payload.tread (h : Fin 16) (g : Fin 17) (parityFail : Bool) :
    Laws.Payload.Statement (.tread h g parityFail) := Laws.Payload.of_none rfl

theorem Laws.Payload.flightEndAdd (h : Fin 16) (g : Fin 17) :
    Laws.Payload.Statement (.flightEndAdd h g) := Laws.Payload.of_none rfl

theorem Laws.Payload.deadlineTimerExpiry (h : Fin 16) (g : Fin 17) :
    Laws.Payload.Statement (.deadlineTimerExpiry h g) := Laws.Payload.of_none rfl

theorem Laws.Payload.samplingFlight (h : Fin 16) (g : Fin 17) :
    Laws.Payload.Statement (.samplingFlight h g) := Laws.Payload.of_none rfl

theorem Laws.Payload.drainStart (h : Fin 16) (g : Fin 17) :
    Laws.Payload.Statement (.drainStart h g) := Laws.Payload.of_none rfl

theorem Laws.Payload.drainDone (h : Fin 16) (g : Fin 17) :
    Laws.Payload.Statement (.drainDone h g) := Laws.Payload.of_none rfl

theorem Laws.Payload.vectorTicketStart (h : Fin 16) (g : Fin 17) :
    Laws.Payload.Statement (.vectorTicketStart h g) := Laws.Payload.of_none rfl

theorem Laws.Payload.map (h : Fin 16) (g : Fin 17) : Laws.Payload.Statement (.map h g) := Laws.Payload.of_none rfl

theorem Laws.Payload.dot (h : Fin 16) (g : Fin 17) : Laws.Payload.Statement (.dot h g) := Laws.Payload.of_none rfl

theorem Laws.Payload.softmax (h : Fin 16) (g : Fin 17) :
    Laws.Payload.Statement (.softmax h g) := Laws.Payload.of_none rfl

theorem Laws.Payload.topk (h : Fin 16) (g : Fin 17) : Laws.Payload.Statement (.topk h g) := Laws.Payload.of_none rfl

theorem Laws.Payload.reduceSum (h : Fin 16) (g : Fin 17) :
    Laws.Payload.Statement (.reduceSum h g) := Laws.Payload.of_none rfl

theorem Laws.Payload.reduceSplitk (h : Fin 16) (g : Fin 17) :
    Laws.Payload.Statement (.reduceSplitk h g) := Laws.Payload.of_none rfl

theorem Laws.Payload.dressPanel (h : Fin 16) : Laws.Payload.Statement (.dressPanel h) := Laws.Payload.of_none rfl

theorem Laws.Payload.groupCmdClose (h : Fin 16) (g : Fin 17) (slot : Fin 8) :
    Laws.Payload.Statement (.groupCmdClose h g slot) := Laws.Payload.of_none rfl

theorem Laws.Payload.galleryMemoryAccess (h : Fin 16) (g : Fin 17) (m : GMem) (word : Nat) (write : Option (BitVec 64)) (flipped : List (Fin 144)) (contest : BankContest) : Laws.Payload.Statement (.galleryMemoryAccess h g m word write flipped contest) := Laws.Payload.of_none rfl

theorem Laws.Payload.actSplitWrite (h : Fin 16) (g : Fin 17) (value : BitVec 32) :
    Laws.Payload.Statement (.actSplitWrite h g value) := Laws.Payload.of_none rfl

theorem Laws.Payload.memOpFill (h : Fin 16) (g : Fin 17) (m : BitVec 2) :
    Laws.Payload.Statement (.memOpFill h g m) := Laws.Payload.of_none rfl

theorem Laws.Payload.memOpCopy (h : Fin 16) (g : Fin 17) (m : BitVec 2) :
    Laws.Payload.Statement (.memOpCopy h g m) := Laws.Payload.of_none rfl

theorem Laws.Payload.memOpDone (h : Fin 16) (g : Fin 17) :
    Laws.Payload.Statement (.memOpDone h g) := Laws.Payload.of_none rfl

theorem Laws.Payload.winWordRead (path : Path) (h : Fin 16) (g : Fin 17) (i : WindowRead) :
    Laws.Payload.Statement (.winWordRead path h g i) := Laws.Payload.of_none rfl

theorem Laws.Payload.winWordWrite (h : Fin 16) (g : Fin 17) (i : Fin 128) (value : BitVec 32) :
    Laws.Payload.Statement (.winWordWrite h g i value) := Laws.Payload.of_none rfl

theorem Laws.Payload.galleryRowRetire (h : Fin 16) (g : Fin 17) :
    Laws.Payload.Statement (.galleryRowRetire h g) := Laws.Payload.of_none rfl

theorem Laws.Payload.hallCacheAccess (h : Fin 16) (user : HallUser) (addr len : Nat) (write : Option Nat) (upset : LineUpset) : Laws.Payload.Statement (.hallCacheAccess h user addr len write upset) := by
  cases write with
  | none => exact Laws.Payload.of_none rfl
  | some v =>
    refine Laws.Payload.of_some rfl fun w => ?_
    simp only [Instr.wellFormed, Bool.and_eq_true, decide_eq_true_eq] at w
    exact w.2

theorem Laws.Payload.hallCacheFill (h : Fin 16) :
    Laws.Payload.Statement (.hallCacheFill h) := Laws.Payload.of_none rfl

theorem Laws.Payload.wayDisableWrite (h : Fin 16) (value : BitVec 32) :
    Laws.Payload.Statement (.wayDisableWrite h value) := Laws.Payload.of_none rfl

theorem Laws.Payload.wayWalkStep (h : Fin 16) : Laws.Payload.Statement (.wayWalkStep h) := Laws.Payload.of_none rfl

theorem Laws.Payload.sectorAccess (who : Requester) (addr : Nat) (op : SectorOp) (cycle : SectorCycle) : Laws.Payload.Statement (.sectorAccess who addr op cycle) := by
  intro w d hd
  simp only [Instr.wellFormed, SectorAccess.wellFormed, Bool.and_eq_true] at w
  rcases List.mem_append.1 hd with hd | hd
  · exact SectorOp.data_fits w.1.2 d (Option.mem_toList.1 hd)
  · obtain ⟨a, ha, hd⟩ := List.mem_filterMap.1 hd
    have wa := List.all_eq_true.1 w.2 a ha
    simp only [SectorAccess.wellFormed, Bool.and_eq_true] at wa
    exact SectorOp.data_fits wa.2 d hd

theorem Laws.Payload.refreshWindow (h : Fin 16) :
    Laws.Payload.Statement (.refreshWindow h) := Laws.Payload.of_none rfl

theorem Laws.Payload.patrolStep (h : Fin 16) : Laws.Payload.Statement (.patrolStep h) := Laws.Payload.of_none rfl

theorem Laws.Payload.dramLaneRepair (h : Fin 16) :
    Laws.Payload.Statement (.dramLaneRepair h) := Laws.Payload.of_none rfl

theorem Laws.Payload.dramRowSpare (h : Fin 16) : Laws.Payload.Statement (.dramRowSpare h) := Laws.Payload.of_none rfl

theorem Laws.Payload.dramRowSpareDone (h : Fin 16) :
    Laws.Payload.Statement (.dramRowSpareDone h) := Laws.Payload.of_none rfl

theorem Laws.Payload.dieRetire (h : Fin 16) (value : BitVec 32) :
    Laws.Payload.Statement (.dieRetire h value) := Laws.Payload.of_none rfl

theorem Laws.Payload.migrationDone (h : Fin 16) :
    Laws.Payload.Statement (.migrationDone h) := Laws.Payload.of_none rfl

theorem Laws.Payload.mapWrite (path : Path) (hi : BitVec 32) :
    Laws.Payload.Statement (.mapWrite path hi) := Laws.Payload.of_none rfl

theorem Laws.Payload.linkRetrain (l : Fin 8) : Laws.Payload.Statement (.linkRetrain l) := Laws.Payload.of_none rfl

theorem Laws.Payload.linkTrainingAttemptEnd (l : Fin 8) (found : Training) :
    Laws.Payload.Statement (.linkTrainingAttemptEnd l found) := Laws.Payload.of_none rfl

theorem Laws.Payload.linkLockLoss (l : Fin 8) : Laws.Payload.Statement (.linkLockLoss l) := Laws.Payload.of_none rfl

theorem Laws.Payload.fenzinLaneSpare (l : Fin 8) (lane : Fin 17) :
    Laws.Payload.Statement (.fenzinLaneSpare l lane) := Laws.Payload.of_none rfl

theorem Laws.Payload.flitSend (l : Fin 9) : Laws.Payload.Statement (.flitSend l) := Laws.Payload.of_none rfl

theorem Laws.Payload.channelClaim (l : Fin 9) (c : Fin 16) :
    Laws.Payload.Statement (.channelClaim l c) := Laws.Payload.of_none rfl

theorem Laws.Payload.historyReadDone (l : Fin 9) (c : Fin 16) :
    Laws.Payload.Statement (.historyReadDone l c) := Laws.Payload.of_none rfl

theorem Laws.Payload.replayTimerExpiry (l : Fin 8) :
    Laws.Payload.Statement (.replayTimerExpiry l) := Laws.Payload.of_none rfl

theorem Laws.Payload.head (l : Fin 9) (f : Flit) : Laws.Payload.Statement (.head l f) := Laws.Payload.of_some rfl fun w => by
    simpa [Instr.wellFormed, Flit.wellFormed] using w

theorem Laws.Payload.body (l : Fin 9) (f : Flit) : Laws.Payload.Statement (.body l f) := Laws.Payload.of_some rfl fun w => by
    simpa [Instr.wellFormed, Flit.wellFormed] using w

theorem Laws.Payload.esc (l : Fin 9) (f : Flit) : Laws.Payload.Statement (.esc l f) := Laws.Payload.of_some rfl fun w => by
    simpa [Instr.wellFormed, Flit.wellFormed] using w

theorem Laws.Payload.endFlit (l : Fin 9) (f : Flit) : Laws.Payload.Statement (.endFlit l f) := Laws.Payload.of_some rfl fun w => by
    simpa [Instr.wellFormed, Flit.wellFormed] using w

theorem Laws.Payload.abort (l : Fin 9) (f : Flit) : Laws.Payload.Statement (.abort l f) := Laws.Payload.of_some rfl fun w => by
    simpa [Instr.wellFormed, Flit.wellFormed] using w

theorem Laws.Payload.ctrl (l : Fin 9) (f : Flit) : Laws.Payload.Statement (.ctrl l f) := Laws.Payload.of_some rfl fun w => by
    simpa [Instr.wellFormed, Flit.wellFormed] using w

theorem Laws.Payload.receiveWriteAccept (l : Fin 9) (c : Fin 16) :
    Laws.Payload.Statement (.receiveWriteAccept l c) := Laws.Payload.of_none rfl

theorem Laws.Payload.receiveEndCommit (l : Fin 9) (c : Fin 16) :
    Laws.Payload.Statement (.receiveEndCommit l c) := Laws.Payload.of_none rfl

theorem Laws.Payload.ackEnd (l : Fin 9) (c : Fin 16) :
    Laws.Payload.Statement (.ackEnd l c) := Laws.Payload.of_none rfl

theorem Laws.Payload.nack (l : Fin 9) (c : Fin 16) (code : BitVec 8) :
    Laws.Payload.Statement (.nack l c code) := Laws.Payload.of_none rfl

theorem Laws.Payload.ackTimerExpiry (l : Fin 9) (c : Fin 16) :
    Laws.Payload.Statement (.ackTimerExpiry l c) := Laws.Payload.of_none rfl

theorem Laws.Payload.regRd (tag : BitVec 10) (addr : BitVec 64) (len : Nat) :
    Laws.Payload.Statement (.regRd tag addr len) := Laws.Payload.of_none rfl

theorem Laws.Payload.regWr (tag : BitVec 10) (addr : BitVec 64) (len : Nat) (value : BitVec 32) :
    Laws.Payload.Statement (.regWr tag addr len value) := Laws.Payload.of_none rfl

theorem Laws.Payload.aptRd (tag : BitVec 10) (addr : BitVec 64) (len : Nat) :
    Laws.Payload.Statement (.aptRd tag addr len) := Laws.Payload.of_none rfl

theorem Laws.Payload.aptWr (addr : BitVec 64) (len : Nat) (value : Nat) : Laws.Payload.Statement (.aptWr addr len value) := Laws.Payload.of_some rfl fun w => by
    simp only [Instr.wellFormed, Bool.and_eq_true, decide_eq_true_eq] at w
    exact w.2

theorem Laws.Payload.cpl (tag : BitVec 10) (status : BitVec 4) (len : Nat) (value : Nat) : Laws.Payload.Statement (.cpl tag status len value) := Laws.Payload.of_some rfl fun w => by
    simp only [Instr.wellFormed, Bool.and_eq_true, decide_eq_true_eq] at w
    exact w.2

theorem Laws.Payload.credit (posted nonposted : BitVec 32) :
    Laws.Payload.Statement (.credit posted nonposted) := Laws.Payload.of_none rfl

theorem Laws.Payload.nop : Laws.Payload.Statement (.nop) := Laws.Payload.of_none rfl

theorem Laws.Payload.unknownPacket (type : BitVec 8) (units : Nat) :
    Laws.Payload.Statement (.unknownPacket type units) := Laws.Payload.of_none rfl

theorem Laws.Payload.hostRd : Laws.Payload.Statement (.hostRd) := Laws.Payload.of_none rfl

theorem Laws.Payload.cplTimeout (tag : Fin 512) : Laws.Payload.Statement (.cplTimeout tag) := Laws.Payload.of_none rfl

theorem Laws.Payload.vecCtrlWrite (v : Fin 64) (mask : Bool) (signalled : Bool) :
    Laws.Payload.Statement (.vecCtrlWrite v mask signalled) := Laws.Payload.of_none rfl

theorem Laws.Payload.ucieModuleLoss (m : Fin 16) :
    Laws.Payload.Statement (.ucieModuleLoss m) := Laws.Payload.of_none rfl

theorem Laws.Payload.ucieRetrainDone (modules : ModuleTraining) (repaired : Bool) :
    Laws.Payload.Statement (.ucieRetrainDone modules repaired) := Laws.Payload.of_none rfl

theorem Laws.Payload.moduleCrcThreshold (m : Fin 16) :
    Laws.Payload.Statement (.moduleCrcThreshold m) := Laws.Payload.of_none rfl

theorem Laws.Payload.hifRetrain : Laws.Payload.Statement (.hifRetrain) := Laws.Payload.of_none rfl

theorem Laws.Payload.sidebandRequest (addr : BitVec 64) (call : SidebandCall) :
    Laws.Payload.Statement (.sidebandRequest addr call) := Laws.Payload.of_none rfl

theorem Laws.Payload.sidebandFailover : Laws.Payload.Statement (.sidebandFailover) := Laws.Payload.of_none rfl

theorem Laws.Payload.treadWatchdogExpiry (h : Fin 16) (g : Fin 17) (k : GalleryFault) :
    Laws.Payload.Statement (.treadWatchdogExpiry h g k) := Laws.Payload.of_none rfl

theorem Laws.Payload.fcReport (reports : List Report) :
    Laws.Payload.Statement (.fcReport reports) := Laws.Payload.of_none rfl

theorem Laws.Payload.clearTable (reports : List Report) :
    Laws.Payload.Statement (.clearTable reports) := Laws.Payload.of_none rfl

theorem Laws.Payload.drain (h : Fin 16) (g : Fin 17) : Laws.Payload.Statement (.drain h g) := Laws.Payload.of_none rfl

theorem Laws.Payload.abandon (h : Fin 16) (g : Fin 17) :
    Laws.Payload.Statement (.abandon h g) := Laws.Payload.of_none rfl

theorem Laws.Payload.swap (h : Fin 16) (g : Fin 17) (target : Fin 32) :
    Laws.Payload.Statement (.swap h g target) := Laws.Payload.of_none rfl

theorem Laws.Payload.galleryResume (h : Fin 16) (g : Fin 17) :
    Laws.Payload.Statement (.galleryResume h g) := Laws.Payload.of_none rfl

theorem Laws.Payload.quiesceSet (h : Fin 16) (g : Fin 17) :
    Laws.Payload.Statement (.quiesceSet h g) := Laws.Payload.of_none rfl

theorem Laws.Payload.quiesceClear (h : Fin 16) (g : Fin 17) :
    Laws.Payload.Statement (.quiesceClear h g) := Laws.Payload.of_none rfl

theorem Laws.Payload.galleryScrub (h : Fin 16) (g : Fin 17) :
    Laws.Payload.Statement (.galleryScrub h g) := Laws.Payload.of_none rfl

theorem Laws.Payload.galleryQuiescent (h : Fin 16) (g : Fin 17) :
    Laws.Payload.Statement (.galleryQuiescent h g) := Laws.Payload.of_none rfl

theorem Laws.Payload.hallRetire (h : Fin 16) : Laws.Payload.Statement (.hallRetire h) := Laws.Payload.of_none rfl

theorem Laws.Payload.hallRetireFlush (h : Fin 16) :
    Laws.Payload.Statement (.hallRetireFlush h) := Laws.Payload.of_none rfl

theorem Laws.Payload.hallRetireDone (h : Fin 16) :
    Laws.Payload.Statement (.hallRetireDone h) := Laws.Payload.of_none rfl

theorem Laws.Payload.autoRepair : Laws.Payload.Statement (.autoRepair) := Laws.Payload.of_none rfl

theorem Laws.Payload.load : Laws.Payload.Statement (.load) := Laws.Payload.of_none rfl

theorem Laws.Payload.imageVerifyDone : Laws.Payload.Statement (.imageVerifyDone) := Laws.Payload.of_none rfl

theorem Laws.Payload.switch : Laws.Payload.Statement (.switch) := Laws.Payload.of_none rfl

theorem Laws.Payload.revert : Laws.Payload.Statement (.revert) := Laws.Payload.of_none rfl

theorem Laws.Payload.fwSwitchBegin : Laws.Payload.Statement (.fwSwitchBegin) := Laws.Payload.of_none rfl

theorem Laws.Payload.fwReady : Laws.Payload.Statement (.fwReady) := Laws.Payload.of_none rfl

theorem Laws.Payload.fwReadyTimeout : Laws.Payload.Statement (.fwReadyTimeout) := Laws.Payload.of_none rfl

theorem Laws.Payload.challenge : Laws.Payload.Statement (.challenge) := Laws.Payload.of_none rfl

theorem Laws.Payload.attest : Laws.Payload.Statement (.attest) := Laws.Payload.of_none rfl

theorem Laws.Payload.transition (path : Path) (move : Move) :
    Laws.Payload.Statement (.transition path move) := Laws.Payload.of_none rfl

theorem Laws.Payload.commitSvn : Laws.Payload.Statement (.commitSvn) := Laws.Payload.of_none rfl

theorem Laws.Payload.eraseRecord : Laws.Payload.Statement (.eraseRecord) := Laws.Payload.of_none rfl

theorem Laws.Payload.writeCert : Laws.Payload.Statement (.writeCert) := Laws.Payload.of_none rfl

theorem Laws.Payload.sebCommandDone : Laws.Payload.Statement (.sebCommandDone) := Laws.Payload.of_none rfl

theorem Laws.Payload.powerOnReset : Laws.Payload.Statement (.powerOnReset) := Laws.Payload.of_none rfl

theorem Laws.Payload.pinReset (lowNs : Nat) (pulse : PinPulse) :
    Laws.Payload.Statement (.pinReset lowNs pulse) := Laws.Payload.of_none rfl

theorem Laws.Payload.hostReset (write : ResetWrite) :
    Laws.Payload.Statement (.hostReset write) := Laws.Payload.of_none rfl

theorem Laws.Payload.sagReset : Laws.Payload.Statement (.sagReset) := Laws.Payload.of_none rfl

theorem Laws.Payload.thermalReset (trip : ThermalTrip) :
    Laws.Payload.Statement (.thermalReset trip) := Laws.Payload.of_none rfl

theorem Laws.Payload.resetRelease (release : Release) :
    Laws.Payload.Statement (.resetRelease release) := Laws.Payload.of_none rfl

theorem Laws.Payload.fusesDone : Laws.Payload.Statement (.fusesDone) := Laws.Payload.of_none rfl

theorem Laws.Payload.bootDone : Laws.Payload.Statement (.bootDone) := Laws.Payload.of_none rfl

theorem Laws.Payload.mcInitDone : Laws.Payload.Statement (.mcInitDone) := Laws.Payload.of_none rfl

theorem Laws.Payload.trainDone : Laws.Payload.Statement (.trainDone) := Laws.Payload.of_none rfl

theorem Laws.Payload.wipeDone (failures : List SelfTest) :
    Laws.Payload.Statement (.wipeDone failures) := Laws.Payload.of_none rfl

theorem Laws.Payload.jtagTapReset : Laws.Payload.Statement (.jtagTapReset) := Laws.Payload.of_none rfl

theorem Laws.Payload.jtagInstructionUpdate (i : JtagInstr) :
    Laws.Payload.Statement (.jtagInstructionUpdate i) := Laws.Payload.of_none rfl

theorem Laws.Payload.retiredTagRelease (tag : Fin 512) :
    Laws.Payload.Statement (.retiredTagRelease tag) := Laws.Payload.of_none rfl

theorem Laws.Payload.corruptFlit (l : Fin 9) (type : BitVec 4) (f : Flit) : Laws.Payload.Statement (.corruptFlit l type f) := Laws.Payload.of_some rfl fun w => by
    simp only [Instr.wellFormed, Flit.wellFormed, Bool.and_eq_true, decide_eq_true_eq] at w
    exact w.2

theorem Laws.Payload.mcDebugPortAccess (word : DebugWord) :
    Laws.Payload.Statement (.mcDebugPortAccess word) := Laws.Payload.of_none rfl

end Sys2Proof
end

