-- ==== Sys2Proof/Laws/Signals.lean ====
section
/-! SUPPORT. What packets, messages, STICKY bits and reports leave of the registers: they write the
host interface page, the STICKY register that is set, and the fault concentrator's page, and no other
field. -/

namespace Sys2Proof.Machine

/-- A field lies in its page and in the low word of its offset. -/
def Fld.inPage (f : Fld) : Bool := decide (f.off < 4096) && decide (f.lsb < 32)

theorem rd_wr_other (s : State) (p q : Page) (f g : Fld) (v : Nat) (hp : q ≠ p) (hf : f.inPage = true)
    (hg : g.inPage = true) : rd (wr s p f v) q g = rd s q g := by
  simp only [Fld.inPage, Bool.and_eq_true, decide_eq_true_eq] at hf hg
  exact rd_wr_page s p q f g v hp hf.1 hg.1 hf.2 hg.2

theorem rd_count_other (s : State) (p q : Page) (f g : Fld) (n : Nat) (hp : q ≠ p) (hf : f.inPage = true)
    (hg : g.inPage = true) : rd (count s p f n) q g = rd s q g := rd_wr_other s p q f g _ hp hf hg

theorem rd_bump_other (s : State) (p q : Page) (f g : Fld) (hp : q ≠ p) (hf : f.inPage = true)
    (hg : g.inPage = true) : rd (bump s p f) q g = rd s q g := rd_wr_other s p q f g _ hp hf hg

@[simp] theorem rd_count (s : State) (p : Page) (f : Fld) (n : Nat) :
    rd (count s p f n) p f = min (rd s p f + n) (2 ^ f.width - 1) := by
  unfold count
  rw [rd_wr]
  have : 0 < 2 ^ f.width := Nat.two_pow_pos _
  exact Nat.mod_eq_of_lt (by omega)

@[simp] theorem rd_bump (s : State) (p : Page) (f : Fld) :
    rd (bump s p f) p f = min (rd s p f + 1) (2 ^ f.width - 1) := rd_count s p f 1

/-! ### Packets -/

/-- Units of the stream write no register field. -/
theorem foldl_sendUnit_regs (l : List Nat) (s : State) : (l.foldl sendUnit s).regs = s.regs := by
  induction l generalizing s with
  | nil => rfl
  | cons u l ih => exact ih (sendUnit s u)

section Other

variable {q : Page} {g : Fld} (hq : q ≠ .hif) (hg : g.inPage = true)

include hq hg

theorem rd_emit (s : State) (p : Packet) : rd (emit s p) q g = rd s q g := by
  refine (rd_congr (s := count _ .hif Reg.hif.UNITS_TX p.units) (foldl_sendUnit_regs _ _) q g).trans ?_
  rw [rd_count_other _ _ _ _ _ _ hq (by decide) hg]
  repeat' first
    | rfl
    | rw [rd_bump_other _ _ _ _ _ hq (by decide) hg]
    | rw [rd_wr_other _ _ _ _ _ _ hq (by decide) hg]
    | split

theorem rd_noteWait (s : State) (e : Queued) : rd (noteWait s e).1 q g = rd s q g := by
  unfold noteWait
  split
  · exact rd_bump_other _ _ _ _ _ hq (by decide) hg
  · rfl

theorem rd_pump (s : State) (a b : Bool) (ps : List Queued) : rd (pump s a b ps).1 q g = rd s q g := by
  induction ps generalizing s a b with
  | nil => rfl
  | cons e ps ih =>
    rw [pump]
    split
    · exact ih s _ _
    · split
      · rw [ih, rd_emit hq hg]
      · exact (ih _ _ _).trans (rd_noteWait hq hg s e)

theorem rd_flushQueue (s : State) : rd (flushQueue s) q g = rd s q g := by
  unfold flushQueue
  split
  · rfl
  · exact rd_pump hq hg _ _ _ _

theorem rd_transmitFor (s : State) (o : Option Owner) (p : Packet) : rd (transmitFor s o p) q g = rd s q g :=
  rd_flushQueue hq hg _

theorem rd_transmit (s : State) (p : Packet) : rd (transmit s p) q g = rd s q g := rd_transmitFor hq hg s none p

theorem rd_sendMsg (r : State → Nat → State) (hr : ∀ s b, rd (r s b) q g = rd s q g) (s : State) (v : Nat) :
    rd (sendMsg r s v) q g = rd s q g := by
  unfold sendMsg
  extract_lets a
  split
  · rw [hr]
    exact rd_bump_other _ _ _ _ _ hq (by decide) hg
  · split
    · exact rd_transmit hq hg _ _
    · rw [hr]
      exact rd_bump_other _ _ _ _ _ hq (by decide) hg

theorem rd_signalWith (r : State → Nat → State) (hr : ∀ s b, rd (r s b) q g = rd s q g) (s : State) (v : Nat) :
    rd (signalWith r s v) q g = rd s q g := by
  unfold signalWith
  split
  · refine rd_wr_other _ _ _ _ _ _ hq ?_ hg
    simp only [Fld.inPage, Reg.hif.VEC_CTRL_PENDING, Bool.and_eq_true]
    exact ⟨decide_eq_true (by omega), rfl⟩
  · exact rd_sendMsg hq hg r hr _ _

end Other

/-! ### STICKY bits -/

theorem rd_raise {q : Page} {g : Fld} (hq : q ≠ .hif) (hg : g.inPage = true) (n : Nat) (s : State) (p : Page) (b : Nat)
    (hk : key q g ≠ key p Reg.hdr.STICKY) : rd (raise n s p b) q g = rd s q g := by
  induction n generalizing s p b with
  | zero => rfl
  | succ n ih =>
    have hr : ∀ u c, rd (raise n u .hif c) q g = rd u q g := by
      intro u c
      refine ih u .hif c fun e => hq ?_
      simp only [Fld.inPage, Bool.and_eq_true, decide_eq_true_eq] at hg
      exact ((key_inj (p := q) (q := .hif) hg.1 (by decide) hg.2 (by decide)).1 e).1
    rw [raise]
    split
    · rfl
    · extract_lets t
      have ht : rd t q g = rd s q g := rd_wr_ne _ _ _ _ _ _ hk
      clear_value t
      split
      · rw [rd_signalWith hq hg _ hr, ht]
      · exact ht

/-- Setting a STICKY bit leaves every field but STICKY itself and the host interface page. -/
theorem rd_setSticky {q : Page} {g : Fld} (hq : q ≠ .hif) (hg : g.inPage = true) (s : State) (p : Page) (b : Nat)
    (hk : key q g ≠ key p Reg.hdr.STICKY) : rd (setSticky s p b) q g = rd s q g := rd_raise hq hg 4 s p b hk

/-- Setting a STICKY bit of one page leaves the fields of another, but for the host interface page. -/
theorem rd_setSticky_page {q : Page} {g : Fld} (hq : q ≠ .hif) (hg : g.inPage = true) (s : State) (p : Page) (b : Nat)
    (hp : q ≠ p) : rd (setSticky s p b) q g = rd s q g := by
  refine rd_setSticky hq hg s p b fun e => hp ?_
  simp only [Fld.inPage, Bool.and_eq_true, decide_eq_true_eq] at hg
  exact ((key_inj (p := q) (q := p) hg.1 (by decide) hg.2 (by decide)).1 e).1

/-- Setting a STICKY bit leaves the other fields of its own page. -/
theorem rd_setSticky_own {p : Page} {g : Fld} (hp : p ≠ .hif) (hg : g.inPage = true) (s : State) (b : Nat)
    (ho : g.off ≠ 0x018) : rd (setSticky s p b) p g = rd s p g := by
  refine rd_setSticky hp hg s p b fun e => ho ?_
  simp only [Fld.inPage, Bool.and_eq_true, decide_eq_true_eq] at hg
  exact ((key_inj (p := p) (q := p) hg.1 (by decide) hg.2 (by decide)).1 e).2.1

theorem bit_eq (x i : Nat) : bit x i = x.testBit i := by
  unfold bit bits
  rw [Nat.testBit_eq_decide_div_mod_eq, Nat.shiftRight_eq_div_pow]
  rfl

theorem sticky_other {s t : State} {q : Page} (h : rd t q Reg.hdr.STICKY = rd s q Reg.hdr.STICKY) (b : Nat) :
    sticky t q b = sticky s q b := by
  unfold sticky
  rw [h]

/-- A write to STICKY that sets a bit sets it and keeps the others. -/
theorem sticky_wr (s : State) (p : Page) (b i : Nat) (hi : i < 32) :
    sticky (wr s p Reg.hdr.STICKY (rd s p Reg.hdr.STICKY ||| 2 ^ b)) p i = (sticky s p i || decide (b = i)) := by
  unfold sticky
  rw [rd_wr]
  simp only [bit_eq, Nat.testBit_mod_two_pow, Nat.testBit_or, Nat.testBit_two_pow, Reg.hdr.STICKY]
  simp [hi]

/-- Two pages' STICKY registers are the same only if the pages are. -/
theorem key_sticky {p q : Page} (h : key q Reg.hdr.STICKY = key p Reg.hdr.STICKY) : q = p :=
  ((key_inj (by decide) (by decide) (by decide) (by decide)).1 h).1

theorem sticky_wr_page (s : State) (p q : Page) (b i : Nat) (hi : i < 32) (h : sticky s q i = true) :
    sticky (wr s p Reg.hdr.STICKY (rd s p Reg.hdr.STICKY ||| 2 ^ b)) q i = true := by
  by_cases e : q = p
  · subst e
    rw [sticky_wr s q b i hi, h]
    rfl
  · rw [sticky_other (rd_wr_ne _ _ _ _ _ _ fun k => e (key_sticky k))]
    exact h

/-! A STICKY bit that is set stays set when packets, messages and other STICKY bits are sent or set. -/

theorem sticky_hif_wr (s : State) (f : Fld) (v : Nat) (q : Page) (i : Nat) (hf : f.inPage = true) (ho : f.off ≠ 0x018) :
    sticky (wr s .hif f v) q i = sticky s q i := by
  refine sticky_other (rd_wr_ne _ _ _ _ _ _ fun k => ho ?_) i
  simp only [Fld.inPage, Bool.and_eq_true, decide_eq_true_eq] at hf
  exact (((key_inj (by decide) hf.1 (by decide) hf.2).1 k).2.1).symm

theorem sticky_emit (s : State) (p : Packet) (q : Page) (i : Nat) : sticky (emit s p) q i = sticky s q i := by
  refine (sticky_other (s := count _ .hif Reg.hif.UNITS_TX p.units) (rd_congr (foldl_sendUnit_regs _ _) q _) i).trans ?_
  unfold bump count
  rw [sticky_hif_wr _ _ _ _ _ (by decide) (by decide)]
  repeat' first
    | rfl
    | rw [sticky_hif_wr _ _ _ _ _ (by decide) (by decide)]
    | split

theorem sticky_noteWait (s : State) (e : Queued) (q : Page) (i : Nat) : sticky (noteWait s e).1 q i = sticky s q i := by
  unfold noteWait
  split
  · exact sticky_hif_wr _ _ _ _ _ (by decide) (by decide)
  · rfl

theorem sticky_pump (s : State) (a b : Bool) (ps : List Queued) (q : Page) (i : Nat) :
    sticky (pump s a b ps).1 q i = sticky s q i := by
  induction ps generalizing s a b with
  | nil => rfl
  | cons e ps ih =>
    rw [pump]
    split
    · exact ih s _ _
    · split
      · rw [ih, sticky_emit]
      · exact (ih _ _ _).trans (sticky_noteWait s e q i)

theorem sticky_flushQueue (s : State) (q : Page) (i : Nat) : sticky (flushQueue s) q i = sticky s q i := by
  unfold flushQueue
  split
  · rfl
  · exact sticky_pump _ _ _ _ _ _

theorem sticky_transmit (s : State) (p : Packet) (q : Page) (i : Nat) : sticky (transmit s p) q i = sticky s q i :=
  sticky_flushQueue _ q i

theorem sticky_signalWith (r : State → Nat → State) (q : Page) (i : Nat)
    (hr : ∀ s b, sticky s q i = true → sticky (r s b) q i = true) (s : State) (v : Nat) (h : sticky s q i = true) :
    sticky (signalWith r s v) q i = true := by
  unfold signalWith sendMsg
  extract_lets a
  split
  · rw [sticky_hif_wr _ _ _ _ _ ?_ ?_]
    · exact h
    · simp only [Fld.inPage, Reg.hif.VEC_CTRL_PENDING, Bool.and_eq_true]
      exact ⟨decide_eq_true (by omega), rfl⟩
    · simp only [Reg.hif.VEC_CTRL_PENDING]
      omega
  · split
    · apply hr
      unfold bump count
      rw [sticky_hif_wr _ _ _ _ _ (by decide) (by decide)]
      exact h
    · split
      · rw [sticky_transmit]
        exact h
      · apply hr
        unfold bump count
        rw [sticky_hif_wr _ _ _ _ _ (by decide) (by decide)]
        exact h

/-- Setting STICKY bits clears none. -/
theorem sticky_raise_mono (n : Nat) (s : State) (p q : Page) (b i : Nat) (hi : i < 32) (h : sticky s q i = true) :
    sticky (raise n s p b) q i = true := by
  induction n generalizing s p b with
  | zero => exact h
  | succ n ih =>
    rw [raise]
    split
    · exact h
    · extract_lets t
      have ht : sticky t q i = true := sticky_wr_page s p q b i hi h
      clear_value t
      split
      · exact sticky_signalWith _ q i (fun u c hu => ih u .hif c hu) _ _ ht
      · exact ht

/-- Setting a STICKY bit sets it (R384). -/
theorem sticky_setSticky (s : State) (p : Page) (b : Nat) (hb : b < 32) : sticky (setSticky s p b) p b = true := by
  unfold setSticky
  rw [raise]
  split
  · assumption
  · extract_lets t
    have ht : sticky t p b = true := by
      show sticky (wr s p Reg.hdr.STICKY _) p b = true
      rw [sticky_wr s p b b hb]
      simp
    clear_value t
    split
    · exact sticky_signalWith _ p b (fun u c hu => sticky_raise_mono _ u .hif p c b hb hu) _ _ ht
    · exact ht

/-- Setting a STICKY bit clears none. -/
theorem sticky_setSticky_mono (s : State) (p q : Page) (b i : Nat) (hi : i < 32) (h : sticky s q i = true) :
    sticky (setSticky s p b) q i = true := sticky_raise_mono 4 s p q b i hi h

end Sys2Proof.Machine
end

