-- ==== Sys2Proof/Laws/Registers.lean ====
section
/-! SUPPORT. Where the fields of a page lie, and what register accesses answer. -/

namespace Sys2Proof.Machine

/-- Every field after the header lies from offset 0x040 on and inside its page. -/
theorem own_all (p : Page) : p.own.all (fun e => decide (0x040 ≤ e.1.off) && e.1.inPage) = true := by
  cases p <;> (simp only [Page.own]; decide +kernel)

theorem own_off {p : Page} {e : Fld × Acc} (h : e ∈ p.own) : 0x040 ≤ e.1.off ∧ e.1.inPage = true := by
  have := List.all_eq_true.1 (own_all p) e h
  simpa [Bool.and_eq_true] using this

theorem headerRows_inPage {p : Page} {e : Fld × Acc} (h : e ∈ headerRows p) : e.1.inPage = true := by
  simp only [headerRows, List.mem_cons, List.not_mem_nil, or_false] at h
  rcases h with h | h | h | h | h | h | h | h | h | h | h <;> (subst h; rfl)

/-- Every stored field lies inside its page. -/
theorem rows_inPage {p : Page} {e : Fld × Acc} (h : e ∈ p.rows) : e.1.inPage = true := by
  rcases List.mem_append.1 h with h | h
  · exact headerRows_inPage h
  · exact (own_off h).2

/-- No field of the register tables clears on a read. -/
theorem own_rc (p : Page) : p.own.all (fun e => e.2 != .rc) = true := by
  cases p <;> (simp only [Page.own]; decide +kernel)

@[simp] theorem rcFields_nil (p : Page) (off : Nat) : rcFields p off = [] := by
  unfold rcFields
  rw [List.map_eq_nil_iff, List.filter_eq_nil_iff]
  intro e he
  rcases List.mem_append.1 he with h | h
  · simp only [headerRows, List.mem_cons, List.not_mem_nil, or_false] at h
    rcases h with h | h | h | h | h | h | h | h | h | h | h <;> (subst h; simp)
  · have := List.all_eq_true.1 (own_rc p) e h
    simp_all

/-- The header fields at an offset below 0x040 are the only ones there. -/
theorem rows_header (p : Page) (off : Nat) (h : off < 0x040) :
    p.rows.filter (fun e => e.1.off == off && e.1.width != 64)
      = (headerRows p).filter (fun e => e.1.off == off && e.1.width != 64) := by
  unfold Page.rows
  rw [List.filter_append]
  have : p.own.filter (fun e => e.1.off == off && e.1.width != 64) = [] := by
    rw [List.filter_eq_nil_iff]
    intro e he
    have := (own_off he).1
    have hne : (e.1.off == off) = false := by simp; omega
    simp [hne]
  rw [this, List.append_nil]

end Sys2Proof.Machine
end

