-- ==== Sys2Proof/Tests/Slice0.lean ====
section
/-! SUPPORT. The author's own tests: ill-formed terms that the checks refuse, the manual's worked examples, values
from the standards it names, single steps, and for every statement with hypotheses a state and operands that meet
them. -/

namespace Sys2Proof.Tests
open Machine

set_option Elab.async false
set_option linter.unusedVariables false

/-! ### Small states -/

/-- Register fields written one after another. -/
def poke (s : State) (ws : List (Page × Fld × Nat)) : State := ws.foldl (fun s w => wr s w.1 w.2.1 w.2.2) s

/-- The device at READY, with an identity key of its own. -/
def up : State := poke { State.reset with seb := { Seb.reset with idKey := some (35, 5, 29), cert := some (4, 77) } } [(.reset, Reg.rst.PHASE, 6)]

/-- At READY, with the mainband up and credits granted. -/
def net : State := poke up [(.hif, Reg.hif.HIF_STATE_UP, 1), (.hif, Reg.hif.HOST_CREDIT_SEEN, 1),
  (.hif, Reg.hif.POSTED, 100), (.hif, Reg.hif.NONPOSTED, 10), (.hif, Reg.hif.ACTIVE_MASK, 0xFFFF)]

/-- A list entry's image: opcode and header bits, ARG, RECORD, and OP0 to OP3. -/
def ent (head arg rec a b c d : Nat) : Nat :=
  head + arg * 2 ^ 32 + rec * 2 ^ 128 + a * 2 ^ 192 + b * 2 ^ 256 + c * 2 ^ 320 + d * 2 ^ 384

/-- An entry that has been fetched. -/
def curOf (img : Nat) : Current := { addr := 4096, img := img, stage := .fetched }

/-- Stairwell 3 runs with this entry at the head of its list. -/
def atEnt (img : Nat) : Stairwell := { Stairwell.reset with state := .running, cur := some (curOf img) }

/-- A tracked entry. -/
def trk (img : Nat) (b : Body) : Tracked := { addr := 4096, img := img, killed := false, body := b }

/-- The wait of a WAIT_WORD whose read is under way. -/
def wait0 : Wait := { reading := true, word := .pending, wake := false, timed := true }

/-- An image from its fields, by byte offset. -/
def img (fs : List (Nat × Nat)) : Nat := (fs.map fun f => f.2 * 2 ^ (8 * f.1)).sum

/-- The state after `n` bytes have been written in device memory. -/
def store (s : State) (a n v : Nat) : State := (memWrite s .mc a n v).1

/-- A MATMUL of 4 rows, 128 columns and 16 terms: 1-bit weights, 8-bit codes, FP32 out. -/
def desc0 : Nat := img [(0, 1), (4, 0x10), (5, 0x07), (6, 0x30), (8, 4), (0x0C, 128), (0x10, 16), (0x14, 4),
  (0x20, 512), (0x24, 512), (0x30, 0x10000), (0x38, 0x20000), (0x48, 0x30000), (0x50, 0x40000), (0x58, 0x50000),
  (0x60, 0x60000), (0x98, 0x70000)]

/-- The same, requantised to 8-bit codes. -/
def desc1 : Nat := setBits desc0 (8 * 6) 8 0x07

/-- A job of a descriptor, in slot 0 of stairwell 3, its tally made. -/
def jobOf (d : Nat) : Job :=
  { newJob 3 0 d with stage := .tallied, conv := some 0, units := 1 }

/-- A job whose one unit has been handed out. -/
def jobRun (d : Nat) : Job := { jobOf d with next := 1, held := 1 }

/-- Ticket 7 of a job. -/
def tkt (d : Nat) : Ticket := { newTicket (jobOf d) 7 [0] false with opened := 1 }

/-- A state with jobs at the dispatcher. -/
def withJobs (s : State) (js : List Job) : State := { s with disp := { s.disp with jobs := js } }

/-- A window, open. -/
def win0 : Window :=
  { entry := 0, tag := 5, addr := 4096, param := 0x3000, len := 320, sw := 3, live := true, closing := false, begun := [] }

/-- The same with floating-point activations, converted on entry. -/
def desc2 : Nat := desc0 + 2 ^ 8

/-- The same with PRELOAD. -/
def desc3 : Nat := desc0 + 2 ^ 7

/-- A conversion block: T = 1, 8-bit codes from FP32, stochastic rounding, statistics at 0x9000. -/
def conv0 : Nat := img [(0, 0x3F800000), (6, 0x07), (7, 0x30), (8, 5), (10, 5), (0x10, 99), (0x28, 0x9000)]

/-- A job that converts, with its conversion block. -/
def jobConv (d : Nat) : Job := { jobRun d with conv := some conv0, aux := some conv0 }

/-- One converted row's statistics. -/
def stat0 : RowStats :=
  { sqerr := 3, zero := false, flushed := false, clipped := 1, boulders := 0, dropped := 0, clamped := false,
    maxAbs := 9, maxScale := 2 }

/-- The group of ticket 7's first output tile, its tile not yet run. -/
def grp (d : Nat) : Group := newGroup { tkt d with opened := 0 } (jobRun d) (0, 0, 0, 0) 0 0 0 false []

/-- The tile of `desc0` with the given image, loaded. -/
def tile0 (image : Nat) : TileReg :=
  { serial := 7, tile := 0, record := 0, image := image, size := 2144, loaded := 5, total := 5, waited := false
    landWaited := false, wa := 8, ww := 1, shape := 0 }

/-- A tile head for `desc0` with every ashlar void. -/
def head0 : Nat := 0x10 * 2 ^ 24 + (2 ^ 64 - 1) * 2 ^ 64

/-- The flight of row 0 in ticket 7's first tile. -/
def fly (todo : List (Nat × Nat)) : Flight :=
  { serial := 7, tile := 0, record := 0, row := 0, mask := 1, empty := false, farEmpty := false, groups := [],
    todo := todo, cost := 1, acc := List.replicate 128 1, skip := none, waited := false }

/-- Gallery 2 of hall 1 with these contents, and these jobs. -/
def inGal (js : List Job) (x : Gallery) : State := setGal (withJobs up js) 1 2 x

/-- Gallery 2 of hall 1 works on row 0 of the tile of ticket 7. -/
def work (d : Nat) : Gallery :=
  { Gallery.reset with tickets := [{ tkt d with panels := [(0, 1)] }], groups := [grp d], resident := some (tile0 head0) }

/-- A drain of 1 row and 1 column to a format, with its group closed. -/
def desc4 (fmt : Nat) : Nat := img [(0, 1), (4, 0x10), (5, 0x07), (6, fmt), (8, 1), (0x0C, 1), (0x10, 16), (0x14, 1),
  (0x20, 512), (0x24, 512), (0x30, 0x10000), (0x38, 0x20000), (0x48, 0x30000), (0x50, 0x40000), (0x58, 0x50000),
  (0x60, 0x60000), (0x68, 0x68000), (0x98, 0x70000)]

/-- The closed group of its output tile. -/
def grpClosed (fmt : Nat) : Group := { grp (desc4 fmt) with phase := .draining, draining := true }

/-- A vector job over 1 row of 1 element, and its operation block. -/
def descV : Nat := img [(0, 3), (8, 1), (0x0C, 1), (0x10, 1), (0x14, 1), (0x20, 64), (0x24, 64), (0x30, 0x10000),
  (0x60, 0x60000), (0xA0, 0x70000)]

/-- A vector operation in FP32. -/
def vop (op : Nat) : Nat := img [(0, op), (4, 0x30), (5, 0x30), (6, 0x30)]

/-- The job of a vector operation. -/
def jobVec (b : Nat) : Job := { jobRun descV with aux := some b }

/-- Gallery 2 of hall 1 runs a vector ticket. -/
def vecAt (b : Nat) : State :=
  inGal [jobVec b] { Gallery.reset with tickets := [{ tkt descV with begun := true }], ve := some (.vector 7) }

/-- The VE's running vector ticket. -/
def vecOf (b : Nat) : VecRun := { t := { tkt descV with begun := true }, j := jobVec b, b := b }

/-- A dresser job of one row and one column, and its parameter block. -/
def dress0 : Nat := img [(0, 0x1000), (8, 64), (0x0C, 1), (0x10, 1), (0x14, 0x30), (0x15, 0x10), (0x16, 3),
  (0x18, 0x20000), (0x20, 0x30000)]

/-- Gallery 2 of hall 1 is quiesced. -/
def still : State := poke up [(.array 1 2, Reg.hdr.QUIESCE (.array 1 2), 1)]

/-- Hall 1 with a hall cache. -/
def inHall (s : State) (x : HallCache) : State := setCache s 1 x

/-- A dirty line of device address 4096. -/
def line0 : Line := { line := 64, way := 3, data := 5, dirty := true, poison := false, prefetched := true }

/-- Stack 1 with its sparing and migration state. -/
def inStack (s : State) (d : Stack) : State := setDram s 1 d

/-- Link 2 is up at full width. -/
def linked : State := poke up [(.link 2, Reg.lnk.LINK_STATE, 2), (.link 2, Reg.lnk.TRAIN_EN, 1)]

/-- Link 2 trains. -/
def training : State := poke linked [(.link 2, Reg.lnk.LINK_STATE, 1), (.link 2, Reg.lnk.HALF_OK, 1), (.link 2, Reg.lnk.RETRAIN_LIMIT, 2)]

/-- Link 2 is up, with this state. -/
def onLink (x : Link) : State := setLink linked 2 x

/-- A reduction block: 16 FP32 elements at 0x2000 as INT8 over channel 5 of link 2, tag 5, history at 0x4000. -/
def rblk : Nat := img [(0, 0x2000), (8, 16), (0x0C, 2 + 5 * 16), (0x0D, 1), (0x0E, 5), (0x12, 0x0100), (0x18, 77), (0x20, 0x4000)]

/-- A send of that block with its scale formed. -/
def snd : Send :=
  { sw := 3, slot := 2, block := rblk, history := some 0, scale := 0x3F800000, peak := 0x3F800000, flushed := false
    begun := false, sent := 0, escapes := [], escSent := 0, clips := 0, stop := none, answered := false }

/-- Link 2 with its channel 5 holding this. -/
def onChan (x : Channel) : Link := { Link.reset with channels := [(5, x)] }

/-- The entry that reduces, in its slot. -/
def reducing (s : State) : State :=
  setStair s 3 { Stairwell.reset with state := .running, slots := [(2, trk (ent 10 0 0 4096 0 0 0) (.reducing rblk))] }

/-- A send that arrives in slot 0 of the window `win0`. -/
def rcv : Receive :=
  { entry := 0, wtag := 5, slotNo := 0, lfmt := 1, sr := false, elements := 1, scale := 0x3F800000, stream := 7, got := 0
    drop := false, writes := [], ended := false, closing := none, answered := false }

/-- Channel 5 of link 2 receives that send. -/
def taking (r : Receive) : State := { onLink (onChan { Channel.reset with receive := some r }) with windows := [win0] }

/-- A flit of channel 5 of a type, with a good CRC and the sequence number expected. -/
def flit (type p : Nat) : Flit :=
  { channel := 5, fseq := 0, payload := p, crc := BitVec.ofNat 32 (flitCrc type 5 0 p), fec := [] }

/-- The sector at 4096 is poisoned. -/
def poisoned : State :=
  { net with codes := [(cellOf net (place net 4096).1 (place net 4096).2 / 32, { poison := true, errors := [] })] }

/-- Reads of host memory that wait or are under way. -/
def asking (rs : List HostRead) : State := { net with hif := { net.hif with reads := rs } }

/-- The read of stairwell 3's WAIT_WORD. -/
def hread (tag : Option Nat) : HostRead := { who := .waitWord 3, addr := 64, len := 8, tag := tag }

/-- The MC with these fields set. -/
def withMc (s : State) (m : Mc) : State := { s with mc := m }

/-- The SEB in a lifecycle state. -/
def sebAt (n : Nat) : State := { up with seb := { up.seb with state := n } }

/-- The bring-up has reached a phase. -/
def phase (n : Nat) : State := poke State.reset [(.reset, Reg.rst.PHASE, n)]

/-- An image of 1,088 bytes whose head is not legal. -/
def image0 : Image := { bytes := 2, len := 1088, valid := true }

/-- A pair from its second component. -/
theorem whole {α β : Type} {p : α × β} {b : β} (h : p.2 = b) : p = (p.1, b) := by
  cases p; exact congrArg _ h

/-- The device is asked for a report. -/
def att : State :=
  poke { up with seb := { up.seb with reports := 4 } } [(.seb, Reg.seb.ARG_ADDR, 0x8000)]

/-- Its read of the nonce, and its write of the report. -/
def attRead : State × Got :=
  memRead { att with seb := { att.seb with reports := min (att.seb.reports + 1) (2 ^ 64 - 1) } } .seb (argAddr att) 32
def attWrite : State × Bool :=
  sebWrite (draw attRead.1).2 (argAddr attRead.1 + 64) 512
    (osToImage (signedReport (draw attRead.1).2 0 (draw attRead.1).1))

theorem attRead_ok : attRead = (attRead.1, .ok 0) := whole (by decide +kernel)
theorem attWrite_ok : attWrite = (attWrite.1, true) := whole (by decide +kernel)

/-- The state after a command, and after a step. -/
def ran (c : Instr) (s : State) : State := match exec c s with | .next t => t | _ => s
def stepped (s : State) : State := match step s with | .next t => t | _ => s

/-- An outcome is a next state. -/
def goesOn : Host.Outcome State Fault Refusal → Bool | .next _ => true | _ => false

theorem exec_after {c : Instr} {s : State} (h : goesOn (exec c s) = true) : exec c s = .next (ran c s) := by
  unfold ran; unfold goesOn at h; split at h <;> simp_all

theorem step_stepped {s : State} (h : goesOn (step s) = true) : step s = .next (stepped s) := by
  unfold stepped; unfold goesOn at h; split at h <;> simp_all

/-- A command waits. -/
def queued (c : Instr) (s : State) : State := { s with pending := [c] }

/-- A sensor sample with one hall at 125.25 °C. -/
def hot : Sensors :=
  { hallTemp := 501 :: List.replicate 15 200, stackTemp := List.replicate 16 180
    rails := [720, 1100, 500, 900, 750, 1800].map fun mv => some (mv, 1000) }

/-- The dresser of hall 1 holds a ticket of a dresser job. -/
def jobDress : Job := { jobRun (4 + 0x70000 * 2 ^ (8 * 0xA0)) with aux := some dress0 }
def dressing : State := { withJobs up [jobDress] with dressers := [(1, tkt 4)] }

/-- The panel it dresses has zeros only: each of its blocks scores 0. -/
theorem blockElems_zero (b cols q cb : Nat) : blockElems b cols [0] q cb = List.replicate 256 0 := by
  have h : ∀ k, ([0] : List Nat).getD k 0 = 0 := by intro k; cases k <;> rfl
  have e : ∀ k c, srcElem b cols [0] k c = 0 := by
    intro k c; unfold srcElem; rw [h]; dsimp only; split <;> simp [bits]
  unfold blockElems
  simp only [e, List.map_const', List.length_range]

/-- The groups of that panel. -/
def dressGroups : List (List (List Nat × Nat)) :=
  let kept := keepBlocks 32 ((List.range 256).map fun r => (some 0, r))
  [[kept], [kept]]

theorem dressGroups_eq : dressGroups = (List.range (shapePositions (rShape dress0))).map fun cb =>
    (List.range (dressTiles dress0 * 2 ^ rSpanLog dress0)).map fun w => dressGroup dress0 1 [0] cb w := by
  have s : blockScore (rSrcFmt dress0) (List.replicate 256 0) = some 0 := by decide +kernel
  have n : shapePositions (rShape dress0) = 2 ∧ dressTiles dress0 * 2 ^ rSpanLog dress0 = 1
      ∧ shapeSlots (rShape dress0) / 2 ^ rSpanLog dress0 = 32 := by decide +kernel
  unfold dressGroups dressGroup
  simp only [blockElems_zero, s, n.1, n.2.1, n.2.2]
  rfl

/-- Its read of the source, and its writes. -/
def dressRead : State × Option (List Nat) := readSource 1 dress0 0 1 0 (rK dress0) dressing
def dressWrote : State × Bool :=
  dressPut 1 (dressWrites dress0 0 1 [0] dressGroups) (countPanel dressRead.1 1 3 0 dress0 dressGroups)

theorem dressRead_ok : dressRead = (dressRead.1, some [0]) := whole (by decide +kernel)
theorem dressWrote_ok : dressWrote = (dressWrote.1, true) := whole (by decide +kernel)

/-- A firmware image of 1,088 bytes, in 32-byte words. OpenSSL made its RSA-3072 key and its PSS signature. -/
def signedImage : Image :=
  { bytes := packElems 256 [
    0x1000100000000400001000700000001,
    0x0,
    0xe439a2518023619745de3386e9df7608572952e77d41c81f01194905f2938cc9,
    0x3fcb94bb378c5a5d0b9e8778deed471d12fdd7a8ed54f1adda0ff97714fdd0aa,
    0x9c17003413ef01bc1b936f02da0e81673bdf159471117b9f72754ff1e0c568c3,
    0xf743ddc87979df64b3cef1bcaa938ed461716321ffeaf7e85f561a24a1195d19,
    0xf3e860a1f3c308688f81c1f86388a1a66e4084433581a55952a5944bb6042543,
    0xe38f6d650750e98861f48f7cb79cf1dde0eca08c30b141211ff65c9d96d2b300,
    0xbf03bf50a9615772c080b12c6233cdbfdefb405e892e300d4eb6e879e133005c,
    0xea245e007f73aadabcc8e84e975424bd2ae2c36e62370b574fcd410a705b2aa,
    0x6030aed905019075bbdfcd8e99703be6f09f2097b7a38c20d7a6065cf6fb53ec,
    0x7fbce8e37b80e2616c7747b486db06e4ba3e1556fcbcc98e834d65bd1373de1f,
    0xb8d6d4184f91eddeacf898b90765c97d87489814ca57ac999a21b57398528123,
    0xe344f6ccf0fe2b3869567c04b2a55d728af50209f1fd2188f56fd07d9d18dd3d,
    0x8e50c1820cda91f83ab6cf6f803c5910b6491201c351fb6f0e84b1bb367abb8e,
    0x28349e0807eb0afe59aa99705fd110c41a0e510527586f1dbf43d8e129682660,
    0x5090c6198a4e8c28bbe67169baa4f23a656d7addc8a2341344b197f8fdcc005,
    0x2e6fd1237795bdb4a91f03c32e6b4aee4c054203c071bb9902cf79a8ed25c0aa,
    0xc305493b69d5ef9f6a0603c7317e4e0bae6f9708e29dced8318455b74c897585,
    0x8bb835c9385655b56cff1fa011544b69e2870a0b276e5e2abff0dc80d1bb5cb6,
    0x160ffbec1b0f8e0743f773c4742a7572c6d0611144483afa14ce334e5873c42c,
    0x94fdc0b0d87cde29875eda769ec79473f28ae85ed5937f483c7565a6bdaec477,
    0xd9dc9b41e044e2e1f908634baabca606819fc3812e0aa471e560bd35f22a660f,
    0x6685c112cf7ace44a3402594690207fbb1ee53096ce0346a13e5049205251c09,
    0x599aa220028a57557d2b2b42cc0c7afecec304271a79d168c3ff51d1b7d0f5c5,
    0x48f4b7fd942b94fc1a4c7dad34922da2cbf46a3d0be164ed06c3160dd6d5c14,
    0x0,
    0x0,
    0x0,
    0x0,
    0x0,
    0x0,
    0x1f1e1d1c1b1a191817161514131211100f0e0d0c0b0a09080706050403020100,
    0x3f3e3d3c3b3a393837363534333231302f2e2d2c2b2a29282726252423222120]
    len := 1088, valid := true }

/-- A LOAD whose bytes have all come. -/
def fwLoad (v : Nat) : FwLoad := { addr := 0x8000, len := 1088, asked := 1088, got := 1088, bytes := v }

/-- Such a LOAD on a device whose key slot 0 holds that key's digest, as OpenSSL and Python computed it, with FW_CMD
commands that wait. -/
def loading (v : Nat) (held : List Nat) : State :=
  { poke net [(.mcService, Reg.mcs.FW_ADDR, 2 ^ 63 + 4096), (.mcService, Reg.mcs.FW_LEN, 4194304)] with
    seb := { Seb.reset with keyValid := 1, keyDigest := [(0, 0xaf629276dacbf881b7ea8606ca2f6119a794f8ec266d9aa29899437cea05acec)] }
    mc := { Mc.reset with load := some (fwLoad v), held := held } }

theorem test_a_signed_image_is_accepted : imageVerdict (loading signedImage.bytes [2]) signedImage = 0 := by
  decide +kernel

/-- With one bit of its body changed its signature is refused (R354). -/
theorem test_a_changed_image_is_refused :
    imageVerdict (loading (signedImage.bytes ^^^ 2 ^ 8192) [2])
      { signedImage with bytes := signedImage.bytes ^^^ 2 ^ 8192 } = 2 := by decide +kernel

/-- What holds of both values that a free bit takes. -/
theorem held_cases {p : Nat → Prop} (h : ∀ b < 2, p b) (n : Nat) : p (Config.free n % 2) := h _ (Nat.mod_lt _ (by decide))

theorem countDrainWait_eq (s : State) (h g : Nat) (w : drainRuns (gal s h g) = true) : countDrainWait s h g
    = count { s with drawn := s.drawn + 1 } (arrPage h g) Reg.lnd.LAND_WAIT (Config.free s.drawn % 2) := if_pos w

theorem snd_some {p : State × Option Nat} (h : p.2 = some 0) : p = (p.1, some 0) := Prod.ext rfl h

/-- A row error is not asked for, or it has been written. -/
theorem noErr {u : State} {h : Fin 16} {g : Fin 17} {k : Ticket} {j : Job} {c : Conversion} {v : Converted}
    (e : cbRowErr (cbOf c j) = false) : ErrWritten u h g k j c v u := by simp [ErrWritten, e]
theorem wroteErr {u : State} {h : Fin 16} {g : Fin 17} {k : Ticket} {j : Job} {c : Conversion} {v : Converted}
    (e : cbRowErr (cbOf c j) = true)
    (w : (ticketWrite u h g k (cbRowErrAddr (cbOf c j) + 4 * globalRow c j) 4 v.err).2 = true) :
    ErrWritten u h g k j c v (ticketWrite u h g k (cbRowErrAddr (cbOf c j) + 4 * globalRow c j) 4 v.err).1 := by
  unfold ErrWritten; rw [if_pos e]; exact whole w

/-! ### Each check of well-formedness refuses a term that fails it -/

theorem test_offset_of_no_word : (Instr.pairLowRead .mainband .hif 0x042).wellFormed = false := by decide
theorem test_offset_of_a_word : (Instr.pairLowRead .mainband .hif 0xFFC).wellFormed = true := by decide
theorem test_event_of_no_word : (Instr.counterClear .hif 0x078 [0x065]).wellFormed = false := by decide
theorem test_read_of_no_word_beside_a_write :
    (Instr.registerWrite .mainband .hif 0x040 ⟨0, 0, some (.sideband, 0x041)⟩).wellFormed = false := by decide
theorem test_config_of_no_word : (Instr.mcConfigWrite 0x041 0).wellFormed = false := by decide
theorem test_sample_without_rails : (Instr.powerLoopPeriod { hot with rails := [] }).wellFormed = false := by decide
theorem test_whole_sample : (Instr.powerLoopPeriod hot).wellFormed = true := by decide
theorem test_expiry_of_another_timer :
    (Instr.timerCalibrationDone (.poll 3) 20 (some (.poll 4))).wellFormed = false := by decide
theorem test_word_beyond_the_skip_map :
    (Instr.galleryMemoryAccess 1 2 .skipMap 8192 none [] ⟨.window, .running, [], []⟩).wellFormed = false := by decide
theorem test_bit_flipped_twice :
    (Instr.galleryMemoryAccess 1 2 .ashlar 0 none [3, 3] ⟨.window, .running, [], []⟩).wellFormed = false := by decide
theorem test_port_of_another_memory :
    (Instr.galleryMemoryAccess 1 2 .ashlar 0 none [] ⟨.gather, .running, [], []⟩).wellFormed = false := by decide
theorem test_rival_of_itself :
    (Instr.galleryMemoryAccess 1 2 .ashlar 0 none [] ⟨.window, .running, [(.window, 1)], []⟩).wellFormed = false := by decide
theorem test_rival_that_lost_nine_times :
    (Instr.galleryMemoryAccess 1 2 .ashlar 0 none [] ⟨.window, .running, [(.tileLoad, 9)], []⟩).wellFormed = false := by decide
theorem test_arrival_at_another_memory :
    (Instr.galleryMemoryAccess 1 2 .ashlar 0 none [] ⟨.window, .running, [], [[.gather]]⟩).wellFormed = false := by decide
theorem test_mainband_request_of_no_byte :
    (Instr.sidebandRequest 0 ⟨.read, false, some ⟨0, 0, 0, none⟩⟩).wellFormed = false := by decide
theorem test_window_bit_flipped_twice :
    (Instr.winWordRead .mainband 1 2 ⟨5, [3, 3]⟩).wellFormed = false := by decide
theorem test_access_of_no_byte : (Instr.hallCacheAccess 1 .dresser 64 0 none ⟨[], 0⟩).wellFormed = false := by decide
theorem test_access_beyond_the_space :
    (Instr.hallCacheAccess 1 .dresser (2 ^ 40 - 1) 2 none ⟨[], 0⟩).wellFormed = false := by decide
theorem test_write_wider_than_its_length :
    (Instr.hallCacheAccess 1 .dresser 64 1 (some 256) ⟨[], 0⟩).wellFormed = false := by decide
theorem test_sector_beyond_the_space :
    (Instr.sectorAccess .host (2 ^ 40) .read ⟨.self, [], []⟩).wellFormed = false := by decide
theorem test_sector_between_two :
    (Instr.sectorAccess .host 33 .read ⟨.self, [], []⟩).wellFormed = false := by decide
theorem test_sector_write_past_its_end :
    (Instr.sectorAccess .host 32 (.write 31 2 0) ⟨.self, [], []⟩).wellFormed = false := by decide
theorem test_poison_wider_than_a_sector :
    (Instr.sectorAccess .host 32 (.poison (2 ^ 256)) ⟨.self, [], []⟩).wellFormed = false := by decide
theorem test_payload_wider_than_a_flit : (Instr.body 2 (flit 2 (2 ^ 960))).wellFormed = false := by decide +kernel
theorem test_corrupt_flit_of_a_defined_type :
    (Instr.corruptFlit 2 6 (flit 6 0)).wellFormed = false := by decide +kernel
theorem test_packet_beyond_4096_bytes : (Instr.aptRd 0 0 4097).wellFormed = false := by decide
theorem test_data_wider_than_its_packet : (Instr.aptWr 0 1 256).wellFormed = false := by decide
theorem test_completion_wider_than_its_packet : (Instr.cpl 0 0 1 256).wellFormed = false := by decide
theorem test_fill_of_no_block : (Instr.fill 3 none 0).wellFormed = false := by decide
theorem test_copy_of_no_block : (Instr.copy 3 none 0).wellFormed = false := by decide

/-! ### The manual's worked examples -/

/-- "A made-up row converted and drained", pass b: with the squares' sum 84.53515625, 9.0 is an outlier of the 16
elements and 1.0 is none. -/
theorem test_the_example_outlier :
    isOutlier 0x0300 16 (8453515625 * 2 ^ 298 / 10 ^ 8) 0x41100000 = true
      ∧ isOutlier 0x0300 16 (8453515625 * 2 ^ 298 / 10 ^ 8) 0x3F800000 = false := by decide +kernel

/-- Its scales: code 0xCF gives 0.12109375, at which the range needs 8 + 7 codes, and 0xD0 gives 0.125, with 8 + 6. -/
theorem test_the_example_scales :
    effScale 0x3F000000 0xCF = 0x3DF80000 ∧ effScale 0x3F000000 0xD0 = 0x3E000000
      ∧ rneBy (fix 0x3F800000) 0x3DF80000 = 8 ∧ rneBy (-fix 0xBF500000) 0x3DF80000 = 7
      ∧ rneBy (fix 0x3F800000) 0x3E000000 = 8 ∧ rneBy (-fix 0xBF500000) 0x3E000000 = 6 := by decide +kernel

/-- Its codes at k = 3 and 9, 12 and 8, and the tie at k = 10, which rounds to the even value −6. -/
theorem test_the_example_codes :
    6 + rneBy (fix 0x3F400000) 0x3E000000 = 12 ∧ 6 + rneBy (fix 0x3E800000) 0x3E000000 = 8
      ∧ rneBy (fix 0xBF500000) 0x3E000000 = -6 := by decide +kernel

/-- The side word, the image of the codes, the boulder entry and the squared error 2^−8 as the manual prints them. -/
theorem test_the_example_row_image :
    sideWord 0xD0 6 0x000E 1 4 = 0x0003_0100_0E00_06D0
      ∧ packCodes 4 [8, 2, 6, 12, 15, 10, 4, 14, 6, 8, 0, 10, 8, 2, 8, 6] = 0x6828_A086_E4AF_C628
      ∧ mkBoulder 0x41100000 4 0 = 0x0000_0004_4110_0000 ∧ sqerrUnits 0x3B800000 = 0x0100_0000_0000 := by
  decide +kernel

/-- "A made-up softmax": its outputs 0.25 and 0.5 are exp2(−2) and exp2(−1). -/
theorem test_the_example_softmax :
    (exp2 0xC0000000).1 = 0x3E800000 ∧ (exp2 0xBF800000).1 = 0x3F000000 := by decide +kernel

/-- "A made-up column in activation-serial mode": the accumulator after each tread, and the total −7. -/
theorem test_the_example_treads :
    let col (ij : Nat × Nat) : Int := treadWeight 4 2 ij *
      (([5, 0, 6, 3] : List Nat).zip [1, 2, 3, 2] |>.map fun e => laneProduct 4 2 ij e.1 e.2 0 0).sum
    (treadList 4 2 0b0111 = [(2, 0), (1, 0), (0, 0)]) ∧ (col (2, 0), col (1, 0), col (0, 0)) = (0, -6, -1) := by decide +kernel

/-- *Treads of the example flight* in weight-serial mode: the order and the weights of the ten treads at W5 × A3. -/
theorem test_the_weight_serial_treads :
    treadList 3 5 0b111 = [(1, 4), (1, 3), (1, 2), (1, 1), (1, 0), (0, 4), (0, 3), (0, 2), (0, 1), (0, 0)]
      ∧ (treadList 3 5 0b111).map (treadWeight 3 5) = [64, 32, 16, 8, 4, 16, 8, 4, 2, 1] := by decide +kernel

/-- The digit examples of R53: W4 −6 is digits 2 and −2, W3 −3 is digits 1 and −1. -/
theorem test_the_example_digits :
    2 + 4 * digitValue 4 1 0b10 = -6 ∧ digitValue 4 0 0b10 = 2 ∧ 1 + 4 * digitValue 3 1 0b11 = -3 := by decide

/-- At shift 4 the codes 200, 24 and 8 become 12, 2 and 0. -/
theorem test_the_example_shift : [200, 24, 8].map (shiftCode 4) = [12, 2, 0] := by decide

/-! ### Values from the standards the manual names -/

/-- SHA-256 of "abc", from the standard. -/
theorem test_sha256_abc :
    osToNat (sha256 [0x61, 0x62, 0x63])
      = 0xba7816bf8f01cfea414140de5dae2223b00361a396177a9cb410ff61f20015ad := by decide +kernel

/-- FP32 sums, products and conversions worked out by hand: 1 + 2^−24 ties to even, the largest finite number doubled
overflows, 0.1 + 0.2, and 1.00390625 narrowed to BF16 ties to even. -/
theorem test_fp32_by_hand :
    (fAdd 0x3F800000 0x33800000).1 = 0x3F800000 ∧ (fAdd 0x7F7FFFFF 0x7F7FFFFF).1 = 0x7F800000
      ∧ (fAdd 0x3DCCCCCD 0x3E4CCCCD).1 = 0x3E99999A ∧ (fMul 0xC0000000 0x3FC00000).1 = 0xC0400000
      ∧ (narrow bf16 0x3F808000).1 = 0x3F80 := by decide +kernel

/-- CRC-32C of the ASCII digits 1 to 9, the value the CRC catalogues print. -/
theorem test_crc32c_of_the_digits : crc32c 9 0x393837363534333231 = 0xE3069283 := by decide +kernel

/-! ### Single steps -/

/-- R8: a 1 clears its STICKY bit and a 0 leaves it. -/
theorem test_write_one_clears :
    rd (ran (.stickyClear .hif 0b101 0) (poke up [(.hif, Reg.hdr.STICKY, 0b111)])) .hif Reg.hdr.STICKY = 0b010 := by
  decide +kernel

/-- R9: a counter stays at all ones. -/
theorem test_counter_saturates :
    rd (bump (poke up [(.stairwell 3, Reg.sw.ENTRIES, 2 ^ 32 - 1)]) (.stairwell 3) Reg.sw.ENTRIES) (.stairwell 3)
      Reg.sw.ENTRIES = 2 ^ 32 - 1 := by decide +kernel

/-- R10: a write to a read-only word of the MC power page changes nothing. -/
theorem test_read_only_configuration_word : ran (.mcConfigWrite 0x044 0xFFFFFFFF) up = up := by decide +kernel

/-- R35: above the cap the target falls by the step, whatever the set value: 750 − 15 = 735, with VSET 745. -/
theorem test_the_loop_lowers_the_target :
    rd (ran (.powerLoopPeriod { hot with
        hallTemp := List.replicate 16 200, rails := [some (720, 60000), none, none, none, none, none] })
      (poke up [(.mcPower, Reg.mcp.LOOP_EN, 1), (.mcPower, Reg.mcp.CAP_W, 0), (.mcPower, Reg.mcp.TARGET_MV, 750),
        (.mcPower, Reg.mcp.VSET_MV, 745), (.mcPower, Reg.mcp.STEP_MV, 15)])) .mcPower Reg.mcp.TARGET_MV = 735 := by
  decide +kernel

/-- R375: a power-on reset is cause 1. -/
theorem test_reset_cause : rd State.reset .reset Reg.rst.RESET_CAUSE = 1 := by decide +kernel

/-! ### Every statement with hypotheses speaks of something -/

theorem test_hypotheses_RegisterCommandsComplete :
    (∃ (path : Path) (page : Page) (off : BitVec 12) (v hw : BitVec 32) (s : State), Reaches s path page off.toNat ∧ plainWord page off.toNat = true ∧ ((page = .mcService → rangeLegal off.toNat v.toNat = true)) ∧ hw.toNat &&& w1cBits page off.toNat = 0) ∧
    (∃ (path : Path) (page : Page) (off : BitVec 12) (v hw : BitVec 32) (s : State), Reaches s path page off.toNat ∧ plainWord page off.toNat = true ∧ ((page = .mcService → rangeLegal off.toNat v.toNat = true)) ∧ hw.toNat &&& w1cBits page off.toNat = 0) ∧
    (∃ (path : Path) (page : Page) (off : BitVec 12) (v hw : BitVec 32) (s : State), Reaches s path page off.toNat ∧ plainWord page off.toNat = true ∧ ((page = .mcService → rangeLegal off.toNat v.toNat = true)) ∧ hw.toNat &&& w1cBits page off.toNat = 0) ∧
    (∃ (path : Path) (off : BitVec 12) (v : BitVec 32) (s : State), Reaches s path .mcService off.toNat ∧ rangeLegal off.toNat v.toNat = false) ∧
    (∃ (path : Path) (page : Page) (off : BitVec 12) (v hw : BitVec 32) (f : Fld) (s : State), s.rst.held = false ∧ off ≠ 0x018 ∧ f ∈ w1cFields page off.toNat ∧ f.width = 1 ∧ bit hw.toNat f.lsb = true) ∧
    (∃ (path path' : Path) (page : Page) (off off' : BitVec 12) (v hw : BitVec 32) (s : State), s.rst.held = false ∧ plainWord page off.toNat = true ∧ (path = .sideband ∨ path' = .mainband ∨ selects page off.toNat off'.toNat = true)) ∧
    (∃ (path path' : Path) (page : Page) (off off' : BitVec 12) (v hw : BitVec 32) (s : State), s.rst.held = false ∧ plainWord page off.toNat = true ∧ (path = .sideband ∨ path' = .mainband ∨ selects page off.toNat off'.toNat = true)) ∧
    (∃ (path path' : Path) (page : Page) (off off' : BitVec 12) (v hw : BitVec 32) (s : State), s.rst.held = false ∧ plainWord page off.toNat = true ∧ (path = .sideband ∨ path' = .mainband ∨ selects page off.toNat off'.toNat = true)) ∧
    (∃ (page : Page) (off off' : BitVec 12) (v hw : BitVec 32) (s u : State), s.rst.held = false ∧ selects page off.toNat off'.toNat = false ∧ exec (.registerWrite .mainband page off ⟨v, hw, none⟩) s = .next u) ∧
    (∃ (page : Page) (off off' : BitVec 12) (v hw : BitVec 32) (s u : State), s.rst.held = false ∧ selects page off.toNat off'.toNat = false ∧ exec (.registerWrite .mainband page off ⟨v, hw, none⟩) s = .next u) ∧
    (∃ (path : Path) (page : Page) (off : BitVec 12) (f : Fld) (v : Nat) (s : State), pairAt s page off.toNat = some (f, v)) ∧
    (∃ (path : Path) (page : Page) (off : BitVec 12) (f : Fld) (v : Nat) (s : State), 4 ≤ off.toNat ∧ pairAt s page (off.toNat - 4) = some (f, v)) ∧
    (∃ (path : Path) (page : Page) (off : BitVec 12) (f : Fld) (v : BitVec 32) (s : State), Reaches s path page off.toNat ∧ storedPair page off.toNat = some (f, .rw)) ∧
    (∃ (path : Path) (page : Page) (off : BitVec 12) (f : Fld) (v : BitVec 32) (s : State), Reaches s path page off.toNat ∧ 4 ≤ off.toNat ∧ storedPair page (off.toNat - 4) = some (f, .rw) ∧ page ≠ .memMap ∧ f ≠ Reg.sw.LIST_PTR) ∧
    (∃ (page : Page) (v : BitVec 32) (s : State), Reaches s .mainband page 0x018) ∧
    (∃ (page : Page) (v hw : BitVec 32) (b : Nat) (s : State), s.rst.held = false ∧ b < 32 ∧ bit page.stickyBits b = true ∧ bit hw.toNat b = true) ∧
    (∃ (page : Page) (v hw : BitVec 32) (s : State), Reaches s .mainband page 0x01C) ∧
    (∃ (page : Page) (e : Bool) (hw : BitVec 32) (s : State), Reaches s .mainband page 0x00C) ∧
    (∃ (page : Page) (off : BitVec 12) (events : List (BitVec 12)) (n : Nat) (rs : List (Nat × Nat)) (f : Fld) (a : Acc)
    (r : Nat × Nat) (s : State), Reaches s .mainband page off.toNat ∧ page.clears.find? (fun c => c.1 == off.toNat) = some (off.toNat, n, rs) ∧ r ∈ rs ∧ (f, a) ∈ page.rows ∧ r.1 ≤ f.off ∧ f.off ≤ r.2 ∧ ((∀ e ∈ events, e.toNat ≠ f.off))) ∧
    (∃ (page : Page) (off : BitVec 12) (events : List (BitVec 12)) (n : Nat) (rs : List (Nat × Nat)) (f : Fld) (a : Acc)
    (r : Nat × Nat) (s : State), Reaches s .mainband page off.toNat ∧ page.clears.find? (fun c => c.1 == off.toNat) = some (off.toNat, n, rs) ∧ r ∈ rs ∧ page.rows.find? (fun e => e.1.off == f.off) = some (f, a) ∧ r.1 ≤ f.off ∧ f.off ≤ r.2) ∧
    (∃ (page : Page) (off : BitVec 12) (events : List (BitVec 12)) (n o : Nat) (rs : List (Nat × Nat)) (r : Nat × Nat)
    (s : State), Reaches s .mainband page off.toNat ∧ page.clears.find? (fun c => c.1 == off.toNat) = some (off.toNat, n, rs) ∧ r ∈ rs ∧ holdOff page = some o ∧ r.1 ≤ o ∧ o ≤ r.2) ∧
    (∃ (page : Page) (off : BitVec 12) (events : List (BitVec 12)) (n o : Nat) (rs : List (Nat × Nat)) (r : Nat × Nat)
    (s : State), Reaches s .mainband page off.toNat ∧ page.clears.find? (fun c => c.1 == off.toNat) = some (off.toNat, n, rs) ∧ r ∈ rs ∧ holdOff page = some o ∧ r.1 ≤ o ∧ o ≤ r.2) ∧
    (∃ (page : Page) (f : Fld) (hw : Bool) (s : State), latchBit page = some f ∧ Reaches s .mainband page f.off) :=
  ⟨⟨.mainband, .hif, 0x044, 0x1003, 0, up, by unfold Reaches; decide +kernel⟩,
   ⟨.sideband, .mcService, 0x040, 0xB050, 0, up, by unfold Reaches; decide +kernel⟩,
   ⟨.mainband, .hif, 0x008, 2, 0, poke up [(.hif, Reg.hdr.STATE_ERR, 1)], by unfold Reaches; decide +kernel⟩,
   ⟨.mainband, 0x040, 0x3B, up, by unfold Reaches; decide +kernel⟩,
   ⟨.mainband, .stairwell 15, 0x008, 0xFFFFFFFF, 0xFFFFFFFF, Reg.hdr.STATE_ERR, poke up [(.stairwell 15, Reg.hdr.STATE_ERR, 1)], by decide +kernel⟩,
   ⟨.mainband, .mainband, .hif, 0x044, 0x020, 1, 0, up, by decide +kernel⟩,
   ⟨.sideband, .sideband, .mcService, 0x040, 0x048, 0xB050, 0, up, by decide +kernel⟩,
   ⟨.mainband, .sideband, .stairwell 3, 0x07C, 0x084, 2, 0, up, by decide +kernel⟩,
   ⟨.hif, 0x044, 0x044, 0x1003, 0, up, _, ⟨(by decide +kernel), (by decide +kernel), exec_after (by decide +kernel)⟩⟩,
   ⟨.stairwell 3, 0x07C, 0x078, 2, 0, up, _, ⟨(by decide +kernel), (by decide +kernel), exec_after (by decide +kernel)⟩⟩,
   ⟨.mainband, .stairwell 15, 0x048, Reg.sw.LIST_PTR, 2 ^ 40 + 64, poke up [(.stairwell 15, Reg.sw.LIST_PTR, 2 ^ 40 + 64)], by decide +kernel⟩,
   ⟨.mainband, .stairwell 15, 0x04C, Reg.sw.LIST_PTR, 2 ^ 40 + 64, poke up [(.stairwell 15, Reg.sw.LIST_PTR, 2 ^ 40 + 64)], by decide +kernel⟩,
   ⟨.sideband, .stairwell 0, 0x040, Reg.sw.LIST_ADDR, 0xFFFFFFFF, up, by unfold Reaches; decide +kernel⟩,
   ⟨.sideband, .stairwell 15, 0x044, Reg.sw.LIST_ADDR, 7, { up with staging := [(pairKey .sideband (.stairwell 15) Reg.sw.LIST_ADDR, 64)] }, by unfold Reaches; decide +kernel⟩,
   ⟨.hif, 2, poke up [(.hif, Reg.hdr.STICKY, 6)], by unfold Reaches; decide +kernel⟩,
   ⟨.hif, 1, 1, 0, up, by decide +kernel⟩,
   ⟨.hif, 0xFFFFFFFF, 1, up, by unfold Reaches; decide +kernel⟩,
   ⟨.ve 3 4, true, 0, up, by unfold Reaches; decide +kernel⟩,
   ⟨.stairwell 0, 0x078, [], 0, [(0x064, 0x074)], Reg.sw.ENTRIES, .ro, (0x064, 0x074), poke up [(.stairwell 0, Reg.sw.ENTRIES, 5)], by unfold Reaches; decide +kernel⟩,
   ⟨.stairwell 0, 0x078, [0x064, 0x064], 0, [(0x064, 0x074)], Reg.sw.ENTRIES, .ro, (0x064, 0x074), poke up [(.stairwell 0, Reg.sw.ENTRIES, 5)], by unfold Reaches; decide +kernel⟩,
   ⟨.stack 3, 0x078, [0x040, 0x040, 0x044], 0, 0x040, [(0x040, 0x074)], (0x040, 0x074), { up with fifoHolds := [((Page.stack 3).base, 9)] }, by unfold Reaches; decide +kernel⟩,
   ⟨.hif, 0x0A8, [], 0, 0x09C, [(0x060, 0x0A4)], (0x060, 0x0A4), { up with fifoHolds := [(Page.hif.base, 9)] }, by unfold Reaches; decide +kernel⟩,
   ⟨.hif, Reg.hif.FAULT_INFO_VALID, true, poke up [(.hif, Reg.hif.FAULT_INFO_VALID, 1)], by unfold Reaches; decide +kernel⟩⟩

theorem test_hypotheses_PowerConfigurationCompletes :
    (∃ (off : BitVec 12) (v : BitVec 32) (s : State), Reaches s .mainband .mcPower off.toNat ∧ configLegal off.toNat v.toNat = true) ∧
    (∃ (off : BitVec 12) (v : BitVec 32) (s : State), Reaches s .mainband .mcPower off.toNat ∧ configLegal off.toNat v.toNat = true) ∧
    (∃ (v : BitVec 32) (s : State), Reaches s .mainband .mcPower 0x050 ∧ configLegal 0x050 v.toNat = true ∧ bits v.toNat 31 1 = 0 ∧ mcRuns s = true ∧ s.mc.silent = [] ∧ rd s .mcPower Reg.mcp.VSET_MV < 2 ^ 10) ∧
    (∃ (off : BitVec 12) (v : BitVec 32) (s : State), Reaches s .mainband .mcPower off.toNat ∧ configLegal off.toNat v.toNat = false) ∧
    (∃ (off : BitVec 12) (v : BitVec 32) (s : State), Reaches s .mainband .mcPower off.toNat ∧ configLegal off.toNat v.toNat = false) ∧
    (∃ (off : BitVec 12) (v : BitVec 32) (s : State), Reaches s .mainband .mcPower off.toNat ∧ configRanges off.toNat = []) ∧
    (∃ (off : BitVec 12) (v : BitVec 32) (s : State), Reaches s .mainband .mcPower off.toNat ∧ configRanges off.toNat = []) ∧
    (∃ (off : BitVec 12) (v : BitVec 32) (s : State), Reaches s .mainband .mcPower off.toNat ∧ configRanges off.toNat = []) ∧
    (∃ (s : State), Reaches s .mainband .mcPower 0x060 ∧ mcUp s = true ∧ rd s .mcPower Reg.mcp.HOLDOVER = 0) ∧
    (∃ (τ : Timer) (s : State), mcUp s = true ∧ rd s .mcPower Reg.mcp.HOLDOVER = 0) ∧
    (∃ (τ : Timer) (n : Nat) (e : Option Expiry) (s : State), ((∀ x ∈ e, x.timer ≠ τ)) ∧ mcRuns s = true ∧ τ ∈ s.mc.calibrating) ∧
    (∃ (τ : Timer) (n : Nat) (e : Option Expiry) (s : State), ((∀ x ∈ e, x.timer ≠ τ)) ∧ mcRuns s = true ∧ τ ∈ s.mc.calibrating) ∧
    (∃ (τ : Timer) (n : Nat) (x : Expiry) (s u : State), x.timer = τ ∧ execExpiry x s = .next u ∧ mcRuns u = true ∧ τ ∈ u.mc.calibrating) ∧
    (∃ (τ : Timer) (n : Nat) (s : State), mcRuns s = false) ∧
    (∃ (x : Sensors) (s : State), mcUp s = true ∧ x.wellFormed = true ∧ Sensors.beyond x = false) ∧
    (∃ (x : Sensors) (s : State), mcRuns s = true ∧ x.wellFormed = true ∧ Sensors.beyond x = false ∧ rd s .mcPower Reg.mcp.VSET_MV < 2 ^ 10 ∧ rd s .mcPower Reg.mcp.TARGET_MV < 2 ^ 10) ∧
    (∃ (x : Sensors) (s : State), mcUp s = false ∧ Sensors.beyond x = false) :=
  ⟨⟨0x054, 0x02080226, up, by unfold Reaches; decide +kernel⟩,
   ⟨0x040, 850, up, by unfold Reaches; decide +kernel⟩,
   ⟨0x57F64, up, by unfold Reaches; decide +kernel⟩,
   ⟨0x054, 0x02130226, up, by unfold Reaches; decide +kernel⟩,
   ⟨0x040, 851, up, by unfold Reaches; decide +kernel⟩,
   ⟨0x044, 0xFFFFFFFF, up, by unfold Reaches; decide +kernel⟩,
   ⟨0x064, 0xFFFFFFFF, up, by unfold Reaches; decide +kernel⟩,
   ⟨0xFFC, 1, up, by unfold Reaches; decide +kernel⟩,
   ⟨up, by unfold Reaches; decide +kernel⟩,
   ⟨.tread 15 16, up, by decide +kernel⟩,
   ⟨.oht, 4096, none, { up with mc := { up.mc with calibrating := [.gallery 0 0, .oht, .loop], temps := List.replicate 16 200 } }, by decide +kernel⟩,
   ⟨.oht, 4096, some .firmware, { up with mc := { up.mc with calibrating := [.oht] } }, by decide +kernel⟩,
   ⟨.sag, 4096, .sagEntry, { up with mc := { up.mc with calibrating := [.sag], sagEntry := true } }, ran .sagWarnEntry { up with mc := { up.mc with calibrating := [.sag], sagEntry := true } }, ⟨by decide, exec_after (c := .sagWarnEntry) (by decide +kernel), by decide +kernel⟩⟩,
   ⟨.oht, 4096, { up with mc := { up.mc with switching := 2 } }, by decide +kernel⟩,
   ⟨{
 hallTemp := -80 :: List.replicate 15 200, stackTemp := List.replicate 16 180, rails := [some (720, 1000), none, some (500, 1000), some (900, 1000), some (750, 1000), some (1800, 9)] }, up, by decide +kernel⟩,
   ⟨{
 hallTemp := -80 :: List.replicate 15 200, stackTemp := List.replicate 16 180, rails := [some (720, 1000), none, some (500, 1000), some (900, 1000), some (750, 1000), some (1800, 9)] }, up, by decide +kernel⟩,
   ⟨{
 hallTemp := -80 :: List.replicate 15 200, stackTemp := List.replicate 16 180, rails := [some (720, 1000), none, some (500, 1000), some (900, 1000), some (750, 1000), some (1800, 9)] }, phase 1, by decide +kernel⟩⟩

theorem test_hypotheses_SagReferenceAndRegulatorsComplete :
    (∃ (mv : BitVec 10) (s : State), mv.toNat < rd s .mcPower Reg.mcp.VWARN_MV) ∧
    (∃ (s : State), s.mc.sagEntry = true) ∧
    (∃ (mv : BitVec 10) (s : State), rd s .mcPower Reg.mcp.VWARN_MV ≤ mv.toNat) ∧
    (∃ (s : State), s.mc.sagExit = true) ∧
    (∃ (n : Nat) (s : State), 796 ≤ n ∧ n ≤ 804) ∧
    (∃ (n : Nat) (s : State), 796 ≤ n ∧ n ≤ 804) ∧
    (∃ (n : Nat) (s : State), (n < 796 ∨ 804 < n)) ∧
    (∃ (n : Nat) (s : State), (n < 796 ∨ 804 < n)) ∧
    (∃ (s : State), rd s .mcPower Reg.mcp.HOLDOVER ≠ 0) ∧
    (∃ (rail : Fin 6) (s : State), 3 ≤ (NatMap.get? s.mc.fails rail.val).getD 0) ∧
    (∃ (rail : Fin 6) (s : State), (NatMap.get? s.mc.fails rail.val).getD 0 < 3) ∧
    (∃ (rail : Fin 6) (s : State), rail.val ∈ s.mc.silent ∧ NatMap.get? s.mc.fails rail.val = none) :=
  ⟨⟨rd up .mcPower Reg.mcp.VWARN_MV - 1, up, by decide +kernel⟩,
   ⟨{ up with mc := { up.mc with sagEntry := true } }, by decide +kernel⟩,
   ⟨rd up .mcPower Reg.mcp.VWARN_MV, { up with mc := { up.mc with sagWarning := true } }, by decide +kernel⟩,
   ⟨{ up with mc := { up.mc with sagExit := true, sagWarning := true } }, by decide +kernel⟩,
   ⟨796, up, by decide +kernel⟩,
   ⟨804, up, by decide +kernel⟩,
   ⟨795, up, by decide +kernel⟩,
   ⟨805, { up with mc := { up.mc with calibrating := [.oht] } }, by decide +kernel⟩,
   ⟨poke up [(.mcPower, Reg.mcp.HOLDOVER, 1)], by decide +kernel⟩,
   ⟨5, { up with mc := { up.mc with fails := [(5, 3)] } }, by decide +kernel⟩,
   ⟨5, { up with mc := { up.mc with fails := [(5, 2)] } }, by decide +kernel⟩,
   ⟨5, { up with mc := { up.mc with silent := [5], capLimit := 1984 } }, by decide +kernel⟩⟩

theorem test_hypotheses_StairwellControlCompletes :
    (∃ (sw : Fin 16) (s : State), ready s = true ∧ rd s .reset Reg.rst.RECOVERY = 0 ∧ (stair s sw).state = .idle ∧ s.seb.state ≠ 4 ∧ listLegal (rd s (swPage sw) Reg.sw.LIST_ADDR) = true) ∧
    (∃ (sw : Fin 16) (s : State), ready s = true ∧ s.seb.state ≠ 4 ∧ (stair s sw).state = .faulted ∧ listLegal (rd s (swPage sw) Reg.sw.LIST_PTR) = true) ∧
    (∃ (sw : Fin 16) (s : State), ready s = true ∧ s.seb.state ≠ 4 ∧ killLegal s sw = true) ∧
    (∃ (sw : Fin 16) (s : State), ready s = true ∧ s.seb.state ≠ 4 ∧ killLegal s sw = true) ∧
    (∃ (sw : Fin 16) (path : Path) (hi : BitVec 32) (s : State), Reaches s path (swPage sw) 0x04C ∧ ((stair s sw).state = .idle ∨ (stair s sw).state = .faulted)) ∧
    (∃ (sw : Fin 16) (path : Path) (hi : BitVec 32) (s : State), Reaches s path (swPage sw) 0x04C ∧ ((stair s sw).state = .idle ∨ (stair s sw).state = .faulted)) ∧
    (∃ (sw : Fin 16) (path : Path) (hi : BitVec 32) (s : State), Reaches s path (swPage sw) 0x04C ∧ (stair s sw).state ≠ .idle ∧ (stair s sw).state ≠ .faulted) ∧
    (∃ (sw : Fin 16) (s : State), (stair s sw).state = .killing ∧ (stair s sw).slots = [] ∧ (stair s sw).cur = none ∧ (stair s sw).scrubbing = []) :=
  ⟨⟨3, poke up [(.stairwell 3, Reg.sw.LIST_ADDR, 2 ^ 40 - 64)], by decide +kernel⟩,
   ⟨3, setStair (poke up [(.stairwell 3, Reg.sw.LIST_PTR, 64)]) 3 { Stairwell.reset with state := .faulted, errSeen := true }, by decide +kernel⟩,
   ⟨3, setStair up 3 { Stairwell.reset with state := .waiting }, by decide +kernel⟩,
   ⟨3, setStair (withJobs up [{ jobRun desc0 with galleries := [0, 271] }]) 3 { Stairwell.reset with state := .running }, by decide +kernel⟩,
   ⟨3, .mainband, 7, { up with staging := [(pairKey .mainband (.stairwell 3) Reg.sw.LIST_PTR, 64)] }, by unfold Reaches; decide +kernel⟩,
   ⟨3, .sideband, 0xFFFFFFFF, setStair up 3 { Stairwell.reset with state := .faulted }, by unfold Reaches; decide +kernel⟩,
   ⟨3, .mainband, 7, setStair up 3 { Stairwell.reset with state := .running }, by unfold Reaches; decide +kernel⟩,
   ⟨3, setStair up 3 { Stairwell.reset with state := .killing }, by decide +kernel⟩⟩

theorem test_hypotheses_IllegalPageCommandsSetStateErr :
    (∃ (sw : Fin 16) (s : State), ready s = true ∧ s.seb.state ≠ 4 ∧ (stair s sw).state ≠ .idle) ∧
    (∃ (sw : Fin 16) (s : State), ready s = true ∧ s.seb.state ≠ 4 ∧ (stair s sw).state ≠ .faulted) ∧
    (∃ (sw : Fin 16) (s : State), ready s = true ∧ s.seb.state ≠ 4 ∧ ((stair s sw).state = .idle ∨ (stair s sw).state = .killing)) :=
  ⟨⟨3, setStair up 3 { Stairwell.reset with state := .killing }, by decide +kernel⟩,
   ⟨15, up, by decide +kernel⟩,
   ⟨3, setStair up 3 { Stairwell.reset with state := .killing }, by decide +kernel⟩⟩

theorem test_hypotheses_ListReadingCompletes :
    (∃ (sw : Fin 16) (a : Nat) (s : State), nextRead s sw = some a ∧ cmdLegal a = true) ∧
    (∃ (sw : Fin 16) (a : Ahead) (rest : List Ahead) (v : Nat) (s : State), (stair s sw).state = .running ∧ (stair s sw).cur = none ∧ (stair s sw).ahead = a :: rest ∧ a.got = .pending ∧ isHost a.addr = false ∧ (memRead s .stairwell a.addr 64).2 = .ok v) ∧
    (∃ (sw : Fin 16) (c : Current) (a : Ahead) (v : Nat) (s : State), (stair s sw).cur = some c ∧ (stair s sw).ahead.find? (fun a => a.got == .pending && !isHost a.addr) = some a ∧ (memRead s .stairwell a.addr 64).2 = .ok v) ∧
    (∃ (sw : Fin 16) (c : Current) (s : State), (stair s sw).state = .running ∧ (stair s sw).cur = some c ∧ (c.stage = .waitPrior ∨ c.stage = .waitSlot) ∧ entryWait (stair s sw) c.img = none ∧ 1 ≤ eOpcode c.img ∧ eOpcode c.img ≤ 0x0C ∧ ((eOpcode c.img = 0x02 → (eHaltIfErr c.img && (stair s sw).errSeen) = false)) ∧ ((eOpcode c.img = 0x09 → eClose c.img = true → (findWindow s (eWtag c.img)).isSome = true)) ∧ ((eOpcode c.img = 0x09 → eClose c.img = false →
      (s.windows.any fun w => w.tag == eWtag c.img) = false ∧ (freeEntry s).isSome = true))) ∧
    (∃ (sw : Fin 16) (c : Current) (s : State), (stair s sw).cur = some c ∧ (stair s sw).state = .running ∧ c.stage = .fetched ∧ ¬(1 ≤ eOpcode c.img ∧ eOpcode c.img ≤ 0x0C)) ∧
    (∃ (sw : Fin 16) (c : Current) (s : State), (stair s sw).cur = some c ∧ (stair s sw).state = .running ∧ c.stage = .fetched ∧ ¬(1 ≤ eOpcode c.img ∧ eOpcode c.img ≤ 0x0C)) :=
  ⟨⟨3, 64, poke (setStair up 3 { Stairwell.reset with state := .running }) [(.stairwell 3, Reg.sw.LIST_PTR, 64)], by decide +kernel⟩,
   ⟨3, { addr := 64, got := .pending, again := true }, [], 0, setStair up 3 { Stairwell.reset with state := .running, ahead := [{ addr := 64, got := .pending, again := true }] }, by decide +kernel⟩,
   ⟨3, curOf 2, { addr := 128, got := .pending, again := false }, 0, setStair up 3 { atEnt 2 with ahead := [{ addr := 128, got := .pending, again := false }] }, by decide +kernel⟩,
   ⟨3, { addr := 4096, img := 2, stage := .waitPrior }, setStair up 3 { Stairwell.reset with state := .running, cur := some { addr := 4096, img := 2, stage := .waitPrior } }, by decide +kernel⟩,
   ⟨3, curOf 0, setStair up 3 (atEnt 0), by decide +kernel⟩,
   ⟨3, curOf 13, setStair up 3 (atEnt 13), by decide +kernel⟩⟩

theorem test_hypotheses_SimpleEntriesComplete :
    (∃ (sw : Fin 16) (c : Current) (k : Nat) (s : State), AtEntry s sw 0x01 c ∧ freeSlot (stair s sw) = some k) ∧
    (∃ (sw : Fin 16) (c : Current) (k : Nat) (s : State), AtEntry s sw 0x01 c ∧ freeSlot (stair s sw) = some k) ∧
    (∃ (sw : Fin 16) (c : Current) (s : State), AtEntry s sw 0x02 c ∧ (eHaltIfErr c.img && (stair s sw).errSeen) = false) ∧
    (∃ (sw : Fin 16) (c : Current) (s : State), AtEntry s sw 0x02 c ∧ eHaltIfErr c.img = true ∧ (stair s sw).errSeen = true) ∧
    (∃ (sw : Fin 16) (c : Current) (s : State), AtEntry s sw 0x03 c) ∧
    (∃ (sw : Fin 16) (c : Current) (s : State), AtEntry s sw 0x04 c ∧ isHost (eOp0 c.img) = true ∧ linkUp s = true) ∧
    (∃ (sw : Fin 16) (c : Current) (s : State), AtEntry s sw 0x04 c ∧ isHost (eOp0 c.img) = false ∧ eRecord c.img = 0) ∧
    (∃ (sw : Fin 16) (c : Current) (m : State × Got) (record : Nat) (s : State), AtEntry s sw 0x04 c ∧ isHost (eOp0 c.img) = false ∧ eRecord c.img ≠ 0 ∧ m = memWrite (startEntry s sw c) .stairwell (eOp0 c.img) (eWidth c.img) (eOp1 c.img % 2 ^ (8 * eWidth c.img)) ∧ record = recordImage sw 0 c.img c.addr (if m.2.isOk then 0 else 0x28) 0 0 (((stair s sw).seq + 1) % 2 ^ 32)) ∧
    (∃ (sw : Fin 16) (c : Current) (m : State × Got) (record : Nat) (s : State), AtEntry s sw 0x04 c ∧ isHost (eOp0 c.img) = false ∧ eRecord c.img ≠ 0 ∧ m = memWrite (startEntry s sw c) .stairwell (eOp0 c.img) (eWidth c.img) (eOp1 c.img % 2 ^ (8 * eWidth c.img)) ∧ record = recordImage sw 0 c.img c.addr (if m.2.isOk then 0 else 0x28) 0 0 (((stair s sw).seq + 1) % 2 ^ 32)) ∧
    (∃ (sw : Fin 16) (c : Current) (s : State), AtEntry s sw 0x05 c) ∧
    (∃ (sw : Fin 16) (c : Current) (s : State), AtEntry s sw 0x05 c) :=
  ⟨⟨3, curOf (ent 1 0 32 256 0 0 0), 0, setStair up 3 (atEnt (ent 1 0 32 256 0 0 0)), by unfold AtEntry; decide +kernel⟩,
   ⟨3, curOf (ent 1 0 0 8 0 0 0), 0, setStair up 3 (atEnt (ent 1 0 0 8 0 0 0)), by unfold AtEntry; decide +kernel⟩,
   ⟨3, curOf (ent 2 0 0 0 0 0 0), setStair up 3 { atEnt (ent 2 0 0 0 0 0 0) with errSeen := true }, by unfold AtEntry; decide +kernel⟩,
   ⟨3, curOf (ent 1026 0 0 0 0 0 0), setStair up 3 { atEnt (ent 1026 0 0 0 0 0 0) with errSeen := true }, by unfold AtEntry; decide +kernel⟩,
   ⟨3, curOf (ent 3 0 0 64 0 0 5), setStair up 3 (atEnt (ent 3 0 0 64 0 0 5)), by unfold AtEntry; decide +kernel⟩,
   ⟨3, curOf (ent 4 0 0 (2 ^ 63 + 64) 7 0 0), setStair net 3 (atEnt (ent 4 0 0 (2 ^ 63 + 64) 7 0 0)), by unfold AtEntry; decide +kernel⟩,
   ⟨3, curOf (ent 4 4 0 64 7 0 0), setStair up 3 (atEnt (ent 4 4 0 64 7 0 0)), by unfold AtEntry; decide +kernel⟩,
   ⟨3, (curOf (ent 4 0 4096 64 7 0 0)), _, _, setStair up 3 (atEnt (ent 4 0 4096 64 7 0 0)), ⟨by unfold AtEntry; decide +kernel, by decide +kernel, by decide +kernel, rfl, rfl⟩⟩,
   ⟨3, (curOf (ent 4 4 (2 ^ 63 + 4096) 64 7 0 0)), _, _, setStair net 3 (atEnt (ent 4 4 (2 ^ 63 + 4096) 64 7 0 0)), ⟨by unfold AtEntry; decide +kernel, by decide +kernel, by decide +kernel, rfl, rfl⟩⟩,
   ⟨3, curOf (ent 0x3F0005 0 0 0 0 0 0), setStair net 3 (atEnt (ent 0x3F0005 0 0 0 0 0 0)), by unfold AtEntry; decide +kernel⟩,
   ⟨3, curOf (ent 0x020005 0 0 0 0 0 0), poke (setStair net 3 (atEnt (ent 0x020005 0 0 0 0 0 0))) [(.hif, Reg.hif.VEC_CTRL_MASK 2, 1)], by unfold AtEntry; decide +kernel⟩⟩

theorem test_hypotheses_WaitWordCompletes :
    (∃ (sw : Fin 16) (c : Current) (w : Wait) (s : State), (stair s sw).cur = some c ∧ (stair s sw).wait = some w ∧ isHost (eOp0 c.img) = false ∧ w.wake = true ∧ w.reading = false) ∧
    (∃ (sw : Fin 16) (c : Current) (w : Wait) (s : State), (stair s sw).cur = some c ∧ (stair s sw).wait = some w ∧ isHost (eOp0 c.img) = true ∧ w.reading = false) ∧
    (∃ (sw : Fin 16) (e : Bool) (c : Current) (w : Wait) (v : Nat) (s : State), (stair s sw).cur = some c ∧ (stair s sw).wait = some w ∧ w.reading = true ∧ WordRead s c w v ∧ condMet c.img v = true) ∧
    (∃ (sw : Fin 16) (e : Bool) (c : Current) (w : Wait) (v : Nat) (s : State), (stair s sw).cur = some c ∧ (stair s sw).wait = some w ∧ w.reading = true ∧ WordRead s c w v ∧ condMet c.img v = false ∧ (e && w.timed) = false) ∧
    (∃ (sw : Fin 16) (c : Current) (w : Wait) (v : Nat) (s : State), (stair s sw).cur = some c ∧ (stair s sw).wait = some w ∧ w.reading = true ∧ w.timed = true ∧ WordRead s c w v ∧ condMet c.img v = false) ∧
    (∃ (sw : Fin 16) (c : Current) (w : Wait) (s : State), (stair s sw).cur = some c ∧ (stair s sw).wait = some w ∧ w.timed = true) :=
  ⟨⟨3, curOf (ent 3 0 0 64 0 255 5), { wait0 with wake := true, reading := false }, setStair up 3 { atEnt (ent 3 0 0 64 0 255 5) with wait := some { wait0 with wake := true, reading := false } }, by decide +kernel⟩,
   ⟨3, curOf (ent 3 0 0 (2 ^ 63 + 64) 0 255 5), { wait0 with reading := false }, setStair up 3 { atEnt (ent 3 0 0 (2 ^ 63 + 64) 0 255 5) with wait := some { wait0 with reading := false } }, by decide +kernel⟩,
   ⟨3, true, curOf (ent 3 0 0 64 0 255 5), wait0, 0, setStair up 3 { atEnt (ent 3 0 0 64 0 255 5) with wait := some wait0 }, by unfold WordRead; decide +kernel⟩,
   ⟨3, false, curOf (ent 3 0 0 (2 ^ 63 + 64) 0 255 5), { wait0 with word := .data 7 }, 7, setStair up 3 { atEnt (ent 3 0 0 (2 ^ 63 + 64) 0 255 5) with wait := some { wait0 with word := .data 7 } }, by unfold WordRead; decide +kernel⟩,
   ⟨3, curOf (ent 3 1 0 64 0 255 5), wait0, 0, setStair up 3 { atEnt (ent 3 1 0 64 0 255 5) with wait := some wait0 }, by unfold WordRead; decide +kernel⟩,
   ⟨3, curOf (ent 3 0 0 64 0 255 5), wait0, setStair up 3 { atEnt (ent 3 0 0 64 0 255 5) with wait := some wait0 }, by decide +kernel⟩⟩

theorem test_hypotheses_TrackedEntriesComplete :
    (∃ (sw : Fin 16) (slot : Fin 8) (e : Tracked) (d : Nat) (s : State), NatMap.get? (stair s sw).slots slot = some e ∧ e.body = .descriptor ∧ isHost (eOp0 e.img) = false ∧ (memRead s .stairwell (eOp0 e.img) 256).2 = .ok d) ∧
    (∃ (sw : Fin 16) (c : Current) (k n : Nat) (s : State), AtEntry s sw 0x06 c ∧ freeSlot (stair s sw) = some k) ∧
    (∃ (sw : Fin 16) (c : Current) (k n : Nat) (s : State), AtEntry s sw 0x06 c ∧ freeSlot (stair s sw) = some k) ∧
    (∃ (sw : Fin 16) (slot : Fin 8) (e : Tracked) (done asked : Nat) (ps : NatMap (Option Nat)) (r : State × Written)
    (s : State), NatMap.get? (stair s sw).slots slot = some e ∧ eOpcode e.img = 0x06 ∧ e.body = .moving done asked ps ∧ cmdWrite s (dataOwner sw slot) (eOp0 e.img + 64 * done) 64 (packElems 64 (List.replicate 8 (eOp2 e.img))) = r) ∧
    (∃ (sw : Fin 16) (slot : Fin 8) (e : Tracked) (done asked : Nat) (ps : NatMap (Option Nat)) (r : State × Written)
    (s : State), NatMap.get? (stair s sw).slots slot = some e ∧ eOpcode e.img = 0x06 ∧ e.body = .moving done asked ps ∧ cmdWrite s (dataOwner sw slot) (eOp0 e.img + 64 * done) 64 (packElems 64 (List.replicate 8 (eOp2 e.img))) = r) ∧
    (∃ (sw : Fin 16) (slot : Fin 8) (e : Tracked) (done asked : Nat) (ps : NatMap (Option Nat)) (r : State × Written)
    (s : State), NatMap.get? (stair s sw).slots slot = some e ∧ eOpcode e.img = 0x06 ∧ e.body = .moving done asked ps ∧ cmdWrite s (dataOwner sw slot) (eOp0 e.img + 64 * done) 64 (packElems 64 (List.replicate 8 (eOp2 e.img))) = r) ∧
    (∃ (sw : Fin 16) (c : Current) (k n : Nat) (s : State), AtEntry s sw 0x07 c ∧ freeSlot (stair s sw) = some k) ∧
    (∃ (sw : Fin 16) (slot : Fin 8) (e : Tracked) (done asked v : Nat) (ps : NatMap (Option Nat)) (r : State × Written)
    (s u : State), NatMap.get? (stair s sw).slots slot = some e ∧ eOpcode e.img = 0x07 ∧ e.body = .moving done asked ps ∧ isHost (eOp0 e.img) = false ∧ memRead s .stairwell (eOp0 e.img + 64 * done) 64 = (u, .ok v) ∧ cmdWrite u (dataOwner sw slot) (eOp1 e.img + 64 * done) 64 v = r) ∧
    (∃ (sw : Fin 16) (slot : Fin 8) (e : Tracked) (done asked off v : Nat) (ps : NatMap (Option Nat)) (r : State × Written)
    (s : State), NatMap.get? (stair s sw).slots slot = some e ∧ eOpcode e.img = 0x07 ∧ e.body = .moving done asked ((off, some v) :: ps) ∧ isHost (eOp0 e.img) = true ∧ cmdWrite s (dataOwner sw slot) (eOp1 e.img + 64 * done) 64 (bits v (8 * (64 * done - off)) 512) = r ∧ ¬(r.2 = .lost ∧ isHost (eOp1 e.img) = false)) ∧
    (∃ (sw : Fin 16) (slot : Fin 8) (e : Tracked) (done asked off v : Nat) (ps : NatMap (Option Nat)) (r : State × Written)
    (s : State), NatMap.get? (stair s sw).slots slot = some e ∧ eOpcode e.img = 0x07 ∧ e.body = .moving done asked ((off, some v) :: ps) ∧ isHost (eOp0 e.img) = true ∧ cmdWrite s (dataOwner sw slot) (eOp1 e.img + 64 * done) 64 (bits v (8 * (64 * done - off)) 512) = r ∧ ¬(r.2 = .lost ∧ isHost (eOp1 e.img) = false)) ∧
    (∃ (sw : Fin 16) (slot : Fin 8) (e : Tracked) (done asked off v : Nat) (ps : NatMap (Option Nat)) (r : State × Written)
    (s : State), NatMap.get? (stair s sw).slots slot = some e ∧ eOpcode e.img = 0x07 ∧ e.body = .moving done asked ((off, some v) :: ps) ∧ isHost (eOp0 e.img) = true ∧ cmdWrite s (dataOwner sw slot) (eOp1 e.img + 64 * done) 64 (bits v (8 * (64 * done - off)) 512) = r ∧ ¬(r.2 = .lost ∧ isHost (eOp1 e.img) = false)) ∧
    (∃ (sw : Fin 16) (slot : Fin 8) (e : Tracked) (done asked off : Nat) (ps : NatMap (Option Nat)) (s : State), NatMap.get? (stair s sw).slots slot = some e ∧ eOpcode e.img = 0x07 ∧ e.body = .moving done asked ((off, none) :: ps) ∧ isHost (eOp0 e.img) = true) ∧
    (∃ (sw : Fin 16) (c : Current) (k : Nat) (s : State), AtEntry s sw 0x08 c ∧ freeSlot (stair s sw) = some k) :=
  ⟨⟨3, 2, trk (ent 1 0 0 256 0 0 0) .descriptor, 0, setStair up 3 { Stairwell.reset with state := .running, slots := [(2, trk (ent 1 0 0 256 0 0 0) (.descriptor))] }, by decide +kernel⟩,
   ⟨3, curOf (ent 6 0 0 0 64 0 0), 0, 1, setStair up 3 (atEnt (ent 6 0 0 0 64 0 0)), by unfold AtEntry; decide +kernel⟩,
   ⟨3, curOf (ent 6 0 0 0 0 0 0), 0, 1, setStair up 3 (atEnt (ent 6 0 0 0 0 0 0)), by unfold AtEntry; decide +kernel⟩,
   ⟨3, 2, trk (ent 6 0 0 0 64 5 0) (.moving 0 0 []), 0, 0, [], _, setStair up 3 { Stairwell.reset with state := .running, slots := [(2, trk (ent 6 0 0 0 64 5 0) (.moving 0 0 []))] }, ⟨(by decide +kernel), (by decide +kernel), (by decide +kernel), rfl⟩⟩,
   ⟨3, 2, trk (ent 6 0 0 0 128 5 0) (.moving 0 0 []), 0, 0, [], _, setStair up 3 { Stairwell.reset with state := .running, slots := [(2, trk (ent 6 0 0 0 128 5 0) (.moving 0 0 []))] }, ⟨(by decide +kernel), (by decide +kernel), (by decide +kernel), rfl⟩⟩,
   ⟨3, 2, trk (ent 6 0 0 (2 ^ 63) 128 5 0) (.moving 1 0 []), 1, 0, [], _, setStair net 3 { Stairwell.reset with state := .running, slots := [(2, trk (ent 6 0 0 (2 ^ 63) 128 5 0) (.moving 1 0 []))] }, ⟨(by decide +kernel), (by decide +kernel), (by decide +kernel), rfl⟩⟩,
   ⟨3, curOf (ent 7 0 0 0 4096 0 0), 0, 1, setStair up 3 (atEnt (ent 7 0 0 0 4096 0 0)), by unfold AtEntry; decide +kernel⟩,
   ⟨3, 2, trk (ent 7 0 0 0 4096 128 0) (.moving 1 0 []), 1, 0, 0, [], _, setStair up 3 { Stairwell.reset with state := .running, slots := [(2, trk (ent 7 0 0 0 4096 128 0) (.moving 1 0 []))] }, _, ⟨(by decide +kernel), (by decide +kernel), (by decide +kernel), (by decide +kernel), whole (by decide +kernel), rfl⟩⟩,
   ⟨3, 2, trk (ent 7 0 0 (2 ^ 63 + 4096) 64 64 0) (.moving 0 64 [(0, some 9)]), 0, 64, 0, 9, [], _, setStair net 3 { Stairwell.reset with state := .running, slots := [(2, trk (ent 7 0 0 (2 ^ 63 + 4096) 64 64 0) (.moving 0 64 [(0, some 9)]))] }, ⟨(by decide +kernel), (by decide +kernel), (by decide +kernel), (by decide +kernel), rfl, (by decide +kernel)⟩⟩,
   ⟨3, 2, trk (ent 7 0 0 (2 ^ 63 + 4096) 64 256 0) (.moving 0 256 [(0, some 9)]), 0, 256, 0, 9, [], _, setStair net 3 { Stairwell.reset with state := .running, slots := [(2, trk (ent 7 0 0 (2 ^ 63 + 4096) 64 256 0) (.moving 0 256 [(0, some 9)]))] }, ⟨(by decide +kernel), (by decide +kernel), (by decide +kernel), (by decide +kernel), rfl, (by decide +kernel)⟩⟩,
   ⟨3, 2, trk (ent 7 0 0 (2 ^ 63 + 4096) 64 256 0) (.moving 0 64 [(0, some 9)]), 0, 64, 0, 9, [], _, setStair net 3 { Stairwell.reset with state := .running, slots := [(2, trk (ent 7 0 0 (2 ^ 63 + 4096) 64 256 0) (.moving 0 64 [(0, some 9)]))] }, ⟨(by decide +kernel), (by decide +kernel), (by decide +kernel), (by decide +kernel), rfl, (by decide +kernel)⟩⟩,
   ⟨3, 2, trk (ent 7 0 0 (2 ^ 63 + 4096) 64 64 0) (.moving 0 64 [(0, none)]), 0, 64, 0, [], setStair up 3 { Stairwell.reset with state := .running, slots := [(2, trk (ent 7 0 0 (2 ^ 63 + 4096) 64 64 0) (.moving 0 64 [(0, none)]))] }, by decide +kernel⟩,
   ⟨3, curOf (ent 8 0x80010001 0 0 0 0 0), 0, setStair up 3 (atEnt (ent 8 0x80010001 0 0 0 0 0)), by unfold AtEntry; decide +kernel⟩⟩

theorem test_hypotheses_WindowAndControlEntriesComplete :
    (∃ (sw : Fin 16) (c : Current) (i : Nat) (s : State), AtEntry s sw 0x09 c ∧ eClose c.img = false ∧ (s.windows.any fun w => w.tag == eWtag c.img) = false ∧ freeEntry s = some i ∧ (memWrite (startEntry s sw c) .linkReceiver (eOp0 c.img) 256 0).2.isOk = true) ∧
    (∃ (sw : Fin 16) (c : Current) (s : State), AtEntry s sw 0x09 c ∧ eClose c.img = false ∧ (s.windows.any fun w => w.tag == eWtag c.img) = true) ∧
    (∃ (sw : Fin 16) (c : Current) (s : State), (stair s sw).cur = some c ∧ c.stage = .opening) ∧
    (∃ (sw : Fin 16) (c : Current) (w : Window) (s : State), AtEntry s sw 0x09 c ∧ eClose c.img = true ∧ findWindow s (eWtag c.img) = some w) ∧
    (∃ (sw : Fin 16) (c : Current) (w : Window) (s : State), (stair s sw).cur = some c ∧ c.stage = .closing ∧ (s.windows.find? fun w => w.tag == eWtag c.img && w.closing) = some w ∧ windowPending s w.entry = false) ∧
    (∃ (sw : Fin 16) (c : Current) (k : Nat) (s : State), AtEntry s sw 0x0A c ∧ freeSlot (stair s sw) = some k) ∧
    (∃ (sw : Fin 16) (c : Current) (s : State), AtEntry s sw 0x0B c) ∧
    (∃ (sw : Fin 16) (c : Current) (s : State), AtEntry s sw 0x0C c) ∧
    (∃ (sw : Fin 16) (slot : Fin 8) (e : Tracked) (st fl wk : Nat) (s : State), NatMap.get? (stair s sw).slots slot = some e ∧ e.body = .ended st fl wk ∧ writeWaits s (dataOwner sw slot) = true) ∧
    (∃ (sw : Fin 16) (slot : Fin 8) (e : Tracked) (st fl wk : Nat) (s : State), NatMap.get? (stair s sw).slots slot = some e ∧ e.body = .ended st fl wk ∧ writeWaits s (dataOwner sw slot) = false) ∧
    (∃ (sw : Fin 16) (slot : Fin 8) (e : Tracked) (st fl wk : Nat) (s : State), NatMap.get? (stair s sw).slots slot = some e ∧ e.body = .ended st fl wk ∧ writeWaits s (dataOwner sw slot) = false) ∧
    (∃ (sw : Fin 16) (slot : Fin 8) (e : Tracked) (st fl wk : Nat) (s : State), NatMap.get? (stair s sw).slots slot = some e ∧ e.body = .ended st fl wk ∧ writeWaits s (dataOwner sw slot) = false) ∧
    (∃ (sw : Fin 16) (slot : Fin 8) (e : Tracked) (st fl wk seq : Nat), st < 2 ^ 8 ∧ fl < 2 ^ 32 ∧ e.addr < 2 ^ 64 ∧ seq < 2 ^ 32) ∧
    (∃ (sw : Fin 16) (slot : Nat) (e : Tracked) (s : State), ((stair s sw).slots.find? fun e => (recordFails s e.2).isSome) = some (slot, e) ∧ writeWaits s (dataOwner sw slot) = false) :=
  ⟨⟨3, curOf (ent 9 0x50000 0 4096 320 0x3000 0), 0, setStair up 3 (atEnt (ent 9 0x50000 0 4096 320 0x3000 0)), by unfold AtEntry; decide +kernel⟩,
   ⟨3, curOf (ent 9 0x50000 0 4096 320 0x3000 0), { setStair up 3 (atEnt (ent 9 0x50000 0 4096 320 0x3000 0)) with windows := [win0] }, by unfold AtEntry; decide +kernel⟩,
   ⟨3, { addr := 4096, img := ent 9 0x50000 0 4096 320 0x3000 0, stage := .opening }, { setStair up 3 { Stairwell.reset with state := .running, cur := some { addr := 4096, img := ent 9 0x50000 0 4096 320 0x3000 0, stage := .opening } } with windows := [{ win0 with live := false }] }, by decide +kernel⟩,
   ⟨3, curOf (ent 9 0x50001 0 0 0 0 0), win0, { setStair up 3 (atEnt (ent 9 0x50001 0 0 0 0 0)) with windows := [win0] }, by unfold AtEntry; decide +kernel⟩,
   ⟨3, { addr := 4096, img := ent 9 0x50001 0 0 0 0 0, stage := .closing }, { win0 with closing := true }, { setStair up 3 { Stairwell.reset with state := .running, cur := some { addr := 4096, img := ent 9 0x50001 0 0 0 0 0, stage := .closing } } with windows := [{ win0 with closing := true }] }, by decide +kernel⟩,
   ⟨3, curOf (ent 10 0 0 4096 0 0 0), 0, setStair up 3 (atEnt (ent 10 0 0 4096 0 0 0)), by unfold AtEntry; decide +kernel⟩,
   ⟨3, curOf (ent 11 0 0 64 0 0 0), setStair up 3 (atEnt (ent 11 0 0 64 0 0 0)), by unfold AtEntry; decide +kernel⟩,
   ⟨3, curOf (ent 12 0 0 0 0 0 0), setStair up 3 (atEnt (ent 12 0 0 0 0 0 0)), by unfold AtEntry; decide +kernel⟩,
   ⟨3, 2, trk (ent 6 0 (2 ^ 63) 0 64 0 0) (.ended 0 0 1), 0, 0, 1, setStair { net with hif := { net.hif with queued := [{ packet := .hostWr 0 64 5, owner := some (dataOwner 3 2), waited := true }] } } 3 { Stairwell.reset with state := .running, slots := [(2, trk (ent 6 0 (2 ^ 63) 0 64 0 0) (.ended 0 0 1))] }, by decide +kernel⟩,
   ⟨3, 2, trk (ent 6 0 32 0 64 0 0) (.ended 0x28 0 0), 0x28, 0, 0, setStair up 3 { Stairwell.reset with state := .running, slots := [(2, trk (ent 6 0 32 0 64 0 0) (.ended 0x28 0 0))] }, by decide +kernel⟩,
   ⟨3, 2, trk (ent 6 0 0 0 64 0 0) (.ended 1 0 0), 1, 0, 0, setStair up 3 { Stairwell.reset with state := .running, slots := [(2, trk (ent 6 0 0 0 64 0 0) (.ended 1 0 0))] }, by decide +kernel⟩,
   ⟨3, 2, trk (ent 6 0 (2 ^ 63 + 32) 0 64 0 0) (.ended 0 0 1), 0, 0, 1, setStair net 3 { Stairwell.reset with state := .running, slots := [(2, trk (ent 6 0 (2 ^ 63 + 32) 0 64 0 0) (.ended 0 0 1))] }, by decide +kernel⟩,
   ⟨15, 7, trk (ent 6 0 32 0 64 0 0) (.ended 255 0 0), 255, 2 ^ 32 - 1, 2 ^ 32, 2 ^ 32 - 1, by decide +kernel⟩,
   ⟨3, 2, trk (ent 6 0 (2 ^ 40) 0 64 0 0) (.ended 0 0 1), setStair up 3 { Stairwell.reset with state := .running, slots := [(2, trk (ent 6 0 (2 ^ 40) 0 64 0 0) (.ended 0 0 1))] }, by decide +kernel⟩⟩

theorem test_hypotheses_JobIssueCompletes :
    (∃ (sw slot d : Nat) (s : State), nextOffer s = some (sw, slot, some d) ∧ s.mc.switching ≠ 2 ∧ (nextBlock (newJob sw slot d)).isSome = true) ∧
    (∃ (sw slot : Nat) (s : State), nextOffer s = some (sw, slot, none) ∧ s.mc.switching ≠ 2) ∧
    (∃ (sw : Fin 16) (slot : Fin 8) (j : Job) (which a n al v : Nat) (s : State), findJob s sw slot = some j ∧ j.stage = .blocks ∧ nextBlock j = some (which, a, n, al) ∧ (memRead s .stairwell a n).2 = .ok v) ∧
    (∃ (sw : Fin 16) (slot : Fin 8) (j : Job) (m n k : Nat) (s u : State), findJob s sw slot = some j ∧ j.stage = .extents ∧ readExtents s j = (u, some (m, n, k))) ∧
    (∃ (sw : Fin 16) (slot : Fin 8) (j : Job) (m n k : Nat) (s u : State), findJob s sw slot = some j ∧ j.stage = .extents ∧ readExtents s j = (u, some (m, n, k))) :=
  ⟨⟨3, 0, desc0, setStair up 3 { Stairwell.reset with state := .running, slots := [(0, trk (ent 1 0 0 256 0 0 0) (.offered (some desc0)))] }, by decide +kernel⟩,
   ⟨3, 0, setStair up 3 { Stairwell.reset with state := .running, slots := [(0, trk (ent 1 0 0 256 0 0 0) (.offered (none)))] }, by decide +kernel⟩,
   ⟨3, 0, newJob 3 0 desc0, 1, 0x70000, 4, 64, 0, withJobs (setStair up 3 { Stairwell.reset with state := .running, slots := [(0, trk (ent 1 0 0 256 0 0 0) (.issued))] }) [newJob 3 0 desc0], by decide +kernel⟩,
   ⟨3, 0, { newJob 3 0 desc0 with stage := .extents, conv := some 0 }, 4, 128, 16, withJobs (setStair up 3 { Stairwell.reset with state := .running, slots := [(0, trk (ent 1 0 0 256 0 0 0) (.issued))] }) [{ newJob 3 0 desc0 with stage := .extents, conv := some 0 }], _, ⟨(by decide +kernel), (by decide +kernel), whole (by decide +kernel)⟩⟩,
   ⟨3, 0, { newJob 3 0 (desc0 + 2 ^ 13) with stage := .extents, conv := some 0 }, 0, 0, 0, withJobs (setStair up 3 { Stairwell.reset with state := .running, slots := [(0, trk (ent 1 0 0 256 0 0 0) (.issued))] }) [{ newJob 3 0 (desc0 + 2 ^ 13) with stage := .extents, conv := some 0 }], _, ⟨(by decide +kernel), (by decide +kernel), whole (by decide +kernel)⟩⟩⟩

theorem test_hypotheses_TicketsComplete :
    (∃ (f : Fetcher) (s : State), ready s = true ∧ mayFetch s f = true ∧ (s.disp.requests.any fun r => r.who == f) = false) ∧
    (∃ (f : Fetcher) (s : State), ready s = true ∧ mayFetch s f = true ∧ (s.disp.requests.any fun r => r.who == f) = false) ∧
    (∃ (r : Request) (j : Job) (s : State), rd s .mcService Reg.mcs.STOPPED = 0 ∧ nextRequest s = some (r, j) ∧ fits s ((takeUnits j).1.length * unitPlaces j.desc) = true) ∧
    (∃ (r : Request) (j : Job) (s : State), rd s .mcService Reg.mcs.STOPPED = 0 ∧ nextRequest s = some (r, j) ∧ fits s ((takeUnits j).1.length * unitPlaces j.desc) = false ∧ r.waited = false) ∧
    (∃ (h : Fin 16) (g : Fin 17) (k : Ticket) (s : State), ((gal s h g).tickets.find? fun t => !t.finished.isEmpty) = some k) ∧
    (∃ (h : Fin 16) (k : Ticket) (s : State), NatMap.get? s.dressers h.val = some k ∧ k.written = true) :=
  ⟨⟨.gallery 0 0, up, by decide +kernel⟩,
   ⟨.dresser 15, up, by decide +kernel⟩,
   ⟨{ who := .gallery 0 0, waited := false }, jobOf desc0, { withJobs up [jobOf desc0] with disp := { (withJobs up [jobOf desc0]).disp with requests := [{ who := .gallery 0 0, waited := false }] } }, by decide +kernel⟩,
   ⟨{ who := .gallery 0 0, waited := false }, { jobOf desc0 with held := 2048 }, { withJobs up [{ jobOf desc0 with held := 2048 }] with disp := { (withJobs up [{ jobOf desc0 with held := 2048 }]).disp with requests := [{ who := .gallery 0 0, waited := false }] } }, by decide +kernel⟩,
   ⟨0, 16, { tkt desc0 with finished := [0] }, setGal (withJobs up [jobRun desc0]) 0 16 { Gallery.reset with tickets := [{ tkt desc0 with finished := [0] }] }, by decide +kernel⟩,
   ⟨2, { tkt desc0 with written := true }, { withJobs up [jobRun desc0] with dressers := [(2, { tkt desc0 with written := true })] }, by decide +kernel⟩⟩

theorem test_hypotheses_QuantisationCompletes :
    (∃ (h : Fin 16) (g : Fin 17) (prior : Option Ticket) (k : Ticket) (j : Job) (s : State), nextEntry s none (gal s h g).tickets = some (prior, k, j) ∧ ((gal s h g).conversion.any fun c => c.sw == k.sw && c.slot == k.slot && c.block == ticketBlock j k) = false ∧ doneWithRing s (gal s h g) prior = true ∧ spillNeed s h g j (blockRows j (ticketBlock j k)) ≤ rd s (memPage h g) Reg.gm.SPILL_SIZE) ∧
    (∃ (h : Fin 16) (g : Fin 17) (prior : Option Ticket) (k : Ticket) (j : Job) (s : State), nextEntry s none (gal s h g).tickets = some (prior, k, j) ∧ ((gal s h g).conversion.any fun c => c.sw == k.sw && c.slot == k.slot && c.block == ticketBlock j k) = false ∧ doneWithRing s (gal s h g) prior = false ∧ k.waited = false) ∧
    (∃ (h : Fin 16) (g : Fin 17) (p k : Ticket) (j : Job) (c : Conversion) (s : State), nextEntry s none (gal s h g).tickets = some (some p, k, j) ∧ p.sw = k.sw ∧ p.slot = k.slot ∧ ticketBlock j p = ticketBlock j k ∧ (gal s h g).conversion = some c ∧ c.sw = k.sw ∧ c.slot = k.slot ∧ c.block = ticketBlock j k ∧ k.afresh = false) ∧
    (∃ (h : Fin 16) (g : Fin 17) (out : Bool) (c : Conversion) (k : Ticket) (j : Job) (xs : List Nat) (s u : State), nextConversion s h g = some (out, c) ∧ ticketJob s h g c.serial = some (k, j) ∧ sourceRow s h g k j c = (u, some xs)) ∧
    (∃ (h : Fin 16) (g : Fin 17) (c d : Conversion) (k : Ticket) (j : Job) (xs : List Nat) (v : Converted) (cw : Nat)
    (s u u1 u2 u3 : State), RowTaken s h g true c k j xs v u ∧ c.path ≠ .entry ∧ cw = container (fmtWidth (cbAfmt (cbOf c j))) ∧ ticketWrite u h g k (dOutAddr j.desc + globalRow c j * dOutRowStride j.desc) (ceilDiv (v.codes.length * cw) 8)
      (packCodes cw v.codes) = (u1, true) ∧ ticketWrite u1 h g k (dOutSideAddr j.desc + 8 * globalRow c j) 8 v.side = (u2, true) ∧ ErrWritten u2 h g k j c v u3 ∧ d = rowAdded c v) ∧
    (∃ (h : Fin 16) (g : Fin 17) (c d : Conversion) (k : Ticket) (j : Job) (xs : List Nat) (v : Converted) (cw : Nat)
    (s u u1 u2 u3 : State), RowTaken s h g true c k j xs v u ∧ c.path ≠ .entry ∧ cw = container (fmtWidth (cbAfmt (cbOf c j))) ∧ ticketWrite u h g k (dOutAddr j.desc + globalRow c j * dOutRowStride j.desc) (ceilDiv (v.codes.length * cw) 8)
      (packCodes cw v.codes) = (u1, true) ∧ ticketWrite u1 h g k (dOutSideAddr j.desc + 8 * globalRow c j) 8 v.side = (u2, true) ∧ ErrWritten u2 h g k j c v u3 ∧ d = rowAdded c v) ∧
    (∃ (h : Fin 16) (g : Fin 17) (c d : Conversion) (k : Ticket) (j : Job) (xs : List Nat) (v : Converted) (cw : Nat)
    (s u u1 u2 u3 : State), RowTaken s h g true c k j xs v u ∧ c.path ≠ .entry ∧ cw = container (fmtWidth (cbAfmt (cbOf c j))) ∧ ticketWrite u h g k (dOutAddr j.desc + globalRow c j * dOutRowStride j.desc) (ceilDiv (v.codes.length * cw) 8)
      (packCodes cw v.codes) = (u1, true) ∧ ticketWrite u1 h g k (dOutSideAddr j.desc + 8 * globalRow c j) 8 v.side = (u2, true) ∧ ErrWritten u2 h g k j c v u3 ∧ d = rowAdded c v) ∧
    (∃ (h : Fin 16) (g : Fin 17) (c d : Conversion) (k : Ticket) (j : Job) (xs : List Nat) (v : Converted) (cw img : Nat)
    (s u u1 u2 : State), RowTaken s h g false c k j xs v u ∧ c.path = .entry ∧ cw = container (dWa j.desc) ∧ img = v.side + packCodes cw v.codes * 2 ^ 512 ∧ (match c.spill.filter (· ≤ c.next) with
      | some f => ticketWrite u h g k (spillRow u h g f (rowCourses j.k cw) c.next) (64 + 64 * ceilDiv (j.k * cw) 512) img
      | none => (writeStore u h g 1 (ringRow (rowCourses j.k cw) c.next) ((64 + 64 * ceilDiv (j.k * cw) 512) / 4) img, true))
      = (u1, true) ∧ ErrWritten u1 h g k j c v u2 ∧ d = rowAdded c v) ∧
    (∃ (h : Fin 16) (g : Fin 17) (c d : Conversion) (k : Ticket) (j : Job) (xs : List Nat) (v : Converted) (cw img : Nat)
    (s u u1 u2 : State), RowTaken s h g false c k j xs v u ∧ c.path = .entry ∧ cw = container (dWa j.desc) ∧ img = v.side + packCodes cw v.codes * 2 ^ 512 ∧ (match c.spill.filter (· ≤ c.next) with
      | some f => ticketWrite u h g k (spillRow u h g f (rowCourses j.k cw) c.next) (64 + 64 * ceilDiv (j.k * cw) 512) img
      | none => (writeStore u h g 1 (ringRow (rowCourses j.k cw) c.next) ((64 + 64 * ceilDiv (j.k * cw) 512) / 4) img, true))
      = (u1, true) ∧ ErrWritten u1 h g k j c v u2 ∧ d = rowAdded c v) ∧
    (∃ (h : Fin 16) (g : Fin 17) (c d : Conversion) (k : Ticket) (j : Job) (xs : List Nat) (v : Converted) (cw img : Nat)
    (s u u1 u2 : State), RowTaken s h g false c k j xs v u ∧ c.path = .entry ∧ cw = container (dWa j.desc) ∧ img = v.side + packCodes cw v.codes * 2 ^ 512 ∧ (match c.spill.filter (· ≤ c.next) with
      | some f => ticketWrite u h g k (spillRow u h g f (rowCourses j.k cw) c.next) (64 + 64 * ceilDiv (j.k * cw) 512) img
      | none => (writeStore u h g 1 (ringRow (rowCourses j.k cw) c.next) ((64 + 64 * ceilDiv (j.k * cw) 512) / 4) img, true))
      = (u1, true) ∧ ErrWritten u1 h g k j c v u2 ∧ d = rowAdded c v) ∧
    (∃ (h : Fin 16) (g : Fin 17) (c : Conversion) (k : Ticket) (j : Job) (i : Nat) (s : State), (gal s h g).quOut = some c ∧ ticketJob s h g c.serial = some (k, j) ∧ c.gen = none ∧ cbSr (cbOf c j) = true ∧ pickGen (gal s h g) (cbStream (cbOf c j)) (cbSeed (cbOf c j)) = some i) ∧
    (∃ (h : Fin 16) (g : Fin 17) (c : Conversion) (k : Ticket) (j : Job) (i : Nat) (s : State), (gal s h g).quOut = some c ∧ ticketJob s h g c.serial = some (k, j) ∧ c.gen = none ∧ cbSr (cbOf c j) = true ∧ pickGen (gal s h g) (cbStream (cbOf c j)) (cbSeed (cbOf c j)) = some i) ∧
    (∃ (h : Fin 16) (g : Fin 17) (c : Conversion) (k : Ticket) (j : Job) (s : State), (gal s h g).quOut = some c ∧ ticketJob s h g c.serial = some (k, j) ∧ c.gen = none ∧ cbSr (cbOf c j) = true ∧ pickGen (gal s h g) (cbStream (cbOf c j)) (cbSeed (cbOf c j)) = none ∧ k.waited = false) ∧
    (∃ (h : Fin 16) (g : Fin 17) (out : Bool) (c : Conversion) (k : Ticket) (j : Job) (v w : Nat) (s u u' : State), nextBurst s h g = some (out, c, k, j) ∧ readMerge (markBurst s k) .stats (cbStatsAddr (cbOf c j)) = (u, v, none) ∧ readMerge u .stats (cbStatsAddr (cbOf c j) + 32) = (u', w, none) ∧ (memWrite u' .stats (cbStatsAddr (cbOf c j)) 64 (c.stats.foldl addStats (v + w * 2 ^ 256))).2.isOk = true) ∧
    (∃ (h : Fin 16) (g : Fin 17) (k : Ticket) (j : Job) (s : State), (gal s h g).quOut = none ∧ ((gal s h g).tickets.find? fun t =>
      !t.begun && (findJob s t.sw t.slot).any fun j => dKind j.desc == 2) = some k ∧ findJob s k.sw k.slot = some j) :=
  ⟨⟨1, 2, none, tkt desc2, jobConv desc2, poke (inGal [jobConv desc2] { Gallery.reset with tickets := [tkt desc2], conversion := some { serial := 7, sw := 3, slot := 1, block := 0, path := .entry, rows := 4, next := 0, values := [], boulders := [], stats := [], gen := none, spill := none, burst := false } }) [(.mems 1 2, Reg.gm.CONV_COURSES, 100)], by decide +kernel⟩,
   ⟨1, 2, some { tkt desc2 with serial := 6, begun := true, opened := 0 }, tkt desc2, jobConv desc2, inGal [jobConv desc2] { Gallery.reset with tickets := [{ tkt desc2 with serial := 6, begun := true, opened := 0 }, tkt desc2], conversion := some { serial := 7, sw := 3, slot := 1, block := 0, path := .entry, rows := 4, next := 0, values := [], boulders := [], stats := [], gen := none, spill := none, burst := false } }, by decide +kernel⟩,
   ⟨1, 2, { tkt desc2 with serial := 6, begun := true, opened := 1 }, tkt desc2, jobConv desc2, { serial := 7, sw := 3, slot := 0, block := 0, path := .entry, rows := 4, next := 4, values := [], boulders := [], stats := [], gen := none, spill := none, burst := false }, inGal [jobConv desc2] { Gallery.reset with tickets := [{ tkt desc2 with serial := 6, begun := true, opened := 1 }, tkt desc2], conversion := some { serial := 7, sw := 3, slot := 0, block := 0, path := .entry, rows := 4, next := 4, values := [], boulders := [], stats := [], gen := none, spill := none, burst := false } }, by decide +kernel⟩,
   ⟨1, 2, true, { serial := 7, sw := 3, slot := 0, block := 0, path := .drain, rows := 2, next := 0, values := [[0x3F800000, 0x40000000], [0]], boulders := [], stats := [], gen := none, spill := none, burst := false }, tkt desc1, { jobConv desc1 with aux := some (img [(0, 0x3F800000), (6, 0x07)]) }, [0x3F800000, 0x40000000], inGal [{ jobConv desc1 with aux := some (img [(0, 0x3F800000), (6, 0x07)]) }] { Gallery.reset with tickets := [tkt desc1], quOut := some { serial := 7, sw := 3, slot := 0, block := 0, path := .drain, rows := 2, next := 0, values := [[0x3F800000, 0x40000000], [0]], boulders := [], stats := [], gen := none, spill := none, burst := false } }, _, ⟨(by decide +kernel), (by decide +kernel), whole (by decide +kernel)⟩⟩,
   ⟨1, 2, { serial := 7, sw := 3, slot := 0, block := 0, path := .drain, rows := 2, next := 0, values := [[0x3F800000, 0x40000000], [0]], boulders := [], stats := [], gen := none, spill := none, burst := false }, _, tkt desc1, { jobConv desc1 with aux := some (img [(0, 0x3F800000), (6, 0x07)]) }, [0x3F800000, 0x40000000], _, 8, inGal [{ jobConv desc1 with aux := some (img [(0, 0x3F800000), (6, 0x07)]) }] { Gallery.reset with tickets := [tkt desc1], quOut := some { serial := 7, sw := 3, slot := 0, block := 0, path := .drain, rows := 2, next := 0, values := [[0x3F800000, 0x40000000], [0]], boulders := [], stats := [], gen := none, spill := none, burst := false } }, _, _, _, _, ⟨⟨by decide +kernel, by decide +kernel, rfl, _, whole (by decide +kernel), rfl⟩, by decide +kernel, by decide +kernel, whole (by decide +kernel), whole (by decide +kernel), (noErr (by decide +kernel)), rfl⟩⟩,
   ⟨1, 2, { serial := 7, sw := 3, slot := 0, block := 0, path := .drain, rows := 2, next := 1, values := [[0x3F800000, 0x40000000], [0, 0xC1200000]], boulders := [], stats := [stat0], gen := none, spill := none, burst := false }, _, tkt desc1, { jobConv desc1 with aux := some (img [(0, 0x3F800000), (6, 0x07)]) }, [0, 0xC1200000], _, 8, inGal [{ jobConv desc1 with aux := some (img [(0, 0x3F800000), (6, 0x07)]) }] { Gallery.reset with tickets := [tkt desc1], quOut := some { serial := 7, sw := 3, slot := 0, block := 0, path := .drain, rows := 2, next := 1, values := [[0x3F800000, 0x40000000], [0, 0xC1200000]], boulders := [], stats := [stat0], gen := none, spill := none, burst := false } }, _, _, _, _, ⟨⟨by decide +kernel, by decide +kernel, rfl, _, whole (by decide +kernel), rfl⟩, by decide +kernel, by decide +kernel, whole (by decide +kernel), whole (by decide +kernel), (noErr (by decide +kernel)), rfl⟩⟩,
   ⟨1, 2, { serial := 7, sw := 3, slot := 0, block := 0, path := .drain, rows := 2, next := 0, values := [[0x3F800000, 0x40000000], [0]], boulders := [], stats := [], gen := none, spill := none, burst := false }, _, tkt desc1, { jobConv desc1 with aux := some (img [(0, 0x3F800000), (6, 0x07), (10, 8), (0x30, 0xA000)]) }, [0x3F800000, 0x40000000], _, 8, inGal [{ jobConv desc1 with aux := some (img [(0, 0x3F800000), (6, 0x07), (10, 8), (0x30, 0xA000)]) }] { Gallery.reset with tickets := [tkt desc1], quOut := some { serial := 7, sw := 3, slot := 0, block := 0, path := .drain, rows := 2, next := 0, values := [[0x3F800000, 0x40000000], [0]], boulders := [], stats := [], gen := none, spill := none, burst := false } }, _, _, _, _, ⟨⟨by decide +kernel, by decide +kernel, rfl, _, whole (by decide +kernel), rfl⟩, by decide +kernel, by decide +kernel, whole (by decide +kernel), whole (by decide +kernel), (wroteErr (by decide +kernel) (by decide +kernel)), rfl⟩⟩,
   ⟨1, 2, { serial := 7, sw := 3, slot := 0, block := 0, path := .entry, rows := 4, next := 0, values := [], boulders := [], stats := [], gen := none, spill := none, burst := false }, _, { tkt desc2 with begun := true }, jobConv desc2, (List.replicate 16 0), _, 8, _, poke (inGal [jobConv desc2] { Gallery.reset with tickets := [{ tkt desc2 with begun := true }], conversion := some { serial := 7, sw := 3, slot := 0, block := 0, path := .entry, rows := 4, next := 0, values := [], boulders := [], stats := [], gen := none, spill := none, burst := false } }) [(.mems 1 2, Reg.gm.CONV_COURSES, 100)], _, _, _, ⟨⟨by decide +kernel, by decide +kernel, rfl, _, whole (by decide +kernel), rfl⟩, by decide +kernel, by decide +kernel, rfl, whole (by decide +kernel), noErr (by decide +kernel), rfl⟩⟩,
   ⟨1, 2, { serial := 7, sw := 3, slot := 0, block := 0, path := .entry, rows := 4, next := 3, values := [], boulders := [], stats := [stat0, stat0, stat0], gen := none, spill := none, burst := false }, _, { tkt desc2 with begun := true }, jobConv desc2, (List.replicate 16 0), _, 8, _, poke (inGal [jobConv desc2] { Gallery.reset with tickets := [{ tkt desc2 with begun := true }], conversion := some { serial := 7, sw := 3, slot := 0, block := 0, path := .entry, rows := 4, next := 3, values := [], boulders := [], stats := [stat0, stat0, stat0], gen := none, spill := none, burst := false } }) [(.mems 1 2, Reg.gm.CONV_COURSES, 100)], _, _, _, ⟨⟨by decide +kernel, by decide +kernel, rfl, _, whole (by decide +kernel), rfl⟩, by decide +kernel, by decide +kernel, rfl, whole (by decide +kernel), noErr (by decide +kernel), rfl⟩⟩,
   ⟨1, 2, { serial := 7, sw := 3, slot := 0, block := 0, path := .entry, rows := 4, next := 0, values := [], boulders := [], stats := [], gen := none, spill := some 0, burst := false }, _, { tkt desc2 with begun := true }, jobConv desc2, (List.replicate 16 0), _, 8, _, poke (inGal [jobConv desc2] { Gallery.reset with tickets := [{ tkt desc2 with begun := true }], conversion := some { serial := 7, sw := 3, slot := 0, block := 0, path := .entry, rows := 4, next := 0, values := [], boulders := [], stats := [], gen := none, spill := some 0, burst := false } }) [(.mems 1 2, Reg.gm.CONV_COURSES, 100)], _, _, _, ⟨⟨by decide +kernel, by decide +kernel, rfl, _, whole (by decide +kernel), rfl⟩, by decide +kernel, by decide +kernel, rfl, whole (by decide +kernel), noErr (by decide +kernel), rfl⟩⟩,
   ⟨1, 2, { serial := 7, sw := 3, slot := 0, block := 0, path := .drain, rows := 2, next := 0, values := [[0x3F800000, 0x40000000], [0]], boulders := [], stats := [], gen := none, spill := none, burst := false }, tkt desc1, jobConv desc1, 0, inGal [jobConv desc1] { Gallery.reset with tickets := [tkt desc1], quOut := some { serial := 7, sw := 3, slot := 0, block := 0, path := .drain, rows := 2, next := 0, values := [[0x3F800000, 0x40000000], [0]], boulders := [], stats := [], gen := none, spill := none, burst := false } }, by decide +kernel⟩,
   ⟨1, 2, { serial := 7, sw := 3, slot := 0, block := 0, path := .drain, rows := 2, next := 0, values := [[0x3F800000, 0x40000000], [0]], boulders := [], stats := [], gen := none, spill := none, burst := false }, tkt desc1, jobConv desc1, 3, inGal [jobConv desc1] { Gallery.reset with tickets := [tkt desc1], quOut := some { serial := 7, sw := 3, slot := 0, block := 0, path := .drain, rows := 2, next := 0, values := [[0x3F800000, 0x40000000], [0]], boulders := [], stats := [], gen := none, spill := none, burst := false }, gens := [(3, { stream := 5, seed := 99, users := [6] })] }, by decide +kernel⟩,
   ⟨1, 2, { serial := 7, sw := 3, slot := 0, block := 0, path := .drain, rows := 2, next := 0, values := [[0x3F800000, 0x40000000], [0]], boulders := [], stats := [], gen := none, spill := none, burst := false }, tkt desc1, jobConv desc1, inGal [jobConv desc1] { Gallery.reset with tickets := [tkt desc1], quOut := some { serial := 7, sw := 3, slot := 0, block := 0, path := .drain, rows := 2, next := 0, values := [[0x3F800000, 0x40000000], [0]], boulders := [], stats := [], gen := none, spill := none, burst := false }, gens := [(0, { stream := 1, seed := 1, users := [6] }), (1, { stream := 2, seed := 1, users := [6] }), (2, { stream := 3, seed := 1, users := [6] }), (3, { stream := 4, seed := 1, users := [6] })] }, by decide +kernel⟩,
   ⟨1, 2, false, { serial := 7, sw := 3, slot := 0, block := 0, path := .entry, rows := 4, next := 4, values := [], boulders := [], stats := [stat0], gen := none, spill := none, burst := false }, { tkt desc2 with records := true }, jobConv desc2, 0, 0, inGal [jobConv desc2] { Gallery.reset with tickets := [{ tkt desc2 with records := true }], conversion := some { serial := 7, sw := 3, slot := 0, block := 0, path := .entry, rows := 4, next := 4, values := [], boulders := [], stats := [stat0], gen := none, spill := none, burst := false } }, _, _, ⟨(by decide +kernel), whole (by decide +kernel), whole (by decide +kernel), (by decide +kernel)⟩⟩,
   ⟨1, 2, tkt (desc0 + 1), jobConv (desc0 + 1), inGal [jobConv (desc0 + 1)] { Gallery.reset with tickets := [tkt (desc0 + 1)] }, by decide +kernel⟩⟩

theorem test_hypotheses_LandingsComplete :
    (∃ (h : Fin 16) (g : Fin 17) (k : Ticket) (j : Job) (p : Nat × Nat) (slot : Nat) (es : List Nat) (s v : State), Opens s v h g k j p slot es ∧ dPreload j.desc = false) ∧
    (∃ (h : Fin 16) (g : Fin 17) (k : Ticket) (j : Job) (p : Nat × Nat) (slot w sh0 : Nat) (sat : Bool) (es : List Nat)
    (s v u : State), Opens s v h g k j p slot es ∧ dPreload j.desc = true ∧ ticketRead v h g (.gallery g) k (dPreSideAddr j.desc + 8 * tileIndex j.desc (newGroupBlock j k)
      ((ticketTiles j k).getD k.opened (0, 0, 0, 0)).2.2.1) 8 = (u, some w) ∧ checkSide j.desc (blockRows j (newGroupBlock j k)) w = .ok (sh0, sat)) ∧
    (∃ (h : Fin 16) (g : Fin 17) (k : Ticket) (j : Job) (p : Nat × Nat) (slot w c : Nat) (es : List Nat) (s v u : State), Opens s v h g k j p slot es ∧ dPreload j.desc = true ∧ ticketRead v h g (.gallery g) k (dPreSideAddr j.desc + 8 * tileIndex j.desc (newGroupBlock j k)
      ((ticketTiles j k).getD k.opened (0, 0, 0, 0)).2.2.1) 8 = (u, some w) ∧ checkSide j.desc (blockRows j (newGroupBlock j k)) w = .error c) ∧
    (∃ (h : Fin 16) (g : Fin 17) (k : Ticket) (j : Job) (p : Nat × Nat) (s u : State), nextOpening s (gal s h g).tickets = some (k, j) ∧ panelOf s h g k.serial k.opened = (u, some p) ∧ (freeGroupSlot (gal u h g) = none ∨ 1024 < rowsHeld (gal u h g) + newGroupRows j k) ∧ k.openWaited = false) ∧
    (∃ (h : Fin 16) (g : Fin 17) (gr : Group) (k : Ticket) (j : Job) (img : Nat) (s u : State), nextLoad (gal s h g) = some gr ∧ ticketJob s h g gr.serial = some (k, j) ∧ ticketRead s h g (.gallery g) k
        (dSrc2Addr j.desc + tileIndex j.desc gr.i gr.j * tileBytes j.desc + 512 * gr.loaded)
        (4 * min 128 (gr.m * dCols j.desc - 128 * gr.loaded)) = (u, some img)) ∧
    (∃ (h : Fin 16) (g : Fin 17) (slot : Fin 8) (s : State), Reaches s .mainband (.array h g) 0x08C ∧ ((gal s h g).groups.any fun e => e.slot == slot.val && e.phase == .orphan) = true) ∧
    (∃ (h : Fin 16) (g : Fin 17) (slot : Fin 8) (s : State), Reaches s .mainband (.array h g) 0x08C ∧ ((gal s h g).groups.any fun e => e.slot == slot.val && e.phase == .orphan) = false) :=
  ⟨⟨1, 2, { tkt desc0 with opened := 0 }, jobRun desc0, (0, 1), 0, [], store (inGal [jobRun desc0] { Gallery.reset with tickets := [{ tkt desc0 with opened := 0 }] }) 0x40000 8 (2 ^ 40), _, ⟨⟨_, by decide +kernel, whole (by decide +kernel), by decide +kernel, by decide +kernel, whole (by decide +kernel)⟩, (by decide +kernel)⟩⟩,
   ⟨1, 2, { tkt (desc3 + 0xB8000 * 2 ^ (8 * 0x80)) with opened := 0 }, jobRun (desc3 + 0xB8000 * 2 ^ (8 * 0x80)), (0, 1), 0, tileSide 4 true false (dSignature desc3) 4 0, 4, true, [], store (store (inGal [jobRun (desc3 + 0xB8000 * 2 ^ (8 * 0x80))] { Gallery.reset with tickets := [{ tkt (desc3 + 0xB8000 * 2 ^ (8 * 0x80)) with opened := 0 }] }) 0x40000 8 (2 ^ 40)) 0xB8000 8 (tileSide 4 true false (dSignature desc3) 4 0), _, _, ⟨⟨_, by decide +kernel, whole (by decide +kernel), by decide +kernel, by decide +kernel, whole (by decide +kernel)⟩, (by decide +kernel), whole (by decide +kernel), (by decide +kernel)⟩⟩,
   ⟨1, 2, { tkt (desc3 + 0xB8000 * 2 ^ (8 * 0x80)) with opened := 0 }, jobRun (desc3 + 0xB8000 * 2 ^ (8 * 0x80)), (0, 1), 0, tileSide 4 true false (dSignature desc3) 3 0, 0x22, [], store (store (inGal [jobRun (desc3 + 0xB8000 * 2 ^ (8 * 0x80))] { Gallery.reset with tickets := [{ tkt (desc3 + 0xB8000 * 2 ^ (8 * 0x80)) with opened := 0 }] }) 0x40000 8 (2 ^ 40)) 0xB8000 8 (tileSide 4 true false (dSignature desc3) 3 0), _, _, ⟨⟨_, by decide +kernel, whole (by decide +kernel), by decide +kernel, by decide +kernel, whole (by decide +kernel)⟩, (by decide +kernel), whole (by decide +kernel), (by decide +kernel)⟩⟩,
   ⟨1, 2, { tkt desc0 with opened := 0 }, jobRun desc0, (0, 1), store (inGal [jobRun desc0] { Gallery.reset with tickets := [{ tkt desc0 with opened := 0 }], groups := (List.range 8).map fun i => { grp desc0 with slot := i, serial := 6 } }) 0x40000 8 (2 ^ 40), _, ⟨(by decide +kernel), whole (by decide +kernel), (by decide +kernel), (by decide +kernel)⟩⟩,
   ⟨1, 2, grp desc3, tkt desc3, jobRun desc3, 0, inGal [jobRun desc3] { Gallery.reset with tickets := [tkt desc3], groups := [grp desc3] }, _, ⟨(by decide +kernel), (by decide +kernel), whole (by decide +kernel)⟩⟩,
   ⟨1, 2, 5, inGal [jobRun desc0] { Gallery.reset with groups := [{ grp desc0 with slot := 5, phase := .orphan }], segments := [(4, some 5)] }, by unfold Reaches; decide +kernel⟩,
   ⟨1, 2, 5, inGal [jobRun desc0] { Gallery.reset with groups := [{ grp desc0 with slot := 5 }] }, by unfold Reaches; decide +kernel⟩⟩

theorem test_hypotheses_TilesComplete :
    (∃ (h : Fin 16) (g : Fin 17) (k0 k : Ticket) (j0 j : Job) (p : Nat × Nat) (img : Nat) (s u w : State), nextReceive s (gal s h g).tickets = some (k0, j0) ∧ ticketJob (passPanels h g k0.serial ((ticketTiles j0 k0).length + 1) s) h g k0.serial = some (k, j) ∧ k.recvTile < (ticketTiles j k).length ∧ panelOf (passPanels h g k0.serial ((ticketTiles j0 k0).length + 1) s) h g k.serial k.recvTile = (u, some p) ∧ ringUsed (gal u h g) + ceilDiv (recordBytes (dWw j.desc)) 512 ≤ 2048 ∧ dSplitK j.desc = false ∧ ticketRead u h g (.gallery (Fin.ofNat 17 g)) k
      (dStreamAddr j.desc + 32 * p.1 + k.recvRec * recordBytes (dWw j.desc)) (recordBytes (dWw j.desc)) = (w, some img)) ∧
    (∃ (h : Fin 16) (g : Fin 17) (a : RowAt) (side codes : Nat) (i : Inputs) (ns : List Nat) (ws : List (Nat × Nat))
    (s u v w : State), nextFetch s h g = some a ∧ streamedAt s h g a.j a.gr.i a.row = some (side, codes) ∧ ringHasRoom s h g a = true ∧ readInputs s h g a = (u, some i) ∧ wordsNeeded u h g a i = (v, some ns) ∧ fetchWords h g a codes ns (placeWord v h g i.side).1 = (w, some ws)) ∧
    (∃ (h : Fin 16) (g : Fin 17) (e : RingRec) (k : Ticket) (j : Job) (img : Nat) (s u : State), (gal s h g).shadow = none ∧ nextLoadRec (gal s h g) = some e ∧ ticketJob s h g e.serial = some (k, j) ∧ readRing s h g e 0 24 = (u, some img) ∧ headBad (dShape j.desc) (dWfmt j.desc) img = false) ∧
    (∃ (h : Fin 16) (g : Fin 17) (r : TileReg) (e : RingRec) (k : Ticket × Job) (img : Nat) (s u : State), (gal s h g).shadow = some r ∧ r.loaded < r.total ∧ ticketJob s h g r.serial = some k ∧ ((gal s h g).ring.find? fun e => e.isTile (some r)) = some e ∧ readRing s h g e (24 + 128 * (r.loaded - 1)) (min 128 (r.size / 4 - (24 + 128 * (r.loaded - 1)))) = (u, some img)) ∧
    (∃ (h : Fin 16) (g : Fin 17) (r : TileReg) (s : State), (gal s h g).shadow = some r ∧ residentDone (gal s h g) = true ∧ r.loaded < r.total) ∧
    (∃ (h : Fin 16) (g : Fin 17) (r : TileReg) (s : State), (gal s h g).shadow = some r ∧ residentDone (gal s h g) = true ∧ r.total ≤ r.loaded ∧ groupOf (gal s h g) r.serial r.tile = none) ∧
    (∃ (h : Fin 16) (g : Fin 17) (r : TileReg) (k : Ticket) (j : Job) (gr : Group) (s : State), (gal s h g).shadow = some r ∧ residentDone (gal s h g) = true ∧ r.total ≤ r.loaded ∧ ticketJob s h g r.serial = some (k, j) ∧ groupOf (gal s h g) r.serial r.tile = some gr ∧ gr.phase ≠ .draining ∧ tileSkips k j ((k.panels.getD gr.tile (0, 0)).2) = false) ∧
    (∃ (h : Fin 16) (g : Fin 17) (r : TileReg) (k : Ticket) (j : Job) (gr : Group) (sums : List (Int × Int × Int × Nat))
    (s u : State), (gal s h g).shadow = some r ∧ residentDone (gal s h g) = true ∧ r.total ≤ r.loaded ∧ ticketJob s h g r.serial = some (k, j) ∧ groupOf (gal s h g) r.serial r.tile = some gr ∧ gr.phase ≠ .draining ∧ tileSkips k j ((k.panels.getD gr.tile (0, 0)).2) = true ∧ formSums s h g k j r gr.j = (u, some sums)) :=
  ⟨⟨1, 2, tkt desc0, { tkt desc0 with panels := [(0, 1)] }, jobRun desc0, jobRun desc0, (0, 1), 0, store (inGal [jobRun desc0] { Gallery.reset with tickets := [tkt desc0] }) 0x40000 8 (2 ^ 40), _, _, ⟨(by decide +kernel), (by decide +kernel), (by decide +kernel), whole (by decide +kernel), (by decide +kernel), (by decide +kernel), whole (by decide +kernel)⟩⟩,
   ⟨1, 2, { t := { tkt desc0 with panels := [(0, 1)] }, j := jobRun desc0, r := tile0 head0, gr := grp desc0, row := 0 }, 0x20000, 0x10000, { side := 0, qpos := 0, theta := 0 }, [], [], inGal [jobRun desc0] (work desc0), _, _, _, ⟨(by decide +kernel), (by decide +kernel), (by decide +kernel), whole (by decide +kernel), whole (by decide +kernel), whole (by decide +kernel)⟩⟩,
   ⟨1, 2, { serial := 7, tile := 0, record := 0, course := 0, courses := 5, left := false }, tkt desc0, jobRun desc0, 0x10000000, inGal [jobRun desc0] { Gallery.reset with tickets := [tkt desc0], ring := [{ serial := 7, tile := 0, record := 0, course := 0, courses := 5, left := false }], mem := [(0, 0x10000000)] }, _, ⟨(by decide +kernel), (by decide +kernel), (by decide +kernel), whole (by decide +kernel), (by decide +kernel)⟩⟩,
   ⟨1, 2, { tile0 head0 with loaded := 1 }, { serial := 7, tile := 0, record := 0, course := 0, courses := 5, left := false }, (tkt desc0, jobRun desc0), 5, inGal [jobRun desc0] { Gallery.reset with tickets := [tkt desc0], ring := [{ serial := 7, tile := 0, record := 0, course := 0, courses := 5, left := false }], mem := [(24, 5)], shadow := some { tile0 head0 with loaded := 1 } }, _, ⟨(by decide +kernel), (by decide +kernel), (by decide +kernel), (by decide +kernel), whole (by decide +kernel)⟩⟩,
   ⟨1, 2, { tile0 head0 with loaded := 1 }, inGal [jobRun desc0] { Gallery.reset with tickets := [{ tkt desc0 with panels := [(0, 1)] }], groups := [grp desc0], shadow := some { tile0 head0 with loaded := 1 } }, by decide +kernel⟩,
   ⟨1, 2, tile0 head0, inGal [jobRun desc0] { Gallery.reset with tickets := [{ tkt desc0 with panels := [(0, 1)] }], groups := [], shadow := some (tile0 head0) }, by decide +kernel⟩,
   ⟨1, 2, tile0 head0, { tkt desc0 with panels := [(0, 1)] }, jobRun desc0, grp desc0, inGal [jobRun desc0] { Gallery.reset with tickets := [{ tkt desc0 with panels := [(0, 1)] }], groups := [grp desc0], shadow := some (tile0 head0) }, by decide +kernel⟩,
   ⟨1, 2, tile0 head0, { tkt (desc0 + 0x80000 * 2 ^ (8 * 0xA8)) with panels := [(0, 1)] }, { jobRun (desc0 + 0x80000 * 2 ^ (8 * 0xA8)) with skip := some 1 }, grp (desc0 + 0x80000 * 2 ^ (8 * 0xA8)), List.replicate 128 (0, 0, 0, 0), inGal [{ jobRun (desc0 + 0x80000 * 2 ^ (8 * 0xA8)) with skip := some 1 }] { Gallery.reset with tickets := [{ tkt (desc0 + 0x80000 * 2 ^ (8 * 0xA8)) with panels := [(0, 1)] }], groups := [grp (desc0 + 0x80000 * 2 ^ (8 * 0xA8))], shadow := some (tile0 head0) }, _, ⟨(by decide +kernel), (by decide +kernel), (by decide +kernel), (by decide +kernel), (by decide +kernel), (by decide +kernel), (by decide +kernel), whole (by decide +kernel)⟩⟩⟩

theorem test_hypotheses_FlightsComplete :
    (∃ (h : Fin 16) (g : Fin 17) (a : RowAt) (i : Inputs) (m : Nat) (s u v : State), (gal s h g).staged = none ∧ nextRow s h g = some a ∧ streamedAt s h g a.j a.gr.i a.row = none ∧ readInputs s h g a = (u, some i) ∧ StagesMask u h g a i v m ∧ ((m = 0 ∨ ∃ w r, gather v h g a false (ringWords a) i.side m = (w, some r)))) ∧
    (∃ (h : Fin 16) (g : Fin 17) (a : RowAt) (p : Nat × Nat) (x : StreamRow) (m : Nat) (s v : State), (gal s h g).staged = none ∧ nextRow s h g = some a ∧ streamedAt s h g a.j a.gr.i a.row = some p ∧ fetchedRow (gal s h g) a = some x ∧ StagesMask s h g a { side := x.side, qpos := x.qpos, theta := x.theta } v m ∧ ((m = 0 ∨ ∃ w r, gather v h g a true x.words x.side m = (w, some r)))) ∧
    (∃ (h : Fin 16) (g : Fin 17) (f : Flight) (r : TileReg) (ij : Nat × Nat) (rest : List (Nat × Nat)) (k : Ticket × Job)
    (gr : Group) (s : State), (gal s h g).flight = some f ∧ (gal s h g).resident = some r ∧ f.todo = ij :: rest ∧ ticketJob s h g f.serial = some k ∧ flightGroup (gal s h g) f = some gr) ∧
    (∃ (h : Fin 16) (g : Fin 17) (f : Flight) (r : TileReg) (ij : Nat × Nat) (rest : List (Nat × Nat)) (k : Ticket × Job)
    (gr : Group) (s : State), (gal s h g).flight = some f ∧ (gal s h g).resident = some r ∧ f.todo = ij :: rest ∧ ticketJob s h g f.serial = some k ∧ flightGroup (gal s h g) f = some gr) ∧
    (∃ (h : Fin 16) (g : Fin 17) (f : Flight) (r : TileReg) (k : Ticket) (j : Job) (gr : Group) (s u : State), FlightEnds s h g f r k j gr ∧ f.skip = none ∧ (gal s h g).staged = none ∧ addTotals h g f r gr (landed r f.acc) (additionWaits s h g f r) = (u, some 0) ∧ rd s (arrPage h g) Reg.lnd.LAND_WAIT < 2 ^ 32) ∧
    (∃ (h : Fin 16) (g : Fin 17) (f : Flight) (r : TileReg) (k : Ticket) (j : Job) (gr : Group) (s u : State), FlightEnds s h g f r k j gr ∧ f.skip = none ∧ (gal s h g).staged = none ∧ addTotals h g f r gr (landed r f.acc) (additionWaits s h g f r) = (u, some 0) ∧ rd s (arrPage h g) Reg.lnd.LAND_WAIT < 2 ^ 32) ∧
    (∃ (h : Fin 16) (g : Fin 17) (f e : Flight) (r : TileReg) (k : Ticket) (j : Job) (kj : Ticket × Job) (gr : Group)
    (s u : State), FlightEnds s h g f r k j gr ∧ f.skip = none ∧ (gal s h g).staged = some e ∧ e.isFor r = true ∧ (gal s h g).sampling = none ∧ e.empty = false ∧ e.skip = none ∧ ticketJob s h g e.serial = some kj ∧ addTotals h g f r gr (landed r f.acc) (additionWaits s h g f r) = (u, some 0)) ∧
    (∃ (h : Fin 16) (g : Fin 17) (f : Flight) (r : TileReg) (k : Ticket) (j : Job) (gr : Group) (n : Nat) (s u : State), FlightEnds s h g f r k j gr ∧ f.skip = none ∧ n ≠ 0 ∧ gr.shift < 8 ∧ gr.retries < 2 ∧ addTotals h g f r gr (landed r f.acc) (additionWaits s h g f r) = (u, some n)) ∧
    (∃ (h : Fin 16) (g : Fin 17) (f : Flight) (r : TileReg) (k : Ticket) (j : Job) (gr : Group) (n : Nat) (s u : State), FlightEnds s h g f r k j gr ∧ f.skip = none ∧ (gal s h g).staged = none ∧ n ≠ 0 ∧ (8 ≤ gr.shift ∨ 2 ≤ gr.retries) ∧ addTotals h g f r gr (landed r f.acc) (additionWaits s h g f r) = (u, some n)) ∧
    (∃ (h : Fin 16) (g : Fin 17) (f : Flight) (r : TileReg) (k : Ticket) (j : Job) (gr : Group) (n : Nat) (s u : State), FlightEnds s h g f r k j gr ∧ f.skip = none ∧ (gal s h g).staged = none ∧ n ≠ 0 ∧ (8 ≤ gr.shift ∨ 2 ≤ gr.retries) ∧ addTotals h g f r gr (landed r f.acc) (additionWaits s h g f r) = (u, some n)) ∧
    (∃ (h : Fin 16) (g : Fin 17) (f : Flight) (r : TileReg) (k : Ticket) (j : Job) (gr : Group) (s u : State), FlightEnds s h g f r k j gr ∧ f.skip = none ∧ (gal s h g).staged = none ∧ f.row + 1 = gr.m ∧ (gr.phase = .accumulating ∨ gr.phase = .retrying) ∧ (gr.preloaded = false ∨ gr.rows ≤ gr.loaded) ∧ tileComplete { gal s h g with flight := none } k { gr with tilesDone := f.record + 1 }
      ((k.panels.getD gr.tile (0, 1)).2) = true ∧ addTotals h g f r gr (landed r f.acc) (additionWaits s h g f r) = (u, some 0)) ∧
    (∃ (h : Fin 16) (g : Fin 17) (f e : Flight) (r : TileReg) (k : Ticket) (j : Job) (gr : Group) (x : SkipRun)
    (adds : List (Option Int)) (cols : List (Nat × Option Int)) (s u : State), FlightEnds s h g f r k j gr ∧ e = fallback f ∧ e.skip = some x ∧ adds = flightAdds (gal s h g) r e ∧ (gal s h g).staged = none ∧ addTotals h g f r gr adds (count (additionWaits s h g f r) (arrPage h g) Reg.skp.ESTIMATED
      (x.classes.filter (· == 1)).length) = (u, some 0) ∧ cols = sampledCols (kPeriod (skipOf j)) gr.numbered x.classes (fun c => (adds.getD c none).getD 0)) ∧
    (∃ (h : Fin 16) (g : Fin 17) (f e : Flight) (r : TileReg) (k : Ticket) (j : Job) (gr : Group) (x : SkipRun)
    (adds : List (Option Int)) (cols : List (Nat × Option Int)) (s u : State), FlightEnds s h g f r k j gr ∧ e = fallback f ∧ e.skip = some x ∧ adds = flightAdds (gal s h g) r e ∧ (gal s h g).staged = none ∧ addTotals h g f r gr adds (count (additionWaits s h g f r) (arrPage h g) Reg.skp.ESTIMATED
      (x.classes.filter (· == 1)).length) = (u, some 0) ∧ cols = sampledCols (kPeriod (skipOf j)) gr.numbered x.classes (fun c => (adds.getD c none).getD 0)) ∧
    (∃ (h : Fin 16) (g : Fin 17) (f : Flight) (r : TileReg) (k : Ticket) (j : Job) (gr : Group) (s : State), (gal s h g).flight = some f ∧ (gal s h g).resident = some r ∧ f.todo = [] ∧ ticketJob s h g f.serial = some (k, j) ∧ flightGroup (gal s h g) f = some gr ∧ gr.sig ≠ dSignature j.desc) ∧
    (∃ (h : Fin 16) (g : Fin 17) (f : Flight) (r : TileReg) (k : Ticket) (j : Job) (gr : Group) (s : State), (gal s h g).flight = some f ∧ (gal s h g).resident = some r ∧ f.todo = [] ∧ ticketJob s h g f.serial = some (k, j) ∧ flightGroup (gal s h g) f = some gr ∧ gr.sig = dSignature j.desc ∧ rowLoaded gr f.row (shapeCols r.shape) = false ∧ f.waited = false) ∧
    (∃ (h : Fin 16) (g : Fin 17) (k : Ticket) (s : State), ((gal s h g).tickets.find? fun t => t.timer == 1) = some k) ∧
    (∃ (h : Fin 16) (g : Fin 17) (row : Nat) (cols : List (Nat × Option Int)) (r : TileReg) (k : Ticket) (j : Job)
    (gr : Group) (i : Inputs) (m bad : Nat) (gs : List ((Nat × Nat) × List Nat)) (s u v w : State), (gal s h g).sampling = some (row, cols) ∧ (gal s h g).resident = some r ∧ ticketJob s h g r.serial = some (k, j) ∧ groupOf (gal s h g) r.serial r.tile = some gr ∧ readInputs s h g { t := k, j := j, r := r, gr := gr, row := row } = (u, some i) ∧ rowMask u h g { t := k, j := j, r := r, gr := gr, row := row } i.side = (v, some m) ∧ (if m = 0 then (v, some []) else sampleGather v h g { t := k, j := j, r := r, gr := gr, row := row } i.side m)
      = (w, some gs) ∧ bad = (cols.filter fun e => missed gr.shift (stageSkip { t := k, j := j, r := r, gr := gr, row := row } i m [])
      ((gal s h g).sums.getD e.1 (0, 0, 0, 0)) (((exactTotals r gs).getD e.1 none).getD 0) e.2).length) :=
  ⟨⟨1, 2, { t := { tkt desc2 with panels := [(0, 1)], begun := true, converted := true }, j := jobConv desc2, r := tile0 head0, gr := grp desc2, row := 0 }, { side := 0, qpos := 0, theta := 0 }, 0, poke (inGal [jobConv desc2] { work desc2 with tickets := [{ tkt desc2 with panels := [(0, 1)], begun := true, converted := true }] }) [(.mems 1 2, Reg.gm.CONV_COURSES, 100)], (readInputs (poke (inGal [jobConv desc2] { work desc2 with tickets := [{ tkt desc2 with panels := [(0, 1)], begun := true, converted := true }] }) [(.mems 1 2, Reg.gm.CONV_COURSES, 100)]) 1 2 ({ t := { tkt desc2 with panels := [(0, 1)], begun := true, converted := true }, j := jobConv desc2, r := tile0 head0, gr := grp desc2, row := 0 })).1, (readInputs (poke (inGal [jobConv desc2] { work desc2 with tickets := [{ tkt desc2 with panels := [(0, 1)], begun := true, converted := true }] }) [(.mems 1 2, Reg.gm.CONV_COURSES, 100)]) 1 2 ({ t := { tkt desc2 with panels := [(0, 1)], begun := true, converted := true }, j := jobConv desc2, r := tile0 head0, gr := grp desc2, row := 0 })).1, ⟨by decide +kernel, by decide +kernel, by decide +kernel, by decide +kernel, Or.inr ⟨by decide +kernel, by decide +kernel⟩, Or.inl rfl⟩⟩,
   ⟨1, 2, { t := { tkt desc0 with panels := [(0, 1)] }, j := jobRun desc0, r := tile0 head0, gr := grp desc0, row := 0 }, (0x20000, 0x10000), { serial := 7, tile := 0, record := 0, row := 0, side := 0, qpos := 0, theta := 0, words := [] }, 0, inGal [jobRun desc0] { work desc0 with streamRows := [{ serial := 7, tile := 0, record := 0, row := 0, side := 0, qpos := 0, theta := 0, words := [] }] }, inGal [jobRun desc0] { work desc0 with streamRows := [{ serial := 7, tile := 0, record := 0, row := 0, side := 0, qpos := 0, theta := 0, words := [] }] }, ⟨by decide +kernel, by decide +kernel, by decide +kernel, by decide +kernel, Or.inr ⟨by decide +kernel, by decide +kernel⟩, Or.inl rfl⟩⟩,
   ⟨1, 2, fly [(0, 0), (1, 0)], tile0 head0, (0, 0), [(1, 0)], ({ tkt desc0 with panels := [(0, 1)] }, jobRun desc0), grp desc0, inGal [jobRun desc0] { work desc0 with flight := some (fly [(0, 0), (1, 0)]) }, by decide +kernel⟩,
   ⟨1, 2, fly [(0, 0), (1, 0)], tile0 head0, (0, 0), [(1, 0)], ({ tkt desc0 with panels := [(0, 1)] }, jobRun desc0), grp desc0, inGal [jobRun desc0] { work desc0 with flight := some (fly [(0, 0), (1, 0)]) }, by decide +kernel⟩,
   ⟨1, 2, fly [], tile0 head0, { tkt desc0 with panels := [(0, 1)] }, jobRun desc0, grp desc0, inGal [jobRun desc0] { work desc0 with flight := some (fly []) }, _, ⟨(by unfold FlightEnds; decide +kernel), (by decide +kernel), (by decide +kernel), whole (by decide +kernel), (by decide +kernel)⟩⟩,
   ⟨1, 2, fly [], { tile0 head0 with landWaited := true }, { tkt desc0 with panels := [(0, 1)] }, jobRun desc0, grp desc0, inGal [jobRun desc0] { work desc0 with flight := some (fly []), resident := some { tile0 head0 with landWaited := true } }, _, ⟨(by unfold FlightEnds; decide +kernel), (by decide +kernel), (by decide +kernel), whole (by decide +kernel), (by decide +kernel)⟩⟩,
   ⟨1, 2, fly [], { fly [(0, 0)] with row := 1 }, tile0 head0, { tkt desc0 with panels := [(0, 1)] }, jobRun desc0, ({ tkt desc0 with panels := [(0, 1)] }, jobRun desc0), grp desc0, inGal [jobRun desc0] { work desc0 with flight := some (fly []), staged := some { fly [(0, 0)] with row := 1 } }, _, ⟨(by unfold FlightEnds; decide +kernel), (by decide +kernel), (by decide +kernel), (by decide +kernel), (by decide +kernel), (by decide +kernel), (by decide +kernel), (by decide +kernel), whole (by decide +kernel)⟩⟩,
   ⟨1, 2, fly [], tile0 head0, { tkt desc0 with panels := [(0, 1)] }, jobRun desc0, grp desc0, 1, inGal [jobRun desc0] { work desc0 with flight := some (fly []), mem := [(2 ^ 19, 0x7FFFFFFF)] }, _, ⟨(by unfold FlightEnds; decide +kernel), (by decide +kernel), (by decide +kernel), (by decide +kernel), (by decide +kernel), whole (by decide +kernel)⟩⟩,
   ⟨1, 2, fly [], tile0 head0, { tkt desc0 with panels := [(0, 1)] }, jobRun desc0, { grp desc0 with shift := 8 }, 1, inGal [jobRun desc0] { work desc0 with flight := some (fly []), mem := [(2 ^ 19, 0x7FFFFFFF)], groups := [{ grp desc0 with shift := 8 }] }, _, ⟨(by unfold FlightEnds; decide +kernel), (by decide +kernel), (by decide +kernel), (by decide +kernel), (by decide +kernel), whole (by decide +kernel)⟩⟩,
   ⟨1, 2, fly [], tile0 head0, { tkt desc0 with panels := [(0, 1)] }, jobRun desc0, { grp desc0 with retries := 2, shift := 4 }, 1, inGal [jobRun desc0] { work desc0 with flight := some (fly []), mem := [(2 ^ 19, 0x7FFFFFFF)], groups := [{ grp desc0 with retries := 2, shift := 4 }] }, _, ⟨(by unfold FlightEnds; decide +kernel), (by decide +kernel), (by decide +kernel), (by decide +kernel), (by decide +kernel), whole (by decide +kernel)⟩⟩,
   ⟨1, 2, { fly [] with row := 3 }, tile0 head0, { tkt desc0 with panels := [(0, 1)], recvTile := 1 }, jobRun desc0, grp desc0, inGal [jobRun desc0] { work desc0 with flight := some ({ fly [] with row := 3 }), tickets := [{ tkt desc0 with panels := [(0, 1)], recvTile := 1 }] }, _, ⟨(by unfold FlightEnds; decide +kernel), (by decide +kernel), (by decide +kernel), (by decide +kernel), (by decide +kernel), (by decide +kernel), (by decide +kernel), whole (by decide +kernel)⟩⟩,
   ⟨1, 2, { fly [] with skip := some { classes := [1, 2, 3, 0] ++ List.replicate 124 1, done := 1, spent := 3, stopped := false, rest := 2, weakOn := false, theta := 0, scale := 0, zp := 0 } }, _, tile0 head0, { tkt desc0 with panels := [(0, 1)] }, { jobRun desc0 with skip := some (img [(0, 1)]) }, grp desc0, { classes := [1, 2, 3, 0] ++ List.replicate 124 1, done := 1, spent := 3, stopped := false, rest := 2, weakOn := false, theta := 0, scale := 0, zp := 0 }, _, _, inGal [{ jobRun desc0 with skip := some (img [(0, 1)]) }] { work desc0 with flight := some { fly [] with skip := some { classes := [1, 2, 3, 0] ++ List.replicate 124 1, done := 1, spent := 3, stopped := false, rest := 2, weakOn := false, theta := 0, scale := 0, zp := 0 } } }, _, ⟨by unfold FlightEnds; decide +kernel, rfl, by decide +kernel, rfl, by decide +kernel, whole (by decide +kernel), rfl⟩⟩,
   ⟨1, 2, { fly [] with skip := some { classes := [1, 2, 3, 0] ++ List.replicate 124 1, done := 1, spent := 3, stopped := true, rest := 2, weakOn := false, theta := 0, scale := 0, zp := 0 } }, _, tile0 head0, { tkt desc0 with panels := [(0, 1)] }, { jobRun desc0 with skip := some (img [(0, 1)]) }, grp desc0, { classes := [1, 2, 3, 1] ++ List.replicate 124 1, done := 1, spent := 3, stopped := true, rest := 2, weakOn := false, theta := 0, scale := 0, zp := 0 }, _, _, inGal [{ jobRun desc0 with skip := some (img [(0, 1)]) }] { work desc0 with flight := some { fly [] with skip := some { classes := [1, 2, 3, 0] ++ List.replicate 124 1, done := 1, spent := 3, stopped := true, rest := 2, weakOn := false, theta := 0, scale := 0, zp := 0 } } }, _, ⟨by unfold FlightEnds; decide +kernel, rfl, by decide +kernel, rfl, by decide +kernel, whole (by decide +kernel), rfl⟩⟩,
   ⟨1, 2, fly [], tile0 head0, { tkt desc0 with panels := [(0, 1)] }, jobRun desc0, { grp desc0 with sig := 1 }, inGal [jobRun desc0] { work desc0 with flight := some (fly []), groups := [{ grp desc0 with sig := 1 }] }, by decide +kernel⟩,
   ⟨1, 2, fly [], tile0 head0, { tkt desc3 with panels := [(0, 1)] }, jobRun desc3, grp desc3, inGal [jobRun desc3] { Gallery.reset with tickets := [{ tkt desc3 with panels := [(0, 1)] }], groups := [grp desc3], resident := some (tile0 head0), flight := some (fly []) }, by decide +kernel⟩,
   ⟨1, 2, { tkt desc0 with timer := 1 }, inGal [jobRun desc0] { Gallery.reset with tickets := [{ tkt desc0 with timer := 1 }] }, by decide +kernel⟩,
   ⟨1, 2, 0, [(5, none)], tile0 head0, { tkt desc0 with panels := [(0, 1)] }, jobRun desc0, grp desc0, { side := 0, qpos := 0, theta := 0 }, 0, 1, [], inGal [jobRun desc0] { work desc0 with sampling := some (0, [(5, none)]) }, _, _, _, ⟨(by decide +kernel), (by decide +kernel), (by decide +kernel), (by decide +kernel), whole (by decide +kernel), whole (by decide +kernel), whole (by decide +kernel), (by decide +kernel)⟩⟩⟩

theorem test_hypotheses_DrainsComplete :
    (∃ (h : Fin 16) (g : Fin 17) (serial tile : Nat) (rest : List VeItem) (k : Ticket) (j : Job) (gr : Group)
    (i : DrainIn) (s v c w : State), (gal s h g).ve = none ∧ (gal s h g).ready = .drain serial tile :: rest ∧ ticketJob s h g serial = some (k, j) ∧ drainWaits (gal s h g) k j tile = false ∧ dRequant j.desc = false ∧ dYfmt j.desc ≠ 0x20 ∧ groupOf (gal s h g) k.serial tile = some gr ∧ readDrain (drainTaken s h g serial tile rest) h g k j gr = (v, some i) ∧ c = countDrain v h g (2 * gr.rows + i.ms.length) i.ms.length ∧ writeRows h g k j gr 0 (drainRows c h g k j gr i) c = (w, true) ∧ rd s (arrPage h g) Reg.lnd.DRAIN_ROWS < 2 ^ 32) ∧
    (∃ (h : Fin 16) (g : Fin 17) (serial tile at_ n : Nat) (rest : List VeItem) (k : Ticket) (j : Job) (gr : Group)
    (rows : List Nat) (ms : List Match) (bt : Bool) (terms : List FRes) (s v w c x y z : State), (gal s h g).ve = none ∧ (gal s h g).ready = .drain serial tile :: rest ∧ ticketJob s h g serial = some (k, j) ∧ drainWaits (gal s h g) k j tile = false ∧ dRequant j.desc = false ∧ dYfmt j.desc = 0x20 ∧ groupOf (gal s h g) k.serial tile = some gr ∧ bt = !gr.boulderRows.isEmpty ∧ at_ = gr.part * dPartStride j.desc + tileIndex j.desc gr.i gr.j * tileBytes j.desc ∧ n = gr.m * dCols j.desc ∧ readGroup h g k gr 0 gr.rows (drainTaken s h g serial tile rest) = (v, some rows) ∧ boulderStage v h g k j gr = (w, some ms) ∧ terms = (if bt then boulderTerms j gr ms else []) ∧ c = veFlags (countDrain w h g (gr.rows + if bt then 2 * gr.rows else 0) ms.length) h g gr.sw gr.jobSlot
      (terms.foldl (fun a v => a ||| v.2) 0) ∧ ticketWrite c h g k (dOutAddr j.desc + at_) (4 * n) (rowsImage rows n) = (x, true) ∧ (if bt then ticketWrite x h g k (dBtAddr j.desc + at_) (4 * n) (packElems 32 (terms.map Prod.fst))
      else (x, true)) = (y, true) ∧ ticketWrite y h g k (dOutSideAddr j.desc + gr.part * dPartStride j.desc + 8 * tileIndex j.desc gr.i gr.j) 8
      (tileSide gr.shift gr.sat bt gr.sig gr.m gr.part) = (z, true)) ∧
    (∃ (h : Fin 16) (g : Fin 17) (serial tile : Nat) (rest : List VeItem) (k : Ticket) (j : Job)
    (l : List (List (Option FRes))) (s v : State), (gal s h g).ve = none ∧ (gal s h g).ready = .drain serial tile :: rest ∧ ticketJob s h g serial = some (k, j) ∧ dRequant j.desc = true ∧ drainWaits (gal s h g) k j tile = false ∧ drainBlocks h g k j (liveGroups (gal (drainTaken s h g serial tile rest) h g) k.serial)
      (drainTaken s h g serial tile rest) = (v, some l)) ∧
    (∃ (h : Fin 16) (g : Fin 17) (serial tile : Nat) (rest : List VeItem) (k : Ticket) (j : Job) (s : State), (gal s h g).ve = none ∧ (gal s h g).ready = .drain serial tile :: rest ∧ ticketJob s h g serial = some (k, j) ∧ drainWaits (gal s h g) k j tile = true) ∧
    (∃ (h : Fin 16) (g : Fin 17) (serial tile : Nat) (k : Ticket) (j : Job) (s : State), (gal s h g).ve = some (.drain serial tile) ∧ ticketJob s h g serial = some (k, j) ∧ ((∀ e ∈ drainGroups (gal s h g) serial tile (dRequant j.desc), e.drained = true))) :=
  ⟨⟨1, 2, 7, 0, [], (tkt (desc4 0x30)), (jobRun (desc4 0x30)), grpClosed 0x30, { rows := [0], sides := [0], recs := 0, ms := [] }, inGal [jobRun (desc4 0x30)] { Gallery.reset with tickets := [tkt (desc4 0x30)], groups := [grpClosed 0x30], ready := [.drain 7 0] }, _, _, _, ⟨(by decide +kernel), (by decide +kernel), (by decide +kernel), (by decide +kernel), (by decide +kernel), (by decide +kernel), (by decide +kernel), whole (by decide +kernel), rfl, whole (by decide +kernel), (by decide +kernel)⟩⟩,
   ⟨1, 2, 7, 0, 0, 128, [], (tkt (desc4 0x20)), (jobRun (desc4 0x20)), grpClosed 0x20, [0], [], false, [], inGal [jobRun (desc4 0x20)] { Gallery.reset with tickets := [tkt (desc4 0x20)], groups := [grpClosed 0x20], ready := [.drain 7 0] }, _, _, _, _, _, _, ⟨(by decide +kernel), (by decide +kernel), (by decide +kernel), (by decide +kernel), (by decide +kernel), (by decide +kernel), (by decide +kernel), (by decide +kernel), (by decide +kernel), (by decide +kernel), whole (by decide +kernel), whole (by decide +kernel), (by decide +kernel), rfl, whole (by decide +kernel), whole (by decide +kernel), whole (by decide +kernel)⟩⟩,
   ⟨1, 2, 7, 0, [], (tkt (desc4 0x07)), (jobRun (desc4 0x07)), [[some (0, 0)]], inGal [jobRun (desc4 0x07)] { Gallery.reset with tickets := [tkt (desc4 0x07)], groups := [grpClosed 0x07], ready := [.drain 7 0] }, _, ⟨(by decide +kernel), (by decide +kernel), (by decide +kernel), (by decide +kernel), (by decide +kernel), whole (by decide +kernel)⟩⟩,
   ⟨1, 2, 7, 0, [], tkt (desc4 0x30 + 2 ^ 8), jobConv (desc4 0x30 + 2 ^ 8), inGal [jobConv (desc4 0x30 + 2 ^ 8)] { Gallery.reset with tickets := [tkt (desc4 0x30 + 2 ^ 8)], groups := [{ grp (desc4 0x30 + 2 ^ 8) with phase := .draining, draining := true }], ready := [.drain 7 0] }, by decide +kernel⟩,
   ⟨1, 2, 7, 0, (tkt (desc4 0x30)), (jobRun (desc4 0x30)), inGal [jobRun (desc4 0x30)] { Gallery.reset with tickets := [tkt (desc4 0x30)], groups := [{ grpClosed 0x30 with drained := true }], ve := some (.drain 7 0) }, by decide +kernel⟩⟩

theorem test_hypotheses_VectorAndDresserComplete :
    (∃ (h : Fin 16) (g : Fin 17) (serial : Nat) (rest : List VeItem) (k : Ticket) (j : Job) (s : State), (gal s h g).ve = none ∧ (gal s h g).ready = .vector serial :: rest ∧ ticketJob s h g serial = some (k, j) ∧ vOp (j.aux.getD 0) ≠ 3) ∧
    (∃ (h : Fin 16) (g : Fin 17) (serial img : Nat) (rest : List VeItem) (k : Ticket) (j : Job) (s u : State), (gal s h g).ve = none ∧ (gal s h g).ready = .vector serial :: rest ∧ ticketJob s h g serial = some (k, j) ∧ vOp (j.aux.getD 0) = 3 ∧ vTableAddr (j.aux.getD 0) ≠ 0 ∧ ticketRead (vectorTaken s h g serial rest) h g (.gallery (Fin.ofNat 17 g)) k (vTableAddr (j.aux.getD 0)) 512
      = (u, some img)) ∧
    (∃ (h : Fin 16) (g : Fin 17) (serial : Nat) (rest : List VeItem) (k : Ticket) (j : Job) (s : State), (gal s h g).ve = none ∧ (gal s h g).ready = .vector serial :: rest ∧ ticketJob s h g serial = some (k, j) ∧ vOp (j.aux.getD 0) = 3) ∧
    (∃ (h : Fin 16) (g : Fin 17) (serial : Nat) (rest : List VeItem) (k : Ticket) (j : Job) (s : State), (gal s h g).ve = none ∧ (gal s h g).ready = .vector serial :: rest ∧ ticketJob s h g serial = some (k, j) ∧ vOp (j.aux.getD 0) = 3) ∧
    (∃ (h : Fin 16) (g : Fin 17) (v : VecRun) (s u : State), vecRun s h g 1 = some v ∧ rowsRun s h g v (mapRow h g v) = (u, true)) ∧
    (∃ (h : Fin 16) (g : Fin 17) (v : VecRun) (s u : State), vecRun s h g 2 = some v ∧ rowsRun s h g v (dotOf h g v) = (u, true)) ∧
    (∃ (h : Fin 16) (g : Fin 17) (v : VecRun) (s u : State), vecRun s h g 3 = some v ∧ rowsRun s h g v (softmaxOf h g v) = (u, true)) ∧
    (∃ (h : Fin 16) (g : Fin 17) (v : VecRun) (s u : State), vecRun s h g 4 = some v ∧ rowsRun s h g v (topkOf h g v) = (u, true)) ∧
    (∃ (h : Fin 16) (g : Fin 17) (v : VecRun) (s c u : State), vecRun s h g 5 = some v ∧ checkStreams s h g v = (c, true) ∧ rowsRun c h g v (sumRow h g v) = (u, true)) ∧
    (∃ (h : Fin 16) (g : Fin 17) (v : VecRun) (place : Nat × Nat × Nat) (ws : List Nat) (parts : List SplitPart)
    (recs cols : Nat) (s a b c d u : State), vecRun s h g 6 = some v ∧ place = unitPlace v.j (v.t.units.headD 0) ∧ cols = min (dCols v.j.desc) (v.j.n - place.2.1 * dCols v.j.desc) ∧ readSideWords h g v (tileIndex v.j.desc place.1 place.2.1) 0 (vSources v.b) s = (a, some ws) ∧ partsBad (blockRows v.j place.1) ws = none ∧ readTiles h g v (tileIndex v.j.desc place.1 place.2.1) (blockRows v.j place.1 * dCols v.j.desc) (partOrder ws) a
      = (b, some parts) ∧ (if cols = 0 then (b, some 0) else ticketRead b h g (.gallery (Fin.ofNat 17 g)) v.t
      (dColrecAddr v.j.desc + 8 * (place.2.1 * dCols v.j.desc)) (8 * cols)) = (c, some recs) ∧ d = count c (vePage h g) Reg.ve.VE_HS (vecCost v.b (blockRows v.j place.1) (dCols v.j.desc)) ∧ eachRow (splitkRow h g v place recs cols parts) 0 (blockRows v.j place.1)
      (if ws.any tsSaturated then jobFlags d v.t.sw v.t.slot 1 else d) = (u, true)) ∧
    (∃ (h : Fin 16) (g : Fin 17) (v : VecRun) (ws : List Nat) (code : Nat) (s u : State), vecRun s h g 6 = some v ∧ readSideWords h g v (tileIndex v.j.desc (unitPlace v.j (v.t.units.headD 0)).1
      (unitPlace v.j (v.t.units.headD 0)).2.1) 0 (vSources v.b) s = (u, some ws) ∧ partsBad (blockRows v.j (unitPlace v.j (v.t.units.headD 0)).1) ws = some code) ∧
    (∃ (h : Fin 16) (k : Ticket) (j : Job) (b n0 cols : Nat) (rows : List Nat) (groups : List (List (List Nat × Nat)))
    (s u w : State), NatMap.get? s.dressers h.val = some k ∧ findJob s k.sw k.slot = some j ∧ k.written = false ∧ b = j.aux.getD 0 ∧ n0 = k.units.headD 0 * shapeCols (rShape b) ∧ cols = min (shapeCols (rShape b)) (rN b - n0) ∧ readSource h b n0 cols 0 (rK b) s = (u, some rows) ∧ groups = (List.range (shapePositions (rShape b))).map (fun cb =>
      (List.range (dressTiles b * 2 ^ rSpanLog b)).map fun w => dressGroup b cols rows cb w) ∧ dressPut h (dressWrites b (k.units.headD 0) cols rows groups) (countPanel u h k.sw k.slot b groups) = (w, true)) :=
  ⟨⟨1, 2, 7, [], tkt descV, jobVec (vop 1), inGal [jobVec (vop 1)] { Gallery.reset with tickets := [tkt descV], ready := [.vector 7] }, by decide +kernel⟩,
   ⟨1, 2, 7, 0, [], tkt descV, jobVec (vop 3 + 0x80000 * 2 ^ (8 * 0x28)), inGal [jobVec (vop 3 + 0x80000 * 2 ^ (8 * 0x28))] { Gallery.reset with tickets := [tkt descV], ready := [.vector 7] }, _, ⟨(by decide +kernel), (by decide +kernel), (by decide +kernel), (by decide +kernel), (by decide +kernel), whole (by decide +kernel)⟩⟩,
   ⟨1, 2, 7, [], tkt descV, jobVec (vop 3 + 0x80000 * 2 ^ (8 * 0x28)), inGal [jobVec (vop 3 + 0x80000 * 2 ^ (8 * 0x28))] { Gallery.reset with tickets := [tkt descV], ready := [.vector 7] }, by decide +kernel⟩,
   ⟨1, 2, 7, [], tkt descV, jobVec (vop 3), inGal [jobVec (vop 3)] { Gallery.reset with tickets := [tkt descV], ready := [.vector 7] }, by decide +kernel⟩,
   ⟨1, 2, vecOf (vop 1), vecAt (vop 1), _, ⟨(by decide +kernel), whole (by decide +kernel)⟩⟩,
   ⟨1, 2, vecOf (vop 2), vecAt (vop 2), _, ⟨(by decide +kernel), whole (by decide +kernel)⟩⟩,
   ⟨1, 2, vecOf (vop 3), vecAt (vop 3), _, ⟨(by decide +kernel), whole (by decide +kernel)⟩⟩,
   ⟨1, 2, vecOf (vop 4), vecAt (vop 4), _, ⟨(by decide +kernel), whole (by decide +kernel)⟩⟩,
   ⟨1, 2, vecOf (vop 5), vecAt (vop 5), _, _, ⟨(by decide +kernel), whole (by decide +kernel), whole (by decide +kernel)⟩⟩,
   ⟨1, 2, (vecOf (vop 6)), (0, 0, 0), [0], [{ side := 0, tile := 0, terms := 0 }], 0, 1, (vecAt (vop 6)), _, _, _, _, _, ⟨(by decide +kernel), (by decide +kernel), (by decide +kernel), whole (by decide +kernel), (by decide +kernel), whole (by decide +kernel), whole (by decide +kernel), rfl, whole (by decide +kernel)⟩⟩,
   ⟨1, 2, { vecOf (vop 6) with j := { jobVec (vop 6) with desc := (setBits (setBits descV (8 * 8) 32 2) (8 * 0x14) 16 2), m := 2 } }, [0], 0x22, inGal [{ jobVec (vop 6) with desc := (setBits (setBits descV (8 * 8) 32 2) (8 * 0x14) 16 2), m := 2 }] { Gallery.reset with tickets := [{ tkt descV with begun := true }], ve := some (.vector 7) }, _, ⟨(by decide +kernel), whole (by decide +kernel), (by decide +kernel)⟩⟩,
   ⟨1, tkt 4, jobDress, dress0, 0, 1, [0], dressGroups, dressing, dressRead.1, dressWrote.1, ⟨by decide +kernel, by decide +kernel, rfl, by decide +kernel, by decide +kernel, by decide +kernel, dressRead_ok, dressGroups_eq, dressWrote_ok⟩⟩⟩

theorem test_hypotheses_GalleryMemoriesComplete :
    (∃ (h : Fin 16) (g : Fin 17) (m : GMem) (word : Nat) (v : BitVec 64) (fl : List (Fin 144)) (c : BankContest)
    (s : State), word < memWords (gmemNum m)) ∧
    (∃ (h : Fin 16) (g : Fin 17) (m : GMem) (word : Nat) (v : BitVec 64) (fl : List (Fin 144)) (c : BankContest)
    (s : State), word < memWords (gmemNum m)) ∧
    (∃ (h : Fin 16) (g : Fin 17) (m : GMem) (word : Nat) (fl : List (Fin 144)) (port q : GPort) (w : GalleryWork)
    (lost : Nat) (c : Fld) (write : Option (BitVec 64)) (s : State), word < memWords (gmemNum m) ∧ pairCounter (gmemNum m) word = some c ∧ q ≠ port) ∧
    (∃ (h : Fin 16) (g : Fin 17) (m : GMem) (word : Nat) (fl : List (Fin 144)) (port q : GPort) (w : GalleryWork)
    (lost : Nat) (c : Fld) (write : Option (BitVec 64)) (s : State), word < memWords (gmemNum m) ∧ pairCounter (gmemNum m) word = some c ∧ q ≠ port) ∧
    (∃ (h : Fin 16) (g : Fin 17) (m : GMem) (word : Nat) (fl : List (Fin 144)) (port q r : GPort) (w : GalleryWork)
    (c : Fld) (write : Option (BitVec 64)) (s : State), word < memWords (gmemNum m) ∧ pairCounter (gmemNum m) word = some c ∧ portRank m q < portRank m r ∧ portRank m q < portRank m port ∧ portRank m r ≠ portRank m port) ∧
    (∃ (h : Fin 16) (g : Fin 17) (m : GMem) (word n : Nat) (fl : List (Fin 144)) (port q : GPort) (w : GalleryWork)
    (c : Fld) (write : Option (BitVec 64)) (s : State), word < memWords (gmemNum m) ∧ pairCounter (gmemNum m) word = some c ∧ portRank m q < portRank m port ∧ 8 ≤ n) ∧
    (∃ (h : Fin 16) (g : Fin 17) (m : GMem) (word : Nat) (fl : List (Fin 144)) (c : BankContest)
    (es : List Nat) (s : State), word < memWords (gmemNum m) ∧ m ≠ .skipMap ∧ es = flipList (gmemNum m) fl ∧ 1 ≤ es.length ∧ es.length ≤ correctable (gmemNum m) ∧ brokenIn (gal s h g) (gmemNum m) (unitOf (gmemNum m) word) (unitWords (gmemNum m)) = none) ∧
    (∃ (h : Fin 16) (g : Fin 17) (m : GMem) (word : Nat) (fl : List (Fin 144)) (c : BankContest)
    (es : List Nat) (s : State), word < memWords (gmemNum m) ∧ m ≠ .skipMap ∧ es = flipList (gmemNum m) fl ∧ es.length = correctable (gmemNum m) + 1) ∧
    (∃ (h : Fin 16) (g : Fin 17) (m : GMem) (word : Nat) (fl : List (Fin 144)) (c : BankContest)
    (es : List Nat) (s : State), word < memWords (gmemNum m) ∧ m ≠ .skipMap ∧ es = flipList (gmemNum m) fl ∧ es.length = correctable (gmemNum m) + 1) ∧
    (∃ (h : Fin 16) (g : Fin 17) (m : GMem) (word : Nat) (fl : List (Fin 144)) (c : BankContest)
    (es : List Nat) (s : State), word < memWords (gmemNum m) ∧ m ≠ .skipMap ∧ es = flipList (gmemNum m) fl ∧ es.length = correctable (gmemNum m) + 1) ∧
    (∃ (h : Fin 16) (g : Fin 17) (v : BitVec 32) (s : State), Reaches s .mainband (memPage h g) 0x040 ∧ opensToHost s h g = true ∧ v.toNat % 2 ^ 11 ≤ 2040) ∧
    (∃ (h : Fin 16) (g : Fin 17) (v : BitVec 32) (s : State), Reaches s .mainband (memPage h g) 0x040 ∧ opensToHost s h g = true ∧ 2040 < v.toNat % 2 ^ 11) ∧
    (∃ (h : Fin 16) (g : Fin 17) (v : BitVec 32) (s : State), Reaches s .mainband (memPage h g) 0x040 ∧ opensToHost s h g = false) ∧
    (∃ (h : Fin 16) (g : Fin 17) (m : BitVec 2) (s : State), Reaches s .mainband (memPage h g) 0x050 ∧ (gal s h g).op = none ∧ opensToHost s h g = true ∧ opLegal m.toNat 1 (rd s (memPage h g) Reg.gm.MEM_OP_RANGE_SRC) (rd s (memPage h g) Reg.gm.MEM_OP_RANGE_DST)
      (rd s (memPage h g) Reg.gm.MEM_OP_LEN) = true) ∧
    (∃ (h : Fin 16) (g : Fin 17) (m : BitVec 2) (s : State), Reaches s .mainband (memPage h g) 0x050 ∧ (gal s h g).op = none ∧ opensToHost s h g = true ∧ opLegal m.toNat 2 (rd s (memPage h g) Reg.gm.MEM_OP_RANGE_SRC) (rd s (memPage h g) Reg.gm.MEM_OP_RANGE_DST)
      (rd s (memPage h g) Reg.gm.MEM_OP_LEN) = true ∧ (gal s h g).broken = []) ∧
    (∃ (h : Fin 16) (g : Fin 17) (s : State), (gal s h g).op.isSome = true) ∧
    (∃ (path : Path) (h : Fin 16) (g : Fin 17) (i : Fin 128) (m w : Nat) (s : State), windowWord s h g i = some (m, w)) ∧
    (∃ (path : Path) (h : Fin 16) (g : Fin 17) (i : Fin 128) (fl : List (Fin 144)) (m w : Nat) (s : State), windowWord s h g i = some (m, w) ∧ m ≠ 3 ∧ 1 ≤ (flipList m fl).length ∧ (flipList m fl).length ≤ correctable m ∧ brokenIn (gal s h g) m (w / unitWords m * unitWords m) (unitWords m) = none) ∧
    (∃ (h : Fin 16) (g : Fin 17) (i : Fin 128) (v : BitVec 32) (m w : Nat) (s : State), Reaches s .mainband (memPage h g) (0x800 + 4 * i) ∧ opensToHost s h g = true ∧ windowWord s h g i = some (m, w)) ∧
    (∃ (h : Fin 16) (g : Fin 17) (row : Nat) (s : State), mcRuns s = true ∧ quiesced s h g = true ∧ quiescent s h g = true ∧ (gal s h g).op = none ∧ (gal s h g).rowQueue.find? (spareFree (gal s h g)) = some row) :=
  ⟨⟨1, 2, .skipMap, 4095, 0x123456789, [], ⟨.window, .running, [], []⟩, up, by decide +kernel⟩,
   ⟨1, 2, .ashlar, 131071, 9, [], ⟨.tileLoad, .ahead, [(.window, 3)], []⟩, setGal up 1 2 { Gallery.reset with mem := [(0, 5), (2 ^ 18 + 1, 7)] }, by decide +kernel⟩,
   ⟨1, 2, .ashlar, 0, [], .window, .tileLoad, .running, 8, Reg.gm.AS_PAIR 0, none, up, by decide +kernel⟩,
   ⟨1, 2, .ashlar, 0, [], .tileLoad, .window, .group 7, 7, Reg.gm.AS_PAIR 0, none, up, by decide +kernel⟩,
   ⟨1, 2, .ashlar, 0, [], .window, .tileLoad, .localOp, .running, Reg.gm.AS_PAIR 0, none, up, by decide +kernel⟩,
   ⟨1, 2, .ashlar, 0, 9, [], .window, .tileLoad, .running, Reg.gm.AS_PAIR 0, none, up, by decide +kernel⟩,
   ⟨1, 2, .ashlar, 0, [143, 7], ⟨.tileLoad, .running, [], []⟩, [143, 7], setGal up 1 2 { Gallery.reset with mem := [(0, 5), (2 ^ 18 + 1, 7)] }, by decide +kernel⟩,
   ⟨1, 2, .landing, 0, [71, 7], ⟨.flightAdd, .group 0, [], []⟩, [71, 7], inGal [jobRun desc0] (work desc0), by decide +kernel⟩,
   ⟨1, 2, .landing, 0, [71, 7], ⟨.flightAdd, .running, [], []⟩, [71, 7], inGal [jobRun desc0] (work desc0), by decide +kernel⟩,
   ⟨1, 2, .landing, 0, [71, 7], ⟨.window, .running, [], []⟩, [71, 7], up, by decide +kernel⟩,
   ⟨1, 2, 2040, still, by unfold Reaches; decide +kernel⟩,
   ⟨1, 2, 2041, still, by unfold Reaches; decide +kernel⟩,
   ⟨1, 2, 100, up, by unfold Reaches; decide +kernel⟩,
   ⟨1, 2, 2, poke still [(.mems 1 2, Reg.gm.MEM_OP_RANGE_SRC, 0), (.mems 1 2, Reg.gm.MEM_OP_RANGE_DST, 1023), (.mems 1 2, Reg.gm.MEM_OP_LEN, 1), (.mems 1 2, Reg.gm.MEM_OP_PATTERN, 0xA5A5A5A5)], by unfold Reaches; decide +kernel⟩,
   ⟨1, 2, 1, poke still [(.mems 1 2, Reg.gm.MEM_OP_RANGE_SRC, 0), (.mems 1 2, Reg.gm.MEM_OP_RANGE_DST, 1023), (.mems 1 2, Reg.gm.MEM_OP_LEN, 1), (.mems 1 2, Reg.gm.MEM_OP_PATTERN, 0xA5A5A5A5)], by unfold Reaches; decide +kernel⟩,
   ⟨1, 2, setGal up 1 2 { Gallery.reset with op := some { mem := 0, op := 1, src := 0, dst := 0, courses := 1, pattern := 0 } }, by decide +kernel⟩,
   ⟨.sideband, 1, 2, 127, 3, 8191, poke up [(.mems 1 2, Reg.gm.WIN_SEL_MEM, 3), (.mems 1 2, Reg.gm.WIN_SEL_COURSE, 63)], by decide +kernel⟩,
   ⟨.mainband, 1, 2, 127, [5], 0, 262143, poke up [(.mems 1 2, Reg.gm.WIN_SEL_COURSE, 2047)], by decide +kernel⟩,
   ⟨1, 2, 127, 0xFFFFFFFF, 0, 262143, poke still [(.mems 1 2, Reg.gm.WIN_SEL_COURSE, 2047)], by unfold Reaches; decide +kernel⟩,
   ⟨1, 2, 4096 + 5, setGal still 1 2 { Gallery.reset with rowQueue := [4101], broken := [262144] }, by decide +kernel⟩⟩

theorem test_hypotheses_HallCacheCompletes :
    (∃ (h : Fin 16) (user : HallUser) (addr len : Nat) (x : Line) (s : State), ready s = true ∧ 1 ≤ len ∧ addr % 64 + len ≤ 64 ∧ addr + len ≤ 2 ^ 40 ∧ findLine s h (addr / 64) = some x) ∧
    (∃ (h : Fin 16) (user : HallUser) (addr len v : Nat) (x : Line) (s : State), ready s = true ∧ 1 ≤ len ∧ addr % 64 + len ≤ 64 ∧ addr + len ≤ 2 ^ 40 ∧ findLine s h (addr / 64) = some x ∧ (x.poison = false ∨ len = 64)) ∧
    (∃ (h : Fin 16) (user : HallUser) (addr len v : Nat) (x : Line) (s : State), ready s = true ∧ 1 ≤ len ∧ addr % 64 + len ≤ 64 ∧ addr + len ≤ 2 ^ 40 ∧ findLine s h (addr / 64) = some x ∧ (x.poison = false ∨ len = 64)) ∧
    (∃ (h : Fin 16) (user : HallUser) (addr len : Nat) (w : Option Nat) (s : State), ready s = true ∧ 1 ≤ len ∧ addr + len ≤ 2 ^ 40 ∧ needsFill s h addr len w.isSome = true) ∧
    (∃ (h : Fin 16) (user : HallUser) (addr len : Nat) (fl : List (Fin 72)) (tag : Nat) (x : Line) (s : State), ready s = true ∧ 1 ≤ len ∧ addr % 64 + len ≤ 64 ∧ addr + len ≤ 2 ^ 40 ∧ findLine s h (addr / 64) = some x ∧ fl.eraseDups.length + tag = 1) ∧
    (∃ (h : Fin 16) (user : HallUser) (addr len : Nat) (fl : List (Fin 72)) (tag : Nat) (x : Line) (s : State), ready s = true ∧ 1 ≤ len ∧ addr % 64 + len ≤ 64 ∧ addr + len ≤ 2 ^ 40 ∧ findLine s h (addr / 64) = some x ∧ fl.eraseDups.length + tag = 1) ∧
    (∃ (h : Fin 16) (user : HallUser) (addr len : Nat) (fl : List (Fin 72)) (tag : Nat) (x : Line) (s : State), ready s = true ∧ 1 ≤ len ∧ addr + len ≤ 2 ^ 40 ∧ findLine s h (addr / 64) = some x ∧ x.dirty = false ∧ bypass s h = false ∧ ((fl = [] ∧ tag = 2) ∨ (fl.eraseDups.length = 2 ∧ tag = 0))) ∧
    (∃ (h : Fin 16) (user : HallUser) (addr len : Nat) (fl : List (Fin 72)) (tag : Nat) (x : Line) (s : State), ready s = true ∧ 1 ≤ len ∧ addr + len ≤ 2 ^ 40 ∧ findLine s h (addr / 64) = some x ∧ x.dirty = false ∧ bypass s h = false ∧ ((fl = [] ∧ tag = 2) ∨ (fl.eraseDups.length = 2 ∧ tag = 0))) ∧
    (∃ (h : Fin 16) (user : HallUser) (addr len : Nat) (fl : List (Fin 72)) (tag : Nat) (x : Line) (s : State), ready s = true ∧ 1 ≤ len ∧ addr % 64 + len ≤ 64 ∧ addr + len ≤ 2 ^ 40 ∧ findLine s h (addr / 64) = some x ∧ x.dirty = true ∧ ((fl = [] ∧ tag = 2) ∨ (fl.eraseDups.length = 2 ∧ tag = 0))) ∧
    (∃ (h : Fin 16) (user : HallUser) (addr len : Nat) (fl : List (Fin 72)) (tag : Nat) (x : Line) (s : State), ready s = true ∧ 1 ≤ len ∧ addr % 64 + len ≤ 64 ∧ addr + len ≤ 2 ^ 40 ∧ findLine s h (addr / 64) = some x ∧ x.dirty = true ∧ ((fl = [] ∧ tag = 2) ∨ (fl.eraseDups.length = 2 ∧ tag = 0))) ∧
    (∃ (h : Fin 16) (g : Fin 17) (user : HallUser) (w : GalleryWork) (addr len : Nat) (x : Line) (j : Nat × Nat)
    (s : State), ready s = true ∧ 1 ≤ len ∧ addr % 64 + len ≤ 64 ∧ addr + len ≤ 2 ^ 40 ∧ findLine s h (addr / 64) = some x ∧ x.poison = true ∧ user.work = some (g, w) ∧ workJob (gal s h g) w = some j) ∧
    (∃ (h : Fin 16) (g : Fin 17) (user : HallUser) (w : GalleryWork) (addr len : Nat) (x : Line) (j : Nat × Nat)
    (s : State), ready s = true ∧ 1 ≤ len ∧ addr % 64 + len ≤ 64 ∧ addr + len ≤ 2 ^ 40 ∧ findLine s h (addr / 64) = some x ∧ x.poison = true ∧ user.work = some (g, w) ∧ workJob (gal s h g) w = some j) ∧
    (∃ (h : Fin 16) (addr len : Nat) (x : Line) (k : Ticket) (s : State), ready s = true ∧ 1 ≤ len ∧ addr % 64 + len ≤ 64 ∧ addr + len ≤ 2 ^ 40 ∧ findLine s h (addr / 64) = some x ∧ x.poison = true ∧ NatMap.get? s.dressers h = some k) ∧
    (∃ (h : Fin 16) (user : HallUser) (addr len : Nat) (w : Option Nat) (u : LineUpset) (s : State), ready s = false) ∧
    (∃ (h : Fin 16) (m : Miss) (rest : List Miss) (s : State), ready s = true ∧ (cache s h).misses = m :: rest ∧ 1 ≤ m.len ∧ m.addr % 64 + m.len ≤ 64 ∧ findLine s h (m.addr / 64) = none) ∧
    (∃ (h : Fin 16) (v : BitVec 32) (s : State), Reaches s .mainband (hcPage h) Reg.hc.WAY_DISABLE.off ∧ walking s h = false) ∧
    (∃ (h : Fin 16) (v : BitVec 32) (s : State), Reaches s .mainband (hcPage h) Reg.hc.WAY_DISABLE.off ∧ walking s h = true) ∧
    (∃ (h : Fin 16) (off on' pos : Nat) (s : State), (cache s h).walks = [.ways off on' pos]) ∧
    (∃ (h : Fin 16) (off on' pos : Nat) (s : State), (cache s h).walks = [.ways off on' pos]) ∧
    (∃ (h : Fin 16) (sw slot mode first pos : Nat) (lines : Option Nat) (s u : State), (cache s h).walks = [.flush sw slot mode first lines pos] ∧ flushLines h mode (walkLines s h first lines pos) s = (u, true) ∧ pos + 1 < walkEnd lines) ∧
    (∃ (h : Fin 16) (sw slot mode first pos : Nat) (lines : Option Nat) (e : Tracked) (s u : State), (cache s h).walks = [.flush sw slot mode first lines pos] ∧ flushLines h mode (walkLines s h first lines pos) s = (u, true) ∧ walkEnd lines ≤ pos + 1 ∧ NatMap.get? (stair s sw).slots slot = some e ∧ e.body = .flushing [h.val]) :=
  ⟨⟨1, .gallery 2, 4096, 64, line0, inHall up { HallCache.reset with lines := [line0] }, by decide +kernel⟩,
   ⟨1, .dresser, 4159, 1, 255, line0, inHall up { HallCache.reset with lines := [line0] }, by decide +kernel⟩,
   ⟨1, .boulder 2 7, 4096, 64, 9, { line0 with poison := true }, inHall up { HallCache.reset with lines := [{ line0 with poison := true }] }, by decide +kernel⟩,
   ⟨1, .gallery 2, 4090, 10, none, inHall up { HallCache.reset with lines := [line0] }, by decide +kernel⟩,
   ⟨1, .gallery 2, 4159, 1, [71], 0, line0, inHall up { HallCache.reset with lines := [line0] }, by decide +kernel⟩,
   ⟨1, .gallery 2, 4159, 1, [], 1, line0, inHall up { HallCache.reset with lines := [line0] }, by decide +kernel⟩,
   ⟨1, .gallery 2, 4159, 1, [], 2, { line0 with dirty := false }, inHall up { HallCache.reset with lines := [{ line0 with dirty := false }] }, by decide +kernel⟩,
   ⟨1, .gallery 2, 4096, 64, [3, 3, 4], 0, { line0 with dirty := false }, inHall up { HallCache.reset with lines := [{ line0 with dirty := false }] }, by decide +kernel⟩,
   ⟨1, .gallery 2, 4159, 1, [], 2, line0, inHall up { HallCache.reset with lines := [line0] }, by decide +kernel⟩,
   ⟨1, .boulder 2 7, 4096, 1, [3, 4], 0, line0, inHall up { HallCache.reset with lines := [line0] }, by decide +kernel⟩,
   ⟨1, 2, .gallery 2, .running, 4096, 64, { line0 with poison := true }, (3, 0), inHall (inGal [jobRun desc0] (work desc0)) { HallCache.reset with lines := [{ line0 with poison := true }] }, by decide +kernel⟩,
   ⟨1, 2, .drain 2 0, .group 0, 4159, 1, { line0 with poison := true }, (3, 0), inHall (inGal [jobRun desc0] (work desc0)) { HallCache.reset with lines := [{ line0 with poison := true }] }, by decide +kernel⟩,
   ⟨1, 4096, 64, { line0 with poison := true }, tkt 4, inHall dressing { HallCache.reset with lines := [{ line0 with poison := true }] }, by decide +kernel⟩,
   ⟨1, .gallery 2, 4159, 1, none, ⟨[71], 0⟩, inHall (phase 5) { HallCache.reset with lines := [line0] }, by decide +kernel⟩,
   ⟨1, { user := .boulder 2 7, addr := 8192, len := 64, write := none }, [], inHall up { HallCache.reset with lines := [line0], misses := [{ user := .boulder 2 7, addr := 8192, len := 64, write := none }] }, by decide +kernel⟩,
   ⟨1, 8, inHall up { HallCache.reset with lines := [line0] }, by unfold Reaches; decide +kernel⟩,
   ⟨1, 8, inHall up { HallCache.reset with lines := [line0], walks := [.ways 8 0 64] }, by unfold Reaches; decide +kernel⟩,
   ⟨1, 8, 0, 64, inHall up { HallCache.reset with lines := [line0], walks := [.ways 8 0 64] }, by decide +kernel⟩,
   ⟨1, 0, 8, 32767, inHall up { HallCache.reset with lines := [line0], walks := [.ways 0 8 32767] }, by decide +kernel⟩,
   ⟨1, 3, 2, 1, 64, 0, some 4, inHall up { HallCache.reset with lines := [line0], walks := [.flush 3 2 1 64 (some 4) 0] }, _, ⟨(by decide +kernel), whole (by decide +kernel), (by decide +kernel)⟩⟩,
   ⟨1, 3, 2, 3, 64, 0, some 1, trk (ent 8 0x20001 0 4096 256 0 0) (.flushing [1]), inHall (setStair up 3 { Stairwell.reset with slots := [(2, trk (ent 8 0x20001 0 4096 256 0 0) (.flushing [1]))] }) { HallCache.reset with lines := [line0], walks := [.flush 3 2 3 64 (some 1) 0] }, _, ⟨(by decide +kernel), whole (by decide +kernel), (by decide +kernel), (by decide +kernel), (by decide +kernel)⟩⟩⟩

theorem test_hypotheses_StackMaintenanceCompletes :
    (∃ (h : Fin 16) (s : State), ready s = false) ∧
    (∃ (h : Fin 16) (s : State), ready s = true ∧ 1 ≤ rd s (scPage h) Reg.sc.SCRUB_EVERY ∧ rd s (scPage h) Reg.sc.SCRUB_EVERY ≤ (dram s h).refreshes) ∧
    (∃ (h : Fin 16) (s : State), ready s = true ∧ 1 ≤ rd s (scPage h) Reg.sc.SCRUB_EVERY ∧ rd s (scPage h) Reg.sc.SCRUB_EVERY ≤ (dram s h).refreshes) ∧
    (∃ (h : Fin 16) (k i : Nat) (rest : List Nat) (s : State), (dram s h).laneQueue = k :: rest ∧ (dram s h).inWindow = true ∧ freeSpare (dram s h) (k / 288) = some i) ∧
    (∃ (h : Fin 16) (k : Nat) (rest : List Nat) (s : State), (dram s h).laneQueue = k :: rest ∧ (dram s h).inWindow = true ∧ freeSpare (dram s h) (k / 288) = none) ∧
    (∃ (h : Fin 16) (row : Nat) (rest : List Nat) (s : State), ready s = true ∧ (dram s h).rowCopied = none ∧ (dram s h).rowQueue = row :: rest ∧ sparesUsed (dram s h) row < 4) ∧
    (∃ (h : Fin 16) (row : Nat) (rest : List Nat) (s : State), ready s = true ∧ (dram s h).rowCopied = none ∧ (dram s h).rowQueue = row :: rest ∧ 4 ≤ sparesUsed (dram s h) row) ∧
    (∃ (h : Fin 16) (row : Nat) (s : State), (dram s h).rowCopied = some row) ∧
    (∃ (h : Fin 16) (v : BitVec 32) (l : Nat) (s : State), Reaches s .mainband (scPage h) 0x08C ∧ bits v.toNat 4 2 = 1 ∧ (dram s h).migration = none ∧ rd s (scPage h) Reg.sc.RETIRED ≠ 15 ∧ logicalDie s h (bits v.toNat 0 4) = some l) ∧
    (∃ (h : Fin 16) (v : BitVec 32) (l : Nat) (s : State), Reaches s .mainband (scPage h) 0x08C ∧ bits v.toNat 4 2 = 1 ∧ (dram s h).migration = none ∧ rd s (scPage h) Reg.sc.RETIRED ≠ 15 ∧ logicalDie s h (bits v.toNat 0 4) = some l) ∧
    (∃ (h : Fin 16) (v : BitVec 32) (s : State), Reaches s .mainband (scPage h) 0x08C ∧ 2 ≤ bits v.toNat 4 2) ∧
    (∃ (h : Fin 16) (m : Migration) (s : State), (dram s h).migration = some m) ∧
    (∃ (path : Path) (hi : BitVec 32) (s : State), Reaches s path .memMap (Reg.mm.MAP.off + 4) ∧ mapIdle s = true ∧ mapLegal (commitPair s path .memMap Reg.mm.MAP hi.toNat).1 = true) ∧
    (∃ (path : Path) (hi : BitVec 32) (s : State), Reaches s path .memMap (Reg.mm.MAP.off + 4) ∧ mapIdle s = true ∧ mapLegal (commitPair s path .memMap Reg.mm.MAP hi.toNat).1 = false) ∧
    (∃ (path : Path) (hi : BitVec 32) (s : State), Reaches s path .memMap (Reg.mm.MAP.off + 4) ∧ mapIdle s = false) :=
  ⟨⟨1, setDram (phase 5) 1 { Stack.reset with refreshes := 2 ^ 20, rowQueue := [5] }, by decide +kernel⟩,
   ⟨1, inStack up { Stack.reset with refreshes := rd up (.stack 1) Reg.sc.SCRUB_EVERY }, by decide +kernel⟩,
   ⟨1, inStack up { Stack.reset with refreshes := rd up (.stack 1) Reg.sc.SCRUB_EVERY, patrol := 2 ^ 40 }, by decide +kernel⟩,
   ⟨1, 18431, 2, [], inStack up { Stack.reset with laneQueue := [18431], inWindow := true, dataSpares := [(63, 3)] }, by decide +kernel⟩,
   ⟨1, 18431, [], inStack up { Stack.reset with laneQueue := [18431], inWindow := true, dataSpares := [(63, 255)] }, by decide +kernel⟩,
   ⟨1, 2 ^ 32 + 7, [], inStack up { Stack.reset with rowQueue := [2 ^ 32 + 7], bankSpares := [(1, 3)] }, by decide +kernel⟩,
   ⟨1, 2 ^ 32 + 7, [], inStack up { Stack.reset with rowQueue := [2 ^ 32 + 7], bankSpares := [(1, 4)] }, by decide +kernel⟩,
   ⟨1, 2 ^ 32 + 7, inStack up { Stack.reset with rowQueue := [2 ^ 32 + 7], rowCopied := some (2 ^ 32 + 7) }, by decide +kernel⟩,
   ⟨1, bits (rd up (.stack 1) Reg.sc.DIE_MAP) 60 4 + 16, 15, up, by unfold Reaches; decide +kernel⟩,
   ⟨1, bits (rd up (.stack 1) Reg.sc.DIE_MAP) 0 4 + 16, 0, up, by unfold Reaches; decide +kernel⟩,
   ⟨1, 0x20, up, by unfold Reaches; decide +kernel⟩,
   ⟨1, { logical := 0, top := 15, named := 4 }, inStack up { Stack.reset with migration := some { logical := 0, top := 15, named := 4 } }, by decide +kernel⟩,
   ⟨.mainband, 0, { up with staging := [(pairKey .mainband .memMap Reg.mm.MAP, 0)] }, by unfold Reaches; decide +kernel⟩,
   ⟨.mainband, 0x55555555, up, by unfold Reaches; decide +kernel⟩,
   ⟨.mainband, 0, setStair up 3 { Stairwell.reset with state := .faulted }, by unfold Reaches; decide +kernel⟩⟩

theorem test_hypotheses_SectorAccessReadsBack :
    (∃ (who : Requester) (user : HallUser) (a v : Nat) (u : Upset) (s : State), ready s = true ∧ a % 32 = 0 ∧ present s a = true) ∧
    (∃ (who : Requester) (user : HallUser) (a lo n v : Nat) (s : State), ready s = true ∧ a % 32 = 0 ∧ present s a = true ∧ 1 ≤ n ∧ n < 32 ∧ lo + n ≤ 32 ∧ codeOf s (cellOf s (place s a).1 (place s a).2) = { poison := false, errors := [] }) ∧
    (∃ (who : Requester) (user : HallUser) (a lo n v : Nat) (s : State), ready s = true ∧ a % 32 = 0 ∧ present s a = true ∧ 1 ≤ n ∧ n < 32 ∧ lo + n ≤ 32 ∧ codeOf s (cellOf s (place s a).1 (place s a).2) = { poison := false, errors := [] }) ∧
    (∃ (who : Requester) (user : HallUser) (a v : Nat) (u : Upset) (s : State), ready s = true ∧ a % 32 = 0 ∧ present s a = true) ∧
    (∃ (who : Requester) (user : HallUser) (a : Nat) (u : Upset) (s : State), ready s = true ∧ a % 32 = 0 ∧ present s a = true ∧ isMaint who = false) ∧
    (∃ (who : Requester) (user : HallUser) (a : Nat) (u : Upset) (s : State), ready s = true ∧ a % 32 = 0 ∧ present s a = true ∧ isMaint who = true) ∧
    (∃ (who : Requester) (user : HallUser) (a : Nat) (op : SectorOp) (u : Upset) (s : State), ready s = true ∧ a % 32 = 0 ∧ present s a = true) ∧
    (∃ (who : Requester) (user : HallUser) (a : Nat) (op : SectorOp) (u : Upset) (s : State), ready s = true ∧ a % 32 = 0 ∧ present s a = true) ∧
    (∃ (who : Requester) (user : HallUser) (a : Nat) (op : SectorOp) (u : Upset) (s : State), present s (a / 32 * 32) = false) ∧
    (∃ (h : Fin 16) (user : HallUser) (a : Nat) (s : State), ready s = true ∧ a % 32 = 0 ∧ present s a = false) ∧
    (∃ (h : Fin 16) (g : Fin 17) (user : HallUser) (w : GalleryWork) (j : Nat × Nat) (a : Nat) (s : State), ready s = true ∧ a % 32 = 0 ∧ present s a = false ∧ user.work = some (g, w) ∧ workJob (gal s h g) w = some j) ∧
    (∃ (x y : SectorAccess) (s : State), accessRank x.who < accessRank y.who ∧ ready s = true) ∧
    (∃ (who : Requester) (a : Nat) (op : SectorOp) (c : SectorCycle) (s : State), ready s = false) :=
  ⟨⟨.host, .gallery 2, 4096, 2 ^ 255 + 1, [], up, by decide +kernel⟩,
   ⟨.stairwell, .gallery 2, 2 ^ 40 - 32, 31, 1, 255, up, by decide +kernel⟩,
   ⟨.mc, .gallery 2, 0, 0, 31, 255, store up 0 32 (2 ^ 256 - 1), by decide +kernel⟩,
   ⟨.hallCache 15, .gallery 2, 4096, 7, [(3, 1)], up, by decide +kernel⟩,
   ⟨.seb, .gallery 2, 4096, [(3, 1)], store up 4096 32 9, by decide +kernel⟩,
   ⟨.maintenance, .gallery 2, 4096, [(3, 1)], store up 4096 32 9, by decide +kernel⟩,
   ⟨.seb, .gallery 2, 4096, .read, [], up, by decide +kernel⟩,
   ⟨.seb, .gallery 2, 4096, .write 3 1 9, [], up, by decide +kernel⟩,
   ⟨.host, .gallery 2, 2 ^ 40, .read, [(0, 1)], up, by decide +kernel⟩,
   ⟨3, .gallery 2, 15 * 2 ^ 36 + 15 * 2 ^ 32 + 32, poke up [(.stack 15, Reg.sc.RETIRED, 1), (.memMap, Reg.mm.MAP, 0)], by decide +kernel⟩,
   ⟨1, 2, .gallery 2, .running, (3, 0), 15 * 2 ^ 36 + 15 * 2 ^ 32 + 32, poke (inGal [jobRun desc0] (work desc0)) [(.stack 15, Reg.sc.RETIRED, 1), (.memMap, Reg.mm.MAP, 0)], by decide +kernel⟩,
   ⟨{ who := .hallCache 3, user := .self, addr := 4096, op := .read, upset := [] }, { who := .hallCache 4, user := .self, addr := 4096, op := .read, upset := [] }, up, by decide +kernel⟩,
   ⟨.host, 4096, .read, ⟨.self, [], []⟩, State.reset, by decide +kernel⟩⟩

theorem test_hypotheses_LinkStateCompletes :
    (∃ (l : Fin 8) (s : State), Reaches s .mainband (linkPage l) Reg.lnk.TRAIN_EN.off ∧ rd s (linkPage l) Reg.lnk.TRAIN_EN ≠ 0 ∧ rd s (linkPage l) Reg.lnk.LINK_STATE ≠ 1) ∧
    (∃ (l : Fin 8) (s : State), Reaches s .mainband (linkPage l) Reg.lnk.TRAIN_EN.off ∧ rd s (linkPage l) Reg.lnk.TRAIN_EN ≠ 0 ∧ rd s (linkPage l) Reg.lnk.LINK_STATE ≠ 1) ∧
    (∃ (l : Fin 8) (f : Training) (peer : BitVec 32) (tx rx : Option (Fin 16)) (s : State), rd s (linkPage l) Reg.lnk.LINK_STATE = 1 ∧ f.peer = some peer ∧ LanesFail f.badTx tx ∧ LanesFail f.badRx rx) ∧
    (∃ (l : Fin 8) (f : Training) (peer : BitVec 32) (tx rx : Option (Fin 16)) (s : State), rd s (linkPage l) Reg.lnk.LINK_STATE = 1 ∧ f.peer = some peer ∧ LanesFail f.badTx tx ∧ LanesFail f.badRx rx) ∧
    (∃ (l : Fin 8) (f : Training) (peer : BitVec 32) (s : State), rd s (linkPage l) Reg.lnk.LINK_STATE = 1 ∧ rd s (linkPage l) Reg.lnk.HALF_OK ≠ 0 ∧ f.peer = some peer ∧ failsTwo (f.badTx.map Fin.val) = true ∧ ((∀ i ∈ f.badTx, 8 ≤ i.val)) ∧ LanesFail f.badRx none) ∧
    (∃ (l : Fin 8) (f : Training) (s : State), rd s (linkPage l) Reg.lnk.LINK_STATE = 1 ∧ (f.peer = none ∨ (failsTwo (f.badTx.map Fin.val) = true ∧ rd s (linkPage l) Reg.lnk.HALF_OK = 0)) ∧ (link s l).failures + 1 < atLeastOne (rd s (linkPage l) Reg.lnk.RETRAIN_LIMIT)) ∧
    (∃ (l : Fin 8) (f : Training) (s : State), rd s (linkPage l) Reg.lnk.LINK_STATE = 1 ∧ (f.peer = none ∨ (failsTwo (f.badTx.map Fin.val) = true ∧ rd s (linkPage l) Reg.lnk.HALF_OK = 0)) ∧ (link s l).failures + 1 < atLeastOne (rd s (linkPage l) Reg.lnk.RETRAIN_LIMIT)) ∧
    (∃ (l : Fin 8) (f : Training) (s : State), rd s (linkPage l) Reg.lnk.LINK_STATE = 1 ∧ (f.peer = none ∨ (failsTwo (f.badTx.map Fin.val) = true ∧ rd s (linkPage l) Reg.lnk.HALF_OK = 0)) ∧ atLeastOne (rd s (linkPage l) Reg.lnk.RETRAIN_LIMIT) ≤ (link s l).failures + 1) ∧
    (∃ (l : Fin 8) (s : State), linkIsUp s l = true) ∧
    (∃ (l : Fin 8) (s : State), linkIsUp s l = true) ∧
    (∃ (l : Fin 8) (lane : Fin 17) (s : State), linkIsUp s l = true ∧ lane.val < 16 ∧ atLeastOne (rd s (linkPage l) Reg.lnk.LANE_ERR_THRESHOLD) ≤ (NatMap.get? (link s l).corrections lane.val).getD 0 ∧ rd s (linkPage l) Reg.lnk.LANE_SPARE_EN ≠ 0 ∧ rd s (linkPage l) Reg.lnk.SPARE_RX = 31) ∧
    (∃ (l : Fin 8) (lane : Fin 17) (s : State), linkIsUp s l = true ∧ lane.val < 16 ∧ atLeastOne (rd s (linkPage l) Reg.lnk.LANE_ERR_THRESHOLD) ≤ (NatMap.get? (link s l).corrections lane.val).getD 0 ∧ rd s (linkPage l) Reg.lnk.LANE_SPARE_EN ≠ 0 ∧ rd s (linkPage l) Reg.lnk.SPARE_RX ≠ 31 ∧ rd s (linkPage l) Reg.lnk.SPARE_RX ≠ lane.val) ∧
    (∃ (l : Fin 8) (lane : Fin 17) (s : State), (NatMap.get? (link s l).corrections lane.val).getD 0 < atLeastOne (rd s (linkPage l) Reg.lnk.LANE_ERR_THRESHOLD)) ∧
    (∃ (l : Fin 8) (s : State), linkIsUp s l = true ∧ (link s l).replay ≠ [] ∧ (link s l).sameReplays + 1 < 16) ∧
    (∃ (l : Fin 9) (type : BitVec 4) (f : Flit) (s : State), l.val < 8 ∧ 6 < type.toNat ∧ linkIsUp s l = true) ∧
    (∃ (l : Fin 9) (f : Flit) (s : State), l.val < 8 ∧ linkIsUp s l = true ∧ f.crc.toNat = flitCrc 0 f.channel f.fseq.toNat f.payload) :=
  ⟨⟨2, poke linked [(.link 2, Reg.lnk.LINK_STATE, 0)], by unfold Reaches; decide +kernel⟩,
   ⟨2, poke linked [(.link 2, Reg.lnk.LINK_STATE, 4)], by unfold Reaches; decide +kernel⟩,
   ⟨2, { peer := some 0xFFFFFFFF, badTx := [], badRx := [15] }, 0xFFFFFFFF, none, some 15, setLink training 2 { Link.reset with replay := [{ type := 4, channel := 5, fseq := 0, payload := 0, crc := 0 }] }, ⟨by decide +kernel, rfl, by unfold LanesFail; decide, by unfold LanesFail; decide⟩⟩,
   ⟨2, { peer := some 0xFFFFFFFF, badTx := [0], badRx := [16] }, 0xFFFFFFFF, some 0, none, training, ⟨by decide +kernel, rfl, by unfold LanesFail; decide, by unfold LanesFail; decide⟩⟩,
   ⟨2, { peer := some 9, badTx := [8, 15], badRx := [16] }, 9, training, ⟨by decide +kernel, by decide +kernel, rfl, by decide +kernel, by decide +kernel, by unfold LanesFail; decide⟩⟩,
   ⟨2, { peer := none, badTx := [], badRx := [] }, training, by decide +kernel⟩,
   ⟨2, { peer := some 0xFFFFFFFF, badTx := [0, 15], badRx := [] }, poke training [(.link 2, Reg.lnk.HALF_OK, 0)], by decide +kernel⟩,
   ⟨2, { peer := none, badTx := [], badRx := [] }, setLink training 2 { Link.reset with failures := 1, channels := [(5, { Channel.reset with send := some snd, receive := some rcv })] }, by decide +kernel⟩,
   ⟨2, linked, by decide +kernel⟩,
   ⟨2, poke linked [(.link 2, Reg.lnk.LINK_STATE, 3), (.link 2, Reg.lnk.TRAIN_EN, 0)], by decide +kernel⟩,
   ⟨2, 15, poke (setLink linked 2 { Link.reset with corrections := [(15, 2 ^ 32 - 1)] }) [(.link 2, Reg.lnk.LANE_SPARE_EN, 1), (.link 2, Reg.lnk.SPARE_RX, 31)], by decide +kernel⟩,
   ⟨2, 15, poke (setLink linked 2 { Link.reset with corrections := [(15, 2 ^ 32 - 1)] }) [(.link 2, Reg.lnk.LANE_SPARE_EN, 1), (.link 2, Reg.lnk.SPARE_RX, 14)], by decide +kernel⟩,
   ⟨2, 16, linked, by decide +kernel⟩,
   ⟨2, onLink { Link.reset with replay := [{ type := 4, channel := 5, fseq := 0, payload := 0, crc := 0 }], sameReplays := 14 }, by decide +kernel⟩,
   ⟨2, 7, { flit 7 0 with fec := [16] }, setLink linked 2 { Link.reset with corrections := [(16, 2 ^ 32 - 1)] }, by decide +kernel⟩,
   ⟨2, flit 0 0, linked, by decide +kernel⟩⟩

theorem test_hypotheses_LinkSendingCompletes :
    (∃ (l : Fin 9) (c : Fin 16) (sw slot b : Nat) (rest : List (Nat × Nat)) (s : State), (chan s l c).send = none ∧ (chan s l c).claims = (sw, slot) :: rest ∧ reduceBlock s sw slot = some b) ∧
    (∃ (l : Fin 9) (c : Fin 16) (sw slot b : Nat) (rest : List (Nat × Nat)) (s : State), (chan s l c).send = none ∧ (chan s l c).claims = (sw, slot) :: rest ∧ reduceBlock s sw slot = some b) ∧
    (∃ (l : Fin 9) (c : Fin 16) (d : Send) (r : Nat) (s u : State), (chan s l c).send = some d ∧ d.history = none ∧ d.stop = none ∧ memRead s .linkSender (rbHist d.block) 128 = (u, .ok r) ∧ historyOdd r = false ∧ 0 < orderKey (historyMax r)) ∧
    (∃ (l : Fin 9) (c : Fin 16) (d : Send) (r img : Nat) (s u v : State), (chan s l c).send = some d ∧ d.history = none ∧ d.stop = none ∧ memRead s .linkSender (rbHist d.block) 128 = (u, .ok r) ∧ historyOdd r = false ∧ orderKey (historyMax r) ≤ 0 ∧ memRead u .linkSender (rbSrc d.block) (rbElements d.block * fmtBytes (rbSfmt d.block)) = (v, .ok img)) ∧
    (∃ (l : Fin 9) (s : State), linkIsUp s l = true) ∧
    (∃ (l : Fin 9) (f : OutFlit) (s : State), linkIsUp s l = true ∧ (link s l).resend ≠ 0 ∧ (link s l).replay[(link s l).replay.length - (link s l).resend]? = some f) ∧
    (∃ (l : Fin 9) (s : State), linkIsUp s l = true ∧ (link s l).resend = 0 ∧ (link s l).replay.length < 512 ∧ ctrlDue (link s l) = true) ∧
    (∃ (l : Fin 9) (c : Nat) (d : Send) (s : State), linkIsUp s l = true ∧ (link s l).resend = 0 ∧ (link s l).replay.length < 512 ∧ ctrlDue (link s l) = false ∧ nextChannel (link (creditWaits s l) l) = some (c, d) ∧ d.stop = none ∧ d.begun = false) ∧
    (∃ (l : Fin 9) (c img : Nat) (d : Send) (s : State), linkIsUp s l = true ∧ (link s l).resend = 0 ∧ (link s l).replay.length < 512 ∧ ctrlDue (link s l) = false ∧ nextChannel (link (creditWaits s l) l) = some (c, d) ∧ d.stop = none ∧ d.begun = true ∧ d.sent < rbElements d.block ∧ (memRead (turnTaken (linkHeld s l) l c) .linkSender (rbSrc d.block + d.sent * fmtBytes (rbSfmt d.block))
      (min (bodyElements (rbLfmt d.block)) (rbElements d.block - d.sent) * fmtBytes (rbSfmt d.block))).2 = .ok img) ∧
    (∃ (l : Fin 9) (c img : Nat) (d : Send) (s : State), linkIsUp s l = true ∧ (link s l).resend = 0 ∧ (link s l).replay.length < 512 ∧ ctrlDue (link s l) = false ∧ nextChannel (link (creditWaits s l) l) = some (c, d) ∧ d.stop = none ∧ d.begun = true ∧ d.sent < rbElements d.block ∧ (memRead (turnTaken (linkHeld s l) l c) .linkSender (rbSrc d.block + d.sent * fmtBytes (rbSfmt d.block))
      (min (bodyElements (rbLfmt d.block)) (rbElements d.block - d.sent) * fmtBytes (rbSfmt d.block))).2 = .ok img) ∧
    (∃ (l : Fin 9) (s : State), l.val < 8 ∧ linkIsUp s l = true ∧ (link s l).resend = 0 ∧ (512 ≤ (link s l).replay.length ∨ (ctrlDue (link s l) = false ∧ nextChannel (link (creditWaits s l) l) = none))) ∧
    (∃ (l : Fin 9) (c : Fin 16) (a : Await) (rest : List Await) (sw slot : Nat) (s u : State), ResponseTaken s l c 0 u ∧ (chan u l c).awaiting = a :: rest ∧ a.owner = some (sw, slot)) ∧
    (∃ (l : Fin 9) (c : Fin 16) (a : Await) (rest : List Await) (sw slot : Nat) (s u : State), ResponseTaken s l c 0 u ∧ (chan u l c).awaiting = a :: rest ∧ a.owner = some (sw, slot)) ∧
    (∃ (l : Fin 9) (c : Fin 16) (code : BitVec 8) (a : Await) (rest : List Await) (sw slot : Nat) (s u : State), code ≠ 0 ∧ ResponseTaken s l c code.toNat u ∧ (chan u l c).awaiting = a :: rest ∧ a.owner = some (sw, slot)) ∧
    (∃ (l : Fin 9) (c : Fin 16) (i : Nat) (a : Await) (sw slot : Nat) (s : State), ((chan s l c).awaiting.findIdx? fun a => a.owner.isSome) = some i ∧ (chan s l c).awaiting[i]? = some a ∧ a.owner = some (sw, slot)) :=
  ⟨⟨2, 5, 3, 2, rblk, [(4, 1)], reducing (onLink (onChan { Channel.reset with claims := [(3, 2), (4, 1)] })), by decide +kernel⟩,
   ⟨8, 5, 3, 2, rblk, [], reducing (setLink up 8 (onChan { Channel.reset with claims := [(3, 2)] })), by decide +kernel⟩,
   ⟨2, 5, { snd with history := none }, 0x40000000, store (onLink (onChan { Channel.reset with send := some { snd with history := none } })) 0x4000 128 0x40000000, _, ⟨(by decide +kernel), (by decide +kernel), (by decide +kernel), whole (by decide +kernel), (by decide +kernel), (by decide +kernel)⟩⟩,
   ⟨2, 5, { snd with history := none }, 0, 0x40000000, store (onLink (onChan { Channel.reset with send := some { snd with history := none } })) 0x2000 4 0x40000000, _, _, ⟨(by decide +kernel), (by decide +kernel), (by decide +kernel), whole (by decide +kernel), (by decide +kernel), (by decide +kernel), whole (by decide +kernel)⟩⟩,
   ⟨2, linked, by decide +kernel⟩,
   ⟨2, { type := 4, channel := 5, fseq := 0, payload := 0, crc := 0 }, onLink { Link.reset with replay := [{ type := 4, channel := 5, fseq := 0, payload := 0, crc := 0 }], resend := 1 }, by decide +kernel⟩,
   ⟨2, onLink { Link.reset with ackDue := true, responses := [(5, 1, 0)] }, by decide +kernel⟩,
   ⟨2, 5, snd, onLink (onChan { Channel.reset with send := some snd }), by decide +kernel⟩,
   ⟨2, 5, 0, { snd with begun := true }, onLink (onChan { Channel.reset with send := some { snd with begun := true } }), by decide +kernel⟩,
   ⟨2, 5, 0x40000000, { snd with begun := true, sent := 15 }, store (onLink (onChan { Channel.reset with send := some { snd with begun := true, sent := 15 } })) 0x203C 4 0x40000000, by decide +kernel⟩,
   ⟨2, linked, by decide +kernel⟩,
   ⟨2, 5, { owner := some (3, 2), late := false }, [], 3, 2, reducing (onLink (onChan { Channel.reset with awaiting := [{ owner := some (3, 2), late := false }] })), reducing (onLink (onChan { Channel.reset with awaiting := [{ owner := some (3, 2), late := false }] })), by unfold ResponseTaken; decide +kernel⟩,
   ⟨8, 5, { owner := some (3, 2), late := false }, [], 3, 2, reducing (setLink up 8 { onChan { Channel.reset with awaiting := [{ owner := some (3, 2), late := false }] } with responses := [(5, 1, 0)] }), setLink (reducing up) 8 (onChan { Channel.reset with awaiting := [{ owner := some (3, 2), late := false }] }), by unfold ResponseTaken; decide +kernel⟩,
   ⟨2, 5, 0x45, { owner := some (3, 2), late := false }, [], 3, 2, reducing (onLink (onChan { Channel.reset with awaiting := [{ owner := some (3, 2), late := false }] })), reducing (onLink (onChan { Channel.reset with awaiting := [{ owner := some (3, 2), late := false }] })), by unfold ResponseTaken; decide +kernel⟩,
   ⟨2, 5, 0, { owner := some (3, 2), late := false }, 3, 2, reducing (onLink (onChan { Channel.reset with awaiting := [{ owner := some (3, 2), late := false }] })), by decide +kernel⟩⟩

theorem test_hypotheses_LinkReceivingCompletes :
    (∃ (l : Fin 9) (f : Flit) (w : Window) (s u : State), acceptFlit s l 1 f = (u, true) ∧ (chan u l f.channel.val).receive = none ∧ findWindow u (bits f.payload 0 16) = some w ∧ headRefusal (some w) (bits f.payload 16 8) (bits f.payload 32 32) = none) ∧
    (∃ (l : Fin 9) (f : Flit) (code : Nat) (s u : State), acceptFlit s l 1 f = (u, true) ∧ (chan u l f.channel.val).receive = none ∧ headRefusal (findWindow u (bits f.payload 0 16)) (bits f.payload 16 8) (bits f.payload 32 32) = some code) ∧
    (∃ (l : Fin 9) (f : Flit) (code : Nat) (s u : State), acceptFlit s l 1 f = (u, true) ∧ (chan u l f.channel.val).receive = none ∧ headRefusal (findWindow u (bits f.payload 0 16)) (bits f.payload 16 8) (bits f.payload 32 32) = some code) ∧
    (∃ (l : Fin 9) (f : Flit) (code : Nat) (s u : State), acceptFlit s l 1 f = (u, true) ∧ (chan u l f.channel.val).receive = none ∧ headRefusal (findWindow u (bits f.payload 0 16)) (bits f.payload 16 8) (bits f.payload 32 32) = some code) ∧
    (∃ (l : Fin 9) (f : Flit) (r : Receive) (w : Window) (s u : State), acceptFlit s l 2 f = (u, true) ∧ (chan u l f.channel.val).receive = some r ∧ r.ended = false ∧ r.drop = false ∧ openEntry u r.entry = some w) ∧
    (∃ (l : Fin 9) (f : Flit) (r : Receive) (w : Window) (s u : State), acceptFlit s l 3 f = (u, true) ∧ (chan u l f.channel.val).receive = some r ∧ r.ended = false ∧ r.drop = false ∧ openEntry u r.entry = some w) ∧
    (∃ (l : Fin 9) (f : Flit) (r : Receive) (s u : State), acceptFlit s l 4 f = (u, true) ∧ (chan u l f.channel.val).receive = some r ∧ r.ended = false ∧ r.drop = false) ∧
    (∃ (l : Fin 9) (f : Flit) (r : Receive) (s u : State), acceptFlit s l 5 f = (u, true) ∧ (chan u l f.channel.val).receive = some r ∧ r.ended = false ∧ r.drop = false ∧ r.writes = []) ∧
    (∃ (l : Fin 9) (f : Flit) (s u : State), acceptFlit s l 6 f = (u, true)) ∧
    (∃ (l : Fin 9) (c : Fin 16) (r : Receive) (ws : List (Nat × Nat × Nat)) (rest : List (List (Nat × Nat × Nat)))
    (s u : State), (chan s l c).receive = some r ∧ r.writes = ws :: rest ∧ retires s l = true ∧ doWrites ws s = (u, true) ∧ (rest ≠ [] ∨ (∃ p, r.closing = some (4, p)) ∨ (r.closing = none ∧ r.ended = false))) ∧
    (∃ (l : Fin 9) (c : Fin 16) (r : Receive) (ws : List (Nat × Nat × Nat)) (rest : List (List (Nat × Nat × Nat)))
    (s u : State), (chan s l c).receive = some r ∧ r.writes = ws :: rest ∧ retires s l = true ∧ doWrites ws s = (u, true) ∧ (rest ≠ [] ∨ (∃ p, r.closing = some (4, p)) ∨ (r.closing = none ∧ r.ended = false))) ∧
    (∃ (l : Fin 9) (c : Fin 16) (r : Receive) (w : Window) (p : Nat) (s u : State), (chan s l c).receive = some r ∧ r.closing = some (4, p) ∧ openEntry s r.entry = some w ∧ r.writes = [] ∧ linkIsUp s l = true ∧ commitHeader s w r p = (u, true)) ∧
    (∃ (l : Fin 8) (s : State), retires s l = false) ∧
    (∃ (l : Fin 9) (c : Fin 16) (code : BitVec 8) (f : Flit) (type : BitVec 4) (s : State), l.val < 8 ∧ linkIsUp s l = true) ∧
    (∃ (l : Fin 9) (f : Flit) (s : State), l.val < 8 ∧ linkIsUp s l = true) :=
  ⟨⟨2, flit 1 (5 + 0 * 2 ^ 16 + 2 ^ 24 + 1 * 2 ^ 32), win0, { linked with windows := [win0] }, _, ⟨whole (by decide +kernel), (by decide +kernel), (by decide +kernel), (by decide +kernel)⟩⟩,
   ⟨2, flit 1 (5 + 1 * 2 ^ 16 + 2 ^ 24 + 1 * 2 ^ 32), 0x45, { linked with windows := [win0] }, _, ⟨whole (by decide +kernel), (by decide +kernel), (by decide +kernel)⟩⟩,
   ⟨2, flit 1 (5 + 0 * 2 ^ 16 + 2 ^ 24 + 2 * 2 ^ 32), 0x44, { linked with windows := [win0] }, _, ⟨whole (by decide +kernel), (by decide +kernel), (by decide +kernel)⟩⟩,
   ⟨2, flit 1 (6 + 0 * 2 ^ 16 + 2 ^ 24 + 1 * 2 ^ 32), 0x40, { linked with windows := [win0] }, _, ⟨whole (by decide +kernel), (by decide +kernel), (by decide +kernel)⟩⟩,
   ⟨2, flit 2 0xFF, rcv, win0, taking rcv, _, ⟨whole (by decide +kernel), (by decide +kernel), (by decide +kernel), (by decide +kernel), (by decide +kernel)⟩⟩,
   ⟨2, flit 3 (2 ^ 32), rcv, win0, taking rcv, _, ⟨whole (by decide +kernel), (by decide +kernel), (by decide +kernel), (by decide +kernel), (by decide +kernel)⟩⟩,
   ⟨2, flit 4 3, rcv, taking rcv, _, ⟨whole (by decide +kernel), (by decide +kernel), (by decide +kernel), (by decide +kernel)⟩⟩,
   ⟨2, flit 5 0, rcv, taking rcv, _, ⟨whole (by decide +kernel), (by decide +kernel), (by decide +kernel), (by decide +kernel), (by decide +kernel)⟩⟩,
   ⟨2, flit 6 (2 ^ (8 * 9)), onLink (onChan { Channel.reset with spent := 2 }), _, whole (by decide +kernel)⟩,
   ⟨2, 5, { rcv with writes := [[(0x1100, 4, 9)], [(0x1100, 4, 9)]] }, [(0x1100, 4, 9)], [[(0x1100, 4, 9)]], taking { rcv with writes := [[(0x1100, 4, 9)], [(0x1100, 4, 9)]] }, _, ⟨by decide +kernel, by decide +kernel, by decide +kernel, whole (by decide +kernel), Or.inl (by decide)⟩⟩,
   ⟨2, 5, { rcv with writes := [[(0x1100, 4, 9)]] }, [(0x1100, 4, 9)], [], taking { rcv with writes := [[(0x1100, 4, 9)]] }, _, ⟨by decide +kernel, by decide +kernel, by decide +kernel, whole (by decide +kernel), Or.inr (Or.inr ⟨rfl, rfl⟩)⟩⟩,
   ⟨2, 5, { rcv with ended := true, closing := some (4, 3) }, win0, 3, taking { rcv with ended := true, closing := some (4, 3) }, _, ⟨(by decide +kernel), (by decide +kernel), (by decide +kernel), (by decide +kernel), (by decide +kernel), whole (by decide +kernel)⟩⟩,
   ⟨2, { training with windows := [{ win0 with closing := true }], links := [(2, onChan { Channel.reset with receive := some rcv })] }, by decide +kernel⟩,
   ⟨2, 5, 0x45, flit 7 0, 7, taking rcv, by decide +kernel⟩,
   ⟨2, flit 7 0, taking rcv, by decide +kernel⟩⟩

theorem test_hypotheses_HostRequestsComplete :
    (∃ (tag : BitVec 10) (addr : BitVec 64) (len : Nat) (s : State), InCredit s 0 1 len ∧ regLegal addr.toNat len = true) ∧
    (∃ (tag : BitVec 10) (addr : BitVec 64) (len : Nat) (s : State), InCredit s 0 1 len ∧ regLegal addr.toNat len = true) ∧
    (∃ (tag : BitVec 10) (addr : BitVec 64) (len : Nat) (s : State), InCredit s 0 1 len ∧ regLegal addr.toNat len = false) ∧
    (∃ (tag : BitVec 10) (addr : BitVec 64) (len : Nat) (s : State), InCredit s 0 1 len ∧ regLegal addr.toNat len = false) ∧
    (∃ (tag : BitVec 10) (addr : BitVec 64) (len : Nat) (s : State), InCredit s 0 1 len ∧ regLegal addr.toNat len = false) ∧
    (∃ (tag : BitVec 10) (addr : BitVec 64) (len : Nat) (v : BitVec 32) (s u : State) (ok : Bool), InCredit s 0 1 len ∧ regLegal addr.toNat len = true ∧ writeSpace (requestArrived s 0 1 (ceilDiv (32 + len) 128)) .mainband addr.toNat v.toNat = (u, ok) ∧ linkUp u = true) ∧
    (∃ (tag : BitVec 10) (addr : BitVec 64) (len : Nat) (v : BitVec 32) (s u : State) (ok : Bool), InCredit s 0 1 len ∧ regLegal addr.toNat len = true ∧ writeSpace (requestArrived s 0 1 (ceilDiv (32 + len) 128)) .mainband addr.toNat v.toNat = (u, ok) ∧ linkUp u = true) ∧
    (∃ (tag : BitVec 10) (addr : BitVec 64) (len : Nat) (v : BitVec 32) (s : State), InCredit s 0 1 len ∧ regLegal addr.toNat len = false) ∧
    (∃ (tag : BitVec 10) (addr : BitVec 64) (len v : Nat) (s : State), InCredit s 0 1 len ∧ ready s = true ∧ apertureLegal addr.toNat len = true ∧ (memRead (requestArrived s 0 1 1) .host addr.toNat len).2 = .ok v) ∧
    (∃ (tag : BitVec 10) (addr : BitVec 64) (len v : Nat) (s : State), InCredit s 0 1 len ∧ ready s = true ∧ apertureLegal addr.toNat len = true ∧ (memRead (requestArrived s 0 1 1) .host addr.toNat len).2 = .ok v) ∧
    (∃ (tag : BitVec 10) (addr : BitVec 64) (len k a : Nat) (s : State), InCredit s 0 1 len ∧ ready s = true ∧ apertureLegal addr.toNat len = true ∧ (memRead (requestArrived s 0 1 1) .host addr.toNat len).2 = .fault k a) ∧
    (∃ (tag : BitVec 10) (addr : BitVec 64) (len : Nat) (s : State), InCredit s 0 1 len ∧ (ready s && apertureLegal addr.toNat len) = false) ∧
    (∃ (tag : BitVec 10) (addr : BitVec 64) (len : Nat) (s : State), InCredit s 0 1 len ∧ (ready s && apertureLegal addr.toNat len) = false) ∧
    (∃ (addr : BitVec 64) (len v : Nat) (s u : State), InCredit s (ceilDiv (32 + len) 128) 0 len ∧ ready s = true ∧ apertureLegal addr.toNat len = true ∧ memWrite (requestArrived s (ceilDiv (32 + len) 128) 0 (ceilDiv (32 + len) 128)) .host addr.toNat len (v % 2 ^ (8 * len))
      = (u, .ok 0)) ∧
    (∃ (addr : BitVec 64) (len v k a : Nat) (s u : State), InCredit s (ceilDiv (32 + len) 128) 0 len ∧ ready s = true ∧ apertureLegal addr.toNat len = true ∧ memWrite (requestArrived s (ceilDiv (32 + len) 128) 0 (ceilDiv (32 + len) 128)) .host addr.toNat len (v % 2 ^ (8 * len))
      = (u, .fault k a)) ∧
    (∃ (addr : BitVec 64) (len v : Nat) (s : State), InCredit s (ceilDiv (32 + len) 128) 0 len ∧ (ready s && apertureLegal addr.toNat len) = false) ∧
    (∃ (addr : BitVec 64) (s : State), sidebandOpen s = true ∧ regLegal addr.toNat 4 = true) ∧
    (∃ (addr : BitVec 64) (v : BitVec 32) (s u : State) (ok : Bool), sidebandOpen s = true ∧ regLegal addr.toNat 4 = true ∧ writeSpace s .sideband addr.toNat v.toNat = (u, ok) ∧ sidebandOpen u = true) ∧
    (∃ (addr : BitVec 64) (op : SidebandOp) (s : State), sidebandOpen s = true ∧ regLegal addr.toNat 4 = false) ∧
    (∃ (addr : BitVec 64) (v : BitVec 32) (s u : State) (ok : Bool), sidebandOpen s = true ∧ regLegal addr.toNat 4 = true ∧ writeSpace s .sideband addr.toNat v.toNat = (u, ok) ∧ u.hif.sidebandModule < 16) ∧
    (∃ (tag : BitVec 10) (addr : BitVec 64) (len : Nat) (s : State), InCredit s 0 1 len ∧ regLegal addr.toNat len = true ∧ s.hif.queued = []) :=
  ⟨⟨5, 0x10001C, 4, net, by unfold InCredit; decide +kernel⟩,
   ⟨1023, 0x3FFFFFC, 4, net, by unfold InCredit; decide +kernel⟩,
   ⟨5, 0x4000000, 4, net, by unfold InCredit; decide +kernel⟩,
   ⟨5, 0x10001E, 4, net, by unfold InCredit; decide +kernel⟩,
   ⟨5, 0x10001C, 8, net, by unfold InCredit; decide +kernel⟩,
   ⟨5, 0x10001C, 4, 5, net, _, true, ⟨(by unfold InCredit; decide +kernel), (by decide +kernel), whole (by decide +kernel), (by decide +kernel)⟩⟩,
   ⟨5, 0x1000FC, 4, 5, net, _, true, ⟨(by unfold InCredit; decide +kernel), (by decide +kernel), whole (by decide +kernel), (by decide +kernel)⟩⟩,
   ⟨5, 0x10001C, 3, 5, net, by unfold InCredit; decide +kernel⟩,
   ⟨5, 4096, 64, 9, store net 4096 1 9, by unfold InCredit; decide +kernel⟩,
   ⟨5, 0xFFFFFFF000, 4096, 0, net, by unfold InCredit; decide +kernel⟩,
   ⟨5, 4096, 64, 2, 4096, poisoned, by unfold InCredit; decide +kernel⟩,
   ⟨5, 4097, 4096, net, by unfold InCredit; decide +kernel⟩,
   ⟨5, 2 ^ 40, 1, net, by unfold InCredit; decide +kernel⟩,
   ⟨4095, 1, 0x1FF, net, _, ⟨(by unfold InCredit; decide +kernel), (by decide +kernel), (by decide +kernel), whole (by decide +kernel)⟩⟩,
   ⟨4100, 8, 5, 2, 4096, poisoned, _, ⟨(by unfold InCredit; decide +kernel), (by decide +kernel), (by decide +kernel), whole (by decide +kernel)⟩⟩,
   ⟨2 ^ 40, 8, 5, net, by unfold InCredit; decide +kernel⟩,
   ⟨0x200000, { net with hif := { net.hif with sidebandUp := 0xFFFF, sidebandModule := 0 } }, by decide +kernel⟩,
   ⟨0x10001C, 5, { net with hif := { net.hif with sidebandUp := 0xFFFF, sidebandModule := 0 } }, _, true, ⟨(by decide +kernel), (by decide +kernel), whole (by decide +kernel), (by decide +kernel)⟩⟩,
   ⟨0x4000000, .write 5, { net with hif := { net.hif with sidebandUp := 0xFFFF, sidebandModule := 0 } }, by decide +kernel⟩,
   ⟨0x10001C, 5, { net with hif := { net.hif with sidebandUp := 0xFFFF, sidebandModule := 0 } }, _, true, ⟨(by decide +kernel), (by decide +kernel), whole (by decide +kernel), (by decide +kernel)⟩⟩,
   ⟨5, 0x10001C, 4, net, by unfold InCredit; decide +kernel⟩⟩

theorem test_hypotheses_HostTrafficCompletes :
    (∃ (posted nonposted : BitVec 32) (s : State), mainbandOpen s = true) ∧
    (∃ (posted nonposted : BitVec 32) (q : Queued) (a n v status : Nat) (sw : Fin 16) (c : Current) (s : State), mainbandOpen s = true ∧ s.hif.queued = [q] ∧ q.packet = .hostWr a n v ∧ q.owner = some (recordOwner sw 8) ∧ q.packet.units ≤ min (rd s .hif Reg.hif.POSTED + posted.toNat) (2 ^ 16 - 1) ∧ (stair s sw).cur = some c ∧ c.stage = .recording status) ∧
    (∃ (type : BitVec 8) (units : Nat) (s : State), mainbandOpen s = true ∧ packetTypes.contains type.toNat = false) ∧
    (∃ (type : BitVec 8) (units : Nat) (s : State), mainbandOpen s = true ∧ packetTypes.contains type.toNat = false) ∧
    (∃ (tag : Nat) (r : HostRead) (pre post : List HostRead) (s : State), freeTag s = some tag ∧ s.hif.reads = pre ++ r :: post ∧ ((∀ q ∈ pre, q.tag ≠ none)) ∧ r.tag = none) ∧
    (∃ (tag : Nat) (r : HostRead) (pre post : List HostRead) (s : State), freeTag s = some tag ∧ s.hif.reads = pre ++ r :: post ∧ ((∀ q ∈ pre, q.tag ≠ none)) ∧ r.tag = none) ∧
    (∃ (tag : BitVec 10) (len v : Nat) (r : HostRead) (s : State), mainbandOpen s = true ∧ ohtLength len = true ∧ (s.hif.reads.find? fun q => q.tag == some tag.toNat) = some r ∧ r.len = len) ∧
    (∃ (tag : BitVec 10) (st : BitVec 4) (len v : Nat) (r : HostRead) (s : State), mainbandOpen s = true ∧ ohtLength len = true ∧ (s.hif.reads.find? fun q => q.tag == some tag.toNat) = some r ∧ r.len = len ∧ st ≠ 0 ∧ on s .hif Reg.hif.FAULT_INFO_VALID = false) ∧
    (∃ (tag : BitVec 10) (st : BitVec 4) (len v : Nat) (r : HostRead) (s : State), mainbandOpen s = true ∧ ohtLength len = true ∧ (s.hif.reads.find? fun q => q.tag == some tag.toNat) = some r ∧ r.len = len ∧ st ≠ 0 ∧ on s .hif Reg.hif.FAULT_INFO_VALID = false) ∧
    (∃ (tag : BitVec 10) (st : BitVec 4) (len v : Nat) (s : State), mainbandOpen s = true ∧ ohtLength len = true ∧ (s.hif.reads.find? fun q => q.tag == some tag.toNat) = none) ∧
    (∃ (tag : BitVec 10) (st : BitVec 4) (len v : Nat) (s : State), mainbandOpen s = true ∧ ohtLength len = true ∧ (s.hif.reads.find? fun q => q.tag == some tag.toNat) = none) ∧
    (∃ (tag : Fin 512) (s : State), readWaits s tag = true) ∧
    (∃ (tag : Fin 512) (r : HostRead) (s : State), (s.hif.reads.find? fun q => q.tag == some tag.val) = some r ∧ readWaits s tag = false) :=
  ⟨⟨7, 0xFFFFFFFF, net, by decide +kernel⟩,
   ⟨1, 0, { packet := .hostWr 64 32 5, owner := some (recordOwner 3 8), waited := true }, 64, 32, 5, 0, 3, { addr := 4096, img := ent 2 0 (2 ^ 63 + 64) 0 0 0 0, stage := .recording 0 }, { setStair net 3 { Stairwell.reset with state := .running, cur := some { addr := 4096, img := ent 2 0 (2 ^ 63 + 64) 0 0 0 0, stage := .recording 0 } } with hif := { net.hif with queued := [{ packet := .hostWr 64 32 5, owner := some (recordOwner 3 8), waited := true }] } }, by decide +kernel⟩,
   ⟨5, 3, net, by decide +kernel⟩,
   ⟨255, 0, net, by decide +kernel⟩,
   ⟨0, hread none, [], [hread none], asking [hread none, hread none], by decide +kernel⟩,
   ⟨1, hread none, [hread (some 0)], [], asking [hread (some 0), hread none], by decide +kernel⟩,
   ⟨4, 8, 0x1FFFFFFFFFFFFFFFF, hread (some 4), { asking [hread (some 4)] with stairs := [(3, { atEnt (ent 3 0 0 (2 ^ 63 + 64) 0 0 0) with wait := some wait0 })] }, by decide +kernel⟩,
   ⟨4, 1, 8, 0, hread (some 4), { asking [hread (some 4)] with stairs := [(3, { atEnt (ent 3 0 0 (2 ^ 63 + 64) 0 0 0) with wait := some wait0 })] }, by decide +kernel⟩,
   ⟨4, 15, 8, 0, hread (some 4), { asking [hread (some 4)] with stairs := [(3, { atEnt (ent 3 0 0 (2 ^ 63 + 64) 0 0 0) with wait := some wait0 })] }, by decide +kernel⟩,
   ⟨4, 0, 8, 0, { net with hif := { net.hif with retired := [4] } }, by decide +kernel⟩,
   ⟨1023, 0, 8, 0, net, by decide +kernel⟩,
   ⟨4, { asking [hread (some 4)] with hif := { (asking [hread (some 4)]).hif with queued := [{ packet := .hostRd 4 64 8, owner := none, waited := true }] } }, by decide +kernel⟩,
   ⟨4, hread (some 4), { asking [hread (some 4)] with stairs := [(3, { atEnt (ent 3 0 0 (2 ^ 63 + 64) 0 0 0) with wait := some wait0 })] }, by decide +kernel⟩⟩

theorem test_hypotheses_AttachmentAndDebugPortsComplete :
    (∃ (v : Fin 64) (signalled : Bool) (s : State), s.rst.held = false) ∧
    (∃ (v : Fin 64) (signalled : Bool) (s : State), s.rst.held = false) ∧
    (∃ (v : Fin 64) (signalled : Bool) (s : State), s.rst.held = false) ∧
    (∃ (m : Fin 16) (s : State), moduleActive s m = true ∧ rd s .hif Reg.hif.RETRAINING = 0) ∧
    (∃ (active sidebands : BitVec 16) (repaired : Bool) (s : State), rd s .hif Reg.hif.RETRAINING ≠ 0) ∧
    (∃ (active sidebands : BitVec 16) (repaired : Bool) (s : State), rd s .hif Reg.hif.RETRAINING ≠ 0) ∧
    (∃ (active sidebands : BitVec 16) (repaired : Bool) (s : State), rd s .hif Reg.hif.RETRAINING ≠ 0) ∧
    (∃ (m : Fin 16) (s : State), moduleActive s m = true ∧ rd s .hif Reg.hif.RETRAINING = 0) ∧
    (∃ s : State, phaseAtLeast s 2 = true ∧ rd s .hif Reg.hif.RETRAINING = 0) ∧
    (∃ s : State, s.hif.sidebandModule < 16) ∧
    (∃ s : State, s.hif.sidebandModule < 16) ∧
    (∃ (w : BitVec 32) (slow : Bool) (s : State), ((s.seb.state = 0 ∨ s.seb.state = 3 ∧ bit s.seb.debugMask 1 = true)) ∧ (slow = false ∨ s.jtag.mcWord = none)) ∧
    (∃ (w : BitVec 32) (slow : Bool) (s : State), ((s.seb.state = 0 ∨ s.seb.state = 3 ∧ bit s.seb.debugMask 1 = true)) ∧ (slow = false ∨ s.jtag.mcWord = none)) ∧
    (∃ (w : BitVec 32) (s : State), ((s.seb.state = 0 ∨ s.seb.state = 3 ∧ bit s.seb.debugMask 1 = true)) ∧ s.jtag.mcWord ≠ none) ∧
    (∃ (w : BitVec 32) (slow : Bool) (s : State), s.seb.state ≠ 0 ∧ ¬(s.seb.state = 3 ∧ bit s.seb.debugMask 1 = true)) ∧
    (∃ (w : BitVec 32) (slow : Bool) (s : State), s.seb.state ≠ 0 ∧ ¬(s.seb.state = 3 ∧ bit s.seb.debugMask 1 = true)) :=
  ⟨⟨63, true, net, by decide +kernel⟩,
   ⟨63, false, net, by decide +kernel⟩,
   ⟨0, true, net, by decide +kernel⟩,
   ⟨15, net, by decide +kernel⟩,
   ⟨0xFF00, 0xFFFF, true, poke net [(.hif, Reg.hif.RETRAINING, 1)], by decide +kernel⟩,
   ⟨0, 0, false, poke net [(.hif, Reg.hif.RETRAINING, 1)], by decide +kernel⟩,
   ⟨3, 2, false, poke up [(.hif, Reg.hif.RETRAINING, 1), (.hif, Reg.hif.POSTED, 9)], by decide +kernel⟩,
   ⟨15, net, by decide +kernel⟩,
   ⟨net, by decide +kernel⟩,
   ⟨{ net with hif := { net.hif with sidebandModule := 15, sidebandUp := 0xFFFF, sidebandLost := [14, 13, 12, 11, 10, 9, 8, 7, 6, 5, 4, 3, 2, 1, 0] } }, by decide +kernel⟩,
   ⟨{ net with hif := { net.hif with sidebandModule := 1, sidebandUp := 0xFFF2, sidebandLost := [] } }, by decide +kernel⟩,
   ⟨9, false, { net with seb := { net.seb with state := 0 } }, ⟨by decide +kernel, by decide +kernel⟩⟩,
   ⟨9, true, { net with seb := { net.seb with state := 3, debugMask := 2 } }, ⟨by decide +kernel, by decide +kernel⟩⟩,
   ⟨9, { net with seb := { net.seb with state := 0 }, jtag := { net.jtag with mcWord := some 5 } }, by decide +kernel⟩,
   ⟨9, true, { net with seb := { net.seb with state := 3, debugMask := 1 } }, by decide +kernel⟩,
   ⟨9, false, net, by decide +kernel⟩⟩

theorem test_hypotheses_GalleryServiceCompletes :
    (∃ (r : Report) (s : State), (s.fc.any (·.source == r.source.toNat)) = false ∧ s.fc.length < 512) ∧
    (∃ (r : Report) (s : State), (s.fc.any (·.source == r.source.toNat)) = false ∧ s.fc.length < 512) ∧
    (∃ (r : Report) (s : State), (s.fc.any (·.source == r.source.toNat)) = true) ∧
    (∃ (r : Report) (s : State), (s.fc.any (·.source == r.source.toNat)) = false ∧ 512 ≤ s.fc.length) ∧
    (∃ s : State, Reaches s .mainband .fc 0x044) ∧
    (∃ (r : Report) (s : State), Reaches s .mainband .fc 0x044) ∧
    (∃ (h : Fin 16) (g : Fin 17) (k : GalleryFault) (s : State), ready s = true ∧ ((k = .treadHang → (gal s h g).flight.isSome = true))) ∧
    (∃ (h : Fin 16) (g : Fin 17) (f : Flight) (r : TileReg) (ij : Nat × Nat) (rest : List (Nat × Nat)) (k : Ticket × Job)
    (gr : Group) (s : State), (gal s h g).flight = some f ∧ (gal s h g).resident = some r ∧ f.todo = ij :: rest ∧ ticketJob s h g f.serial = some k ∧ flightGroup (gal s h g) f = some gr) ∧
    (∃ (h : Fin 16) (g : Fin 17) (s : State), Reaches s .mainband (hallPage h) 0x048 ∧ drainLegal s h g = true) ∧
    (∃ (h : Fin 16) (g : Fin 17) (s : State), Reaches s .mainband (arrPage h g) 0x00C ∧ drainLegal s h g = true) ∧
    (∃ (h : Fin 16) (g : Fin 17) (s : State), Reaches s .mainband (hallPage h) 0x048 ∧ drainLegal s h g = false) ∧
    (∃ (h : Fin 16) (g : Fin 17) (s : State), Reaches s .mainband (hallPage h) 0x048 ∧ drainLegal s h g = false) ∧
    (∃ (h : Fin 16) (g : Fin 17) (target : Fin 32) (i : Nat) (s : State), Reaches s .mainband (hallPage h) 0x048 ∧ swapLegal s h g target = true ∧ logicalOf s h g = some i) ∧
    (∃ (h : Fin 16) (g : Fin 17) (target : Fin 32) (s : State), Reaches s .mainband (hallPage h) 0x048 ∧ swapLegal s h g target = false) ∧
    (∃ (h : Fin 16) (g : Fin 17) (target : Fin 32) (s : State), Reaches s .mainband (hallPage h) 0x048 ∧ swapLegal s h g target = false) ∧
    (∃ (h : Fin 16) (g : Fin 17) (target : Fin 32) (s : State), Reaches s .mainband (hallPage h) 0x048 ∧ swapLegal s h g target = false) ∧
    (∃ (h : Fin 16) (g : Fin 17) (s : State), Reaches s .mainband (hallPage h) 0x048 ∧ stopped s h g = true ∧ (logicalOf s h g).isSome = true ∧ (gal s h g).op = none) ∧
    (∃ (h : Fin 16) (g : Fin 17) (s : State), Reaches s .mainband (hallPage h) 0x048 ∧ stopped s h g = true ∧ (logicalOf s h g).isSome = true ∧ (gal s h g).op = none) ∧
    (∃ (h : Fin 16) (g : Fin 17) (s : State), Reaches s .mainband (arrPage h g) 0x00C ∧ stopped s h g = true ∧ (logicalOf s h g).isSome = true ∧ (gal s h g).op = none ∧ quiesced s h g = true) ∧
    (∃ (h : Fin 16) (g : Fin 17) (s : State), Reaches s .mainband (arrPage h g) 0x00C ∧ quiescent s h g = true ∧ outOfService s h g = true ∧ (gal s h g).op = none) ∧
    (∃ (h : Fin 16) (g : Fin 17) (s : State), (gal s h g).busy = true ∧ quiescent s h g = true) ∧
    (∃ (h : Fin 16) (g : Fin 17) (s : State), (gal s h g).scrub = some .waiting ∧ quiescent s h g = true ∧ (gal s h g).op = none) ∧
    (∃ (h : Fin 16) (g : Fin 17) (s : State), (gal s h g).scrub = some .waiting ∧ quiescent s h g = true ∧ (gal s h g).op = none) ∧
    (∃ (h : Fin 16) (g : Fin 17) (s : State), (gal s h g).scrub = some .filled) :=
  ⟨⟨{ source := 0x0102, code := 3, detail := 0xFFFFFFFF }, { up with fc := [{ source := 0x0103, code := 3, detail := 1, dups := 0 }] }, by decide +kernel⟩,
   ⟨{ source := 0x0102, code := 3, detail := 0xFFFFFFFF }, { up with fc := List.replicate 511 { source := 0x0103, code := 3, detail := 1, dups := 0 } }, by decide +kernel⟩,
   ⟨{ source := 0x0102, code := 3, detail := 0xFFFFFFFF }, { up with fc := [{ source := 0x0103, code := 3, detail := 1, dups := 0 }, { source := 0x0102, code := 3, detail := 1, dups := 65535 }] }, by decide +kernel⟩,
   ⟨{ source := 0x0102, code := 3, detail := 0xFFFFFFFF }, { up with fc := List.replicate 512 { source := 0x0103, code := 3, detail := 1, dups := 0 } }, by decide +kernel⟩,
   ⟨{ up with fc := List.replicate 512 { source := 0x0103, code := 3, detail := 1, dups := 0 } }, by unfold Reaches; decide +kernel⟩,
   ⟨{ source := 0x0102, code := 3, detail := 0xFFFFFFFF }, { up with fc := List.replicate 512 { source := 0x0103, code := 3, detail := 1, dups := 0 } }, by unfold Reaches; decide +kernel⟩,
   ⟨1, 2, .treadHang, inGal [jobRun desc0] { work desc0 with flight := some (fly []) }, ⟨by decide +kernel, fun _ => by decide +kernel⟩⟩,
   ⟨1, 2, fly [(0, 0)], tile0 head0, (0, 0), [], ({ tkt desc0 with panels := [(0, 1)] }, jobRun desc0), grp desc0, inGal [jobRun desc0] { work desc0 with flight := some (fly [(0, 0)]) }, by decide +kernel⟩,
   ⟨1, 2, inGal [jobRun desc0] (work desc0), by unfold Reaches; decide +kernel⟩,
   ⟨1, 2, inGal [jobRun desc0] (work desc0), by unfold Reaches; decide +kernel⟩,
   ⟨1, 16, up, by unfold Reaches; decide +kernel⟩,
   ⟨1, 2, still, by unfold Reaches; decide +kernel⟩,
   ⟨1, 2, 16, 2, still, by unfold Reaches; decide +kernel⟩,
   ⟨1, 2, 17, still, by unfold Reaches; decide +kernel⟩,
   ⟨1, 2, 16, inGal [jobRun desc0] (work desc0), by unfold Reaches; decide +kernel⟩,
   ⟨1, 2, 3, still, by unfold Reaches; decide +kernel⟩,
   ⟨1, 2, still, by unfold Reaches; decide +kernel⟩,
   ⟨1, 2, setGal up 1 2 { Gallery.reset with faulted := true }, by unfold Reaches; decide +kernel⟩,
   ⟨1, 2, still, by unfold Reaches; decide +kernel⟩,
   ⟨1, 16, setGal up 1 16 { Gallery.reset with mem := [(0, 9)], regFill := 7, groups := [{ grp desc0 with phase := .orphan }] }, by unfold Reaches; decide +kernel⟩,
   ⟨1, 2, setGal still 1 2 { Gallery.reset with busy := true }, by decide +kernel⟩,
   ⟨1, 2, setGal up 1 2 { Gallery.reset with scrub := some .waiting, mem := [(0, 9)] }, by decide +kernel⟩,
   ⟨1, 2, setStair (poke (setGal up 1 2 { Gallery.reset with scrub := some .waiting, mem := [(0, 9)] }) [(.stairwell 3, Reg.sw.SCRUB_VALUE, 5)]) 3 { Stairwell.reset with state := .killing, scrubbing := [19] }, by decide +kernel⟩,
   ⟨1, 2, setStair (setGal up 1 2 { Gallery.reset with scrub := some .filled, groups := [{ grp desc0 with phase := .orphan }] }) 3 { Stairwell.reset with state := .killing, scrubbing := [19, 20] }, by decide +kernel⟩⟩

theorem test_hypotheses_HallServiceCompletes :
    (∃ (h : Fin 16) (s : State), Reaches s .mainband (hallPage h) 0x044 ∧ hallOut s h = false) ∧
    (∃ (h : Fin 16) (s : State), Reaches s .mainband (hallPage h) 0x044 ∧ hallOut s h = true) ∧
    (∃ (h : Fin 16) (s : State), rd s (hallPage h) Reg.hall.RETIRING ≠ 0 ∧ (cache s h).walks.contains .retire = false ∧ ((∀ g < 17, (quiescent s h g || (gal s h g).faulted) = true)) ∧ NatMap.get? s.dressers h.val = none) ∧
    (∃ (h : Fin 16) (s : State), rd s (hallPage h) Reg.hall.RETIRING ≠ 0 ∧ (cache s h).walks.contains .retire = false ∧ ((∀ g < 17, (quiescent s h g || (gal s h g).faulted) = true)) ∧ NatMap.get? s.dressers h.val = none) ∧
    (∃ (h : Fin 16) (s : State), (cache s h).walks.contains .retire = true) ∧
    (∃ (rest : List RepairEvent) (s : State), mcRuns s = true ∧ s.mc.repairing = none ∧ s.mc.repairs = .report :: rest) ∧
    (∃ (h : Nat) (rest : List RepairEvent) (s : State), mcRuns s = true ∧ s.mc.repairing = none ∧ s.mc.repairs = .unswappable h :: rest) ∧
    (∃ (h : Nat) (rest : List RepairEvent) (s : State), mcRuns s = true ∧ s.mc.repairing = none ∧ s.mc.repairs = .unswappable h :: rest) ∧
    (∃ (h : Fin 16) (g : Fin 17) (resume : Bool) (s : State), mcRuns s = true ∧ s.mc.repairing = some (.rows h g resume) ∧ (gal s h g).rowQueue.any (spareFree (gal s h g)) = false ∧ (gal s h g).faulted = true) ∧
    (∃ (h w : Nat) (rest : List RepairEvent) (s : State), mcRuns s = true ∧ s.mc.repairing = none ∧ s.mc.repairs = .wayErrors h w :: rest ∧ walking s h = false ∧ wayOn s h w = true) ∧
    (∃ (h w : Nat) (rest : List RepairEvent) (s : State), mcRuns s = true ∧ s.mc.repairing = none ∧ s.mc.repairs = .wayErrors h w :: rest ∧ walking s h = false ∧ wayOn s h w = true) ∧
    (∃ (h : Fin 16) (g spare i : Nat) (rest : List RepairEvent) (s : State), mcRuns s = true ∧ s.mc.repairing = none ∧ s.mc.repairs = .galleryFault h g :: rest ∧ hallOut s h = false ∧ (gal s h g).faulted = true ∧ i < 16 ∧ logicalOf s h g = some i ∧ on s .mcService Reg.mcs.AUTO_SWAP = true ∧ spareGallery s h = some spare ∧ swapLegal s h g spare = true) ∧
    (∃ (h g : Nat) (s : State), mcRuns s = true ∧ s.mc.repairing = some (.swapOut h g) ∧ hallOut s h = true) :=
  ⟨⟨1, up, by unfold Reaches; decide +kernel⟩,
   ⟨1, poke up [(.hall 1, Reg.hall.RETIRING, 1)], by unfold Reaches; decide +kernel⟩,
   ⟨1, poke up [(.hall 1, Reg.hall.RETIRING, 1)], by decide +kernel⟩,
   ⟨1, setCache (poke up [(.hall 1, Reg.hall.RETIRING, 1)]) 1 { HallCache.reset with lines := [line0] }, by decide +kernel⟩,
   ⟨1, (setCache (poke up [(.hall 1, Reg.hall.RETIRING, 1)]) 1 { HallCache.reset with walks := [.retire] }), by decide +kernel⟩,
   ⟨[.report], (fun s : State => { s with mc := { s.mc with repairs := [.report, .report] } }) (up), by decide +kernel⟩,
   ⟨1, [], (fun s : State => { s with mc := { s.mc with repairs := [.unswappable 1] } }) (up), by decide +kernel⟩,
   ⟨1, [], (fun s : State => { s with mc := { s.mc with repairs := [.unswappable 1] } }) (poke up [(.hall 1, Reg.hall.RETIRED, 1)]), by decide +kernel⟩,
   ⟨1, 2, true, (fun s : State => { s with mc := { s.mc with repairing := some (.rows 1 2 true) } }) (setGal still 1 2 { Gallery.reset with faulted := true }), by decide +kernel⟩,
   ⟨1, 3, [], (fun s : State => { s with mc := { s.mc with repairs := [.wayErrors 1 3] } }) (poke up [(.mcService, Reg.mcs.AUTO_WAY, 1)]), by decide +kernel⟩,
   ⟨1, 3, [], (fun s : State => { s with mc := { s.mc with repairs := [.wayErrors 1 3] } }) (poke up [(.mcService, Reg.mcs.AUTO_WAY, 0)]), by decide +kernel⟩,
   ⟨1, 2, 16, 2, [.report], (fun s : State => { s with mc := { s.mc with repairs := [.galleryFault 1 2, .report] } }) (poke (setGal up 1 2 { Gallery.reset with faulted := true }) [(.mcService, Reg.mcs.AUTO_SWAP, 1)]), by decide +kernel⟩,
   ⟨1, 2, (fun s : State => { s with mc := { s.mc with repairing := some (.swapOut 1 2), repairs := [.report] } }) (poke up [(.hall 1, Reg.hall.RETIRING, 1)]), by decide +kernel⟩⟩

theorem test_hypotheses_FirmwareExchangeCompletes :
    (∃ (v : Nat) (s u : State), Reaches s .mainband .mcService 0x054 ∧ s.mc.switching = 0 ∧ sebBusy s = false ∧ inRecovery s = false ∧ rd s .mcService Reg.mcs.FW_ADDR % 64 = 0 ∧ isHost (rd s .mcService Reg.mcs.FW_ADDR) = false ∧ cmdWithin (rd s .mcService Reg.mcs.FW_ADDR) (rd s .mcService Reg.mcs.FW_LEN) = true ∧ rd s .mcService Reg.mcs.FW_LEN % 64 = 0 ∧ 64 ≤ rd s .mcService Reg.mcs.FW_LEN ∧ rd s .mcService Reg.mcs.FW_LEN ≤ 4194304 ∧ memRead (setImage { s with mc := { s.mc with previous := false } } (!s.mc.activeB)
      { inactive s with valid := false }) .mc
      (rd s .mcService Reg.mcs.FW_ADDR) (rd s .mcService Reg.mcs.FW_LEN) = (u, .ok v)) ∧
    (∃ s : State, Reaches s .mainband .mcService 0x054 ∧ s.mc.switching = 0 ∧ sebBusy s = false ∧ rd s .mcService Reg.mcs.FW_ADDR % 64 = 0 ∧ isHost (rd s .mcService Reg.mcs.FW_ADDR) = true ∧ cmdWithin (rd s .mcService Reg.mcs.FW_ADDR) (rd s .mcService Reg.mcs.FW_LEN) = true ∧ rd s .mcService Reg.mcs.FW_LEN % 64 = 0 ∧ 64 ≤ rd s .mcService Reg.mcs.FW_LEN ∧ rd s .mcService Reg.mcs.FW_LEN ≤ 4194304) ∧
    (∃ s : State, Reaches s .mainband .mcService 0x054 ∧ s.mc.switching = 0 ∧ sebBusy s = false ∧ ((rd s .mcService Reg.mcs.FW_ADDR % 64 ≠ 0
      ∨ cmdWithin (rd s .mcService Reg.mcs.FW_ADDR) (rd s .mcService Reg.mcs.FW_LEN) = false))) ∧
    (∃ s : State, Reaches s .mainband .mcService 0x054 ∧ s.mc.switching = 0 ∧ sebBusy s = false ∧ ((rd s .mcService Reg.mcs.FW_ADDR % 64 ≠ 0
      ∨ cmdWithin (rd s .mcService Reg.mcs.FW_ADDR) (rd s .mcService Reg.mcs.FW_LEN) = false))) ∧
    (∃ s : State, Reaches s .mainband .mcService 0x054 ∧ sebBusy s = true) ∧
    (∃ s : State, Reaches s .mainband .mcService 0x054 ∧ sebBusy s = false ∧ s.mc.switching ≠ 0) ∧
    (∃ (x : FwLoad) (s : State), s.mc.load = some x ∧ x.len ≤ x.got ∧ s.mc.held = []) ∧
    (∃ (x : FwLoad) (s : State), s.mc.load = some x ∧ x.len ≤ x.got ∧ imageVerdict s { bytes := x.bytes, len := x.len, valid := true } ≠ 0) ∧
    (∃ s : State, Reaches s .mainband .mcService 0x054 ∧ s.mc.switching = 0 ∧ (inactive s).valid = true ∧ s.mc.repairing = none) ∧
    (∃ s : State, ready s = true ∧ ((s.mc.switching ≠ 0 ∨ (inactive s).valid = false ∨ s.mc.repairing.isSome = true))) ∧
    (∃ s : State, ready s = true ∧ ((s.mc.switching ≠ 0 ∨ (inactive s).valid = false ∨ s.mc.repairing.isSome = true))) ∧
    (∃ s : State, Reaches s .mainband .mcService 0x054 ∧ s.mc.previous = false) ∧
    (∃ s : State, Reaches s .mainband .mcService 0x054 ∧ sebBusy s = true) ∧
    (∃ s : State, s.mc.switching = 1) ∧
    (∃ s : State, s.mc.switching = 2) ∧
    (∃ s : State, s.mc.switching = 2) ∧
    (∃ s : State, s.mc.switching = 2) :=
  ⟨⟨0, poke (up) [(.mcService, Reg.mcs.FW_ADDR, 0x8000), (.mcService, Reg.mcs.FW_LEN, 64)], _, ⟨(by unfold Reaches; decide +kernel), (by decide +kernel), (by decide +kernel), (by decide +kernel), (by decide +kernel), (by decide +kernel), (by decide +kernel), (by decide +kernel), (by decide +kernel), (by decide +kernel), whole (by decide +kernel)⟩⟩,
   ⟨poke net [(.mcService, Reg.mcs.FW_ADDR, 2 ^ 63 + 4096), (.mcService, Reg.mcs.FW_LEN, 4194304)], by unfold Reaches; decide +kernel⟩,
   ⟨poke (up) [(.mcService, Reg.mcs.FW_ADDR, 0x8001), (.mcService, Reg.mcs.FW_LEN, 64)], ⟨by unfold Reaches; decide +kernel, by decide +kernel, by decide +kernel, Or.inl (by decide +kernel)⟩⟩,
   ⟨poke (up) [(.mcService, Reg.mcs.FW_ADDR, 2 ^ 40 - 64), (.mcService, Reg.mcs.FW_LEN, 128)], ⟨by unfold Reaches; decide +kernel, by decide +kernel, by decide +kernel, Or.inr (by decide +kernel)⟩⟩,
   ⟨{ up with seb := { (up).seb with run := some { cmd := 5, target := 0, result := 0 } } }, by unfold Reaches; decide +kernel⟩,
   ⟨withMc (up) { (up).mc with switching := 1 }, by unfold Reaches; decide +kernel⟩,
   ⟨{ addr := 0x8000, len := 64, asked := 64, got := 64, bytes := 5 }, withMc (up) { (up).mc with load := some { addr := 0x8000, len := 64, asked := 64, got := 64, bytes := 5 } }, by decide +kernel⟩,
   ⟨{ addr := 0x8000, len := 64, asked := 64, got := 64, bytes := 5 }, withMc (up) { (up).mc with load := some { addr := 0x8000, len := 64, asked := 64, got := 64, bytes := 5 } }, by decide +kernel⟩,
   ⟨withMc (up) { (up).mc with imageB := image0, previous := true }, by unfold Reaches; decide +kernel⟩,
   ⟨up, ⟨by decide +kernel, Or.inr (Or.inl (by decide +kernel))⟩⟩,
   ⟨withMc (up) { (up).mc with imageB := image0, switching := 2, previous := true }, ⟨by decide +kernel, Or.inl (by decide +kernel)⟩⟩,
   ⟨up, by unfold Reaches; decide +kernel⟩,
   ⟨{ up with seb := { (up).seb with run := some { cmd := 5, target := 0, result := 0 } } }, by unfold Reaches; decide +kernel⟩,
   ⟨withMc (up) { (up).mc with switching := 1 }, by decide +kernel⟩,
   ⟨withMc (up) { (up).mc with switching := 2 }, by decide +kernel⟩,
   ⟨withMc (up) { (up).mc with switching := 2, activeB := true }, by decide +kernel⟩,
   ⟨withMc (up) { (up).mc with switching := 2, imageB := image0 }, by decide +kernel⟩⟩

theorem test_hypotheses_SecurityCommandsComplete :
    (∃ s : State, Reaches s .mainband .seb 0x044) ∧
    (∃ s : State, Reaches s .mainband .seb 0x044) ∧
    (∃ (nonce : Nat) (s u w : State), SebTakes s .mainband ∧ s.seb.state ≠ 0 ∧ s.seb.state ≠ 4 ∧ argLegal s 576 = true ∧ memRead { s with seb := { s.seb with reports := min (s.seb.reports + 1) (2 ^ 64 - 1) } } .seb (argAddr s) 32
      = (u, .ok nonce) ∧ sebWrite (draw u).2 (argAddr u + 64) 512 (osToImage (signedReport (draw u).2 nonce (draw u).1)) = (w, true)) ∧
    (∃ s : State, SebTakes s .mainband ∧ ((s.seb.state = 0 ∨ s.seb.state = 4))) ∧
    (∃ s : State, SebTakes s .mainband ∧ s.seb.state ≠ 0 ∧ s.seb.state ≠ 4 ∧ argLegal s 576 = false) ∧
    (∃ s : State, SebTakes s .mainband ∧ s.seb.state ≠ 0 ∧ s.seb.state ≠ 4 ∧ argLegal s 576 = false) ∧
    (∃ (path : Path) (target : BitVec 3) (s : State), SebTakes s path ∧ moveLegal path s.seb.state target.toNat = true ∧ needsToken s.seb.state = false) ∧
    (∃ (path : Path) (target : BitVec 3) (s : State), SebTakes s path ∧ moveLegal path s.seb.state target.toNat = true ∧ needsToken s.seb.state = false) ∧
    (∃ (path : Path) (target : BitVec 3) (s : State), SebTakes s path ∧ moveLegal path s.seb.state target.toNat = true ∧ needsToken s.seb.state = false) ∧
    (∃ (path : Path) (target : BitVec 3) (s : State), SebTakes s path ∧ moveLegal path s.seb.state target.toNat = true ∧ needsToken s.seb.state = false) ∧
    (∃ (path : Path) (target : BitVec 3) (also : List ResetCause) (s : State), SebTakes s path ∧ moveLegal path s.seb.state target.toNat = true ∧ needsToken s.seb.state = false) ∧
    (∃ (path : Path) (target : BitVec 3) (tok : Nat) (s u : State), SebTakes s path ∧ moveLegal path s.seb.state target.toNat = true ∧ needsToken s.seb.state = true ∧ argLegal s 960 = true ∧ memRead s .seb (argAddr s) 960 = (u, .ok tok)) ∧
    (∃ (path : Path) (target : BitVec 3) (s : State), SebTakes s path ∧ moveLegal path s.seb.state target.toNat = false) ∧
    (∃ (path : Path) (target : BitVec 3) (s : State), SebTakes s path ∧ moveLegal path s.seb.state target.toNat = false) ∧
    (∃ (path : Path) (target : BitVec 3) (s : State), SebTakes s path ∧ moveLegal path s.seb.state target.toNat = false) ∧
    (∃ s : State, SebTakes s .mainband ∧ inRecovery s = false) ∧
    (∃ s : State, SebTakes s .mainband ∧ s.seb.state = 3) ∧
    (∃ s : State, SebTakes s .mainband ∧ s.seb.state ≠ 3) ∧
    (∃ (n v : Nat) (s u w : State), SebTakes s .mainband ∧ s.seb.state = 1 ∧ s.seb.cert = none ∧ argLegal s 4 = true ∧ memRead s .seb (argAddr s) 4 = (u, .ok n) ∧ 1 ≤ n ∧ n ≤ 4096 ∧ argLegal u (64 + n) = true ∧ memRead u .seb (argAddr u + 64) n = (w, .ok v)) ∧
    (∃ s : State, SebTakes s .mainband ∧ ((s.seb.state ≠ 1 ∨ s.seb.cert.isSome = true))) ∧
    (∃ s : State, SebTakes s .mainband ∧ ((s.seb.state ≠ 1 ∨ s.seb.cert.isSome = true))) ∧
    (∃ (r : SebRun) (s : State), s.seb.run = some r ∧ r.result < 2 ^ Reg.seb.RESULT.width) ∧
    (∃ s : State, Reaches s .mainband .seb 0x044 ∧ ((sebBusy s = true ∨ s.mc.switching ≠ 0))) :=
  ⟨⟨up, by unfold Reaches; decide +kernel⟩,
   ⟨{ up with seb := { up.seb with run := some { cmd := 5, target := 0, result := 3 } } }, by unfold Reaches; decide +kernel⟩,
   ⟨0, att, attRead.1, attWrite.1, ⟨by unfold SebTakes Reaches; decide +kernel, by decide +kernel, by decide +kernel, by decide +kernel, attRead_ok, attWrite_ok⟩⟩,
   ⟨sebAt 4, ⟨by unfold SebTakes Reaches; decide +kernel, Or.inr (by decide +kernel)⟩⟩,
   ⟨poke (up) [(.seb, Reg.seb.ARG_ADDR, 0x8001)], by unfold SebTakes Reaches; decide +kernel⟩,
   ⟨poke (up) [(.seb, Reg.seb.ARG_ADDR, 2 ^ 40 - 512)], by unfold SebTakes Reaches; decide +kernel⟩,
   ⟨.sideband, 1, sebAt 0, by unfold SebTakes Reaches; decide +kernel⟩,
   ⟨.mainband, 4, up, by unfold SebTakes Reaches; decide +kernel⟩,
   ⟨.mainband, 2, up, by unfold SebTakes Reaches; decide +kernel⟩,
   ⟨.mainband, 2, sebAt 3, by unfold SebTakes Reaches; decide +kernel⟩,
   ⟨.mainband, 4, [.sag, .powerOn], up, by unfold SebTakes Reaches; decide +kernel⟩,
   ⟨.mainband, 3, 0, poke (sebAt 2) [(.seb, Reg.seb.ARG_ADDR, 0x8000)], _, ⟨(by unfold SebTakes Reaches; decide +kernel), (by decide +kernel), (by decide +kernel), (by decide +kernel), whole (by decide +kernel)⟩⟩,
   ⟨.mainband, 1, sebAt 0, by unfold SebTakes Reaches; decide +kernel⟩,
   ⟨.mainband, 3, up, by unfold SebTakes Reaches; decide +kernel⟩,
   ⟨.sideband, 0, sebAt 2, by unfold SebTakes Reaches; decide +kernel⟩,
   ⟨withMc (up) { (up).mc with imageA := { bytes := 2 ^ 37, len := 1088, valid := true } }, by unfold SebTakes Reaches; decide +kernel⟩,
   ⟨sebAt 3, by unfold SebTakes Reaches; decide +kernel⟩,
   ⟨up, by unfold SebTakes Reaches; decide +kernel⟩,
   ⟨5, 0, { store (poke (sebAt 1) [(.seb, Reg.seb.ARG_ADDR, 0x8000)]) 0x8000 1 5 with seb := { up.seb with state := 1, cert := none } }, _, _, ⟨(by unfold SebTakes Reaches; decide +kernel), (by decide +kernel), (by decide +kernel), (by decide +kernel), whole (by decide +kernel), (by decide +kernel), (by decide +kernel), (by decide +kernel), whole (by decide +kernel)⟩⟩,
   ⟨sebAt 2, ⟨by unfold SebTakes Reaches; decide +kernel, Or.inl (by decide +kernel)⟩⟩,
   ⟨up, ⟨by unfold SebTakes Reaches; decide +kernel, Or.inr (by decide +kernel)⟩⟩,
   ⟨{ cmd := 5, target := 0, result := 3 }, { up with seb := { up.seb with run := some { cmd := 5, target := 0, result := 3 } } }, by decide +kernel⟩,
   ⟨{ up with seb := { up.seb with run := some { cmd := 5, target := 0, result := 3 } } }, ⟨by unfold Reaches; decide +kernel, Or.inl (by decide +kernel)⟩⟩⟩

theorem test_hypotheses_ResetsComplete :
    (∃ (ns : Nat) (accepted : Bool) (also : List ResetCause) (s : State), (1000 ≤ ns ∨ (500 ≤ ns ∧ accepted = true))) ∧
    (∃ (ns : Nat) (accepted : Bool) (also : List ResetCause) (s : State), (1000 ≤ ns ∨ (500 ≤ ns ∧ accepted = true))) ∧
    (∃ (ns : Nat) (accepted : Bool) (also : List ResetCause) (s : State), ns < 500) ∧
    (∃ (ns : Nat) (accepted : Bool) (also : List ResetCause) (s : State), ns < 500) ∧
    (∃ (v : BitVec 32) (also : List ResetCause) (s : State), Reaches s .mainband .reset 0x04C ∧ v.toNat % 2 ^ 16 = 0x5A17) ∧
    (∃ (v : BitVec 32) (also : List ResetCause) (s : State), Reaches s .mainband .reset 0x04C ∧ v.toNat % 2 ^ 16 = 0x5A17) ∧
    (∃ (v : BitVec 32) (s : State), Reaches s .mainband .reset 0x04C ∧ v.toNat % 2 ^ 16 ≠ 0x5A17 ∧ v.toNat % 2 ^ 16 ≠ 0) ∧
    (∃ (cs : List ResetCause) (i j : Nat), i < j ∧ j < 5 ∧ ([1, 2, 4, 5, 3].getD i 0) ∈ cs.map causeCode) ∧
    (∃ (c : ResetCause) (straps : Straps) (s : State), ((∀ h, c ≠ .thermal h))) ∧
    (∃ (c : ResetCause) (straps : Straps) (s : State), ((∀ h, c ≠ .thermal h))) ∧
    (∃ s : State, s.rst.held = false ∧ sequenceRuns s = false) :=
  ⟨⟨1000, false, [.thermal 3, .sag], net, by decide +kernel⟩,
   ⟨500, true, [], net, by decide +kernel⟩,
   ⟨499, true, [], net, by decide +kernel⟩,
   ⟨499, true, [.host, .powerOn], net, by decide +kernel⟩,
   ⟨0x5A17, [], net, by unfold Reaches; decide +kernel⟩,
   ⟨0x5A17, [.pin], net, by unfold Reaches; decide +kernel⟩,
   ⟨0x5A16, net, by unfold Reaches; decide +kernel⟩,
   ⟨[.host, .sag], 2, 4, by decide +kernel⟩,
   ⟨.powerOn, { pmaddr := 5, refterm := true, testEn := false }, { net with rst := { net.rst with holding := [1] } }, by decide +kernel⟩,
   ⟨.pin, { pmaddr := 5, refterm := true, testEn := false }, { net with rst := { net.rst with holding := [1, 2] } }, by decide +kernel⟩,
   ⟨net, by decide +kernel⟩⟩

theorem test_hypotheses_BringUpCompletes :
    (∃ s : State, inPhase s 1 = true) ∧
    (∃ s : State, inPhase s 2 = true ∧ on s .reset Reg.rst.RECOVERY = false) ∧
    (∃ s : State, inPhase s 2 = true ∧ on s .reset Reg.rst.RECOVERY = false) ∧
    (∃ s : State, inPhase s 3 = true) ∧
    (∃ (h ch lane spare : Nat) (s : State), inPhase s 3 = true ∧ h < 16 ∧ ch < 64 ∧ lane < 288 ∧ spare < 4 ∧ bit (spareMask (dram s h) ch) spare = true ∧ s.mc.record = [5 + h * 2 ^ 4 + (ch + lane * 2 ^ 6 + spare * 2 ^ 15) * 2 ^ 32]) ∧
    (∃ s : State, inPhase s 4 = true) ∧
    (∃ s : State, inPhase s 4 = true) ∧
    (∃ (failures : List SelfTest) (s : State), inPhase s 5 = true) ∧
    (∃ (failures : List SelfTest) (s : State), inPhase s 5 = true) ∧
    (∃ s : State, inPhase s 5 = true ∧ s.mc.repairs = []) ∧
    (∃ (h : Fin 16) (g : Fin 17) (m : GMem) (bank row ce ue : Nat) (s : State), inPhase s 5 = true ∧ s.mc.repairs = [] ∧ m ≠ .skipMap ∧ rd s (hallPage h) Reg.hall.RETIRED = 0 ∧ bank < memBanks (gmemNum m) ∧ row * memBanks (gmemNum m) < memCourses (gmemNum m) ∧ 1 ≤ ue) :=
  ⟨⟨phase 1, by decide +kernel⟩,
   ⟨phase 2, by decide +kernel⟩,
   ⟨withMc (phase 2) { Mc.reset with imageA := { bytes := 1, len := 1088, valid := false }, imageB := { bytes := 1, len := 1088, valid := false } }, by decide +kernel⟩,
   ⟨poke (phase 3) [(.link 2, Reg.lnk.TRAIN_EN, 1)], by decide +kernel⟩,
   ⟨15, 63, 287, 3, withMc (setDram (phase 3) 15 { Stack.reset with dataSpares := [(63, 8)] }) { Mc.reset with record := [5 + 15 * 2 ^ 4 + (63 + 287 * 2 ^ 6 + 3 * 2 ^ 15) * 2 ^ 32] }, by decide +kernel⟩,
   ⟨phase 4, by decide +kernel⟩,
   ⟨setDram (phase 4) 15 { Stack.reset with dataSpares := [(63, 255)] }, by decide +kernel⟩,
   ⟨[.way 1 23, .gallery 2 16], { phase 5 with dram := [(5, 1)] }, by decide +kernel⟩,
   ⟨[], phase 5, by decide +kernel⟩,
   ⟨phase 5, by decide +kernel⟩,
   ⟨15, 16, .landing, 3, 5, 0, 7, phase 5, by decide +kernel⟩⟩

theorem test_hypotheses_StepRunsTheFrontCommand :
    (∃ (c : Instr) (rest : List Instr) (s : State), s.pending = c :: rest) ∧
    (∃ s : State, s.pending = []) :=
  ⟨⟨.halt 3, [.nop], { up with pending := [.halt 3, .nop] }, rfl⟩,
   ⟨net, rfl⟩⟩

theorem test_hypotheses_CommandsLeaveTheQueue :
    (∃ (c : Instr) (s t : State), exec c s = .next t) ∧
    (∃ s t : State, step s = .next t) :=
  ⟨⟨.halt 3, queued .nop up, ran (.halt 3) (queued .nop up), exec_after (by decide +kernel)⟩,
   ⟨queued (.halt 3) up, stepped (queued (.halt 3) up), step_stepped (by decide +kernel)⟩⟩

theorem test_hypotheses_OnlyAnAbsoluteMaximumStops :
    (∃ (c : Instr) (s : State), ((∀ x, c = .powerLoopPeriod x → Sensors.beyond x = false)) ∧ ((∀ k n x, c = .timerCalibrationDone k n (some (.loop x)) → k = .loop → Sensors.beyond x = false))) ∧
    (∃ (c : Instr) (s : State), ((∀ x, c = .powerLoopPeriod x → Sensors.beyond x = false)) ∧ ((∀ k n x, c = .timerCalibrationDone k n (some (.loop x)) → k = .loop → Sensors.beyond x = false))) ∧
    (∃ (x : Sensors) (n : Nat) (s : State), Sensors.beyond x = true) :=
  ⟨⟨.halt 3, up, ⟨(fun x h => nomatch h), (fun k n x h => nomatch h)⟩⟩,
   ⟨.timerCalibrationDone .sag 5 (some (.loop hot)), up, ⟨(fun x h => nomatch h), (fun k n x h hk => by cases h; cases hk)⟩⟩,
   ⟨hot, 5, up, by decide +kernel⟩⟩

theorem test_hypotheses_StepKeepsTheForm :
    (∃ s t : State, s.wf = true ∧ step s = .next t) :=
  ⟨queued (.registerWrite .mainband (.stairwell 3) 0x010 ⟨7, 0, none⟩) up, stepped (queued (.registerWrite .mainband (.stairwell 3) 0x010 ⟨7, 0, none⟩) up), ⟨by decide +kernel, step_stepped (by decide +kernel)⟩⟩

theorem test_hypotheses_ResetLeavesTheTables :
    (∃ (h : Fin 16) (i : Nat), i < 16) ∧
    (∃ (p : Page) (f : Fld) (a : Acc), (f, a) ∈ p.rows ∧ p ≠ .reset) :=
  ⟨⟨15, 15, by decide +kernel⟩,
   ⟨.hif, Reg.hif.CPL_TIMEOUT_US, .rw, by decide +kernel⟩⟩

theorem test_hypotheses_MemoryFrame :
    (∃ (c : Instr) (s t : State), c.mayStore = false ∧ exec c s = .next t) :=
  ⟨.calNow, up, ran .calNow up, ⟨rfl, exec_after (by decide +kernel)⟩⟩

theorem test_hypotheses_WorkFrame :
    (∃ (c : Instr) (s t : State), exec c s = .next t) :=
  ⟨.calNow, up, ran .calNow up, exec_after (by decide +kernel)⟩

theorem test_hypotheses_DeviceFrame :
    (∃ (c : Instr) (s t : State), exec c s = .next t) :=
  ⟨.calNow, up, ran .calNow up, exec_after (by decide +kernel)⟩

theorem test_hypotheses_ServiceFrame :
    (∃ (c : Instr) (s t : State), exec c s = .next t) :=
  ⟨.calNow, up, ran .calNow up, exec_after (by decide +kernel)⟩

theorem test_hypotheses_RegisterFrame :
    (∃ (c : Instr) (s t : State), c.mayLatch = false ∧ exec c s = .next t) ∧
    (∃ (page q : Page) (v : BitVec 32) (f : Fld) (a : Acc) (s t : State), (f, a) ∈ q.rows ∧ statePermits s .mainband page = true ∧ (q ≠ page ∨ f ≠ Reg.hdr.STICKY) ∧ exec (.stickyClear page v 0) s = .next t) ∧
    (∃ (page q : Page) (v : BitVec 32) (f : Fld) (a : Acc) (s t : State), (f, a) ∈ q.rows ∧ statePermits s .mainband page = true ∧ (q ≠ page ∨ f ≠ Reg.hdr.STICKY) ∧ exec (.stickyClear page v 0) s = .next t) ∧
    (∃ (page q : Page) (v : BitVec 32) (f : Fld) (a : Acc) (s t : State), (f, a) ∈ q.rows ∧ statePermits s .mainband page = true ∧ (q ≠ page ∨ f ≠ Reg.hdr.STICKY_MASK page) ∧ exec (.stickyMaskWrite page v 0) s = .next t) ∧
    (∃ (page q : Page) (e : Bool) (f : Fld) (a : Acc) (s t : State), (f, a) ∈ q.rows ∧ statePermits s .mainband page = true ∧ (q ≠ page.home ∨ f ≠ Reg.hdr.CONTROL_ENABLE) ∧ exec (.controlEnableWrite page e 0) s = .next t) ∧
    (∃ (page q : Page) (g f : Fld) (a : Acc) (s t : State), (f, a) ∈ q.rows ∧ latchBit page = some g ∧ statePermits s .mainband page = true ∧ (q ≠ page ∨ f ≠ g) ∧ exec (.faultLatchRelease ⟨page, false⟩) s = .next t) ∧
    (∃ (page q : Page) (off : BitVec 12) (f : Fld) (a : Acc) (s t : State), (f, a) ∈ q.rows ∧ statePermits s .mainband page = true ∧ ((q ≠ page ∨ ∀ c ∈ page.clears, c.1 = off.toNat → ∀ r ∈ c.2.2, f.off < r.1 ∨ r.2 < f.off)) ∧ exec (.counterClear page off []) s = .next t) ∧
    (∃ (page q : Page) (off : BitVec 12) (s t : State), statePermits s .mainband page = true ∧ ((q.base ≠ page.base ∨ ∀ c ∈ page.clears, c.1 = off.toNat → ∀ r ∈ c.2.2, ∀ o, holdOff page = some o → o < r.1 ∨ r.2 < o)) ∧ exec (.counterClear page off []) s = .next t) ∧
    (∃ (path : Path) (page : Page) (off : BitVec 12) (e : Bool) (s t : State), exec (.rcFieldRead path page off e) s = .next t) ∧
    (∃ (path : Path) (page q : Page) (f : Fld) (a : Acc) (s t : State), (f, a) ∈ q.rows ∧ (q ≠ page ∨ f ≠ Reg.hdr.READBACK_SEL_INDEX) ∧ exec (.readbackDataRead path page) s = .next t) ∧
    (∃ (path : Path) (page : Page) (off : BitVec 12) (s t : State), (exec (.pairLowRead path page off) s = .next t ∨ exec (.pairHighRead path page off) s = .next t)) ∧
    (∃ (c : Instr) (s t : State), (c ∈ [Instr.jtagTapReset, .sidebandFailover, .fwSwitchBegin]
      ∨ (c = .calNow ∧ statePermits s .mainband .mcPower = true) ∨ (∃ x, c = .calIntervalExpiry x)
      ∨ (∃ x, c = .vcoreBelowVwarn x) ∨ (∃ x, c = .vcoreAboveVwarn x) ∨ (∃ x, c = .waitWordWake x)
      ∨ (∃ x, c = .waitWordPollTimer x) ∨ (∃ h g, c = .scrubFill h g) ∨ (∃ h g, c = .scrubFillDone h g)
      ∨ (∃ x, c = .ticketFetchRequest x) ∨ (∃ x, c = .unitFinish x) ∨ (∃ h g, c = .convert h g)
      ∨ (∃ x, c = .refreshWindow x) ∨ (∃ x, c = .resetRelease x) ∨ (∃ x, c = .jtagInstructionUpdate x)
      ∨ (∃ x, c = .retiredTagRelease x) ∨ (∃ x, c = .mcDebugPortAccess x)) ∧ exec c s = .next t) ∧
    (∃ (c : Instr) (s t : State), (c ∈ [Instr.jtagTapReset, .sidebandFailover, .fwSwitchBegin]
      ∨ (c = .calNow ∧ statePermits s .mainband .mcPower = true) ∨ (∃ x, c = .calIntervalExpiry x)
      ∨ (∃ x, c = .vcoreBelowVwarn x) ∨ (∃ x, c = .vcoreAboveVwarn x) ∨ (∃ x, c = .waitWordWake x)
      ∨ (∃ x, c = .waitWordPollTimer x) ∨ (∃ h g, c = .scrubFill h g) ∨ (∃ h g, c = .scrubFillDone h g)
      ∨ (∃ x, c = .ticketFetchRequest x) ∨ (∃ x, c = .unitFinish x) ∨ (∃ h g, c = .convert h g)
      ∨ (∃ x, c = .refreshWindow x) ∨ (∃ x, c = .resetRelease x) ∨ (∃ x, c = .jtagInstructionUpdate x)
      ∨ (∃ x, c = .retiredTagRelease x) ∨ (∃ x, c = .mcDebugPortAccess x)) ∧ exec c s = .next t) :=
  ⟨⟨.calNow, up, ran (.calNow) (up), ⟨rfl, exec_after (by decide +kernel)⟩⟩,
   ⟨.hif, .hif, 5, Reg.hif.CPL_TIMEOUT_US, .rw, up, ran (.stickyClear .hif 5 0) (up), ⟨by decide +kernel, by decide +kernel, Or.inr (by decide +kernel), exec_after (by decide +kernel)⟩⟩,
   ⟨.hif, .stairwell 3, 5, Reg.sw.LIST_ADDR, .rw, up, ran (.stickyClear .hif 5 0) (up), ⟨by decide +kernel, by decide +kernel, Or.inl (by decide +kernel), exec_after (by decide +kernel)⟩⟩,
   ⟨.hif, .hif, 5, Reg.hif.CPL_TIMEOUT_US, .rw, up, ran (.stickyMaskWrite .hif 5 0) (up), ⟨by decide +kernel, by decide +kernel, Or.inr (by decide +kernel), exec_after (by decide +kernel)⟩⟩,
   ⟨.ve 3 4, .hif, true, Reg.hif.CPL_TIMEOUT_US, .rw, up, ran (.controlEnableWrite (.ve 3 4) true 0) (up), ⟨by decide +kernel, by decide +kernel, Or.inl (by decide +kernel), exec_after (by decide +kernel)⟩⟩,
   ⟨.hif, .hif, Reg.hif.FAULT_INFO_VALID, Reg.hif.CPL_TIMEOUT_US, .rw, up, ran (.faultLatchRelease ⟨.hif, false⟩) (up), ⟨by decide +kernel, rfl, by decide +kernel, Or.inr (by decide +kernel), exec_after (by decide +kernel)⟩⟩,
   ⟨.stairwell 0, .hif, 0x078, Reg.hif.CPL_TIMEOUT_US, .rw, poke up [(.stairwell 0, Reg.sw.ENTRIES, 5)], ran (.counterClear (.stairwell 0) 0x078 []) (poke up [(.stairwell 0, Reg.sw.ENTRIES, 5)]), ⟨by decide +kernel, by decide +kernel, Or.inl (by decide +kernel), exec_after (by decide +kernel)⟩⟩,
   ⟨.hif, .stack 3, 0x0A8, { poke up [(.hif, Reg.hif.CREDIT_WAIT, 5)] with fifoHolds := [(Page.hif.base, 9), ((Page.stack 3).base, 4)] }, ran (.counterClear .hif 0x0A8 []) ({ poke up [(.hif, Reg.hif.CREDIT_WAIT, 5)] with fifoHolds := [(Page.hif.base, 9), ((Page.stack 3).base, 4)] }), ⟨by decide +kernel, Or.inl (by decide +kernel), exec_after (by decide +kernel)⟩⟩,
   ⟨.mainband, .hall 0, 0x090, true, up, ran (.rcFieldRead .mainband (.hall 0) 0x090 true) (up), exec_after (by decide +kernel)⟩,
   ⟨.mainband, .dispatcher, .hif, Reg.hif.CPL_TIMEOUT_US, .rw, up, ran (.readbackDataRead .mainband .dispatcher) (up), ⟨by decide +kernel, Or.inl (by decide +kernel), exec_after (by decide +kernel)⟩⟩,
   ⟨.mainband, .stairwell 15, 0x048, up, ran (.pairLowRead .mainband (.stairwell 15) 0x048) (up), Or.inl (exec_after (by decide +kernel))⟩,
   ⟨.calNow, up, ran (.calNow) (up), ⟨Or.inr (Or.inl ⟨rfl, by decide +kernel⟩), exec_after (by decide +kernel)⟩⟩,
   ⟨.fwSwitchBegin, up, ran (.fwSwitchBegin) (up), ⟨Or.inl (by decide +kernel), exec_after (by decide +kernel)⟩⟩⟩

theorem test_hypotheses_CountersSaturate :
    (∃ (type : BitVec 8) (units : Nat) (s : State), mainbandOpen s = true ∧ packetTypes.contains type.toNat = false ∧ rd s .hif Reg.hif.BAD_PACKETS = 2 ^ 32 - 1) :=
  ⟨0x7F, 0, poke net [(.hif, Reg.hif.BAD_PACKETS, 2 ^ 32 - 1)], by decide +kernel⟩

theorem test_hypotheses_NoEventIsLostToAClear :
    (∃ (page : Page) (v hw : BitVec 32) (b : Nat) (s : State), s.rst.held = false ∧ b < 32 ∧ bit page.stickyBits b = true ∧ bit hw.toNat b = true) ∧
    (∃ (path : Path) (page : Page) (off : BitVec 12) (v hw : BitVec 32) (f : Fld) (s : State), s.rst.held = false ∧ off ≠ 0x018 ∧ f ∈ w1cFields page off.toNat ∧ f.width = 1 ∧ bit hw.toNat f.lsb = true) ∧
    (∃ (page : Page) (f : Fld) (s : State), latchBit page = some f ∧ s.rst.held = false) ∧
    (∃ (page : Page) (off e : BitVec 12) (n : Nat) (rs : List (Nat × Nat)) (f : Fld) (a : Acc) (r : Nat × Nat) (s : State), Reaches s .mainband page off.toNat ∧ page.clears.find? (fun c => c.1 == off.toNat) = some (off.toNat, n, rs) ∧ r ∈ rs ∧ page.rows.find? (fun x => x.1.off == e.toNat) = some (f, a) ∧ r.1 ≤ e.toNat ∧ e.toNat ≤ r.2) ∧
    (∃ (path : Path) (page : Page) (off ctl : BitVec 12) (f : Fld) (a : Acc) (w : Nat) (s : State), 4 ≤ off.toNat ∧ storedPair page (off.toNat - 4) = some (f, a) ∧ NatMap.get? s.latches (pairKey path page f) = some w) :=
  ⟨⟨.hif, 0xFFFFFFFF, 2, 1, up, by decide +kernel⟩,
   ⟨.mainband, .stairwell 15, 0x008, 0xFFFFFFFF, 0xFFFFFFFF, Reg.hdr.STATE_ERR, poke up [(.stairwell 15, Reg.hdr.STATE_ERR, 1)], by decide +kernel⟩,
   ⟨.hif, Reg.hif.FAULT_INFO_VALID, poke up [(.hif, Reg.hif.FAULT_INFO_VALID, 1)], by decide +kernel⟩,
   ⟨.stairwell 0, 0x078, 0x064, 0, [(0x064, 0x074)], Reg.sw.ENTRIES, .ro, (0x064, 0x074), poke up [(.stairwell 0, Reg.sw.ENTRIES, 5)], by unfold Reaches; decide +kernel⟩,
   ⟨.mainband, .stairwell 15, 0x04C, 0x078, Reg.sw.LIST_PTR, .rw, 9, { up with latches := [(pairKey .mainband (.stairwell 15) Reg.sw.LIST_PTR, 9)] }, by decide +kernel⟩⟩

theorem test_hypotheses_PairsFollowTheirRule :
    (∃ (path : Path) (page : Page) (off : BitVec 12) (f : Fld) (v : Nat) (s : State), pairAt s page off.toNat = some (f, v)) ∧
    (∃ (path : Path) (page : Page) (off : BitVec 12) (f : Fld) (v : Nat) (s : State), 4 ≤ off.toNat ∧ pairAt s page (off.toNat - 4) = some (f, v)) ∧
    (∃ (path : Path) (page : Page) (off : BitVec 12) (f : Fld) (v : BitVec 32) (s : State), Reaches s path page off.toNat ∧ storedPair page off.toNat = some (f, .rw)) ∧
    (∃ (path : Path) (page : Page) (off : BitVec 12) (f : Fld) (v : BitVec 32) (s : State), Reaches s path page off.toNat ∧ 4 ≤ off.toNat ∧ storedPair page (off.toNat - 4) = some (f, .rw) ∧ ((∀ i, page = .stairwell i → f = Reg.sw.LIST_PTR → (stair s i).state = .idle ∨ (stair s i).state = .faulted)) ∧ ((page = .memMap → mapIdle s = true ∧ mapLegal (commitPair s path .memMap Reg.mm.MAP v.toNat).1 = true))) ∧
    (∃ (path : Path) (page : Page) (off : BitVec 12) (f : Fld) (v : BitVec 32) (s : State), Reaches s path page off.toNat ∧ 4 ≤ off.toNat ∧ storedPair page (off.toNat - 4) = some (f, .rw) ∧ ((∀ i, page = .stairwell i → f = Reg.sw.LIST_PTR → (stair s i).state = .idle ∨ (stair s i).state = .faulted)) ∧ ((page = .memMap → mapIdle s = true ∧ mapLegal (commitPair s path .memMap Reg.mm.MAP v.toNat).1 = true))) ∧
    (∃ (path path' : Path) (p p' : Page) (off off' v v' : Nat) (f f' : Fld) (s : State), off < 4096 ∧ off' < 4096 ∧ pairAt s p off = some (f, v) ∧ pairAt s p' off' = some (f', v') ∧ pairKey path p f = pairKey path' p' f') ∧
    (∃ (path : Path) (target : BitVec 3) (also : List ResetCause) (s t : State), exec (.transition path ⟨target, also⟩) s = .next t ∧ t.seb.state ≠ s.seb.state) :=
  ⟨⟨.mainband, .stairwell 15, 0x048, Reg.sw.LIST_PTR, 2 ^ 40 + 64, poke up [(.stairwell 15, Reg.sw.LIST_PTR, 2 ^ 40 + 64)], by decide +kernel⟩,
   ⟨.mainband, .stairwell 15, 0x04C, Reg.sw.LIST_PTR, 2 ^ 40 + 64, poke up [(.stairwell 15, Reg.sw.LIST_PTR, 2 ^ 40 + 64)], by decide +kernel⟩,
   ⟨.sideband, .stairwell 0, 0x040, Reg.sw.LIST_ADDR, 0xFFFFFFFF, up, by unfold Reaches; decide +kernel⟩,
   ⟨.mainband, .stairwell 15, 0x04C, Reg.sw.LIST_PTR, 7, up, ⟨by unfold Reaches; decide +kernel, by decide +kernel, by decide +kernel, fun i h _ => by cases h; decide +kernel, nofun⟩⟩,
   ⟨.mainband, .memMap, 0x044, Reg.mm.MAP, 0, { up with staging := [(pairKey .mainband .memMap Reg.mm.MAP, 0)] }, ⟨by unfold Reaches; decide +kernel, by decide +kernel, by decide +kernel, nofun, fun _ => by decide +kernel⟩⟩,
   ⟨.sideband, .sideband, .stairwell 15, .stairwell 15, 0x048, 0x048, 2 ^ 40 + 64, 2 ^ 40 + 64, Reg.sw.LIST_PTR, Reg.sw.LIST_PTR, poke up [(.stairwell 15, Reg.sw.LIST_PTR, 2 ^ 40 + 64)], by decide +kernel⟩,
   ⟨.mainband, 4, [.pin], up, ran (.transition .mainband ⟨4, [.pin]⟩) up, ⟨exec_after (by decide +kernel), by decide +kernel⟩⟩⟩

theorem test_hypotheses_FirstErrorIsTheOneAlarm :
    (∃ (r : Report) (s : State), s.fc = []) ∧
    (∃ (r : Report) (s : State), s.fc ≠ [] ∧ s.fc.length < 512) ∧
    (∃ (r : Report) (s : State), s.fc ≠ []) ∧
    (∃ s : State, Reaches s .mainband .fc 0x044) ∧
    (∃ (r : Report) (s : State), Reaches s .mainband .fc 0x044) :=
  ⟨⟨{ source := 0x0102, code := 3, detail := 0xFFFFFFFF }, up, by decide +kernel⟩,
   ⟨{ source := 0x0102, code := 3, detail := 0xFFFFFFFF }, { up with fc := [{ source := 0x0103, code := 3, detail := 1, dups := 0 }] }, by decide +kernel⟩,
   ⟨{ source := 0x0102, code := 3, detail := 0xFFFFFFFF }, { up with fc := List.replicate 512 { source := 0x0103, code := 3, detail := 1, dups := 0 } }, by decide +kernel⟩,
   ⟨{ up with fc := List.replicate 512 { source := 0x0103, code := 3, detail := 1, dups := 0 } }, by unfold Reaches; decide +kernel⟩,
   ⟨{ source := 0x0102, code := 3, detail := 0xFFFFFFFF }, { up with fc := List.replicate 512 { source := 0x0103, code := 3, detail := 1, dups := 0 } }, by unfold Reaches; decide +kernel⟩⟩

theorem test_hypotheses_BusySebTurnsCommandsAway :
    (∃ (path : Path) (c : Instr) (s : State), ((path = .mainband ∧ c ∈ [Instr.attest, .commitSvn, .eraseRecord, .writeCert]) ∨ (∃ x, c = .transition path ⟨x, []⟩)) ∧ Reaches s path .seb 0x044 ∧ ((sebBusy s = true ∨ s.mc.switching ≠ 0))) ∧
    (∃ (path : Path) (c : Instr) (s : State), ((path = .mainband ∧ c ∈ [Instr.attest, .commitSvn, .eraseRecord, .writeCert]) ∨ (∃ x, c = .transition path ⟨x, []⟩)) ∧ Reaches s path .seb 0x044 ∧ ((sebBusy s = true ∨ s.mc.switching ≠ 0))) ∧
    (∃ s : State, Reaches s .mainband .mcService 0x054 ∧ sebBusy s = true) ∧
    (∃ (r : SebRun) (rest : List Nat) (s : State), s.seb.run = some r ∧ s.mc.load = none ∧ s.mc.held = 2 :: rest ∧ s.mc.switching = 0 ∧ (inactive s).valid = true ∧ s.mc.repairing = none) ∧
    (∃ (r : SebRun) (rest : List Nat) (s : State), s.seb.run = some r ∧ s.mc.load = none ∧ s.mc.held = 1 :: rest ∧ s.mc.switching = 0 ∧ LoadsFromHost s) ∧
    (∃ (x : FwLoad) (rest : List Nat) (s : State), s.seb.run = none ∧ s.mc.load = some x ∧ x.len ≤ x.got ∧ inRecovery s = false ∧ imageVerdict s { bytes := x.bytes, len := x.len, valid := true } = 0 ∧ s.mc.held = 2 :: rest ∧ s.mc.switching = 0 ∧ s.mc.repairing = none) ∧
    (∃ (x : FwLoad) (rest : List Nat) (s : State), s.seb.run = none ∧ s.mc.load = some x ∧ x.len ≤ x.got ∧ s.mc.held = 1 :: rest ∧ s.mc.switching = 0 ∧ LoadsFromHost s) ∧
    (∃ (x : FwLoad) (s : State), s.seb.run = none ∧ s.mc.load = some x ∧ x.len ≤ x.got ∧ imageVerdict s { bytes := x.bytes, len := x.len, valid := true } ≠ 0 ∧ s.mc.held = [2] ∧ s.mc.switching = 0) :=
  ⟨⟨.mainband, .attest, { up with seb := { up.seb with run := some { cmd := 5, target := 0, result := 3 } } }, ⟨Or.inl (by decide +kernel), by unfold Reaches; decide +kernel, Or.inl (by decide +kernel)⟩⟩,
   ⟨.sideband, .transition .sideband ⟨4, []⟩, withMc (up) { (up).mc with switching := 1 }, ⟨Or.inr ⟨_, rfl⟩, by unfold Reaches; decide +kernel, Or.inr (by decide +kernel)⟩⟩,
   ⟨{ up with seb := { up.seb with run := some { cmd := 5, target := 0, result := 3 } } }, by unfold Reaches; decide +kernel⟩,
   ⟨{ cmd := 5, target := 0, result := 3 }, [1], withMc ({ up with seb := { up.seb with run := some { cmd := 5, target := 0, result := 3 } } }) { ({ up with seb := { up.seb with run := some { cmd := 5, target := 0, result := 3 } } }).mc with held := [2, 1], imageB := image0 }, by decide +kernel⟩,
   ⟨{ cmd := 5, target := 0, result := 0 }, [2], { poke net [(.mcService, Reg.mcs.FW_ADDR, 2 ^ 63 + 4096), (.mcService, Reg.mcs.FW_LEN, 4194304)] with seb := { (poke net [(.mcService, Reg.mcs.FW_ADDR, 2 ^ 63 + 4096), (.mcService, Reg.mcs.FW_LEN, 4194304)]).seb with run := some { cmd := 5, target := 0, result := 0 } }, mc := { Mc.reset with held := [1, 2] } }, by unfold LoadsFromHost; decide +kernel⟩,
   ⟨fwLoad signedImage.bytes, [], loading signedImage.bytes [2], ⟨rfl, rfl, by decide +kernel, by decide +kernel, test_a_signed_image_is_accepted, rfl, rfl, rfl⟩⟩,
   ⟨fwLoad 5, [2], loading 5 [1, 2], by unfold LoadsFromHost; decide +kernel⟩,
   ⟨fwLoad 5, loading 5 [2], by decide +kernel⟩⟩

theorem test_hypotheses_AccessBeforeReady :
    (∃ (tag : BitVec 10) (addr : BitVec 64) (s : State), ready s = false ∧ InCredit s 0 1 4 ∧ regLegal addr.toNat 4 = true) ∧
    (∃ (path : Path) (p : Page) (off word : Nat) (s : State), ready s = false ∧ statePermits s path p = true ∧ ((p = .hif ∨ p = .reset))) ∧
    (∃ (path : Path) (p : Page) (off word : Nat) (s : State), ready s = false ∧ statePermits s path p = true ∧ ((p = .hif ∨ p = .reset))) ∧
    (∃ (path : Path) (p : Page) (off word : Nat) (s : State), ready s = false ∧ inRecovery s = true ∧ statePermits s path p = true ∧ ((p = .seb ∨ p = .mcService ∧ off ∈ [0x054, 0x058, 0x05C, 0x060]))) ∧
    (∃ (path : Path) (p : Page) (off word : Nat) (s : State), ready s = false ∧ inRecovery s = true ∧ statePermits s path p = true ∧ ((p = .seb ∨ p = .mcService ∧ off ∈ [0x054, 0x058, 0x05C, 0x060]))) ∧
    (∃ (tag : BitVec 10) (addr : BitVec 64) (v : BitVec 32) (p : Page) (s : State), ready s = false ∧ inRecovery s = false ∧ InCredit s 0 1 4 ∧ regLegal addr.toNat 4 = true ∧ pageAt addr.toNat = some p ∧ p ≠ .hif ∧ p ≠ .reset ∧ statePermits s .mainband p = true) ∧
    (∃ (addr : BitVec 64) (v : BitVec 32) (p : Page) (s : State), ready s = false ∧ inRecovery s = false ∧ sidebandOpen s = true ∧ regLegal addr.toNat 4 = true ∧ pageAt addr.toNat = some p ∧ p ≠ .hif ∧ p ≠ .reset ∧ statePermits s .sideband p = true) ∧
    (∃ (tag : BitVec 10) (addr : BitVec 64) (len : Nat) (s : State), ready s = false ∧ InCredit s 0 1 len) ∧
    (∃ (addr : BitVec 64) (len v : Nat) (s : State), ready s = false ∧ InCredit s (ceilDiv (32 + len) 128) 0 len) ∧
    (∃ (tag : BitVec 10) (addr : BitVec 64) (v : BitVec 32) (p : Page) (s : State), InCredit s 0 1 4 ∧ regLegal addr.toNat 4 = true ∧ pageAt addr.toNat = some p ∧ permits s .mainband p (addr.toNat % 4096) = false) ∧
    (∃ (tag : BitVec 10) (addr : BitVec 64) (v : BitVec 32) (p : Page) (s : State), InCredit s 0 1 4 ∧ regLegal addr.toNat 4 = true ∧ pageAt addr.toNat = some p ∧ permits s .mainband p (addr.toNat % 4096) = false) ∧
    (∃ (addr : BitVec 64) (v : BitVec 32) (p : Page) (s : State), sidebandOpen s = true ∧ regLegal addr.toNat 4 = true ∧ pageAt addr.toNat = some p ∧ permits s .sideband p (addr.toNat % 4096) = false) ∧
    (∃ (addr : BitVec 64) (v : BitVec 32) (p : Page) (s : State), sidebandOpen s = true ∧ regLegal addr.toNat 4 = true ∧ pageAt addr.toNat = some p ∧ permits s .sideband p (addr.toNat % 4096) = false) ∧
    (∃ (c : Instr) (path : Path) (p : Page) (off word : Nat) (s : State), hostWrite c = some (path, p, off, word) ∧ s.rst.held = true) ∧
    (∃ (c : Instr) (path : Path) (p : Page) (off word : Nat) (s : State), hostWrite c = some (path, p, off, word) ∧ ready s = false ∧ s.rst.held = false ∧ statePermits s path p = true ∧ p ≠ .hif ∧ p ≠ .reset ∧ ((inRecovery s = true → p ≠ .seb ∧ (p = .mcService → off ∉ [0x054, 0x058, 0x05C, 0x060]))) ∧ ((inRecovery s = true → ¬ StartsList p off word))) ∧
    (∃ (c : Instr) (path : Path) (p : Page) (off word : Nat) (s : State), hostWrite c = some (path, p, off, word) ∧ ready s = false ∧ s.rst.held = false ∧ statePermits s path p = true ∧ p ≠ .hif ∧ p ≠ .reset ∧ ((inRecovery s = true → p ≠ .seb ∧ (p = .mcService → off ∉ [0x054, 0x058, 0x05C, 0x060]))) ∧ ((inRecovery s = true → ¬ StartsList p off word))) ∧
    (∃ (c : Instr) (path : Path) (p : Page) (off word : Nat) (s : State), hostWrite c = some (path, p, off, word) ∧ ready s = false ∧ statePermits s path p = true ∧ inRecovery s = true ∧ StartsList p off word) ∧
    (∃ (c : Instr) (path : Path) (p : Page) (off word : Nat) (s : State), hostWrite c = some (path, p, off, word) ∧ s.rst.held = false ∧ statePermits s path p = false) ∧
    (∃ (c : Instr) (path : Path) (p : Page) (off word : Nat) (s : State), hostWrite c = some (path, p, off, word) ∧ s.rst.held = false ∧ statePermits s path p = false) ∧
    (∃ (addr : BitVec 64) (s : State), ready s = false ∧ sidebandOpen s = true ∧ regLegal addr.toNat 4 = true) :=
  ⟨⟨5, 0x10001C, poke (phase 3) [(.hif, Reg.hif.HIF_STATE_UP, 1), (.hif, Reg.hif.HOST_CREDIT_SEEN, 1), (.hif, Reg.hif.POSTED, 100)], by unfold InCredit; decide +kernel⟩,
   ⟨.mainband, .hif, 0x044, 5, phase 3, ⟨by decide +kernel, by decide +kernel, Or.inl rfl⟩⟩,
   ⟨.sideband, .reset, 0x00C, 5, phase 3, ⟨by decide +kernel, by decide +kernel, Or.inr rfl⟩⟩,
   ⟨.mainband, .mcService, 0x054, 5, poke (phase 2) [(.reset, Reg.rst.RECOVERY, 1)], ⟨by decide +kernel, by decide +kernel, by decide +kernel, Or.inr (by decide +kernel)⟩⟩,
   ⟨.mainband, .seb, 0x044, 5, poke (phase 2) [(.reset, Reg.rst.RECOVERY, 1)], ⟨by decide +kernel, by decide +kernel, by decide +kernel, Or.inl rfl⟩⟩,
   ⟨5, 0x10001C, 7, .stairwell 0, poke (phase 3) [(.hif, Reg.hif.HIF_STATE_UP, 1), (.hif, Reg.hif.HOST_CREDIT_SEEN, 1), (.hif, Reg.hif.POSTED, 100)], by unfold InCredit; decide +kernel⟩,
   ⟨0x10001C, 7, .stairwell 0, (fun s : State => { s with hif := { s.hif with sidebandUp := 0xFFFF, sidebandModule := 0 } }) (phase 3), by decide +kernel⟩,
   ⟨5, 4096, 64, poke (phase 3) [(.hif, Reg.hif.HIF_STATE_UP, 1), (.hif, Reg.hif.HOST_CREDIT_SEEN, 1), (.hif, Reg.hif.POSTED, 100)], by unfold InCredit; decide +kernel⟩,
   ⟨4096, 64, 9, poke (phase 3) [(.hif, Reg.hif.HIF_STATE_UP, 1), (.hif, Reg.hif.HOST_CREDIT_SEEN, 1), (.hif, Reg.hif.POSTED, 100)], by unfold InCredit; decide +kernel⟩,
   ⟨5, 0x10001C, 7, .stairwell 0, { net with seb := { net.seb with state := 4 } }, by unfold InCredit; decide +kernel⟩,
   ⟨5, 0x10001C, 7, .stairwell 0, poke (phase 2) [(.reset, Reg.rst.RECOVERY, 1), (.hif, Reg.hif.HIF_STATE_UP, 1), (.hif, Reg.hif.HOST_CREDIT_SEEN, 1), (.hif, Reg.hif.POSTED, 100)], by unfold InCredit; decide +kernel⟩,
   ⟨0x10001C, 7, .stairwell 0, (fun s : State => { s with hif := { s.hif with sidebandUp := 0xFFFF, sidebandModule := 0 } }) (sebAt 2), by decide +kernel⟩,
   ⟨0x10001C, 7, .stairwell 0, (fun s : State => { s with hif := { s.hif with sidebandUp := 0xFFFF, sidebandModule := 0 } }) (poke (phase 2) [(.reset, Reg.rst.RECOVERY, 1)]), by decide +kernel⟩,
   ⟨.start 3, .mainband, .stairwell 3, 0x050, 1, { net with rst := { net.rst with holding := [4] } }, by decide +kernel⟩,
   ⟨.start 3, .mainband, .stairwell 3, 0x050, 1, phase 5, ⟨rfl, by decide +kernel, by decide +kernel, by decide +kernel, by decide, by decide, fun h => absurd h (by decide +kernel), fun h => absurd h (by decide +kernel)⟩⟩,
   ⟨.mapWrite .mainband 5, .mainband, .memMap, 0x044, 5, poke (phase 2) [(.reset, Reg.rst.RECOVERY, 1)], ⟨rfl, by decide +kernel, by decide +kernel, by decide +kernel, by decide, by decide, fun _ => by decide, fun _ ⟨_, h, _⟩ => nomatch h⟩⟩,
   ⟨.start 3, .mainband, .stairwell 3, 0x050, 1, poke (phase 2) [(.reset, Reg.rst.RECOVERY, 1)], ⟨rfl, by decide +kernel, by decide +kernel, by decide +kernel, 3, rfl, rfl, by decide⟩⟩,
   ⟨.listPtrWrite 3 .sideband 5, .sideband, .stairwell 3, 0x04C, 5, sebAt 2, by decide +kernel⟩,
   ⟨.start 3, .mainband, .stairwell 3, 0x050, 1, sebAt 4, by decide +kernel⟩,
   ⟨0x10001C, (fun s : State => { s with hif := { s.hif with sidebandUp := 0xFFFF, sidebandModule := 0 } }) (phase 3), by decide +kernel⟩⟩

theorem test_hypotheses_PagesLieAsMapped :
    (∃ (p : Page) (off : Nat), off < 4096) ∧
    (∃ (a : Nat) (p : Page), pageAt a = some p) ∧
    (∃ (path : Path) (a w : Nat) (s : State), pageAt a = none) :=
  ⟨⟨.mems 15 16, 4095, by decide +kernel⟩,
   ⟨0x100FFF, .stairwell 0, by decide +kernel⟩,
   ⟨.mainband, 0x3FFFFFC, 5, up, by decide +kernel⟩⟩

theorem test_hypotheses_GalleryPagesShareStatusAndControl :
    (∃ (h : Fin 16) (g : Fin 17) (p : Page) (off : Nat) (s : State), p ∈ [Page.ve h g, .qu h g, .mems h g] ∧ (off = 0x008 ∨ off = 0x00C)) ∧
    (∃ (path : Path) (h : Fin 16) (g : Fin 17) (p : Page) (off : BitVec 12) (v : BitVec 32) (s : State), p ∈ [Page.ve h g, .qu h g, .mems h g] ∧ (off.toNat = 0x008 ∨ off.toNat = 0x00C)) ∧
    (∃ (h : Fin 16) (g : Fin 17) (p q : Page) (f : Fld) (v : Nat) (s : State), p ∈ [Page.array h g, .ve h g, .qu h g, .mems h g] ∧ q ∈ [Page.array h g, .ve h g, .qu h g, .mems h g] ∧ p ≠ q ∧ f ∈ [Reg.hdr.FAULT_CODE, Reg.hdr.FAULT_COUNT, Reg.hdr.STICKY, Reg.hdr.STICKY_MASK p, Reg.hdr.READBACK_SEL_INDEX,
      Reg.hdr.READBACK_SEL_SPACE, Reg.hdr.AUTO_INC]) :=
  ⟨⟨1, 2, .mems 1 2, 0x008, up, ⟨by decide +kernel, Or.inl rfl⟩⟩,
   ⟨.mainband, 1, 2, .qu 1 2, 0x00C, 1, up, ⟨by decide +kernel, Or.inr rfl⟩⟩,
   ⟨1, 2, .array 1 2, .ve 1 2, Reg.hdr.STICKY, 5, up, by decide +kernel⟩⟩

theorem test_hypotheses_LifecycleMovesLegally :
    (∃ s t : State, step s = .next t) :=
  ⟨queued (.transition .mainband ⟨4, []⟩) up, stepped (queued (.transition .mainband ⟨4, []⟩) up), step_stepped (by decide +kernel)⟩

theorem test_hypotheses_RetiredHoldsNoKey :
    (∃ s t : State, ((s.seb.state = 4 → s.seb.idKey = none ∧ s.seb.cert = none)) ∧ step s = .next t) :=
  ⟨queued (.transition .mainband ⟨4, []⟩) up, stepped (queued (.transition .mainband ⟨4, []⟩) up), ⟨fun h => absurd h (by decide +kernel), step_stepped (by decide +kernel)⟩⟩

theorem test_hypotheses_PrivateKeyIsNotReadable :
    (∃ (path : Path) (p : Page) (off m e d d' : Nat) (s : State), s.seb.idKey = some (m, e, d)) :=
  ⟨.mainband, .seb, 0x040, 35, 5, 29, 31, up, by decide +kernel⟩

theorem test_hypotheses_FlightTotalsAreExact :
    (∃ (r : TileReg) (f : Flight) (m n c : Nat), 1 ≤ r.wa ∧ r.wa ≤ 16 ∧ 1 ≤ r.ww ∧ r.ww ≤ 16 ∧ ((∀ p, ∀ q ∈ flightCodes f p, q < 2 ^ r.wa ∧ q &&& m = q)) ∧ f.acc = List.replicate n 0 ∧ c < n) ∧
    (∃ (r : TileReg) (f : Flight) (c : Nat), r.shape < 4 ∧ r.wa ≤ 16 ∧ 1 ≤ r.ww ∧ r.ww ≤ 16 ∧ ((∀ p, ∀ q ∈ flightCodes f p, q < 2 ^ r.wa))) :=
  ⟨⟨tile0 (head0 - 2 ^ 64 + 7 * 2 ^ 768), { fly [] with acc := List.replicate 128 0 }, 255, 128, 127, ⟨by decide +kernel, by decide +kernel, by decide +kernel, by decide +kernel, fun p q hq => absurd hq (by unfold flightCodes fly; simp), by decide +kernel, by decide +kernel⟩⟩,
   ⟨tile0 head0, fly [], 127, ⟨by decide +kernel, by decide +kernel, by decide +kernel, by decide +kernel, fun p q hq => absurd hq (by unfold flightCodes fly; simp)⟩⟩⟩

theorem test_hypotheses_SectorCodeCorrectsOneAndDetectsTwo :
    (∃ i x : Nat, i < 36 ∧ 0 < x ∧ x < 256) ∧
    (∃ i j x y : Nat, i < j ∧ j < 36 ∧ 0 < x ∧ x < 256 ∧ 0 < y ∧ y < 256) :=
  ⟨⟨35, 255, by decide +kernel⟩,
   ⟨0, 35, 1, 255, by decide +kernel⟩⟩

theorem test_hypotheses_NaNsAreCanonical :
    (∃ a b : Nat, (isNan32 a = true ∨ isNan32 b = true)) ∧
    (∃ a b : Nat, fp32.decode a = .inf false ∧ fp32.decode b = .inf true) ∧
    (∃ (a b : Nat) (s t : Bool) (e : Int), fp32.decode a = .inf s ∧ fp32.decode b = .fin t 0 e) ∧
    (∃ func a b scalar : Nat, func ≠ 0) :=
  ⟨⟨0x7F800001, 0, Or.inl (by decide +kernel)⟩,
   ⟨0x7F800000, 0xFF800000, by decide +kernel⟩,
   ⟨0x7F800000, 0x80000000, false, true, -149, by decide +kernel⟩,
   ⟨3, 0x7F800001, 0, 0, by decide +kernel⟩⟩

theorem test_hypotheses_MemoryWritesReadBack :
    (∃ (who : Requester) (a n v : Nat) (s : State), 1 ≤ n ∧ a % 4096 + n ≤ 4096 ∧ CleanRange s a n) ∧
    (∃ (addr : BitVec 64) (n v : Nat) (s : State), InCredit s (ceilDiv (32 + n) 128) 0 n ∧ ready s = true ∧ apertureLegal addr.toNat n = true ∧ CleanRange s addr.toNat n) :=
  ⟨⟨.host, 8191, 1, 0x1FF, net, ⟨by decide +kernel, by decide +kernel, by unfold CleanRange; decide +kernel⟩⟩,
   ⟨8190, 2, 0x1FFFF, net, by unfold InCredit CleanRange; decide +kernel⟩⟩

end Sys2Proof.Tests
end

/-! SUPPORT and settlement of O48: the halves of a 64-bit quantity (R12). What the reads and writes of a half do to
the latches and to the staging, that each pair and path has a name of its own, and that every reset empties both. -/

namespace Sys2Proof.Machine

/-! ### Where a pair lies -/

/-- A stored pair is a 64-bit field of its page whose low half lies at the offset. -/
theorem storedPair_some {p : Page} {off : Nat} {f : Fld} {a : Acc} (h : storedPair p off = some (f, a)) :
    (f, a) ∈ p.rows ∧ f.width = 64 ∧ f.off = off := by
  have hp := List.find?_some h
  simp only [Bool.and_eq_true, beq_iff_eq] at hp
  exact ⟨List.mem_of_find?_eq_some h, hp⟩

/-- The field of a pair, stored or computed, begins at the pair's offset and lies in its page. -/
theorem pairAt_some {s : State} {p : Page} {off v : Nat} {f : Fld} (ho : off < 4096) (h : pairAt s p off = some (f, v)) :
    f.off = off ∧ f.inPage = true := by
  unfold pairAt at h
  cases hs : storedPair p off with
  | some e =>
    obtain ⟨hm, -, hoff⟩ := storedPair_some (f := e.1) (a := e.2) hs
    obtain ⟨rfl, -⟩ : e.1 = f ∧ _ := by simpa [hs] using h
    exact ⟨hoff, rows_inPage hm⟩
  | none =>
    obtain ⟨-, -, rfl, -⟩ : ∃ w, view64 s p off = some w ∧ viewFld off = f ∧ w = v := by simpa [hs] using h
    exact ⟨rfl, by simp [Fld.inPage, viewFld, ho]⟩

/-- Register space ends below 2^25 (R379). -/
theorem Page.base_lt (p : Page) : p.base < 2 ^ 25 := by
  cases p <;> simp only [Page.base] <;> omega

/-- A field's name is below the bit in which a pair's name holds its path. -/
theorem key_lt {p : Page} {f : Fld} (h : f.inPage = true) : key p f < 2 ^ 40 := by
  simp only [Fld.inPage, Bool.and_eq_true, decide_eq_true_eq] at h
  have := Page.base_lt p
  unfold key
  omega

theorem pathNum_inj {a b : Path} (h : pathNum a = pathNum b) : a = b := by
  cases a <;> cases b <;> simp_all [pathNum]

/-- A latch or a staging register is named by its path, its page and the offset of its pair. -/
theorem pairKey_inj {a b : Path} {p q : Page} {f g : Fld} (hf : f.inPage = true) (hg : g.inPage = true)
    (h : pairKey a p f = pairKey b q g) : a = b ∧ p = q ∧ f.off = g.off := by
  have kf := key_lt (p := p) hf
  have kg := key_lt (p := q) hg
  unfold pairKey at h
  have hk : key p f = key q g := by omega
  have ha : pathNum a = pathNum b := by omega
  simp only [Fld.inPage, Bool.and_eq_true, decide_eq_true_eq] at hf hg
  obtain ⟨hp, ho, -⟩ := (key_inj hf.1 hg.1 hf.2 hg.2).1 hk
  exact ⟨pathNum_inj ha, hp, ho⟩

/-! ### Reads of a half -/

/-- PAIR_LOW_READ of a pair latches the high half and returns the low half. -/
theorem exec_pairLowRead {path : Path} {page : Page} {off : BitVec 12} {f : Fld} {v : Nat} {s : State}
    (h : pairAt s page off.toNat = some (f, v)) :
    exec (.pairLowRead path page off) s =
      .next (returnRead (readLow s path page f v).1 path (readLow s path page f v).2) := by
  change execPairLowRead path page off s = _
  rw [execPairLowRead, h]

/-- PAIR_HIGH_READ of a pair returns what readHigh finds. -/
theorem exec_pairHighRead {path : Path} {page : Page} {off : BitVec 12} {f : Fld} {v : Nat} {s : State}
    (ho : 4 ≤ off.toNat) (h : pairAt s page (off.toNat - 4) = some (f, v)) :
    exec (.pairHighRead path page off) s =
      .next (returnRead (readHigh s path page f v).1 path (readHigh s path page f v).2) := by
  change execPairHighRead path page off s = _
  rw [execPairHighRead, if_neg (by omega), h]

/-- The latched high half, or else the live one, is what a read of a high half returns. -/
theorem readHigh_value (s : State) (path : Path) (p : Page) (f : Fld) (v : Nat) :
    (readHigh s path p f v).2 = (NatMap.get? s.latches (pairKey path p f)).getD (v / 2 ^ 32) := by
  unfold readHigh
  split <;> simp_all

/-- A read of a high half releases its own latch and leaves every other. -/
theorem readHigh_latches (s : State) (path : Path) (p : Page) (f : Fld) (v k : Nat) :
    NatMap.get? (readHigh s path p f v).1.latches k
      = if k = pairKey path p f then none else NatMap.get? s.latches k := by
  unfold readHigh
  split
  · exact NatMap.get?_del _ _ _
  · split <;> simp_all

theorem readHigh_staging (s : State) (path : Path) (p : Page) (f : Fld) (v : Nat) :
    (readHigh s path p f v).1.staging = s.staging := by
  unfold readHigh
  split <;> rfl

theorem readHigh_regs (s : State) (path : Path) (p : Page) (f : Fld) (v : Nat) :
    (readHigh s path p f v).1.regs = s.regs := by
  unfold readHigh
  split <;> rfl

theorem readWord_returnRead (s : State) (path : Path) (v : Nat) :
    NatMap.get? (returnRead s path v).readWord (pathNum path) = some (v % 2 ^ 32) := by
  simp [returnRead, NatMap.get?_set]

/-! ### Writes of a half -/

/-- A write that reaches its page has its effect. -/
theorem ifPermitted_of_reaches {s : State} {path : Path} {p : Page} {off : Nat} (h : Reaches s path p off) (word : Nat)
    (body : State) : ifPermitted s path p off word body = body := by
  obtain ⟨hheld, hperm⟩ := h
  simp [ifPermitted, hheld, hperm]

/-- PAIR_LOW_WRITE of a writable pair stages its word. -/
theorem exec_pairLowWrite {path : Path} {page : Page} {off : BitVec 12} {f : Fld} {v : BitVec 32} {s : State}
    (hr : Reaches s path page off.toNat) (h : storedPair page off.toNat = some (f, .rw)) :
    exec (.pairLowWrite path page off v) s = .next (stageLow s path page f v.toNat) := by
  change execPairLowWrite path page off v s = _
  rw [execPairLowWrite, ifPermitted_of_reaches hr, writeLow, h]

/-- The state after a write of a high half has committed its pair. -/
def committed (s : State) (path : Path) (p : Page) (f : Fld) (hi : Nat) : State :=
  wr (commitPair s path p f hi).2 p f (pairBits p f (commitPair s path p f hi).1)

@[simp] theorem committed_latches (s : State) (path : Path) (p : Page) (f : Fld) (hi : Nat) :
    (committed s path p f hi).latches = s.latches := rfl

theorem committed_staging (s : State) (path : Path) (p : Page) (f : Fld) (hi k : Nat) :
    NatMap.get? (committed s path p f hi).staging k
      = if k = pairKey path p f then none else NatMap.get? s.staging k := NatMap.get?_del _ _ _

/-- LIST_PTR_WRITE commits LIST_PTR in IDLE and in FAULTED. -/
theorem execListPtrWrite_commits {i : Fin 16} {path : Path} {v : BitVec 32} {s : State}
    (hr : Reaches s path (.stairwell i) (Reg.sw.LIST_PTR.off + 4))
    (hi : (stair s i).state = .idle ∨ (stair s i).state = .faulted) :
    execListPtrWrite i path v s = .next (committed s path (.stairwell i) Reg.sw.LIST_PTR v.toNat) := by
  have hp : swPage i = .stairwell i := by simp [swPage]
  rw [execListPtrWrite, hp, ifPermitted_of_reaches hr, if_pos hi]
  rfl

/-- MAP_WRITE commits a legal map while nothing stands in its way. -/
theorem execMapWrite_commits {path : Path} {v : BitVec 32} {s : State}
    (hr : Reaches s path .memMap (Reg.mm.MAP.off + 4)) (hidle : mapIdle s = true)
    (hlegal : mapLegal (commitPair s path .memMap Reg.mm.MAP v.toNat).1 = true) :
    execMapWrite path v s = .next (committed s path .memMap Reg.mm.MAP v.toNat) := by
  rw [execMapWrite, ifPermitted_of_reaches hr, hidle, hlegal]
  rfl

/-- The memory map's one pair is MAP. -/
theorem storedPair_memMap {off : Nat} {f : Fld} {a : Acc} (h : storedPair .memMap off = some (f, a)) :
    f = Reg.mm.MAP := by
  obtain ⟨hm, hw, -⟩ := storedPair_some h
  have hone : (Page.rows .memMap).filter (·.1.width == 64) = [(Reg.mm.MAP, .rw)] := by decide
  have hmem : (f, a) ∈ (Page.rows .memMap).filter (·.1.width == 64) := List.mem_filter.2 ⟨hm, by simp [hw]⟩
  rw [hone, List.mem_singleton] at hmem
  exact congrArg Prod.fst hmem

/-- A write of a high half commits a writable pair. -/
theorem writeHigh_commits {path : Path} {page : Page} {off : Nat} {f : Fld} {v : BitVec 32} {s : State}
    (hr : Reaches s path page off) (ho : 4 ≤ off) (h : storedPair page (off - 4) = some (f, .rw))
    (hptr : ∀ i, page = .stairwell i → f = Reg.sw.LIST_PTR → (stair s i).state = .idle ∨ (stair s i).state = .faulted)
    (hmap : page = .memMap → mapIdle s = true ∧ mapLegal (commitPair s path .memMap Reg.mm.MAP v.toNat).1 = true) :
    writeHigh s path page off v.toNat = committed s path page f v.toNat := by
  have hoff : off = f.off + 4 := by
    have := (storedPair_some h).2.2
    omega
  rw [writeHigh, h]
  cases page with
  | stairwell i =>
    dsimp only
    split
    · rename_i hf
      subst hf hoff
      rw [BitVec.ofNat_toNat, BitVec.setWidth_eq, execListPtrWrite_commits hr (hptr i rfl rfl)]
      rfl
    · rfl
  | memMap =>
    obtain rfl := storedPair_memMap h
    obtain ⟨hidle, hlegal⟩ := hmap rfl
    subst hoff
    dsimp only
    rw [BitVec.ofNat_toNat, BitVec.setWidth_eq, execMapWrite_commits hr hidle hlegal]
    rfl
  | _ => rfl

/-- The cut to 64 bits may come before or after the reserved bits are dropped. -/
theorem pairBits_mod (p : Page) (f : Fld) (v : Nat) : pairBits p f v % 2 ^ 64 = pairBits p f (v % 2 ^ 64) := by
  cases p with
  | mems h g =>
    simp only [pairBits]
    split
    · omega
    · rfl
  | _ => rfl

/-- A committed pair holds its two halves, without the reserved bits. -/
theorem rd_committed {s : State} {path : Path} {p : Page} {f : Fld} {hi : Nat} (hw : f.width = 64) :
    rd (committed s path p f hi) p f = pairBits p f ((hi * 2 ^ 32
      + (NatMap.get? s.staging (pairKey path p f)).getD (rd s p f % 2 ^ 32)) % 2 ^ 64) := by
  rw [committed, rd_wr, hw, pairBits_mod]
  rfl

/-! ### Resets -/

/-- Nothing is latched and nothing is staged. -/
def PairsReleased (t : State) : Prop := t.latches = [] ∧ t.staging = []

theorem enterReset_releases (s : State) (codes halls : List Nat) : PairsReleased (enterReset s codes halls) := by
  unfold enterReset
  split <;> exact ⟨rfl, rfl⟩

/-- A handshake with a trigger in it releases every latch and all staging. -/
theorem trigger_releases {s : State} {codes halls : List Nat} {also : List ResetCause} (h : codes ≠ [] ∨ also ≠ []) :
    PairsReleased (trigger s codes halls also) := by
  have hne : (codes ++ also.map causeCode).isEmpty = false := by
    rcases h with h | h <;> simp [h]
  rw [trigger, hne]
  exact enterReset_releases _ _ _

/-- A handshake without a trigger leaves the device as it is. -/
@[simp] theorem trigger_nil (s : State) (halls : List Nat) : trigger s [] halls [] = s := rfl

/-- Triggers that change the lifecycle state release every latch and all staging, when without a code of its own the
command leaves the lifecycle state as it is. -/
theorem trigger_releases_of_moves {s : State} {n : Nat} {codes halls : List Nat} {also : List ResetCause}
    (hstay : codes = [] → s.seb.state = n) (hmove : (trigger s codes halls also).seb.state ≠ n) :
    PairsReleased (trigger s codes halls also) := by
  refine trigger_releases (not_and_or.1 ?_)
  rintro ⟨rfl, rfl⟩
  rw [trigger_nil] at hmove
  exact hmove (hstay rfl)

/-- A write of RESET_CMD with its key, or beside another trigger, is a reset. -/
theorem writeResetCmd_releases {s : State} {value : Nat} {also : List ResetCause}
    (h : bits value 0 16 = 0x5A17 ∨ also ≠ []) : PairsReleased (writeResetCmd s value also) := by
  unfold writeResetCmd
  split
  · exact trigger_releases (.inl (by simp))
  · next hkey => exact trigger_releases (.inr (h.resolve_left hkey))

/-- HOST_RESET with its key, or beside another trigger, is a reset. -/
theorem exec_hostReset_releases {also : List ResetCause} {v : BitVec 32} {s : State}
    (h : (Reaches s .mainband .reset 0x04C ∧ v.toNat % 2 ^ 16 = 0x5A17) ∨ also ≠ []) :
    Completes (.hostReset ⟨v, also⟩) s PairsReleased := by
  refine ⟨_, rfl, ?_⟩
  rcases h with ⟨⟨hheld, hperm⟩, hkey⟩ | halso
  · have hbits : bits v.toNat 0 16 = 0x5A17 := by simpa [bits] using hkey
    rw [hheld, hperm, if_neg (by decide)]
    exact writeResetCmd_releases (.inl hbits)
  · split
    · exact trigger_releases (.inr halso)
    · exact writeResetCmd_releases (.inr halso)

/-! ### Lifecycle moves -/

/-- The lifecycle state survives a change of every part but the SEB itself, short of a reset and a migration's copy. -/
theorem closed_lifecycle (n : Nat) (F : List Area) (hF : ∀ q ∈ F, q ∉ ([.seb, .reset, .migrate] : List Area)) :
    Closed (fun s => s.seb.state = n) F := by
  intro q hq
  have hn := hF q hq
  cases q with
  | seb | reset | migrate => simp at hn
  | regs => exact fun s p f x h => h
  | sector => exact fun s c n x h => h
  | restore => exact fun s t _ h => h
  | wipe => exact fun s h => h
  | _ => exact fun s x h => h

/-- A TRANSITION that asks for no reset has moved nowhere. -/
theorem runTransition_stays {s : State} {target : Nat} (h : (runTransition s target).2 = []) :
    (runTransition s target).1.seb.state = s.seb.state := by
  have hread : (memRead s .seb (argAddr s) 960).1.seb.state = s.seb.state :=
    memRead_keeps (P := fun u => u.seb.state = s.seb.state) (closed_lifecycle _ _ (by decide)) _ _ _ _ rfl
  generalize hr : runTransition s target = r at h ⊢
  unfold runTransition at hr
  split at hr
  · subst hr
    cases h
  · split at hr
    · subst hr
      rfl
    · split at hr <;> rename_i hgot <;> rw [hgot] at hread
      · subst hr
        exact hread
      · extract_lets v src u at hr
        have hu : u.seb.state = s.seb.state := ite_keeps (P := fun u => u.seb.state = s.seb.state) hread hread
        clear_value u
        split at hr <;> subst hr
        · cases h
        · exact verifyFail_keeps (P := fun u => u.seb.state = s.seb.state) (closed_lifecycle _ _ (by decide)) u hu

/-- A TRANSITION that is refused or illegal moves nowhere. -/
theorem sebGate_illegal_stays (s : State) (path : Path) (target : Nat) :
    (sebGate s path 3 fun s => sebStart s 3 target 8).seb.state = s.seb.state :=
  sebGate_keeps (P := fun t => t.seb.state = s.seb.state) (closed_lifecycle _ _ (by decide)) s path 3 _
    (fun _ h => h) rfl

/-- A TRANSITION that changes the lifecycle state is a reset. -/
theorem exec_transition_releases {path : Path} {target : BitVec 3} {also : List ResetCause} {s t : State}
    (h : exec (.transition path ⟨target, also⟩) s = .next t) (hmove : t.seb.state ≠ s.seb.state) : PairsReleased t := by
  change execTransition path ⟨target, also⟩ s = _ at h
  rw [execTransition] at h
  dsimp only at h
  split at h <;> obtain rfl := Host.Outcome.next.inj h
  · exact trigger_releases_of_moves runTransition_stays hmove
  · exact trigger_releases_of_moves (fun _ => sebGate_illegal_stays s path target.toNat) hmove

/-- Settles O48: each half by its read or write, the pairs' names, and the release by every reset. -/
theorem pairsFollowTheirRule : Obligations.PairsFollowTheirRule := by
  unfold Obligations.PairsFollowTheirRule
  refine ⟨?lowRead, ?highRead, ?lowWrite, ?highWrite, ?names, ?resets, ?moves⟩
  case lowRead =>
    intro path page off f v s h
    refine ⟨_, exec_pairLowRead h, ?_, ?_, fun k hk => ?_, rfl, rfl⟩
    · simp [readWord_returnRead, readLow]
    · exact (NatMap.get?_set _ _ _ _).trans (if_pos rfl)
    · exact (NatMap.get?_set _ _ _ _).trans (if_neg hk)
  case highRead =>
    intro path page off f v s ho h
    refine ⟨_, exec_pairHighRead ho h, ?_, ?_, fun k hk => ?_, readHigh_staging _ _ _ _ _,
      readHigh_regs _ _ _ _ _⟩
    · rw [readWord_returnRead, readHigh_value]
    · exact (readHigh_latches _ _ _ _ _ _).trans (if_pos rfl)
    · exact (readHigh_latches _ _ _ _ _ _).trans (if_neg hk)
  case lowWrite =>
    intro path page off f v s hr h
    refine ⟨_, exec_pairLowWrite hr h, ?_, fun k hk => ?_, rfl, rfl⟩
    · exact (NatMap.get?_set _ _ _ _).trans (if_pos rfl)
    · exact (NatMap.get?_set _ _ _ _).trans (if_neg hk)
  case highWrite =>
    intro path page off f v s hr ho h hptr hmap
    refine ⟨committed s path page f v.toNat, ?_, rd_committed (storedPair_some h).2.1, ?_, fun k hk => ?_, rfl⟩
    · change execPairHighWrite path page off v s = _
      rw [execPairHighWrite, if_neg (by omega), ifPermitted_of_reaches hr, writeHigh_commits hr ho h hptr hmap]
    · exact (committed_staging _ _ _ _ _ _).trans (if_pos rfl)
    · exact (committed_staging _ _ _ _ _ _).trans (if_neg hk)
  case names =>
    intro path path' p p' off off' v v' f f' s ho ho' h h' hk
    obtain ⟨e, hf⟩ := pairAt_some ho h
    obtain ⟨e', hf'⟩ := pairAt_some ho' h'
    obtain ⟨hpath, hp, hoff⟩ := pairKey_inj hf hf' hk
    exact ⟨hpath, hp, e ▸ e' ▸ hoff⟩
  case resets =>
    intro also h ns accepted v s
    refine ⟨⟨_, rfl, trigger_releases (.inl (by simp))⟩, ⟨_, rfl, trigger_releases (.inl (by simp))⟩,
      ⟨_, rfl, trigger_releases (.inl (by simp))⟩, fun hpin => ⟨_, rfl, ?_⟩, exec_hostReset_releases⟩
    refine trigger_releases (hpin.imp_left fun htakes => ?_)
    simp [htakes]
  case moves =>
    intro path target also s t h hmove
    exact exec_transition_releases h hmove

end Sys2Proof.Machine

/-! SUPPORT and settlement of O51: accesses before READY, in recovery and against the lifecycle state (R355, R363,
R371). Every command that is a host's write stands behind one permission check, a refusal changes what the rules name,
and a request that is answered is answered through the stream of the host interface. -/

namespace Sys2Proof.Machine

/-! ### Names of fields -/

/-- The fields of a page lie at offsets and bits of their own. -/
theorem own_placed (p : Page) : (p.own.map fun e => (e.1.off, e.1.lsb)).Nodup := by
  cases p <;> (simp only [Page.own]; decide +kernel)

theorem headerRows_placed (p : Page) : ((headerRows p).map fun e => (e.1.off, e.1.lsb)).Nodup := by
  simp only [headerRows, List.map_cons, List.map_nil]
  change ([(0x008, 3), (0x008, 5), (0x00C, 0), (0x00C, 1), (0x010, 0), (0x014, 0), (0x018, 0), (0x01C, 0), (0x020, 0),
    (0x020, 16), (0x020, 31)] : List (Nat × Nat)).Nodup
  decide

theorem headerRows_off {p : Page} {e : Fld × Acc} (h : e ∈ headerRows p) : e.1.off < 0x040 := by
  simp only [headerRows, List.mem_cons, List.not_mem_nil, or_false] at h
  rcases h with h | h | h | h | h | h | h | h | h | h | h <;> (subst h; exact of_decide_eq_true rfl)

theorem rows_placed (p : Page) : (p.rows.map fun e => (e.1.off, e.1.lsb)).Nodup := by
  rw [Page.rows, List.map_append]
  refine (headerRows_placed p).append (own_placed p) fun x hh ho => ?_
  obtain ⟨e, he, rfl⟩ := List.mem_map.1 hh
  obtain ⟨d, hd, hx⟩ := List.mem_map.1 ho
  have hlow := headerRows_off he
  have hhigh := (own_off hd).1
  have hoff : d.1.off = e.1.off := congrArg Prod.fst hx
  omega

/-- A name stands for one field of the register tables. -/
theorem rows_key_inj {p q : Page} {f g : Fld} {a b : Acc} (hf : (f, a) ∈ q.rows) (hg : (g, b) ∈ p.rows)
    (h : key q f = key p g) : q = p ∧ f = g := by
  have kf := rows_inPage hf
  have kg := rows_inPage hg
  simp only [Fld.inPage, Bool.and_eq_true, decide_eq_true_eq] at kf kg
  obtain ⟨rfl, hoff, hlsb⟩ := (key_inj kf.1 kg.1 kf.2 kg.2).1 h
  exact ⟨rfl, congrArg Prod.fst (List.inj_on_of_nodup_map (rows_placed q) hf hg (Prod.ext hoff hlsb))⟩

theorem stateErr_mem (p : Page) : (Reg.hdr.STATE_ERR, Acc.w1c) ∈ p.rows :=
  List.mem_append_left _ (by simp [headerRows])

theorem sticky_mem (p : Page) : (Reg.hdr.STICKY, Acc.w1c) ∈ p.rows :=
  List.mem_append_left _ (by simp [headerRows])

theorem deniedWrites_mem : (Reg.seb.DENIED_WRITES, Acc.ro) ∈ Page.rows .seb := by decide

theorem phase_mem : (Reg.rst.PHASE, Acc.ro) ∈ Page.rows .reset := by decide

/-! ### Every host write stands behind the permission check -/

theorem swPage_val (i : Fin 16) : swPage i = .stairwell i := by simp [swPage]
theorem arrPage_val (h : Fin 16) (g : Fin 17) : arrPage h g = .array h g := by simp [arrPage]
theorem memPage_val (h : Fin 16) (g : Fin 17) : memPage h g = .mems h g := by simp [memPage]
theorem hallPage_val (h : Fin 16) : hallPage h = .hall h := by simp [hallPage]
theorem hcPage_val (h : Fin 16) : hcPage h = .hallCache h := by simp [hcPage]
theorem scPage_val (h : Fin 16) : scPage h = .stack h := by simp [scPage]
theorem linkPage_val (l : Fin 8) : linkPage l = .link l := by simp [linkPage]

/-- A command does no more than a write of a word by a path: it has some effect where the write is permitted, is refused
where it is not, and changes nothing while the device is held in reset. -/
def WritesAs (c : Instr) (s : State) (path : Path) (p : Page) (off word : Nat) : Prop :=
  ∃ body, exec c s = .next (ifPermitted s path p off word body)

/-- A command that names its page by a number writes the page of that number. -/
theorem WritesAs.named {c : Instr} {s : State} {path : Path} {p q : Page} {off word : Nat} {body : State} (hq : q = p)
    (h : exec c s = .next (ifPermitted s path q off word body)) : WritesAs c s path p off word := hq ▸ ⟨body, h⟩

@[simp] theorem setBitsOf_zero (s : State) (p : Page) : setBitsOf s p 0 = s := by
  have hnil : bitList 0 = [] := by decide
  rw [setBitsOf, Nat.zero_and, hnil]
  rfl

/-- A host write beside which hardware sets no STICKY bit is the host write alone. -/
theorem beside_setBitsOf_zero (s : State) (p : Page) (off word : Nat) (body : State) :
    beside s p off word (fun u => setBitsOf u p 0) body = ifPermitted s .mainband p off word body := by
  simp only [beside, setBitsOf_zero, ifPermitted]

@[simp] theorem enterReports_nil (s : State) : enterReports s [] = s := by simp [enterReports]

theorem writeBeside_alone (s : State) (path : Path) (p : Page) (off word : Nat) :
    writeBeside s path p off word 0 = (writeReg s path p off word).1 := by
  simp [writeBeside, hwSets]

theorem writesAs_registerWrite (path : Path) (p : Page) (off : BitVec 12) (v : BitVec 32) (s : State) :
    WritesAs (.registerWrite path p off ⟨v, 0, none⟩) s path p off.toNat v.toNat := by
  refine ⟨writeWord s path p off.toNat v.toNat, ?_⟩
  change execRegisterWrite path p off ⟨v, 0, none⟩ s = _
  have h0 : (0 : BitVec 32).toNat = 0 := rfl
  simp only [execRegisterWrite, h0, writeBeside_alone, writeReg, ifPermitted]
  split
  · rfl
  · split <;> rfl

theorem writesAs_transition (path : Path) (target : BitVec 3) (s : State) :
    WritesAs (.transition path ⟨target, []⟩) s path .seb 0x044 3 := by
  change ∃ body, execTransition path ⟨target, []⟩ s = .next (ifPermitted s path .seb 0x044 3 body)
  rw [execTransition]
  dsimp only
  split
  · next h =>
    simp only [transitionRuns, Bool.and_eq_true, Bool.not_eq_true'] at h
    obtain ⟨⟨⟨⟨hheld, hperm⟩, -⟩, -⟩, -⟩ := h
    exact ⟨_, by rw [ifPermitted_of_reaches ⟨hheld, hperm⟩]⟩
  · exact ⟨_, rfl⟩

theorem writesAs_hostReset (v : BitVec 32) (s : State) :
    WritesAs (.hostReset ⟨v, []⟩) s .mainband .reset 0x04C v.toNat := by
  change ∃ body, execHostReset ⟨v, []⟩ s = .next (ifPermitted s .mainband .reset 0x04C v.toNat body)
  rw [execHostReset]
  split
  · exact ⟨s, rfl⟩
  · next h =>
    simp only [Bool.or_eq_true, Bool.not_eq_true', not_or, Bool.not_eq_true, Bool.not_eq_false] at h
    exact ⟨_, by rw [ifPermitted_of_reaches h]⟩

theorem writesAs_faultLatchRelease {p : Page} {f : Fld} (hf : latchBit p = some f) (s : State) :
    WritesAs (.faultLatchRelease ⟨p, false⟩) s .mainband p f.off (2 ^ f.lsb) := by
  refine ⟨latchAgain (wr s p f 0) p f false, ?_⟩
  change execFaultLatchRelease ⟨p, false⟩ s = _
  rw [execFaultLatchRelease, hf]
  rfl

/-- The word of a SWAP is named with its target, which no refusal looks at. -/
theorem writesAs_swap (h : Fin 16) (g : Fin 17) (target : Fin 32) (s : State) :
    WritesAs (.swap h g target) s .mainband (.hall h) 0x048 (g + 3 * 2 ^ 5 + target * 2 ^ 8) := by
  have hnamed : WritesAs (.swap h g target) s .mainband (.hall h) 0x048 (g + 3 * 2 ^ 5) := .named (hallPage_val h) rfl
  exact hnamed

/-- Every command that is a host's write stands behind the permission check of the word that it writes (R355, R363,
R371). -/
theorem hostWrite_writesAs {c : Instr} {path : Path} {p : Page} {off word : Nat} {s : State}
    (h : hostWrite c = some (path, p, off, word)) : WritesAs c s path p off word := by
  cases c with
  | registerWrite path page off value =>
    obtain ⟨v, hw, reading⟩ := value
    cases reading with
    | some r => cases h
    | none =>
      obtain ⟨rfl, h⟩ := Option.ite_none_right_eq_some.1 h
      cases h
      exact writesAs_registerWrite _ _ _ _ _
  | stickyClear page v hw | stickyMaskWrite page v hw | controlEnableWrite page v hw =>
    obtain ⟨rfl, h⟩ := Option.ite_none_right_eq_some.1 h
    cases h
    exact ⟨_, congrArg Host.Outcome.next (beside_setBitsOf_zero s p _ _ _)⟩
  | pairHighWrite path page off v =>
    obtain ⟨hoff, h⟩ := Option.ite_none_left_eq_some.1 h
    cases h
    exact ⟨_, if_neg hoff⟩
  | counterClear page off events =>
    cases events with
    | cons => cases h
    | nil => cases h; exact ⟨_, rfl⟩
  | clearTable reports =>
    cases reports with
    | cons => cases h
    | nil => cases h; exact ⟨_, congrArg Host.Outcome.next (enterReports_nil _)⟩
  | faultLatchRelease latch =>
    obtain ⟨page, hw⟩ := latch
    cases hw with
    | true => cases h
    | false =>
      obtain ⟨f, hf, e⟩ := Option.map_eq_some_iff.1 h
      cases e
      exact writesAs_faultLatchRelease hf s
  | transition path move =>
    obtain ⟨target, also⟩ := move
    cases also with
    | cons => cases h
    | nil => cases h; exact writesAs_transition _ _ _
  | hostReset write =>
    obtain ⟨v, also⟩ := write
    cases also with
    | cons => cases h
    | nil => cases h; exact writesAs_hostReset _ _
  | start i | kill i | killWithScrub i | resume i => cases h; exact .named (swPage_val i) rfl
  | listPtrWrite i path hi => cases h; exact .named (swPage_val i) rfl
  | quiesceSet i g | quiesceClear i g | galleryScrub i g => cases h; exact .named (arrPage_val i g) rfl
  | groupCmdClose i g slot => cases h; exact .named (arrPage_val i g) rfl
  | actSplitWrite i g v | memOpFill i g v | memOpCopy i g v => cases h; exact .named (memPage_val i g) rfl
  | winWordWrite i g k v => cases h; exact .named (memPage_val i g) rfl
  | drain i g | abandon i g | galleryResume i g => cases h; exact .named (hallPage_val i) rfl
  | hallRetire i => cases h; exact .named (hallPage_val i) rfl
  | swap i g target => cases h; exact writesAs_swap i g target s
  | dieRetire i v => cases h; exact .named (scPage_val i) rfl
  | wayDisableWrite i v => cases h; exact .named (hcPage_val i) rfl
  | linkRetrain l => cases h; exact .named (linkPage_val l) rfl
  | pairLowWrite | mcConfigWrite | calNow | mapWrite | load | switch | revert | challenge | attest | commitSvn
  | eraseRecord | writeCert => cases h; exact ⟨_, rfl⟩
  | _ => cases h

/-! ### What packets and signals leave of the host interface -/

/-- From `s` to `t` no more of the host interface has moved than its stream: the mainband is up or down as it was, and
FIFO_HOLD has advanced for the host interface page at most. -/
structure Signals (s t : State) : Prop where
  hif : t.hif = { s.hif with
    stream := t.hif.stream, unitNo := t.hif.unitNo, sent := t.hif.sent, queued := t.hif.queued }
  hold : ∀ q : Page, q ≠ .hif → fifoHold t q = fifoHold s q
  up : linkUp t = linkUp s

/-- The name of the field that holds whether the mainband is up. -/
def upKey : Nat := key .hif Reg.hif.HIF_STATE_UP

theorem upKey_ne (p : Page) {f : Fld} (hf : f.inPage = true) (ho : f.off ≠ 0x040) : upKey ≠ key p f := by
  simp only [Fld.inPage, Bool.and_eq_true, decide_eq_true_eq] at hf
  exact fun e => ho ((key_inj (by decide) hf.1 (by decide) hf.2).1 e).2.1.symm

theorem linkUp_wr (s : State) (p : Page) (f : Fld) (v : Nat) (hk : upKey ≠ key p f) :
    linkUp (wr s p f v) = linkUp s := by
  unfold linkUp on
  rw [rd_wr_ne _ _ _ _ _ _ hk]

namespace Signals

variable {s t : State}

theorem refl (s : State) : Signals s s := ⟨rfl, fun _ _ => rfl, rfl⟩

theorem wr (h : Signals s t) (p : Page) (f : Fld) (v : Nat) (hk : upKey ≠ key p f) : Signals s (wr t p f v) :=
  ⟨h.hif, h.hold, (linkUp_wr t p f v hk).trans h.up⟩

theorem count (h : Signals s t) (p : Page) (f : Fld) (n : Nat) (hk : upKey ≠ key p f) : Signals s (count t p f n) :=
  h.wr p f _ hk

theorem bump (h : Signals s t) (p : Page) (f : Fld) (hk : upKey ≠ key p f) : Signals s (bump t p f) := h.wr p f _ hk

theorem ite {c : Prop} [Decidable c] {a b : State} (ha : Signals s a) (hb : Signals s b) :
    Signals s (if c then a else b) := ite_keeps (P := Signals s) ha hb

theorem crossFifo (h : Signals s t) (n : Nat) : Signals s (crossFifo t .hif n) := by
  refine ⟨h.hif, fun q hq => ?_, h.up⟩
  rw [Machine.crossFifo, fifoHold_countHold, if_neg fun e => hq (Page.base_inj e)]
  exact h.hold q hq

theorem sendUnit (h : Signals s t) (u : Nat) : Signals s (sendUnit t u) := by
  refine ⟨?_, h.hold, h.up⟩
  rw [Machine.sendUnit, h.hif]

/-- Packets that are sent, and packets that wait, are the stream's. -/
theorem packets (h : Signals s t) (sent : List Packet) (queued : List Queued) :
    Signals s { t with hif := { t.hif with sent := sent, queued := queued } } := by
  refine ⟨?_, h.hold, h.up⟩
  rw [h.hif]

theorem emit (h : Signals s t) (p : Packet) : Signals s (emit t p) := by
  unfold Machine.emit
  extract_lets t1 t2 t3 t4 t5 t6
  have h1 : Signals s t1 := h.crossFifo _
  have h2 : Signals s t2 := (h1.wr _ _ _ (by decide)).ite h1
  have h3 : Signals s t3 := (h2.wr _ _ _ (by decide)).ite h2
  have h4 : Signals s t4 := (h3.bump _ _ (by decide)).ite h3
  have h5 : Signals s t5 := h4.count _ _ _ (by decide)
  have h6 : Signals s t6 := foldl_keeps (P := Signals s) (fun _ u hu => hu.sendUnit u) h5
  exact h6.packets _ _

theorem noteWait (h : Signals s t) (e : Queued) : Signals s (noteWait t e).1 :=
  ite_fst_keeps (P := Signals s) (h.bump _ _ (by decide)) h

theorem pump (h : Signals s t) (a b : Bool) (l : List Queued) : Signals s (pump t a b l).1 := by
  induction l generalizing t a b with
  | nil => exact h
  | cons e l ih =>
    rw [Machine.pump]
    split
    · exact ih h _ _
    · split
      · exact ih (h.emit _) _ _
      · exact ih (h.noteWait e) _ _

theorem flushQueue (h : Signals s t) : Signals s (flushQueue t) :=
  h.ite (((h.packets t.hif.sent []).pump _ _ _).packets _ _)

theorem transmit (h : Signals s t) (p : Packet) : Signals s (transmit t p) := (h.packets t.hif.sent _).flushQueue

theorem sendMsg {r : State → Nat → State} (hr : ∀ {u}, Signals s u → ∀ b, Signals s (r u b)) (h : Signals s t)
    (v : Nat) : Signals s (sendMsg r t v) :=
  (hr (h.bump _ _ (by decide)) _).ite ((h.transmit _).ite (hr (h.bump _ _ (by decide)) _))

theorem signalWith {r : State → Nat → State} (hr : ∀ {u}, Signals s u → ∀ b, Signals s (r u b)) (h : Signals s t)
    (v : Nat) : Signals s (signalWith r t v) := by
  refine (h.wr _ _ _ ?_).ite (h.sendMsg hr _)
  simp only [upKey, key, Reg.hif.HIF_STATE_UP, Reg.hif.VEC_CTRL_PENDING]
  omega

theorem raise (h : Signals s t) (n : Nat) (p : Page) (b : Nat) : Signals s (raise n t p b) := by
  induction n generalizing t p b with
  | zero => exact h
  | succ n ih =>
    have hset := h.wr p Reg.hdr.STICKY (rd t p Reg.hdr.STICKY ||| 2 ^ b) (upKey_ne p (by decide) (by decide))
    exact h.ite ((hset.signalWith (fun hu c => ih hu .hif c) _).ite hset)

theorem setSticky (h : Signals s t) (p : Page) (b : Nat) : Signals s (setSticky t p b) := h.raise 4 p b

end Signals

/-! ### A packet handed to the stream leaves -/

theorem foldl_sendUnit_sent (l : List Nat) (s : State) : (l.foldl sendUnit s).hif.sent = s.hif.sent :=
  foldl_keeps (P := fun u => u.hif.sent = s.hif.sent) (f := sendUnit) (fun _ _ h => h) rfl

/-- A packet that enters the stream is the newest of those sent. -/
theorem emit_sent (s : State) (p : Packet) : (emit s p).hif.sent = p :: s.hif.sent := by
  unfold emit
  extract_lets t1 t2 t3 t4 t5 t6
  have h1 : t1.hif.sent = s.hif.sent := rfl
  have h2 : t2.hif.sent = s.hif.sent := ite_keeps (P := fun u => u.hif.sent = s.hif.sent) h1 h1
  have h3 : t3.hif.sent = s.hif.sent := ite_keeps (P := fun u => u.hif.sent = s.hif.sent) h2 h2
  have h4 : t4.hif.sent = s.hif.sent := ite_keeps (P := fun u => u.hif.sent = s.hif.sent) h3 h3
  have h6 : t6.hif.sent = s.hif.sent := (foldl_sendUnit_sent _ _).trans h4
  exact congrArg (p :: ·) h6

theorem noteWait_sent (s : State) (e : Queued) : (noteWait s e).1.hif.sent = s.hif.sent :=
  ite_fst_keeps (P := fun u => u.hif.sent = s.hif.sent) rfl rfl

theorem noteWait_packet (s : State) (e : Queued) : (noteWait s e).2.packet = e.packet := by
  unfold noteWait
  split <;> rfl

/-- No packet is lost as the stream takes what it can: each has been sent before, is sent now, or goes on waiting. -/
theorem mem_pump {p : Packet} {s : State} {a b : Bool} {l : List Queued}
    (h : p ∈ s.hif.sent ∨ p ∈ l.map Queued.packet) :
    p ∈ (pump s a b l).1.hif.sent ∨ p ∈ (pump s a b l).2.map Queued.packet := by
  induction l generalizing s a b with
  | nil => exact h
  | cons e l ih =>
    rw [List.map_cons, List.mem_cons] at h
    rw [pump]
    split
    · rw [List.map_cons, List.mem_cons]
      rcases h with h | rfl | h
      · exact (ih (.inl h)).imp_right .inr
      · exact .inr (.inl rfl)
      · exact (ih (.inr h)).imp_right .inr
    · split
      · refine ih ?_
        rw [emit_sent, List.mem_cons]
        rcases h with h | h | h
        · exact .inl (.inr h)
        · exact .inl (.inl h)
        · exact .inr h
      · rw [List.map_cons, List.mem_cons, noteWait_packet]
        rcases h with h | h | h
        · exact (ih (.inl ((noteWait_sent s e).symm ▸ h))).imp_right .inr
        · exact .inr (.inl h)
        · exact (ih (.inr h)).imp_right .inr

/-- A packet handed to the stream has been sent or waits. -/
theorem leaves_transmit (s : State) (p : Packet) : Leaves (transmit s p) p := by
  unfold transmit transmitFor flushQueue Leaves toHost
  split
  · simp
  · rw [List.mem_append]
    exact mem_pump (.inr (by simp))

/-- A request is answered while the mainband is up. -/
theorem leaves_complete {s : State} (hup : linkUp s = true) (tag status len : Nat) (data : Option Nat) :
    Leaves (complete s tag status len data) (.cpl tag status len data) := by
  unfold complete
  extract_lets u
  have hu : linkUp u = true := by
    refine ite_keeps (P := fun u => linkUp u = true) ?_ hup
    rw [bump, count, linkUp_wr _ _ _ _ (by decide)]
    exact hup
  rw [if_pos hu]
  exact leaves_transmit _ _

/-! ### A host request that arrives -/

/-- The device owes the host the room of its requests. -/
def owing (s : State) (posted nonposted : Nat) : State :=
  { s with hif := { s.hif with owedPosted := posted, owedNonposted := nonposted } }

/-- A request within its credit is executed, and the room that it took is owed back. -/
theorem hostRequest_arrived {s : State} {posted nonposted len : Nat} (h : InCredit s posted nonposted len) (units : Nat)
    (body : State → State) :
    ∃ x y, hostRequest s posted nonposted units body = owing (body (requestArrived s posted nonposted units)) x y := by
  obtain ⟨hopen, -, hposted, hnonposted⟩ := h
  have hroom : ¬(2048 < (countUnits s units).hif.hostPosted + posted
      ∨ 256 < (countUnits s units).hif.hostNonposted + nonposted) :=
    not_or.2 ⟨Nat.not_lt.2 hposted, Nat.not_lt.2 hnonposted⟩
  unfold hostRequest
  rw [hopen]
  dsimp only
  rw [if_neg (by decide), if_neg hroom]
  split
  · exact ⟨_, _, rfl⟩
  · exact ⟨_, _, rfl⟩

/-- A command that is a host request within its credit leaves what the request does, with its room owed back. -/
theorem completes_hostRequest {c : Instr} {s : State} {posted nonposted len units : Nat} {body : State → State}
    {E : State → Prop} (hc : exec c s = .next (hostRequest s posted nonposted units body))
    (h : InCredit s posted nonposted len)
    (hE : ∀ x y, E (owing (body (requestArrived s posted nonposted units)) x y)) : Completes c s E := by
  obtain ⟨x, y, e⟩ := hostRequest_arrived h units body
  exact ⟨_, hc, e ▸ hE x y⟩

theorem rd_owing (s : State) (x y : Nat) (q : Page) (f : Fld) : rd (owing s x y) q f = rd s q f := rfl

theorem leaves_owing {s : State} {p : Packet} (h : Leaves s p) (x y : Nat) : Leaves (owing s x y) p := h

section Arrived

variable (s : State) (posted nonposted units : Nat)

/-- The arrival of a request writes UNITS_RX alone. -/
theorem rd_requestArrived {q : Page} {f : Fld} (hk : key q f ≠ key .hif Reg.hif.UNITS_RX) :
    rd (requestArrived s posted nonposted units) q f = rd s q f := by
  change rd (wr (crossFifo s .hif units) .hif Reg.hif.UNITS_RX _) q f = _
  rw [rd_wr_ne _ _ _ _ _ _ hk]
  rfl

@[simp] theorem linkUp_requestArrived : linkUp (requestArrived s posted nonposted units) = linkUp s := by
  unfold linkUp on
  rw [rd_requestArrived _ _ _ _ (by decide)]

@[simp] theorem ready_requestArrived : ready (requestArrived s posted nonposted units) = ready s := by
  unfold ready phaseAtLeast
  rw [rd_requestArrived _ _ _ _ (by decide)]
  rfl

@[simp] theorem inRecovery_requestArrived : inRecovery (requestArrived s posted nonposted units) = inRecovery s := by
  unfold inRecovery on
  rw [rd_requestArrived _ _ _ _ (by decide)]
  rfl

@[simp] theorem statePermits_requestArrived (path : Path) (p : Page) :
    statePermits (requestArrived s posted nonposted units) path p = statePermits s path p := rfl

@[simp] theorem permits_requestArrived (path : Path) (p : Page) (off : Nat) :
    permits (requestArrived s posted nonposted units) path p off = permits s path p off := by
  simp only [permits, phasePermits, statePermits_requestArrived, ready_requestArrived, inRecovery_requestArrived]

end Arrived

/-- A request that has arrived finds the mainband up. -/
theorem linkUp_arrived {s : State} {posted nonposted len : Nat} (h : InCredit s posted nonposted len) (units : Nat) :
    linkUp (requestArrived s posted nonposted units) = true := by
  have hopen := h.1
  simp only [mainbandOpen, Bool.and_eq_true] at hopen
  rw [linkUp_requestArrived]
  exact hopen.1.1

/-! ### What a refusal changes -/

/-- No part of the device has moved but registers, the host interface and what its crossings take. -/
def HostSide (s t : State) : Prop :=
  t = { s with regs := t.regs, hif := t.hif, fifoHolds := t.fifoHolds, drawn := t.drawn }

theorem closed_hostSide (s : State) : Closed (HostSide s) [.regs, .fifoHolds, .hif, .drawn] := by
  intro q hq
  simp only [List.mem_cons, List.not_mem_nil, or_false] at hq
  rcases hq with rfl | rfl | rfl | rfl
  · intro t p f v (h : t = _)
    rw [HostSide, h]
    rfl
  all_goals
    intro t x (h : t = _)
    rw [HostSide, h]

/-- The state in which a refusal has counted a write that the lifecycle state denies. -/
def denied (s : State) (path : Path) (p : Page) : State := if statePermits s path p then s else denyWrite s

theorem refuseWrite_of_starts {p : Page} {off word : Nat} (h : StartsList p off word) (s : State) (path : Path) :
    refuseWrite s path p off word =
      if inRecovery (denied s path p) ∨ (denied s path p).seb.state = 4 then stateErr (denied s path p) p
      else denied s path p := by
  obtain ⟨i, rfl, hoff, hword⟩ := h
  by_cases hs : inRecovery (denied s path (.stairwell i)) = true ∨ (denied s path (.stairwell i)).seb.state = 4
  · rw [if_pos hs]
    exact if_pos ⟨hoff, hword, hs⟩
  · rw [if_neg hs]
    exact if_neg fun hall => hs hall.2.2

theorem refuseWrite_of_not_starts {p : Page} {off word : Nat} (h : ¬StartsList p off word) (s : State) (path : Path) :
    refuseWrite s path p off word = denied s path p := by
  cases p with
  | stairwell i => exact if_neg fun ⟨hoff, hword, _⟩ => h ⟨i, rfl, hoff, hword⟩
  | _ => rfl

/-- A refusal leaves the device as a denial leaves it, but for STATE_ERR of the page of a START. -/
theorem refuseWrite_cases (s : State) (path : Path) (p : Page) (off word : Nat) :
    refuseWrite s path p off word = denied s path p
      ∨ StartsList p off word ∧ refuseWrite s path p off word = stateErr (denied s path p) p := by
  by_cases h : StartsList p off word
  · rw [refuseWrite_of_starts h]
    split
    · exact .inr ⟨h, rfl⟩
    · exact .inl rfl
  · exact .inl (refuseWrite_of_not_starts h s path)

theorem startsList_home {p : Page} {off word : Nat} (h : StartsList p off word) : p.home = p := by
  obtain ⟨i, rfl, -⟩ := h
  rfl

theorem signals_refuseWrite (s : State) (path : Path) (p : Page) (off word : Nat) :
    Signals s (refuseWrite s path p off word) := by
  have hd : Signals s (denied s path p) :=
    (Signals.refl s).ite (((Signals.refl s).bump _ _ (by decide)).setSticky _ _)
  rcases refuseWrite_cases s path p off word with e | ⟨-, e⟩ <;> rw [e]
  · exact hd
  · exact hd.wr _ _ _ (upKey_ne _ (by decide) (by decide))

/-- A field of the register tables keeps its value under a write of another. -/
theorem rd_wr_rows {p q : Page} {f g : Fld} {a b : Acc} (hf : (f, a) ∈ q.rows) (hg : (g, b) ∈ p.rows)
    (hne : ¬(q = p ∧ f = g)) (s : State) (v : Nat) : rd (wr s p g v) q f = rd s q f :=
  rd_wr_ne _ _ _ _ _ _ fun e => hne (rows_key_inj hf hg e)

/-- A denial writes DENIED_WRITES and STICKY of the SEB page, and what its signal writes of the host interface page. -/
theorem rd_denied {q : Page} {f : Fld} {a : Acc} (hf : (f, a) ∈ q.rows) (hq : q ≠ .hif)
    (hne : ¬(q = .seb ∧ (f = Reg.seb.DENIED_WRITES ∨ f = Reg.hdr.STICKY))) (s : State) (path : Path) (p : Page) :
    rd (denied s path p) q f = rd s q f := by
  unfold denied
  split
  · rfl
  · rw [denyWrite, rd_setSticky hq (rows_inPage hf) _ _ _ fun e => hne ?_]
    · exact rd_wr_rows hf deniedWrites_mem (fun ⟨h, h'⟩ => hne ⟨h, .inl h'⟩) _ _
    · obtain ⟨h, h'⟩ := rows_key_inj hf (sticky_mem .seb) e
      exact ⟨h, .inr h'⟩

/-- A refusal changes what the rules name of the registers, and no other part of the device (R355, R363). -/
theorem onlyRegisters_refuseWrite (s : State) (path : Path) (p : Page) (off word : Nat) :
    OnlyRegisters s (refuseWrite s path p off word) fun q f =>
      (q = .seb ∧ (f = Reg.seb.DENIED_WRITES ∨ f = Reg.hdr.STICKY))
        ∨ (StartsList p off word ∧ q = p ∧ f = Reg.hdr.STATE_ERR) := by
  refine ⟨refuseWrite_keeps (closed_hostSide s) s path p off word rfl, (signals_refuseWrite s path p off word).hold, ?_⟩
  intro q f a hf hq hgone
  obtain ⟨hseb, herr⟩ := not_or.1 hgone
  rcases refuseWrite_cases s path p off word with e | ⟨hst, e⟩ <;> rw [e]
  · exact rd_denied hf hq hseb s path p
  · rw [stateErr, startsList_home hst, rd_wr_rows hf (stateErr_mem p) (fun h => herr ⟨hst, h⟩)]
    exact rd_denied hf hq hseb s path p

/-- A refused START in recovery or in RETIRED sets STATE_ERR (R355, R363). -/
theorem refuseWrite_sets_stateErr {p : Page} {off word : Nat} (h : StartsList p off word) {s : State} {path : Path}
    (hs : inRecovery (denied s path p) = true ∨ (denied s path p).seb.state = 4) :
    rd (refuseWrite s path p off word) p Reg.hdr.STATE_ERR = 1 := by
  rw [refuseWrite_of_starts h, if_pos hs, stateErr, startsList_home h, rd_wr]
  rfl

theorem denied_of_permits {s : State} {path : Path} {p : Page} (h : statePermits s path p = true) :
    denied s path p = s := if_pos h

theorem denied_of_denies {s : State} {path : Path} {p : Page} (h : statePermits s path p = false) :
    denied s path p = denyWrite s := if_neg (by simp [h])

/-- A write that the lifecycle state permits and the reset phase does not leaves nothing, when it starts no list in
recovery (R355, R371). -/
theorem refuseWrite_of_statePermits {s : State} {path : Path} {p : Page} {off word : Nat}
    (h : statePermits s path p = true) (hst : inRecovery s = true → ¬StartsList p off word) :
    refuseWrite s path p off word = s := by
  by_cases hs : StartsList p off word
  · have hlife : s.seb.state ≠ 4 := by
      obtain ⟨i, rfl, -⟩ := hs
      intro e
      simp [statePermits, e] at h
    have hrec : ¬inRecovery s = true := fun hr => hst hr hs
    rw [refuseWrite_of_starts hs, denied_of_permits h, if_neg (not_or.2 ⟨hrec, hlife⟩)]
  · rw [refuseWrite_of_not_starts hs, denied_of_permits h]

/-- Before READY a write reaches the host interface and reset pages alone, and in recovery SEB and the service words
too (R355, R371). -/
theorem permits_of_early {s : State} {path : Path} {p : Page} {off : Nat} (hr : ready s = false) (hhif : p ≠ .hif)
    (hrst : p ≠ .reset)
    (hrec : inRecovery s = true → p ≠ .seb ∧ (p = .mcService → off ∉ ([0x054, 0x058, 0x05C, 0x060] : List Nat))) :
    permits s path p off = false := by
  have hphase : phasePermits s p off = false := by
    cases h : inRecovery s with
    | false => simp [phasePermits, hr, hhif, hrst, h]
    | true =>
      obtain ⟨hseb, hmc⟩ := hrec h
      simp only [phasePermits, hr, h, beq_eq_false_iff_ne.2 hhif, beq_eq_false_iff_ne.2 hrst,
        beq_eq_false_iff_ne.2 hseb, Bool.false_or, Bool.true_and, Bool.and_eq_false_iff, beq_eq_false_iff_ne]
      exact (em (p = .mcService)).symm.imp_right fun e => by
        rw [List.contains_eq_mem, decide_eq_false_iff_not]
        exact hmc e
  rw [permits, hphase, Bool.and_false]

/-! ### What a register read changes -/

/-- A read of a register leaves the host interface, the reset hold and every field after the header, but for those of
the memories pages. -/
structure Reads (s t : State) : Prop where
  hif : t.hif = s.hif
  rst : t.rst = s.rst
  rd : ∀ (q : Page) (f : Fld), f.inPage = true → 0x040 ≤ f.off → (∀ h g, q ≠ .mems h g) → rd t q f = rd s q f

theorem Reads.refl (s : State) : Reads s s := ⟨rfl, rfl, fun _ _ _ _ _ => rfl⟩

theorem Reads.up {s t : State} (h : Reads s t) : linkUp t = linkUp s := by
  unfold linkUp on
  rw [h.rd .hif Reg.hif.HIF_STATE_UP (by decide) (by decide) (by simp)]

theorem reads_readData (s : State) (p : Page) : Reads s (readData s p).1 := by
  unfold readData
  dsimp only
  split
  · refine ⟨rfl, rfl, fun q f hin hoff _ => rd_wr_ne _ _ _ _ _ _ fun e => ?_⟩
    simp only [Fld.inPage, Bool.and_eq_true, decide_eq_true_eq] at hin
    have := ((key_inj hin.1 (by decide) hin.2 (by decide)).1 e).2.1
    rw [this] at hoff
    exact absurd hoff (by decide)
  · exact .refl s

/-- A word in which no bit has flipped reads as it stands: whole, or with an error that stands already. -/
theorem upsetWord_unflipped (s : State) (h g m u : Nat) : ∃ r, upsetWord s h g m u [] = (s, r) ∧ r ≠ .corrected := by
  unfold upsetWord
  split
  · exact ⟨.clean, rfl, nofun⟩
  · rw [if_pos (show ([] : List Nat).length ≤ correctable m from Nat.zero_le _)]
    refine ⟨_, rfl, ?_⟩
    split <;> simp

theorem reads_readWindow (s : State) (h : Fin 16) (g : Fin 17) (i : Nat) : Reads s (readWindow s h g i []).1 := by
  unfold readWindow
  split
  · exact .refl s
  · next m w _ =>
    obtain ⟨r, e, hr⟩ := upsetWord_unflipped s h g m (w / unitWords m * unitWords m)
    have hflips : flipList m [] = [] := rfl
    dsimp only
    rw [hflips, e]
    dsimp only
    rw [if_neg hr]
    refine ⟨rfl, rfl, fun q f hin _ hq => ?_⟩
    have hne : q ≠ memPage h g := fun hp => hq h g (hp.trans (memPage_val h g))
    rw [rd_wr_other _ _ _ _ _ _ hne (by decide) hin, rd_wr_other _ _ _ _ _ _ hne (by decide) hin]

theorem reads_readPlain (s : State) (p : Page) (off : Nat) : Reads s (readPlain s p off).1 := by
  have hclear : (readClear s p off false).1 = s := by rw [readClear, rcFields_nil]; rfl
  unfold readPlain
  dsimp only
  rw [hclear]
  split <;> exact ⟨rfl, rfl, fun _ _ _ _ _ => rfl⟩

theorem reads_readReg (s : State) (path : Path) (p : Page) (off : Nat) : Reads s (readReg s path p off).1 := by
  unfold readReg
  split
  · exact reads_readData s p
  · split
    · exact reads_readWindow _ _ _ _
    · split
      · exact ⟨rfl, rfl, fun _ _ _ _ _ => rfl⟩
      · split
        · unfold readHigh
          split <;> exact ⟨rfl, rfl, fun _ _ _ _ _ => rfl⟩
        · exact reads_readPlain s p off

theorem reads_readSpace (s : State) (path : Path) (a : Nat) : Reads s (readSpace s path a).1 := by
  unfold readSpace
  split
  · exact reads_readReg _ _ _ _
  · exact .refl s

/-! ### Whether the sideband answers -/

theorem sidebandOpen_congr {s t : State} (hheld : t.rst = s.rst)
    (hphase : rd t .reset Reg.rst.PHASE = rd s .reset Reg.rst.PHASE)
    (hmodule : t.hif.sidebandModule = s.hif.sidebandModule) : sidebandOpen t = sidebandOpen s := by
  rw [sidebandOpen, sidebandOpen, phaseAtLeast, phaseAtLeast, hheld, hphase, hmodule]

theorem sidebandOpen_read {s t : State} (h : Reads s t) : sidebandOpen t = sidebandOpen s :=
  sidebandOpen_congr h.rst (h.rd _ _ (by decide) (by decide) (by simp)) (congrArg HostIf.sidebandModule h.hif)

theorem sidebandOpen_refuseWrite (s : State) (path : Path) (p : Page) (off word : Nat) :
    sidebandOpen (refuseWrite s path p off word) = sidebandOpen s := by
  obtain ⟨hparts, -, hrows⟩ := onlyRegisters_refuseWrite s path p off word
  refine sidebandOpen_congr (congrArg State.rst hparts :) (hrows _ _ _ phase_mem nofun ?_)
    (congrArg HostIf.sidebandModule (signals_refuseWrite s path p off word).hif :)
  rintro (⟨h, -⟩ | ⟨⟨i, hi, -⟩, hp, -⟩)
  · cases h
  · rw [hi] at hp
    cases hp

/-! ### Requests before READY, and requests that are refused -/

theorem exec_regRd {s : State} (h : InCredit s 0 1 4) (tag : BitVec 10) {addr : BitVec 64}
    (hlegal : regLegal addr.toNat 4 = true) :
    exec (.regRd tag addr 4) s = .next (hostRequest s 0 1 1 fun u =>
      complete (returnRead (readSpace u .mainband addr.toNat).1 .mainband (readSpace u .mainband addr.toNat).2)
        tag.toNat 0 4 (some (readSpace u .mainband addr.toNat).2)) := by
  change execRegRd tag addr 4 s = _
  simp only [execRegRd, h.2.1, hlegal, Bool.not_true, Bool.false_eq_true, if_false, if_true]

theorem exec_regWr {s : State} (h : InCredit s 0 1 4) (tag : BitVec 10) {addr : BitVec 64} (v : BitVec 32)
    (hlegal : regLegal addr.toNat 4 = true) {p : Page} (hpage : pageAt addr.toNat = some p) :
    exec (.regWr tag addr 4 v) s = .next (hostRequest s 0 1 (ceilDiv (32 + 4) 128) fun u =>
      complete (writeReg u .mainband p (addr.toNat % 4096) v.toNat).1 tag.toNat
        (if (writeReg u .mainband p (addr.toNat % 4096) v.toNat).2 then 0 else 2) 1 none) := by
  change execRegWr tag addr 4 v s = _
  simp only [execRegWr, h.2.1, hlegal, writeSpace, hpage, Bool.not_true, Bool.false_eq_true, if_false, if_true]

/-- A write that is not permitted is refused. -/
theorem writeReg_of_not_permits {s : State} {path : Path} {p : Page} {off : Nat} (h : permits s path p off = false)
    (word : Nat) : writeReg s path p off word = (refuseWrite s path p off word, false) := by
  rw [writeReg, h]
  rfl

theorem writeReg_of_permits {s : State} {path : Path} {p : Page} {off : Nat} (h : permits s path p off = true)
    (word : Nat) : writeReg s path p off word = (writeWord s path p off word, true) := by
  rw [writeReg, h]
  rfl

/-- A register write on the mainband that is not permitted is refused and answered CA (R363, R371). -/
theorem completes_regWr_refused {s : State} {E : State → Prop} (h : InCredit s 0 1 4) (tag : BitVec 10)
    {addr : BitVec 64} (v : BitVec 32) (hlegal : regLegal addr.toNat 4 = true) {p : Page}
    (hpage : pageAt addr.toNat = some p) (hperm : permits s .mainband p (addr.toNat % 4096) = false)
    (hE : ∀ n x y, E (owing (complete (refuseWrite (requestArrived s 0 1 n) .mainband p (addr.toNat % 4096) v.toNat)
      tag.toNat 2 1 none) x y)) :
    Completes (.regWr tag addr 4 v) s E := by
  refine completes_hostRequest (exec_regWr h tag v hlegal hpage) h fun x y => ?_
  rw [writeReg_of_not_permits ((permits_requestArrived _ _ _ _ _ _ _).trans hperm)]
  exact hE _ x y

theorem leaves_regWr_refused {s : State} (h : InCredit s 0 1 4) (tag : BitVec 10) {addr : BitVec 64} (v : BitVec 32)
    (hlegal : regLegal addr.toNat 4 = true) {p : Page} (hpage : pageAt addr.toNat = some p)
    (hperm : permits s .mainband p (addr.toNat % 4096) = false) :
    Completes (.regWr tag addr 4 v) s fun t => Leaves t (.cpl tag.toNat 2 1 none) := by
  refine completes_regWr_refused h tag v hlegal hpage hperm fun n x y => leaves_owing (leaves_complete ?_ _ _ _ _) x y
  exact (signals_refuseWrite _ _ _ _ _).up.trans (linkUp_arrived h n)

/-- An answer writes the host interface page alone. -/
theorem rd_complete {q : Page} {f : Fld} (hq : q ≠ .hif) (hf : f.inPage = true) (s : State) (tag status len : Nat)
    (data : Option Nat) : rd (complete s tag status len data) q f = rd s q f := by
  unfold complete
  extract_lets u
  have hu : rd u q f = rd s q f :=
    ite_keeps (P := fun u => rd u q f = rd s q f) (rd_bump_other s _ _ _ _ hq (by decide) hf) rfl
  clear_value u
  split
  · exact (rd_transmit hq hf _ _).trans hu
  · exact hu

/-- The arrival of a request leaves every page but the host interface's. -/
theorem rd_requestArrived_page {q : Page} {f : Fld} (hq : q ≠ .hif) (hf : f.inPage = true) (s : State)
    (posted nonposted units : Nat) : rd (requestArrived s posted nonposted units) q f = rd s q f :=
  rd_count_other (crossFifo s .hif units) .hif q Reg.hif.UNITS_RX f units hq (by decide) hf

/-- Before READY a write on the mainband is answered CA and leaves every page but the host interface's (R371). -/
theorem regWr_early {s : State} (h : InCredit s 0 1 4) (tag : BitVec 10) {addr : BitVec 64} (v : BitVec 32)
    (hlegal : regLegal addr.toNat 4 = true) {p : Page} (hpage : pageAt addr.toNat = some p)
    (hperm : permits s .mainband p (addr.toNat % 4096) = false) (hstate : statePermits s .mainband p = true)
    (hrec : inRecovery s = false) :
    Completes (.regWr tag addr 4 v) s fun t => Leaves t (.cpl tag.toNat 2 1 none)
      ∧ (∀ q f a, (f, a) ∈ q.rows → q ≠ .hif → rd t q f = rd s q f) ∧ HostSide s t := by
  refine completes_regWr_refused h tag v hlegal hpage hperm fun n x y => ?_
  rw [refuseWrite_of_statePermits (s := requestArrived s 0 1 n) hstate (by simp [hrec])]
  refine ⟨leaves_owing (leaves_complete (linkUp_arrived h n) _ _ _ _) x y, fun q f a hf hq => ?_, ?_⟩
  · rw [rd_owing, rd_complete hq (rows_inPage hf), rd_requestArrived_page hq (rows_inPage hf)]
  · have k := closed_hostSide s
    exact k .hif (by decide) _ _ (complete_keeps k _ _ _ _ _ (k .hif (by decide) _ _
      (countUnits_keeps (k.sub (by decide)) s _ rfl)))

/-- A read on the mainband is answered, in any phase, with the word that it reads (R371). -/
theorem regRd_answered {s : State} (h : InCredit s 0 1 4) (tag : BitVec 10) {addr : BitVec 64}
    (hlegal : regLegal addr.toNat 4 = true) :
    Completes (.regRd tag addr 4) s fun t =>
      Leaves t (.cpl tag.toNat 0 4 (some (readSpace (requestArrived s 0 1 1) .mainband addr.toNat).2)) := by
  refine completes_hostRequest (exec_regRd h tag hlegal) h fun x y => leaves_owing (leaves_complete ?_ _ _ _ _) x y
  exact (reads_readSpace _ _ _).up.trans (linkUp_arrived h 1)

/-- A sideband request whose answer leaves the sideband open is answered. -/
theorem exec_sidebandRequest {s : State} {addr : BitVec 64} {op : SidebandOp} {t : State} {r : SidebandReply}
    (hopen : sidebandOpen s = true) (hserve : serveSideband s addr.toNat op = (t, r))
    (ht : sidebandOpen t = sidebandOpen s) :
    exec (.sidebandRequest addr ⟨op, false, none⟩) s =
      .next { t with hif := { t.hif with sideband := r :: t.hif.sideband } } := by
  change execSidebandRequest addr ⟨op, false, none⟩ s = _
  simp only [execSidebandRequest, hopen, if_true, hserve, Bool.false_eq_true, if_false, reply, ht.trans hopen]

theorem serveSideband_write_refused {s : State} {addr : Nat} (v : BitVec 32) {p : Page}
    (hlegal : regLegal addr 4 = true) (hpage : pageAt addr = some p)
    (hperm : permits s .sideband p (addr % 4096) = false) :
    serveSideband s addr (.write v) = (refuseWrite s .sideband p (addr % 4096) v.toNat, .error) := by
  simp only [serveSideband, hlegal, writeSpace, hpage, writeReg_of_not_permits hperm, Bool.not_true, Bool.false_eq_true,
    if_false]

/-- A register write on the sideband that is not permitted is refused and answered with an error (R363, R371). -/
theorem exec_sidebandWrite_refused {s : State} {addr : BitVec 64} (v : BitVec 32) {p : Page}
    (hopen : sidebandOpen s = true) (hlegal : regLegal addr.toNat 4 = true) (hpage : pageAt addr.toNat = some p)
    (hperm : permits s .sideband p (addr.toNat % 4096) = false) :
    let t := refuseWrite s .sideband p (addr.toNat % 4096) v.toNat
    exec (.sidebandRequest addr ⟨.write v, false, none⟩) s =
      .next { t with hif := { t.hif with sideband := .error :: t.hif.sideband } } :=
  exec_sidebandRequest hopen (serveSideband_write_refused v hlegal hpage hperm) (sidebandOpen_refuseWrite _ _ _ _ _)

/-- A read on the sideband is answered, in any phase that it is open in, with the word that it reads (R371). -/
theorem exec_sidebandRead {s : State} {addr : BitVec 64} (hopen : sidebandOpen s = true)
    (hlegal : regLegal addr.toNat 4 = true) :
    Completes (.sidebandRequest addr ⟨.read, false, none⟩) s fun t =>
      t.hif.sideband = .data ((readSpace s .sideband addr.toNat).2 % 2 ^ 32) :: s.hif.sideband := by
  have hreads := reads_readSpace s .sideband addr.toNat
  refine ⟨_, exec_sidebandRequest hopen (if_neg (by simp [hlegal])) ?_, ?_⟩
  · exact sidebandOpen_read ⟨hreads.hif, hreads.rst, hreads.rd⟩
  · exact congrArg (_ :: HostIf.sideband ·) hreads.hif

/-- Before READY a read of the aperture is answered UR (R371). -/
theorem aptRd_early {s : State} {len : Nat} (h : InCredit s 0 1 len) (hr : ready s = false) (tag : BitVec 10)
    (addr : BitVec 64) : Completes (.aptRd tag addr len) s fun t => Leaves t (.cpl tag.toNat 1 len none) := by
  refine completes_hostRequest (if_neg (by simp [h.2.1])) h fun x y => leaves_owing ?_ x y
  rw [ready_requestArrived, hr]
  exact leaves_complete (linkUp_arrived h 1) _ _ _ _

/-- Before READY a write of the aperture is discarded and counted (R371). -/
theorem aptWr_early {s : State} {len : Nat} (h : InCredit s (ceilDiv (32 + len) 128) 0 len) (hr : ready s = false)
    (addr : BitVec 64) (v : Nat) :
    Completes (.aptWr addr len v) s fun t => Advanced s t .hif Reg.hif.UR_DISCARDS ∧ t.dram = s.dram := by
  refine completes_hostRequest (if_neg (by simp [h.2.1])) h fun x y => ?_
  rw [ready_requestArrived, hr]
  refine ⟨?_, rfl⟩
  refine (rd_bump _ _ _).trans ?_
  rw [rd_requestArrived _ _ _ _ (by decide)]

/-! ### Host writes, whatever command they are -/

/-- A host's write to a device that is held in reset changes nothing. -/
theorem WritesAs.held {c : Instr} {s : State} {path : Path} {p : Page} {off word : Nat}
    (h : WritesAs c s path p off word) (hheld : s.rst.held = true) : exec c s = .next s := by
  obtain ⟨body, e⟩ := h
  rw [e, ifPermitted, hheld]
  rfl

/-- A host's write that is not permitted is refused. -/
theorem WritesAs.refused {c : Instr} {s : State} {path : Path} {p : Page} {off word : Nat}
    (h : WritesAs c s path p off word) (hheld : s.rst.held = false) (hperm : permits s path p off = false) :
    exec c s = .next (refuseWrite s path p off word) := by
  obtain ⟨body, e⟩ := h
  rw [e, ifPermitted, hheld, hperm]
  rfl

theorem stateErr_onlyRegisters {p : Page} (hp : p.home = p) (s : State) :
    OnlyRegisters s (stateErr s p) fun q f => q = p ∧ f = Reg.hdr.STATE_ERR := by
  refine ⟨rfl, fun _ _ => rfl, fun q f a hf _ hne => ?_⟩
  rw [stateErr, hp]
  exact rd_wr_rows hf (stateErr_mem p) hne s 1

/-- A denied write is counted, and reported by ACCESS_DENIED (R363). -/
theorem denyWrite_counts (s : State) : Advanced s (denyWrite s) .seb Reg.seb.DENIED_WRITES
    ∧ sticky (denyWrite s) .seb Sticky.seb.ACCESS_DENIED = true := by
  refine ⟨?_, sticky_setSticky _ _ _ (by decide)⟩
  rw [Advanced, denyWrite, rd_setSticky_own (by simp) (by decide) _ _ (by decide)]
  exact rd_bump _ _ _

/-- A refusal counts a write that the lifecycle state denies, whatever else it leaves (R363). -/
theorem refuseWrite_counts {s : State} {path : Path} {p : Page} (off word : Nat) (h : statePermits s path p = false) :
    Advanced s (refuseWrite s path p off word) .seb Reg.seb.DENIED_WRITES
      ∧ sticky (refuseWrite s path p off word) .seb Sticky.seb.ACCESS_DENIED = true := by
  obtain ⟨hcount, hsticky⟩ := denyWrite_counts s
  rcases refuseWrite_cases s path p off word with e | ⟨⟨i, rfl, -⟩, e⟩ <;> rw [e, denied_of_denies h]
  · exact ⟨hcount, hsticky⟩
  · have hother : ∀ f : Fld, f.inPage = true →
        rd (stateErr (denyWrite s) (.stairwell i)) .seb f = rd (denyWrite s) .seb f :=
      fun f hf => rd_wr_other _ _ _ _ _ _ nofun (by decide) hf
    exact ⟨(hother _ (by decide)).trans hcount, (sticky_other (hother _ (by decide)) _).trans hsticky⟩

/-- Settles O51: the requests and the host's writes, each through the one check that stands before its effect. -/
theorem accessBeforeReady : Obligations.AccessBeforeReady := by
  unfold Obligations.AccessBeforeReady
  refine ⟨?read, ?early, ?recovery, ?mainbandWrite, ?sidebandWrite, ?apertureRead, ?apertureWrite, ?mainbandDenied,
    ?sidebandDenied, ?held, ?ignored, ?start, ?denied, ?sidebandRead⟩
  case read =>
    intro tag addr s _ hcredit hlegal
    exact regRd_answered hcredit tag hlegal
  case early =>
    intro path p off word s _ hstate hp
    refine writeReg_of_permits ?_ word
    rcases hp with rfl | rfl <;> simp [permits, phasePermits, hstate]
  case recovery =>
    intro path p off word s _ hrec hstate hp
    refine writeReg_of_permits ?_ word
    rcases hp with rfl | ⟨rfl, hoff⟩
    · simp [permits, phasePermits, hstate, hrec]
    · simp [permits, phasePermits, hstate, hrec, hoff]
  case mainbandWrite =>
    intro tag addr v p s hr hrec hcredit hlegal hpage hhif hrst hstate
    exact regWr_early hcredit tag v hlegal hpage (permits_of_early hr hhif hrst (by simp [hrec])) hstate hrec
  case sidebandWrite =>
    intro addr v p s hr hrec hopen hlegal hpage hhif hrst hstate
    refine ⟨_, exec_sidebandWrite_refused v hopen hlegal hpage
      (permits_of_early hr hhif hrst (by simp [hrec])), ?_⟩
    rw [refuseWrite_of_statePermits hstate (by simp [hrec])]
  case apertureRead =>
    intro tag addr len s hr hcredit
    exact aptRd_early hcredit hr tag addr
  case apertureWrite =>
    intro addr len v s hr hcredit
    exact aptWr_early hcredit hr addr v
  case mainbandDenied =>
    intro tag addr v p s hcredit hlegal hpage hperm
    exact leaves_regWr_refused hcredit tag v hlegal hpage hperm
  case sidebandDenied =>
    intro addr v p s hopen hlegal hpage hperm
    refine ⟨_, exec_sidebandWrite_refused v hopen hlegal hpage hperm, ?_⟩
    obtain ⟨hparts, -, -⟩ := onlyRegisters_refuseWrite s .sideband p (addr.toNat % 4096) v.toNat
    have hsideband := congrArg HostIf.sideband (signals_refuseWrite s .sideband p (addr.toNat % 4096) v.toNat).hif
    exact ⟨congrArg (_ :: ·) hsideband, (congrArg State.stairs hparts :), (congrArg State.mc hparts :),
      (congrArg State.seb hparts :), (congrArg State.dram hparts :)⟩
  case held =>
    intro c path p off word s hc hheld
    exact ⟨s, (hostWrite_writesAs hc).held hheld, rfl⟩
  case ignored =>
    intro c path p off word s hc hr hheld hstate hhif hrst hrec hst
    refine ⟨_, (hostWrite_writesAs hc).refused hheld (permits_of_early hr hhif hrst hrec), ?_⟩
    exact refuseWrite_of_statePermits hstate hst
  case start =>
    intro c path p off word s hc hr hstate hrec hst
    have hheld : s.rst.held = false := by
      simp only [inRecovery, Bool.and_eq_true, Bool.not_eq_true'] at hrec
      exact hrec.1
    have hpage : p ≠ .hif ∧ p ≠ .reset ∧ p ≠ .seb ∧ p ≠ .mcService := by
      obtain ⟨i, rfl, -⟩ := hst
      simp
    obtain ⟨hhif, hrst, hseb, hmc⟩ := hpage
    have hperm := permits_of_early (path := path) (off := off) hr hhif hrst fun _ => ⟨hseb, fun e => absurd e hmc⟩
    have hrecd : inRecovery (denied s path p) = true := by rwa [denied_of_permits hstate]
    have hrefused : refuseWrite s path p off word = stateErr s p := by
      rw [refuseWrite_of_starts hst, if_pos (.inl hrecd), denied_of_permits hstate]
    refine ⟨_, (hostWrite_writesAs hc).refused hheld hperm, refuseWrite_sets_stateErr hst (.inl hrecd), ?_⟩
    rw [hrefused]
    exact ⟨stateErr_onlyRegisters (startsList_home hst) s, rfl, rfl⟩
  case denied =>
    intro c path p off word s hc hheld hdenied
    have hperm : permits s path p off = false := by rw [permits, hdenied, Bool.false_and]
    obtain ⟨hcount, hsticky⟩ := refuseWrite_counts off word hdenied
    refine ⟨_, (hostWrite_writesAs hc).refused hheld hperm, hcount, hsticky,
      onlyRegisters_refuseWrite s path p off word, fun hst hlife => refuseWrite_sets_stateErr hst (.inr ?_)⟩
    rw [denied_of_denies hdenied]
    exact denyWrite_keeps (P := fun t => t.seb.state = 4) (closed_lifecycle 4 _ (by decide)) s hlife
  case sidebandRead =>
    intro addr s _ hopen hlegal
    exact exec_sidebandRead hopen hlegal

end Sys2Proof.Machine

/-! SUPPORT and settlement of O53: the four pages of a gallery (R383). STATUS and CONTROL of a page are those of its home
page, in what a word reads, in whether a write is permitted and in what it does; the other header fields are named by
their own page. -/

namespace Sys2Proof.Machine

/-! ### The home page -/

theorem Page.home_home (p : Page) : p.home.home = p.home := by cases p <;> rfl

/-- STATUS and CONTROL, the words that the pages of a gallery share (R383). -/
def SharedWord (off : Nat) : Prop := off = 0x008 ∨ off = 0x00C

theorem homeAt_shared {off : Nat} (ho : SharedWord off) (p : Page) : homeAt p off = p.home := if_pos ho

theorem sharedWord_lt {off : Nat} (ho : SharedWord off) : off < 0x040 := by
  rcases ho with rfl | rfl <;> decide

/-- The home page of a gallery's other three pages is its array page. -/
theorem home_of_gallery {h : Fin 16} {g : Fin 17} {p : Page} (hp : p ∈ [Page.ve h g, .qu h g, .mems h g]) :
    p.home = .array h g := by
  simp only [List.mem_cons, List.not_mem_nil, or_false] at hp
  rcases hp with rfl | rfl | rfl <;> rfl

/-! ### Reads -/

/-- The header holds no 64-bit quantity. -/
theorem headerRows_width {p : Page} {e : Fld × Acc} (h : e ∈ headerRows p) : e.1.width ≠ 64 := by
  simp only [headerRows, List.mem_cons, List.not_mem_nil, or_false] at h
  rcases h with h | h | h | h | h | h | h | h | h | h | h <;> (subst h; exact of_decide_eq_true rfl)

/-- A 64-bit quantity lies after the header of its page. -/
theorem rows_off_of_width {p : Page} {e : Fld × Acc} (h : e ∈ p.rows) (hw : e.1.width = 64) : 0x040 ≤ e.1.off := by
  rcases List.mem_append.1 h with h | h
  · exact absurd hw (headerRows_width h)
  · exact (own_off h).1

/-- The stored fields of a shared word are those of the home page. -/
theorem storedViews_home {off : Nat} (ho : SharedWord off) (s : State) (p : Page) :
    storedViews s p off = storedViews s p.home off := by
  have hlow := sharedWord_lt ho
  simp only [storedViews, homeAt_shared ho, Page.home_home]
  refine List.filterMap_congr fun e he => ?_
  by_cases hw : e.1.width = 64
  · have hoff := rows_off_of_width he hw
    have hlo : e.1.off ≠ off := by omega
    have hhi : e.1.off + 4 ≠ off := by omega
    simp only [hw, hlo, hhi, if_true, if_false]
  · simp only [hw, if_false]

/-- The computed bits of STATUS are those of the home page. -/
theorem statusViews_home (s : State) (p : Page) : statusViews s p = statusViews s p.home := by cases p <;> rfl

theorem computedViews_home {off : Nat} (ho : SharedWord off) (s : State) (p : Page) :
    computedViews s p off = computedViews s p.home off := by
  rw [computedViews, computedViews, if_pos (sharedWord_lt ho), if_pos (sharedWord_lt ho)]
  rcases ho with rfl | rfl
  · exact statusViews_home s p
  · rfl

/-- A shared word reads as it does in the home page (R383). -/
theorem liveWord_home {off : Nat} (ho : SharedWord off) (s : State) (p : Page) :
    liveWord s p off = liveWord s p.home off := by
  rw [liveWord, liveWord, storedViews_home ho, computedViews_home ho]

/-! ### Writes -/

/-- A lifecycle state opens a page to a path as it opens its home page. -/
theorem statePermits_home (s : State) (path : Path) (p : Page) :
    statePermits s path p = statePermits s path p.home := by cases p <;> rfl

theorem phasePermits_home (s : State) (p : Page) (off : Nat) : phasePermits s p off = phasePermits s p.home off := by
  cases p <;> rfl

theorem permits_home (s : State) (path : Path) (p : Page) (off : Nat) :
    permits s path p off = permits s path p.home off := by
  rw [permits, permits, statePermits_home, phasePermits_home]

/-- A refusal of a shared word, which starts no list, is that of the home page's. -/
theorem refuseWrite_home {off : Nat} (ho : SharedWord off) (s : State) (path : Path) (p : Page) (word : Nat) :
    refuseWrite s path p off word = refuseWrite s path p.home off word := by
  have hstart (q : Page) : ¬StartsList q off word := fun ⟨_, _, hoff, _⟩ => by
    have := sharedWord_lt ho
    omega
  rw [refuseWrite_of_not_starts (hstart _), refuseWrite_of_not_starts (hstart _), denied, denied, statePermits_home]

theorem writeEnable_home (s : State) (p : Page) (enable : Bool) :
    writeEnable s p enable 0 = writeEnable s p.home enable 0 := by
  rw [writeEnable, writeEnable, setBitsOf_zero, setBitsOf_zero, Page.home_home]

/-- A write of CONTROL acts on the gallery, by whichever of its pages (R383). -/
theorem writeControl_home (s : State) (p : Page) (word : Nat) : writeControl s p word = writeControl s p.home word := by
  have henable := writeEnable_home s p (bit word 0)
  cases p with
  | ve | qu | mems => rw [writeControl, henable]; rfl
  | _ => rfl

/-- A permitted write of a shared word acts on the home page's register. -/
theorem writeWord_home {off : Nat} (ho : SharedWord off) (s : State) (path : Path) (p : Page) (word : Nat) :
    writeWord s path p off word = writeWord s path p.home off word := by
  rcases ho with rfl | rfl
  · change writeFieldsAt s p.home 0x008 word = writeFieldsAt s p.home.home 0x008 word
    rw [Page.home_home]
  · exact writeControl_home s p word

theorem writeReg_home {off : Nat} (ho : SharedWord off) (s : State) (path : Path) (p : Page) (word : Nat) :
    writeReg s path p off word = writeReg s path p.home off word := by
  rw [writeReg, writeReg, permits_home, writeWord_home ho, refuseWrite_home ho]

/-- REGISTER_WRITE with nothing else in its handshake writes its word, unless the device is held in reset. -/
theorem exec_registerWrite_alone (path : Path) (p : Page) (off : BitVec 12) (v : BitVec 32) (s : State) :
    exec (.registerWrite path p off ⟨v, 0, none⟩) s =
      if s.rst.held then .next s else .next (writeReg s path p off.toNat v.toNat).1 := by
  change execRegisterWrite path p off ⟨v, 0, none⟩ s = _
  have h0 : (0 : BitVec 32).toNat = 0 := rfl
  simp only [execRegisterWrite, h0, writeBeside_alone]

/-- Settles O53: the shared words through the home page, the other header fields by the page in their names. -/
theorem galleryPagesShareStatusAndControl : Obligations.GalleryPagesShareStatusAndControl := by
  unfold Obligations.GalleryPagesShareStatusAndControl
  refine ⟨?read, ?write, ?separate⟩
  case read =>
    intro h g p off s hp ho
    rw [liveWord_home ho, home_of_gallery hp]
  case write =>
    intro path h g p off v s hp ho
    rw [exec_registerWrite_alone, exec_registerWrite_alone, writeReg_home ho, home_of_gallery hp]
  case separate =>
    intro h g p q f v s _ _ hne hf
    have hin : f.inPage = true := by
      simp only [List.mem_cons, List.not_mem_nil, or_false] at hf
      rcases hf with rfl | rfl | rfl | rfl | rfl | rfl | rfl <;> rfl
    exact rd_wr_other s p q f f v hne.symm hin hin

end Sys2Proof.Machine

/-! SUPPORT and settlement of O35, O36, O38, O41 to O44: what a command can change. `Instr.areas` names for every command
the parts of the state that its meaning can change, as the lemmas of Laws/Keeps<...>.lean say it; invariants and frames follow
from it alone. -/

namespace Sys2Proof

set_option Elab.async false -- each thread's stack counts against the check's memory limit

open Machine in
/-- The parts of the state that a command can change. -/
def Instr.areas : Instr → List Area
  | .registerWrite .. | .sidebandRequest .. =>
      [.regs, .latches, .staging, .readWord, .fifoHolds, .sector, .codes, .stairs, .disp, .galleries, .dressers, .caches, .drams, .links, .hif, .fc, .mc, .seb, .drawn, .reset, .restore]
  | .rcFieldRead .. | .readbackDataRead .. =>
      [.regs, .readWord]
  | .pairLowRead .. | .pairHighRead .. =>
      [.latches, .readWord]
  | .pairLowWrite .. | .pairHighWrite .. | .listPtrWrite .. | .mapWrite .. =>
      [.regs, .staging, .fifoHolds, .hif, .drawn]
  | .stickyClear .. | .stickyMaskWrite .. | .controlEnableWrite .. | .counterClear .. | .faultLatchRelease ..
    | .unknownPacket .. | .hostRd | .vecCtrlWrite .. | .ucieModuleLoss .. | .hifRetrain =>
      [.regs, .fifoHolds, .hif, .drawn]
  | .mcConfigWrite .. | .calNow | .powerLoopPeriod .. | .sagWarnEntry | .refoscMonitorWindow ..
    | .regulatorSilent .. | .swap .. | .switch | .revert | .fwReadyTimeout =>
      [.regs, .fifoHolds, .hif, .mc, .drawn]
  | .calIntervalExpiry .. | .vcoreBelowVwarn .. | .vcoreAboveVwarn .. | .fwSwitchBegin =>
      [.mc]
  | .timerCalibrationDone .. =>
      [.regs, .fifoHolds, .sector, .codes, .stairs, .disp, .galleries, .dressers, .drams, .links, .windows, .hif, .fc, .mc, .drawn]
  | .sagWarnExit | .refoscReturn | .regulatorAnswersAgain .. =>
      [.regs, .mc]
  | .start .. | .resume .. | .entryFetch .. | .job .. | .waitWord .. | .waitTimeout .. | .badOpcode ..
    | .killDone .. =>
      [.regs, .fifoHolds, .stairs, .hif, .drawn]
  | .kill .. | .killWithScrub .. =>
      [.regs, .fifoHolds, .sector, .codes, .stairs, .disp, .galleries, .dressers, .caches, .drams, .links, .hif, .fc, .drawn]
  | .entryReadDone .. | .descriptorReadDone .. | .fence .. | .waitWordEvaluate .. | .writeWord ..
    | .signal .. | .fill .. | .copy .. | .jump .. | .halt .. | .entryComplete .. | .recordWriteFault ..
    | .aptWr .. | .credit .. =>
      [.regs, .fifoHolds, .sector, .codes, .stairs, .drams, .hif, .fc, .drawn]
  | .entryStartAfterWait .. =>
      [.regs, .fifoHolds, .sector, .codes, .stairs, .caches, .drams, .links, .windows, .hif, .fc, .drawn]
  | .waitWordWake .. | .waitWordPollTimer .. =>
      [.stairs, .hif]
  | .flush .. =>
      [.regs, .fifoHolds, .stairs, .caches, .hif, .drawn]
  | .flushWalkStep .. | .wayWalkStep .. | .hallRetireFlush .. =>
      [.regs, .fifoHolds, .sector, .codes, .stairs, .caches, .drams, .hif, .fc, .drawn]
  | .windowOpen .. | .windowOpenDone .. | .windowCloseDone .. =>
      [.regs, .fifoHolds, .sector, .codes, .stairs, .drams, .windows, .hif, .fc, .drawn]
  | .windowClose .. | .windowCloseTimeout .. | .linkTrainingAttemptEnd .. | .head .. | .body .. | .esc ..
    | .endFlit .. | .abort .. | .receiveWriteAccept .. | .receiveEndCommit .. | .corruptFlit .. =>
      [.regs, .fifoHolds, .sector, .codes, .stairs, .drams, .links, .windows, .hif, .fc, .drawn]
  | .reduce .. | .flitSend .. | .historyReadDone .. =>
      [.regs, .fifoHolds, .sector, .codes, .stairs, .drams, .links, .hif, .fc, .drawn]
  | .scrubFill .. | .convert .. =>
      [.galleries]
  | .scrubFillDone .. =>
      [.stairs, .galleries]
  | .jobIssue =>
      [.regs, .fifoHolds, .stairs, .disp, .galleries, .hif, .drawn]
  | .issueBlockReadDone .. | .extentReadDone .. =>
      [.regs, .fifoHolds, .sector, .codes, .stairs, .disp, .galleries, .drams, .hif, .fc, .drawn]
  | .ticketFetchRequest .. =>
      [.disp]
  | .ticketGrant | .rowConversion .. | .preloadRowLoad .. | .tileRecordReceive .. | .shadowSwap ..
    | .vectorTicketStart .. | .map .. | .dot .. | .softmax .. | .topk .. | .reduceSum .. | .reduceSplitk ..
    | .dressPanel .. | .hallCacheFill .. =>
      [.regs, .fifoHolds, .sector, .codes, .stairs, .disp, .galleries, .dressers, .caches, .drams, .hif, .fc, .drawn]
  | .unitFinish .. =>
      [.stairs, .disp, .galleries, .dressers]
  | .convertOnEntry .. | .abandon .. =>
      [.regs, .fifoHolds, .stairs, .disp, .galleries, .dressers, .hif, .drawn]
  | .generatorBind .. | .drainDone .. =>
      [.regs, .galleries]
  | .statisticsAddBurst .. | .sectorAccess .. =>
      [.regs, .fifoHolds, .sector, .codes, .stairs, .disp, .galleries, .dressers, .drams, .hif, .fc, .drawn]
  | .groupOpen .. | .streamRingFetch .. | .flightStage .. | .samplingFlight .. | .drainStart ..
    | .hallCacheAccess .. =>
      [.regs, .fifoHolds, .sector, .codes, .stairs, .disp, .galleries, .dressers, .caches, .drams, .hif, .fc, .mc, .drawn]
  | .tileLoadHandshake .. | .tread .. | .flightEndAdd .. | .galleryMemoryAccess .. | .treadWatchdogExpiry .. =>
      [.regs, .fifoHolds, .stairs, .disp, .galleries, .dressers, .hif, .fc, .mc, .drawn]
  | .deadlineTimerExpiry .. =>
      [.regs, .fifoHolds, .disp, .galleries, .hif, .drawn]
  | .groupCmdClose .. | .actSplitWrite .. | .memOpDone .. | .winWordWrite .. | .drain .. | .galleryResume ..
    | .quiesceSet .. | .quiesceClear .. | .galleryScrub .. | .galleryQuiescent .. | .hallRetire .. =>
      [.regs, .fifoHolds, .galleries, .hif, .drawn]
  | .memOpFill .. | .memOpCopy .. =>
      [.regs, .fifoHolds, .galleries, .hif, .fc, .mc, .drawn]
  | .winWordRead .. =>
      [.regs, .readWord, .fifoHolds, .galleries, .hif, .mc, .drawn]
  | .galleryRowRetire .. =>
      [.regs, .fifoHolds, .galleries, .hif, .mc, .drawn]
  | .wayDisableWrite .. | .hallRetireDone .. =>
      [.regs, .fifoHolds, .caches, .hif, .mc, .drawn]
  | .refreshWindow .. =>
      [.drams]
  | .patrolStep .. | .aptRd .. =>
      [.regs, .fifoHolds, .sector, .codes, .drams, .hif, .fc, .drawn]
  | .dramLaneRepair .. | .dramRowSpareDone .. | .dieRetire .. | .trainDone =>
      [.regs, .fifoHolds, .drams, .hif, .mc, .drawn]
  | .dramRowSpare .. | .load =>
      [.regs, .fifoHolds, .sector, .codes, .drams, .hif, .fc, .mc, .drawn]
  | .migrationDone .. =>
      [.regs, .fifoHolds, .drams, .hif, .mc, .drawn, .migrate]
  | .linkRetrain .. | .linkLockLoss .. | .fenzinLaneSpare .. | .replayTimerExpiry .. =>
      [.regs, .fifoHolds, .links, .hif, .drawn]
  | .channelClaim .. =>
      [.regs, .links]
  | .ctrl .. =>
      [.regs, .fifoHolds, .stairs, .links, .hif, .drawn]
  | .ackEnd .. | .nack .. =>
      [.regs, .fifoHolds, .stairs, .links, .drawn]
  | .ackTimerExpiry .. =>
      [.regs, .stairs, .links]
  | .regRd .. =>
      [.regs, .latches, .readWord, .fifoHolds, .galleries, .hif, .mc, .drawn]
  | .regWr .. =>
      [.regs, .staging, .fifoHolds, .sector, .codes, .stairs, .disp, .galleries, .dressers, .caches, .drams, .links, .hif, .fc, .mc, .seb, .drawn, .reset, .restore]
  | .cpl .. | .cplTimeout .. | .ucieRetrainDone .. =>
      [.regs, .fifoHolds, .sector, .codes, .stairs, .drams, .hif, .fc, .mc, .drawn]
  | .nop =>
      []
  | .moduleCrcThreshold .. =>
      [.regs, .hif]
  | .sidebandFailover | .retiredTagRelease .. =>
      [.hif]
  | .fcReport .. | .clearTable .. =>
      [.regs, .fifoHolds, .hif, .fc, .drawn]
  | .autoRepair =>
      [.regs, .fifoHolds, .galleries, .caches, .hif, .mc, .drawn]
  | .imageVerifyDone | .sebCommandDone =>
      [.regs, .fifoHolds, .sector, .codes, .drams, .hif, .fc, .mc, .seb, .drawn]
  | .fwReady | .eraseRecord | .bootDone =>
      [.regs, .fifoHolds, .hif, .mc, .seb, .drawn]
  | .challenge | .commitSvn =>
      [.regs, .fifoHolds, .hif, .seb, .drawn]
  | .attest =>
      [.regs, .fifoHolds, .sector, .codes, .stairs, .drams, .hif, .fc, .seb, .drawn, .restore]
  | .transition .. =>
      [.regs, .fifoHolds, .sector, .codes, .drams, .hif, .fc, .seb, .drawn, .reset]
  | .writeCert =>
      [.regs, .fifoHolds, .sector, .codes, .drams, .hif, .fc, .seb, .drawn]
  | .powerOnReset | .pinReset .. | .sagReset | .thermalReset .. =>
      [.reset]
  | .hostReset .. =>
      [.regs, .fifoHolds, .hif, .drawn, .reset]
  | .resetRelease .. =>
      [.rst]
  | .fusesDone =>
      [.regs, .galleries, .hif, .drawn]
  | .mcInitDone =>
      [.regs, .fifoHolds, .galleries, .drams, .hif, .mc, .drawn]
  | .wipeDone .. =>
      [.regs, .fifoHolds, .stairs, .disp, .galleries, .dressers, .caches, .hif, .fc, .mc, .drawn, .wipe]
  | .jtagTapReset | .jtagInstructionUpdate .. | .mcDebugPortAccess .. =>
      [.jtag, .drawn]

end Sys2Proof

namespace Sys2Proof.Machine

set_option Elab.async false -- each thread's stack counts against the check's memory limit

/-- Every command keeps a property that changes of its parts cannot end. -/
theorem exec_keeps {P : State → Prop} : ∀ (c : Instr) (s : State), Closed P c.areas → P s → Answers P (exec c s)
  | .registerWrite _ _ _ _, s, k, h => execRegisterWrite_keeps k _ _ _ _ s h
  | .rcFieldRead _ _ _ _, s, k, h => execRcFieldRead_keeps k _ _ _ _ s h
  | .pairLowRead _ _ _, s, k, h => execPairLowRead_keeps k _ _ _ s h
  | .pairHighRead _ _ _, s, k, h => execPairHighRead_keeps k _ _ _ s h
  | .pairLowWrite _ _ _ _, s, k, h => execPairLowWrite_keeps k _ _ _ _ s h
  | .pairHighWrite _ _ _ _, s, k, h => execPairHighWrite_keeps k _ _ _ _ s h
  | .stickyClear _ _ _, s, k, h => execStickyClear_keeps k _ _ _ s h
  | .stickyMaskWrite _ _ _, s, k, h => execStickyMaskWrite_keeps k _ _ _ s h
  | .controlEnableWrite _ _ _, s, k, h => execControlEnableWrite_keeps k _ _ _ s h
  | .readbackDataRead _ _, s, k, h => execReadbackDataRead_keeps k _ _ s h
  | .counterClear _ _ _, s, k, h => execCounterClear_keeps k _ _ _ s h
  | .faultLatchRelease _, s, k, h => execFaultLatchRelease_keeps k _ s h
  | .mcConfigWrite _ _, s, k, h => execMcConfigWrite_keeps k _ _ s h
  | .calNow, s, k, h => execCalNow_keeps k s h
  | .calIntervalExpiry _, s, k, h => execCalIntervalExpiry_keeps k _ s h
  | .timerCalibrationDone _ _ _, s, k, h => execTimerCalibrationDone_keeps k _ _ _ s h
  | .powerLoopPeriod _, s, k, h => execPowerLoopPeriod_keeps k _ s h
  | .vcoreBelowVwarn _, s, k, h => execVcoreBelowVwarn_keeps k _ s h
  | .sagWarnEntry, s, k, h => execSagWarnEntry_keeps k s h
  | .vcoreAboveVwarn _, s, k, h => execVcoreAboveVwarn_keeps k _ s h
  | .sagWarnExit, s, k, h => execSagWarnExit_keeps k s h
  | .refoscMonitorWindow _, s, k, h => execRefoscMonitorWindow_keeps k _ s h
  | .refoscReturn, s, k, h => execRefoscReturn_keeps k s h
  | .regulatorSilent _, s, k, h => execRegulatorSilent_keeps k _ s h
  | .regulatorAnswersAgain _, s, k, h => execRegulatorAnswersAgain_keeps k _ s h
  | .start _, s, k, h => execStart_keeps k _ s h
  | .kill _, s, k, h => execKill_keeps k _ s h
  | .killWithScrub _, s, k, h => execKillWithScrub_keeps k _ s h
  | .resume _, s, k, h => execResume_keeps k _ s h
  | .listPtrWrite _ _ _, s, k, h => execListPtrWrite_keeps k _ _ _ s h
  | .entryFetch _, s, k, h => execEntryFetch_keeps k _ s h
  | .entryReadDone _, s, k, h => execEntryReadDone_keeps k _ s h
  | .entryStartAfterWait _, s, k, h => execEntryStartAfterWait_keeps k _ s h
  | .job _, s, k, h => execJob_keeps k _ s h
  | .descriptorReadDone _ _, s, k, h => execDescriptorReadDone_keeps k _ _ s h
  | .fence _, s, k, h => execFence_keeps k _ s h
  | .waitWord _, s, k, h => execWaitWord_keeps k _ s h
  | .waitWordWake _, s, k, h => execWaitWordWake_keeps k _ s h
  | .waitWordPollTimer _, s, k, h => execWaitWordPollTimer_keeps k _ s h
  | .waitWordEvaluate _ _, s, k, h => execWaitWordEvaluate_keeps k _ _ s h
  | .waitTimeout _, s, k, h => execWaitTimeout_keeps k _ s h
  | .writeWord _, s, k, h => execWriteWord_keeps k _ s h
  | .signal _, s, k, h => execSignal_keeps k _ s h
  | .fill _ _ _, s, k, h => execFill_keeps k _ _ _ s h
  | .copy _ _ _, s, k, h => execCopy_keeps k _ _ _ s h
  | .flush _, s, k, h => execFlush_keeps k _ s h
  | .flushWalkStep _, s, k, h => execFlushWalkStep_keeps k _ s h
  | .windowOpen _, s, k, h => execWindowOpen_keeps k _ s h
  | .windowOpenDone _, s, k, h => execWindowOpenDone_keeps k _ s h
  | .windowClose _, s, k, h => execWindowClose_keeps k _ s h
  | .windowCloseDone _, s, k, h => execWindowCloseDone_keeps k _ s h
  | .windowCloseTimeout _, s, k, h => execWindowCloseTimeout_keeps k _ s h
  | .reduce _, s, k, h => execReduce_keeps k _ s h
  | .jump _, s, k, h => execJump_keeps k _ s h
  | .halt _, s, k, h => execHalt_keeps k _ s h
  | .badOpcode _, s, k, h => execBadOpcode_keeps k _ s h
  | .entryComplete _ _, s, k, h => execEntryComplete_keeps k _ _ s h
  | .recordWriteFault _, s, k, h => execRecordWriteFault_keeps k _ s h
  | .killDone _, s, k, h => execKillDone_keeps k _ s h
  | .scrubFill _ _, s, k, h => execScrubFill_keeps k _ _ s h
  | .scrubFillDone _ _, s, k, h => execScrubFillDone_keeps k _ _ s h
  | .jobIssue, s, k, h => execJobIssue_keeps k s h
  | .issueBlockReadDone _ _, s, k, h => execIssueBlockReadDone_keeps k _ _ s h
  | .extentReadDone _ _, s, k, h => execExtentReadDone_keeps k _ _ s h
  | .ticketFetchRequest _, s, k, h => execTicketFetchRequest_keeps k _ s h
  | .ticketGrant, s, k, h => execTicketGrant_keeps k s h
  | .unitFinish _, s, k, h => execUnitFinish_keeps k _ s h
  | .convertOnEntry _ _, s, k, h => execConvertOnEntry_keeps k _ _ s h
  | .rowConversion _ _, s, k, h => execRowConversion_keeps k _ _ s h
  | .generatorBind _ _, s, k, h => execGeneratorBind_keeps k _ _ s h
  | .statisticsAddBurst _ _, s, k, h => execStatisticsAddBurst_keeps k _ _ s h
  | .convert _ _, s, k, h => execConvert_keeps k _ _ s h
  | .groupOpen _ _, s, k, h => execGroupOpen_keeps k _ _ s h
  | .preloadRowLoad _ _, s, k, h => execPreloadRowLoad_keeps k _ _ s h
  | .tileRecordReceive _ _, s, k, h => execTileRecordReceive_keeps k _ _ s h
  | .streamRingFetch _ _, s, k, h => execStreamRingFetch_keeps k _ _ s h
  | .tileLoadHandshake _ _, s, k, h => execTileLoadHandshake_keeps k _ _ s h
  | .shadowSwap _ _, s, k, h => execShadowSwap_keeps k _ _ s h
  | .flightStage _ _, s, k, h => execFlightStage_keeps k _ _ s h
  | .tread _ _ _, s, k, h => execTread_keeps k _ _ _ s h
  | .flightEndAdd _ _, s, k, h => execFlightEndAdd_keeps k _ _ s h
  | .deadlineTimerExpiry _ _, s, k, h => execDeadlineTimerExpiry_keeps k _ _ s h
  | .samplingFlight _ _, s, k, h => execSamplingFlight_keeps k _ _ s h
  | .drainStart _ _, s, k, h => execDrainStart_keeps k _ _ s h
  | .drainDone _ _, s, k, h => execDrainDone_keeps k _ _ s h
  | .vectorTicketStart _ _, s, k, h => execVectorTicketStart_keeps k _ _ s h
  | .map _ _, s, k, h => execMap_keeps k _ _ s h
  | .dot _ _, s, k, h => execDot_keeps k _ _ s h
  | .softmax _ _, s, k, h => execSoftmax_keeps k _ _ s h
  | .topk _ _, s, k, h => execTopk_keeps k _ _ s h
  | .reduceSum _ _, s, k, h => execReduceSum_keeps k _ _ s h
  | .reduceSplitk _ _, s, k, h => execReduceSplitk_keeps k _ _ s h
  | .dressPanel _, s, k, h => execDressPanel_keeps k _ s h
  | .groupCmdClose _ _ _, s, k, h => execGroupCmdClose_keeps k _ _ _ s h
  | .galleryMemoryAccess _ _ _ _ _ _ _, s, k, h => execGalleryMemoryAccess_keeps k _ _ _ _ _ _ _ s h
  | .actSplitWrite _ _ _, s, k, h => execActSplitWrite_keeps k _ _ _ s h
  | .memOpFill _ _ _, s, k, h => execMemOpFill_keeps k _ _ _ s h
  | .memOpCopy _ _ _, s, k, h => execMemOpCopy_keeps k _ _ _ s h
  | .memOpDone _ _, s, k, h => execMemOpDone_keeps k _ _ s h
  | .winWordRead _ _ _ _, s, k, h => execWinWordRead_keeps k _ _ _ _ s h
  | .winWordWrite _ _ _ _, s, k, h => execWinWordWrite_keeps k _ _ _ _ s h
  | .galleryRowRetire _ _, s, k, h => execGalleryRowRetire_keeps k _ _ s h
  | .hallCacheAccess _ _ _ _ _ _, s, k, h => execHallCacheAccess_keeps k _ _ _ _ _ _ s h
  | .hallCacheFill _, s, k, h => execHallCacheFill_keeps k _ s h
  | .wayDisableWrite _ _, s, k, h => execWayDisableWrite_keeps k _ _ s h
  | .wayWalkStep _, s, k, h => execWayWalkStep_keeps k _ s h
  | .sectorAccess _ _ _ _, s, k, h => execSectorAccess_keeps k _ _ _ _ s h
  | .refreshWindow _, s, k, h => execRefreshWindow_keeps k _ s h
  | .patrolStep _, s, k, h => execPatrolStep_keeps k _ s h
  | .dramLaneRepair _, s, k, h => execDramLaneRepair_keeps k _ s h
  | .dramRowSpare _, s, k, h => execDramRowSpare_keeps k _ s h
  | .dramRowSpareDone _, s, k, h => execDramRowSpareDone_keeps k _ s h
  | .dieRetire _ _, s, k, h => execDieRetire_keeps k _ _ s h
  | .migrationDone _, s, k, h => execMigrationDone_keeps k _ s h
  | .mapWrite _ _, s, k, h => execMapWrite_keeps k _ _ s h
  | .linkRetrain _, s, k, h => execLinkRetrain_keeps k _ s h
  | .linkTrainingAttemptEnd _ _, s, k, h => execLinkTrainingAttemptEnd_keeps k _ _ s h
  | .linkLockLoss _, s, k, h => execLinkLockLoss_keeps k _ s h
  | .fenzinLaneSpare _ _, s, k, h => execFenzinLaneSpare_keeps k _ _ s h
  | .flitSend _, s, k, h => execFlitSend_keeps k _ s h
  | .channelClaim _ _, s, k, h => execChannelClaim_keeps k _ _ s h
  | .historyReadDone _ _, s, k, h => execHistoryReadDone_keeps k _ _ s h
  | .replayTimerExpiry _, s, k, h => execReplayTimerExpiry_keeps k _ s h
  | .head _ _, s, k, h => execHead_keeps k _ _ s h
  | .body _ _, s, k, h => execBody_keeps k _ _ s h
  | .esc _ _, s, k, h => execEsc_keeps k _ _ s h
  | .endFlit _ _, s, k, h => execEndFlit_keeps k _ _ s h
  | .abort _ _, s, k, h => execAbort_keeps k _ _ s h
  | .ctrl _ _, s, k, h => execCtrl_keeps k _ _ s h
  | .receiveWriteAccept _ _, s, k, h => execReceiveWriteAccept_keeps k _ _ s h
  | .receiveEndCommit _ _, s, k, h => execReceiveEndCommit_keeps k _ _ s h
  | .ackEnd _ _, s, k, h => execAckEnd_keeps k _ _ s h
  | .nack _ _ _, s, k, h => execNack_keeps k _ _ _ s h
  | .ackTimerExpiry _ _, s, k, h => execAckTimerExpiry_keeps k _ _ s h
  | .regRd _ _ _, s, k, h => execRegRd_keeps k _ _ _ s h
  | .regWr _ _ _ _, s, k, h => execRegWr_keeps k _ _ _ _ s h
  | .aptRd _ _ _, s, k, h => execAptRd_keeps k _ _ _ s h
  | .aptWr _ _ _, s, k, h => execAptWr_keeps k _ _ _ s h
  | .cpl _ _ _ _, s, k, h => execCpl_keeps k _ _ _ _ s h
  | .credit _ _, s, k, h => execCredit_keeps k _ _ s h
  | .nop, s, _, h => execNop_keeps s h
  | .unknownPacket _ _, s, k, h => execUnknownPacket_keeps k _ _ s h
  | .hostRd, s, k, h => execHostRd_keeps k s h
  | .cplTimeout _, s, k, h => execCplTimeout_keeps k _ s h
  | .vecCtrlWrite _ _ _, s, k, h => execVecCtrlWrite_keeps k _ _ _ s h
  | .ucieModuleLoss _, s, k, h => execUcieModuleLoss_keeps k _ s h
  | .ucieRetrainDone _ _, s, k, h => execUcieRetrainDone_keeps k _ _ s h
  | .moduleCrcThreshold _, s, k, h => execModuleCrcThreshold_keeps k _ s h
  | .hifRetrain, s, k, h => execHifRetrain_keeps k s h
  | .sidebandRequest _ _, s, k, h => execSidebandRequest_keeps k _ _ s h
  | .sidebandFailover, s, k, h => execSidebandFailover_keeps k s h
  | .treadWatchdogExpiry _ _ _, s, k, h => execTreadWatchdogExpiry_keeps k _ _ _ s h
  | .fcReport _, s, k, h => execFcReport_keeps k _ s h
  | .clearTable _, s, k, h => execClearTable_keeps k _ s h
  | .drain _ _, s, k, h => execDrain_keeps k _ _ s h
  | .abandon _ _, s, k, h => execAbandon_keeps k _ _ s h
  | .swap _ _ _, s, k, h => execSwap_keeps k _ _ _ s h
  | .galleryResume _ _, s, k, h => execGalleryResume_keeps k _ _ s h
  | .quiesceSet _ _, s, k, h => execQuiesceSet_keeps k _ _ s h
  | .quiesceClear _ _, s, k, h => execQuiesceClear_keeps k _ _ s h
  | .galleryScrub _ _, s, k, h => execGalleryScrub_keeps k _ _ s h
  | .galleryQuiescent _ _, s, k, h => execGalleryQuiescent_keeps k _ _ s h
  | .hallRetire _, s, k, h => execHallRetire_keeps k _ s h
  | .hallRetireFlush _, s, k, h => execHallRetireFlush_keeps k _ s h
  | .hallRetireDone _, s, k, h => execHallRetireDone_keeps k _ s h
  | .autoRepair, s, k, h => execAutoRepair_keeps k s h
  | .load, s, k, h => execLoad_keeps k s h
  | .imageVerifyDone, s, k, h => execImageVerifyDone_keeps k s h
  | .switch, s, k, h => execSwitch_keeps k s h
  | .revert, s, k, h => execRevert_keeps k s h
  | .fwSwitchBegin, s, k, h => execFwSwitchBegin_keeps k s h
  | .fwReady, s, k, h => execFwReady_keeps k s h
  | .fwReadyTimeout, s, k, h => execFwReadyTimeout_keeps k s h
  | .challenge, s, k, h => execChallenge_keeps k s h
  | .attest, s, k, h => execAttest_keeps k s h
  | .transition _ _, s, k, h => execTransition_keeps k _ _ s h
  | .commitSvn, s, k, h => execCommitSvn_keeps k s h
  | .eraseRecord, s, k, h => execEraseRecord_keeps k s h
  | .writeCert, s, k, h => execWriteCert_keeps k s h
  | .sebCommandDone, s, k, h => execSebCommandDone_keeps k s h
  | .powerOnReset, s, k, h => execPowerOnReset_keeps k s h
  | .pinReset _ _, s, k, h => execPinReset_keeps k _ _ s h
  | .hostReset _, s, k, h => execHostReset_keeps k _ s h
  | .sagReset, s, k, h => execSagReset_keeps k s h
  | .thermalReset _, s, k, h => execThermalReset_keeps k _ s h
  | .resetRelease _, s, k, h => execResetRelease_keeps k _ s h
  | .fusesDone, s, k, h => execFusesDone_keeps k s h
  | .bootDone, s, k, h => execBootDone_keeps k s h
  | .mcInitDone, s, k, h => execMcInitDone_keeps k s h
  | .trainDone, s, k, h => execTrainDone_keeps k s h
  | .wipeDone _, s, k, h => execWipeDone_keeps k _ s h
  | .jtagTapReset, s, k, h => execJtagTapReset_keeps k s h
  | .jtagInstructionUpdate _, s, k, h => execJtagInstructionUpdate_keeps k _ s h
  | .retiredTagRelease _, s, k, h => execRetiredTagRelease_keeps k _ s h
  | .corruptFlit _ _ _, s, k, h => execCorruptFlit_keeps k _ _ _ s h
  | .mcDebugPortAccess _, s, k, h => execMcDebugPortAccess_keeps k _ s h

/-- What every change of the areas that a step can make keeps is kept by a step, with its command taken from the queue. -/
theorem step_keeps {P : State → Prop} (k : ∀ F, Closed P F) (hq : ∀ s rest, P s → P { s with pending := rest }) {s t : State}
    (h : P s) (e : step s = .next t) : P t := by
  unfold step at e
  split at e
  · rw [← Host.Outcome.next.inj e]
    exact tick_keeps (k _) s h
  · exact exec_keeps _ _ (k _) (hq s _ h) t e

/-- Settles O38: every change that an operation can make keeps the form. -/
theorem stepKeepsTheForm : Obligations.StepKeepsTheForm :=
  fun _ _ h e => step_keeps (P := fun s => s.wf = true) wf_closed (fun _ _ h => h) h e

/-- Settles O36: no area holds the queue. -/
theorem commandsLeaveTheQueue : Obligations.CommandsLeaveTheQueue := by
  have hexec (c : Instr) (s t : State) (e : exec c s = .next t) : t.pending = s.pending :=
    exec_keeps c s (closed_pending s.pending _) rfl t e
  refine ⟨hexec, fun s t e => ?_⟩
  unfold step at e
  split at e
  next h =>
    rw [← Host.Outcome.next.inj e, h]
    exact tick_keeps (closed_pending [] _) s h
  next h => rw [h]; exact hexec _ _ t e

/-- Settles O35: by the two arms of `step`. -/
theorem stepRunsTheFrontCommand : Obligations.StepRunsTheFrontCommand := by
  refine ⟨fun c rest s h => ?_, fun c s => rfl, fun s h => ?_⟩
  · rw [step, h]
  · rw [step, h, tick]

/-! ### Frames: a part that no area of a command sets -/

/-- None of a command's areas is listed. -/
def Instr.avoids (c : Instr) (F : List Area) : Bool := c.areas.all fun q => !F.contains q

theorem Instr.avoids_iff {c : Instr} {F : List Area} : Instr.avoids c F = true ↔ ∀ q ∈ c.areas, q ∉ F := by
  simp [Instr.avoids]

/-- A part that no listed area leaves free stays as it was under a command that avoids the list. -/
theorem part_kept {α : Type} {part : State → α} {L : List Area} {may : Instr → Bool}
    (closed : ∀ (v : α) (F : List Area), (∀ q ∈ F, q ∉ L) → Closed (fun s => part s = v) F)
    (avoids : ∀ c, (may c || Instr.avoids c L) = true) {c : Instr} {s t : State} (e : exec c s = .next t)
    (h : may c = false) : part t = part s := by
  have ha := avoids c
  rw [h, Bool.false_or] at ha
  exact exec_keeps c s (closed (part s) _ (Instr.avoids_iff.1 ha)) rfl t e

/-! A command that is not among those that may change a part avoids the areas that set it. -/

theorem dram_avoided (c : Instr) : (c.mayStore || Instr.avoids c [.sector, .reset, .wipe, .restore, .migrate]) = true := by cases c <;> rfl
theorem codes_avoided (c : Instr) : (c.mayStore || Instr.avoids c [.codes, .reset, .wipe, .restore, .migrate]) = true := by cases c <;> rfl
theorem stairs_avoided (c : Instr) : (c.mayStair || Instr.avoids c [.stairs, .reset]) = true := by cases c <;> rfl
theorem disp_avoided (c : Instr) : (c.mayDispatch || Instr.avoids c [.disp, .reset]) = true := by cases c <;> rfl
theorem galleries_avoided (c : Instr) : (c.mayGallery || Instr.avoids c [.galleries, .reset, .wipe]) = true := by cases c <;> rfl
theorem dressers_avoided (c : Instr) : (c.mayDresser || Instr.avoids c [.dressers, .reset]) = true := by cases c <;> rfl
theorem caches_avoided (c : Instr) : (c.mayCache || Instr.avoids c [.caches, .reset, .wipe]) = true := by cases c <;> rfl
theorem drams_avoided (c : Instr) : (c.mayStack || Instr.avoids c [.drams, .reset, .wipe, .migrate]) = true := by cases c <;> rfl
theorem links_avoided (c : Instr) : (c.mayLink || Instr.avoids c [.links, .reset]) = true := by cases c <;> rfl
theorem windows_avoided (c : Instr) : (c.mayWindow || Instr.avoids c [.windows, .reset]) = true := by cases c <;> rfl
theorem fifoHolds_avoided (c : Instr) : (c.mayCross || Instr.avoids c [.fifoHolds, .reset, .migrate]) = true := by cases c <;> rfl
theorem mc_avoided (c : Instr) : (c.mayMc || Instr.avoids c [.mc, .reset]) = true := by cases c <;> rfl
theorem seb_avoided (c : Instr) : (c.maySeb || Instr.avoids c [.seb, .reset]) = true := by cases c <;> rfl
theorem rst_avoided (c : Instr) : (c.mayHold || Instr.avoids c [.rst, .reset]) = true := by cases c <;> rfl
theorem jtag_avoided (c : Instr) : (c.mayJtag || Instr.avoids c [.jtag, .reset]) = true := by cases c <;> rfl
theorem fc_avoided (c : Instr) : (c.mayReport || Instr.avoids c [.fc, .reset, .migrate]) = true := by cases c <;> rfl
theorem latches_avoided (c : Instr) : (c.mayLatch || Instr.avoids c [.latches, .reset]) = true := by cases c <;> rfl
theorem staging_avoided (c : Instr) : (c.mayLatch || Instr.avoids c [.staging, .reset]) = true := by cases c <;> rfl

/-- Settles O41: device memory and its check symbols are parts that such a command avoids. -/
theorem memoryFrame : Obligations.MemoryFrame := fun _ _ _ h e =>
  ⟨fun a => congrArg (byteAt · a) (part_kept closed_dram dram_avoided e h), part_kept closed_codes codes_avoided e h⟩

/-- Settles O42, part by part. -/
theorem workFrame : Obligations.WorkFrame := fun _ _ _ e =>
  ⟨part_kept closed_stairs stairs_avoided e, part_kept closed_disp disp_avoided e,
    part_kept closed_galleries galleries_avoided e, part_kept closed_dressers dressers_avoided e⟩

/-- Settles O43, part by part. -/
theorem deviceFrame : Obligations.DeviceFrame := fun _ _ _ e =>
  ⟨part_kept closed_caches caches_avoided e, part_kept closed_drams drams_avoided e,
    part_kept closed_links links_avoided e, part_kept closed_windows windows_avoided e,
    part_kept closed_fifoHolds fifoHolds_avoided e⟩

/-- Settles O44, part by part. -/
theorem serviceFrame : Obligations.ServiceFrame := fun _ _ _ e =>
  ⟨part_kept closed_mc mc_avoided e, part_kept closed_seb seb_avoided e, part_kept closed_rst rst_avoided e,
    part_kept closed_jtag jtag_avoided e, part_kept closed_fc fc_avoided e⟩

end Sys2Proof.Machine

/-! SUPPORT and settlement of O54 and O55: the lifecycle state, SVN_FUSED and the identity (R353, R356 to R359). A command
keeps them, or it is a TRANSITION that moved legally; a move resets the device, so that no second one joins it in a step. -/

namespace Sys2Proof.Machine

set_option Elab.async false -- each thread's stack counts against the check's memory limit

/-! ### What the SEB keeps -/

/-- The lifecycle state stands, SVN_FUSED has not fallen, and in RETIRED the identity stands. -/
structure SebKept (v w : Seb) : Prop where
  state : w.state = v.state
  svn : v.svnFused ≤ w.svnFused
  identity : v.state = 4 → w.idKey = v.idKey ∧ w.cert = v.cert

/-- The lifecycle state has moved legally, SVN_FUSED has not fallen, and RETIRED holds no identity. -/
structure SebMoved (v w : Seb) : Prop where
  legal : ∃ path, moveLegal path v.state w.state = true
  svn : v.svnFused ≤ w.svnFused
  identity : w.state = 4 → w.idKey = none ∧ w.cert = none

theorem SebKept.refl (v : Seb) : SebKept v v := ⟨rfl, Nat.le_refl _, fun _ => ⟨rfl, rfl⟩⟩

/-- What agrees in state, SVN and identity is kept along. -/
theorem SebKept.congr {v w x : Seb} (h : SebKept v w) (hs : x.state = w.state) (hv : x.svnFused = w.svnFused)
    (hk : x.idKey = w.idKey) (hc : x.cert = w.cert) : SebKept v x :=
  ⟨hs.trans h.state, hv ▸ h.svn, hk ▸ hc ▸ h.identity⟩

theorem enterReset_seb (s : State) (codes halls : List Nat) : (enterReset s codes halls).seb = s.seb.kept := by
  unfold enterReset
  split <;> rfl

theorem sebKept_enterReset {v : Seb} {s : State} (codes halls : List Nat) (h : SebKept v s.seb) :
    SebKept v (enterReset s codes halls).seb := by
  rw [enterReset_seb]
  exact h.congr rfl rfl rfl rfl

/-- A property of the SEB that survives what a reset leaves of it (R376) survives every area but the SEB. -/
theorem closed_of_seb {Q : Seb → Prop} (hQ : ∀ x, Q x → Q x.kept) {F : List Area} (hF : .seb ∉ F) :
    Closed (fun s => Q s.seb) F := by
  have most : ∀ F : List Area, .seb ∉ F → .migrate ∉ F → Closed (fun s => Q s.seb) F := by
    intro F hseb hmig q hq
    cases q with
    | seb => exact absurd hq hseb
    | migrate => exact absurd hq hmig
    | reset =>
      intro s c x h
      show Q _
      rw [enterReset_seb]
      exact hQ _ h
    | restore => exact fun s t _ h => h
    | wipe => exact fun s h => h
    | sector => exact fun s c n x h => h
    | regs => exact fun s p f x h => h
    | _ => exact fun s x h => h
  intro q hq
  by_cases e : q = .migrate
  · subst e
    intro s h old new ptr w
    unfold copyRest
    extract_lets lo hi t
    exact foldl_keeps (P := fun s => Q s.seb)
      (fun s c w => recopySector_keeps (most _ (by decide) (by decide)) s _ c w) w
  · exact most [q] (fun m => hF (List.mem_singleton.1 m ▸ hq)) (by simp [Ne.symm e]) q (by simp)

theorem closed_sebKept (v : Seb) {F : List Area} (hF : .seb ∉ F) : Closed (fun s => SebKept v s.seb) F :=
  closed_of_seb (fun _ h => h.congr rfl rfl rfl rfl) hF

/-! ### The commands of the SEB -/

section Commands

variable {v : Seb} {s : State}

theorem sebKept_sebGate (path : Path) (cmd : Nat) {body : State → State} (h : SebKept v s.seb)
    (hb : SebKept v (body s).seb) : SebKept v (sebGate s path cmd body).seb := by
  exact sebCommand_keeps (P := fun s => SebKept v s.seb) (closed_sebKept v (by decide)) s path cmd _ h
    (ite_keeps (P := fun s => SebKept v s.seb) h hb)

theorem sebKept_sebStart (cmd target result : Nat) (h : SebKept v s.seb) :
    SebKept v (sebStart s cmd target result).seb := h.congr rfl rfl rfl rfl

theorem sebKept_memRead (who : Requester) (a n : Nat) (h : SebKept v s.seb) : SebKept v (memRead s who a n).1.seb :=
  memRead_keeps (P := fun s => SebKept v s.seb) (closed_sebKept v (by decide)) s who a n h

theorem sebKept_sebWrite (a n x : Nat) (h : SebKept v s.seb) : SebKept v (sebWrite s a n x).1.seb :=
  sebWrite_keeps (P := fun s => SebKept v s.seb) (closed_sebKept v (by decide)) s a n x h

theorem sebKept_runAttest (h : SebKept v s.seb) : SebKept v (runAttest s).1.seb := by
  unfold runAttest
  split
  · exact h
  split
  · exact h
  extract_lets src u
  have hu : SebKept v u.seb := h.congr rfl rfl rfl rfl
  have hread := sebKept_memRead .seb (argAddr u) 32 hu
  split <;> rename_i hr <;> rw [hr] at hread
  · exact hread
  · extract_lets r
    split <;> rename_i hw <;> exact fst_keeps (x := sebWrite r.2 _ _ _) (P := fun s => SebKept v s.seb) (sebKept_sebWrite (s := r.2) _ _ _ hread) hw

theorem sebKept_runWriteCert (h : SebKept v s.seb) : SebKept v (runWriteCert s).1.seb := by
  unfold runWriteCert
  split
  · exact h
  next hstate =>
    have h1 : v.state ≠ 4 := by
      rw [← h.state]
      intro e
      exact hstate (Or.inl (by omega))
    split
    · exact h
    have hread := sebKept_memRead .seb (argAddr s) 4 h
    split <;> rename_i hr <;> rw [hr] at hread
    · exact hread
    split
    · exact hread
    split
    · exact hread
    split <;> rename_i hc
    · exact fst_keeps (P := fun s => SebKept v s.seb) (sebKept_memRead _ _ _ hread) hc
    · have hcert := fst_keeps (P := fun s => SebKept v s.seb) (sebKept_memRead _ _ _ hread) hc
      exact ⟨hcert.state, hcert.svn, fun e => absurd e h1⟩

theorem sebKept_freshChallenge (h : SebKept v s.seb) : SebKept v (freshChallenge s).seb := by
  exact (foldl_keeps (P := fun s => SebKept v s.seb) (fun u i hu => hu) (l := List.range 8) h).congr rfl rfl rfl rfl

end Commands

theorem execChallenge_sebKept {v : Seb} {s : State} (h : SebKept v s.seb) :
    Answers (fun t => SebKept v t.seb) (execChallenge s) :=
  answers_next (sebCommand_keeps (P := fun s => SebKept v s.seb) (closed_sebKept v (by decide)) s _ _ _ h
    (ite_keeps (P := fun s => SebKept v s.seb) (sebKept_freshChallenge h)
      (sebKept_sebStart _ _ _ (sebKept_freshChallenge h))))

theorem execAttest_sebKept {v : Seb} {s : State} (h : SebKept v s.seb) :
    Answers (fun t => SebKept v t.seb) (execAttest s) :=
  answers_next (sebKept_sebGate _ _ h (sebKept_sebStart _ _ _ (sebKept_runAttest h)))

theorem execCommitSvn_sebKept {v : Seb} {s : State} (h : SebKept v s.seb) :
    Answers (fun t => SebKept v t.seb) (execCommitSvn s) :=
  answers_next (sebKept_sebGate _ _ h ⟨h.state, h.svn.trans (Nat.le_max_left _ _), h.identity⟩)

theorem execEraseRecord_sebKept {v : Seb} {s : State} (h : SebKept v s.seb) :
    Answers (fun t => SebKept v t.seb) (execEraseRecord s) :=
  answers_next (sebKept_sebGate _ _ h
    (ite_keeps (P := fun s => SebKept v s.seb) (h.congr rfl rfl rfl rfl) (sebKept_sebStart _ _ _ h)))

theorem execWriteCert_sebKept {v : Seb} {s : State} (h : SebKept v s.seb) :
    Answers (fun t => SebKept v t.seb) (execWriteCert s) :=
  answers_next (sebKept_sebGate _ _ h (sebKept_sebStart _ _ _ (sebKept_runWriteCert h)))

/-! ### TRANSITION -/

/-- The sequence stands before BOOT: no request reaches a page, and nothing but the host interface and the reset page can
be written. -/
def JustReset (t : State) : Prop := phaseAtLeast t 2 = false

theorem justReset_enterReset (s : State) (codes halls : List Nat) : JustReset (enterReset s codes halls) := by
  have hphase : rd (enterReset s codes halls) .reset Reg.rst.PHASE = 1 := by
    unfold enterReset
    extract_lets jt src t0 t1 t2 t3 t4
    have h0 : rd t1 .reset Reg.rst.PHASE = 1 := rfl
    have h4 : rd t4 .reset Reg.rst.PHASE = 1 := by
      rw [rd_wr_ne _ _ _ _ _ _ (by decide), rd_wr_ne _ _ _ _ _ _ (by decide), rd_wr_ne _ _ _ _ _ _ (by decide), h0]
    split
    · rw [rd_wr_ne _ _ _ _ _ _ (by decide), h4]
    · exact h4
  rw [JustReset, phaseAtLeast, hphase]
  simp

theorem sebKept_trigger {v : Seb} {s : State} (codes halls : List Nat) (also : List ResetCause) (h : SebKept v s.seb) :
    SebKept v (trigger s codes halls also).seb :=
  ite_keeps (P := fun s => SebKept v s.seb) h (sebKept_enterReset _ _ h)

/-- A move has reset the device. -/
def Moved (v : Seb) (t : State) : Prop := SebMoved v t.seb ∧ JustReset t

/-- A legal move enters its target. -/
theorem sebMoved_enterLifecycle {path : Path} {v : Seb} {s : State} {target : Nat} (mask : Nat)
    (hlegal : moveLegal path v.state target = true) (hsvn : v.svnFused ≤ s.seb.svnFused) :
    SebMoved v (enterLifecycle s target mask).seb := by
  unfold enterLifecycle
  split
  · exact ⟨⟨path, hlegal⟩, hsvn, fun e => absurd (Nat.succ.inj e) (by decide)⟩
  · exact ⟨⟨path, hlegal⟩, hsvn, fun e => absurd (Nat.succ.inj e) (by decide)⟩
  · exact ⟨⟨path, hlegal⟩, hsvn, fun _ => ⟨rfl, rfl⟩⟩
  · next h4 => exact ⟨⟨path, hlegal⟩, hsvn, fun e => absurd e h4⟩

/-- A TRANSITION that runs moves and asks for the reset, or keeps the SEB. -/
theorem runTransition_moves {path : Path} {v : Seb} {s : State} {target : Nat} (h : SebKept v s.seb)
    (hlegal : moveLegal path v.state target = true) :
    ((runTransition s target).2 = [] ∧ SebKept v (runTransition s target).1.seb)
      ∨ ((runTransition s target).2 = [6] ∧ SebMoved v (runTransition s target).1.seb) := by
  have hread := sebKept_memRead .seb (argAddr s) 960 h
  generalize hr : runTransition s target = r
  unfold runTransition at hr
  split at hr
  · subst hr
    exact .inr ⟨rfl, sebMoved_enterLifecycle _ hlegal h.svn⟩
  split at hr
  · subst hr
    exact .inl ⟨rfl, h.congr rfl rfl rfl rfl⟩
  split at hr <;> rename_i hgot <;> rw [hgot] at hread
  · subst hr
    exact .inl ⟨rfl, hread.congr rfl rfl rfl rfl⟩
  extract_lets w src u at hr
  have hu : SebKept v u.seb := ite_keeps (P := fun u => SebKept v u.seb) (hread.congr rfl rfl rfl rfl) hread
  clear_value u
  split at hr <;> subst hr
  · exact .inr ⟨rfl, sebMoved_enterLifecycle _ hlegal hu.svn⟩
  · have hfail := verifyFail_keeps (P := fun u => SebKept v u.seb) (closed_sebKept v (by decide)) u hu
    exact .inl ⟨rfl, hfail.congr rfl rfl rfl rfl⟩

/-- What a command leaves of the SEB: as it was, or after one legal move. -/
def KeptOrMoved (v : Seb) (t : State) : Prop := SebKept v t.seb ∨ Moved v t

theorem moved_trigger {v : Seb} {s : State} {codes halls : List Nat} {also : List ResetCause} (hne : codes ≠ [])
    (h : SebMoved v s.seb) : Moved v (trigger s codes halls also) := by
  have he : (codes ++ also.map causeCode).isEmpty = false := by simp [hne]
  rw [trigger, he]
  refine ⟨?_, justReset_enterReset _ _ _⟩
  rw [if_neg (by decide), enterReset_seb]
  exact ⟨h.legal, h.svn, h.identity⟩

theorem execTransition_moves {v : Seb} {s : State} (path : Path) (move : Move) (h : SebKept v s.seb) :
    Answers (KeptOrMoved v) (execTransition path move s) := by
  unfold execTransition
  extract_lets target r
  split
  next hrun =>
    have hlegal : moveLegal path v.state target = true := by
      rw [← h.state]
      exact (Bool.and_eq_true _ _ ▸ hrun).2
    refine answers_next ?_
    rcases runTransition_moves h hlegal with ⟨hc, hk⟩ | ⟨hc, hm⟩
    · exact .inl (sebKept_trigger _ _ _ hk)
    · exact .inr (moved_trigger (by rw [hc]; decide) hm)
  next => exact answers_next (.inl (sebKept_trigger _ _ _ (sebKept_sebGate _ _ h (h.congr rfl rfl rfl rfl))))

/-! ### Firmware, boot and the end of a command -/

section Firmware

variable {v : Seb} {s : State}

theorem sebKept_runImage (b : Bool) (h : SebKept v s.seb) : SebKept v (runImage s b).seb := h.congr rfl rfl rfl rfl

theorem sebKept_runHeld (n : Nat) (h : SebKept v s.seb) : SebKept v (runHeld n s).seb :=
  runHeld_keeps (P := fun s => SebKept v s.seb) (closed_sebKept v (by decide)) n s h

theorem sebKept_setSticky (p : Page) (b : Nat) (h : SebKept v s.seb) : SebKept v (setSticky s p b).seb :=
  setSticky_keeps (P := fun s => SebKept v s.seb) (closed_sebKept v (by decide)) s p b h

theorem execFwReady_sebKept (h : SebKept v s.seb) : Answers (fun t => SebKept v t.seb) (execFwReady s) :=
  ite_answers (answers_next (sebKept_setSticky _ _ (sebKept_runImage _ h))) (answers_next h)

theorem execImageVerifyDone_sebKept (h : SebKept v s.seb) :
    Answers (fun t => SebKept v t.seb) (execImageVerifyDone s) := by
  unfold execImageVerifyDone
  split
  · exact answers_next h
  refine ite_answers (answers_next h) ?_
  extract_lets b img code _ u
  refine ite_answers (answers_next (sebKept_runHeld _ ?_)) (ite_answers ?_ ?_)
  · exact verifyFail_keeps (P := fun s => SebKept v s.seb) (closed_sebKept v (by decide)) _
      (rejectLoad_keeps (P := fun s => SebKept v s.seb) (closed_sebKept v (by decide)) s code h)
  · exact answers_next (sebKept_runHeld _ (h.congr rfl rfl rfl rfl))
  · exact answers_next (sebKept_runHeld _ (sebKept_setSticky _ _ (h.congr rfl rfl rfl rfl)))

theorem execBootDone_sebKept (h : SebKept v s.seb) : Answers (fun t => SebKept v t.seb) (execBootDone s) := by
  have hboot (b : Bool) : SebKept v (bootImage s b).seb := h.congr rfl rfl rfl rfl
  refine ite_answers (answers_next h) (ite_answers (answers_next (hboot _)) (ite_answers ?_ (answers_next h)))
  exact answers_next (sebKept_setSticky _ _ ((hboot _).congr rfl rfl rfl rfl))

theorem execSebCommandDone_sebKept (h : SebKept v s.seb) :
    Answers (fun t => SebKept v t.seb) (execSebCommandDone s) := by
  unfold execSebCommandDone
  split
  · exact answers_next h
  · exact answers_next (sebKept_runHeld _ (sebKept_setSticky _ _ (h.congr rfl rfl rfl rfl)))

end Firmware

/-! ### Host writes -/

section Writes

variable {v : Seb} {s : State}

/-- No word but SEB_CMD changes what the SEB keeps. -/
theorem sebKept_writeOwn {path : Path} {p : Page} {off : Nat} (word : Nat) (hne : ¬(p = .seb ∧ off = 0x044))
    (h : SebKept v s.seb) : SebKept v (writeOwn s path p off word).seb := by
  have k : ∀ {F : List Area}, .seb ∉ F → Closed (fun s => SebKept v s.seb) F := closed_sebKept v
  unfold writeOwn
  split
  · exact writeMcPower_keeps (k (by decide)) _ _ _ h
  · exact writeSwCmd_keeps (k (by decide)) _ _ _ h
  · exact writeHallCmd_keeps (k (by decide)) _ _ _ h
  · exact writeGalleryCmd_keeps (k (by decide)) _ _ _ h
  · exact after_keeps _ _ h (execWayDisableWrite_keeps (k (by decide)) _ _ _ h)
  · exact after_keeps _ _ h (execDieRetire_keeps (k (by decide)) _ _ _ h)
  · exact after_keeps _ _ h (execActSplitWrite_keeps (k (by decide)) _ _ _ _ h)
  · exact writeMemOp_keeps (k (by decide)) _ _ _ _ h
  · exact writeGroupCmd_keeps (k (by decide)) _ _ _ _ h
  next l =>
    have hp := writePlain_keeps (k (by decide)) s (.link l) 0x040 word h
    exact ite_keeps (P := fun s => SebKept v s.seb) (after_keeps _ _ hp (execLinkRetrain_keeps (k (by decide)) _ _ hp)) hp
  · exact ite_keeps (P := fun s => SebKept v s.seb) (after_keeps _ _ h (execHifRetrain_keeps (k (by decide)) _ h)) h
  · exact ite_keeps (P := fun s => SebKept v s.seb) (after_keeps _ _ h (execClearTable_keeps (k (by decide)) _ _ h)) h
  · exact writeFwCmd_keeps (k (by decide)) _ _ h
  · exact absurd ⟨rfl, rfl⟩ hne
  · exact after_keeps _ _ h (execHostReset_keeps (k (by decide)) _ _ h)
  · exact writePlain_keeps (k (by decide)) _ _ _ _ h

theorem sebKept_writeWord {path : Path} {p : Page} {off : Nat} (word : Nat) (hne : ¬(p = .seb ∧ off = 0x044))
    (h : SebKept v s.seb) : SebKept v (writeWord s path p off word).seb := by
  have k : ∀ {F : List Area}, .seb ∉ F → Closed (fun s => SebKept v s.seb) F := closed_sebKept v
  unfold writeWord
  split
  · exact writeControl_keeps (k (by decide)) _ _ _ h
  split
  · exact clearSticky_keeps (k (by decide)) _ _ _ _ h
  split
  · exact writeMask_keeps (k (by decide)) _ _ _ _ h
  split
  · exact writeFieldsAt_keeps (k (by decide)) _ _ _ _ h
  split
  · exact after_keeps _ _ h (execWinWordWrite_keeps (k (by decide)) _ _ _ _ _ h)
  split
  · exact writeVecCtrl_keeps (k (by decide)) _ _ _ h
  split
  · exact writeLow_keeps (k (by decide)) _ _ _ _ _ h
  split
  · exact writeHigh_keeps (k (by decide)) _ _ _ _ _ h
  · have ho := sebKept_writeOwn (path := path) word hne h
    exact ite_keeps (P := fun s => SebKept v s.seb) (clearCounters_keeps (k (by decide)) _ _ _ ho) ho

theorem writeWord_sebCmd (s : State) (path : Path) (word : Nat) :
    writeWord s path .seb 0x044 word = writeSebCmd s path word := rfl

/-- A write of SEB_CMD keeps the SEB, or moves it once. -/
theorem writeSebCmd_moves (path : Path) (word : Nat) (h : SebKept v s.seb) : KeptOrMoved v (writeSebCmd s path word) := by
  have hkept {o} (ho : Answers (fun t => SebKept v t.seb) o) : KeptOrMoved v (after s o) := .inl (after_keeps _ _ h ho)
  unfold writeSebCmd
  split
  · exact .inl h
  · exact hkept (execChallenge_sebKept h)
  · exact hkept (execAttest_sebKept h)
  · exact after_keeps (P := KeptOrMoved v) _ _ (.inl h) (execTransition_moves _ _ h)
  · exact hkept (execCommitSvn_sebKept h)
  · exact hkept (execEraseRecord_sebKept h)
  · exact hkept (execWriteCert_sebKept h)
  · exact .inl h

theorem writeReg_moves (path : Path) (p : Page) (off word : Nat) (h : SebKept v s.seb) :
    KeptOrMoved v (writeReg s path p off word).1 := by
  unfold writeReg
  split
  · by_cases e : p = .seb ∧ off = 0x044
    · obtain ⟨rfl, rfl⟩ := e
      rw [writeWord_sebCmd]
      exact writeSebCmd_moves path word h
    · exact .inl (sebKept_writeWord word e h)
  · exact .inl (refuseWrite_keeps (P := fun s => SebKept v s.seb) (closed_sebKept v (by decide)) _ _ _ _ _ h)

theorem writeSpace_moves (path : Path) (a word : Nat) (h : SebKept v s.seb) :
    KeptOrMoved v (writeSpace s path a word).1 := by
  unfold writeSpace
  split
  · exact writeReg_moves path _ _ word h
  · exact .inl h

/-- What the SEB holds after a step: as it was, or after one legal move. -/
def SebSteps (v w : Seb) : Prop := SebKept v w ∨ SebMoved v w

theorem KeptOrMoved.steps {t : State} (h : KeptOrMoved v t) : SebSteps v t.seb := h.imp_right And.left

theorem closed_sebSteps (v : Seb) {F : List Area} (hF : .seb ∉ F) : Closed (fun s => SebSteps v s.seb) F :=
  closed_of_seb (fun _ h => h.imp (·.congr rfl rfl rfl rfl) fun m => ⟨m.legal, m.svn, m.identity⟩) hF

theorem execRegisterWrite_steps (path : Path) (page : Page) (off : BitVec 12) (value : WordWrite) (h : SebKept v s.seb) :
    Answers (fun t => SebSteps v t.seb) (execRegisterWrite path page off value s) := by
  have hwrite {u : State} (hu : SebKept v u.seb) :
      SebSteps v (writeBeside u path page off.toNat value.word.toNat value.hw.toNat).seb :=
    hwSets_keeps (P := fun s => SebSteps v s.seb) (closed_sebSteps v (by decide)) _ _ _ _ (writeReg_moves path _ _ _ hu).steps
  unfold execRegisterWrite
  refine ite_answers (answers_next (.inl h)) ?_
  split
  · exact answers_next (hwrite h)
  · refine answers_next (ite_keeps (P := fun s => SebSteps v s.seb) (hwrite ?_) ?_)
    · exact readAlso_keeps (P := fun s => SebKept v s.seb) (closed_sebKept v (by decide)) _ _ _ h
    · exact readAlso_keeps (P := fun s => SebSteps v s.seb) (closed_sebSteps v (by decide)) _ _ _ (hwrite h)

/-! ### Requests -/

/-- An answer to the host does not undo a move, nor the reset that came with it. -/
theorem complete_moves {t : State} (tag status len : Nat) (data : Option Nat) (h : KeptOrMoved v t) :
    KeptOrMoved v (complete t tag status len data) := by
  rcases h with h | ⟨hm, hr⟩
  · exact .inl (complete_keeps (P := fun s => SebKept v s.seb) (closed_sebKept v (by decide)) _ _ _ _ _ h)
  · refine .inr ⟨?_, ?_⟩
    · rwa [complete_keeps (closed_seb t.seb _ (by decide)) t tag status len data rfl]
    · rwa [JustReset, phaseAtLeast, complete_keeps (closed_rst t.rst _ (by decide)) t tag status len data rfl,
        rd_complete (by decide) (by decide)]

theorem hostRequest_moves (posted nonposted units : Nat) {body : State → State}
    (hb : ∀ u, SebKept v u.seb → KeptOrMoved v (body u)) (h : SebKept v s.seb) :
    KeptOrMoved v (hostRequest s posted nonposted units body) := by
  have hcount : SebKept v (countUnits s units).seb :=
    countUnits_keeps (P := fun s => SebKept v s.seb) (closed_sebKept v (by decide)) _ _ h
  unfold hostRequest
  split
  · exact .inl h
  extract_lets u src w
  split
  · exact .inl (overrun_keeps (P := fun s => SebKept v s.seb) (closed_sebKept v (by decide)) _ hcount)
  · have hw : KeptOrMoved v w := hb _ hcount
    clear_value w
    split
    · exact hw
    · exact hw

theorem execRegWr_moves (tag : BitVec 10) (addr : BitVec 64) (len : Nat) (value : BitVec 32) (h : SebKept v s.seb) :
    Answers (KeptOrMoved v) (execRegWr tag addr len value s) := by
  refine ite_answers (answers_next (.inl h)) (answers_next (hostRequest_moves _ _ _ (fun u hu => ?_) h))
  split
  · exact complete_moves _ _ _ _ (writeSpace_moves _ _ _ hu)
  · exact complete_moves _ _ _ _ (.inl hu)

theorem mainbandRequest_moves (x : MainbandCall) (h : SebKept v s.seb) : KeptOrMoved v (mainbandRequest s x) := by
  unfold mainbandRequest
  split
  · exact after_keeps (P := KeptOrMoved v) _ _ (.inl h) (execRegWr_moves _ _ _ _ h)
  · exact .inl (after_keeps (P := fun s => SebKept v s.seb) _ _ h
      (execRegRd_keeps (closed_sebKept v (by decide)) _ _ _ _ h))

theorem serveSideband_moves (addr : Nat) (op : SidebandOp) (h : SebKept v s.seb) :
    KeptOrMoved v (serveSideband s addr op).1 := by
  unfold serveSideband
  split
  · exact .inl h
  split
  · exact .inl (returnRead_keeps (P := fun s => SebKept v s.seb) (closed_sebKept v (by decide)) _ _ _
      (readSpace_keeps (P := fun s => SebKept v s.seb) (closed_sebKept v (by decide)) _ _ _ h))
  · exact writeSpace_moves _ _ _ h

/-- A mainband request that has moved the SEB has closed the sideband. -/
theorem sidebandOpen_of_justReset {t : State} (h : JustReset t) : sidebandOpen t = false := by
  rw [sidebandOpen, h, Bool.false_and]

theorem execSidebandRequest_steps (addr : BitVec 64) (call : SidebandCall) (h : SebKept v s.seb) :
    Answers (fun t => SebSteps v t.seb) (execSidebandRequest addr call s) := by
  unfold execSidebandRequest
  extract_lets u
  have hu : KeptOrMoved v u := by
    subst u
    split
    · exact mainbandRequest_moves _ h
    · exact .inl h
  clear_value u
  rcases hu with hk | ⟨hm, hr⟩
  · refine ite_answers ?_ (answers_next (.inl hk))
    have hs := (serveSideband_moves addr.toNat call.op hk).steps
    exact answers_next (ite_keeps (P := fun s => SebSteps v s.seb)
      (failSideband_keeps (P := fun s => SebSteps v s.seb) (closed_sebSteps v (by decide)) _ hs)
      (reply_keeps (P := fun s => SebSteps v s.seb) (closed_sebSteps v (by decide)) _ _ hs))
  · rw [if_neg (by rw [sidebandOpen_of_justReset hr]; decide)]
    exact answers_next (.inr hm)

end Writes

/-! ### Every command and every step -/

/-- What a command leaves of the SEB. -/
theorem exec_sebSteps (c : Instr) (s : State) : Answers (fun t => SebSteps s.seb t.seb) (exec c s) := by
  have h := SebKept.refl s.seb
  have hkept {o} (ho : Answers (fun t => SebKept s.seb t.seb) o) : Answers (fun t => SebSteps s.seb t.seb) o :=
    fun t e => .inl (ho t e)
  by_cases hc : Area.seb ∈ c.areas
  case neg => exact hkept (exec_keeps c s (closed_sebKept _ hc) h)
  cases c with
  | registerWrite => exact execRegisterWrite_steps _ _ _ _ h
  | sidebandRequest => exact execSidebandRequest_steps _ _ h
  | regWr => exact fun t e => (execRegWr_moves _ _ _ _ h t e).steps
  | transition => exact fun t e => (execTransition_moves _ _ h t e).steps
  | imageVerifyDone => exact hkept (execImageVerifyDone_sebKept h)
  | fwReady => exact hkept (execFwReady_sebKept h)
  | challenge => exact hkept (execChallenge_sebKept h)
  | attest => exact hkept (execAttest_sebKept h)
  | commitSvn => exact hkept (execCommitSvn_sebKept h)
  | eraseRecord => exact hkept (execEraseRecord_sebKept h)
  | writeCert => exact hkept (execWriteCert_sebKept h)
  | sebCommandDone => exact hkept (execSebCommandDone_sebKept h)
  | bootDone => exact hkept (execBootDone_sebKept h)
  | _ => simp [Instr.areas] at hc

theorem step_sebSteps {s t : State} (e : step s = .next t) : SebSteps s.seb t.seb := by
  unfold step at e
  split at e
  · rw [← Host.Outcome.next.inj e]
    exact .inl (tick_keeps (P := fun u => SebKept s.seb u.seb) (closed_sebKept _ (by decide)) s (SebKept.refl _))
  · have hexec := exec_sebSteps _ _ t e
    exact hexec

/-- Settles O54: a step keeps the lifecycle state or moves it once. -/
theorem lifecycleMovesLegally : Obligations.LifecycleMovesLegally := by
  intro s t e
  rcases step_sebSteps e with h | h
  · exact ⟨.inl h.state, h.svn⟩
  · exact ⟨.inr h.legal, h.svn⟩

/-- Settles O55: RETIRED is entered without an identity, and what stays in it keeps none. -/
theorem retiredHoldsNoKey : Obligations.RetiredHoldsNoKey := by
  intro s t hs e ht
  rcases step_sebSteps e with h | h
  · have h4 : s.seb.state = 4 := h.state ▸ ht
    obtain ⟨hk, hc⟩ := h.identity h4
    rw [hk, hc]
    exact hs h4
  · exact h.identity ht

end Sys2Proof.Machine

/-! SUPPORT and settlement of O39, O40, O46 and O52: which registers packets, messages and STICKY bits write, counters (R9, R27), the
reset state and the map of pages (R10, R379, R380). -/

namespace Sys2Proof.Machine

set_option Elab.async false -- each thread's stack counts against the check's memory limit

/-! ### Registers that signals leave alone -/

/-- The offsets of the host interface page that packets, messages and STICKY bits write. -/
def signalOffsets : List Nat := [0x018, 0x058, 0x068, 0x070, 0x094, 0x098, 0x0A0]

/-- A field that no packet, no message and no STICKY bit of the host interface page writes. -/
def silent (q : Page) (g : Fld) : Bool :=
  g.inPage && (q != .hif || (!signalOffsets.contains g.off && (decide (g.off < 0x40C) || g.lsb != 1)))

theorem key_ne_of_off {p q : Page} {f g : Fld} (hf : f.inPage = true) (hg : g.inPage = true) (h : q ≠ p ∨ g.off ≠ f.off) :
    key q g ≠ key p f := by
  simp only [Fld.inPage, Bool.and_eq_true, decide_eq_true_eq] at hf hg
  intro e
  obtain ⟨hp, ho, -⟩ := (key_inj hg.1 hf.1 hg.2 hf.2).1 e
  exact h.elim (· hp) (· ho)

theorem key_ne_of_lsb {p q : Page} {f g : Fld} (hf : f.inPage = true) (hg : g.inPage = true) (h : g.lsb ≠ f.lsb) :
    key q g ≠ key p f := by
  simp only [Fld.inPage, Bool.and_eq_true, decide_eq_true_eq] at hf hg
  exact fun e => h ((key_inj hg.1 hf.1 hg.2 hf.2).1 e).2.2

theorem inPage_of_silent {q : Page} {g : Fld} (h : silent q g = true) : g.inPage = true := (Bool.and_eq_true_iff.1 h).1

/-- A silent field has another name than those that signals write. -/
theorem key_ne_signal {q : Page} {g f : Fld} (h : silent q g = true) (hf : f.inPage = true)
    (hs : signalOffsets.contains f.off = true) : key q g ≠ key .hif f := by
  obtain ⟨hg, h⟩ := Bool.and_eq_true_iff.1 h
  refine key_ne_of_off hf hg ?_
  rcases Bool.or_eq_true_iff.1 h with hq | ho
  · exact .inl (by simpa using hq)
  · refine .inr fun e => ?_
    rw [e, hs] at ho
    exact absurd ho (by simp)

theorem key_ne_pending {q : Page} {g : Fld} (h : silent q g = true) (v : Nat) :
    key q g ≠ key .hif (Reg.hif.VEC_CTRL_PENDING (v % 64)) := by
  have hf : (Reg.hif.VEC_CTRL_PENDING (v % 64)).inPage = true := by
    simp only [Fld.inPage, Reg.hif.VEC_CTRL_PENDING, Bool.and_eq_true]
    exact ⟨decide_eq_true (by omega), rfl⟩
  obtain ⟨hg, h⟩ := Bool.and_eq_true_iff.1 h
  rcases Bool.or_eq_true_iff.1 h with hq | ho
  · exact key_ne_of_off hf hg (.inl (by simpa using hq))
  · rcases Bool.or_eq_true_iff.1 (Bool.and_eq_true_iff.1 ho).2 with hlt | hlsb
    · refine key_ne_of_off hf hg (.inr ?_)
      have hlt := of_decide_eq_true hlt
      simp only [Reg.hif.VEC_CTRL_PENDING]
      omega
    · exact key_ne_of_lsb hf hg (by simpa [Reg.hif.VEC_CTRL_PENDING] using hlsb)

section Silent

variable {q : Page} {g : Fld} (h : silent q g = true)

include h

theorem rd_wr_silent (s : State) (f : Fld) (v : Nat) (hf : f.inPage = true) (hs : signalOffsets.contains f.off = true) :
    rd (wr s .hif f v) q g = rd s q g := rd_wr_ne _ _ _ _ _ _ (key_ne_signal h hf hs)

theorem silent_emit (s : State) (p : Packet) : rd (emit s p) q g = rd s q g := by
  refine (rd_congr (s := count _ .hif Reg.hif.UNITS_TX p.units) (foldl_sendUnit_regs _ _) q g).trans ?_
  unfold bump count
  rw [rd_wr_silent h _ _ _ (by decide) (by decide)]
  repeat' first
    | rfl
    | rw [rd_wr_silent h _ _ _ (by decide) (by decide)]
    | split

theorem silent_noteWait (s : State) (e : Queued) : rd (noteWait s e).1 q g = rd s q g := by
  unfold noteWait
  split
  · exact rd_wr_silent h _ _ _ (by decide) (by decide)
  · rfl

theorem silent_pump (s : State) (a b : Bool) (ps : List Queued) : rd (pump s a b ps).1 q g = rd s q g := by
  induction ps generalizing s a b with
  | nil => rfl
  | cons e ps ih =>
    rw [pump]
    split
    · exact ih s _ _
    · split
      · rw [ih, silent_emit h]
      · exact (ih _ _ _).trans (silent_noteWait h s e)

theorem silent_flushQueue (s : State) : rd (flushQueue s) q g = rd s q g := by
  unfold flushQueue
  split
  · rfl
  · exact silent_pump h _ _ _ _

theorem silent_transmitFor (s : State) (o : Option Owner) (p : Packet) : rd (transmitFor s o p) q g = rd s q g :=
  silent_flushQueue h _

theorem silent_transmit (s : State) (p : Packet) : rd (transmit s p) q g = rd s q g := silent_transmitFor h s none p

theorem silent_signalWith (r : State → Nat → State) (hr : ∀ s b, rd (r s b) q g = rd s q g) (s : State) (v : Nat) :
    rd (signalWith r s v) q g = rd s q g := by
  unfold signalWith sendMsg
  extract_lets a
  split
  · exact rd_wr_ne _ _ _ _ _ _ (key_ne_pending h v)
  split
  · exact (hr _ _).trans (rd_wr_silent h _ _ _ (by decide) (by decide))
  split
  · exact silent_transmit h _ _
  · exact (hr _ _).trans (rd_wr_silent h _ _ _ (by decide) (by decide))

/-- Setting a STICKY bit leaves a silent field other than that STICKY. -/
theorem silent_raise (n : Nat) (s : State) (p : Page) (b : Nat) (hp : q ≠ p ∨ g.off ≠ 0x018) :
    rd (raise n s p b) q g = rd s q g := by
  have hg := inPage_of_silent h
  induction n generalizing s p b with
  | zero => rfl
  | succ n ih =>
    have hhif : q ≠ .hif ∨ g.off ≠ 0x018 := by
      by_contra hc
      obtain ⟨rfl, ho⟩ := not_or.1 hc |>.imp not_not.1 not_not.1
      simp [silent, signalOffsets, ho] at h
    rw [raise]
    split
    · rfl
    · extract_lets t
      have ht : rd t q g = rd s q g := rd_wr_ne _ _ _ _ _ _ (key_ne_of_off (by decide) hg hp)
      clear_value t
      split
      · rw [silent_signalWith h _ (fun u c => ih u .hif c hhif), ht]
      · exact ht

theorem silent_setSticky (s : State) (p : Page) (b : Nat) (hp : q ≠ p ∨ g.off ≠ 0x018) :
    rd (setSticky s p b) q g = rd s q g := silent_raise h 4 s p b hp

end Silent

/-! ### Counters (R9, R27) -/

/-- Settles O46: a counter's own read after its advance, and BAD_PACKETS beside what else the packet writes. -/
theorem countersSaturate : Obligations.CountersSaturate := by
  refine ⟨rd_count, fun s p n => ?_, fun type units s hopen htype hfull => ?_⟩
  · have hcount (u : State) (k : Nat) : fifoHold (countHold u p k) p = min (fifoHold u p + k) (2 ^ 32 - 1) := by
      rw [fifoHold_countHold, if_pos rfl]
    obtain ⟨k, hk, hcross⟩ := crossFifo_counts s p n
    exact ⟨hcount s n, k, hk, by rw [hcross, hcount]; rfl⟩
  · refine ⟨setSticky (bump (countUnits s (max 1 units)) .hif Reg.hif.BAD_PACKETS) .hif Sticky.hif.BAD_PACKET, ?_, ?_⟩
    · change execUnknownPacket type units s = _
      rw [execUnknownPacket, hopen, htype, if_neg (by decide)]
    · have harrived : rd (countUnits s (max 1 units)) .hif Reg.hif.BAD_PACKETS = 2 ^ 32 - 1 :=
        (rd_wr_ne _ _ _ _ _ _ (by decide)).trans hfull
      show rd (setSticky _ _ _) _ _ = _
      rw [silent_setSticky (by decide) _ _ _ (.inr (by decide)), rd_bump, harrived]
      decide

/-! ### The reset state -/

/-- Settles O39: no cell and three registers are listed, the queue is empty and the part is PROVISIONED. -/
theorem resetIsInForm : Obligations.ResetIsInForm :=
  ⟨by decide, rfl, fun h => absurd h (by decide)⟩

/-- After reset every field outside the reset page holds its reset value: the three that are listed are the reset page's. -/
theorem rd_reset {p : Page} {f : Fld} (hp : p ≠ .reset) (hf : f.inPage = true) : rd State.reset p f = f.rst := by
  have hne {g : Fld} (hg : g.inPage = true) : (key p f == key .reset g) = false :=
    beq_false_of_ne (key_ne_of_off hg hf (.inl hp))
  change (List.lookup (key p f) [(key .reset Reg.rst.RESET_CAUSE, 1), (key .reset Reg.rst.CAUSE_MASK, 2),
    (key .reset Reg.rst.RESET_COUNT, 1)]).getD f.rst = f.rst
  rw [List.lookup, hne (by decide), List.lookup, hne (by decide), List.lookup, hne (by decide)]
  rfl

theorem rd_reset_array {h g : Nat} {f : Fld} (hf : f.inPage = true) : rd State.reset (arrPage h g) f = f.rst :=
  rd_reset (by simp [arrPage]) hf

theorem rd_reset_remap (h i : Nat) (hi : i < 17) : rd State.reset (hallPage h) (Reg.hall.REMAP i) = i := by
  refine rd_reset (by simp [hallPage]) ?_
  simp only [Fld.inPage, Reg.hall.REMAP, Bool.and_eq_true]
  exact ⟨decide_eq_true (by omega), rfl⟩

/-- After reset the logical numbers of a hall name its galleries in order. -/
theorem logicalOf_reset (h g : Nat) : logicalOf State.reset h g = if g < 16 then some g else none := by
  unfold logicalOf
  split
  next hg =>
    have hfind : ∀ i < 16, rd State.reset (hallPage h) (Reg.hall.REMAP i) = i := fun i hi =>
      rd_reset_remap h i (by omega)
    rw [List.find?_range_eq_some]
    refine ⟨by simp [hfind g hg], List.mem_range.2 hg, fun j hj => ?_⟩
    rw [hfind j (by omega)]
    simp [Nat.ne_of_lt hj]
  next hg =>
    refine List.find?_eq_none.2 fun i hi => ?_
    have := List.mem_range.1 hi
    rw [rd_reset_remap h i (by omega), beq_iff_eq]
    omega

/-- Settles O40: the reset page's fields by evaluation, the others by their tables. -/
theorem resetLeavesTheTables : Obligations.ResetLeavesTheTables := by
  refine ⟨rfl, rfl, rfl, rfl, rfl, rfl, rfl, rfl, rfl, fun h i hi => ⟨?_, ?_⟩, fun h => ⟨?_, ?_⟩, fun p f a hf hp => ?_⟩
  · rw [logicalOf_reset, if_pos hi]
  · rw [quiesced, on, rd_reset_array (by rfl)]
    interval_cases i <;> rfl
  · rw [logicalOf_reset, if_neg (by decide)]
  · rw [outOfService, on, rd_reset_array (by rfl)]
    rfl
  · exact rd_reset hp (rows_inPage hf)

/-! ### The map of pages -/

theorem base_of_pageAt {a : Nat} {p : Page} (h : pageAt a = some p) : p.base = a / 4096 * 4096 := by
  unfold pageAt at h
  extract_lets n hh k g at h
  have hn : n = a / 4096 := rfl
  have hhv : hh = (n - 0x1000) / 256 := rfl
  have hk : k = n % 256 := rfl
  have hg : g = (k - 0x10) / 4 := rfl
  clear_value n hh k g
  split at h
  · interval_cases n <;> (obtain rfl := Option.some.inj h; rw [← hn]; rfl)
  split at h
  · obtain rfl := Option.some.inj h
    simp only [swPage, Page.base, Fin.val_ofNat]
    omega
  split at h
  · obtain rfl := Option.some.inj h
    simp only [linkPage, Page.base, Fin.val_ofNat]
    omega
  split at h
  case isFalse => simp at h
  split at h
  · interval_cases k <;> obtain rfl := Option.some.inj h <;>
      simp only [hallPage, hcPage, scPage, drsPage, Page.base, Fin.val_ofNat] <;> omega
  split at h
  case isFalse => simp at h
  have hr : k % 4 < 4 := Nat.mod_lt _ (by decide)
  generalize hm : k % 4 = r at h hr
  interval_cases r <;> obtain rfl := Option.some.inj h <;>
    simp only [arrPage, vePage, quPage, memPage, Page.base, Fin.val_ofNat] <;> omega

/-- Settles O52: `pageAt` and `Page.base` name the same places. -/
theorem pagesLieAsMapped : Obligations.PagesLieAsMapped := by
  refine ⟨pageAt_base, fun _ _ => base_of_pageAt, by decide, fun _ => rfl, fun _ => rfl,
    fun h => ?hall, fun h g => ?gallery, fun path a w s h => ?_⟩
  case hall => refine ⟨?_, ?_, ?_, ?_⟩ <;> simp only [Page.base] <;> omega
  case gallery => refine ⟨?_, ?_, ?_, ?_⟩ <;> simp only [Page.base] <;> omega
  rw [readSpace, writeSpace, h]
  exact ⟨rfl, rfl⟩

end Sys2Proof.Machine

/-! SUPPORT and settlement of O37: which commands can stop (R2, R397, R402). -/

namespace Sys2Proof.Machine

set_option Elab.async false -- each thread's stack counts against the check's memory limit

/-! ### Which commands can stop -/

/-- A meaning answers a next state. -/
def Goes (o : Host.Outcome State Fault Refusal) : Prop := ∃ t, o = .next t

theorem goes_next (t : State) : Goes (.next t) := ⟨t, rfl⟩

theorem goes_ite {c : Prop} [Decidable c] {a b : Host.Outcome State Fault Refusal} (ha : Goes a) (hb : Goes b) :
    Goes (if c then a else b) := by split <;> assumption

theorem goes_powerLoopPeriod {x : Sensors} {s : State} (hx : Sensors.beyond x = false) : Goes (execPowerLoopPeriod x s) := by
  unfold execPowerLoopPeriod
  rw [if_neg (by rw [hx]; decide)]
  repeat' first
    | exact goes_next _
    | refine goes_ite ?_ ?_

theorem goes_hostRd {s : State} : Goes (execHostRd s) := by
  delta execHostRd
  cases freeTag s with
  | none => exact goes_next _
  | some t =>
    dsimp only
    rcases giveTag t s.hif.reads with ⟨_, _ | _⟩ <;> exact goes_next _

/-- Every command but a sample of the sensors goes on: each arm of its meaning ends in a next state. -/
theorem goes_exec {c : Instr} {s : State} (hp : ∀ x, c ≠ .powerLoopPeriod x) (hc : ∀ k n x, c ≠ .timerCalibrationDone k n x) :
    Goes (exec c s) := by
  cases c with
  | powerLoopPeriod x => exact absurd rfl (hp x)
  | timerCalibrationDone k n x => exact absurd rfl (hc k n x)
  | hostRd => simpa only [exec] using goes_hostRd
  | mcInitDone => exact goes_ite (goes_next _) (goes_next _)
  | registerWrite | pairLowRead | pairHighRead | faultLatchRelease | entryReadDone | entryStartAfterWait |
    descriptorReadDone | waitWordWake | waitWordPollTimer | waitWordEvaluate | waitTimeout | fill | copy |
    flushWalkStep | windowOpenDone =>
    simp only [exec, execRegisterWrite, execPairLowRead, execPairHighRead, execFaultLatchRelease,
      execEntryReadDone, execEntryStartAfterWait, execDescriptorReadDone, execWaitWordWake,
      execWaitWordPollTimer, execWaitWordEvaluate, execWaitTimeout, execFill, execCopy, execFlushWalkStep,
      execWindowOpenDone]
    repeat' first
      | exact goes_next _
      | split
  | windowCloseDone | badOpcode | entryComplete | recordWriteFault | jobIssue | issueBlockReadDone |
    extentReadDone | ticketGrant | unitFinish | convertOnEntry | rowConversion | generatorBind |
    statisticsAddBurst | convert | groupOpen =>
    simp only [exec, execWindowCloseDone, execBadOpcode, execEntryComplete, execRecordWriteFault, execJobIssue,
      execIssueBlockReadDone, execExtentReadDone, execTicketGrant, execUnitFinish, execConvertOnEntry,
      execRowConversion, execGeneratorBind, execStatisticsAddBurst, execConvert, execGroupOpen]
    repeat' first
      | exact goes_next _
      | split
  | preloadRowLoad | tileRecordReceive | streamRingFetch | tileLoadHandshake | shadowSwap | flightStage | tread |
    flightEndAdd | deadlineTimerExpiry | samplingFlight | drainStart | drainDone | vectorTicketStart | map |
    dot =>
    simp only [exec, execPreloadRowLoad, execTileRecordReceive, execStreamRingFetch, execTileLoadHandshake,
      execShadowSwap, execFlightStage, execTread, execFlightEndAdd, execDeadlineTimerExpiry, execSamplingFlight,
      execDrainStart, execDrainDone, execVectorTicketStart, execMap, execDot]
    repeat' first
      | exact goes_next _
      | split
  | softmax | topk | reduceSum | reduceSplitk | dressPanel | galleryMemoryAccess | galleryRowRetire |
    hallCacheFill | wayWalkStep | dramLaneRepair | dramRowSpare | dramRowSpareDone | migrationDone |
    linkTrainingAttemptEnd | channelClaim | historyReadDone | receiveWriteAccept | receiveEndCommit |
    ackTimerExpiry | cpl | cplTimeout | imageVerifyDone | sebCommandDone =>
    simp only [exec, execSoftmax, execTopk, execReduceSum, execReduceSplitk, execDressPanel,
      execGalleryMemoryAccess, execGalleryRowRetire, execHallCacheFill, execWayWalkStep, execDramLaneRepair,
      execDramRowSpare, execDramRowSpareDone, execMigrationDone, execLinkTrainingAttemptEnd, execChannelClaim,
      execHistoryReadDone, execReceiveWriteAccept, execReceiveEndCommit, execAckTimerExpiry,
      execCpl, execCplTimeout, execImageVerifyDone, execSebCommandDone]
    repeat' first
      | exact goes_next _
      | split
  | _ =>
    repeat' first
      | exact goes_next _
      | refine goes_ite ?_ ?_


/-- What the expiry of a timer does goes on, but for a sample beyond an absolute maximum. -/
theorem goes_execExpiry {x : Expiry} {s : State} (h : ∀ y, x = .loop y → Sensors.beyond y = false) :
    Goes (execExpiry x s) := by
  cases x with
  | loop y => exact goes_powerLoopPeriod (h y rfl)
  | deadline p g => exact goes_exec (c := .deadlineTimerExpiry p g) nofun nofun
  | watchdog p g k => exact goes_exec (c := .treadWatchdogExpiry p g k) nofun nofun
  | timeout sw => exact goes_exec (c := .waitTimeout sw) nofun nofun
  | poll sw => exact goes_exec (c := .waitWordPollTimer sw) nofun nofun
  | completion tag => exact goes_exec (c := .cplTimeout tag) nofun nofun
  | retiredTag tag => exact goes_exec (c := .retiredTagRelease tag) nofun nofun
  | replay l => exact goes_exec (c := .replayTimerExpiry l) nofun nofun
  | ack l c => exact goes_exec (c := .ackTimerExpiry l c) nofun nofun
  | close l => exact goes_exec (c := .windowCloseTimeout l) nofun nofun
  | sagEntry => exact goes_exec (c := .sagWarnEntry) nofun nofun
  | sagExit => exact goes_exec (c := .sagWarnExit) nofun nofun
  | firmware => exact goes_exec (c := .fwReadyTimeout) nofun nofun

/-- A calibration goes on where the expiry beside it does. -/
theorem goes_timerCalibrationDone {k : Timer} {n : Nat} {x : Option Expiry} {s : State}
    (h : ∀ y, x = some (.loop y) → k = .loop → Sensors.beyond y = false) :
    Goes (execTimerCalibrationDone k n x s) := by
  unfold execTimerCalibrationDone
  split
  · exact goes_next _
  · next e hx =>
    obtain ⟨rfl, hk⟩ := Option.filter_eq_some_iff.1 hx
    obtain ⟨t, ht⟩ : Goes (execExpiry e s) := goes_execExpiry fun y hy => by
      subst hy
      exact h y rfl (beq_iff_eq.1 hk).symm
    rw [ht]
    exact goes_next _

/-- Settles O37: every arm of every meaning ends in a next state, but that of a sample. -/
theorem onlyAnAbsoluteMaximumStops : Obligations.OnlyAnAbsoluteMaximumStops := by
  refine ⟨fun c s hp hc => ?_, fun x n s hx => ?_⟩
  · by_cases h : ∃ x, c = .powerLoopPeriod x
    · obtain ⟨x, rfl⟩ := h
      exact goes_powerLoopPeriod (hp x rfl)
    by_cases h' : ∃ k n x, c = .timerCalibrationDone k n x
    · obtain ⟨k, n, x, rfl⟩ := h'
      exact goes_timerCalibrationDone fun y hy => hc k n y (by rw [hy])
    exact goes_exec (fun x e => h ⟨x, e⟩) fun k n x e => h' ⟨k, n, x, e⟩
  · have hf : execPowerLoopPeriod x s = .fault .beyondAbsoluteMaximum := by
      unfold execPowerLoopPeriod
      rw [if_pos hx]
    refine ⟨hf, ?_⟩
    change execTimerCalibrationDone .loop n (some (.loop x)) s = _
    have hs : execExpiry (.loop x) s = .fault .beyondAbsoluteMaximum := hf
    unfold execTimerCalibrationDone
    rw [show (some (Expiry.loop x)).filter (·.timer == .loop) = some (.loop x) from rfl]
    simp only [hs]

end Sys2Proof.Machine

/-! SUPPORT and settlement of O49: what a STICKY bit leaves, and the alarm of the fault concentrator (R335). -/

namespace Sys2Proof.Machine

set_option Elab.async false -- each thread's stack counts against the check's memory limit

/-! ### STICKY bits of one page -/

/-- Setting a STICKY bit touches nothing of the device but registers, FIFO_HOLD and the host interface's stream. -/
theorem hostSide_setSticky (s : State) (p : Page) (b : Nat) : HostSide s (setSticky s p b) :=
  setSticky_keeps (closed_hostSide s) s p b rfl

/-! What the host's side leaves, part by part. -/

section
variable {s t : State} (h : HostSide s t)
include h

/-- Any part of the device that is not on the host's side. -/
theorem HostSide.part {α : Type} {part : State → α}
    (hp : ∀ r f i d, part { s with regs := r, hif := i, fifoHolds := f, drawn := d } = part s := by intros; rfl) :
    part t = part s := by
  rw [HostSide] at h
  rw [h, hp]

theorem HostSide.pending : t.pending = s.pending := h.part (part := State.pending)
theorem HostSide.latches : t.latches = s.latches := h.part (part := State.latches)
theorem HostSide.staging : t.staging = s.staging := h.part (part := State.staging)
theorem HostSide.readWord : t.readWord = s.readWord := h.part (part := State.readWord)
theorem HostSide.dram : t.dram = s.dram := h.part (part := State.dram)
theorem HostSide.codes : t.codes = s.codes := h.part (part := State.codes)
theorem HostSide.stairs : t.stairs = s.stairs := h.part (part := State.stairs)
theorem HostSide.disp : t.disp = s.disp := h.part (part := State.disp)
theorem HostSide.galleries : t.galleries = s.galleries := h.part (part := State.galleries)
theorem HostSide.dressers : t.dressers = s.dressers := h.part (part := State.dressers)
theorem HostSide.caches : t.caches = s.caches := h.part (part := State.caches)
theorem HostSide.drams : t.drams = s.drams := h.part (part := State.drams)
theorem HostSide.links : t.links = s.links := h.part (part := State.links)
theorem HostSide.windows : t.windows = s.windows := h.part (part := State.windows)
theorem HostSide.fc : t.fc = s.fc := h.part (part := State.fc)
theorem HostSide.mc : t.mc = s.mc := h.part (part := State.mc)
theorem HostSide.seb : t.seb = s.seb := h.part (part := State.seb)
theorem HostSide.rst : t.rst = s.rst := h.part (part := State.rst)
theorem HostSide.jtag : t.jtag = s.jtag := h.part (part := State.jtag)

end

section
variable (s : State) (p : Page) (b : Nat)

@[simp] theorem setSticky_pending : (setSticky s p b).pending = s.pending := (hostSide_setSticky s p b).pending
@[simp] theorem setSticky_latches : (setSticky s p b).latches = s.latches := (hostSide_setSticky s p b).latches
@[simp] theorem setSticky_staging : (setSticky s p b).staging = s.staging := (hostSide_setSticky s p b).staging
@[simp] theorem setSticky_readWord : (setSticky s p b).readWord = s.readWord := (hostSide_setSticky s p b).readWord
@[simp] theorem setSticky_dram : (setSticky s p b).dram = s.dram := (hostSide_setSticky s p b).dram
@[simp] theorem setSticky_codes : (setSticky s p b).codes = s.codes := (hostSide_setSticky s p b).codes
@[simp] theorem setSticky_stairs : (setSticky s p b).stairs = s.stairs := (hostSide_setSticky s p b).stairs
@[simp] theorem setSticky_disp : (setSticky s p b).disp = s.disp := (hostSide_setSticky s p b).disp
@[simp] theorem setSticky_galleries : (setSticky s p b).galleries = s.galleries := (hostSide_setSticky s p b).galleries
@[simp] theorem setSticky_dressers : (setSticky s p b).dressers = s.dressers := (hostSide_setSticky s p b).dressers
@[simp] theorem setSticky_caches : (setSticky s p b).caches = s.caches := (hostSide_setSticky s p b).caches
@[simp] theorem setSticky_drams : (setSticky s p b).drams = s.drams := (hostSide_setSticky s p b).drams
@[simp] theorem setSticky_links : (setSticky s p b).links = s.links := (hostSide_setSticky s p b).links
@[simp] theorem setSticky_windows : (setSticky s p b).windows = s.windows := (hostSide_setSticky s p b).windows
@[simp] theorem setSticky_fc : (setSticky s p b).fc = s.fc := (hostSide_setSticky s p b).fc
@[simp] theorem setSticky_mc : (setSticky s p b).mc = s.mc := (hostSide_setSticky s p b).mc
@[simp] theorem setSticky_seb : (setSticky s p b).seb = s.seb := (hostSide_setSticky s p b).seb
@[simp] theorem setSticky_rst : (setSticky s p b).rst = s.rst := (hostSide_setSticky s p b).rst
@[simp] theorem setSticky_jtag : (setSticky s p b).jtag = s.jtag := (hostSide_setSticky s p b).jtag

end

/-- Off the host interface page, setting a STICKY bit sets that bit and leaves the others. -/
theorem sticky_setSticky_page {p : Page} (hp : p ≠ .hif) (s : State) (b : Nat) {i : Nat} (hi : i < 32) :
    sticky (setSticky s p b) p i = (sticky s p i || decide (b = i)) := by
  unfold setSticky
  rw [raise]
  split
  · next hb =>
    by_cases e : b = i
    · subst e
      have hs : sticky s p b = true := hb
      rw [hs, Bool.true_or]
    · rw [decide_eq_false e, Bool.or_false]
  · extract_lets t
    have ht : sticky t p i = (sticky s p i || decide (b = i)) := sticky_wr s p b i hi
    clear_value t
    split
    · rw [sticky_other (rd_signalWith hp (by decide) _ (fun u c => rd_raise hp (by decide) _ u .hif c
        (key_ne_of_off (by decide) (by decide) (.inl hp))) _ _), ht]
    · exact ht

/-! ### The table -/

theorem fcEnter_empty {s : State} (h : s.fc = []) (src code detail : Nat) :
    fcEnter s src code detail
      = setSticky { s with fc := [{ source := src, code := code, detail := detail, dups := 0 }] } .fc
          Sticky.fc.FIRST_ERROR := by
  unfold fcEnter
  simp [h]

/-- While the table has room and an entry, a report changes the table alone. -/
theorem fcEnter_nonempty {s : State} (h : s.fc ≠ []) (hroom : s.fc.length < 512) (src code detail : Nat) :
    fcEnter s src code detail = { s with fc := (fcEnter s src code detail).fc } ∧ (fcEnter s src code detail).fc ≠ [] := by
  unfold fcEnter
  rw [if_neg (Nat.not_le.2 hroom), if_neg (c := s.fc.isEmpty = true) (by simpa using h)]
  split <;> simp [h]

/-- A report that finds an entry in the table raises no alarm. -/
theorem firstError_fcEnter {s : State} (h : s.fc ≠ []) (src code detail : Nat) :
    sticky (fcEnter s src code detail) .fc Sticky.fc.FIRST_ERROR = sticky s .fc Sticky.fc.FIRST_ERROR := by
  unfold fcEnter
  rw [if_neg (c := s.fc.isEmpty = true) (by simpa using h)]
  split
  · rfl
  · split
    · rw [sticky_setSticky_page (by decide) _ _ (by decide)]
      rw [decide_eq_false (by decide), Bool.or_false]
      exact sticky_other (rd_wr_ne _ _ _ _ _ _ (key_ne_of_off (by decide) (by decide) (.inr (by decide)))) _
    · rfl

/-- The table emptied, with its count of reports that found no room. -/
def clearedTable (s : State) : State := wr { s with fc := [] } .fc Reg.fc.OVERFLOW_REPORTS 0

theorem exec_clearTable {s : State} (h : Reaches s .mainband .fc 0x044) (rs : List Report) :
    exec (.clearTable rs) s = .next (enterReports (clearedTable s) rs) := by
  change execClearTable rs s = _
  unfold execClearTable
  rw [ifPermitted_of_reaches h]
  rfl

theorem enterReports_one (s : State) (r : Report) :
    enterReports s [r] = fcEnter s r.source.toNat r.code.toNat r.detail.toNat := by simp [enterReports]

/-- Settles O49: the table has room or it has not, and it is empty or it is not. -/
theorem firstErrorIsTheOneAlarm : Obligations.FirstErrorIsTheOneAlarm := by
  refine ⟨fun r s h => ⟨_, rfl, ?_⟩, fun r s h hroom => ⟨_, rfl, ?_⟩, fun r s h => ⟨_, rfl, ?_⟩,
    fun s h => ⟨_, exec_clearTable h _, ?_⟩, fun r s h => ⟨_, exec_clearTable h _, ?_⟩⟩
  · rw [enterReports_one, fcEnter_empty h]
    beta_reduce
    rw [setSticky_fc]
    exact ⟨rfl, sticky_setSticky _ _ _ (by decide)⟩
  · rw [enterReports_one]
    exact fcEnter_nonempty h hroom _ _ _
  · rw [enterReports_one]
    exact firstError_fcEnter h _ _ _
  · rw [enterReports_nil]
    exact ⟨rfl, by simp [clearedTable], sticky_other (rd_wr_ne _ _ _ _ _ _ (by decide)) _⟩
  · rw [enterReports_one, fcEnter_empty (by rfl)]
    beta_reduce
    rw [setSticky_fc]
    refine ⟨rfl, ?_, sticky_setSticky _ _ _ (by decide)⟩
    rw [rd_setSticky_own (by decide) (by decide) _ _ (by decide)]
    show rd (clearedTable s) .fc Reg.fc.OVERFLOW_REPORTS = 0
    simp [clearedTable]

end Sys2Proof.Machine

/-! SUPPORT and settlement of O47: clears and the events of their handshake (R8, R85). -/

namespace Sys2Proof.Machine

set_option Elab.async false -- each thread's stack counts against the check's memory limit

/-! ### Folds that set and keep -/

/-- What one element of a list brings about and every element keeps holds after the fold. -/
theorem foldl_sets {α β : Type} {P : β → Prop} {f : β → α → β} {x : α} (hset : ∀ b, P (f b x)) {l : List α} (hx : x ∈ l)
    (hkeep : ∀ y ∈ l, ∀ b, P b → P (f b y)) (b : β) : P (l.foldl f b) := by
  induction l generalizing b with
  | nil => simp at hx
  | cons y l ih =>
    have hl : ∀ z ∈ l, ∀ b, P b → P (f b z) := fun z hz => hkeep z (.tail _ hz)
    rcases List.mem_cons.1 hx with rfl | hx
    · exact List.foldlRecOn l f (hset b) fun b hb z hz => hl z hz b hb
    · exact ih hx hl _

/-! ### What hardware sets beside a write -/

/-- A STICKY bit that hardware sets in the handshake of a write stands after it. -/
theorem sticky_setBitsOf {p : Page} {hw b : Nat} (hb : b < 32) (hp : bit p.stickyBits b = true) (hh : bit hw b = true)
    (s : State) : sticky (setBitsOf s p hw) p b = true := by
  have hmem : b ∈ bitList (hw &&& p.stickyBits) := by
    simp only [bit_eq] at hp hh
    simp [bitList, hb, bit_eq, Nat.testBit_and, hp, hh]
  exact foldl_sets (P := fun s => sticky s p b = true) (fun s => sticky_setSticky s p b hb) hmem
    (fun i _ s h => sticky_setSticky_mono s p p i b hb h) s

theorem mem_w1cFields {p : Page} {off : Nat} {f : Fld} (h : f ∈ w1cFields p off) :
    (f, Acc.w1c) ∈ (homeAt p off).rows ∧ f.off = off := by
  obtain ⟨⟨g, a⟩, he, rfl⟩ := List.mem_map.1 h
  simp only [List.mem_filter, Bool.and_eq_true, beq_iff_eq] at he
  obtain ⟨hrow, ⟨rfl, ho⟩, -⟩ := he
  exact ⟨hrow, ho⟩

/-- The mask of a word's W1C bits holds the bit of each of its one-bit W1C fields. -/
theorem w1cBits_bit {p : Page} {off : Nat} {f : Fld} (h : f ∈ w1cFields p off) (hw : f.width = 1) :
    bit (w1cBits p off) f.lsb = true := by
  refine foldl_sets (P := fun m => bit m f.lsb = true) (fun m => ?_) h (fun g _ m hm => ?_) 0
  · simp [bit_eq, hw, Nat.testBit_or]
  · rw [bit_eq] at hm
    simp [bit_eq, Nat.testBit_or, hm]

theorem bits_one {x i : Nat} (h : bit x i = true) : bits x i 1 = 1 := beq_iff_eq.1 h

/-- A one-bit W1C field that hardware sets in the handshake of a write holds 1 after it. -/
theorem rd_hwSets {p : Page} {off hw : Nat} {f : Fld} (hoff : off ≠ 0x018) (hf : f ∈ w1cFields p off) (hw1 : f.width = 1)
    (hb : bit hw f.lsb = true) (s : State) : rd (hwSets s p off (hw &&& w1cBits p off)) (homeAt p off) f = 1 := by
  have hset : bit (hw &&& w1cBits p off) f.lsb = true := by
    have := w1cBits_bit hf hw1
    rw [bit_eq] at this hb ⊢
    rw [Nat.testBit_and, hb, this, Bool.and_self]
  have hne : hw &&& w1cBits p off ≠ 0 := by
    intro h
    simp [h, bit_eq] at hset
  have hrow := (mem_w1cFields hf).1
  have hone : ∀ n, (n ||| 1) % 2 = 1 := by
    intro n
    rw [← Nat.and_one_is_mod, Nat.and_or_distrib_right]
    rcases Nat.mod_two_eq_zero_or_one n with h | h <;> simp [Nat.and_one_is_mod, h]
  rw [hwSets, if_neg hne, if_neg hoff]
  refine foldl_sets (P := fun s => rd s (homeAt p off) f = 1) (fun u => ?_) hf (fun g hg u hu => ?_) s
  · rw [rd_wr, hw1, bits_one hset]
    exact hone _
  · by_cases e : f = g
    · subst e
      rw [rd_wr, hw1, bits_one hset]
      exact hone _
    · rw [rd_wr_rows hrow (mem_w1cFields hg).1 (fun h => e h.2), hu]

theorem writeBeside_sets {p : Page} {off : Nat} {hw : Nat} {f : Fld} (hoff : off ≠ 0x018)
    (hf : f ∈ w1cFields p off) (hw1 : f.width = 1) (hb : bit hw f.lsb = true) (s : State) (path : Path) (word : Nat) :
    rd (writeBeside s path p off word hw) (homeAt p off) f = 1 := rd_hwSets hoff hf hw1 hb _

theorem exec_registerWrite_sets {path : Path} {page : Page} {off : BitVec 12} {v hw : BitVec 32} {f : Fld} {s : State}
    (hheld : s.rst.held = false) (hoff : off ≠ 0x018) (hf : f ∈ w1cFields page off.toNat) (hw1 : f.width = 1)
    (hb : bit hw.toNat f.lsb = true) :
    Completes (.registerWrite path page off ⟨v, hw, none⟩) s fun t => rd t (homeAt page off.toNat) f = 1 := by
  refine ⟨writeBeside s path page off.toNat v.toNat hw.toNat, ?_, writeBeside_sets ?_ hf hw1 hb _ _ _⟩
  · change execRegisterWrite path page off ⟨v, hw, none⟩ s = _
    rw [execRegisterWrite, hheld]
    rfl
  · intro h
    exact hoff (BitVec.eq_of_toNat_eq h)

/-! ### Counters -/

theorem own_width (p : Page) : p.own.all (fun e => decide (1 ≤ e.1.width)) = true := by
  cases p <;> (simp only [Page.own]; decide +kernel)

theorem rows_width {p : Page} {e : Fld × Acc} (h : e ∈ p.rows) : 1 ≤ e.1.width := by
  rcases List.mem_append.1 h with h | h
  · simp only [headerRows, List.mem_cons, List.not_mem_nil, or_false] at h
    rcases h with h | h | h | h | h | h | h | h | h | h | h <;> (subst h; exact of_decide_eq_true rfl)
  · exact of_decide_eq_true (List.all_eq_true.1 (own_width p) e h)

/-- The word of FIFO_HOLD holds no field: it is a counter of its own. -/
theorem own_hold (p : Page) : p.own.all (fun e => holdOff p != some e.1.off) = true := by
  cases p <;> (simp only [Page.own, holdOff]; decide +kernel)

theorem holdOff_ne {p : Page} {e : Fld × Acc} (h : e ∈ p.rows) : holdOff p ≠ some e.1.off := by
  rcases List.mem_append.1 h with h | h
  · have hlow := headerRows_off h
    cases p <;> simp only [holdOff, ne_eq, Option.some.injEq, reduceCtorEq, not_false_eq_true] <;> omega
  · exact bne_iff_ne.1 (List.all_eq_true.1 (own_hold p) e h)

theorem rd_wr_zero {q : Page} {f g : Fld} {a b : Acc} {p : Page} (hf : (f, a) ∈ q.rows) (hg : (g, b) ∈ p.rows) {s : State}
    (h : rd s q f = 0) : rd (wr s p g 0) q f = 0 := by
  by_cases e : q = p ∧ f = g
  · obtain ⟨rfl, rfl⟩ := e
    rw [rd_wr, Nat.zero_mod]
  · rw [rd_wr_rows hf hg e, h]

/-- A counter in a range is 0 when the range is cleared. -/
theorem rd_clearRange {p : Page} {f : Fld} {a : Acc} {r : Nat × Nat} (hf : (f, a) ∈ p.rows) (hlo : r.1 ≤ f.off)
    (hhi : f.off ≤ r.2) (s : State) : rd (clearRange s p r) p f = 0 := by
  unfold clearRange
  extract_lets u
  exact foldl_sets (P := fun s => rd s p f = 0) (x := (f, a)) (fun s => by rw [rd_wr, Nat.zero_mod])
    (List.mem_filter.2 ⟨hf, decide_eq_true ⟨hlo, hhi⟩⟩) (fun e he s h => rd_wr_zero hf (List.mem_filter.1 he).1 h) u

theorem rd_clearRange_zero {p : Page} {f : Fld} {a : Acc} (hf : (f, a) ∈ p.rows) (r : Nat × Nat) {s : State}
    (h : rd s p f = 0) : rd (clearRange s p r) p f = 0 := by
  unfold clearRange
  extract_lets u
  have hu : rd u p f = 0 := by
    refine ite_keeps (P := fun s => rd s p f = 0) ?_ h
    exact (rd_congr rfl _ _).trans h
  exact List.foldlRecOn (motive := fun s => rd s p f = 0) _ _ hu fun s hs e he =>
    rd_wr_zero hf (List.mem_filter.1 he).1 hs

theorem rd_clearCounters {p : Page} {off n : Nat} {rs : List (Nat × Nat)} {r : Nat × Nat} {f : Fld} {a : Acc}
    (hc : p.clears.find? (fun c => c.1 == off) = some (off, n, rs)) (hr : r ∈ rs) (hf : (f, a) ∈ p.rows)
    (hlo : r.1 ≤ f.off) (hhi : f.off ≤ r.2) (s : State) : rd (clearCounters s p off) p f = 0 := by
  rw [clearCounters, hc]
  exact foldl_sets (P := fun s => rd s p f = 0) (fun s => rd_clearRange hf hlo hhi s) hr
    (fun r _ s h => rd_clearRange_zero hf r h) s

/-- An event of a counter that a clear bit covers is counted by it. -/
theorem countEvent_counts {p : Page} {e off n : Nat} {rs : List (Nat × Nat)} {r : Nat × Nat} {f : Fld} {a : Acc}
    (hc : (off, n, rs) ∈ p.clears) (hr : r ∈ rs) (hrow : p.rows.find? (fun x => x.1.off == e) = some (f, a))
    (hlo : r.1 ≤ e) (hhi : e ≤ r.2) (s : State) : countEvent s p e = bump s p f := by
  have hmem := List.mem_of_find?_eq_some hrow
  have hoff : f.off = e := by simpa using List.find?_some hrow
  have hcov : (p.clears.any fun c => c.2.2.any fun r => decide (r.1 ≤ e ∧ e ≤ r.2)) = true :=
    List.any_eq_true.2 ⟨_, hc, List.any_eq_true.2 ⟨r, hr, decide_eq_true ⟨hlo, hhi⟩⟩⟩
  rw [countEvent, if_neg (by rw [← hoff]; exact holdOff_ne hmem)]
  simp only [hcov, Bool.and_true, hrow]

theorem exec_counterClear_one {page : Page} {off : BitVec 12} {s : State} (h : Reaches s .mainband page off.toNat)
    (es : List (BitVec 12)) :
    exec (.counterClear page off es) s = .next (countEvents (clearCounters s page off.toNat) page es) := by
  obtain ⟨hheld, hperm⟩ := h
  change execCounterClear page off es s = _
  rw [execCounterClear, beside, if_neg (by simp [hheld]), if_pos hperm]

/-- An event in the handshake of a clear counts after it. -/
theorem counterClear_counts {page : Page} {off e : BitVec 12} {n : Nat} {rs : List (Nat × Nat)} {f : Fld} {a : Acc}
    {r : Nat × Nat} {s : State} (h : Reaches s .mainband page off.toNat)
    (hc : page.clears.find? (fun c => c.1 == off.toNat) = some (off.toNat, n, rs)) (hr : r ∈ rs)
    (hrow : page.rows.find? (fun x => x.1.off == e.toNat) = some (f, a)) (hlo : r.1 ≤ e.toNat) (hhi : e.toNat ≤ r.2) :
    Completes (.counterClear page off [e]) s fun t => rd t page f = 1 := by
  have hmem := List.mem_of_find?_eq_some hrow
  have hoff : f.off = e.toNat := by simpa using List.find?_some hrow
  refine ⟨_, exec_counterClear_one h [e], ?_⟩
  show rd (countEvent (clearCounters s page off.toNat) page e.toNat) page f = 1
  rw [countEvent_counts (List.mem_of_find?_eq_some hc) hr hrow hlo hhi, rd_bump,
    rd_clearCounters hc hr hmem (by omega) (by omega)]
  have hw : 2 ^ 1 ≤ 2 ^ f.width := Nat.pow_le_pow_right (by decide) (rows_width hmem)
  omega

/-- A clear of counters leaves what each path latched of a pair, and the next read of the high half returns it. -/
theorem counterClear_keeps_latch {path : Path} {page : Page} {off ctl : BitVec 12} {f : Fld} {a : Acc} {w : Nat} {s : State}
    (ho : 4 ≤ off.toNat) (hp : storedPair page (off.toNat - 4) = some (f, a))
    (hl : NatMap.get? s.latches (pairKey path page f) = some w) :
    Completes (.counterClear page ctl []) s fun u =>
      Completes (.pairHighRead path page off) u fun t => NatMap.get? t.readWord (pathNum path) = some (w % 2 ^ 32) := by
  have hexec : exec (.counterClear page ctl []) s
      = .next (beside s page ctl.toNat (clearWord page ctl.toNat) (fun s => countEvents s page [])
          (countEvents (clearCounters s page ctl.toNat) page [])) := rfl
  refine ⟨_, hexec, ?_⟩
  have hu := part_kept closed_latches latches_avoided hexec rfl
  generalize beside s page ctl.toNat _ _ _ = u at hu
  have hpair : pairAt u page (off.toNat - 4) = some (f, rd u page f) := by rw [pairAt, hp]
  refine ⟨_, exec_pairHighRead ho hpair, ?_⟩
  beta_reduce
  rw [readWord_returnRead, readHigh_value, hu, hl, Option.getD_some]

/-! ### Latches -/

theorem rd_latchAgain (s : State) {p : Page} {f : Fld} (h : latchBit p = some f) : rd (latchAgain s p f true) p f = 1 := by
  have hw : f.width = 1 := by
    cases p <;> simp only [latchBit, Option.some.injEq, reduceCtorEq] at h <;> exact h ▸ rfl
  rw [latchAgain, if_pos rfl, rd_wr, hw]
  rfl

/-- A fault that hardware latches in the handshake of a release stays latched. -/
theorem faultLatchRelease_latches {page : Page} {f : Fld} {s : State} (h : latchBit page = some f)
    (hheld : s.rst.held = false) : Completes (.faultLatchRelease ⟨page, true⟩) s fun t => rd t page f = 1 := by
  refine ⟨beside s page f.off (2 ^ f.lsb) (fun s => latchAgain s page f true) (latchAgain (wr s page f 0) page f true),
    ?_, ?_⟩
  · change execFaultLatchRelease _ s = _
    simp only [execFaultLatchRelease, h]
  · rw [beside, if_neg (by simp [hheld])]
    exact ite_keeps (P := fun t => rd t page f = 1) (rd_latchAgain _ h) (rd_latchAgain _ h)

/-- Settles O47: what hardware sets or counts in the handshake of a clear comes after it. -/
theorem noEventIsLostToAClear : Obligations.NoEventIsLostToAClear := by
  refine ⟨fun page v hw b s hheld hb hp hh => ⟨_, rfl, ?_⟩, fun path page off v hw f s => exec_registerWrite_sets,
    fun page f s => faultLatchRelease_latches, fun page off e n rs f a r s => counterClear_counts,
    fun path page off ctl f a w s => counterClear_keeps_latch⟩
  rw [beside, if_neg (by simp [hheld])]
  exact ite_keeps (P := fun t => sticky t page b = true) (sticky_setBitsOf hb hp hh _) (sticky_setBitsOf hb hp hh _)

end Sys2Proof.Machine

/-! SUPPORT and settlement of O56: what a register read shows of the private key (R353, R363). -/

namespace Sys2Proof.Machine

set_option Elab.async false -- each thread's stack counts against the check's memory limit

/-- The device with an identity key in the place of its own. -/
def withKey (s : State) (m e d : Nat) : State := { s with seb := { s.seb with idKey := some (m, e, d) } }

theorem nextOpening_withKey (s : State) (m e d : Nat) (ts : List Ticket) :
    nextOpening (withKey s m e d) ts = nextOpening s ts := by
  induction ts with
  | nil => rfl
  | cons t ts ih =>
    rw [nextOpening, ih]
    rfl

theorem landingState_withKey (s : State) (m e d : Nat) (x : Gallery) :
    landingState (withKey s m e d) x = landingState s x := by
  unfold landingState waitingOpening
  rw [nextOpening_withKey]

/-- A read of a window word that no upset has flipped returns the word. -/
theorem readWindow_value (s : State) (h : Fin 16) (g : Fin 17) (i : Nat) :
    (readWindow s h g i []).2 = ((windowWord s h g i).map fun r => getWord (gal s h g) r.1 r.2).getD 0 := by
  unfold readWindow
  cases windowWord s h g i with
  | none => rfl
  | some r =>
    obtain ⟨x, hx, hne⟩ := upsetWord_unflipped s h g r.1 (r.2 / unitWords r.1 * unitWords r.1)
    simp only [show flipList r.1 [] = [] from rfl, hx, if_neg hne]
    rfl

section
variable {s : State} {m e d : Nat} (d' : Nat) (h : s.seb.idKey = some (m, e, d))
include h

theorem publicKey_withKey : publicKey (withKey s m e d') = publicKey s := by
  unfold publicKey
  rw [h]
  rfl

theorem idDigest_withKey : idDigest (withKey s m e d') = idDigest s := by
  unfold idDigest
  rw [publicKey_withKey d' h, h]
  rfl

/-- Of the identity key the computed words show ID_DIGEST, which is of the public key alone. -/
theorem ownViews_withKey (p : Page) (off : Nat) : ownViews (withKey s m e d') p off = ownViews s p off := by
  cases p with
  | seb =>
    unfold ownViews sebViews idDigestImage
    rw [idDigest_withKey d' h]
    rfl
  | array h g =>
    simp only [ownViews, arrayViews, landingState_withKey]
    rfl
  | _ => rfl

/-- Of the identity key the readback spaces show the public key. -/
theorem readback_withKey (p : Page) (space i : Nat) : readback (withKey s m e d') p space i = readback s p space i := by
  cases p with
  | seb =>
    unfold readback
    rw [publicKey_withKey d' h]
    rfl
  | _ => rfl

theorem computedViews_withKey (p : Page) (off : Nat) : computedViews (withKey s m e d') p off = computedViews s p off := by
  have hheader : headerViews (withKey s m e d') p off = headerViews s p off := by
    unfold headerViews
    rw [readback_withKey d' h, show statusViews (withKey s m e d') p = statusViews s p by cases p <;> rfl]
    rfl
  have hpair : ∀ o, view64 (withKey s m e d') p o = view64 s p o := fun o => by cases p <;> rfl
  unfold computedViews
  rw [hheader, hpair, hpair, ownViews_withKey d' h]
  rfl

theorem liveWord_withKey (p : Page) (off : Nat) : liveWord (withKey s m e d') p off = liveWord s p off := by
  unfold liveWord
  rw [computedViews_withKey d' h]
  rfl

/-- A register word reads the same with another private key. -/
theorem readReg_withKey (path : Path) (p : Page) (off : Nat) :
    (readReg (withKey s m e d') path p off).2 = (readReg s path p off).2 := by
  have hpair : ∀ o, pairAt (withKey s m e d') p o = pairAt s p o := fun o => by
    unfold pairAt
    rw [show view64 (withKey s m e d') p o = view64 s p o by cases p <;> rfl]
    rfl
  unfold readReg
  simp only [hpair]
  by_cases hoff : off = 0x024
  · rw [if_pos hoff, if_pos hoff]
    exact liveWord_withKey d' h p _
  rw [if_neg hoff, if_neg hoff]
  cases windowAt p off with
  | some w =>
    dsimp only
    rw [readWindow_value, readWindow_value]
    rfl
  | none =>
    cases pairAt s p off with
    | some x => rfl
    | none =>
      cases (if off < 4 then none else pairAt s p (off - 4)) with
      | some x =>
        dsimp only
        rw [readHigh_value, readHigh_value]
        rfl
      | none => exact liveWord_withKey d' h p off

end

/-- Settles O56: a word shows the identity key by its modulus and exponent alone. -/
theorem privateKeyIsNotReadable : Obligations.PrivateKeyIsNotReadable :=
  fun path p off _ _ _ d' _ h => readReg_withKey d' h path p off

end Sys2Proof.Machine

/-! SUPPORT and settlement of O45: what the register commands leave (R7, R12, R382, R384, R387). -/

namespace Sys2Proof.Machine

set_option Elab.async false -- each thread's stack counts against the check's memory limit

/-! ### A write that the lifecycle state permits -/

/-- A write that the lifecycle state permits has its effect or none. -/
theorem ifPermitted_effect_or_none {s : State} {p : Page} {off word : Nat} (h : statePermits s .mainband p = true)
    (hst : ¬StartsList p off word) (body : State) :
    ifPermitted s .mainband p off word body = body ∨ ifPermitted s .mainband p off word body = s := by
  unfold ifPermitted
  rw [refuseWrite_of_statePermits h fun _ => hst]
  split
  · exact .inr rfl
  · split
    · exact .inl rfl
    · exact .inr rfl

/-- A permitted write of one field, by a command that writes no other. -/
theorem field_write_alone {c : Instr} {s t : State} {page p q : Page} {off word v : Nat} {f g : Fld} {a b : Acc}
    (hc : exec c s = .next (ifPermitted s .mainband page off word (wr s p g v)))
    (hs : statePermits s .mainband page = true) (hst : ¬StartsList page off word) (hf : (f, a) ∈ q.rows)
    (hg : (g, b) ∈ p.rows) (hne : q ≠ p ∨ f ≠ g) (e : exec c s = .next t) :
    rd t q f = rd s q f ∧ t = { s with regs := t.regs } := by
  obtain rfl := Host.Outcome.next.inj (hc.symm.trans e)
  rcases ifPermitted_effect_or_none hs hst (wr s p g v) with h | h <;> rw [h]
  · exact ⟨rd_wr_rows hf hg (fun ⟨hp, hfg⟩ => hne.elim (· hp) (· hfg)) _ _, rfl⟩
  · exact ⟨rfl, rfl⟩

theorem not_startsList_of_off {p : Page} {off word : Nat} (h : off ≠ 0x050) : ¬StartsList p off word :=
  fun ⟨_, _, ho, _⟩ => h ho

theorem exec_stickyClear_alone (page : Page) (v : BitVec 32) (s : State) :
    exec (.stickyClear page v 0) s = .next (ifPermitted s .mainband page 0x018 v.toNat
      (wr s page Reg.hdr.STICKY (rd s page Reg.hdr.STICKY - (rd s page Reg.hdr.STICKY &&& v.toNat)))) := by
  change execStickyClear page v 0 s = _
  rw [execStickyClear, show (0 : BitVec 32).toNat = 0 from rfl, beside_setBitsOf_zero, clearSticky]
  simp

theorem exec_stickyMaskWrite_alone (page : Page) (v : BitVec 32) (s : State) :
    exec (.stickyMaskWrite page v 0) s = .next (ifPermitted s .mainband page 0x01C v.toNat
      (wr s page (Reg.hdr.STICKY_MASK page) (v.toNat &&& page.stickyBits))) := by
  change execStickyMaskWrite page v 0 s = _
  rw [execStickyMaskWrite, show (0 : BitVec 32).toNat = 0 from rfl, beside_setBitsOf_zero, writeMask]
  simp

theorem exec_controlEnableWrite_alone (page : Page) (enable : Bool) (s : State) :
    exec (.controlEnableWrite page enable 0) s = .next (ifPermitted s .mainband page 0x00C enable.toNat
      (wr s page.home Reg.hdr.CONTROL_ENABLE enable.toNat)) := by
  change execControlEnableWrite page enable 0 s = _
  rw [execControlEnableWrite, show (0 : BitVec 32).toNat = 0 from rfl, beside_setBitsOf_zero, writeEnable]
  simp

theorem exec_faultLatchRelease_alone {page : Page} {g : Fld} (hg : latchBit page = some g) (s : State) :
    exec (.faultLatchRelease ⟨page, false⟩) s
      = .next (ifPermitted s .mainband page g.off (2 ^ g.lsb) (wr s page g 0)) := by
  change execFaultLatchRelease _ s = _
  simp only [execFaultLatchRelease, hg]
  rfl

theorem stickyMask_mem (p : Page) : (Reg.hdr.STICKY_MASK p, Acc.rw) ∈ p.rows := List.mem_append_left _ (by simp [headerRows])

theorem controlEnable_mem (p : Page) : (Reg.hdr.CONTROL_ENABLE, Acc.rw) ∈ p.rows :=
  List.mem_append_left _ (by simp [headerRows])

theorem readbackIndex_mem (p : Page) : (Reg.hdr.READBACK_SEL_INDEX, Acc.rw) ∈ p.rows :=
  List.mem_append_left _ (by simp [headerRows])

theorem latchBit_mem {p : Page} {g : Fld} (h : latchBit p = some g) : ∃ a, (g, a) ∈ p.rows := by
  have hown : p.own.any (fun e => e.1 == g) = true := by
    cases p <;> simp only [latchBit, Option.some.injEq, reduceCtorEq] at h <;>
      (subst h; simp only [Page.own]; decide +kernel)
  obtain ⟨⟨f, a⟩, he, hf⟩ := List.any_eq_true.1 hown
  exact ⟨a, List.mem_append_right _ (by rwa [← (beq_iff_eq.1 hf : f = g)])⟩

theorem latchBit_not_startsList {p : Page} {g : Fld} (h : latchBit p = some g) (off word : Nat) : ¬StartsList p off word := by
  rintro ⟨i, rfl, -⟩
  simp [latchBit] at h

/-! ### Counters cleared -/

/-- The ranges that the clear bit at an offset covers leave out a place. -/
def Uncleared (p : Page) (off o : Nat) : Prop := ∀ c ∈ p.clears, c.1 = off → ∀ r ∈ c.2.2, o < r.1 ∨ r.2 < o

/-- What no cleared range of a page reaches is left by the clear. -/
theorem clearCounters_leaves {P : State → Prop} {p : Page} {off : Nat}
    (hr : ∀ c ∈ p.clears, c.1 = off → ∀ r ∈ c.2.2, ∀ s, P s → P (clearRange s p r)) {s : State} (h : P s) :
    P (clearCounters s p off) := by
  unfold clearCounters
  split
  · next c hc =>
    exact List.foldlRecOn (motive := P) _ _ h fun s hs r hmem =>
      hr c (List.mem_of_find?_eq_some hc) (by simpa using List.find?_some hc) r hmem s hs
  · exact h

theorem rd_clearRange_other {p q : Page} {f : Fld} {a : Acc} {r : Nat × Nat} (hf : (f, a) ∈ q.rows)
    (hne : q ≠ p ∨ f.off < r.1 ∨ r.2 < f.off) (s : State) : rd (clearRange s p r) q f = rd s q f := by
  unfold clearRange
  extract_lets u
  have hu : rd u q f = rd s q f := ite_keeps (P := fun t => rd t q f = rd s q f) (rd_congr rfl _ _) rfl
  refine List.foldlRecOn (motive := fun t => rd t q f = rd s q f) _ _ hu fun t ht e he => ?_
  obtain ⟨hmem, hin⟩ := List.mem_filter.1 he
  have hin : r.1 ≤ e.1.off ∧ e.1.off ≤ r.2 := of_decide_eq_true hin
  rw [rd_wr_rows hf hmem, ht]
  rintro ⟨rfl, rfl⟩
  rcases hne with h | h
  · exact h rfl
  · omega

theorem clearHold_other {p q : Page} (h : q.base ≠ p.base) (s : State) : fifoHold (clearHold s p) q = fifoHold s q := by
  unfold fifoHold clearHold
  rw [NatMap.get?_del, if_neg h]

theorem fifoHold_clearRange {p q : Page} {r : Nat × Nat}
    (hne : q.base ≠ p.base ∨ ∀ o, holdOff p = some o → o < r.1 ∨ r.2 < o) (s : State) :
    fifoHold (clearRange s p r) q = fifoHold s q := by
  unfold clearRange
  extract_lets u
  have hu : fifoHold u q = fifoHold s q := by
    show fifoHold (if _ then clearHold s p else s) q = fifoHold s q
    split
    · next hin =>
      refine clearHold_other (hne.resolve_right fun h => ?_) s
      obtain ⟨o, ho, hin⟩ := (Option.any_eq_true _ _).1 hin
      have hin : r.1 ≤ o ∧ o ≤ r.2 := of_decide_eq_true hin
      have := h o ho
      omega
    · rfl
  exact List.foldlRecOn (motive := fun t => fifoHold t q = fifoHold s q) _ _ hu fun t ht e _ => ht

theorem clearCounters_alone (s : State) (p : Page) (off : Nat) :
    clearCounters s p off
      = { s with regs := (clearCounters s p off).regs, fifoHolds := (clearCounters s p off).fifoHolds } := by
  refine clearCounters_keeps (P := fun t => t = { s with regs := t.regs, fifoHolds := t.fifoHolds }) ?_ s p off rfl
  intro q hq
  fin_cases hq
  · intro t p f v h
    rw [h]
    rfl
  · intro t x h
    rw [h]

theorem clear_not_startsList (p : Page) (off : Nat) : ¬StartsList p off (clearWord p off) := by
  rintro ⟨i, rfl, rfl, h⟩
  rw [show clearWord (.stairwell i) 0x050 = 0 from rfl] at h
  exact absurd h (by decide)

theorem exec_counterClear_alone (page : Page) (off : BitVec 12) (s : State) :
    exec (.counterClear page off []) s = .next (ifPermitted s .mainband page off.toNat (clearWord page off.toNat)
      (clearCounters s page off.toNat)) := rfl

/-! ### Commands that write no register -/

/-- The parts that are set without a register. -/
def quietAreas : List Area :=
  [.latches, .readWord, .stairs, .disp, .galleries, .dressers, .drams, .hif, .mc, .rst, .jtag, .drawn]

theorem closed_regs (v : NatMap Nat) : Closed (fun s => s.regs = v) quietAreas := by
  intro q hq
  fin_cases hq <;> exact fun s x h => h

theorem regs_kept {c : Instr} {s t : State} (h : ∀ q ∈ c.areas, q ∈ quietAreas) (e : exec c s = .next t) : t.regs = s.regs :=
  exec_keeps c s ((closed_regs s.regs).sub h) rfl t e

theorem regs_calNow {s t : State} (h : statePermits s .mainband .mcPower = true) (e : exec .calNow s = .next t) :
    t.regs = s.regs := by
  obtain rfl := Host.Outcome.next.inj ((show exec .calNow s
    = .next (ifPermitted s .mainband .mcPower 0x060 (2 ^ 31) (queueTimers s allTimers)) from rfl).symm.trans e)
  rcases ifPermitted_effect_or_none (off := 0x060) (word := 2 ^ 31) h (not_startsList_of_off (by decide))
    (queueTimers s allTimers) with h | h <;> rw [h]
  exact queueTimers_keeps (P := fun t => t.regs = s.regs) ((closed_regs s.regs).sub (by decide)) s allTimers rfl

theorem pairRead_alone {path : Path} {page : Page} {off : BitVec 12} {s t : State}
    (e : exec (.pairLowRead path page off) s = .next t ∨ exec (.pairHighRead path page off) s = .next t) :
    t = { s with latches := t.latches, readWord := t.readWord } := by
  have hc : ∀ c : Instr, c.areas = [.latches, .readWord] → exec c s = .next t →
      t = { s with latches := t.latches, readWord := t.readWord } := fun c ha e =>
    exec_keeps (P := fun t => t = { s with latches := t.latches, readWord := t.readWord }) c s (by
      intro q hq
      rw [ha] at hq
      fin_cases hq <;> (intro t x h; rw [h])) rfl t e
  exact e.elim (hc _ rfl) (hc _ rfl)

/-- Settles O45: every such command is one write, or touches no register. -/
theorem registerFrame : Obligations.RegisterFrame := by
  refine ⟨fun c s t h e => ⟨part_kept closed_latches latches_avoided e h, part_kept closed_staging staging_avoided e h⟩,
    fun page q v f a s t hf hs hne e => field_write_alone (exec_stickyClear_alone page v s) hs
      (not_startsList_of_off (by decide)) hf (sticky_mem page) hne e,
    fun page q v f a s t hf hs hne e => field_write_alone (exec_stickyMaskWrite_alone page v s) hs
      (not_startsList_of_off (by decide)) hf (stickyMask_mem page) hne e,
    fun page q v f a s t hf hs hne e => field_write_alone (exec_controlEnableWrite_alone page v s) hs
      (not_startsList_of_off (by decide)) hf (controlEnable_mem page.home) hne e,
    fun page q g f a s t hf hg hs hne e => ?_, fun page q off f a s t hf hs hne e => ?_,
    fun page q off s t hs hne e => ?_, fun path page off ev s t e => ?_, fun path page q f a s t hf hne e => ?_,
    fun path page off s t e => ?_, ?_⟩
  · obtain ⟨b, hmem⟩ := latchBit_mem hg
    exact field_write_alone (exec_faultLatchRelease_alone hg s) hs (latchBit_not_startsList hg _ _) hf hmem hne e
  · obtain rfl := Host.Outcome.next.inj ((exec_counterClear_alone page off s).symm.trans e)
    rcases ifPermitted_effect_or_none hs (clear_not_startsList page off.toNat) (clearCounters s page off.toNat) with h | h <;>
      rw [h]
    · refine ⟨clearCounters_leaves (P := fun t => rd t q f = rd s q f) (fun c hc ho r hr t ht => ?_) rfl,
        clearCounters_alone s page off.toNat⟩
      rw [rd_clearRange_other hf (hne.imp_right fun h => h c hc ho r hr), ht]
    · exact ⟨rfl, rfl⟩
  · obtain rfl := Host.Outcome.next.inj ((exec_counterClear_alone page off s).symm.trans e)
    rcases ifPermitted_effect_or_none hs (clear_not_startsList page off.toNat) (clearCounters s page off.toNat) with h | h <;>
      rw [h]
    refine clearCounters_leaves (P := fun t => fifoHold t q = fifoHold s q) (fun c hc ho r hr t ht => ?_) rfl
    rw [fifoHold_clearRange (hne.imp_right fun h => h c hc ho r hr), ht]
  · have hexec : exec (.rcFieldRead path page off ev) s = .next (returnRead s path (liveWord s page off.toNat)) := by
      change execRcFieldRead path page off ev s = _
      rw [execRcFieldRead, readClear, rcFields_nil]
      rfl
    obtain rfl := Host.Outcome.next.inj (hexec.symm.trans e)
    rfl
  · obtain rfl := Host.Outcome.next.inj ((show exec (.readbackDataRead path page) s
      = .next (returnRead (readData s page).1 path (readData s page).2) from rfl).symm.trans e)
    show rd (readData s page).1 q f = rd s q f ∧ _
    unfold readData
    dsimp only
    split
    · exact ⟨rd_wr_rows hf (readbackIndex_mem page) (fun ⟨hp, hfg⟩ => hne.elim (· hp) (· hfg)) _ _, rfl⟩
    · exact ⟨rfl, rfl⟩
  · exact pairRead_alone e
  · rintro c s t (hc | ⟨rfl, hs⟩ | ⟨x, rfl⟩ | ⟨x, rfl⟩ | ⟨x, rfl⟩ | ⟨x, rfl⟩ | ⟨x, rfl⟩ | ⟨h, g, rfl⟩ | ⟨h, g, rfl⟩ | ⟨x, rfl⟩ |
      ⟨x, rfl⟩ | ⟨h, g, rfl⟩ | ⟨x, rfl⟩ | ⟨x, rfl⟩ | ⟨x, rfl⟩ | ⟨x, rfl⟩ | ⟨x, rfl⟩) e
    · fin_cases hc <;> exact regs_kept (by decide) e
    · exact regs_calNow hs e
    all_goals exact regs_kept (c := _) (by simp only [Instr.areas]; decide) e

end Sys2Proof.Machine

/-! SUPPORT and settlement of O50: commands that come while the SEB is busy or the firmware is exchanged (R343, R360). -/

namespace Sys2Proof.Machine

set_option Elab.async false -- each thread's stack counts against the check's memory limit

/-! ### The gate of the SEB -/

theorem sebGate_refuses {path : Path} {s : State} (h : Reaches s path .seb 0x044)
    (hb : sebBusy s = true ∨ s.mc.switching ≠ 0) (cmd : Nat) (body : State → State) :
    sebGate s path cmd body = stateErr s .seb := by
  rw [sebGate, sebCommand, ifPermitted_of_reaches h, if_pos hb]

theorem transitionRuns_busy {path : Path} {s : State} (hb : sebBusy s = true ∨ s.mc.switching ≠ 0) :
    transitionRuns s path = false := by
  rcases hb with h | h <;> simp [transitionRuns, h]

/-- STATE_ERR set is all that a refused command leaves. -/
theorem stateErr_alone (s : State) (p : Page) : stateErr s p = { s with regs := (stateErr s p).regs } := rfl

@[simp] theorem rd_stateErr {p : Page} (hp : p.home = p) (s : State) : rd (stateErr s p) p Reg.hdr.STATE_ERR = 1 := by
  rw [stateErr, hp, rd_wr]
  rfl

theorem sebCommand_refused {path : Path} {c : Instr} {s : State}
    (hc : (path = .mainband ∧ c ∈ [Instr.attest, .commitSvn, .eraseRecord, .writeCert]) ∨
      ∃ x, c = .transition path ⟨x, []⟩)
    (h : Reaches s path .seb 0x044) (hb : sebBusy s = true ∨ s.mc.switching ≠ 0) :
    exec c s = .next (stateErr s .seb) := by
  rcases hc with ⟨rfl, hc⟩ | ⟨x, rfl⟩
  · simp only [List.mem_cons, List.not_mem_nil, or_false] at hc
    rcases hc with rfl | rfl | rfl | rfl <;> exact congrArg _ (sebGate_refuses h hb _ _)
  · change execTransition path ⟨x, []⟩ s = _
    rw [execTransition, transitionRuns_busy hb, Bool.false_and, if_neg (by decide), sebGate_refuses h hb, trigger_nil]

theorem fwCommand_held {s : State} (h : Reaches s .mainband .mcService 0x054) (hb : sebBusy s = true) {cmd : Nat}
    (hc : cmd ≠ 3) (body : State) :
    fwCommand s cmd body = { s with mc := { s.mc with held := s.mc.held ++ [cmd] } } := by
  rw [fwCommand, ifPermitted_of_reaches h, if_pos ⟨hc, hb⟩]

/-! ### What waited for the SEB -/

theorem startSwitch_refused {s : State} {revert : Bool} (h : s.mc.switching ≠ 0 ∨ (inactive s).valid = false) :
    startSwitch s revert = stateErr s .mcService := by
  refine if_neg fun ⟨hs, hv, _⟩ => h.elim (· hs) fun h => ?_
  rw [h] at hv
  exact absurd hv (by decide)

/-- The device as a command that waited leaves the queue. -/
def takeHeld (s : State) (rest : List Nat) : State := { s with mc := { s.mc with held := rest } }

theorem runHeld_cons {s : State} {c : Nat} {rest : List Nat} (hheld : s.mc.held = c :: rest) (hb : sebBusy s = false)
    (n : Nat) : runHeld (n + 1) s
      = runHeld n (if c = 1 then loadNow (takeHeld s rest) else startSwitch (takeHeld s rest) false) := by
  rw [runHeld, if_neg (by simp [hb]), hheld]
  rfl

/-- The commands that wait when the first of them begins a switch, or one is under way, are refused. -/
theorem runHeld_switching {n : Nat} {s : State} (hn : n = s.mc.held.length) (hb : sebBusy s = false)
    (hs : s.mc.switching = 1) :
    (runHeld n s).mc.held = [] ∧ (runHeld n s).mc.switching = 1
      ∧ ((rd s .mcService Reg.hdr.STATE_ERR = 1 ∨ s.mc.held ≠ []) →
        rd (runHeld n s) .mcService Reg.hdr.STATE_ERR = 1) := by
  induction n generalizing s with
  | zero =>
    have hnil : s.mc.held = [] := List.eq_nil_of_length_eq_zero hn.symm
    exact ⟨hnil, hs, fun h => h.resolve_right (absurd hnil)⟩
  | succ n ih =>
    obtain ⟨c, rest, hheld⟩ := List.exists_cons_of_length_eq_add_one hn.symm
    have hsw : ¬(takeHeld s rest).mc.switching = 0 := by
      show ¬s.mc.switching = 0
      omega
    have hlen : n = rest.length := by rw [hheld] at hn; simpa using hn
    rw [runHeld_cons hheld hb, loadNow, if_neg hsw, startSwitch_refused (.inl hsw), ite_self]
    obtain ⟨h₁, h₂, h₃⟩ := ih (s := stateErr (takeHeld s rest) .mcService) hlen hb hs
    exact ⟨h₁, h₂, fun _ => h₃ (.inl (rd_stateErr rfl _))⟩

/-- A SWITCH that waited is accepted when an image is staged, and what waited behind it is refused. -/
theorem runHeld_switch {rest : List Nat} {s : State} (hheld : s.mc.held = 2 :: rest) (hb : sebBusy s = false)
    (hs : s.mc.switching = 0) (hv : (inactive s).valid = true) (hr : s.mc.repairing = none) :
    (runHeld s.mc.held.length s).mc.held = [] ∧ (runHeld s.mc.held.length s).mc.switching = 1
      ∧ (rest ≠ [] → rd (runHeld s.mc.held.length s) .mcService Reg.hdr.STATE_ERR = 1) := by
  have hr' : (takeHeld s rest).mc.repairing.isNone = true := Option.isNone_iff_eq_none.2 hr
  rw [hheld, List.length_cons, runHeld_cons hheld hb, if_neg (by decide), startSwitch, if_pos ⟨hs, hv, rfl, hr'⟩]
  obtain ⟨h₁, h₂, h₃⟩ := runHeld_switching (s := { takeHeld s rest with mc := { (takeHeld s rest).mc with
    switching := 1, reverting := false } }) (n := rest.length) rfl hb rfl
  exact ⟨h₁, h₂, fun h => h₃ (.inr h)⟩

/-- A SWITCH alone that waited is refused without a staged image. -/
theorem runHeld_switch_refused {s : State} (hheld : s.mc.held = [2]) (hb : sebBusy s = false)
    (hs : s.mc.switching = 0) (hv : (inactive s).valid = false) :
    (runHeld s.mc.held.length s).mc.held = [] ∧ (runHeld s.mc.held.length s).mc.switching = 0
      ∧ rd (runHeld s.mc.held.length s) .mcService Reg.hdr.STATE_ERR = 1 := by
  have hno : (inactive (takeHeld s [])).valid = false := hv
  rw [hheld, List.length_cons, runHeld_cons hheld hb, if_neg (by decide), startSwitch_refused (.inr hno)]
  exact ⟨rfl, hs, rd_stateErr rfl _⟩

/-- A LOAD of host memory asks for the first part of its image. -/
theorem startLoad_loads {s : State} (h : LoadsFromHost s) :
    (startLoad s).mc.load.isSome = true ∧ (startLoad s).mc.held = s.mc.held := by
  obtain ⟨hhost, ha, hin, hn, hlo, hhi⟩ := h
  have hheld : ∀ x : Image, (setImage { s with mc := { s.mc with previous := false } } (!s.mc.activeB) x).mc.held
      = s.mc.held := fun x => by
    rw [setImage]
    split <;> rfl
  have hrange : ¬(rd s .mcService Reg.mcs.FW_LEN % 64 ≠ 0 ∨ rd s .mcService Reg.mcs.FW_LEN < 64 ∨
      4194304 < rd s .mcService Reg.mcs.FW_LEN) := by omega
  unfold startLoad
  dsimp only
  rw [if_neg (by simp [hin, ha, hhost]), if_neg hrange, if_pos hhost]
  exact ⟨rfl, hheld _⟩

/-- A LOAD that waited starts, and keeps the SEB from what waited behind it. -/
theorem runHeld_load {rest : List Nat} {s : State} (hheld : s.mc.held = 1 :: rest) (hb : sebBusy s = false)
    (hs : s.mc.switching = 0) (hl : LoadsFromHost s) :
    (runHeld s.mc.held.length s).mc.held = rest ∧ (runHeld s.mc.held.length s).mc.load.isSome = true
      ∧ sebBusy (runHeld s.mc.held.length s) = true := by
  obtain ⟨hload, hrest⟩ := startLoad_loads (s := takeHeld s rest) hl
  have hbusy : sebBusy (startLoad (takeHeld s rest)) = true := by rw [sebBusy, hload, Bool.or_true]
  have hrun : runHeld rest.length (startLoad (takeHeld s rest)) = startLoad (takeHeld s rest) := by
    cases rest.length with
    | zero => rfl
    | succ n => rw [runHeld, if_pos hbusy]
  rw [hheld, List.length_cons, runHeld_cons hheld hb, if_pos rfl, loadNow,
    if_pos (show (takeHeld s rest).mc.switching = 0 from hs), hrun]
  exact ⟨hrest, hload, hbusy⟩

/-! ### The end of a command, and of a LOAD -/

theorem loadsFromHost_congr {s t : State} (h : LoadsFromHost s)
    (hr : ∀ f : Fld, silent .mcService f = true → f.off ≠ 0x018 → rd t .mcService f = rd s .mcService f) : LoadsFromHost t := by
  unfold LoadsFromHost at h ⊢
  rwa [hr _ (by decide) (by decide), hr Reg.mcs.FW_LEN (by decide) (by decide)]

/-- The device at the end of the SEB's command, before what waited starts. -/
def commandEnds (s : State) (r : SebRun) : State :=
  setSticky (wr { s with seb := { s.seb with run := none } } .seb Reg.seb.RESULT r.result) .seb Sticky.seb.CMD_DONE

theorem exec_sebCommandDone {s : State} {r : SebRun} (h : s.seb.run = some r) :
    exec .sebCommandDone s = .next (runHeld (commandEnds s r).mc.held.length (commandEnds s r)) := by
  change execSebCommandDone s = _
  rw [execSebCommandDone, h, commandEnds, setSticky_mc]

theorem commandEnds_mc (s : State) (r : SebRun) : (commandEnds s r).mc = s.mc := setSticky_mc _ _ _

theorem commandEnds_idle {s : State} (r : SebRun) (h : s.mc.load = none) : sebBusy (commandEnds s r) = false := by
  rw [sebBusy, commandEnds_mc, h, commandEnds, setSticky_seb]
  rfl

theorem inactive_congr {s t : State} (h : t.mc = s.mc) : inactive t = inactive s := by
  unfold inactive imageOfSlot
  rw [h]

theorem commandEnds_loads {s : State} (r : SebRun) (h : LoadsFromHost s) : LoadsFromHost (commandEnds s r) :=
  loadsFromHost_congr h fun f hf ho => (silent_setSticky hf _ _ _ (.inr ho)).trans
    (rd_wr_ne _ _ _ _ _ _ (key_ne_of_off (by decide) (inPage_of_silent hf) (.inl (by decide))))

/-- What the end of a LOAD leaves of the device, before what waited starts. -/
structure LoadEnds (s u : State) : Prop where
  held : u.mc.held = s.mc.held
  switching : u.mc.switching = s.mc.switching
  repairing : u.mc.repairing = s.mc.repairing
  load : u.mc.load = none
  run : u.seb.run = s.seb.run
  reads : ∀ f : Fld, silent .mcService f = true → f.off ≠ 0x018 → rd u .mcService f = rd s .mcService f

/-- The state of the image that does not run is set by its slot. -/
theorem inactive_setImage (s : State) (x : Image) : inactive (setImage s (!s.mc.activeB) x) = x := by
  unfold inactive imageOfSlot setImage
  cases h : s.mc.activeB <;> simp [h]

theorem LoadEnds.setSticky {s u : State} (h : LoadEnds s u) (p : Page) (b : Nat) : LoadEnds s (setSticky u p b) where
  held := by rw [setSticky_mc, h.held]
  switching := by rw [setSticky_mc, h.switching]
  repairing := by rw [setSticky_mc, h.repairing]
  load := by rw [setSticky_mc, h.load]
  run := by rw [setSticky_seb, h.run]
  reads f hf ho := (silent_setSticky hf _ _ _ (.inr ho)).trans (h.reads f hf ho)

theorem LoadEnds.wr {s u : State} (h : LoadEnds s u) {p : Page} {f : Fld} (hp : p ≠ .mcService) (hf : f.inPage = true)
    (v : Nat) : LoadEnds s (wr u p f v) where
  held := h.held
  switching := h.switching
  repairing := h.repairing
  load := h.load
  run := h.run
  reads g hg ho := (rd_wr_ne _ _ _ _ _ _ (key_ne_of_off hf (inPage_of_silent hg) (.inl hp.symm))).trans (h.reads g hg ho)

/-- A slot of an image set, and the LOAD over. -/
theorem LoadEnds.image (s : State) (b : Bool) (x : Image) :
    LoadEnds s { setImage s b x with mc := { (setImage s b x).mc with load := none } } := by
  cases b <;> exact ⟨rfl, rfl, rfl, rfl, rfl, fun _ _ _ => rfl⟩

theorem loadEnds_verifyFail_rejectLoad (s : State) (code : Nat) : LoadEnds s (verifyFail (rejectLoad s code)) :=
  ((((LoadEnds.image s _ .none).wr (by decide) (by decide) _).setSticky _ _).wr (by decide) (by decide) _).setSticky _ _

theorem inactive_verifyFail_rejectLoad (s : State) (code : Nat) :
    (inactive (verifyFail (rejectLoad s code))).valid = false := by
  have hmc : (verifyFail (rejectLoad s code)).mc
      = { (setImage s (!s.mc.activeB) .none).mc with load := none } := by
    rw [verifyFail, setSticky_mc, bump_mc, rejectLoad, setSticky_mc, wr_mc]
  have hin : inactive (verifyFail (rejectLoad s code)) = inactive (setImage s (!s.mc.activeB) .none) := by
    unfold inactive imageOfSlot
    rw [hmc]
  rw [hin, inactive_setImage]
  rfl

/-- The image of a LOAD in its slot. -/
def staged (s : State) (x : FwLoad) : State :=
  let v := setImage s (!s.mc.activeB) { bytes := x.bytes, len := x.len, valid := true }
  wr { v with mc := { v.mc with load := none } } .seb Reg.seb.RESULT 0

theorem loadEnds_staged (s : State) (x : FwLoad) : LoadEnds s (staged s x) :=
  (LoadEnds.image s _ _).wr (by decide) (by decide) _

theorem inactive_staged (s : State) (x : FwLoad) : (inactive (staged s x)).valid = true := by
  have hin : inactive (staged s x)
      = inactive (setImage s (!s.mc.activeB) { bytes := x.bytes, len := x.len, valid := true }) := rfl
  rw [hin, inactive_setImage]

theorem LoadEnds.runImage {s u : State} (h : LoadEnds s u) (b : Bool) : LoadEnds s (runImage u b) :=
  ⟨h.held, h.switching, h.repairing, h.load, h.run, h.reads⟩

/-- The verdict on an image that is all there ends its LOAD, and what waited for the SEB starts. -/
theorem exec_imageVerifyDone {s : State} {x : FwLoad} (hload : s.mc.load = some x) (hlen : x.len ≤ x.got) :
    ∃ u, exec .imageVerifyDone s = .next (runHeld s.mc.held.length u) ∧ LoadEnds s u
      ∧ (imageVerdict s { bytes := x.bytes, len := x.len, valid := true } ≠ 0 → (inactive u).valid = false)
      ∧ (imageVerdict s { bytes := x.bytes, len := x.len, valid := true } = 0 → inRecovery s = false →
          (inactive u).valid = true) := by
  change ∃ u, execImageVerifyDone s = _ ∧ _
  rw [execImageVerifyDone, hload]
  dsimp only
  rw [if_neg (Nat.not_lt.2 hlen)]
  split
  · next hc =>
    exact ⟨_, rfl, loadEnds_verifyFail_rejectLoad s _, fun _ => inactive_verifyFail_rejectLoad s _, fun h => absurd h hc⟩
  · next hc =>
    change ∃ u, (if inRecovery (staged s x) then Host.Outcome.next (runHeld (staged s x).mc.held.length _)
      else Host.Outcome.next (runHeld (staged s x).mc.held.length
        (setSticky (staged s x) .mcService Sticky.mcs.FW_STAGED))) = _ ∧ _
    rw [(loadEnds_staged s x).held]
    split
    · next hrec =>
      have hrec : inRecovery s = true := by
        have : inRecovery (staged s x) = inRecovery s := by
          unfold inRecovery on
          rw [show rd (staged s x) .reset Reg.rst.RECOVERY = rd s .reset Reg.rst.RECOVERY from
            rd_wr_ne _ _ _ _ _ _ (key_ne_of_off (by decide) (by decide) (.inl (by decide)))]
          rfl
        exact this ▸ hrec
      refine ⟨_, rfl, ?_, fun h => absurd h hc, fun _ h => absurd (hrec.symm.trans h) (by decide)⟩
      exact ((((loadEnds_staged s x).runImage _).wr (by decide) (by decide) _).wr (by decide) (by decide) _).wr (by decide)
        (by decide) _
    · refine ⟨_, rfl, (loadEnds_staged s x).setSticky _ _, fun h => absurd h hc, fun _ _ => ?_⟩
      rw [inactive_congr (setSticky_mc _ _ _), inactive_staged]

theorem LoadEnds.idle {s u : State} (h : LoadEnds s u) (hr : s.seb.run = none) : sebBusy u = false := by
  rw [sebBusy, h.run, h.load, hr]
  rfl

/-- Settles O50: what waited starts in order, until a LOAD makes the SEB busy again. -/
theorem busySebTurnsCommandsAway : Obligations.BusySebTurnsCommandsAway := by
  refine ⟨fun path c s hc hr hb => ⟨_, sebCommand_refused hc hr hb, rd_stateErr rfl s, rfl⟩,
    fun s hr hb => ⟨⟨_, rfl, fwCommand_held hr hb (cmd := 1) (by decide) _⟩,
      ⟨_, rfl, fwCommand_held hr hb (cmd := 2) (by decide) _⟩⟩,
    fun r rest s hrun hload hheld hs hv hrep => ⟨_, exec_sebCommandDone hrun, ?_⟩,
    fun r rest s hrun hload hheld hs hl => ⟨_, exec_sebCommandDone hrun, ?_⟩,
    fun x rest s hrun hload hlen hrec hok hheld hs hrep => ?_, fun x rest s hrun hload hlen hheld hs hl => ?_,
    fun x s hrun hload hlen hbad hheld hs => ?_⟩
  · have hmc := commandEnds_mc s r
    exact runHeld_switch (hmc ▸ hheld) (commandEnds_idle r hload) (hmc ▸ hs) (inactive_congr hmc ▸ hv) (hmc ▸ hrep)
  · have hmc := commandEnds_mc s r
    exact runHeld_load (hmc ▸ hheld) (commandEnds_idle r hload) (hmc ▸ hs) (commandEnds_loads r hl)
  · obtain ⟨u, he, hu, -, hv⟩ := exec_imageVerifyDone hload hlen
    refine ⟨_, he, ?_⟩
    rw [← hu.held]
    have h := runHeld_switch (hu.held.trans hheld) (hu.idle hrun) (hu.switching.trans hs) (hv hok hrec)
      (hu.repairing.trans hrep)
    exact ⟨h.1, h.2.1⟩
  · obtain ⟨u, he, hu, -, -⟩ := exec_imageVerifyDone hload hlen
    refine ⟨_, he, ?_⟩
    rw [← hu.held]
    exact runHeld_load (hu.held.trans hheld) (hu.idle hrun) (hu.switching.trans hs) (loadsFromHost_congr hl hu.reads)
  · obtain ⟨u, he, hu, hv, -⟩ := exec_imageVerifyDone hload hlen
    refine ⟨_, he, ?_⟩
    rw [← hu.held]
    exact runHeld_switch_refused (hu.held.trans hheld) (hu.idle hrun) (hu.switching.trans hs) (hv hbad)

end Sys2Proof.Machine

/-! SUPPORT and settlement of O58: the sector code corrects one symbol and detects two (R268). -/

namespace Sys2Proof.Machine

set_option Elab.async false -- each thread's stack counts against the check's memory limit

/-! ### Multiplication by powers of α -/

theorem gfDouble_eq {x : Nat} (h : x < 256) : gfDouble x = (2 * x) ^^^ (if x.testBit 7 then 0x11D else 0) := by
  have hbit : x.testBit 7 = decide (128 ≤ x) := by
    rw [Nat.testBit_eq_decide_div_mod_eq]
    exact decide_eq_decide.2 (by omega)
  rw [gfDouble, hbit]
  by_cases hx : 2 * x < 256
  · rw [if_pos hx, if_neg (by simp; omega), Nat.xor_zero]
  · rw [if_neg hx, if_pos (by simp; omega)]

theorem gfDouble_lt {x : Nat} (h : x < 256) : gfDouble x < 256 := by
  revert h x
  decide +kernel

theorem gfDouble_eq_zero {x : Nat} (h : x < 256) (hx : gfDouble x = 0) : x = 0 := by
  revert hx
  revert h x
  decide +kernel

theorem gfDouble_xor {x y : Nat} (hx : x < 256) (hy : y < 256) : gfDouble (x ^^^ y) = gfDouble x ^^^ gfDouble y := by
  have hxy : x ^^^ y < 256 := Nat.xor_lt_two_pow (n := 8) hx hy
  have hshift : 2 * (x ^^^ y) = (2 * x) ^^^ (2 * y) := by
    have := Nat.shiftLeft_xor_distrib (a := x) (b := y) (i := 1)
    simpa [Nat.shiftLeft_eq, Nat.mul_comm] using this
  rw [gfDouble_eq hxy, gfDouble_eq hx, gfDouble_eq hy, hshift, Nat.testBit_xor]
  cases x.testBit 7 <;> cases y.testBit 7 <;> simp [Nat.xor_assoc, Nat.xor_comm, Nat.xor_left_comm]

theorem gfShift_add (m n x : Nat) : gfShift (m + n) x = gfShift m (gfShift n x) := by
  induction n generalizing x with
  | zero => rfl
  | succ n ih => exact ih (gfDouble x)

theorem gfShift_lt {n x : Nat} (h : x < 256) : gfShift n x < 256 := by
  induction n generalizing x with
  | zero => exact h
  | succ n ih => exact ih (gfDouble_lt h)

theorem gfShift_eq_zero {n x : Nat} (h : x < 256) (hx : gfShift n x = 0) : x = 0 := by
  induction n generalizing x with
  | zero => exact hx
  | succ n ih => exact gfDouble_eq_zero h (ih (gfDouble_lt h) hx)

theorem gfShift_xor {n x y : Nat} (hx : x < 256) (hy : y < 256) : gfShift n (x ^^^ y) = gfShift n x ^^^ gfShift n y := by
  induction n generalizing x y with
  | zero => rfl
  | succ n ih =>
    rw [gfShift, gfDouble_xor hx hy]
    exact ih (gfDouble_lt hx) (gfDouble_lt hy)

theorem gfShift_comm (m n x : Nat) : gfShift m (gfShift n x) = gfShift n (gfShift m x) := by
  rw [← gfShift_add, ← gfShift_add, Nat.add_comm]

/-- No power of α below its 36th but the zeroth fixes a symbol that is not 0. -/
theorem gfShift_fixes_none : ∀ x < 256, x = 0 ∨ (List.range 35).all (fun k => gfShift (k + 1) x != x) = true := by
  decide +kernel

theorem gfShift_inj_of_lt {a b x : Nat} (hab : a < b) (hb : b < 36) (hx : x < 256) (h : gfShift a x = gfShift b x) :
    x = 0 := by
  have hfix : gfShift (b - a) x = x := by
    have hadd : gfShift b x = gfShift a (gfShift (b - a) x) := by rw [← gfShift_add]; congr 1; omega
    have hzero : gfShift a (gfShift (b - a) x ^^^ x) = 0 := by
      rw [gfShift_xor (gfShift_lt hx) hx, ← hadd, h, Nat.xor_self]
    exact Nat.xor_eq_zero_iff.1 (gfShift_eq_zero (Nat.xor_lt_two_pow (n := 8) (gfShift_lt hx) hx) hzero)
  refine (gfShift_fixes_none x hx).resolve_right fun hall => ?_
  have := List.all_eq_true.1 hall (b - a - 1) (List.mem_range.2 (by omega))
  rw [show b - a - 1 + 1 = b - a by omega, hfix] at this
  simp at this

/-- Distinct powers of α below the 36th carry a symbol that is not 0 to distinct symbols. -/
theorem gfShift_inj {a b x : Nat} (ha : a < 36) (hb : b < 36) (hx : x < 256) (h0 : x ≠ 0)
    (h : gfShift a x = gfShift b x) : a = b := by
  rcases Nat.lt_trichotomy a b with hab | hab | hab
  · exact absurd (gfShift_inj_of_lt hab hb hx h) h0
  · exact hab
  · exact absurd (gfShift_inj_of_lt hab ha hx h.symm) h0

/-! ### The decoder -/

theorem syndrome_one (j i x : Nat) : syndrome j [(i, x)] = gfShift (j * (35 - i)) x := Nat.zero_xor _

theorem syndrome_two (j i k x y : Nat) :
    syndrome j [(i, x), (k, y)] = gfShift (j * (35 - i)) x ^^^ gfShift (j * (35 - k)) y :=
  congrArg (· ^^^ _) (Nat.zero_xor _)

theorem checkSector_one {i x : Nat} (hi : i < 36) (h0 : 0 < x) (hx : x < 256) :
    checkSector [(i, x)] = .fixed [] i x := by
  have hfind : (List.range 36).find? (fun d => x != 0 && gfShift d x == gfShift (1 * (35 - i)) x
      && gfShift d (gfShift (1 * (35 - i)) x) == gfShift (2 * (35 - i)) x) = some (35 - i) := by
    rw [List.find?_range_eq_some]
    refine ⟨?_, List.mem_range.2 (by omega), fun d hd => ?_⟩
    · rw [← gfShift_add]
      simp only [Nat.one_mul, Nat.two_mul, beq_self_eq_true, Bool.and_true, bne_iff_ne]
      omega
    · have hne : gfShift d x ≠ gfShift (1 * (35 - i)) x := fun h => by
        have := gfShift_inj (by omega) (by omega) hx (by omega) h
        omega
      rw [beq_false_of_ne hne, Bool.and_false, Bool.false_and]
      rfl
  have hs0 : syndrome 0 [(i, x)] = x := by rw [syndrome_one, Nat.zero_mul]; rfl
  have hi' : 35 - (35 - i) = i := by omega
  unfold checkSector
  simp only [hs0, syndrome_one 1, syndrome_one 2, hfind, hi']
  rw [if_neg (fun h => by omega)]
  simp [addError, NatMap.get?, NatMap.del]

theorem xor_cancel_pair {p q r s u v : Nat} (h : p ^^^ q = r ^^^ s) (h' : p ^^^ u = r ^^^ v) : u ^^^ q = v ^^^ s := by
  refine Nat.eq_of_testBit_eq fun i => ?_
  have hi := congrArg (Nat.testBit · i) h
  have hi' := congrArg (Nat.testBit · i) h'
  simp only [Nat.testBit_xor] at hi hi' ⊢
  revert hi hi'
  cases p.testBit i <;> cases r.testBit i <;> simp <;> grind

/-- The symbol that a place of two erroneous ones would have to fix vanishes. -/
theorem two_errors_no_place {a b d x y : Nat} (hx : x < 256) (hy : y < 256)
    (h1 : gfShift d (x ^^^ y) = gfShift a x ^^^ gfShift b y)
    (h2 : gfShift d (gfShift a x ^^^ gfShift b y) = gfShift (2 * a) x ^^^ gfShift (2 * b) y) :
    gfShift d (gfShift a y ^^^ gfShift b y) = gfShift b (gfShift a y ^^^ gfShift b y) := by
  have h3 := congrArg (gfShift a) h1
  rw [gfShift_xor hx hy, gfShift_xor (gfShift_lt hx) (gfShift_lt hy), gfShift_xor (gfShift_lt hx) (gfShift_lt hy)] at h3
  rw [gfShift_xor (gfShift_lt hx) (gfShift_lt hy), Nat.two_mul, Nat.two_mul, gfShift_add a a, gfShift_add b b,
    gfShift_comm d a x] at h2
  rw [gfShift_xor (gfShift_lt hy) (gfShift_lt hy), gfShift_xor (gfShift_lt hy) (gfShift_lt hy), gfShift_comm d a y,
    gfShift_comm b a y]
  exact xor_cancel_pair h2 h3

theorem checkSector_two {i j x y : Nat} (hij : i < j) (hj : j < 36) (hx0 : 0 < x) (hx : x < 256) (hy0 : 0 < y)
    (hy : y < 256) : checkSector [(i, x), (j, y)] = .bad := by
  have hs0 : syndrome 0 [(i, x), (j, y)] = x ^^^ y := by rw [syndrome_two, Nat.zero_mul, Nat.zero_mul]; rfl
  have hs1 : syndrome 1 [(i, x), (j, y)] = gfShift (35 - i) x ^^^ gfShift (35 - j) y := by
    rw [syndrome_two, Nat.one_mul, Nat.one_mul]
  have hne : 35 - i ≠ 35 - j := by omega
  have hseen : ¬(x ^^^ y = 0 ∧ gfShift (35 - i) x ^^^ gfShift (35 - j) y = 0) := by
    rintro ⟨hxy, hs⟩
    obtain rfl := Nat.xor_eq_zero_iff.1 hxy
    exact hne (gfShift_inj (by omega) (by omega) hx (by omega) (Nat.xor_eq_zero_iff.1 hs))
  have hfind : (List.range 36).find? (fun d => x ^^^ y != 0
      && gfShift d (x ^^^ y) == gfShift (35 - i) x ^^^ gfShift (35 - j) y
      && gfShift d (gfShift (35 - i) x ^^^ gfShift (35 - j) y)
        == gfShift (2 * (35 - i)) x ^^^ gfShift (2 * (35 - j)) y) = none := by
    refine List.find?_eq_none.2 fun d hd h => ?_
    simp only [Bool.and_eq_true, beq_iff_eq] at h
    obtain ⟨⟨-, h1⟩, h2⟩ := h
    have hd := List.mem_range.1 hd
    have hlt : ∀ z < 256, gfShift (35 - i) z ^^^ gfShift (35 - j) z < 256 := fun z hz =>
      Nat.xor_lt_two_pow (n := 8) (gfShift_lt hz) (gfShift_lt hz)
    have hz : ∀ z < 256, 0 < z → gfShift (35 - i) z ^^^ gfShift (35 - j) z ≠ 0 := fun z hz h0 h =>
      hne (gfShift_inj (by omega) (by omega) hz (by omega) (Nat.xor_eq_zero_iff.1 h))
    have hj' : d = 35 - j := gfShift_inj hd (by omega) (hlt y hy) (hz y hy hy0) (two_errors_no_place hx hy h1 h2)
    have hi' : d = 35 - i := by
      rw [Nat.xor_comm x y, Nat.xor_comm (gfShift _ x)] at h1
      rw [Nat.xor_comm (gfShift (35 - i) x), Nat.xor_comm (gfShift (2 * _) x)] at h2
      refine gfShift_inj hd (by omega) (hlt x hx) (hz x hx hx0) ?_
      rw [Nat.xor_comm]
      exact two_errors_no_place hy hx h1 h2
    exact hne (hi'.symm.trans hj')
  unfold checkSector
  simp only [hs0, hs1, syndrome_two 2, hfind]
  rw [if_neg fun h => hseen ⟨h.1, h.2.1⟩]

/-- Settles O58: the three syndromes of one symbol name its place, and those of two name none. -/
theorem sectorCodeCorrectsOneAndDetectsTwo : Obligations.SectorCodeCorrectsOneAndDetectsTwo :=
  ⟨fun _ _ => checkSector_one, fun _ _ _ _ => checkSector_two⟩

end Sys2Proof.Machine

/-! SUPPORT for O60, O22 and others: bytes of device memory, where they lie, and clean sectors (R264, R267, R270). -/

namespace Sys2Proof.Machine

set_option Elab.async false -- each thread's stack counts against the check's memory limit

/-! ### Bytes -/

theorem byteAt_putByte (m : List Host.Cell) (k i : Nat) (b : Byte) :
    byteAt (putByte m k b) i = if i = k then b else byteAt m i := by
  unfold byteAt putByte
  split
  · next h =>
    subst h
    erw [NatMap.get?_del]
    split <;> rfl
  · erw [NatMap.get?_set]
    split <;> rfl

/-- The byte at a place after an image is written: a byte of the image, or what was there. -/
theorem byteAt_putBytes (m : List Host.Cell) (k n v i : Nat) :
    byteAt (putBytes m k n v) i = if k ≤ i ∧ i < k + n then BitVec.ofNat 8 (v / 256 ^ (i - k)) else byteAt m i := by
  induction n generalizing m k v with
  | zero => rw [putBytes, if_neg (by omega)]
  | succ n ih =>
    rw [putBytes, ih, byteAt_putByte]
    by_cases hi : k + 1 ≤ i ∧ i < k + 1 + n
    · rw [if_pos hi, if_pos (by omega), Nat.div_div_eq_div_mul, ← Nat.pow_succ',
        show (i - (k + 1)).succ = i - k by omega]
    · rw [if_neg hi]
      by_cases hk : i = k
      · subst hk
        rw [if_pos rfl, if_pos (by omega), Nat.sub_self, Nat.pow_zero, Nat.div_one]
      · rw [if_neg hk, if_neg (by omega)]

theorem testBit_add_mul_pow {a b n : Nat} (h : a < 2 ^ n) (j : Nat) :
    (a + 2 ^ n * b).testBit j = if j < n then a.testBit j else b.testBit (j - n) := by
  rw [Nat.add_comm, Nat.testBit_two_pow_mul_add _ h]

/-- The bits of an image of bytes, byte by byte. -/
theorem testBit_getBytes (m : List Host.Cell) (k n j : Nat) :
    (getBytes m k n).testBit j = (decide (j < 8 * n) && (byteAt m (k + j / 8)).getLsbD (j % 8)) := by
  induction n generalizing k j with
  | zero => simp [getBytes]
  | succ n ih =>
    rw [getBytes, show (256 : Nat) = 2 ^ 8 from rfl, testBit_add_mul_pow (byteAt m k).isLt, ih]
    by_cases hj : j < 8
    · rw [if_pos hj, show k + j / 8 = k by omega, show j % 8 = j by omega, decide_eq_true (by omega)]
      rfl
    · rw [if_neg hj, show k + 1 + (j - 8) / 8 = k + j / 8 by omega, show (j - 8) % 8 = j % 8 by omega,
        decide_eq_decide.2 (show j - 8 < 8 * n ↔ j < 8 * (n + 1) by omega)]

theorem testBit_setBits (x lo n v j : Nat) :
    (setBits x lo n v).testBit j = if j < lo ∨ lo + n ≤ j then x.testBit j else v.testBit (j - lo) := by
  have hinner : setBits x lo n v = x % 2 ^ lo + 2 ^ lo * (v % 2 ^ n + 2 ^ n * (x >>> (lo + n))) := by
    rw [setBits, Nat.pow_add]
    ring
  rw [hinner, testBit_add_mul_pow (Nat.mod_lt _ (Nat.two_pow_pos _)), testBit_add_mul_pow (Nat.mod_lt _ (Nat.two_pow_pos _)),
    Nat.testBit_mod_two_pow, Nat.testBit_mod_two_pow, Nat.testBit_shiftRight]
  by_cases h1 : j < lo
  · simp [h1]
  · by_cases h2 : lo + n ≤ j
    · simp only [h1, h2, if_false, or_true, if_true, if_neg (show ¬j - lo < n by omega)]
      congr 1
      omega
    · simp [h1, h2, show j - lo < n by omega]

theorem pow_256 (i : Nat) : 256 ^ i = 2 ^ (8 * i) := by rw [Nat.pow_mul]

/-- A byte of an image, bit by bit. -/
theorem getLsbD_byte (v i j : Nat) (hj : j < 8) : (BitVec.ofNat 8 (v / 256 ^ i)).getLsbD j = v.testBit (8 * i + j) := by
  rw [BitVec.getLsbD_ofNat, decide_eq_true hj, Bool.true_and, pow_256, Nat.testBit_div_two_pow, Nat.add_comm]

theorem byte_congr {v w i j : Nat} (h : ∀ b < 8, v.testBit (8 * i + b) = w.testBit (8 * j + b)) :
    BitVec.ofNat 8 (v / 256 ^ i) = BitVec.ofNat 8 (w / 256 ^ j) := by
  refine BitVec.eq_of_getLsbD_eq fun b hb => ?_
  rw [getLsbD_byte _ _ _ hb, getLsbD_byte _ _ _ hb, h b hb]

theorem byte_getBytes (m : List Host.Cell) (k n : Nat) {i : Nat} (hi : i < n) :
    BitVec.ofNat 8 (getBytes m k n / 256 ^ i) = byteAt m (k + i) := by
  refine BitVec.eq_of_getLsbD_eq fun b hb => ?_
  rw [getLsbD_byte _ _ _ hb, testBit_getBytes, decide_eq_true (by omega), Bool.true_and, show (8 * i + b) / 8 = i by omega,
    show (8 * i + b) % 8 = b by omega]

/-- A byte of an image with some of its bytes replaced. -/
theorem byte_setBits {x lo n v i : Nat} :
    BitVec.ofNat 8 (setBits x (8 * lo) (8 * n) v / 256 ^ i)
      = if lo ≤ i ∧ i < lo + n then BitVec.ofNat 8 (v / 256 ^ (i - lo)) else BitVec.ofNat 8 (x / 256 ^ i) := by
  split
  · refine byte_congr fun b hb => ?_
    rw [testBit_setBits, if_neg (by omega), show 8 * i + b - 8 * lo = 8 * (i - lo) + b by omega]
  · refine byte_congr fun b hb => ?_
    rw [testBit_setBits, if_pos (by omega)]

theorem getBytes_putBytes (m : List Host.Cell) (k n v : Nat) : getBytes (putBytes m k n v) k n = v % 2 ^ (8 * n) := by
  refine Nat.eq_of_testBit_eq fun j => ?_
  rw [testBit_getBytes, Nat.testBit_mod_two_pow, byteAt_putBytes]
  by_cases hj : j < 8 * n
  · rw [decide_eq_true hj, Bool.true_and, Bool.true_and, if_pos (by omega), show k + j / 8 - k = j / 8 by omega,
      getLsbD_byte _ _ _ (by omega), show 8 * (j / 8) + j % 8 = j by omega]
  · rw [decide_eq_false hj]
    rfl

/-! ### Where bytes lie -/

/-- Two states in which every address lies at the same place. -/
structure SameMap (s t : State) : Prop where
  drams : t.drams = s.drams
  map : rd t .memMap Reg.mm.MAP = rd s .memMap Reg.mm.MAP
  stack : ∀ st, ∀ f ∈ [Reg.sc.RETIRED, Reg.sc.DIE_MAP, Reg.sc.MIG_PTR], rd t (scPage st) f = rd s (scPage st) f

theorem SameMap.refl (s : State) : SameMap s s := ⟨rfl, rfl, fun _ _ _ => rfl⟩

theorem SameMap.trans {s t u : State} (h : SameMap s t) (k : SameMap t u) : SameMap s u :=
  ⟨k.drams.trans h.drams, k.map.trans h.map, fun st f hf => (k.stack st f hf).trans (h.stack st f hf)⟩

section
variable {s t : State} (h : SameMap s t)
include h

theorem SameMap.place (a : Nat) : place t a = place s a := by
  unfold Machine.place waysLog2
  rw [h.map]

theorem SameMap.cellOf (st l : Nat) : cellOf t st l = cellOf s st l := by
  unfold Machine.cellOf physDie dram
  rw [h.stack st Reg.sc.MIG_PTR (by simp), h.stack st Reg.sc.DIE_MAP (by simp), h.drams]

theorem SameMap.cellAt (a : Nat) : cellAt t a = cellAt s a := by
  unfold Sys2Proof.cellAt
  rw [h.place, h.cellOf]

theorem SameMap.present (a : Nat) : present t a = present s a := by
  unfold Machine.present diePresent
  rw [h.place, h.stack _ _ (by simp)]

end

/-- Registers of a stack that do not place an address. -/
theorem SameMap.wr {s t : State} (h : SameMap s t) {st : Nat} {f : Fld} (v : Nat) (hf : f.inPage = true)
    (hoff : [Reg.sc.RETIRED.off, Reg.sc.DIE_MAP.off, Reg.sc.MIG_PTR.off].contains f.off = false) :
    SameMap s (wr t (scPage st) f v) := by
  simp only [List.contains_eq_mem, List.mem_cons, List.not_mem_nil, or_false, decide_eq_false_iff_not, not_or] at hoff
  obtain ⟨h1, h2, h3⟩ := hoff
  refine ⟨h.drams, (rd_wr_ne _ _ _ _ _ _ (key_ne_of_off hf (by decide) (.inl (by simp [scPage])))).trans h.map,
    fun u g hg => (rd_wr_ne _ _ _ _ _ _ ?_).trans (h.stack u g hg)⟩
  simp only [List.mem_cons, List.not_mem_nil, or_false] at hg
  rcases hg with rfl | rfl | rfl <;> exact key_ne_of_off hf (by decide) (.inr (Ne.symm (by assumption)))

theorem SameMap.crossFifo {s t : State} (h : SameMap s t) (p : Page) (n : Nat) : SameMap s (crossFifo t p n) :=
  ⟨h.drams, h.map, h.stack⟩

theorem SameMap.storeSector {s t : State} (h : SameMap s t) (c img : Nat) (poison : Bool) :
    SameMap s (storeSector t c img poison) := ⟨h.drams, h.map, h.stack⟩

/-- Addresses of one 4 KiB block lie side by side in one stack. -/
theorem place_add (s : State) {a i : Nat} (h : a % 4096 + i < 4096) :
    place s (a + i) = ((place s a).1, (place s a).2 + i) := by
  have hdiv : (a + i) / 2 ^ 36 = a / 2 ^ 36 := by omega
  have hblock : ∀ g, g ≤ a / 2 ^ 36 → (a + i - g * 2 ^ 36) / 4096 = (a - g * 2 ^ 36) / 4096
      ∧ (a + i - g * 2 ^ 36) % 4096 = (a - g * 2 ^ 36) % 4096 + i := fun g hg => by omega
  obtain ⟨hq, hr⟩ := hblock (a / 2 ^ 36 % 16 - a / 2 ^ 36 % 16 % 2 ^ waysLog2 s a)
    ((Nat.sub_le _ _).trans (Nat.mod_le _ _))
  have hways : waysLog2 s (a + i) = waysLog2 s a := by
    unfold waysLog2
    rw [hdiv]
  unfold place
  simp only [hways, hdiv, hq, hr, Nat.add_assoc]

/-- A place within its 4 KiB is that of its address. -/
theorem place_mod (s : State) (a : Nat) : (place s a).2 % 4096 = a % 4096 := by
  have hblock : ∀ g, g ≤ a / 2 ^ 36 → (a - g * 2 ^ 36) % 4096 = a % 4096 := fun g hg => by omega
  unfold place
  dsimp only
  rw [Nat.mul_add_mod_self_right, Nat.mod_mod]
  exact hblock _ ((Nat.sub_le _ _).trans (Nat.mod_le _ _))

/-- The bytes of one sector are kept side by side. -/
theorem cellOf_add (s : State) (st : Nat) {l i : Nat} (h : l % 32 + i < 32) :
    cellOf s st (l + i) = cellOf s st l + i := by
  have hdie : (l + i) / 2 ^ 32 = l / 2 ^ 32 := by omega
  have hsector : (l + i) % 2 ^ 32 / 32 = l % 2 ^ 32 / 32 := by omega
  have hlow : (l + i) % 2 ^ 32 = l % 2 ^ 32 + i := by omega
  unfold cellOf
  rw [hdie, hsector, hlow]
  exact (Nat.add_assoc _ _ _).symm

theorem cellOf_mod (s : State) (st l : Nat) : cellOf s st l % 4096 = l % 4096 := by
  unfold cellOf
  extract_lets die
  omega

theorem cellAt_add (s : State) {a i : Nat} (h : a % 32 + i < 32) : cellAt s (a + i) = cellAt s a + i := by
  have hl := place_mod s a
  unfold cellAt
  rw [place_add s (by omega)]
  exact cellOf_add s _ (by omega)

theorem cellAt_mod (s : State) (a : Nat) : cellAt s a % 4096 = a % 4096 := by
  rw [cellAt, cellOf_mod, place_mod]

/-- Two addresses of one 4 KiB block that lie at one place are one. -/
theorem cellAt_inj (s : State) {a i j : Nat} (hi : a % 4096 + i < 4096) (hj : a % 4096 + j < 4096)
    (h : cellAt s (a + i) = cellAt s (a + j)) : i = j := by
  have h1 := cellAt_mod s (a + i)
  have h2 := cellAt_mod s (a + j)
  rw [h] at h1
  omega

theorem present_add (s : State) {a i : Nat} (h : a % 4096 + i < 4096) : present s (a + i) = present s a := by
  have hl := place_mod s a
  have hlt : decide (a + i < 2 ^ 40) = decide (a < 2 ^ 40) := decide_eq_decide.2 (by omega)
  have hdie : ((place s a).2 + i) / 2 ^ 32 = (place s a).2 / 2 ^ 32 := by omega
  unfold present
  rw [place_add s h, hlt, hdie]

end Sys2Proof.Machine

/-! SUPPORT and settlement of O60: a range of device memory written and read (R264, R267, R270). -/

namespace Sys2Proof.Machine

set_option Elab.async false -- each thread's stack counts against the check's memory limit

/-! ### Sectors without poison or changed symbols -/

/-- A sector without poison or changed symbols. -/
def cleanCode : SectorCode := { poison := false, errors := [] }

theorem codeOf_setCode (s : State) (c d : Nat) (x : SectorCode) :
    codeOf (setCode s c x) d = if d / 32 = c / 32 then x else codeOf s d := by
  unfold codeOf setCode
  dsimp only
  by_cases hx : x = { poison := false, errors := [] }
  · rw [if_pos hx, NatMap.get?_del]
    split
    · exact hx.symm
    · rfl
  · rw [if_neg hx, NatMap.get?_set]
    split <;> rfl

theorem codeOf_storeSector (s : State) (c d img : Nat) (poison : Bool) :
    codeOf (storeSector s c img poison) d
      = if d / 32 = c / 32 then { poison := poison, errors := [] } else codeOf s d :=
  (codeOf_setCode _ c d _).trans rfl

theorem byteAt_storeSector (s : State) (c img : Nat) (poison : Bool) (k : Nat) :
    byteAt (storeSector s c img poison).dram k
      = if c ≤ k ∧ k < c + 32 then BitVec.ofNat 8 (img / 256 ^ (k - c)) else byteAt s.dram k :=
  byteAt_putBytes s.dram c 32 img k

theorem checkSector_nil : checkSector [] = .pass [] := rfl

/-- A clean sector reads as its bytes, across the boundary of its stack. -/
theorem readStored_clean {s : State} {c : Nat} (h : codeOf s c = cleanCode) (st : Nat) :
    readStored s st c = (crossFifo s (scPage st) 1, getBytes s.dram c 32, none) := by
  have hc : codeOf (crossFifo s (scPage st) 1) c = cleanCode := h
  unfold readStored
  dsimp only
  rw [hc]
  rfl

/-- A state that differs in nothing of memory but what a write of some sectors may change. -/
structure Stores (s t : State) : Prop where
  map : SameMap s t
  clean : ∀ c, codeOf s c = cleanCode → codeOf t c = cleanCode

theorem Stores.trans {s t u : State} (h : Stores s t) (k : Stores t u) : Stores s u :=
  ⟨h.map.trans k.map, fun c hc => k.clean c (h.clean c hc)⟩

/-- The stack with a write of the requester counted. -/
def countWrite (s : State) (who : Requester) (st : Nat) : State :=
  if isMaint who then s else bump s (scPage st) Reg.sc.WRITES

theorem countWrite_dram (s : State) (who : Requester) (st : Nat) : (countWrite s who st).dram = s.dram := by
  unfold countWrite
  split <;> rfl

theorem countWrite_codes (s : State) (who : Requester) (st : Nat) : (countWrite s who st).codes = s.codes := by
  unfold countWrite
  split <;> rfl

theorem sameMap_countWrite (s : State) (who : Requester) (st : Nat) : SameMap s (countWrite s who st) :=
  ite_keeps (P := SameMap s) (.refl s) ((SameMap.refl s).wr _ (by decide) (by decide))

theorem codeOf_congr {s t : State} (h : t.codes = s.codes) (c : Nat) : codeOf t c = codeOf s c := by
  unfold codeOf
  rw [h]

theorem stores_storeSector {s t : State} (hm : SameMap s t) (hc : t.codes = s.codes) (c img : Nat) :
    Stores s (storeSector t c img false) where
  map := hm.storeSector _ _ _
  clean d h := by
    rw [codeOf_storeSector]
    split
    · rfl
    · rw [codeOf_congr hc, h]

/-- A present sector is written whole, or merged with what it holds. -/
theorem writeSector_present {s : State} {a : Nat} (who : Requester) (hp : present s a = true) (lo n v : Nat)
    (poison : Bool) :
    writeSector s who a lo n v poison = (if n = 32 then
      (storeSector (crossFifo (countWrite s who (place s a).1) (scPage (place s a).1) 1) (cellAt s a) v poison, none)
    else match readStored (bump (countWrite s who (place s a).1) (scPage (place s a).1) Reg.sc.RMW) (place s a).1
        (cellAt s a) with
      | (s', _, some k) => (noteBad s' who (place s a).1 k, some k)
      | (s', old, none) => (storeSector s' (cellAt s a) (setBits old (8 * lo) (8 * n) v) false, none)) := by
  unfold writeSector
  dsimp only
  rw [if_pos hp]
  rfl

/-- A write of a part of a clean sector leaves the bytes it covers as written, and every other as it was. -/
theorem writeSector_clean {s : State} {a lo n v : Nat} (who : Requester) (hp : present s a = true)
    (hc : codeOf s (cellAt s a) = cleanCode) (hn : lo + n ≤ 32) :
    ∃ t, writeSector s who a lo n v false = (t, none) ∧ Stores s t
      ∧ ∀ k, byteAt t.dram k = if cellAt s a + lo ≤ k ∧ k < cellAt s a + lo + n
          then BitVec.ofNat 8 (v / 256 ^ (k - (cellAt s a + lo))) else byteAt s.dram k := by
  rw [writeSector_present who hp]
  have hmap := sameMap_countWrite s who (place s a).1
  have hcodes := countWrite_codes s who (place s a).1
  have hdram := countWrite_dram s who (place s a).1
  generalize countWrite s who (place s a).1 = u at *
  generalize (place s a).1 = st at *
  generalize cellAt s a = c at *
  split
  · next h32 =>
    subst h32
    obtain rfl : lo = 0 := by omega
    refine ⟨_, rfl, stores_storeSector (hmap.crossFifo _ _) hcodes _ _, fun k => ?_⟩
    have hold : (crossFifo u (scPage st) 1).dram = s.dram := hdram
    rw [Nat.add_zero, byteAt_storeSector, hold]
  · have hcu : codeOf (bump u (scPage st) Reg.sc.RMW) c = cleanCode := by
      rw [codeOf_congr (t := bump u (scPage st) Reg.sc.RMW) hcodes, hc]
    rw [readStored_clean hcu]
    refine ⟨_, rfl, stores_storeSector ((hmap.wr _ (by decide) (by decide)).crossFifo _ _) hcodes _ _, fun k => ?_⟩
    have hold : (crossFifo (bump u (scPage st) Reg.sc.RMW) (scPage st) 1).dram = s.dram := hdram
    rw [byteAt_storeSector, byte_setBits, hold, bump_dram, hdram]
    by_cases hk : c ≤ k ∧ k < c + 32
    · rw [if_pos hk, byte_getBytes _ _ _ (by omega), show c + (k - c) = k by omega,
        show k - c - lo = k - (c + lo) by omega]
      exact if_congr (by omega) rfl rfl
    · rw [if_neg hk, if_neg (by omega)]

/-! ### A range written -/

theorem codeOf_sector (s : State) {c d : Nat} (h : c / 32 = d / 32) : codeOf s c = codeOf s d := by
  unfold codeOf
  rw [h]

/-- An address and the first of its sector. -/
theorem sector_of (s : State) (a : Nat) :
    cellAt s a = cellAt s (a / 32 * 32) + a % 32 ∧ present s a = present s (a / 32 * 32)
      ∧ codeOf s (cellAt s a) = codeOf s (cellAt s (a / 32 * 32)) := by
  have ha : a / 32 * 32 + a % 32 = a := by omega
  have hcell : cellAt s a = cellAt s (a / 32 * 32) + a % 32 := by
    conv_lhs => rw [← ha]
    exact cellAt_add s (by omega)
  have hmod := cellAt_mod s (a / 32 * 32)
  refine ⟨hcell, ?_, codeOf_sector s (by omega)⟩
  conv_lhs => rw [← ha]
  exact present_add s (by omega)

theorem cleanRange_kept {s t : State} {a n b m : Nat} (h : CleanRange s a n) (hs : Stores s t)
    (hsub : ∀ i < m, ∃ j < n, b + i = a + j) : CleanRange t b m := by
  intro i hi
  obtain ⟨j, hj, e⟩ := hsub i hi
  obtain ⟨hp, hc⟩ := h j hj
  rw [e, hs.map.present, hs.map.cellAt]
  exact ⟨hp, hs.clean _ hc⟩

/-- A range of `m` bytes at `a` written: its bytes are those of the image, and every other is as it was. -/
structure RangeWritten (s t : State) (a m v : Nat) : Prop where
  stores : Stores s t
  bytes : ∀ i < m, byteAt t.dram (cellAt s (a + i)) = BitVec.ofNat 8 (v / 256 ^ i)
  others : ∀ k, (∀ i < m, k ≠ cellAt s (a + i)) → byteAt t.dram k = byteAt s.dram k

/-- The part of a range that lies in one sector. -/
theorem writeSector_part {s : State} {a m v : Nat} (who : Requester) (hc : CleanRange s a m) (hm : 1 ≤ m)
    (hs : a % 32 + m ≤ 32) :
    ∃ t, writeSector s who (a / 32 * 32) (a - a / 32 * 32) m (v % 2 ^ (8 * m)) false = (t, none) ∧ RangeWritten s t a m v := by
  obtain ⟨hcell, hpres, hcode⟩ := sector_of s a
  obtain ⟨hp, hclean⟩ := hc 0 (by omega)
  rw [Nat.add_zero] at hp hclean
  have hlo : a - a / 32 * 32 = a % 32 := by omega
  rw [hlo]
  obtain ⟨t, he, hst, hb⟩ := writeSector_clean (v := v % 2 ^ (8 * m)) who (hpres ▸ hp) (hcode ▸ hclean) hs
  have hadd : ∀ i < m, cellAt s (a + i) = cellAt s (a / 32 * 32) + a % 32 + i := fun i hi => by
    rw [cellAt_add s (by omega), hcell]
  refine ⟨t, he, hst, fun i hi => ?_, fun k hk => ?_⟩
  · rw [hb, hadd i hi, if_pos (by omega), Nat.add_sub_cancel_left]
    refine byte_congr fun b hb => ?_
    rw [Nat.testBit_mod_two_pow, decide_eq_true (by omega), Bool.true_and]
  · rw [hb, if_neg]
    rintro ⟨h1, h2⟩
    refine hk (k - (cellAt s (a / 32 * 32) + a % 32)) (by omega) ?_
    rw [hadd _ (by omega)]
    omega

/-- Sectors written one after another within a 4 KiB block. -/
theorem writeSectors_clean (who : Requester) (stop : Nat) (n : Nat) : ∀ (v a : Nat) (s : State),
    a % 4096 + (stop - a) ≤ 4096 → CleanRange s a (stop - a) → stop ≤ a / 32 * 32 + 32 * n →
    (n ≠ 0 → a / 32 * 32 + 32 * (n - 1) < stop ∧ a < stop) →
    ∃ t, writeSectors who false a stop n v s = (t, none) ∧ RangeWritten s t a (stop - a) v := by
  induction n with
  | zero =>
    intro v a s _ _ hstop _
    have hnone : stop - a = 0 := by omega
    refine ⟨s, rfl, ⟨.refl s, fun _ h => h⟩, fun i hi => by omega, fun _ _ => rfl⟩
  | succ n ih =>
    intro v a s hblk hclean hstop hlt
    obtain ⟨hlast, ha⟩ := hlt (by omega)
    rw [Nat.add_sub_cancel] at hlast
    generalize hm : min (stop - a) (a / 32 * 32 + 32 - a) = m
    have hm1 : 1 ≤ m := by omega
    obtain ⟨u, hu, hfirst⟩ := writeSector_part (v := v) who (m := m)
      (cleanRange_kept hclean ⟨.refl s, fun _ h => h⟩ fun i hi => ⟨i, by omega, rfl⟩) hm1 (by omega)
    have hrest : CleanRange u (a / 32 * 32 + 32) (stop - (a / 32 * 32 + 32)) :=
      cleanRange_kept hclean hfirst.stores fun i hi => ⟨a / 32 * 32 + 32 - a + i, by omega, by omega⟩
    obtain ⟨t, ht, hsecond⟩ := ih (v / 2 ^ (8 * m)) (a / 32 * 32 + 32) u (by omega) hrest (by omega) (by omega)
    have hcells : ∀ b, cellAt u b = cellAt s b := hfirst.stores.map.cellAt
    refine ⟨t, ?_, hfirst.stores.trans hsecond.stores, fun i hi => ?_, fun k hk => ?_⟩
    · unfold writeSectors
      dsimp only
      rw [hm, hu]
      dsimp only
      rw [ht]
    · by_cases hi' : i < m
      · rw [hsecond.others _ fun j hj e => ?_, hfirst.bytes i hi']
        rw [hcells, show a / 32 * 32 + 32 + j = a + (a / 32 * 32 + 32 - a + j) by omega] at e
        have := cellAt_inj s (by omega) (by omega) e
        omega
      · have hm' : m = a / 32 * 32 + 32 - a := by omega
        have := hsecond.bytes (i - m) (by omega)
        rw [hcells, show a / 32 * 32 + 32 + (i - m) = a + i by omega] at this
        rw [this, pow_256, pow_256, Nat.div_div_eq_div_mul, ← Nat.pow_add, show 8 * m + 8 * (i - m) = 8 * i by omega]
    · rw [hsecond.others k fun j hj e => ?_, hfirst.others k fun j hj => hk j (by omega)]
      rw [hcells] at e
      exact hk (a / 32 * 32 + 32 - a + j) (by omega) (by rw [e]; congr 1; omega)

theorem RangeWritten.wake {s t : State} {a m v : Nat} (h : RangeWritten s t a m v) (b n : Nat) :
    RangeWritten s (wakeWaiters t b n) a m v where
  stores := ⟨⟨h.stores.map.drams, h.stores.map.map, h.stores.map.stack⟩, h.stores.clean⟩
  bytes := h.bytes
  others := h.others

/-- A write of a clean range lands whole. -/
theorem memWrite_clean {s : State} {a n : Nat} (who : Requester) (v : Nat) (hn : 1 ≤ n) (hblk : a % 4096 + n ≤ 4096)
    (hc : CleanRange s a n) : ∃ t, memWrite s who a n v = (t, .ok 0) ∧ RangeWritten s t a n v := by
  have hstop : a + n - a = n := by omega
  obtain ⟨t, ht, hw⟩ := writeSectors_clean who (a + n) (ceilDiv (a + n - a / 32 * 32) 32) v a s (by omega)
    (hstop.symm ▸ hc) (by unfold ceilDiv; omega) (by unfold ceilDiv; omega)
  rw [hstop] at hw
  refine ⟨wakeWaiters t a n, ?_, hw.wake a n⟩
  unfold memWrite memWritePoison
  simp only [ht]

/-! ### A range read -/

/-- The stack with a read of the requester counted. -/
def countRead (s : State) (who : Requester) (st : Nat) : State :=
  if isMaint who then s else bump s (scPage st) Reg.sc.READS

theorem sameMap_countRead (s : State) (who : Requester) (st : Nat) : SameMap s (countRead s who st) :=
  ite_keeps (P := SameMap s) (.refl s) ((SameMap.refl s).wr _ (by decide) (by decide))

theorem readSector_present {s : State} {a : Nat} (who : Requester) (hp : present s a = true) :
    readSector s who a = (match readStored (countRead s who (place s a).1) (place s a).1 (cellAt s a) with
      | (s', v, some k) => (noteBad s' who (place s a).1 k, v, some k)
      | (s', v, none) => (s', v, none)) := by
  unfold readSector
  dsimp only
  rw [if_pos hp, ← countRead, (sameMap_countRead s who _).cellOf]
  rfl

theorem readSector_clean {s : State} {a : Nat} (who : Requester) (hp : present s a = true)
    (hc : codeOf s (cellAt s a) = cleanCode) :
    ∃ t, readSector s who a = (t, getBytes s.dram (cellAt s a) 32, none) ∧ Stores s t ∧ t.dram = s.dram := by
  have hmap := sameMap_countRead s who (place s a).1
  have hcodes : (countRead s who (place s a).1).codes = s.codes := by unfold countRead; split <;> rfl
  have hdram : (countRead s who (place s a).1).dram = s.dram := by unfold countRead; split <;> rfl
  refine ⟨crossFifo (countRead s who (place s a).1) (scPage (place s a).1) 1, ?_,
    ⟨hmap.crossFifo _ _, fun c h => by rwa [codeOf_congr (t := crossFifo _ _ _) hcodes]⟩, hdram⟩
  rw [readSector_present who hp, readStored_clean ((codeOf_congr hcodes _).trans hc), hdram]

/-- The image of the bytes from a device address, sector by sector. -/
def Images (s : State) (a n v : Nat) : Prop :=
  ∀ j, v.testBit j = (decide (j < 8 * n) && (byteAt s.dram (cellAt s (a + j / 8))).getLsbD (j % 8))

theorem readSectors_clean (who : Requester) (n : Nat) : ∀ (a : Nat) (s : State), a % 32 = 0 → a % 4096 + 32 * n ≤ 4096 →
    CleanRange s a (32 * n) → ∃ t v, readSectors who a n s = (t, v, none) ∧ Images s a (32 * n) v := by
  induction n with
  | zero => exact fun a s _ _ _ => ⟨s, 0, rfl, fun j => by simp⟩
  | succ n ih =>
    intro a s ha hblk hc
    obtain ⟨hp, hcode⟩ := hc 0 (by omega)
    obtain ⟨u, hu, hst, hdram⟩ := readSector_clean who hp hcode
    rw [Nat.add_zero] at hu
    obtain ⟨t, w, ht, hw⟩ := ih (a + 32) u (by omega) (by omega)
      (cleanRange_kept hc hst fun i hi => ⟨32 + i, by omega, by omega⟩)
    have hcells : ∀ b, cellAt u b = cellAt s b := hst.map.cellAt
    refine ⟨t, getBytes s.dram (cellAt s a) 32 + w * 2 ^ 256, ?_, fun j => ?_⟩
    · unfold readSectors
      rw [hu]
      dsimp only
      rw [ht]
    · have hlt : getBytes s.dram (cellAt s a) 32 < 2 ^ 256 := by
        refine Nat.lt_pow_two_of_testBit _ fun i hi => ?_
        rw [testBit_getBytes, decide_eq_false (by omega), Bool.false_and]
      rw [Nat.mul_comm w, testBit_add_mul_pow hlt]
      by_cases hj : j < 256
      · rw [if_pos hj, testBit_getBytes, decide_eq_true (by omega), decide_eq_true (by omega), cellAt_add s (by omega)]
      · rw [if_neg hj, hw, hdram, hcells, show a + 32 + (j - 256) / 8 = a + j / 8 by omega,
          show (j - 256) % 8 = j % 8 by omega, decide_eq_decide.2 (show j - 256 < 8 * (32 * n) ↔ j < 8 * (32 * (n + 1)) by omega)]

/-- The sectors that a clean range touches are clean. -/
theorem cleanRange_sectors {s : State} {a n : Nat} (hn : 1 ≤ n) (hc : CleanRange s a n) :
    CleanRange s (a / 32 * 32) (32 * ceilDiv (a + n - a / 32 * 32) 32) := by
  intro i hi
  unfold ceilDiv at hi
  generalize hx : a / 32 * 32 + i = x
  obtain ⟨y, hya, hyn, hsame⟩ : ∃ y, a ≤ y ∧ y < a + n ∧ y / 32 * 32 = x / 32 * 32 := by
    refine ⟨max a (x / 32 * 32), by omega, by omega, by omega⟩
  obtain ⟨hp, hcode⟩ := hc (y - a) (by omega)
  rw [show a + (y - a) = y by omega] at hp hcode
  obtain ⟨-, hpx, hcx⟩ := sector_of s x
  obtain ⟨-, hpy, hcy⟩ := sector_of s y
  rw [hpx, hcx, ← hsame, ← hpy, ← hcy]
  exact ⟨hp, hcode⟩

/-- A read of a clean range answers its bytes. -/
theorem memRead_clean {s : State} {a n : Nat} (who : Requester) (hn : 1 ≤ n) (hblk : a % 4096 + n ≤ 4096)
    (hc : CleanRange s a n) : ∃ t v, memRead s who a n = (t, .ok v) ∧ Images s a n v := by
  obtain ⟨t, w, ht, hw⟩ := readSectors_clean who (ceilDiv (a + n - a / 32 * 32) 32) (a / 32 * 32) s (by omega)
    (by unfold ceilDiv; omega) (cleanRange_sectors hn hc)
  refine ⟨t, bits w (8 * (a - a / 32 * 32)) (8 * n), ?_, fun j => ?_⟩
  · unfold memRead
    dsimp only
    rw [ht]
  · unfold bits
    rw [Nat.testBit_mod_two_pow, Nat.testBit_shiftRight, hw]
    by_cases hj : j < 8 * n
    · rw [decide_eq_true hj, decide_eq_true (by unfold ceilDiv; omega), show (8 * (a - a / 32 * 32) + j) % 8 = j % 8 by omega,
        show a / 32 * 32 + (8 * (a - a / 32 * 32) + j) / 8 = a + j / 8 by omega, Bool.true_and]
    · rw [decide_eq_false hj, Bool.false_and, Bool.false_and]

/-- What a write of a clean range wrote reads back. -/
theorem memRead_written {s t : State} {a n v : Nat} (who : Requester) (hn : 1 ≤ n) (hblk : a % 4096 + n ≤ 4096)
    (hc : CleanRange s a n) (hw : RangeWritten s t a n v) : (memRead t who a n).2 = .ok (v % 2 ^ (8 * n)) := by
  obtain ⟨u, w, hu, him⟩ := memRead_clean (s := t) who hn hblk
    (cleanRange_kept hc hw.stores fun i hi => ⟨i, hi, rfl⟩)
  rw [hu]
  refine congrArg Got.ok (Nat.eq_of_testBit_eq fun j => ?_)
  rw [him, Nat.testBit_mod_two_pow]
  by_cases hj : j < 8 * n
  · rw [hw.stores.map.cellAt, hw.bytes _ (by omega), getLsbD_byte _ _ _ (by omega), show 8 * (j / 8) + j % 8 = j by omega]
  · rw [decide_eq_false hj, Bool.false_and, Bool.false_and]

/-! ### The aperture -/

theorem sameMap_requestArrived (s : State) (posted nonposted units : Nat) :
    SameMap s (requestArrived s posted nonposted units) where
  drams := rfl
  map := rd_requestArrived_page (by decide) (by decide) s posted nonposted units
  stack st f hf := by
    refine rd_requestArrived_page (by simp [scPage]) ?_ s posted nonposted units
    simp only [List.mem_cons, List.not_mem_nil, or_false] at hf
    rcases hf with rfl | rfl | rfl <;> decide

theorem stores_requestArrived (s : State) (posted nonposted units : Nat) :
    Stores s (requestArrived s posted nonposted units) := ⟨sameMap_requestArrived s _ _ _, fun _ h => h⟩

theorem aptWr_lands {addr : BitVec 64} {n v : Nat} {s : State} (h : InCredit s (ceilDiv (32 + n) 128) 0 n)
    (hr : ready s = true) (hl : apertureLegal addr.toNat n = true) (hc : CleanRange s addr.toNat n) :
    Completes (.aptWr addr n v) s fun t =>
      (∀ i < n, byteAt t.dram (cellAt s (addr.toNat + i)) = BitVec.ofNat 8 (v / 256 ^ i))
        ∧ ∀ k, (∀ i < n, k ≠ cellAt s (addr.toNat + i)) → byteAt t.dram k = byteAt s.dram k := by
  have hlen : 1 ≤ n := by
    have := h.2.1
    simp only [ohtLength, decide_eq_true_eq] at this
    exact this.1
  have hblk : addr.toNat % 4096 + n ≤ 4096 := by
    simp only [apertureLegal, Bool.and_eq_true, decide_eq_true_eq] at hl
    exact hl.2
  refine completes_hostRequest (if_neg (by simp [h.2.1])) h fun x y => ?_
  have hst := stores_requestArrived s (ceilDiv (32 + n) 128) 0 (ceilDiv (32 + n) 128)
  obtain ⟨t, ht, hw⟩ := memWrite_clean .host (v % 2 ^ (8 * n)) hlen hblk (cleanRange_kept hc hst fun i hi => ⟨i, hi, rfl⟩)
  rw [ready_requestArrived, hr, hl, ht]
  refine ⟨fun i hi => ?_, fun k hk => ?_⟩
  · have := hw.bytes i hi
    rw [hst.map.cellAt] at this
    refine this.trans (byte_congr fun b hb => ?_)
    rw [Nat.testBit_mod_two_pow, decide_eq_true (by omega), Bool.true_and]
  · exact hw.others k fun i hi => by
      rw [hst.map.cellAt]
      exact hk i hi

/-- Settles O60: within a 4 KiB block no two addresses share a byte, so that each sector's write stands. -/
theorem memoryWritesReadBack : Obligations.MemoryWritesReadBack := by
  refine ⟨fun who a n v s hn hblk hc => ?_, fun addr n v s => aptWr_lands⟩
  obtain ⟨t, ht, hw⟩ := memWrite_clean who v hn hblk hc
  rw [ht]
  exact ⟨rfl, memRead_written who hn hblk hc hw, hw.bytes, hw.others⟩

end Sys2Proof.Machine

/-! SUPPORT and settlement of O57: a flight total is the exact sum of code times weight. The treads of either mode spell the
code and the weight out in digits, so that each lane adds up to one product. -/

namespace Sys2Proof.Machine

set_option Elab.async false -- each thread's stack counts against the check's memory limit

/-! ### Sums over lanes -/

/-- The digits of a number in base `b` sum to its residue. -/
theorem sum_digits (b n x : Nat) : ((List.range n).map fun i => b ^ i * (x / b ^ i % b)).sum = x % b ^ n := by
  induction n with
  | zero => simp [Nat.mod_one]
  | succ n ih => rw [List.range_succ, List.map_append, List.sum_append, ih, Nat.mod_pow_succ]; simp

theorem bits_one_eq (x i : Nat) : bits x i 1 = x / 2 ^ i % 2 := by rw [bits, Nat.shiftRight_eq_div_pow, pow_one]

theorem bits_two_eq (x i : Nat) : bits x (2 * i) 2 = x / 4 ^ i % 4 := by
  rw [bits, Nat.shiftRight_eq_div_pow, pow_mul]; rfl

/-- A sum over what a list's members give is the sum of their sums. -/
theorem sum_map_flatMap {α β : Type} (g : α → List β) (f : β → Int) (l : List α) :
    ((l.flatMap g).map f).sum = (l.map fun a => ((g a).map f).sum).sum := by
  induction l with
  | nil => rfl
  | cons a l ih => rw [List.flatMap_cons, List.map_append, List.sum_append, ih]; rfl

/-- What a filter drops does not count where it is 0. -/
theorem sum_map_filter {α : Type} {g : α → Bool} {f : α → Int} {l : List α} (h : ∀ a ∈ l, g a = false → f a = 0) :
    ((l.filter g).map f).sum = (l.map f).sum := by
  induction l with
  | nil => rfl
  | cons a l ih =>
    have ih := ih fun b hb => h b (List.mem_cons_of_mem a hb)
    cases e : g a with
    | true => rw [List.filter_cons_of_pos e]; simp [ih]
    | false => rw [List.filter_cons_of_neg (by simp [e])]; simp [ih, h a List.mem_cons_self e]

theorem sum_map_reverse {α : Type} (f : α → Int) (l : List α) : (l.reverse.map f).sum = (l.map f).sum := by
  rw [List.map_reverse, List.sum_reverse]

/-- A column sum of a weighted sum is the weighted sum of the column sums. -/
theorem columnSum_sum {α : Type} (r : TileReg) (codes : Nat × Nat → List Nat) (c : Nat) (a : α → Int)
    (F : α → Nat → Nat → Nat → Nat → Int) (ts : List α) :
    (ts.map fun x => a x * columnSum r codes c (F x)).sum
      = columnSum r codes c fun q p k col => (ts.map fun x => a x * F x q p k col).sum := by
  induction ts with
  | nil => simp [columnSum]
  | cons x xs ih =>
    rw [List.map_cons, List.sum_cons, ih]
    simp only [columnSum, List.map_cons, List.sum_cons, List.sum_map_add, List.sum_map_mul_left]

/-- Column sums agree where their lanes agree on every code that can stand in a lane. -/
theorem columnSum_congr {r : TileReg} {codes : Nat × Nat → List Nat} {c : Nat} {F G : Nat → Nat → Nat → Nat → Int}
    {P : Nat → Prop} (h0 : P 0) (hP : ∀ p, ∀ q ∈ codes p, P q) (h : ∀ q p k col, P q → F q p k col = G q p k col) :
    columnSum r codes c F = columnSum r codes c G := by
  refine congrArg List.sum (List.map_congr_left fun i _ => congrArg List.sum (List.map_congr_left fun k _ => h _ _ _ _ ?_))
  by_cases hk : k < (codes (slotGroup r i)).length
  · rw [List.getD_eq_getElem _ _ hk]; exact hP _ _ (List.getElem_mem hk)
  · rw [List.getD_eq_default _ _ (by omega)]; exact h0

theorem treadAdd_length (r : TileReg) (f : Flight) (ij : Nat × Nat) : (treadAdd r f ij).length = f.acc.length := by
  simp [treadAdd]

/-- What a tread adds to a column. -/
theorem treadAdd_getD (r : TileReg) (f : Flight) (ij : Nat × Nat) {c : Nat} (hc : c < f.acc.length) :
    (treadAdd r f ij).getD c 0
      = f.acc.getD c 0 + treadWeight r.wa r.ww ij * columnSum r (flightCodes f) c (laneProduct r.wa r.ww ij) := by
  rw [List.getD_eq_getElem _ _ (by rwa [treadAdd_length]), List.getD_eq_getElem _ _ hc]
  simp [treadAdd]

/-- What a list of treads adds to a column. -/
theorem treadsRun_getD (r : TileReg) (ts : List (Nat × Nat)) : ∀ (f : Flight) {c : Nat}, c < f.acc.length →
    (treadsRun r f ts).getD c 0 = f.acc.getD c 0
      + (ts.map fun ij => treadWeight r.wa r.ww ij * columnSum r (flightCodes f) c (laneProduct r.wa r.ww ij)).sum := by
  induction ts with
  | nil => intro f c _; simp [treadsRun]
  | cons ij ts ih =>
    intro f c hc
    have e := ih { f with acc := treadAdd r f ij } (c := c) (by rwa [treadAdd_length])
    rw [List.map_cons, List.sum_cons, ← add_assoc, ← treadAdd_getD r f ij hc]
    exact e

/-! ### One lane -/

/-- A code has no bit that its mask lacks. -/
theorem digit_of_mask {m q i : Nat} (hm : q &&& m = q) (h : bit m i = false) : q / 2 ^ i % 2 = 0 := by
  have ht : q.testBit i = false := by
    rw [← hm, Nat.testBit_and, ← bit_eq m, h, Bool.and_false]
  rw [Nat.testBit_eq_decide_div_mod_eq] at ht
  have := of_decide_eq_false ht
  omega

/-- In activation-serial mode the treads of a lane spell its code out in bits. -/
theorem activationTreads_sum {wa ww m q : Nat} (hs : weightSerial wa ww = false) (hq : q < 2 ^ wa) (hm : q &&& m = q)
    (p k col : Nat) :
    ((treadList wa ww m).map fun ij => treadWeight wa ww ij * laneProduct wa ww ij q p k col).sum
      = (q : Int) * weightAt ww p k col := by
  have plane (i : Nat) :
      (((List.range (digitCount ww)).reverse.map fun j => (i, j)).map fun ij =>
        treadWeight wa ww ij * laneProduct wa ww ij q p k col).sum
      = ((2 ^ i * (q / 2 ^ i % 2) : Nat) : Int) * weightAt ww p k col := by
    rw [List.map_map, sum_map_reverse, weightAt, ← List.sum_map_mul_left]
    refine congrArg List.sum (List.map_congr_left fun j _ => ?_)
    simp only [Function.comp, treadWeight, laneProduct, hs, bits_one_eq, Bool.false_eq_true, if_false, pow_add, pow_mul]
    push_cast
    ring
  simp only [treadList, hs, Bool.false_eq_true, if_false, sum_map_flatMap, plane]
  rw [sum_map_filter fun i _ h => by rw [digit_of_mask hm h]; simp, sum_map_reverse, List.sum_map_mul_right]
  rw [show ((List.range wa).map fun i => ((2 ^ i * (q / 2 ^ i % 2) : Nat) : Int)).sum
    = (((List.range wa).map fun i => 2 ^ i * (q / 2 ^ i % 2)).sum : Nat) by
      rw [Nat.cast_list_sum, List.map_map]; rfl, sum_digits, Nat.mod_eq_of_lt hq]

theorem digitAt_lt {ww : Nat} (h : ww ≠ 1) (p j k col : Nat) : digitAt ww p j k col < 4 := by
  rw [digitAt, if_neg h, bits]; exact Nat.mod_lt _ (by decide)

/-- Digits below 4 form a number below the power of 4. -/
theorem sum_quads_lt {d : Nat → Nat} (h : ∀ j, d j < 4) (n : Nat) : ((List.range n).map fun j => 4 ^ j * d j).sum < 4 ^ n := by
  induction n with
  | zero => simp
  | succ n ih =>
    have := h n
    rw [List.range_succ, List.map_append, List.sum_append, pow_succ]
    simp only [List.map_cons, List.map_nil, List.sum_cons, List.sum_nil]
    nlinarith [Nat.pow_pos (n := n) (show 0 < 4 by decide)]

theorem signed_two {t : Nat} (h : t < 4) : signed 2 t = (t % 2 : Nat) - 2 * (t / 2 : Nat) := by
  interval_cases t <;> rfl

/-- The digits of a weight below its top digit. -/
def lowDigits (ww p k col n : Nat) : Nat := ((List.range n).map fun j => 4 ^ j * digitAt ww p j k col).sum

theorem weightBits_top {ww n : Nat} (hn : digitCount ww = n + 1) (p k col : Nat) :
    weightBits ww p k col = lowDigits ww p k col n + 4 ^ n * digitAt ww p n k col := by
  rw [weightBits, hn, List.range_succ]; simp [lowDigits]

theorem weightAt_top {ww n : Nat} (hn : digitCount ww = n + 1) (h : ww ≠ 1) (p k col : Nat) :
    weightAt ww p k col = lowDigits ww p k col n + 4 ^ n * signed 2 (digitAt ww p n k col) := by
  rw [weightAt, hn, List.range_succ, List.map_append, List.sum_append]
  have low : ((List.range n).map fun j => (4 : Int) ^ j * digitValue ww j (digitAt ww p j k col))
      = (List.range n).map fun j => ((4 ^ j * digitAt ww p j k col : Nat) : Int) := by
    refine List.map_congr_left fun j hj => ?_
    have := List.mem_range.1 hj
    rw [digitValue, if_neg h, if_neg (by omega)]
    push_cast; rfl
  rw [low, lowDigits, Nat.cast_list_sum, List.map_map]
  simp [digitValue, h, hn, Function.comp_def]

/-- The bits of a weight with the value of its top tread are the weight (*Bit values, weight-serial*). -/
theorem bitValues_sum {ww : Nat} (h : 2 ≤ ww) (p k col : Nat) :
    ((List.range ww).map fun i => 2 ^ i * bitValue ww i (weightBits ww p k col)).sum = weightAt ww p k col := by
  obtain ⟨n, rfl⟩ : ∃ n, ww = n + 1 := ⟨ww - 1, by omega⟩
  set w := weightBits (n + 1) p k col with hw
  have low : ((List.range n).map fun i => (2 : Int) ^ i * bitValue (n + 1) i w).sum = (w % 2 ^ n : Nat) := by
    rw [← sum_digits, Nat.cast_list_sum, List.map_map]
    refine congrArg List.sum (List.map_congr_left fun i hi => ?_)
    have := List.mem_range.1 hi
    simp only [bitValue, if_pos (show i + 1 < n + 1 by omega), bits_one_eq, Function.comp]
    push_cast; rfl
  rw [List.range_succ, List.map_append, List.sum_append, low]
  simp only [List.map_cons, List.map_nil, List.sum_cons, List.sum_nil, add_zero]
  obtain ⟨m, e⟩ := Nat.even_or_odd' n
  have count : digitCount (n + 1) = m + 1 := by
    unfold digitCount ceilDiv; split <;> omega
  have hlow : lowDigits (n + 1) p k col m < 4 ^ m := sum_quads_lt (digitAt_lt (by omega) p · k col) m
  have htop : digitAt (n + 1) p m k col < 4 := digitAt_lt (by omega) p m k col
  rw [weightAt_top count (by omega), signed_two htop]
  have hw' := weightBits_top count p k col
  rw [← hw] at hw'
  generalize lowDigits (n + 1) p k col m = L at *
  generalize digitAt (n + 1) p m k col = t at *
  have div : w / 4 ^ m = t := by
    rw [hw', Nat.add_mul_div_left _ _ (Nat.pow_pos (by decide)), Nat.div_eq_of_lt hlow, Nat.zero_add]
  have mod : w % 4 ^ m = L := by rw [hw', Nat.add_mul_mod_self_left, Nat.mod_eq_of_lt hlow]
  have four : 4 ^ m = 2 ^ (2 * m) := by rw [pow_mul]; rfl
  rcases e with rfl | rfl
  · rw [bitValue, if_neg (by omega), if_neg (by omega), Nat.add_sub_cancel, Nat.shiftRight_eq_div_pow, ← four, div, mod,
      signed_two htop, pow_mul]
    norm_num
  · rw [bitValue, if_neg (by omega), if_pos (by omega), bits_one_eq, pow_succ 2 (2 * m), Nat.mod_mul, ← Nat.div_div_eq_div_mul,
      ← four, div, mod, Nat.mod_eq_of_lt (show t / 2 < 2 by omega), pow_succ (2 : Int), pow_mul]
    push_cast
    ring

/-- In weight-serial mode the treads of a lane spell its code out in pairs of bits, and its weight in bits. -/
theorem weightTreads_sum {wa ww m q : Nat} (hs : weightSerial wa ww = true) (hw : 1 ≤ wa) (hq : q < 2 ^ wa)
    (hm : q &&& m = q) (p k col : Nat) :
    ((treadList wa ww m).map fun ij => treadWeight wa ww ij * laneProduct wa ww ij q p k col).sum
      = (q : Int) * weightAt ww p k col := by
  have h2 : 2 ≤ ww := by have := of_decide_eq_true hs; omega
  have pair (j : Nat) :
      (((List.range ww).reverse.map fun i => (j, i)).map fun ij =>
        treadWeight wa ww ij * laneProduct wa ww ij q p k col).sum
      = ((4 ^ j * (q / 4 ^ j % 4) : Nat) : Int) * weightAt ww p k col := by
    rw [List.map_map, sum_map_reverse, ← bitValues_sum h2, ← List.sum_map_mul_left]
    refine congrArg List.sum (List.map_congr_left fun i _ => ?_)
    simp only [Function.comp, treadWeight, laneProduct, hs, if_true, bits_two_eq, pow_add, pow_mul]
    push_cast
    ring
  have unset : ∀ j, (bit m (2 * j) || bit m (2 * j + 1)) = false → q / 4 ^ j % 4 = 0 := by
    intro j h
    obtain ⟨h0, h1⟩ := Bool.or_eq_false_iff.1 h
    have e0 := digit_of_mask hm h0
    have e1 := digit_of_mask hm h1
    rw [pow_succ, ← Nat.div_div_eq_div_mul] at e1
    rw [pow_mul] at e0 e1
    norm_num at e0 e1
    omega
  have all : q < 4 ^ ceilDiv wa 2 := by
    refine lt_of_lt_of_le hq ?_
    rw [show (4 : Nat) = 2 ^ 2 from rfl, ← pow_mul]
    exact Nat.pow_le_pow_right (by decide) (by rw [ceilDiv]; omega)
  simp only [treadList, hs, if_true, sum_map_flatMap, pair]
  rw [sum_map_filter fun j _ h => by rw [unset j h]; simp, sum_map_reverse, List.sum_map_mul_right]
  rw [show ((List.range (ceilDiv wa 2)).map fun j => ((4 ^ j * (q / 4 ^ j % 4) : Nat) : Int)).sum
    = (((List.range (ceilDiv wa 2)).map fun j => 4 ^ j * (q / 4 ^ j % 4)).sum : Nat) by
      rw [Nat.cast_list_sum, List.map_map]; rfl, sum_digits, Nat.mod_eq_of_lt all]

/-- The treads of a lane add up to its code times its weight, in either mode. -/
theorem treads_sum {wa ww m q : Nat} (hw : 1 ≤ wa) (hq : q < 2 ^ wa) (hm : q &&& m = q) (p k col : Nat) :
    ((treadList wa ww m).map fun ij => treadWeight wa ww ij * laneProduct wa ww ij q p k col).sum
      = (q : Int) * weightAt ww p k col := by
  cases hs : weightSerial wa ww with
  | true => exact weightTreads_sum hs hw hq hm p k col
  | false => exact activationTreads_sum hs hq hm p k col

/-! ### How large a total can be -/

theorem weightAt_natAbs {ww : Nat} (h1 : 1 ≤ ww) (h16 : ww ≤ 16) (p k col : Nat) : (weightAt ww p k col).natAbs ≤ 2 ^ 15 := by
  by_cases h : ww = 1
  · subst h
    have : bits p (16 * k + col) 1 < 2 := Nat.mod_lt _ (by decide)
    simp only [weightAt, digitCount, digitValue, digitAt, if_pos, show (1 : Nat) ≤ 2 by decide, List.range_one,
      List.map_cons, List.map_nil, List.sum_cons, List.sum_nil]
    norm_num
    omega
  · obtain ⟨n, count⟩ : ∃ n, digitCount ww = n + 1 := by
      refine ⟨digitCount ww - 1, ?_⟩
      unfold digitCount ceilDiv; split <;> omega
    have hn : n ≤ 7 := by
      unfold digitCount ceilDiv at count; split at count <;> omega
    have hlow : lowDigits ww p k col n < 4 ^ n := sum_quads_lt (digitAt_lt h p · k col) n
    have htop : digitAt ww p n k col < 4 := digitAt_lt h p n k col
    have hpow : 4 ^ n ≤ 4 ^ 7 := Nat.pow_le_pow_right (by decide) hn
    rw [weightAt_top count h, signed_two htop]
    generalize lowDigits ww p k col n = L at *
    generalize digitAt ww p n k col = t at *
    rw [show ((4 : Int) ^ n) = ((4 ^ n : Nat) : Int) by push_cast; rfl]
    generalize 4 ^ n = b at *
    interval_cases t <;> norm_num <;> omega

theorem natAbs_sum_le (B : Nat) : ∀ l : List Int, (∀ x ∈ l, x.natAbs ≤ B) → l.sum.natAbs ≤ l.length * B
  | [], _ => by simp
  | x :: l, h => by
    have ih := natAbs_sum_le B l fun y hy => h y (List.mem_cons_of_mem x hy)
    have hx := h x List.mem_cons_self
    have := Int.natAbs_add_le x l.sum
    rw [List.sum_cons, List.length_cons, Nat.succ_mul]
    omega

/-- No column-block position of a shape has more than 32 slots. -/
theorem slots_le {shape : Nat} (h : shape < 4) (b : Nat) :
    ((List.range 64).filter fun i => (slotPlace shape i).1 == b).length ≤ 32 := by
  by_cases hb : b < 16
  · exact (show ∀ sh < 4, ∀ b < 16, ((List.range 64).filter fun i => (slotPlace sh i).1 == b).length ≤ 32 by decide)
      shape h b hb
  · have hp := (show ∀ sh < 4, ∀ i < 64, (slotPlace sh i).1 < 16 by decide) shape h
    rw [List.filter_eq_nil_iff.2 fun i hi e => by
      have := hp i (List.mem_range.1 hi)
      have := beq_iff_eq.1 e
      omega]
    decide

theorem slotsOf_le {r : TileReg} (h : r.shape < 4) (b : Nat) : (slotsOf r b).length ≤ 32 := by
  refine le_trans (List.Sublist.length_le ?_) (slots_le h b)
  rw [slotsOf]
  exact List.monotone_filter_right _ fun i hi => (Bool.and_eq_true_iff.1 hi).1

theorem lane_natAbs {wa ww q : Nat} (ha : wa ≤ 16) (h1 : 1 ≤ ww) (h16 : ww ≤ 16) (hq : q < 2 ^ wa) (p k col : Nat) :
    ((q : Int) * weightAt ww p k col).natAbs ≤ (2 ^ 16 - 1) * 2 ^ 15 := by
  have hq : q < 2 ^ 16 := lt_of_lt_of_le hq (Nat.pow_le_pow_right (by decide) ha)
  rw [Int.natAbs_mul, Int.natAbs_natCast]
  exact Nat.mul_le_mul (by omega) (weightAt_natAbs h1 h16 p k col)

/-- Settles O57: the treads of each lane add up to its code times its weight; a total adds at most 512 lanes. -/
theorem flightTotalsAreExact : Obligations.FlightTotalsAreExact := by
  unfold Obligations.FlightTotalsAreExact
  refine ⟨fun r f m n c ha _ _ _ hc acc hn => ?_, fun r f c hs ha h1 h16 hc => ?_⟩
  · rw [treadsRun_getD r _ f (by rw [acc, List.length_replicate]; exact hn), columnSum_sum, acc,
      List.getD_eq_getElem _ _ (by rwa [List.length_replicate]), List.getElem_replicate, zero_add]
    exact columnSum_congr (P := fun q => q < 2 ^ r.wa ∧ q &&& m = q) ⟨Nat.pow_pos (by decide), Nat.zero_and m⟩ hc
      fun q p k col hq => treads_sum ha hq.1 hq.2 p k col
  · have lane : ∀ (p : Nat × Nat) (pay k : Nat),
        (((flightCodes f p).getD k 0 : Nat) * weightAt r.ww pay k (c % 16) : Int).natAbs ≤ (2 ^ 16 - 1) * 2 ^ 15 := by
      intro p pay k
      refine lane_natAbs ha h1 h16 ?_ _ _ _
      by_cases hk : k < (flightCodes f p).length
      · rw [List.getD_eq_getElem _ _ hk]; exact hc p _ (List.getElem_mem hk)
      · rw [List.getD_eq_default _ _ (by omega)]; exact Nat.pow_pos (by decide)
    have slot : ∀ x ∈ ((slotsOf r (c / 16)).map fun i => ((List.range 16).map fun k =>
        (((flightCodes f (slotGroup r i)).getD k 0 : Nat) * weightAt r.ww (hPayload r.ww r.image i) k (c % 16) : Int)).sum),
        x.natAbs ≤ 16 * ((2 ^ 16 - 1) * 2 ^ 15) := by
      intro x hx
      obtain ⟨i, _, rfl⟩ := List.mem_map.1 hx
      have := natAbs_sum_le ((2 ^ 16 - 1) * 2 ^ 15) ((List.range 16).map fun k =>
        (((flightCodes f (slotGroup r i)).getD k 0 : Nat) * weightAt r.ww (hPayload r.ww r.image i) k (c % 16) : Int))
        fun y hy => by obtain ⟨k, _, rfl⟩ := List.mem_map.1 hy; exact lane _ _ _
      rwa [List.length_map, List.length_range] at this
    have total := natAbs_sum_le _ _ slot
    rw [List.length_map] at total
    have := slotsOf_le hs (c / 16)
    refine lt_of_le_of_lt total ?_
    omega

end Sys2Proof.Machine

/-! SUPPORT and settlement of O59: every NaN that the vector engine makes is the canonical one, and INVALID is raised with it.
Rounding makes no NaN, so that each operation has a few places where one can come from. -/

namespace Sys2Proof.Machine

set_option Elab.async false -- each thread's stack counts against the check's memory limit

theorem isNan32_iff (a : Nat) : isNan32 a = true ↔ fp32.decode a = .nan := beq_iff_eq

/-! ### What rounding makes -/

/-- The exponent bits of a magnitude with a sign. -/
theorem exponent_signed (f : FloatFmt) (neg : Bool) {v : Nat} (h : v < 2 ^ (f.exp + f.frac)) :
    bits (neg.toNat * 2 ^ (f.exp + f.frac) + v) f.frac f.exp = v / 2 ^ f.frac := by
  have hv : v / 2 ^ f.frac < 2 ^ f.exp := Nat.div_lt_of_lt_mul (by rwa [← pow_add, Nat.add_comm])
  rw [bits, Nat.shiftRight_eq_div_pow, pow_add, ← Nat.mul_assoc, Nat.add_comm, Nat.add_mul_div_right _ _ (by positivity),
    Nat.add_mul_mod_self_right, Nat.mod_eq_of_lt hv]

/-- A pattern below the infinities is no NaN. -/
theorem decode_below (f : FloatFmt) (neg : Bool) {v : Nat} (h : v < (2 ^ f.exp - 1) * 2 ^ f.frac) :
    f.decode (neg.toNat * 2 ^ (f.exp + f.frac) + v) ≠ .nan := by
  have hv : v < 2 ^ (f.exp + f.frac) := by
    rw [pow_add]; exact lt_of_lt_of_le h (Nat.mul_le_mul_right _ (Nat.sub_le _ _))
  have he : v / 2 ^ f.frac < 2 ^ f.exp - 1 := Nat.div_lt_of_lt_mul (by rwa [Nat.mul_comm])
  simp only [FloatFmt.decode, exponent_signed f neg hv, if_neg (Nat.ne_of_lt he)]
  split <;> simp

/-- The formats of R41 that the vector engine reads and writes. -/
def veFormats : List FloatFmt := [fp32, bf16, fp16]

theorem decode_infBits {f : FloatFmt} (hf : f ∈ veFormats) (neg : Bool) : f.decode (f.infBits neg) = .inf neg := by
  fin_cases hf <;> cases neg <;> decide

theorem decode_nanBits {f : FloatFmt} (hf : f ∈ veFormats) : f.decode f.nanBits = .nan := by fin_cases hf <;> decide

/-- Rounding makes no NaN. -/
theorem round_decode {f : FloatFmt} (hf : f ∈ veFormats) (neg : Bool) (m : Nat) (e : Int) :
    f.decode (f.round neg m e).1 ≠ .nan := by
  have pos : 0 < (2 ^ f.exp - 1) * 2 ^ f.frac := by fin_cases hf <;> decide
  rw [FloatFmt.round]
  split
  · exact decode_below f neg (v := 0) pos
  · extract_lets sign top emin q r v
    split
    · rw [decode_infBits hf]; simp
    · next h => exact decode_below f neg (Nat.lt_of_not_le h)

theorem fp32_mem : fp32 ∈ veFormats := by simp [veFormats]

theorem isNan32_round (neg : Bool) (m : Nat) (e : Int) : isNan32 (fp32.round neg m e).1 = false :=
  Bool.eq_false_iff.2 fun h => round_decode fp32_mem neg m e ((isNan32_iff _).1 h)

theorem isNan32_roundInt (v e : Int) : isNan32 (roundInt v e).1 = false := isNan32_round _ _ _

theorem isNan32_infBits (neg : Bool) : isNan32 (fp32.infBits neg) = false := by cases neg <;> decide

theorem isNan32_zero (neg : Bool) : isNan32 (neg.toNat * 2 ^ 31) = false := by cases neg <;> decide

/-! ### Arithmetic and comparisons -/

/-- A result that is the canonical NaN with INVALID, or no NaN. -/
def NanOrNumber (r : FRes) : Prop := isNan32 r.1 = true → r = (0x7FC00000, 8)

theorem nanOrNumber_nan : NanOrNumber (fp32.nanBits, 8) := fun _ => rfl

theorem NanOrNumber.of_number {r : FRes} (h : isNan32 r.1 = false) : NanOrNumber r := fun hn => by rw [h] at hn; cases hn

theorem fAdd_nan (a b : Nat) : NanOrNumber (fAdd a b) := by
  rw [fAdd]
  split
  · exact nanOrNumber_nan
  · exact nanOrNumber_nan
  · split
    · exact .of_number (isNan32_infBits _)
    · exact nanOrNumber_nan
  · exact .of_number (isNan32_infBits _)
  · exact .of_number (isNan32_infBits _)
  · dsimp only
    split
    · exact .of_number (isNan32_zero _)
    · exact .of_number (isNan32_roundInt _ _)

theorem fMul_nan (a b : Nat) : NanOrNumber (fMul a b) := by
  rw [fMul]
  split
  · exact nanOrNumber_nan
  · exact nanOrNumber_nan
  · exact .of_number (isNan32_infBits _)
  · split
    · exact nanOrNumber_nan
    · exact .of_number (isNan32_infBits _)
  · split
    · exact nanOrNumber_nan
    · exact .of_number (isNan32_infBits _)
  · exact .of_number (isNan32_round _ _ _)

/-- The larger or the smaller of two numbers is no NaN. -/
theorem isNan32_pick {a b : Nat} (h : ¬(isNan32 a || isNan32 b) = true) (c : Prop) [Decidable c] :
    isNan32 (if c then b else a) = false := by
  obtain ⟨ha, hb⟩ := Bool.or_eq_false_iff.1 (Bool.eq_false_iff.2 h)
  split <;> assumption

theorem fMax_nan (a b : Nat) : NanOrNumber (fMax a b) := by
  rw [fMax]
  split
  · exact nanOrNumber_nan
  · next h =>
    split
    · exact .of_number (isNan32_zero _)
    · exact .of_number (isNan32_pick h _)

theorem fMin_nan (a b : Nat) : NanOrNumber (fMin a b) := by
  rw [fMin]
  split
  · exact nanOrNumber_nan
  · next h =>
    split
    · exact .of_number (isNan32_zero _)
    · exact .of_number (isNan32_pick h _)

theorem fAdd_of_nan {a b : Nat} (h : isNan32 a = true ∨ isNan32 b = true) : fAdd a b = (0x7FC00000, 8) := by
  rw [isNan32_iff, isNan32_iff] at h
  rw [fAdd]
  rcases h with h | h
  · rw [h]; rfl
  · rw [h]; cases fp32.decode a <;> rfl

theorem fMul_of_nan {a b : Nat} (h : isNan32 a = true ∨ isNan32 b = true) : fMul a b = (0x7FC00000, 8) := by
  rw [isNan32_iff, isNan32_iff] at h
  rw [fMul]
  rcases h with h | h
  · rw [h]; rfl
  · rw [h]; cases fp32.decode a <;> rfl

theorem fMax_of_nan {a b : Nat} (h : isNan32 a = true ∨ isNan32 b = true) : fMax a b = (0x7FC00000, 8) := by
  rw [fMax, if_pos (by simpa using h)]; rfl

theorem fMin_of_nan {a b : Nat} (h : isNan32 a = true ∨ isNan32 b = true) : fMin a b = (0x7FC00000, 8) := by
  rw [fMin, if_pos (by simpa using h)]; rfl

/-- The conversion to a format is a NaN just for a NaN. -/
theorem narrow_nan_iff {f : FloatFmt} (hf : f ∈ veFormats) (a : Nat) :
    f.decode (narrow f a).1 = .nan ↔ fp32.decode a = .nan := by
  rw [narrow]
  cases h : fp32.decode a with
  | nan => simp [decode_nanBits hf]
  | inf neg => simp [decode_infBits hf]
  | fin neg m e => simp [round_decode hf]

theorem narrow_of_nan {a : Nat} (f : FloatFmt) (h : fp32.decode a = .nan) : narrow f a = (f.nanBits, 8) := by rw [narrow, h]

/-! ### Operations of several steps -/

theorem bit_or (x y i : Nat) : bit (x ||| y) i = (bit x i || bit y i) := by
  rw [bit_eq, bit_eq, bit_eq, Nat.testBit_or]

theorem canonical_of_number {r : FRes} (h : isNan32 r.1 = false) : CanonicalNaN r := fun hn => by rw [h] at hn; cases hn

theorem canonical_nan {fl : Nat} (h : bit fl 3 = true) : CanonicalNaN (fp32.nanBits, fl) := fun _ => ⟨rfl, h⟩

theorem NanOrNumber.canonical {r : FRes} (h : NanOrNumber r) : CanonicalNaN r := fun hn => by rw [h hn]; decide

/-- More flags do not make a NaN less canonical. -/
theorem canonical_or_flags {r : FRes} (h : CanonicalNaN r) (fl : Nat) : CanonicalNaN (r.1, fl ||| r.2) :=
  fun hn => ⟨(h hn).1, by rw [bit_or, (h hn).2, Bool.or_true]⟩

theorem fAdd_canonical (a b : Nat) : CanonicalNaN (fAdd a b) := (fAdd_nan a b).canonical

/-- A fold whose every step gives a canonical result gives one. -/
theorem foldl_canonical {α : Type} {step : FRes → α → FRes} (h : ∀ acc x, CanonicalNaN (step acc x)) :
    ∀ (xs : List α) (r : FRes), CanonicalNaN r → CanonicalNaN (xs.foldl step r)
  | [], _, hr => hr
  | x :: xs, r, _ => foldl_canonical h xs _ (h r x)

theorem mapFunc_canonical {func : Nat} (h : func ≠ 0) (a b scalar : Nat) : CanonicalNaN (mapFunc func a b scalar) := by
  unfold mapFunc
  split
  · exact absurd rfl h
  · exact fAdd_canonical a b
  · exact fAdd_canonical a (fNeg b)
  · exact (fMul_nan a b).canonical
  · exact (fMax_nan a b).canonical
  · exact (fMin_nan a b).canonical
  · exact canonical_or_flags (fAdd_canonical _ b) _
  · exact (fMax_nan a 0).canonical

theorem exp2_canonical (z : Nat) : CanonicalNaN (exp2 z) := by
  rw [exp2]
  split
  · exact nanOrNumber_nan.canonical
  split
  · exact canonical_of_number (by decide)
  split
  · exact canonical_of_number (by decide)
  split
  · next h => rw [h]; exact canonical_of_number (by decide)
  · extract_lets e f q
    have hq : CanonicalNaN q := by
      refine foldl_canonical (fun acc c => ?_) _ _ (canonical_of_number (by decide))
      exact canonical_or_flags (fAdd_canonical _ c) _
    split
    · next neg m g _ => exact canonical_of_number (isNan32_round neg m (g + e))
    · exact hq

theorem sumSequential_canonical (xs : List FRes) : CanonicalNaN (sumSequential xs) := by
  refine foldl_canonical ?_ xs _ (canonical_of_number (isNan32_zero false))
  exact fun acc p => canonical_or_flags (fAdd_canonical acc.1 p.1) (acc.2 ||| p.2)

theorem groupValue_canonical (ps : List Num) : CanonicalNaN (groupValue ps) := by
  rw [groupValue]
  split
  · exact nanOrNumber_nan.canonical
  · extract_lets pos neg
    split
    · exact nanOrNumber_nan.canonical
    split
    · exact canonical_of_number (isNan32_infBits _)
    split
    · exact canonical_of_number (isNan32_zero _)
    · extract_lets g
      split
      · exact canonical_of_number (isNan32_zero false)
      · exact canonical_of_number (isNan32_roundInt _ _)

theorem sumGrouped_canonical (ps : List Num) : CanonicalNaN (sumGrouped ps) := by
  rw [sumGrouped]
  split
  · exact canonical_of_number (by decide)
  · next g gs h =>
    have hg : g ∈ (chunks 32 ps.length ps).map groupValue := by rw [h]; exact List.mem_cons_self
    obtain ⟨c, _, rfl⟩ := List.mem_map.1 hg
    refine foldl_canonical ?_ gs _ (groupValue_canonical c)
    exact fun acc v => canonical_or_flags (fAdd_canonical acc.1 v.1) (acc.2 ||| v.2)

theorem dotRow_canonical (grouped : Bool) (xs ys : List Nat) : CanonicalNaN (dotRow grouped xs ys) := by
  rw [dotRow]
  split
  · exact sumGrouped_canonical _
  · exact sumSequential_canonical _

theorem sumSources_canonical (grouped : Bool) (xs : List Nat) : CanonicalNaN (sumSources grouped xs) := by
  rw [sumSources]
  split
  · exact sumGrouped_canonical _
  · exact sumSequential_canonical _

/-- The flags that a list of results raises hold those of each. -/
theorem bit_foldl_or {i : Nat} : ∀ (l : List FRes) (acc : Nat), (bit acc i = true ∨ ∃ r ∈ l, bit r.2 i = true) →
    bit (l.foldl (fun a y => a ||| y.2) acc) i = true
  | [], acc, h => by rcases h with h | ⟨r, hr, _⟩ <;> [exact h; cases hr]
  | x :: l, acc, h => by
    refine bit_foldl_or l _ ?_
    rw [bit_or]
    rcases h with h | ⟨r, hr, hb⟩
    · exact .inl (by rw [h, Bool.true_or])
    · rcases List.mem_cons.1 hr with rfl | hr
      · exact .inl (by rw [hb, Bool.or_true])
      · exact .inr ⟨r, hr, hb⟩

/-- Canonical results stay canonical under the flags of all. -/
theorem canonical_of_all {l : List FRes} (h : ∀ r ∈ l, CanonicalNaN r) (acc : Nat) :
    ∀ y ∈ l.map Prod.fst, CanonicalNaN (y, l.foldl (fun a y => a ||| y.2) acc) := by
  intro y hy hn
  obtain ⟨r, hr, rfl⟩ := List.mem_map.1 hy
  exact ⟨(h r hr hn).1, bit_foldl_or l acc (.inr ⟨r, hr, (h r hr hn).2⟩)⟩

theorem softmaxRow_canonical (table : List Nat) (scalar : Nat) (logOut : Bool) (xs : List Nat) :
    ∀ y ∈ (softmaxRow table scalar logOut xs).1, CanonicalNaN (y, (softmaxRow table scalar logOut xs).2.1) := by
  rw [softmaxRow]
  have number : ∀ c : Bool, isNan32 (if c = true then 0xFF800000 else 0) = false := by decide
  split
  · intro y hy
    obtain ⟨v, _, rfl⟩ := List.mem_map.1 hy
    exact canonical_nan (by rw [bit_or, show bit 8 3 = true from rfl, Bool.or_true])
  split
  · intro y hy
    obtain ⟨v, _, rfl⟩ := List.mem_map.1 hy
    exact canonical_of_number (number logOut)
  · extract_lets acc ys
    refine canonical_of_all (fun r hr => ?_) acc.2
    obtain ⟨v, _, rfl⟩ := List.mem_map.1 hr
    split
    · exact canonical_of_number (number logOut)
    · extract_lets z y
      split
      · exact fAdd_canonical v (fNeg acc.1)
      · exact canonical_or_flags (exp2_canonical z.1) z.2

/-- What pads a short list of entries is an infinity. -/
theorem isNan32_pad (smallest : Bool) : isNan32 (if smallest then 0x7F800000 else 0xFF800000) = false := by
  cases smallest <;> decide

theorem topkRow_canonical (smallest : Bool) (k : Nat) (xs : List Nat) :
    ∀ e ∈ (topkRow smallest k xs).1, CanonicalNaN (e.1, (topkRow smallest k xs).2) := by
  intro e he
  rcases List.mem_append.1 he with he | he
  · obtain ⟨v, hv, rfl⟩ := List.mem_map.1 he
    cases hn : isNan32 v.1 with
    | true =>
      have flags : (topkRow smallest k xs).2 = 8 := if_pos (List.any_eq_true.2 ⟨v, hv, hn⟩)
      exact flags ▸ canonical_nan (fl := 8) rfl
    | false => exact canonical_of_number hn
  · obtain ⟨_, rfl⟩ := List.mem_replicate.1 he
    exact canonical_of_number (isNan32_pad smallest)

/-- Settles O59, operation by operation. -/
theorem naNsAreCanonical : Obligations.NaNsAreCanonical := by
  unfold Obligations.NaNsAreCanonical
  refine ⟨fun a b r hr => ?_, fun a b h r hr => ?_, fun a f hf => ⟨narrow_nan_iff hf a, narrow_of_nan f⟩, ?_, ?_,
    fun func a b scalar h => mapFunc_canonical h a b scalar, exp2_canonical, dotRow_canonical, sumSources_canonical,
    softmaxRow_canonical, topkRow_canonical⟩
  · fin_cases hr
    · exact fAdd_nan a b
    · exact fAdd_nan a (fNeg b)
    · exact fMul_nan a b
    · exact fMax_nan a b
    · exact fMin_nan a b
  · fin_cases hr
    · exact fAdd_of_nan h
    · exact fMul_of_nan h
    · exact fMax_of_nan h
    · exact fMin_of_nan h
  · intro a b ha hb
    rw [fAdd, ha, hb]; rfl
  · intro a b s t e ha hb
    rw [fMul, ha, hb]; rfl

end Sys2Proof.Machine

/-! SUPPORT and settlement of O3 and O5: fields of one page apart, and the commands of power supply and stairwells that touch
registers alone. -/

namespace Sys2Proof.Machine

set_option Elab.async false -- each thread's stack counts against the check's memory limit

/-! ### Fields of one page -/

section
variable {f g : Fld} (hf : f.inPage = true) (hg : g.inPage = true) (h : g.off ≠ f.off ∨ g.lsb ≠ f.lsb)
include hf hg h

theorem rd_wr_field (s : State) (p : Page) (v : Nat) : rd (wr s p f v) p g = rd s p g := by
  refine rd_wr_ne _ _ _ _ _ _ ?_
  rcases h with h | h
  · exact key_ne_of_off hf hg (.inr h)
  · exact key_ne_of_lsb hf hg h

theorem rd_count_field (s : State) (p : Page) (n : Nat) : rd (count s p f n) p g = rd s p g := rd_wr_field hf hg h s p _

theorem rd_bump_field (s : State) (p : Page) : rd (bump s p f) p g = rd s p g := rd_wr_field hf hg h s p _

end

/-! ### Pages apart from the host interface -/

theorem swPage_ne_hif (i : Nat) : swPage i ≠ .hif := by simp [swPage]
theorem swPage_home (i : Nat) : (swPage i).home = swPage i := rfl

/-! ### Power supply -/

theorem mem_queueTimers {s : State} (hh : rd s .mcPower Reg.mcp.HOLDOVER = 0) (hu : mcUp s = true) {ts : List Timer} {τ : Timer}
    (h : τ ∈ ts) : τ ∈ (queueTimers s ts).mc.calibrating := by
  have hb : (on s .mcPower Reg.mcp.HOLDOVER || !mcUp s) = false := by simp [on, hh, hu]
  rw [queueTimers, if_neg (by simp [hb])]
  by_cases hm : τ ∈ s.mc.calibrating
  · exact List.mem_append_left _ hm
  · exact List.mem_append_right _ (List.mem_filter.2 ⟨h, by simpa using hm⟩)

theorem queueTimers_regs (s : State) (ts : List Timer) : (queueTimers s ts).regs = s.regs := by
  unfold queueTimers; split <;> rfl

theorem mcUp_congr {s t : State} (hr : t.rst = s.rst) (hp : rd t .reset Reg.rst.PHASE = rd s .reset Reg.rst.PHASE)
    (hv : rd t .reset Reg.rst.RECOVERY = rd s .reset Reg.rst.RECOVERY) : mcUp t = mcUp s := by
  unfold mcUp phaseAtLeast on
  rw [hr, hp, hv]

theorem mcUp_wr {p : Page} (hp : Page.reset ≠ p) (s : State) {f : Fld} (hf : f.inPage = true) (v : Nat) :
    mcUp (wr s p f v) = mcUp s :=
  mcUp_congr rfl (rd_wr_other _ _ _ _ _ _ hp hf (by decide)) (rd_wr_other _ _ _ _ _ _ hp hf (by decide))

theorem capUnmet_capLimit (s : State) : (capUnmet s).mc.capLimit = max 128 (s.mc.capLimit - 128) := rfl

theorem setCapLimit_target (s : State) (n : Nat) :
    rd (setCapLimit s n) .mcPower Reg.mcp.TARGET_MV = rd s .mcPower Reg.mcp.TARGET_MV :=
  rd_wr_field (by decide) (by decide) (by decide) _ _ _

theorem capUnmet_target (s : State) : rd (capUnmet s) .mcPower Reg.mcp.TARGET_MV = rd s .mcPower Reg.mcp.TARGET_MV := by
  rw [capUnmet, setCapLimit_target, rd_setSticky_own (by decide) (by decide) _ _ (by decide)]

theorem sticky_setCapLimit (s : State) (n b : Nat) : sticky (setCapLimit s n) .mcPower b = sticky s .mcPower b :=
  sticky_other (rd_wr_field (by decide) (by decide) (by decide) _ _ _) b

theorem capUnmet_sticky (s : State) : sticky (capUnmet s) .mcPower Sticky.mcp.CAP_UNMET = true := by
  rw [capUnmet, sticky_setCapLimit, sticky_setSticky _ _ _ (by decide)]

theorem setCapLimit_silent (s : State) (n : Nat) : (setCapLimit s n).mc.silent = s.mc.silent := rfl

theorem capUnmet_silent (s : State) : (capUnmet s).mc.silent = s.mc.silent := by
  rw [capUnmet, setCapLimit_silent, setSticky_mc]

/-- A list with one entry in it, once. -/
theorem mem_joined (l : List Nat) (r : Nat) : r ∈ (if l.contains r then l else r :: l) := by
  by_cases h : l.contains r = true
  · rw [if_pos h]; exact List.contains_iff_mem.1 h
  · rw [if_neg h]; exact List.mem_cons_self

/-- A silent regulator that answers leaves the silent ones; with the last of them the ticket limit begins to rise (R36). -/
theorem regulatorAnswers {rail : Fin 6} {s : State} (h : rail.val ∈ s.mc.silent) (hf : NatMap.get? s.mc.fails rail.val = none) :
    ∃ t, exec (.regulatorAnswersAgain rail) s = .next t ∧ t.mc.silent = s.mc.silent.filter (· != rail.val)
      ∧ t.mc.capLimit = (if s.mc.silent.filter (· != rail.val) = [] then min 2048 (s.mc.capLimit + 128) else s.mc.capLimit)
      ∧ rd t .mcPower Reg.mcp.TARGET_MV = rd s .mcPower Reg.mcp.TARGET_MV := by
  refine ⟨_, if_pos (by simpa using ⟨h, hf⟩), ?_⟩
  dsimp only
  by_cases e : s.mc.silent.filter (· != rail.val) = []
  · rw [if_pos (List.isEmpty_iff.2 e), if_pos e]
    exact ⟨rfl, rfl, setCapLimit_target _ _⟩
  · rw [if_neg (by simpa using e), if_neg e]
    exact ⟨rfl, rfl, rfl⟩

/-- Settles O3, command by command. -/
theorem sagReferenceAndRegulatorsComplete : Obligations.SagReferenceAndRegulatorsComplete := by
  unfold Obligations.SagReferenceAndRegulatorsComplete
  refine ⟨fun mv s h => ?_, fun s h => ?_, fun mv s h => ?_, fun s h => ?_, fun n s h1 h2 => ?_, fun n s h => ?_,
    fun s h => ?_, fun rail s h => ?_, fun rail s h => ?_, fun rail s h hf => ?_⟩
  · exact ⟨_, if_pos h, rfl, rfl, rfl, rfl⟩
  · refine ⟨_, if_pos h, by rw [setSticky_mc]; rfl, by rw [setSticky_mc]; rfl, sticky_setSticky _ _ _ (by decide), ?_⟩
    rw [rd_setSticky_own (by decide) (by decide) _ _ (by decide), rd_wr]; rfl
  · exact ⟨_, if_pos h, rfl, rfl, rfl, rfl⟩
  · refine ⟨_, if_pos h, rfl, rd_wr _ _ _ _, ?_⟩
    exact sticky_other (rd_wr_field (by decide) (by decide) (by decide) _ _ _) _
  · exact ⟨_, if_pos ⟨h1, h2⟩, rd_wr _ _ _ _, rfl⟩
  · refine ⟨_, if_neg (by omega), ?_, ?_, by rw [setSticky_mc], by rw [setSticky_mc]; rfl,
      sticky_setSticky _ _ _ (by decide)⟩
    · rw [rd_setSticky_own (by decide) (by decide) _ _ (by decide)]
      refine (rd_congr (s := wr (wr s .mcPower Reg.mcp.REFOSC_OK 0) .mcPower Reg.mcp.HOLDOVER 1) rfl _ _).trans ?_
      rw [rd_wr_field (by decide) (by decide) (by decide), rd_wr]; rfl
    · rw [rd_setSticky_own (by decide) (by decide) _ _ (by decide)]
      refine (rd_congr (s := wr (wr s .mcPower Reg.mcp.REFOSC_OK 0) .mcPower Reg.mcp.HOLDOVER 1) rfl _ _).trans ?_
      rw [rd_wr]; rfl
  · refine ⟨_, if_pos (by simpa [on] using h), ?_, ?_, fun hu τ hτ => ?_⟩
    · rw [rd_congr (queueTimers_regs _ _), rd_wr_field (by decide) (by decide) (by decide), rd_wr]; rfl
    · rw [rd_congr (queueTimers_regs _ _), rd_wr]; rfl
    · refine mem_queueTimers (rd_wr _ _ _ _) ?_ hτ
      rw [mcUp_wr (by decide) _ (by decide), mcUp_wr (by decide) _ (by decide), hu]
  · refine ⟨_, if_pos h, ?_, ?_, sticky_setSticky _ _ _ (by decide), ?_, ?_⟩
    · rw [setSticky_mc, capUnmet_silent]
      exact mem_joined _ _
    · rw [sticky_other (rd_setSticky_page (by decide) (by decide) _ _ _ (by decide)), capUnmet_sticky]
    · rw [rd_setSticky_page (by decide) (by decide) _ _ _ (by decide), capUnmet_target]; rfl
    · rw [setSticky_mc, capUnmet_capLimit]
  · exact ⟨_, if_neg (by omega), rfl⟩
  · obtain ⟨t, ht, hs, hl, hr⟩ := regulatorAnswers (s := s) h hf
    refine ⟨t, ht, ?_, hr, ?_⟩
    · rw [hs]; simp
    · rw [hl, hs]

/-! ### Page commands of a stairwell -/

/-- While the device is ready and not RETIRED the mainband may write any stairwell page. -/
theorem swCommand_ready {s : State} (hr : ready s = true) (h4 : s.seb.state ≠ 4) (sw cmd : Nat) (body : State) :
    swCommand s sw cmd body = body := by
  have hs : statePermits s .mainband (swPage sw) = true := by
    unfold statePermits
    split
    · next h => exact absurd h h4
    · next h => exact absurd h (by simp)
    · next h => exact absurd h (by simp)
    · rfl
  have hheld : s.rst.held = false := by
    have := (Bool.and_eq_true_iff.1 hr).1
    simpa using this
  exact ifPermitted_of_reaches ⟨hheld, by rw [permits, hs, phasePermits, hr]; rfl⟩ _ _

/-- A page command that is illegal in its state. -/
theorem stateErr_refuses (s : State) (sw : Nat) :
    rd (stateErr s (swPage sw)) (swPage sw) Reg.hdr.STATE_ERR = 1 ∧ (stateErr s (swPage sw)).stairs = s.stairs
      ∧ (stateErr s (swPage sw)).dram = s.dram ∧ (stateErr s (swPage sw)).hif = s.hif :=
  ⟨rd_stateErr rfl s, rfl, rfl, rfl⟩

/-- Settles O5. -/
theorem illegalPageCommandsSetStateErr : Obligations.IllegalPageCommandsSetStateErr := by
  unfold Obligations.IllegalPageCommandsSetStateErr
  refine ⟨fun sw s hr h4 h => ?_, fun sw s hr h4 h => ?_, fun sw s hr h4 h => ?_⟩
  · exact ⟨_, congrArg Host.Outcome.next ((swCommand_ready hr h4 _ _ _).trans (if_pos h)), stateErr_refuses s sw⟩
  · exact ⟨_, congrArg Host.Outcome.next ((swCommand_ready hr h4 _ _ _).trans (if_pos h)), stateErr_refuses s sw⟩
  · have hk : ¬ killLegal s sw = true := by
      unfold killLegal; rcases h with h | h <;> simp [h]
    exact ⟨⟨_, congrArg Host.Outcome.next ((swCommand_ready hr h4 _ _ _).trans (if_neg hk)), stateErr_refuses s sw⟩,
      ⟨_, congrArg Host.Outcome.next ((swCommand_ready hr h4 _ _ _).trans (if_neg hk)), stateErr_refuses s sw⟩⟩

end Sys2Proof.Machine

/-! SUPPORT and settlement of O33: what a reset leaves, and the triggers and releases (R368, R369, R376, R378, R394, R401). -/

namespace Sys2Proof.Machine

set_option Elab.async false -- each thread's stack counts against the check's memory limit

/-! ### What a reset leaves -/

/-- The last write of a reset, that of RESTARTED, leaves the fields outside STICKY of the reset page. -/
theorem rd_restarted {q : Page} {g : Fld} (hg : g.inPage = true) (h : q ≠ .reset ∨ g.off ≠ 0x018) (c : Prop) [Decidable c]
    (t : State) (v : Nat) : rd (if c then wr t .reset Reg.hdr.STICKY v else t) q g = rd t q g := by
  split
  · exact rd_wr_ne _ _ _ _ _ _ (key_ne_of_off (by decide) hg h)
  · rfl

section
variable (s : State) (codes halls : List Nat)

theorem rd_enterReset_other {p : Page} {f : Fld} (hp : p ≠ .reset) (hf : f.inPage = true) :
    rd (enterReset s codes halls) p f = f.rst := by
  unfold enterReset
  extract_lets jt src t0 t1 t2 t3 t4
  rw [rd_restarted hf (.inl hp), rd_wr_other _ _ _ _ _ _ hp (by decide) hf, rd_wr_other _ _ _ _ _ _ hp (by decide) hf,
    rd_wr_other _ _ _ _ _ _ hp (by decide) hf]
  rfl

theorem rd_enterReset_cause : rd (enterReset s codes halls) .reset Reg.rst.RESET_CAUSE = firstCause codes % 2 ^ 3 := by
  unfold enterReset
  extract_lets jt src t0 t1 t2 t3 t4
  rw [rd_restarted (by decide) (.inr (by decide)), rd_wr_field (by decide) (by decide) (by decide),
    rd_wr_field (by decide) (by decide) (by decide), rd_wr]
  rfl

theorem rd_enterReset_mask : rd (enterReset s codes halls) .reset Reg.rst.CAUSE_MASK = maskAfter s codes % 2 ^ 7 := by
  unfold enterReset
  extract_lets jt src t0 t1 t2 t3 t4
  rw [rd_restarted (by decide) (.inr (by decide)), rd_wr_field (by decide) (by decide) (by decide), rd_wr]
  rfl

theorem rd_enterReset_count : rd (enterReset s codes halls) .reset Reg.rst.RESET_COUNT = countAfter s codes % 2 ^ 32 := by
  unfold enterReset
  extract_lets jt src t0 t1 t2 t3 t4
  rw [rd_restarted (by decide) (.inr (by decide)), rd_wr]
  rfl

theorem rd_enterReset_phase : rd (enterReset s codes halls) .reset Reg.rst.PHASE = 1 := by
  unfold enterReset
  extract_lets jt src t0 t1 t2 t3 t4
  rw [rd_restarted (by decide) (.inr (by decide)), rd_wr_field (by decide) (by decide) (by decide),
    rd_wr_field (by decide) (by decide) (by decide), rd_wr_field (by decide) (by decide) (by decide)]
  rfl

theorem sticky_enterReset_restarted (h : restartedAfter s = false) :
    sticky (enterReset s codes halls) .reset Sticky.rst.RESTARTED = false := by
  unfold enterReset
  extract_lets jt src t0 t1 t2 t3 t4
  rw [h, if_neg (by decide)]
  have hk : rd t4 .reset Reg.hdr.STICKY = 0 := by
    rw [rd_wr_field (by decide) (by decide) (by decide), rd_wr_field (by decide) (by decide) (by decide),
      rd_wr_field (by decide) (by decide) (by decide)]
    rfl
  rw [sticky, hk]
  decide

theorem enterReset_rst : (enterReset s codes halls).rst = pendingAfter s.rst codes halls := by
  unfold enterReset
  split <;> rfl

/-- The parts of the device that no reset leaves as they were. -/
theorem enterReset_parts : (enterReset s codes halls).dram = s.dram ∧ (enterReset s codes halls).codes = s.codes
    ∧ (enterReset s codes halls).galleries = [] ∧ (enterReset s codes halls).caches = []
    ∧ (enterReset s codes halls).drams = [] ∧ (enterReset s codes halls).links = []
    ∧ (enterReset s codes halls).windows = [] ∧ (enterReset s codes halls).stairs = []
    ∧ (enterReset s codes halls).dressers = [] ∧ (enterReset s codes halls).fc = []
    ∧ (enterReset s codes halls).disp = .reset ∧ (enterReset s codes halls).hif = .reset
    ∧ (enterReset s codes halls).latches = [] ∧ (enterReset s codes halls).staging = []
    ∧ (enterReset s codes halls).fifoHolds = [] ∧ (enterReset s codes halls).mc = s.mc.kept := by
  unfold enterReset
  split <;> exact ⟨rfl, rfl, rfl, rfl, rfl, rfl, rfl, rfl, rfl, rfl, rfl, rfl, rfl, rfl, rfl, rfl⟩

end

/-! ### Causes -/

theorem mem_joined_iff {l new : List Nat} {k : Nat} : k ∈ joined l new ↔ k ∈ l ∨ k ∈ new := by
  unfold joined
  induction new generalizing l with
  | nil => simp
  | cons c new ih =>
    rw [List.foldl_cons, ih]
    by_cases h : l.contains c = true
    · have := List.contains_iff_mem.1 h
      rw [if_pos h]
      constructor
      · rintro (h | h)
        · exact .inl h
        · exact .inr (List.mem_cons_of_mem c h)
      · rintro (h | h)
        · exact .inl h
        · rcases List.mem_cons.1 h with rfl | h
          · exact .inl this
          · exact .inr h
    · rw [if_neg h]
      simp only [List.mem_cons]
      tauto

/-- The bits of CAUSE_MASK after triggers hold those of each. -/
theorem bit_foldl_causes {k : Nat} : ∀ (codes : List Nat) (m : Nat), (m.testBit k = true ∨ k ∈ codes) →
    (codes.foldl (fun m c => m ||| 2 ^ c) m).testBit k = true
  | [], m, h => by simpa using h
  | c :: codes, m, h => by
    refine bit_foldl_causes codes _ ?_
    rw [Nat.testBit_or]
    rcases h with h | h
    · exact .inl (by rw [h, Bool.true_or])
    · rcases List.mem_cons.1 h with rfl | h
      · exact .inl (by rw [Nat.testBit_two_pow_self, Bool.or_true])
      · exact .inr h

theorem firstCause_lt (codes : List Nat) : firstCause codes < 7 := by
  unfold firstCause
  cases h : ([1, 2, 4, 5, 6] : List Nat).find? codes.contains with
  | none => decide
  | some c =>
    have := List.mem_of_find?_eq_some h
    simp only [List.mem_cons, List.not_mem_nil, or_false] at this
    simp only [Option.getD_some]
    omega

theorem causeCode_le (c : ResetCause) : causeCode c ≤ 5 := by cases c <;> simp [causeCode]

/-- The codes of triggers. -/
theorem codes_lt {codes : List Nat} (h : ∀ k ∈ codes, k < 7) (also : List ResetCause) :
    ∀ k ∈ codes ++ also.map causeCode, k < 7 := by
  intro k hk
  rcases List.mem_append.1 hk with hk | hk
  · exact h k hk
  · obtain ⟨c, _, rfl⟩ := List.mem_map.1 hk
    have := causeCode_le c
    omega

/-- What a reset leaves (R376). -/
theorem wasReset_enterReset (s : State) {codes : List Nat} (halls : List Nat) (h : ∀ k ∈ codes, k < 7) :
    WasReset s (enterReset s codes halls) codes (firstCause codes) := by
  obtain ⟨hdram, hcodes, hgal, hcache, hdrams, hlinks, hwin, hstairs, hdress, hfc, hdisp, hhif, hlat, hstag, hfifo, hmc⟩ :=
    enterReset_parts s codes halls
  have hheld (k : Nat) : k ∈ (enterReset s codes halls).rst.holding ↔ k ∈ s.rst.holding ∨ (k ∈ codes ∧ k ≠ 3 ∧ k ≠ 6) := by
    rw [enterReset_rst]
    simp [pendingAfter, mem_joined_iff]
  refine ⟨?_, fun k hk => ?_, rd_enterReset_phase s codes halls, fun k hk => (hheld k).2 (.inl hk), fun k hk => (hheld k).1 hk,
    fun k hk h3 h6 => (hheld k).2 (.inr ⟨hk, h3, h6⟩), by rw [enterReset_rst]; rfl, hdram, hcodes, hgal, hcache, hdrams, hlinks,
    hwin, hstairs, hdress, hfc, hdisp, hhif, hlat, hstag, hfifo, by rw [hmc]; rfl, by rw [enterReset_seb]; rfl,
    by rw [enterReset_seb]; rfl, fun p f a hf hp => rd_enterReset_other s codes halls hp (rows_inPage hf)⟩
  · rw [rd_enterReset_cause, Nat.mod_eq_of_lt (by have := firstCause_lt codes; omega)]
  · rw [rd_enterReset_mask, bit_eq, Nat.testBit_mod_two_pow, maskAfter, bit_foldl_causes _ _ (.inr hk),
      decide_eq_true (h k hk)]
    rfl

/-- Triggers of one handshake reset the device. -/
theorem trigger_eq {s : State} {codes halls : List Nat} {also : List ResetCause} (h : codes ≠ [] ∨ also ≠ []) :
    trigger s codes halls also = enterReset s (codes ++ also.map causeCode) (halls ++ causeHalls also) := by
  have hne : (codes ++ also.map causeCode).isEmpty = false := by
    rcases h with h | h <;> simp [h]
  rw [trigger, hne]
  rfl

theorem wasReset_trigger {s : State} {codes halls : List Nat} {also : List ResetCause} (hc : ∀ k ∈ codes, k < 7)
    (h : codes ≠ [] ∨ also ≠ []) :
    WasReset s (trigger s codes halls also) (codes ++ also.map causeCode) (firstCause (codes ++ also.map causeCode)) := by
  rw [trigger_eq h]
  exact wasReset_enterReset s _ (codes_lt hc also)

/-- A trigger with a release condition holds the device. -/
theorem held_trigger {s : State} {codes halls : List Nat} {also : List ResetCause} {k : Nat} (hk : k ∈ codes) (h3 : k ≠ 3)
    (h6 : k ≠ 6) : (trigger s codes halls also).rst.held = true := by
  rw [trigger_eq (.inl (List.ne_nil_of_mem hk)), enterReset_rst]
  have : k ∈ (pendingAfter s.rst (codes ++ also.map causeCode) (halls ++ causeHalls also)).holding :=
    mem_joined_iff.2 (.inr (List.mem_filter.2 ⟨List.mem_append_left _ hk, by simp [h3, h6]⟩))
  rw [Reset.held, List.isEmpty_eq_false_iff.2 (List.ne_nil_of_mem this)]
  rfl

/-- POWER_ON begins RESET_COUNT anew. -/
theorem count_trigger_powerOn {s : State} {codes halls : List Nat} {also : List ResetCause}
    (h : 1 ∈ codes ++ also.map causeCode) : rd (trigger s codes halls also) .reset Reg.rst.RESET_COUNT = 1 := by
  have hne : codes ≠ [] ∨ also ≠ [] := by
    by_contra hc
    obtain ⟨rfl, rfl⟩ := (not_or.1 hc).imp not_not.1 not_not.1
    cases h
  rw [trigger_eq hne, rd_enterReset_count, countAfter, if_pos (List.contains_iff_mem.2 h)]
  rfl

/-- The causes of a handshake stand in the order of R369. -/
theorem firstCause_order (cs : List ResetCause) {i j : Nat} (hij : i < j) (hj : j < 5)
    (h : ([1, 2, 4, 5, 3] : List Nat).getD i 0 ∈ cs.map causeCode) :
    firstCause (cs.map causeCode) ≠ ([1, 2, 4, 5, 3] : List Nat).getD j 0 := by
  have hcon := List.contains_iff_mem.2 h
  generalize cs.map causeCode = codes at *
  unfold firstCause
  -- a cause that is there stops the search at its place or before
  interval_cases j <;> interval_cases i <;> simp only [List.getD_cons_zero, List.getD_cons_succ] at hcon ⊢ <;>
    (simp only [List.find?, hcon]; repeat' (first | split | decide))

/-- RESET_CMD written where the lifecycle state permits it. -/
theorem exec_hostReset {s : State} {v : BitVec 32} {also : List ResetCause} (hr : Reaches s .mainband .reset 0x04C) :
    exec (.hostReset ⟨v, also⟩) s = .next (writeResetCmd s v.toNat also) := by
  change execHostReset _ _ = _
  rw [execHostReset, hr.1, hr.2]
  rfl

section
variable {r : Reset} {c : ResetCause} {straps : Straps} (hc : ∀ h, c ≠ .thermal h)
include hc

theorem release_holding {k : Nat} : k ∈ (release r c straps).holding ↔ k ∈ r.holding ∧ k ≠ causeCode c := by
  cases c with
  | thermal h => exact absurd rfl (hc h)
  | powerOn =>
    by_cases h : r.holding.contains 1 = true
    · simp [release, List.contains_iff_mem.1 h, causeCode]
    · have h1 : 1 ∉ r.holding := fun hm => h (List.contains_iff_mem.2 hm)
      simp only [release, if_neg h, causeCode]
      exact ⟨fun hk => ⟨hk, fun e => h1 (e ▸ hk)⟩, And.left⟩
  | pin | host | sag => simp [release, causeCode]

theorem release_thermHalls : (release r c straps).thermHalls = r.thermHalls := by
  cases c with
  | thermal h => exact absurd rfl (hc h)
  | powerOn => unfold release; dsimp only; split <;> rfl
  | pin | host | sag => rfl

theorem release_straps :
    (release r c straps).straps = if c = .powerOn ∧ 1 ∈ r.holding then straps else r.straps := by
  cases c with
  | thermal h => exact absurd rfl (hc h)
  | powerOn =>
    unfold release
    dsimp only
    by_cases h : 1 ∈ r.holding
    · rw [if_pos (List.contains_iff_mem.2 h), if_pos ⟨rfl, h⟩]
    · rw [if_neg (fun e => h (List.contains_iff_mem.1 e)), if_neg (fun e => h e.2)]
  | pin | host | sag => rfl

end

/-- Settles O33, command by command. -/
theorem resetsComplete : Obligations.ResetsComplete := by
  unfold Obligations.ResetsComplete
  refine ⟨fun s => ?_, fun ns accepted also s h => ?_, fun ns accepted also s h => ?_, fun v also s hr hv => ?_,
    fun v s hr h1 h2 => ?_, fun s => ?_, fun h also s => ?_, fun cs i j hij hj h => firstCause_order cs hij hj h,
    fun c straps s hc => ?_, fun h straps s => ?_, fun s h1 h2 => ?_⟩
  · exact ⟨_, rfl, wasReset_trigger (codes := [1]) (also := []) (by decide) (.inl (by decide)),
      held_trigger List.mem_cons_self (by decide) (by decide), count_trigger_powerOn List.mem_cons_self⟩
  · have hp : pinTakes ns accepted = true := by
      rcases h with h | ⟨h, ha⟩ <;> simp [pinTakes, h]
      exact .inr ha
    refine ⟨trigger s [2] [] also, ?_, wasReset_trigger (codes := [2]) (by decide) (.inl (by decide)),
      held_trigger List.mem_cons_self (by decide) (by decide)⟩
    change execPinReset _ _ _ = _
    rw [execPinReset, hp]
    rfl
  · have hp : pinTakes ns accepted = false := by
      simp [pinTakes, show ¬1000 ≤ ns by omega, show ¬500 ≤ ns by omega]
    refine ⟨trigger s [] [] also, ?_, ?_, fun ha => wasReset_trigger (codes := []) (by simp) (.inr ha), fun ha => ?_⟩
    · change execPinReset _ _ _ = _
      rw [execPinReset, hp]
      rfl
    · rintro rfl; rfl
    · exact count_trigger_powerOn (List.mem_map.2 ⟨_, ha, rfl⟩)
  · have hb : bits v.toNat 0 16 = 0x5A17 := by rw [bits, Nat.shiftRight_zero]; exact hv
    refine ⟨trigger s [3] [] also, ?_, wasReset_trigger (codes := [3]) (by decide) (.inl (by decide)), ?_⟩
    · rw [exec_hostReset hr, writeResetCmd, if_pos hb]
    · rintro rfl
      rw [trigger_eq (.inl (by decide)), enterReset_rst]
      exact hr.1
  · have hb : bits v.toNat 0 16 = v.toNat % 2 ^ 16 := by rw [bits, Nat.shiftRight_zero]
    refine ⟨stateErr s .reset, ?_, rd_stateErr rfl s, rfl, rfl⟩
    rw [exec_hostReset hr, writeResetCmd, if_neg (by rw [hb]; exact h1), if_neg (by rw [hb]; exact h2), trigger_nil]
  · exact ⟨_, rfl, wasReset_trigger (codes := [4]) (also := []) (by decide) (.inl (by decide)),
      held_trigger List.mem_cons_self (by decide) (by decide)⟩
  · have hmem : h.val ∈ (trigger s [5] [h.val] also).rst.thermHalls := by
      rw [trigger_eq (.inl (by decide)), enterReset_rst]
      exact mem_joined_iff.2 (.inr List.mem_cons_self)
    refine ⟨_, rfl, wasReset_trigger (codes := [5]) (by decide) (.inl (by decide)),
      held_trigger List.mem_cons_self (by decide) (by decide), hmem, ?_⟩
    rw [thermTripLow, List.isEmpty_eq_false_iff.2 (List.ne_nil_of_mem hmem)]
    rfl
  · refine ⟨_, rfl, fun k => ?_, rfl, ?_, ?_⟩
    · rw [release_holding hc]
    · exact release_thermHalls hc
    · exact release_straps hc
  · refine ⟨_, rfl, fun k => by simp [release], rfl, fun he => ?_, fun he => ?_⟩
    · have hb : (s.rst.thermHalls.filter (· != h.val)).isEmpty = true := List.isEmpty_iff.2 he
      refine ⟨?_, by rw [thermTripLow]; exact congrArg (!·) hb⟩
      simp [release, hb]
    · have hb : (s.rst.thermHalls.filter (· != h.val)).isEmpty = false := List.isEmpty_eq_false_iff.2 he
      exact ⟨by simp only [release, hb]; rfl, by rw [thermTripLow]; exact congrArg (!·) hb⟩
  · have hrs : restartedAfter s = false := by rw [restartedAfter, h2]; rfl
    refine ⟨⟨_, rfl, ?_, ?_⟩, ⟨_, rfl, ?_⟩⟩
    · rw [trigger_eq (.inl (by decide)), rd_enterReset_mask, maskAfter, h2, if_neg (by decide)]
      rfl
    · rw [trigger_eq (.inl (by decide)), rd_enterReset_count, countAfter, h2, if_neg (by decide), if_neg (by decide)]
      exact Nat.mod_eq_of_lt (by omega)
    · rw [trigger_eq (.inl (by decide))]
      exact sticky_enterReset_restarted s _ _ hrs

end Sys2Proof.Machine

/-! SUPPORT. What packets, messages and accesses of device memory leave: the registers that they do not write, the packets handed
to the stream, and the STICKY bits that are set. -/

namespace Sys2Proof.Machine

set_option Elab.async false -- each thread's stack counts against the check's memory limit

/-- A page whose registers accesses of device memory write. -/
def memoryPage : Page → Bool
  | .stack _ | .fc => true
  | _ => false

/-- A field that no access of device memory, no packet and no message writes. -/
def Apart (q : Page) (g : Fld) : Prop := silent q g = true ∧ memoryPage q = false

/-- The fields of a page that is neither on the memory's side nor the host interface. -/
theorem apart_of_page {q : Page} {g : Fld} (hq : q ≠ .hif) (hm : memoryPage q = false) (hg : g.inPage = true) : Apart q g :=
  ⟨by simp [silent, hg, hq], hm⟩

theorem apart_stair (sw : Nat) {g : Fld} (hg : g.inPage = true) : Apart (swPage sw) g :=
  apart_of_page (swPage_ne_hif sw) rfl hg

theorem Apart.inPage {q : Page} {g : Fld} (h : Apart q g) : g.inPage = true := inPage_of_silent h.1

theorem Apart.ne {q p : Page} {g : Fld} (h : Apart q g) (hp : memoryPage p = true) : q ≠ p := by
  rintro rfl
  rw [h.2] at hp
  cases hp

/-- What an operation leaves: the fields that it does not write, and the owners for which it posts no write. -/
structure Scope where
  field : Page → Fld → Prop
  owner : Owner → Prop

/-- Bit PENDING of a vector. -/
def pendingOf (s : State) (v : Nat) : Nat := rd s .hif (Reg.hif.VEC_CTRL_PENDING (v % 64))

/-- The attachment to the host goes on: nothing of it changes but the stream and the reads of host memory, and no read takes a
tag. -/
structure Attended (s t : State) : Prop where
  rest : t.hif = { s.hif with
    sent := t.hif.sent, queued := t.hif.queued, stream := t.hif.stream, unitNo := t.hif.unitNo, reads := t.hif.reads }
  tags : ∀ q ∈ t.hif.reads, q.tag = none ∨ ∃ r ∈ s.hif.reads, r.tag = q.tag

section
variable {s t u : State}

theorem attended_of_hif (h : t.hif = s.hif) : Attended s t := ⟨by rw [h], fun q hq => .inr ⟨q, h ▸ hq, rfl⟩⟩

/-- What changes the stream alone. -/
theorem attended_stream (h : t.hif = { s.hif with
    sent := t.hif.sent, queued := t.hif.queued, stream := t.hif.stream, unitNo := t.hif.unitNo }) : Attended s t :=
  have e : t.hif.reads = s.hif.reads := by rw [h]
  ⟨by rw [h], fun q hq => .inr ⟨q, e ▸ hq, rfl⟩⟩

theorem Attended.refl (s : State) : Attended s s := attended_of_hif rfl

theorem Attended.trans (h : Attended s t) (k : Attended t u) : Attended s u := by
  refine ⟨by rw [k.rest, h.rest], fun q hq => ?_⟩
  obtain e | ⟨r, hr, er⟩ := k.tags q hq
  · exact .inl e
  obtain e | ⟨x, hx, ex⟩ := h.tags r hr
  · exact .inl (er ▸ e)
  · exact .inr ⟨x, hx, ex.trans er⟩

end

/-- The device goes on: the fields of a scope stand, no packet handed to the stream is lost and none of its owners' joins those
that wait, no STICKY bit is cleared, and no pending vector is dropped. -/
structure Onward (F : Scope) (s t : State) : Prop where
  fields : ∀ q g, F.field q g → rd t q g = rd s q g
  packets : ∀ p ∈ toHost s, p ∈ toHost t
  waits : ∀ o, F.owner o → writeWaits t o = true → writeWaits s o = true
  stickies : ∀ q b, b < 32 → sticky s q b = true → sticky t q b = true
  pends : ∀ v, pendingOf s v = 1 → pendingOf t v = 1
  attended : Attended s t

theorem pending_inPage (v : Nat) : (Reg.hif.VEC_CTRL_PENDING (v % 64)).inPage = true := by
  simp only [Fld.inPage, Reg.hif.VEC_CTRL_PENDING, Bool.and_eq_true]
  exact ⟨decide_eq_true (by omega), rfl⟩

section
variable {F G : Scope} {s t u : State}

theorem Onward.refl (s : State) : Onward F s s :=
  ⟨fun _ _ _ => rfl, fun _ h => h, fun _ _ h => h, fun _ _ _ h => h, fun _ h => h, .refl s⟩

theorem Onward.trans (h : Onward F s t) (k : Onward F t u) : Onward F s u :=
  ⟨fun q g e => (k.fields q g e).trans (h.fields q g e), fun p e => k.packets p (h.packets p e),
    fun o ho e => h.waits o ho (k.waits o ho e), fun q b hb e => k.stickies q b hb (h.stickies q b hb e),
    fun v e => k.pends v (h.pends v e), h.attended.trans k.attended⟩

/-- What leaves a wider scope leaves a narrower one. -/
theorem Onward.mono (h : Onward F s t) (k : ∀ q g, G.field q g → F.field q g)
    (w : ∀ o, G.owner o → F.owner o := by exact fun _ _ => trivial) : Onward G s t :=
  ⟨fun q g e => h.fields q g (k q g e), h.packets, fun o ho => h.waits o (w o ho), h.stickies, h.pends, h.attended⟩

/-- What changes neither registers nor the stream. -/
theorem onward_same (hr : t.regs = s.regs) (hs : t.hif.sent = s.hif.sent) (hq : t.hif.queued = s.hif.queued)
    (ha : Attended s t := by exact attended_of_hif rfl) : Onward F s t :=
  ⟨fun q g _ => rd_congr hr q g, fun p h => by rw [toHost, hs, hq]; exact h,
    fun o _ h => by rw [writeWaits, hq] at h; exact h,
    fun q b _ h => (sticky_other (rd_congr hr q _) b).trans h, fun v h => (rd_congr hr _ _).trans h, ha⟩

/-- The result of a function that answers a state with something else. -/
theorem Onward.fst {α : Type} {r : State × α} {x : α} (h : Onward F s r.1) (e : r = (t, x)) : Onward F s t := by
  rw [e] at h; exact h

theorem Onward.ite {c : Prop} [Decidable c] (h : Onward F s t) (k : Onward F s u) : Onward F s (if c then t else u) := by
  split <;> assumption

/-- A field outside `F` is written. -/
theorem onward_wr {p : Page} {f : Fld} (hf : f.inPage = true) (ho : f.off ≠ 0x018) (hv : p ≠ .hif ∨ f.off < 0x40C)
    (hF : ∀ q g, F.field q g → key q g ≠ key p f) (s : State) (v : Nat) : Onward F s (wr s p f v) :=
  ⟨fun q g h => rd_wr_ne _ _ _ _ _ _ (hF q g h), fun _ h => h, fun _ _ h => h,
    fun q b _ h => (sticky_other (rd_wr_ne _ _ _ _ _ _
      (key_ne_of_off hf (show Reg.hdr.STICKY.inPage = true by decide) (.inr (Ne.symm ho)))) b).trans h,
    fun v h => (rd_wr_ne _ _ _ _ _ _ (key_ne_of_off hf (pending_inPage v)
      (hv.imp Ne.symm fun h => by simp only [Reg.hif.VEC_CTRL_PENDING]; omega))).trans h, attended_of_hif rfl⟩

theorem onward_count {p : Page} {f : Fld} (hf : f.inPage = true) (ho : f.off ≠ 0x018) (hv : p ≠ .hif ∨ f.off < 0x40C)
    (hF : ∀ q g, F.field q g → key q g ≠ key p f) (s : State) (n : Nat) : Onward F s (count s p f n) := onward_wr hf ho hv hF s _

theorem onward_bump {p : Page} {f : Fld} (hf : f.inPage = true) (ho : f.off ≠ 0x018) (hv : p ≠ .hif ∨ f.off < 0x40C)
    (hF : ∀ q g, F.field q g → key q g ≠ key p f) (s : State) : Onward F s (bump s p f) := onward_wr hf ho hv hF s _

end

/-! ### The stream -/

/-- Silent fields, and every owner. -/
def Silent : Scope := ⟨fun q g => silent q g = true, fun _ => True⟩

theorem packets_noteWait (s : State) (e : Queued) : toHost (noteWait s e).1 = toHost s := by
  unfold noteWait; split <;> rfl

theorem packets_flushQueue (s : State) : ∀ p ∈ toHost s, p ∈ toHost (flushQueue s) := by
  intro p hp
  unfold flushQueue
  split
  · exact hp
  · unfold toHost at hp ⊢
    rw [List.mem_append] at hp ⊢
    exact mem_pump hp

/-- What still waits has waited before. -/
theorem owners_pump {o : Owner} (l : List Queued) : ∀ (s : State) (a b : Bool),
    ((pump s a b l).2.any fun q => q.owner == some o) = true → (l.any fun q => q.owner == some o) = true := by
  induction l with
  | nil => intro s a b h; exact h
  | cons e l ih =>
    intro s a b h
    have he : (noteWait s e).2.owner = e.owner := by unfold noteWait; split <;> rfl
    rw [List.any_cons]
    rw [pump] at h
    split at h
    · rw [List.any_cons] at h
      rcases Bool.or_eq_true_iff.1 h with h | h
      · rw [h, Bool.true_or]
      · rw [ih _ _ _ h, Bool.or_true]
    · split at h
      · rw [ih _ _ _ h, Bool.or_true]
      · rw [List.any_cons, he] at h
        rcases Bool.or_eq_true_iff.1 h with h | h
        · rw [h, Bool.true_or]
        · rw [ih _ _ _ h, Bool.or_true]

theorem waits_flushQueue {s : State} {o : Owner} (h : writeWaits (flushQueue s) o = true) : writeWaits s o = true := by
  unfold flushQueue at h
  split at h
  · exact h
  · exact owners_pump _ _ _ _ h

/-- A vector's PENDING is written by its own signal alone. -/
theorem pendingOf_congr {s t : State} (h : ∀ v, rd t .hif (Reg.hif.VEC_CTRL_PENDING (v % 64))
    = rd s .hif (Reg.hif.VEC_CTRL_PENDING (v % 64))) : ∀ v, pendingOf s v = 1 → pendingOf t v = 1 :=
  fun v e => (h v).trans e

theorem pending_wr (s : State) (v : Nat) {f : Fld} (hf : f.inPage = true) (ho : f.off < 0x40C) (x : Nat) :
    pendingOf (wr s .hif f x) v = pendingOf s v :=
  rd_wr_ne _ _ _ _ _ _ (key_ne_of_off hf (pending_inPage v) (.inr (by simp only [Reg.hif.VEC_CTRL_PENDING]; omega)))

theorem pending_emit (s : State) (p : Packet) (v : Nat) : pendingOf (emit s p) v = pendingOf s v := by
  refine (rd_congr (s := count _ .hif Reg.hif.UNITS_TX p.units) (foldl_sendUnit_regs _ _) _ _).trans ?_
  refine (pending_wr _ v (by decide) (by decide) _).trans ?_
  repeat' first
    | rfl
    | refine (pending_wr _ v (by decide) (by decide) _).trans ?_
    | split

theorem pending_pump (l : List Queued) : ∀ (s : State) (a b : Bool) (v : Nat),
    pendingOf (pump s a b l).1 v = pendingOf s v := by
  induction l with
  | nil => intro s a b v; rfl
  | cons e l ih =>
    intro s a b v
    rw [pump]
    split
    · exact ih _ _ _ _
    · split
      · rw [ih, pending_emit]
      · refine (ih _ _ _ _).trans ?_
        unfold noteWait
        split
        · exact pending_wr _ v (by decide) (by decide) _
        · rfl

theorem pending_flushQueue (s : State) (v : Nat) : pendingOf (flushQueue s) v = pendingOf s v := by
  unfold flushQueue
  split
  · rfl
  · exact pending_pump _ _ _ _ _

theorem attended_requeue (s : State) (l : List Queued) : Attended s { s with hif := { s.hif with queued := l } } :=
  attended_stream rfl

theorem attended_emit (s : State) (p : Packet) : Attended s (emit s p) := by
  have units : ∀ (l : List Nat) (u : State), Attended u (l.foldl sendUnit u) := by
    intro l
    induction l with
    | nil => exact fun u => .refl u
    | cons n l ih => exact fun u => (attended_stream (t := sendUnit u n) rfl).trans (ih _)
  unfold emit
  extract_lets t t1 t2 t3 t4 t5
  have h1 : Attended s t1 := attended_of_hif (by unfold t1; split <;> rfl)
  have h2 : Attended t1 t2 := attended_of_hif (by unfold t2; split <;> rfl)
  have h3 : Attended t2 t3 := attended_of_hif (by unfold t3; split <;> rfl)
  exact (((h1.trans h2).trans h3).trans (attended_of_hif (t := t4) rfl)).trans ((units _ t4).trans (attended_stream rfl))

theorem attended_pump (l : List Queued) : ∀ (s : State) (a b : Bool), Attended s (pump s a b l).1 := by
  induction l with
  | nil => exact fun s _ _ => .refl s
  | cons e l ih =>
    intro s a b
    rw [pump]
    split
    · exact ih _ _ _
    · split
      · exact (attended_emit _ _).trans (ih _ _ _)
      · exact .trans (attended_of_hif (by unfold noteWait; split <;> rfl)) (ih _ _ _)

theorem attended_flushQueue (s : State) : Attended s (flushQueue s) := by
  unfold flushQueue
  split
  · exact .refl s
  · exact ((attended_requeue s []).trans (attended_pump s.hif.queued _ false false)).trans (attended_requeue _ _)

theorem onward_flushQueue (s : State) : Onward Silent s (flushQueue s) :=
  ⟨fun _ _ h => silent_flushQueue h s, packets_flushQueue s, fun _ _ => waits_flushQueue,
    fun q b _ h => (sticky_flushQueue s q b).trans h, fun v h => (pending_flushQueue s v).trans h,
    attended_flushQueue s⟩

/-- A packet of an owner handed to the stream; the writes of other owners that wait are those that waited before. -/
theorem onward_transmitFor (s : State) (o : Option Owner) (p : Packet) :
    Onward ⟨Silent.field, fun x => o ≠ some x⟩ s (transmitFor s o p) := by
  unfold transmitFor
  refine .trans ?_ ((onward_flushQueue _).mono (fun _ _ h => h))
  refine ⟨fun _ _ _ => rfl, fun x hx => ?_, fun x hx h => ?_, fun _ _ _ h => h, fun _ h => h, attended_stream rfl⟩
  · unfold toHost at hx ⊢
    rw [List.mem_append] at hx ⊢
    rcases hx with hx | hx
    · exact .inl hx
    · exact .inr (by rw [List.map_append]; exact List.mem_append_left _ hx)
  · unfold writeWaits at h ⊢
    rw [List.any_append, Bool.or_eq_true] at h
    rcases h with h | h
    · exact h
    · simp only [List.any_cons, List.any_nil, Bool.or_false, beq_iff_eq] at h
      exact absurd h hx

theorem onward_transmit (s : State) (p : Packet) : Onward Silent s (transmit s p) :=
  (onward_transmitFor s none p).mono (fun _ _ h => h) (fun _ _ => by simp)

theorem leaves_transmitFor (s : State) (o : Option Owner) (p : Packet) : p ∈ toHost (transmitFor s o p) := by
  refine packets_flushQueue _ p ?_
  simp [toHost]

theorem key_ne_of_signal {f : Fld} (hf : f.inPage = true) (hs : signalOffsets.contains f.off = true) :
    ∀ q g, Silent.field q g → key q g ≠ key .hif f := fun _ _ h => key_ne_signal h hf hs

/-- A signal makes its vector pending at most. -/
theorem onward_pending (s : State) (v : Nat) : Onward Silent s (wr s .hif (Reg.hif.VEC_CTRL_PENDING (v % 64)) 1) := by
  refine ⟨fun q g h => rd_wr_ne _ _ _ _ _ _ (key_ne_pending h v), fun _ h => h, fun _ _ h => h, fun q b _ h => ?_, fun w h => ?_,
    attended_of_hif rfl⟩
  · refine (sticky_other (rd_wr_ne _ _ _ _ _ _ (key_ne_of_off (pending_inPage v)
      (show Reg.hdr.STICKY.inPage = true by decide) (.inr ?_))) b).trans h
    simp only [Reg.hdr.STICKY, Reg.hif.VEC_CTRL_PENDING]
    omega
  · by_cases e : v % 64 = w % 64
    · rw [pendingOf, ← e, rd_wr]; rfl
    · refine (rd_wr_ne _ _ _ _ _ _ (key_ne_of_off (pending_inPage v) (pending_inPage w) (.inr ?_))).trans h
      simp only [Reg.hif.VEC_CTRL_PENDING]
      omega

theorem onward_signalWith {r : State → Nat → State} (hr : ∀ s b, Onward Silent s (r s b)) (s : State) (v : Nat) :
    Onward Silent s (signalWith r s v) := by
  unfold signalWith sendMsg
  extract_lets a
  split
  · exact onward_pending s v
  split
  · exact (onward_bump (by decide) (by decide) (by decide) (key_ne_of_signal (by decide) (by decide)) s).trans (hr _ _)
  split
  · exact onward_transmit _ _
  · exact (onward_bump (by decide) (by decide) (by decide) (key_ne_of_signal (by decide) (by decide)) s).trans (hr _ _)

/-- Silent fields but the STICKY register of one page. -/
def SilentBut (p : Page) : Scope := ⟨fun q g => Silent.field q g ∧ (q ≠ p ∨ g.off ≠ 0x018), fun _ => True⟩

theorem silent_but_hif {q : Page} {g : Fld} (h : Silent.field q g) : q ≠ .hif ∨ g.off ≠ 0x018 := by
  by_contra hc
  obtain ⟨rfl, ho⟩ := not_or.1 hc |>.imp not_not.1 not_not.1
  simp [Silent, silent, signalOffsets, ho] at h

theorem onward_raise (n : Nat) (s : State) (p : Page) (b : Nat) : Onward (SilentBut p) s (raise n s p b) := by
  induction n generalizing s p b with
  | zero => exact .refl s
  | succ n ih =>
    have own (t : State) (ht : t = wr s p Reg.hdr.STICKY (rd s p Reg.hdr.STICKY ||| 2 ^ b)) :
        Onward (SilentBut p) s t := by
      subst ht
      refine ⟨fun q g h => rd_wr_ne _ _ _ _ _ _ (key_ne_of_off (by decide) (inPage_of_silent h.1) h.2), fun _ h => h,
        fun _ _ h => h, fun q i hi h => sticky_wr_page s p q b i hi h, fun v h => ?_, attended_of_hif rfl⟩
      refine (rd_wr_ne _ _ _ _ _ _ (key_ne_of_off (by decide) (pending_inPage v) (.inr ?_))).trans h
      simp only [Reg.hdr.STICKY, Reg.hif.VEC_CTRL_PENDING]
      omega
    rw [raise]
    split
    · exact .refl s
    · extract_lets t
      have ht := own t rfl
      clear_value t
      refine .ite (ht.trans ?_) ht
      exact (onward_signalWith (fun u c => (ih u .hif c).mono fun _ _ h => ⟨h, silent_but_hif h⟩) t _).mono fun _ _ h => h.1

theorem onward_setSticky {F : Scope} {p : Page} (hF : ∀ q g, F.field q g → (SilentBut p).field q g) (s : State) (b : Nat) :
    Onward F s (setSticky s p b) := (onward_raise 4 s p b).mono hF

theorem onward_signal (s : State) (v : Nat) : Onward Silent s (signal s v) :=
  onward_signalWith (fun s b => (onward_raise 3 s .hif b).mono fun _ _ h => ⟨h, silent_but_hif h⟩) s v

/-- A signal whose vector is masked leaves it pending. -/
theorem pendingOf_signal {s : State} {v : Nat} (h : rd s .hif (Reg.hif.VEC_CTRL_MASK (v % 64)) ≠ 0) :
    pendingOf (signal s v) v = 1 := by
  unfold signal signalWith
  rw [if_pos (by simpa [on] using h), pendingOf, rd_wr]
  rfl

/-- A signal whose vector is not masked sends its message. -/
theorem leaves_signal {s : State} {v : Nat} (hm : rd s .hif (Reg.hif.VEC_CTRL_MASK (v % 64)) = 0)
    (ha : rd s .hif (Reg.hif.VEC_ADDR (v % 64)) % 4 = 0) (hup : linkUp s = true) :
    Packet.msg (rd s .hif (Reg.hif.VEC_ADDR (v % 64))) (rd s .hif (Reg.hif.VEC_DATA (v % 64))) ∈ toHost (signal s v) := by
  unfold signal signalWith sendMsg
  rw [if_neg (by simp [on, hm])]
  dsimp only
  rw [if_neg (by simpa using ha), if_pos hup]
  exact leaves_transmitFor _ _ _

theorem onward_post (s : State) (o : Option Owner) (p : Packet) : Onward ⟨Silent.field, fun x => o ≠ some x⟩ s (post s o p) := by
  unfold post
  refine .ite (onward_transmitFor s o p) (Onward.mono (F := Silent) ?_ (fun _ _ h => h))
  exact (onward_bump (f := Reg.hif.TX_DISCARDS) (by decide) (by decide) (by decide)
    (key_ne_of_signal (by decide) (by decide)) s).trans (onward_setSticky (fun _ _ h => ⟨h, silent_but_hif h⟩) _ _)

theorem leaves_post {s : State} (h : linkUp s = true) (o : Option Owner) (p : Packet) : p ∈ toHost (post s o p) := by
  rw [post, if_pos h]; exact leaves_transmitFor s o p

/-! ### Device memory -/

/-- The fields apart from device memory, and every owner. -/
def Memory : Scope := ⟨Apart, fun _ => True⟩

section
variable {p : Page} (hp : memoryPage p = true)
include hp

theorem ne_hif_of_memory : p ≠ .hif := by rintro rfl; cases hp

theorem apart_key_ne {f : Fld} (hf : f.inPage = true) : ∀ q g, Apart q g → key q g ≠ key p f :=
  fun _ _ h => key_ne_of_off hf h.inPage (.inl (h.ne hp))

theorem onward_wr_memory (s : State) {f : Fld} (hf : f.inPage = true) (ho : f.off ≠ 0x018) (v : Nat) :
    Onward Memory s (wr s p f v) := onward_wr hf ho (.inl (ne_hif_of_memory hp)) (apart_key_ne hp hf) s v

theorem onward_bump_memory (s : State) {f : Fld} (hf : f.inPage = true) (ho : f.off ≠ 0x018) :
    Onward Memory s (bump s p f) := onward_bump hf ho (.inl (ne_hif_of_memory hp)) (apart_key_ne hp hf) s

theorem onward_setSticky_memory (s : State) (b : Nat) : Onward Memory s (setSticky s p b) :=
  onward_setSticky (fun _ _ (h : Apart _ _) => ⟨h.1, .inl (h.ne hp)⟩) s b

end

/-- The fields of every page but the fault concentrator's, and every owner. -/
def Reported : Scope := ⟨fun q g => silent q g = true ∧ q ≠ .fc, fun _ => True⟩

theorem Onward.unreported {s t : State} (h : Onward Reported s t) : Onward Memory s t :=
  h.mono fun _ _ (k : Apart _ _) => ⟨k.1, k.ne rfl⟩

theorem reported_fcEnter (s : State) (src code detail : Nat) : Onward Reported s (fcEnter s src code detail) := by
  have raised (u : State) (b : Nat) : Onward Reported u (setSticky u .fc b) := onward_setSticky (fun _ _ (h : Reported.field _ _) => ⟨h.1, .inl h.2⟩) u b
  unfold fcEnter
  split
  · exact onward_same rfl rfl rfl
  split
  · exact (onward_bump (by decide) (by decide) (.inl (by decide))
      (fun _ _ (h : Reported.field _ _) => key_ne_of_off (by decide) (inPage_of_silent h.1) (.inl h.2)) s).trans (raised _ _)
  · dsimp only
    refine .ite (.trans ?_ (raised _ _)) ?_ <;> exact onward_same rfl rfl rfl

theorem reported_report (s : State) (p : Page) (code detail : Nat) : Onward Reported s (report s p code detail) := by
  unfold report
  split
  · exact reported_fcEnter _ _ _ _
  · exact .refl s

theorem onward_fcEnter (s : State) (src code detail : Nat) : Onward Memory s (fcEnter s src code detail) :=
  (reported_fcEnter s src code detail).unreported

theorem onward_report (s : State) (p : Page) (code detail : Nat) : Onward Memory s (report s p code detail) :=
  (reported_report s p code detail).unreported

theorem onward_queueRow (s : State) (st row : Nat) : Onward Memory s (queueRow s st row) := by
  unfold queueRow
  exact .ite (onward_same rfl rfl rfl) (.refl s)

theorem onward_chargeLane (s : State) (st c symbol flips : Nat) : Onward Memory s (chargeLane s st c symbol flips) := by
  unfold chargeLane
  split <;> exact onward_same rfl rfl rfl

theorem onward_storeSector (s : State) (c img : Nat) (poison : Bool) : Onward Memory s (storeSector s c img poison) :=
  onward_same rfl rfl rfl

theorem onward_crossFifo {F : Scope} (s : State) (p : Page) (n : Nat) : Onward F s (crossFifo s p n) :=
  onward_same rfl rfl rfl

theorem onward_noteCorrection (s : State) (st c symbol flips : Nat) : Onward Memory s (noteCorrection s st c symbol flips) := by
  unfold noteCorrection
  extract_lets t d t1 n t2
  have h0 : Onward Memory s t := (onward_bump_memory rfl s (by decide) (by decide)).trans (onward_setSticky_memory rfl _ _)
  have h1 : Onward Memory t t1 := onward_same rfl rfl rfl
  have h2 : Onward Memory t1 t2 := .ite (onward_queueRow _ _ _) (.refl t1)
  exact ((h0.trans h1).trans h2).trans (onward_chargeLane _ _ _ _ _)

theorem onward_readStored (s : State) (st c : Nat) : Onward Memory s (readStored s st c).1 := by
  unfold readStored
  extract_lets t code img
  have ht : Onward Memory s t := onward_crossFifo _ _ _
  clear_value t
  split
  · exact ht.trans (onward_queueRow _ _ _)
  · exact ht
  · exact (ht.trans (onward_storeSector _ _ _ _)).trans (onward_noteCorrection _ _ _ _ _)

theorem onward_noteBad (s : State) (who : Requester) (st kind : Nat) : Onward Memory s (noteBad s who st kind) := by
  unfold noteBad
  extract_lets f b
  refine .trans (.ite (.refl s) (onward_bump_memory rfl s ?_ ?_)) (onward_setSticky_memory rfl _ _) <;>
    (unfold f; split <;> decide)

theorem onward_scFault (s : State) (who : Requester) (a kind : Nat) (write : Bool) : Onward Memory s (scFault s who a kind write) := by
  have info (p : Page) (hp : memoryPage p = true) (u : State) : Onward Memory u (if on u p Reg.sc.FAULT_INFO_VALID then u else
      bump (wr (wr (wr (wr (wr (wr u p Reg.sc.FAULT_ADDR a) p Reg.sc.FAULT_INFO_KIND kind) p Reg.sc.FAULT_INFO_WRITE
        write.toNat) p Reg.sc.FAULT_INFO_REQUESTER (requesterCode who)) p Reg.sc.FAULT_INFO_VALID 1) p Reg.hdr.FAULT_CODE
        (0x80 + kind)) p Reg.hdr.FAULT_COUNT) :=
    .ite (.refl u) ((((((
      (onward_wr_memory hp u (by decide) (by decide) _).trans (onward_wr_memory hp _ (by decide) (by decide) _)).trans
      (onward_wr_memory hp _ (by decide) (by decide) _)).trans (onward_wr_memory hp _ (by decide) (by decide) _)).trans
      (onward_wr_memory hp _ (by decide) (by decide) _)).trans (onward_wr_memory hp _ (by decide) (by decide) _)).trans
      (onward_bump_memory hp _ (by decide) (by decide)))
  have denied (p : Page) (hp : memoryPage p = true) (u : State) :
      Onward Memory u (if kind = 0 then setSticky u p Sticky.sc.ACCESS_FAULT else u) :=
    .ite (onward_setSticky_memory hp _ _) (.refl u)
  have hp : memoryPage (scPage (place s a).1) = true := rfl
  unfold scFault
  exact (((onward_bump_memory hp s (by decide) (by decide)).trans (denied _ hp _)).trans (info _ hp _)).trans
    (onward_report _ _ _ _)

theorem onward_countRead (s : State) (who : Requester) (st : Nat) : Onward Memory s (countRead s who st) :=
  .ite (.refl s) (onward_bump_memory (f := Reg.sc.READS) rfl s (by decide) (by decide))

theorem onward_countWrite (s : State) (who : Requester) (st : Nat) : Onward Memory s (countWrite s who st) :=
  .ite (.refl s) (onward_bump_memory (f := Reg.sc.WRITES) rfl s (by decide) (by decide))

theorem readSector_absent {s : State} {a : Nat} (who : Requester) (hp : ¬present s a = true) :
    readSector s who a = (s, 0, some 0) := if_neg hp

theorem writeSector_absent {s : State} {a : Nat} (who : Requester) (hp : ¬present s a = true) (lo n v : Nat) (poison : Bool) :
    writeSector s who a lo n v poison = (s, some 0) := if_neg hp

theorem onward_readSector (s : State) (who : Requester) (a : Nat) : Onward Memory s (readSector s who a).1 := by
  by_cases hp : present s a = true
  · rw [readSector_present who hp]
    have e := (onward_countRead s who (place s a).1).trans (onward_readStored _ (place s a).1 (cellAt s a))
    split
    · next heq => exact (e.fst heq).trans (onward_noteBad _ _ _ _)
    · next heq => exact e.fst heq
  · rw [readSector_absent who hp]; exact .refl s

theorem onward_writeSector (s : State) (who : Requester) (a lo n v : Nat) (poison : Bool) :
    Onward Memory s (writeSector s who a lo n v poison).1 := by
  by_cases hp : present s a = true
  · rw [writeSector_present who hp]
    have e := ((onward_countWrite s who (place s a).1).trans (onward_bump_memory (p := scPage (place s a).1) rfl _
      (show Reg.sc.RMW.inPage = true by decide) (by decide))).trans (onward_readStored _ (place s a).1 (cellAt s a))
    split
    · exact ((onward_countWrite s who _).trans (onward_crossFifo _ _ _)).trans (onward_storeSector _ _ _ _)
    split
    · next heq => exact (e.fst heq).trans (onward_noteBad _ _ _ _)
    · next heq => exact (e.fst heq).trans (onward_storeSector _ _ _ _)
  · rw [writeSector_absent who hp]; exact .refl s

theorem onward_readSectors (who : Requester) (n : Nat) : ∀ (s : State) (a : Nat), Onward Memory s (readSectors who a n s).1 := by
  induction n with
  | zero => intro s a; rw [readSectors]; exact .refl s
  | succ n ih =>
    intro s a
    rw [readSectors]
    exact fst_chain (P := Onward Memory s) (q := readSectors who (a + 32) n)
      (g := fun v w => (v.1 + w.1 * 2 ^ 256, match v.2 with
        | some f => some (f, a)
        | none => w.2)) ((onward_readSector s who a).trans (ih _ _))

theorem onward_memRead (s : State) (who : Requester) (a n : Nat) : Onward Memory s (memRead s who a n).1 := by
  unfold memRead
  dsimp only
  split
  · next heq => exact ((onward_readSectors who _ s _).fst heq).trans (onward_scFault _ _ _ _ _)
  · next heq => exact (onward_readSectors who _ s _).fst heq

theorem writeSectors_fst (who : Requester) (poison : Bool) (stop n : Nat) (s : State) (a v : Nat) :
    (writeSectors who poison a stop (n + 1) v s).1
      = (writeSectors who poison (a / 32 * 32 + 32) stop n (v / 2 ^ (8 * min (stop - a) (a / 32 * 32 + 32 - a)))
          (writeSector s who (a / 32 * 32) (a - a / 32 * 32) (min (stop - a) (a / 32 * 32 + 32 - a))
            (v % 2 ^ (8 * min (stop - a) (a / 32 * 32 + 32 - a))) poison).1).1 := by
  simp only [writeSectors]

theorem onward_writeSectors (who : Requester) (poison : Bool) (stop n : Nat) :
    ∀ (s : State) (a v : Nat), Onward Memory s (writeSectors who poison a stop n v s).1 := by
  induction n with
  | zero => intro s a v; rw [writeSectors]; exact .refl s
  | succ n ih => intro s a v; rw [writeSectors_fst]; exact (onward_writeSector s who _ _ _ _ _).trans (ih _ _ _)

theorem onward_memWritePoison (s : State) (who : Requester) (a n v : Nat) (poison : Bool) :
    Onward Memory s (memWritePoison s who a n v poison).1 := by
  have woken (u : State) : Onward Memory u (wakeWaiters u a n) := onward_same rfl rfl rfl
  unfold memWritePoison
  split
  · next heq =>
    exact (((onward_writeSectors who _ _ _ s a v).fst heq).trans (onward_scFault _ _ _ _ _)).trans (woken _)
  · next heq => exact ((onward_writeSectors who _ _ _ s a v).fst heq).trans (woken _)

theorem onward_memWrite (s : State) (who : Requester) (a n v : Nat) : Onward Memory s (memWrite s who a n v).1 :=
  onward_memWritePoison s who a n v false

end Sys2Proof.Machine

/-! SUPPORT. Stairwells: what a write of device memory, a fault, the next entry of the list and the completion of an entry make of
them and leave (R213, R218, R225 to R229). -/

namespace Sys2Proof.Machine

set_option Elab.async false -- each thread's stack counts against the check's memory limit

/-! ### Stairwells after an access of device memory -/

theorem stair_congr {s t : State} (h : t.stairs = s.stairs) (j : Nat) : stair t j = stair s j := by rw [stair, stair, h]

theorem stair_setStair_eq (s : State) (i j : Nat) (w : Stairwell) :
    stair (setStair s i w) j = if j = i then w else stair s j := by
  split
  · next h => rw [h, stair_setStair]
  · next h => exact stair_setStair_ne s i j w h

/-- A stairwell whose wait may have been woken (R218). -/
def Woken (w x : Stairwell) : Prop := ∃ b : Bool, x = { w with wait := w.wait.map fun v => { v with wake := v.wake || b } }

theorem Woken.refl (w : Stairwell) : Woken w w := ⟨false, by cases w with | mk st a c wt => cases wt <;> simp⟩

theorem Woken.trans {w x y : Stairwell} (h : Woken w x) (k : Woken x y) : Woken w y := by
  obtain ⟨b, rfl⟩ := h
  obtain ⟨c, rfl⟩ := k
  refine ⟨b || c, ?_⟩
  cases w with | mk st a c wt => cases wt <;> simp [Bool.or_assoc]

section
variable {w x : Stairwell} (h : Woken w x)
include h

theorem Woken.state : x.state = w.state := by obtain ⟨b, rfl⟩ := h; rfl
theorem Woken.ahead : x.ahead = w.ahead := by obtain ⟨b, rfl⟩ := h; rfl
theorem Woken.cur : x.cur = w.cur := by obtain ⟨b, rfl⟩ := h; rfl

theorem Woken.wait_none (hw : w.wait = none) : x.wait = none := by obtain ⟨b, rfl⟩ := h; simp [hw]

end

theorem get?_map {α β : Type} (f : α → β) (m : NatMap α) (k : Nat) :
    NatMap.get? (m.map fun e => (e.1, f e.2)) k = (NatMap.get? m k).map f := by
  induction m with
  | nil => rfl
  | cons e m ih =>
    obtain ⟨j, v⟩ := e
    rw [List.map_cons, NatMap.get?_cons, NatMap.get?_cons]
    split
    · rfl
    · exact ih

/-- A stairwell whose WAIT_WORD watches a range that has been written (R218). -/
def wakeOne (a n : Nat) (w : Stairwell) : Stairwell :=
  match w.cur, w.wait with
  | some c, some k =>
    let t := fieldAt c.img 0x18 8
    if t < 2 ^ 40 ∧ t / 32 * 32 < a + n ∧ a < t / 32 * 32 + 32 then { w with wait := some { k with wake := true } } else w
  | _, _ => w

theorem wakeWaiters_eq (s : State) (a n : Nat) :
    wakeWaiters s a n = { s with stairs := s.stairs.map fun e => (e.1, wakeOne a n e.2) } := by
  have : (fun e : Nat × Stairwell => match e.2.cur, e.2.wait with
      | some c, some w =>
        let t := fieldAt c.img 0x18 8
        if t < 2 ^ 40 ∧ t / 32 * 32 < a + n ∧ a < t / 32 * 32 + 32 then
          (e.1, { e.2 with wait := some { w with wake := true } }) else e
      | _, _ => e) = fun e => (e.1, wakeOne a n e.2) := by
    funext e
    unfold wakeOne
    split
    · dsimp only
      split <;> rfl
    · rfl
  unfold wakeWaiters
  exact congrArg (fun f => { s with stairs := s.stairs.map f }) this

theorem woken_wakeOne (a n : Nat) (w : Stairwell) : Woken w (wakeOne a n w) := by
  unfold wakeOne
  split
  · next c k hc hk =>
    dsimp only
    split
    · exact ⟨true, by rw [hk]; simp⟩
    · exact .refl w
  · exact .refl w

theorem woken_wakeWaiters (s : State) (a n j : Nat) : Woken (stair s j) (stair (wakeWaiters s a n) j) := by
  rw [wakeWaiters_eq]
  unfold stair
  dsimp only
  rw [get?_map]
  cases NatMap.get? s.stairs j with
  | none => exact .refl _
  | some w => exact woken_wakeOne a n w

theorem memRead_stairs (s : State) (who : Requester) (a n : Nat) : (memRead s who a n).1.stairs = s.stairs :=
  memRead_keeps (closed_stairs s.stairs _ (by decide)) s who a n rfl

theorem writeSectors_stairs (who : Requester) (poison : Bool) (a stop n v : Nat) (s : State) :
    (writeSectors who poison a stop n v s).1.stairs = s.stairs :=
  writeSectors_keeps (closed_stairs s.stairs _ (by decide)) who poison a stop n v s rfl

theorem scFault_stairs (s : State) (who : Requester) (a kind : Nat) (write : Bool) : (scFault s who a kind write).stairs = s.stairs :=
  scFault_keeps (closed_stairs s.stairs _ (by decide)) s who a kind write rfl

theorem woken_memWrite (s : State) (who : Requester) (a n v j : Nat) :
    Woken (stair s j) (stair (memWrite s who a n v).1 j) := by
  have e := writeSectors_stairs who false a (a + n) (ceilDiv (a + n - a / 32 * 32) 32) v s
  unfold memWrite memWritePoison
  split
  · next heq =>
    rw [heq] at e
    rw [← stair_congr e j, ← stair_congr (scFault_stairs _ _ _ _ _) j]
    exact woken_wakeWaiters _ _ _ _
  · next heq =>
    rw [heq] at e
    rw [← stair_congr e j]
    exact woken_wakeWaiters _ _ _ _

theorem signal_stairs (s : State) (v : Nat) : (signal s v).stairs = s.stairs :=
  signal_keeps (closed_stairs s.stairs _ (by decide)) s v rfl

theorem post_stairs (s : State) (o : Option Owner) (p : Packet) : (post s o p).stairs = s.stairs :=
  post_keeps (closed_stairs s.stairs _ (by decide)) s o p rfl

theorem woken_cmdWrite (s : State) (o : Owner) (a n v j : Nat) : Woken (stair s j) (stair (cmdWrite s o a n v).1 j) := by
  unfold cmdWrite
  split
  · rw [stair_congr (post_stairs _ _ _)]; exact .refl _
  · exact woken_memWrite _ _ _ _ _ _

/-! ### What stands in a stairwell beside the entry it is at -/

/-- The slots, the error of the set that FENCE examines, the records and the scrub of a stairwell. -/
structure Books where
  slots : NatMap Tracked
  errSeen : Bool
  seq : Nat
  scrubbing : List Nat

def books (w : Stairwell) : Books := ⟨w.slots, w.errSeen, w.seq, w.scrubbing⟩

theorem Woken.books {w x : Stairwell} (h : Woken w x) : books x = books w := by obtain ⟨b, rfl⟩ := h; rfl

theorem books_setStair {s : State} {i : Nat} {w : Stairwell} (h : Machine.books w = Machine.books (stair s i)) (j : Nat) :
    Machine.books (stair (setStair s i w) j) = Machine.books (stair s j) := by
  rw [stair_setStair_eq]
  split
  · next e => rw [h, e]
  · rfl

/-! ### Fields that entries write -/

/-- A page of a stairwell. -/
def stairPage : Page → Bool
  | .stairwell _ => true
  | _ => false

/-- The offsets of a stairwell's page that faults and completions write: FAULT_CODE, FAULT_COUNT, STICKY, LIST_PTR, RECORDS and
JOB_ERRORS. -/
def entryOffsets : List Nat := [0x010, 0x014, 0x018, 0x048, 0x068, 0x06C]

/-- What faults and completions of entries leave: they post records only. -/
def Entry : Scope := ⟨fun q g => Apart q g ∧ (stairPage q = true → g.off ∉ entryOffsets), fun o => o.record = false⟩

theorem entry_apart {q : Page} {g : Fld} (h : Entry.field q g) : Apart q g := h.1
theorem entry_silent {q : Page} {g : Fld} (h : Entry.field q g) : Silent.field q g := h.1.1

theorem Onward.entry_of_memory {s t : State} (h : Onward Memory s t) : Onward Entry s t := h.mono fun _ _ => entry_apart
theorem Onward.entry_of_silent {s t : State} (h : Onward Silent s t) : Onward Entry s t := h.mono fun _ _ => entry_silent

theorem entry_key_ne (sw : Nat) {f : Fld} (hf : f.inPage = true) (ho : f.off ∈ entryOffsets) :
    ∀ q g, Entry.field q g → key q g ≠ key (swPage sw) f := by
  intro q g h
  refine key_ne_of_off hf h.1.inPage ?_
  by_cases hq : q = swPage sw
  · subst hq
    exact .inr fun e => h.2 rfl (e ▸ ho)
  · exact .inl hq

theorem onward_wr_entry (s : State) (sw : Nat) {f : Fld} (hf : f.inPage = true) (hs : f.off ≠ 0x018)
    (ho : f.off ∈ entryOffsets) (v : Nat) : Onward Entry s (wr s (swPage sw) f v) :=
  onward_wr hf hs (.inl (swPage_ne_hif sw)) (entry_key_ne sw hf ho) s v

theorem onward_bump_entry (s : State) (sw : Nat) {f : Fld} (hf : f.inPage = true) (hs : f.off ≠ 0x018)
    (ho : f.off ∈ entryOffsets) : Onward Entry s (bump s (swPage sw) f) := onward_wr_entry s sw hf hs ho _

theorem onward_setSticky_entry (s : State) (sw b : Nat) : Onward Entry s (setSticky s (swPage sw) b) := by
  refine onward_setSticky (fun q g h => ⟨entry_silent h, ?_⟩) s b
  by_cases hq : q = swPage sw
  · subst hq
    exact .inr fun e => h.2 rfl (by rw [e]; decide)
  · exact .inl hq

theorem onward_setStair {F : Scope} (s : State) (i : Nat) (w : Stairwell) : Onward F s (setStair s i w) := onward_same rfl rfl rfl

/-- A read is asked for without a tag. -/
theorem attended_asked {s t : State} {r : HostRead} (ht : t.hif = { s.hif with reads := s.hif.reads ++ [r] })
    (h : r.tag = none) : Attended s t := by
  refine ⟨by rw [ht], fun q hq => ?_⟩
  rw [ht] at hq
  rcases List.mem_append.1 hq with hq | hq
  · exact .inr ⟨q, hq, rfl⟩
  · exact .inl (List.mem_singleton.1 hq ▸ h)

theorem onward_askHost {F : Scope} (s : State) (who : ReadFor) (a n : Nat) : Onward F s (askHost s who a n) :=
  onward_same rfl rfl rfl (attended_asked rfl rfl)

theorem onward_dropReads {F : Scope} (s : State) (sw : Nat) : Onward F s (dropReads s sw) := by
  refine onward_same rfl rfl rfl ⟨rfl, fun q hq => .inr ?_⟩
  obtain ⟨r, hr, rfl⟩ := List.mem_map.1 hq
  exact ⟨r, hr, rfl⟩

/-! ### Faults of a stairwell (R225) -/

theorem swFault_stairs (s : State) (sw addr code : Nat) : (swFault s sw addr code).stairs
    = NatMap.set s.stairs sw { stair s sw with state := .faulted, ahead := [], cur := none, wait := none } := by
  unfold swFault
  rw [setSticky_stairs]
  rfl

theorem stair_swFault (s : State) (sw addr code j : Nat) : stair (swFault s sw addr code) j
    = if j = sw then { stair s sw with state := .faulted, ahead := [], cur := none, wait := none } else stair s j := by
  rw [← stair_setStair_eq]
  exact stair_congr (swFault_stairs s sw addr code) j

theorem onward_swFault (s : State) (sw addr code : Nat) : Onward Entry s (swFault s sw addr code) := by
  unfold swFault
  exact (((((onward_dropReads s sw).trans (onward_setStair _ _ _)).trans
    (onward_wr_entry _ sw (by decide) (by decide) (by decide) _)).trans
    (onward_wr_entry _ sw (by decide) (by decide) (by decide) _)).trans
    (onward_bump_entry _ sw (by decide) (by decide) (by decide))).trans (onward_setSticky_entry _ _ _)

theorem books_swFault (s : State) (sw addr code j : Nat) : books (stair (swFault s sw addr code) j) = books (stair s j) := by
  rw [stair_swFault]
  split
  · next h => rw [h]; rfl
  · rfl

/-- What a fault leaves for software (R225). -/
theorem faultedAt_swFault (s : State) (sw : Fin 16) (addr : Nat) {code : Nat} (hc : code < 256) :
    FaultedAt (swFault s sw addr code) sw addr code := by
  refine ⟨by rw [stair_swFault, if_pos rfl], ?_, ?_, ?_⟩ <;> unfold swFault
  · rw [rd_setSticky_own (swPage_ne_hif _) (by decide) _ _ (by decide), rd_bump_field (by decide) (by decide) (by decide),
      rd_wr_field (by decide) (by decide) (by decide), rd_wr]
    rfl
  · rw [rd_setSticky_own (swPage_ne_hif _) (by decide) _ _ (by decide), rd_bump_field (by decide) (by decide) (by decide), rd_wr]
    exact Nat.mod_eq_of_lt hc
  · exact sticky_setSticky _ _ _ (by decide)

/-! ### The next entry (R214) -/

/-- The entry at the head, whose read-ahead failed, is read again. -/
def retryEntry (s : State) (sw : Nat) (a : Ahead) (rest : List Ahead) : State :=
  let t := setStair s sw { stair s sw with ahead := { a with got := .pending, again := true } :: rest }
  if isHost a.addr then askHost t (.entry sw a.addr) a.addr 64 else t

theorem stair_askHost (s : State) (who : ReadFor) (a n j : Nat) : stair (askHost s who a n) j = stair s j := rfl

theorem stair_retryEntry (s : State) (sw : Nat) (a : Ahead) (rest : List Ahead) (j : Nat) :
    stair (retryEntry s sw a rest) j
      = if j = sw then { stair s sw with ahead := { a with got := .pending, again := true } :: rest } else stair s j := by
  unfold retryEntry
  dsimp only
  split
  · rw [stair_askHost, stair_setStair_eq]
  · rw [stair_setStair_eq]

theorem onward_retryEntry {F : Scope} (s : State) (sw : Nat) (a : Ahead) (rest : List Ahead) :
    Onward F s (retryEntry s sw a rest) := by
  unfold retryEntry
  exact .ite ((onward_setStair _ _ _).trans (onward_askHost _ _ _ _)) (onward_setStair _ _ _)

/-- What `advance` can do: nothing, take the entry at hand, fault with LIST_READ, or read it again. -/
theorem advance_cases (s : State) (sw : Nat) : advance s sw = s ∨ ((stair s sw).state = .running ∧ (stair s sw).cur = none ∧
    ∃ a rest, (stair s sw).ahead = a :: rest ∧
      ((∃ e, a.got = .data e ∧ advance s sw = setStair s sw { stair s sw with
          cur := some { addr := a.addr, img := e, stage := .fetched }, ahead := rest })
        ∨ advance s sw = swFault s sw a.addr 0x04 ∨ advance s sw = retryEntry s sw a rest)) := by
  unfold advance
  dsimp only
  split
  · next a rest hs hc ha =>
    split
    · exact .inl rfl
    · next e hg => exact .inr ⟨hs, hc, a, rest, ha, .inl ⟨e, hg, rfl⟩⟩
    · split
      · exact .inr ⟨hs, hc, a, rest, ha, .inr (.inl rfl)⟩
      · exact .inr ⟨hs, hc, a, rest, ha, .inr (.inr rfl)⟩
  · exact .inl rfl

theorem onward_advance (s : State) (sw : Nat) : Onward Entry s (advance s sw) := by
  rcases advance_cases s sw with h | ⟨_, _, a, rest, _, ⟨e, _, h⟩ | h | h⟩ <;> rw [h]
  · exact .refl s
  · exact onward_setStair _ _ _
  · exact onward_swFault _ _ _ _
  · exact onward_retryEntry _ _ _ _

/-- `advance` changes its own stairwell alone. -/
theorem stair_advance_ne (s : State) (sw : Nat) {j : Nat} (hj : j ≠ sw) : stair (advance s sw) j = stair s j := by
  rcases advance_cases s sw with h | ⟨_, _, a, rest, _, ⟨e, _, h⟩ | h | h⟩ <;> rw [h]
  · exact stair_setStair_ne _ _ _ _ hj
  · rw [stair_swFault, if_neg hj]
  · rw [stair_retryEntry, if_neg hj]

theorem books_advance (s : State) (sw j : Nat) : books (stair (advance s sw) j) = books (stair s j) := by
  by_cases hj : j = sw
  · subst hj
    rcases advance_cases s j with h | ⟨_, _, a, rest, _, ⟨e, _, h⟩ | h | h⟩ <;> rw [h]
    · rw [stair_setStair]; rfl
    · exact books_swFault _ _ _ _ _
    · rw [stair_retryEntry, if_pos rfl]; rfl
  · rw [stair_advance_ne s sw hj]

/-- The stairwell after `advance` is at the entry it was at, at none, or at one just fetched. -/
theorem cur_advance (s : State) (sw : Nat) : ∀ c, (stair (advance s sw) sw).cur = some c →
    (stair s sw).cur = some c ∨ c.stage = .fetched := by
  intro c hc
  rcases advance_cases s sw with h | ⟨_, hn, a, rest, _, ⟨e, _, h⟩ | h | h⟩ <;> rw [h] at hc
  · exact .inl hc
  · rw [stair_setStair] at hc
    obtain rfl := Option.some.inj hc
    exact .inr rfl
  · rw [stair_swFault, if_pos rfl] at hc
    cases hc
  · rw [stair_retryEntry, if_pos rfl] at hc
    exact .inl hc

theorem wait_advance (s : State) (sw : Nat) (h : (stair s sw).wait = none) : (stair (advance s sw) sw).wait = none := by
  rcases advance_cases s sw with e | ⟨_, _, a, rest, _, ⟨_, _, e⟩ | e | e⟩ <;> rw [e]
  · exact h
  · rw [stair_setStair]; exact h
  · rw [stair_swFault, if_pos rfl]
  · rw [stair_retryEntry, if_pos rfl]; exact h

/-- A stairwell that does not run stays where it is. -/
theorem advance_idle {s : State} {sw : Nat} (h : (stair s sw).state ≠ .running) : advance s sw = s := by
  rcases advance_cases s sw with e | ⟨hs, _⟩
  · exact e
  · exact absurd hs h

theorem advance_dram (s : State) (sw : Nat) : (advance s sw).dram = s.dram :=
  advance_keeps (closed_dram s.dram _ (by decide)) s sw rfl

end Sys2Proof.Machine

/-! SUPPORT. The completion of an entry: its record, its error and its message, and the entry after it (R213, R226 to R229, R233). -/

namespace Sys2Proof.Machine

set_option Elab.async false -- each thread's stack counts against the check's memory limit

/-! ### Records -/

theorem onward_cmdWrite_record (s : State) {o : Owner} (ho : o.record = true) (a n v : Nat) : Onward Entry s (cmdWrite s o a n v).1 := by
  unfold cmdWrite
  split
  · refine (onward_post s (some o) _).mono (fun _ _ => entry_silent) fun x hx e => ?_
    obtain rfl := Option.some.inj e
    exact absurd (ho.symm.trans hx) (by decide)
  · exact (onward_memWrite _ _ _ _ _).entry_of_memory

/-- The stairwell with the SEQ of its next record. -/
def nextSeq (s : State) (sw : Nat) : State := setStair s sw { stair s sw with seq := ((stair s sw).seq + 1) % 2 ^ 32 }

/-- The write of the record of an entry. -/
def recordWrite (s : State) (sw own slot e addr status flags work : Nat) : State × Written :=
  cmdWrite (nextSeq s sw) (recordOwner sw own) (eRecord e) 32
    (recordImage sw slot e addr status flags work (((stair s sw).seq + 1) % 2 ^ 32))

theorem writeRecord_none {e : Nat} (h : eRecord e = 0) (s : State) (sw own slot addr status flags work : Nat) :
    writeRecord s sw own slot e addr status flags work = (s, false) := if_pos h

/-- What becomes of the write of a record: it is counted, waits, or is lost. -/
theorem writeRecord_some {e : Nat} (h : eRecord e ≠ 0) (s : State) (sw own slot addr status flags work : Nat) :
    writeRecord s sw own slot e addr status flags work
      = match recordWrite s sw own slot e addr status flags work with
        | (s, .done) => (bump s (swPage sw) Reg.sw.RECORDS, false)
        | (s, .waits) => (s, true)
        | (s, .lost) => (setSticky s (swPage sw) Sticky.sw.RECORD_LOST, false) := if_neg h

theorem onward_writeRecord (s : State) (sw own slot e addr status flags work : Nat) :
    Onward Entry s (writeRecord s sw own slot e addr status flags work).1 := by
  by_cases h : eRecord e = 0
  · rw [writeRecord_none h]; exact .refl s
  · have k : Onward Entry s (recordWrite s sw own slot e addr status flags work).1 :=
      (onward_setStair _ _ _).trans (onward_cmdWrite_record _ rfl _ _ _)
    rw [writeRecord_some h]
    split
    · next heq => exact (k.fst heq).trans (onward_bump_entry _ sw (by decide) (by decide) (by decide))
    · next heq => exact k.fst heq
    · next heq => exact (k.fst heq).trans (onward_setSticky_entry _ _ _)

/-- Every stairwell after the record of an entry: SEQ has gone on, and waits may have been woken. -/
theorem woken_writeRecord (s : State) (sw own slot e addr status flags work j : Nat) :
    Woken (if eRecord e ≠ 0 ∧ j = sw then { stair s sw with seq := ((stair s sw).seq + 1) % 2 ^ 32 } else stair s j)
      (stair (writeRecord s sw own slot e addr status flags work).1 j) := by
  by_cases h : eRecord e = 0
  · rw [writeRecord_none h, if_neg (fun c => c.1 h)]; exact .refl _
  · have k := woken_cmdWrite (nextSeq s sw) (recordOwner sw own) (eRecord e) 32
      (recordImage sw slot e addr status flags work (((stair s sw).seq + 1) % 2 ^ 32)) j
    rw [nextSeq, stair_setStair_eq] at k
    rw [show (if eRecord e ≠ 0 ∧ j = sw then { stair s sw with seq := ((stair s sw).seq + 1) % 2 ^ 32 } else stair s j)
      = if j = sw then { stair s sw with seq := ((stair s sw).seq + 1) % 2 ^ 32 } else stair s j by simp [h]]
    rw [writeRecord_some h]
    have k' : Woken (if j = sw then { stair s sw with seq := ((stair s sw).seq + 1) % 2 ^ 32 } else stair s j)
      (stair (recordWrite s sw own slot e addr status flags work).1 j) := k
    generalize recordWrite s sw own slot e addr status flags work = r at k'
    obtain ⟨u, w⟩ := r
    cases w with
    | done => exact k'
    | waits => exact k'
    | lost => exact (stair_congr (setSticky_stairs u _ _) j) ▸ k'

/-- A record that waits belongs to host memory, and its write waits to enter the stream. -/
theorem writeRecord_waits {s t : State} {sw own slot e addr status flags work : Nat}
    (h : writeRecord s sw own slot e addr status flags work = (t, true)) :
    isHost (eRecord e) = true ∧ writeWaits t (recordOwner sw own) = true := by
  by_cases he : eRecord e = 0
  · rw [writeRecord_none he] at h
    cases congrArg Prod.snd h
  · rw [writeRecord_some he] at h
    split at h
    · cases congrArg Prod.snd h
    · next u heq =>
      obtain rfl : u = t := congrArg Prod.fst h
      unfold recordWrite cmdWrite at heq
      split at heq
      · next hh =>
        refine ⟨hh, ?_⟩
        have h2 := congrArg Prod.snd heq
        have h1 := congrArg Prod.fst heq
        dsimp only at h1 h2
        split at h2
        · cases h2
        · split at h2
          · next hw => rw [← h1]; exact hw
          · cases h2
      · have h2 := congrArg Prod.snd heq
        dsimp only at h2
        split at h2 <;> cases h2
    · cases congrArg Prod.snd h

/-! ### The error and the message of an entry -/

theorem onward_noteError (s : State) (sw status : Nat) : Onward Entry s (noteError s sw status) := by
  unfold noteError
  exact .ite (.refl s) (((onward_setStair _ _ _).trans (onward_bump_entry _ sw (by decide) (by decide) (by decide))).trans
    (onward_setSticky_entry _ _ _))

theorem noteError_ok {status : Nat} (h : status ≤ 1) (s : State) (sw : Nat) : noteError s sw status = s := if_pos h

theorem stair_noteError (s : State) (sw status j : Nat) : stair (noteError s sw status) j
    = if 1 < status ∧ j = sw then { stair s sw with errSeen := true } else stair s j := by
  unfold noteError
  split
  · next h => rw [if_neg (fun c => absurd c.1 (by omega))]
  · next h =>
    rw [stair_congr (setSticky_stairs _ _ _)]
    refine (stair_setStair_eq _ _ _ _).trans ?_
    simp [Nat.lt_of_not_le h]

theorem onward_closeEntry (s : State) (sw e status : Nat) : Onward Entry s (closeEntry s sw e status) := by
  unfold closeEntry
  exact .ite ((onward_noteError _ _ _).trans (onward_signal _ _).entry_of_silent) (onward_noteError _ _ _)

theorem stair_closeEntry (s : State) (sw e status j : Nat) : stair (closeEntry s sw e status) j
    = if 1 < status ∧ j = sw then { stair s sw with errSeen := true } else stair s j := by
  rw [← stair_noteError]
  unfold closeEntry
  dsimp only
  split
  · exact stair_congr (signal_stairs _ _) j
  · rfl

/-! ### Inline entries -/

theorem onward_setStage {F : Scope} (s : State) (sw : Nat) (c : Current) (g : Stage) : Onward F s (setStage s sw c g) := onward_setStair _ _ _

theorem stair_setStage (s : State) (sw : Nat) (c : Current) (g : Stage) (j : Nat) :
    stair (setStage s sw c g) j = if j = sw then { stair s sw with cur := some { c with stage := g } } else stair s j :=
  stair_setStair_eq _ _ _ _

theorem onward_haltList (s : State) (sw : Nat) : Onward Entry s (haltList s sw) := by
  unfold haltList
  exact .ite ((onward_setStair _ _ _).trans (onward_setSticky_entry _ _ _)) (.refl s)

theorem stair_haltList (s : State) (sw j : Nat) : stair (haltList s sw) j
    = if j = sw ∧ (stair s sw).state = .running then { stair s sw with state := .idle, ahead := [] } else stair s j := by
  unfold haltList
  split
  · next h => rw [stair_congr (setSticky_stairs _ _ _), stair_setStair_eq]; simp [h]
  · next h => rw [if_neg fun c => h c.2]

/-- The stairwell's entry taken away. -/
def leaveEntry (s : State) (sw : Nat) : State := setStair s sw { stair s sw with cur := none }

theorem endInline_eq (s : State) (sw : Nat) (c : Current) (status : Nat) :
    endInline s sw c status = (if eOpcode c.img = 0x0C then haltList (leaveEntry (closeEntry s sw c.img status) sw) sw
      else advance (leaveEntry (closeEntry s sw c.img status) sw) sw) := rfl

theorem onward_endInline (s : State) (sw : Nat) (c : Current) (status : Nat) : Onward Entry s (endInline s sw c status) := by
  rw [endInline_eq]
  have k : Onward Entry s (leaveEntry (closeEntry s sw c.img status) sw) := (onward_closeEntry _ _ _ _).trans (onward_setStair _ _ _)
  exact .ite (k.trans (onward_haltList _ _)) (k.trans (onward_advance _ _))

/-- Every stairwell just before the next entry is taken. -/
theorem stair_leaveEntry (s : State) (sw : Nat) (e status j : Nat) : stair (leaveEntry (closeEntry s sw e status) sw) j
    = if j = sw then { stair s sw with errSeen := (stair s sw).errSeen || decide (1 < status), cur := none } else stair s j := by
  unfold leaveEntry
  rw [stair_setStair_eq]
  by_cases hj : j = sw
  · subst hj
    rw [if_pos rfl, if_pos rfl, stair_closeEntry]
    by_cases h : 1 < status
    · rw [if_pos ⟨h, rfl⟩]; simp [h]
    · rw [if_neg fun c => h c.1]; simp [h]
  · rw [if_neg hj, if_neg hj, stair_closeEntry, if_neg fun c => hj c.2]

theorem stair_endInline_ne (s : State) (sw : Nat) (c : Current) (status : Nat) {j : Nat} (hj : j ≠ sw) :
    stair (endInline s sw c status) j = stair s j := by
  rw [endInline_eq]
  split
  · rw [stair_haltList, if_neg fun k => hj k.1, stair_leaveEntry, if_neg hj]
  · rw [stair_advance_ne _ _ hj, stair_leaveEntry, if_neg hj]

/-- The books of the stairwell after an inline entry: its error is noted. -/
theorem books_endInline (s : State) (sw : Nat) (c : Current) (status : Nat) : books (stair (endInline s sw c status) sw)
    = { books (stair s sw) with errSeen := (stair s sw).errSeen || decide (1 < status) } := by
  have k := stair_leaveEntry s sw c.img status sw
  rw [if_pos rfl] at k
  rw [endInline_eq]
  split
  · rw [stair_haltList]
    split <;> rw [k] <;> rfl
  · rw [books_advance, k]; rfl

/-- After an inline entry the stairwell is at no entry, or at one just fetched. -/
theorem cur_endInline (s : State) (sw : Nat) (c : Current) (status : Nat) :
    ∀ d, (stair (endInline s sw c status) sw).cur = some d → d.stage = .fetched := by
  intro d hd
  have k := stair_leaveEntry s sw c.img status sw
  rw [if_pos rfl] at k
  rw [endInline_eq] at hd
  split at hd
  · rw [stair_haltList] at hd
    split at hd <;> (rw [k] at hd; cases hd)
  · rcases cur_advance _ _ d hd with h | h
    · rw [k] at h; cases h
    · exact h

theorem wait_endInline {s : State} {sw : Nat} (c : Current) (status : Nat) (h : (stair s sw).wait = none) :
    (stair (endInline s sw c status) sw).wait = none := by
  have k := stair_leaveEntry s sw c.img status sw
  rw [if_pos rfl] at k
  rw [endInline_eq]
  split
  · rw [stair_haltList]
    split <;> (rw [k]; exact h)
  · refine wait_advance _ _ ?_
    rw [k]; exact h

/-- The stairwell leaves its wait as an inline entry completes. -/
def endWait (s : State) (sw : Nat) : State :=
  setStair s sw { stair s sw with
    wait := none, state := if (stair s sw).state == .waiting then SwState.running else (stair s sw).state }

theorem finishInline_eq (s : State) (sw : Nat) (c : Current) (status : Nat) : finishInline s sw c status
    = match writeRecord (endWait s sw) sw 8 0 c.img c.addr status 0 0 with
      | (s, true) => setStage s sw c (.recording status)
      | (s, false) => endInline s sw c status := rfl

/-- What an inline entry's completion does: its record waits, or the entry has ended. -/
theorem finishInline_cases (s : State) (sw : Nat) (c : Current) (status : Nat) :
    (finishInline s sw c status
        = setStage (writeRecord (endWait s sw) sw 8 0 c.img c.addr status 0 0).1 sw c (.recording status)
      ∧ isHost (eRecord c.img) = true
      ∧ writeWaits (writeRecord (endWait s sw) sw 8 0 c.img c.addr status 0 0).1 (recordOwner sw 8) = true)
    ∨ finishInline s sw c status = endInline (writeRecord (endWait s sw) sw 8 0 c.img c.addr status 0 0).1 sw c status := by
  rw [finishInline_eq]
  split
  · next heq => rw [heq]; exact .inl ⟨rfl, writeRecord_waits heq⟩
  · next heq => rw [heq]; exact .inr rfl

theorem onward_endWait {F : Scope} (s : State) (sw : Nat) : Onward F s (endWait s sw) := onward_setStair _ _ _

theorem onward_finishInline (s : State) (sw : Nat) (c : Current) (status : Nat) : Onward Entry s (finishInline s sw c status) := by
  have k : Onward Entry s (writeRecord (endWait s sw) sw 8 0 c.img c.addr status 0 0).1 :=
    (onward_endWait s sw).trans (onward_writeRecord _ _ _ _ _ _ _ _ _)
  rcases finishInline_cases s sw c status with ⟨h, _, _⟩ | h <;> rw [h]
  · exact k.trans (onward_setStage _ _ _ _)
  · exact k.trans (onward_endInline _ _ _ _)

/-- The stairwell whose inline entry completes, with its record written. -/
theorem woken_record_inline (s : State) (sw : Nat) (c : Current) (status : Nat) :
    Woken { stair (endWait s sw) sw with
        seq := if eRecord c.img = 0 then (stair s sw).seq else ((stair s sw).seq + 1) % 2 ^ 32 }
      (stair (writeRecord (endWait s sw) sw 8 0 c.img c.addr status 0 0).1 sw) := by
  have k := woken_writeRecord (endWait s sw) sw 8 0 c.img c.addr status 0 0 sw
  have hseq : (stair (endWait s sw) sw).seq = (stair s sw).seq := by rw [endWait, stair_setStair]
  by_cases h : eRecord c.img = 0
  · rw [if_neg fun c => c.1 h] at k
    rw [if_pos h, ← hseq]
    exact k
  · rw [if_pos ⟨h, rfl⟩, hseq] at k
    rw [if_neg h]
    exact k

/-- The books of the stairwell whose inline entry completes. -/
theorem books_finishInline (s : State) (sw : Nat) (c : Current) (status : Nat) :
    (stair (finishInline s sw c status) sw).slots = (stair s sw).slots
      ∧ (stair (finishInline s sw c status) sw).scrubbing = (stair s sw).scrubbing
      ∧ (stair (finishInline s sw c status) sw).seq
        = (if eRecord c.img = 0 then (stair s sw).seq else ((stair s sw).seq + 1) % 2 ^ 32)
      ∧ (status ≤ 1 → (stair (finishInline s sw c status) sw).errSeen = (stair s sw).errSeen) := by
  have k := (woken_record_inline s sw c status).books
  have he : stair (endWait s sw) sw = { stair s sw with
      wait := none, state := if (stair s sw).state == .waiting then SwState.running else (stair s sw).state } := by
    rw [endWait, stair_setStair]
  rw [he] at k
  have k1 := congrArg Books.slots k
  have k2 := congrArg Books.scrubbing k
  have k3 := congrArg Books.seq k
  have k4 := congrArg Books.errSeen k
  rcases finishInline_cases s sw c status with ⟨h, _, _⟩ | h <;> rw [h]
  · rw [stair_setStage, if_pos rfl]
    exact ⟨k1, k2, k3, fun _ => k4⟩
  · have b := books_endInline (writeRecord (endWait s sw) sw 8 0 c.img c.addr status 0 0).1 sw c status
    refine ⟨(congrArg Books.slots b).trans k1, (congrArg Books.scrubbing b).trans k2, (congrArg Books.seq b).trans k3, fun hs => ?_⟩
    refine (congrArg Books.errSeen b).trans ?_
    rw [decide_eq_false (by omega), Bool.or_false]
    exact k4

/-- After the completion of an inline entry its record waits, or the stairwell is at no entry, or at one just fetched. -/
theorem cur_finishInline (s : State) (sw : Nat) (c : Current) (status : Nat) :
    ∀ d, (stair (finishInline s sw c status) sw).cur = some d →
      d.stage = .fetched ∨ d = { c with stage := .recording status } := by
  intro d hd
  rcases finishInline_cases s sw c status with ⟨h, _, _⟩ | h <;> rw [h] at hd
  · rw [stair_setStage, if_pos rfl] at hd
    exact .inr (Option.some.inj hd).symm
  · exact .inl (cur_endInline _ _ _ _ d hd)

theorem wait_finishInline (s : State) (sw : Nat) (c : Current) (status : Nat) :
    (stair (finishInline s sw c status) sw).wait = none := by
  have k : (stair (writeRecord (endWait s sw) sw 8 0 c.img c.addr status 0 0).1 sw).wait = none :=
    (woken_record_inline s sw c status).wait_none (by rw [endWait, stair_setStair])
  rcases finishInline_cases s sw c status with ⟨h, _, _⟩ | h <;> rw [h]
  · rw [stair_setStage, if_pos rfl]; exact k
  · exact wait_endInline c status k

end Sys2Proof.Machine

/-! SUPPORT. What the receiving side of a link, with the close of a window among it, leaves of stairwells and of the fields of other
pages (R290, R294, R304 to R306). -/

namespace Sys2Proof.Machine

set_option Elab.async false -- each thread's stack counts against the check's memory limit

@[simp] theorem rd_setStair (s : State) (i : Nat) (w : Stairwell) (p : Page) (f : Fld) : rd (setStair s i w) p f = rd s p f := rfl

/-- A page that the links write beside device memory. -/
def linkwise : Page → Bool
  | .link _ | .window => true
  | _ => false

/-- Fields apart from links, windows and device memory. -/
def Linked : Scope := ⟨fun q g => Apart q g ∧ linkwise q = false, fun _ => True⟩

/-- The device goes on, and the stairwells stay where they are: a wait may be woken at most (R218). -/
structure Steady (F : Scope) (s t : State) : Prop where
  onward : Onward F s t
  woken : ∀ j, Woken (stair s j) (stair t j)

section
variable {F G : Scope} {s t u : State}

theorem Steady.refl (s : State) : Steady F s s := ⟨.refl s, fun _ => .refl _⟩

theorem Steady.trans (h : Steady F s t) (k : Steady F t u) : Steady F s u :=
  ⟨h.onward.trans k.onward, fun j => (h.woken j).trans (k.woken j)⟩

theorem Steady.of (h : Onward F s t) (e : t.stairs = s.stairs) : Steady F s t :=
  ⟨h, fun j => by rw [stair_congr e]; exact .refl _⟩

theorem Steady.ite {c : Prop} [Decidable c] (h : Steady F s t) (k : Steady F s u) : Steady F s (if c then t else u) := by
  split <;> assumption

theorem Steady.fst {α : Type} {r : State × α} {x : α} (h : Steady F s r.1) (e : r = (t, x)) : Steady F s t := by
  rw [e] at h; exact h

theorem steady_foldl {α : Type} {f : State → α → State} (h : ∀ s a, Steady F s (f s a)) (l : List α) (s : State) :
    Steady F s (l.foldl f s) :=
  List.foldlRecOn (motive := Steady F s) l f (.refl s) fun _ hb a _ => hb.trans (h _ a)

end

theorem linkwise_ne_hif {p : Page} (h : linkwise p = true) : p ≠ .hif := by rintro rfl; cases h

theorem Linked.ne {q p : Page} {g : Fld} (h : Linked.field q g) (hp : linkwise p = true) : q ≠ p := by
  rintro rfl
  have h2 := h.2
  rw [hp] at h2
  cases h2

theorem linked_inPage {q : Page} {g : Fld} (h : Linked.field q g) : g.inPage = true := h.1.inPage

theorem linked_apart {q : Page} {g : Fld} (h : Linked.field q g) : Apart q g := h.1

section
variable {p : Page} (hp : linkwise p = true)
include hp

theorem onward_wr_linked (s : State) {f : Fld} (hf : f.inPage = true) (ho : f.off ≠ 0x018) (v : Nat) :
    Onward Linked s (wr s p f v) :=
  onward_wr hf ho (.inl (linkwise_ne_hif hp)) (fun _ _ h => key_ne_of_off hf (linked_inPage h) (.inl (Linked.ne h hp))) s v

theorem steady_bump_linked (s : State) {f : Fld} (hf : f.inPage = true) (ho : f.off ≠ 0x018) : Steady Linked s (bump s p f) :=
  .of (onward_wr_linked hp s hf ho _) rfl

theorem steady_setSticky_linked (s : State) (b : Nat) : Steady Linked s (setSticky s p b) :=
  .of (onward_setSticky (fun _ _ h => ⟨(linked_apart h).1, .inl (Linked.ne h hp)⟩) s b) (setSticky_stairs s p b)

end

theorem steady_same {F : Scope} {s t : State} (hr : t.regs = s.regs) (hh : t.hif = s.hif) (hs : t.stairs = s.stairs) :
    Steady F s t := .of (onward_same hr (by rw [hh]) (by rw [hh]) (attended_of_hif hh)) hs

theorem steady_linkCount (s : State) (l n : Nat) {f : Fld} (hf : f.inPage = true) (ho : f.off ≠ 0x018) :
    Steady Linked s (linkCount s l f n) := by
  unfold linkCount
  exact .ite (.of (onward_wr_linked rfl s hf ho _) rfl) (.refl s)

theorem steady_linkSticky (s : State) (l b : Nat) : Steady Linked s (linkSticky s l b) := by
  unfold linkSticky
  exact .ite (steady_setSticky_linked rfl s b) (.refl s)

theorem steady_setLink {F : Scope} (s : State) (l : Nat) (k : Link) : Steady F s (setLink s l k) := steady_same rfl rfl rfl

theorem steady_setChan {F : Scope} (s : State) (l c : Nat) (x : Channel) : Steady F s (setChan s l c x) := steady_same rfl rfl rfl

theorem steady_setReceive {F : Scope} (s : State) (l c : Nat) (r : Option Receive) : Steady F s (setReceive s l c r) :=
  steady_same rfl rfl rfl

theorem steady_creditBack {F : Scope} (s : State) (l c n : Nat) : Steady F s (creditBack s l c n) := steady_same rfl rfl rfl

theorem steady_updWindow {F : Scope} (s : State) (e : Nat) (f : Window → Window) : Steady F s (updWindow s e f) :=
  steady_same rfl rfl rfl

theorem steady_discardFlits (s : State) (l c n : Nat) : Steady Linked s (discardFlits s l c n) :=
  (steady_linkCount s l n (by decide) (by decide)).trans (steady_creditBack _ _ _ _)

theorem steady_respond (s : State) (l c code : Nat) : Steady Linked s (respond s l c code) := by
  unfold respond
  refine .trans (.ite (.refl s) (steady_setLink s l _)) (.ite (.refl _) ?_)
  exact (steady_linkCount _ l 1 (f := Reg.lnk.NACKS_SENT) (by decide) (by decide)).trans (steady_linkSticky _ _ _)

theorem steady_memRead (s : State) (who : Requester) (a n : Nat) : Steady Memory s (memRead s who a n).1 :=
  .of (onward_memRead s who a n) (memRead_stairs s who a n)

theorem steady_memWrite (s : State) (who : Requester) (a n v : Nat) : Steady Memory s (memWrite s who a n v).1 :=
  ⟨onward_memWrite s who a n v, woken_memWrite s who a n v⟩

theorem Steady.linked {s t : State} (h : Steady Memory s t) : Steady Linked s t :=
  ⟨h.onward.mono fun _ _ => linked_apart, h.woken⟩

theorem steady_updateHeader (s : State) (w : Window) (f : Nat → Nat) : Steady Memory s (updateHeader s w f).1 := by
  unfold updateHeader
  split
  · next heq => exact (steady_memRead s _ _ _).fst heq
  · next heq => exact ((steady_memRead s _ _ _).fst heq).trans (steady_memWrite _ _ _ _ _)

theorem steady_abortSlot (s : State) (l c : Nat) (r : Receive) : Steady Linked s (abortSlot s l c r) := by
  unfold abortSlot
  refine .trans (t := match openEntry s r.entry with
    | some w => _
    | none => s) ?_ (.ite (.refl _) (steady_respond _ _ _ _))
  split
  · exact (steady_updateHeader s _ _).linked.trans (steady_updWindow _ _ _)
  · exact .refl s

theorem steady_settleReceive (s : State) (l c : Nat) : Steady Linked s (settleReceive s l c).1 := by
  unfold settleReceive
  split
  · exact .refl s
  split
  · exact .refl s
  · exact .trans (.ite (steady_abortSlot _ _ _ _) (.refl s)) (steady_setReceive _ _ _ _)

theorem steady_takeHead (s : State) (l c p : Nat) : Steady Linked s (takeHead s l c p) := by
  unfold takeHead
  extract_lets slot w r
  split
  · refine .trans (.trans (.trans (.ite ?_ (.refl s)) (steady_discardFlits _ _ _ _)) (steady_respond _ _ _ _))
      (steady_setReceive _ _ _ _)
    exact (steady_bump_linked (p := .window) rfl s (f := Reg.win.REFUSED) (by decide) (by decide)).trans
      (steady_setSticky_linked rfl _ _)
  · exact ((steady_updWindow _ _ _).trans (steady_creditBack _ _ _ _)).trans (steady_setReceive _ _ _ _)

theorem steady_holdWrites {F : Scope} (s : State) (l c : Nat) (r : Receive) (ws : List (Nat × Nat × Nat)) :
    Steady F s (holdWrites s l c r ws) := by
  unfold holdWrites
  exact .ite ((steady_creditBack _ _ _ _).trans (steady_setReceive _ _ _ _)) (steady_setReceive _ _ _ _)

theorem steady_takeFlit (l c : Nat) (s : State) (f : Nat × Nat) : Steady Linked s (takeFlit l c s f) := by
  unfold takeFlit
  extract_lets x wait
  have hw : ∀ u, Steady Linked u (wait u) := fun u => steady_setChan u l c _
  split
  · exact .ite (steady_takeHead _ _ _ _) (steady_discardFlits _ _ _ _)
  refine .ite (hw s) (.ite ?_ (.ite ?_ (.ite (steady_discardFlits _ _ _ _) ?_)))
  · extract_lets t
    have ht : Steady Linked s t.1 := (steady_setReceive _ _ _ _).trans (steady_settleReceive _ _ _)
    exact .ite (ht.trans (steady_takeHead _ _ _ _)) (ht.trans (hw _))
  · refine .ite ?_ (.ite (steady_setReceive _ _ _ _) ?_)
    · exact ((steady_discardFlits _ _ _ _).trans (steady_setReceive _ _ _ _)).trans (steady_settleReceive _ _ _)
    · exact ((steady_creditBack _ _ _ _).trans (steady_setReceive _ _ _ _)).trans (steady_settleReceive _ _ _)
  · split
    · exact steady_discardFlits _ _ _ _
    · exact .ite (steady_holdWrites _ _ _ _ _) (steady_holdWrites _ _ _ _ _)

theorem steady_settleChannel (s : State) (l c : Nat) : Steady Linked s (settleChannel s l c) := by
  unfold settleChannel drainChannel
  exact .ite ((steady_settleReceive _ _ _).trans ((steady_setChan _ _ _ _).trans (steady_foldl (steady_takeFlit l c) _ _)))
    (steady_settleReceive _ _ _)

theorem steady_closeReceive (s : State) (l c entry : Nat) : Steady Linked s (closeReceive s l c entry) := by
  unfold closeReceive
  split
  · refine .ite ?_ (.refl s)
    exact (((steady_creditBack _ _ _ _).trans (steady_respond _ _ _ _)).trans (steady_setReceive _ _ _ _)).trans
      (steady_settleChannel _ _ _)
  · exact .refl s

end Sys2Proof.Machine

/-! SUPPORT and settlement of O6 and O8: the reading of a list, and the wait of a WAIT_WORD (R214, R216, R218, R219). -/

namespace Sys2Proof.Machine

set_option Elab.async false -- each thread's stack counts against the check's memory limit

/-! ### An entry that starts -/

theorem entries_entry (sw : Nat) : Entry.field (swPage sw) Reg.sw.ENTRIES :=
  ⟨apart_stair sw (by decide), fun _ => by decide⟩

theorem entries_linked (sw : Nat) : Linked.field (swPage sw) Reg.sw.ENTRIES := ⟨apart_stair sw (by decide), rfl⟩

theorem startEntry_stairs (s : State) (sw : Nat) (c : Current) : (startEntry s sw c).stairs = s.stairs := rfl

theorem advanced_startEntry (s : State) (sw : Nat) (c : Current) :
    Advanced s (startEntry s sw c) (swPage sw) Reg.sw.ENTRIES := by
  unfold Advanced startEntry
  rw [rd_wr_field (by decide) (by decide) (by decide), rd_bump]

/-- The fields that faults and completions of entries leave, whatever is posted. -/
def EntryFields : Scope := ⟨Entry.field, fun _ => False⟩

theorem Onward.entryFields {P : Owner → Prop} {s t : State} (h : Onward ⟨Entry.field, P⟩ s t) : Onward EntryFields s t :=
  h.mono (fun _ _ h => h) fun _ h => h.elim

/-- ENTRIES has advanced once, whatever else the start of an entry does. -/
theorem advanced_of_start {s u t : State} {sw : Nat} {c : Current} (hr : u.regs = s.regs)
    (h : Onward EntryFields (startEntry u sw c) t) :
    Advanced s t (swPage sw) Reg.sw.ENTRIES := by
  unfold Advanced
  rw [h.fields _ _ (entries_entry sw), ← rd_congr hr]
  exact advanced_startEntry u sw c

/-! ### A tracked entry takes its slot -/

/-- The state in which a tracked entry has taken its slot. -/
def placeSlot (s : State) (sw : Nat) (c : Current) (k : Nat) (b : Body) : State :=
  setStair (startEntry s sw c) sw { stair s sw with
    cur := none, slots := NatMap.set (stair s sw).slots k { addr := c.addr, img := c.img, killed := false, body := b } }

theorem stair_placeSlot (s : State) (sw : Nat) (c : Current) (k : Nat) (b : Body) : stair (placeSlot s sw c k b) sw
    = { stair s sw with
        cur := none, slots := NatMap.set (stair s sw).slots k { addr := c.addr, img := c.img, killed := false, body := b } } :=
  stair_setStair _ _ _

theorem holdSlot_eq (s : State) (sw : Nat) (c : Current) (k : Nat) (b : Body) :
    holdSlot s sw c k b = advance (placeSlot s sw c k b) sw := rfl

theorem onward_holdSlot (s : State) (sw : Nat) (c : Current) (k : Nat) (b : Body) :
    Onward Entry (startEntry s sw c) (holdSlot s sw c k b) := (onward_setStair _ _ _).trans (onward_advance _ _)

theorem cur_holdSlot (s : State) (sw : Nat) (c : Current) (k : Nat) (b : Body) :
    ∀ d, (stair (holdSlot s sw c k b) sw).cur = some d → d.stage = .fetched := by
  intro d hd
  rcases cur_advance _ _ d hd with h | h
  · exact absurd (h.symm.trans (congrArg Stairwell.cur (stair_placeSlot s sw c k b))) (by simp)
  · exact h

/-- The slots after a tracked entry has taken one. -/
theorem slots_holdSlot (s : State) (sw : Nat) (c : Current) (k : Nat) (b : Body) : (stair (holdSlot s sw c k b) sw).slots
    = NatMap.set (stair s sw).slots k { addr := c.addr, img := c.img, killed := false, body := b } := by
  have e : books (stair (holdSlot s sw c k b) sw) = books (stair (placeSlot s sw c k b) sw) := books_advance _ _ _
  refine (congrArg Books.slots e).trans ?_
  rw [stair_placeSlot]
  rfl

/-! ### Each entry's start -/

/-- What every start of an entry that waited does: ENTRIES advances, and the stairwell is past the wait. -/
def Begun (s t : State) (sw : Nat) (c : Current) : Prop :=
  Advanced s t (swPage sw) Reg.sw.ENTRIES ∧
    ∀ d, (stair t sw).cur = some d → d.stage = .fetched ∨ d = { c with stage := d.stage } ∧ d.stage ≠ .waitPrior ∧ d.stage ≠ .waitSlot

theorem begun_finishInline {s u v : State} {sw : Nat} {c : Current} {status : Nat} (hr : u.regs = s.regs)
    (h : Onward EntryFields (startEntry u sw c) v) : Begun s (finishInline v sw c status) sw c := by
  refine ⟨advanced_of_start hr (h.trans (onward_finishInline _ _ _ _).entryFields), fun d hd => ?_⟩
  rcases cur_finishInline _ _ _ _ d hd with h | h
  · exact .inl h
  · exact .inr ⟨by rw [h], by rw [h]; simp, by rw [h]; simp⟩

theorem begun_holdSlot {s u t : State} {sw k : Nat} {c : Current} {b : Body} (hr : u.regs = s.regs)
    (ho : Onward EntryFields (holdSlot u sw c k b) t) (hc : (stair t sw).cur = (stair (holdSlot u sw c k b) sw).cur) : Begun s t sw c :=
  ⟨advanced_of_start hr ((onward_holdSlot u sw c k b).entryFields.trans ho), fun d hd => .inl (cur_holdSlot u sw c k b d (hc ▸ hd))⟩

/-- The entry is left in a stage of its own. -/
theorem begun_of_stage {s t : State} {sw : Nat} {c : Current} {g : Stage} (ha : Advanced s t (swPage sw) Reg.sw.ENTRIES)
    (hc : (stair t sw).cur = some { c with stage := g }) (hp : g ≠ .waitPrior) (hs : g ≠ .waitSlot) : Begun s t sw c := by
  refine ⟨ha, fun d hd => .inr ?_⟩
  obtain rfl := Option.some.inj (hc.symm.trans hd)
  exact ⟨rfl, hp, hs⟩

theorem begun_startJob {s : State} {sw k : Nat} {c : Current} (hk : freeSlot (stair s sw) = some k) :
    Begun s (startJob s sw c) sw c := by
  unfold startJob
  rw [hk]
  dsimp only
  split
  · exact begun_holdSlot rfl (.refl _) rfl
  · split
    · exact begun_holdSlot rfl (onward_askHost _ _ _ _) rfl
    · exact begun_holdSlot rfl (.refl _) rfl

theorem begun_startFence {s : State} {sw : Nat} {c : Current} (h : (eHaltIfErr c.img && (stair s sw).errSeen) = false) :
    Begun s (startFence s sw c) sw c := by
  unfold startFence
  rw [if_neg (by rw [h]; decide)]
  exact begun_finishInline (u := setStair s sw { stair s sw with errSeen := false }) rfl (.refl _)

theorem onward_readWord {F : Scope} (s : State) (sw e : Nat) : Onward F s (readWord s sw e) := by
  unfold readWord
  exact .ite (onward_askHost _ _ _ _) (.refl s)

theorem readWord_stairs (s : State) (sw e : Nat) : (readWord s sw e).stairs = s.stairs := by
  unfold readWord; split <;> rfl

theorem stair_startWait (s : State) (sw : Nat) (c : Current) : stair (startWait s sw c) sw
    = { stair s sw with
        cur := some { c with stage := .waiting }
        wait := some { reading := true, word := .pending, wake := false, timed := eTimeout c.img != 0 } } := by
  unfold startWait
  rw [stair_congr (readWord_stairs _ _ _), stair_setStair]
  rfl

theorem advanced_startWait (s : State) (sw : Nat) (c : Current) : Advanced s (startWait s sw c) (swPage sw) Reg.sw.ENTRIES :=
  advanced_of_start rfl ((onward_setStair _ _ _).trans (onward_readWord _ _ _))

theorem begun_startWait (s : State) (sw : Nat) (c : Current) : Begun s (startWait s sw c) sw c :=
  begun_of_stage (advanced_startWait s sw c) (by rw [stair_startWait]) (by simp) (by simp)

theorem onward_cmdWrite (s : State) (o : Owner) (a n v : Nat) : Onward EntryFields s (cmdWrite s o a n v).1 := by
  unfold cmdWrite
  split
  · exact (onward_post s _ _).mono (fun _ _ => entry_silent) fun _ h => h.elim
  · exact (onward_memWrite _ _ _ _ _).mono fun _ _ => entry_apart

theorem begun_startWrite (s : State) (sw : Nat) (c : Current) : Begun s (startWrite s sw c) sw c := by
  have k := onward_cmdWrite (startEntry s sw c) (dataOwner sw 8) (eOp0 c.img) (eWidth c.img) (eOp1 c.img % 2 ^ (8 * eWidth c.img))
  unfold startWrite
  dsimp only
  split
  · next heq =>
    refine begun_of_stage (g := .posting) (advanced_of_start rfl ((k.fst heq).trans (onward_setStage _ _ _ _))) ?_ (by simp) (by simp)
    rw [stair_setStage, if_pos rfl]
  · next heq => exact begun_finishInline rfl (k.fst heq)
  · next heq => exact begun_finishInline rfl (k.fst heq)

theorem begun_startSignal (s : State) (sw : Nat) (c : Current) : Begun s (startSignal s sw c) sw c :=
  begun_finishInline (u := s) rfl (.refl _)

theorem begun_startHalt (s : State) (sw : Nat) (c : Current) : Begun s (startHalt s sw c) sw c :=
  begun_finishInline (u := s) rfl (.refl _)

theorem begun_startJump (s : State) (sw : Nat) (c : Current) : Begun s (startJump s sw c) sw c :=
  begun_finishInline (u := s) rfl (onward_wr_entry _ sw (by decide) (by decide) (by decide) _).entryFields

theorem setBody_cur (s : State) (sw slot : Nat) (b : Body) (j : Nat) : (stair (setBody s sw slot b) j).cur = (stair s j).cur := by
  unfold setBody
  dsimp only
  split
  · rw [stair_setStair_eq]
    split
    · next h => rw [h]
    · rfl
  · rfl

theorem onward_setBody {F : Scope} (s : State) (sw slot : Nat) (b : Body) : Onward F s (setBody s sw slot b) := by
  unfold setBody
  dsimp only
  split
  · exact onward_setStair _ _ _
  · exact .refl s

theorem begun_startMove {s : State} {sw k : Nat} {c : Current} (hk : freeSlot (stair s sw) = some k) :
    Begun s (startMove 0 s sw c) sw c := by
  unfold startMove
  rw [hk]
  dsimp only [moveBlocks]
  split
  · exact begun_holdSlot rfl (.refl _) rfl
  · split
    · refine begun_holdSlot rfl ((onward_setBody _ _ _ _).trans (onward_askHost _ _ _ _)) ?_
      rw [askPiece, stair_askHost, setBody_cur]
    · exact begun_holdSlot rfl (.refl _) rfl

theorem steady_setCache {F : Scope} (s : State) (h : Nat) (x : HallCache) : Steady F s (setCache s h x) := steady_same rfl rfl rfl

theorem begun_startFlush {s : State} {sw k : Nat} {c : Current} (hk : freeSlot (stair s sw) = some k) :
    Begun s (startFlush s sw c) sw c := by
  unfold startFlush
  rw [hk]
  dsimp only
  refine begun_holdSlot rfl (steady_foldl (fun s h => steady_setCache s h _) _ _).onward ?_
  exact ((steady_foldl (F := EntryFields) (fun s h => steady_setCache s h _) _ _).woken sw).cur

theorem Onward.of_linked {s t : State} (h : Onward Linked s t) {u : State} {sw : Nat} (k : Advanced u s (swPage sw) Reg.sw.ENTRIES) :
    Advanced u t (swPage sw) Reg.sw.ENTRIES := (h.fields _ _ (entries_linked sw)).trans k

theorem begun_startReduce {s : State} {sw k : Nat} {c : Current} (hk : freeSlot (stair s sw) = some k) :
    Begun s (startReduce s sw c) sw c := by
  have held (u : State) (hu : Onward Memory s u) (hs : u.stairs = s.stairs) (b : Body) (t : State)
      (h : Steady Linked (holdSlot u sw c k b) t) : Begun s t sw c := by
    have ha : Advanced s (holdSlot u sw c k b) (swPage sw) Reg.sw.ENTRIES := by
      have := advanced_of_start (s := u) (u := u) rfl (onward_holdSlot u sw c k b).entryFields
      unfold Advanced at this ⊢
      rw [this, hu.fields _ _ (apart_stair sw (by decide))]
    refine ⟨h.onward.of_linked ha, fun d hd => .inl (cur_holdSlot u sw c k b d ?_)⟩
    rw [← (h.woken sw).cur]; exact hd
  have hm := steady_memRead s .stairwell (eOp0 c.img) 64
  have hs := memRead_stairs s .stairwell (eOp0 c.img) 64
  unfold startReduce
  rw [hk]
  dsimp only
  generalize memRead s .stairwell (eOp0 c.img) 64 = r at hm hs
  obtain ⟨u, g⟩ := r
  cases g with
  | fault a b => exact held u hm.onward hs _ _ (.refl _)
  | ok b =>
    dsimp only
    split
    · exact held u hm.onward hs _ _ (.refl _)
    split
    · exact held u hm.onward hs _ _ (.refl _)
    split
    · exact held u hm.onward hs _ _ (.refl _)
    · exact held u hm.onward hs _ _ (.trans (.ite (steady_linkCount _ _ _ (by decide) (by decide)) (.refl _)) (steady_setChan _ _ _ _))

theorem begun_startClose {s : State} {sw : Nat} {c : Current} (h : (findWindow s (eWtag c.img)).isSome = true) :
    Begun s (startClose s sw c) sw c := by
  obtain ⟨w, hw⟩ := Option.isSome_iff_exists.1 h
  unfold startClose
  rw [hw]
  dsimp only
  have k := (steady_updWindow (F := Linked) (setStage (startEntry s sw c) sw c .closing) w.entry fun w => { w with closing := true }).trans
    (steady_foldl (fun s l => steady_foldl (fun s k => steady_closeReceive s l k w.entry) (List.range 16) s) (List.range 9) _)
  refine begun_of_stage (g := .closing) (k.onward.of_linked (advanced_startEntry s sw c)) ?_ (by simp) (by simp)
  rw [(k.woken sw).cur, stair_setStage, if_pos rfl]

theorem begun_startOpen {s : State} {sw : Nat} {c : Current} (ht : (s.windows.any fun w => w.tag == eWtag c.img) = false)
    (hf : (freeEntry s).isSome = true) : Begun s (startOpen s sw c) sw c := by
  obtain ⟨i, hi⟩ := Option.isSome_iff_exists.1 hf
  have hm : Onward EntryFields (startEntry s sw c) (memWrite (startEntry s sw c) .linkReceiver (eOp0 c.img) 256 0).1 :=
    (onward_memWrite _ _ _ _ _).mono fun _ _ => entry_apart
  unfold startOpen
  dsimp only
  rw [if_neg (by rw [ht]; decide), hi]
  dsimp only
  split
  · next heq => exact begun_finishInline rfl (hm.fst heq)
  · next heq =>
    refine begun_of_stage (g := .opening) (advanced_of_start rfl ((hm.fst heq).trans (onward_same rfl rfl rfl))) ?_ (by simp) (by simp)
    rw [stair_setStage, if_pos rfl]

theorem freeSlot_of_tracked {w : Stairwell} {e : Nat} (h : entryWait w e = none) (ht : tracked (eOpcode e) = true) :
    ∃ k, freeSlot w = some k := by
  unfold entryWait at h
  rw [ht, Bool.true_and] at h
  split at h
  · cases h
  · split at h
    · cases h
    · next hf => exact Option.isSome_iff_exists.1 (Option.isSome_iff_ne_none.2 (by simpa using hf))

/-- Every entry that may start does, by its opcode (R216). -/
theorem begun_startByOpcode {s : State} {sw : Nat} {c : Current} (hw : entryWait (stair s sw) c.img = none)
    (h1 : 1 ≤ eOpcode c.img) (hC : eOpcode c.img ≤ 0x0C)
    (hf : eOpcode c.img = 0x02 → (eHaltIfErr c.img && (stair s sw).errSeen) = false)
    (hc : eOpcode c.img = 0x09 → eClose c.img = true → (findWindow s (eWtag c.img)).isSome = true)
    (ho : eOpcode c.img = 0x09 → eClose c.img = false →
      (s.windows.any fun w => w.tag == eWtag c.img) = false ∧ (freeEntry s).isSome = true) :
    Begun s (startByOpcode s sw c) sw c := by
  have slot := freeSlot_of_tracked hw
  unfold startByOpcode
  generalize eOpcode c.img = op at h1 hC hf hc ho slot
  interval_cases op
  · obtain ⟨k, hk⟩ := slot rfl
    exact begun_startJob hk
  · exact begun_startFence (hf rfl)
  · exact begun_startWait s sw c
  · exact begun_startWrite s sw c
  · exact begun_startSignal s sw c
  · obtain ⟨k, hk⟩ := slot rfl
    exact begun_startMove hk
  · obtain ⟨k, hk⟩ := slot rfl
    exact begun_startMove hk
  · obtain ⟨k, hk⟩ := slot rfl
    exact begun_startFlush hk
  · by_cases hcl : eClose c.img = true
    · rw [if_pos hcl]
      exact begun_startClose (hc rfl hcl)
    · rw [if_neg hcl]
      obtain ⟨hfree, hroom⟩ := ho rfl (by simpa using hcl)
      exact begun_startOpen hfree hroom
  · obtain ⟨k, hk⟩ := slot rfl
    exact begun_startReduce hk
  · exact begun_startJump s sw c
  · exact begun_startHalt s sw c

/-- An entry that waited has started, and the stairwell is no longer at its wait. -/
theorem startsAfterWait {s : State} {sw : Fin 16} {c : Current} (hr : (stair s sw).state = .running)
    (hc : (stair s sw).cur = some c) (hg : c.stage = .waitPrior ∨ c.stage = .waitSlot) (hw : entryWait (stair s sw) c.img = none)
    (hb : Begun s (startByOpcode s sw c) sw c) :
    Completes (.entryStartAfterWait sw) s fun t => Advanced s t (swPage sw) Reg.sw.ENTRIES ∧ (stair t sw).cur ≠ some c := by
  refine ⟨startByOpcode s sw c, ?_, hb.1, fun e => ?_⟩
  · change execEntryStartAfterWait sw s = _
    rw [execEntryStartAfterWait, hc]
    exact if_pos ⟨hr, hg, by rw [hw]; rfl⟩
  · rcases hb.2 c e with h | ⟨_, hp, hs⟩
    · rw [h] at hg; simp at hg
    · exact hg.elim hp hs

/-! ### Entries asked for and come back -/

theorem entryFetch_next {s : State} {sw : Fin 16} {a : Nat} (ha : nextRead s sw = some a) (hl : cmdLegal a = true) :
    Completes (.entryFetch sw) s fun t => t.regs = s.regs ∧ (stair t sw).cur = (stair s sw).cur
      ∧ (stair t sw).ahead = (stair s sw).ahead ++ [{
          addr := a, got := .pending, again := (stair s sw).cur.isNone && (stair s sw).ahead.isEmpty }] := by
  refine ⟨issueFetch s sw, rfl, ?_⟩
  unfold issueFetch
  rw [ha]
  dsimp only
  rw [if_pos hl]
  split
  · rw [stair_askHost, stair_setStair]; exact ⟨rfl, rfl, rfl⟩
  · rw [stair_setStair]; exact ⟨rfl, rfl, rfl⟩

/-- The read of an entry that has come back from device memory. -/
theorem exec_entryReadDone {s : State} {sw : Fin 16} {a : Ahead} {v : Nat}
    (ha : (stair s sw).ahead.find? (fun a => a.got == .pending && !isHost a.addr) = some a)
    (hm : (memRead s .stairwell a.addr 64).2 = .ok v) : exec (.entryReadDone sw) s
      = .next (entryArrives (memRead s .stairwell a.addr 64).1 sw a.addr (.data v)) := by
  change execEntryReadDone sw s = _
  rw [execEntryReadDone, ha]
  dsimp only
  split
  · next u w e =>
    rw [e] at hm
    rw [e]
    cases hm
    rfl
  · next e => rw [e] at hm; cases hm

/-- The entries read ahead, with what one read brought. -/
def arrived (addr : Nat) (got : Fetched) (a : Ahead) : Ahead := if a.addr = addr ∧ a.got = .pending then { a with got := got } else a

theorem entryArrives_eq (s : State) (sw addr : Nat) (got : Fetched) : entryArrives s sw addr got
    = advance (setStair s sw { stair s sw with ahead := (stair s sw).ahead.map (arrived addr got) }) sw := rfl

/-- A running stairwell at no entry takes the first one read ahead. -/
theorem advance_takes {s : State} {sw : Nat} {a : Ahead} {rest : List Ahead} {e : Nat} (hr : (stair s sw).state = .running)
    (hc : (stair s sw).cur = none) (ha : (stair s sw).ahead = a :: rest) (hg : a.got = .data e) :
    advance s sw = setStair s sw { stair s sw with cur := some { addr := a.addr, img := e, stage := .fetched }, ahead := rest } := by
  unfold advance
  dsimp only
  rw [hr, hc, ha]
  dsimp only
  rw [hg]

/-- A stairwell at an entry stays there. -/
theorem advance_at {s : State} {sw : Nat} {c : Current} (hc : (stair s sw).cur = some c) : advance s sw = s := by
  rcases advance_cases s sw with e | ⟨_, hn, _⟩
  · exact e
  · rw [hc] at hn; cases hn

theorem entryReadDone_first {s : State} {sw : Fin 16} {a : Ahead} {rest : List Ahead} {v : Nat}
    (hr : (stair s sw).state = .running) (hc : (stair s sw).cur = none) (ha : (stair s sw).ahead = a :: rest)
    (hg : a.got = .pending) (hh : isHost a.addr = false) (hm : (memRead s .stairwell a.addr 64).2 = .ok v) :
    Completes (.entryReadDone sw) s fun t =>
      (stair t sw).cur = some { addr := a.addr, img := v, stage := .fetched } ∧ (stair t sw).ahead.length = rest.length := by
  refine ⟨_, exec_entryReadDone (by rw [ha]; simp [hg, hh]) hm, ?_⟩
  have hs := stair_congr (memRead_stairs s .stairwell a.addr 64) sw
  generalize (memRead s .stairwell a.addr 64).1 = u at hs ⊢
  rw [entryArrives_eq, advance_takes (a := { a with got := .data v }) (rest := rest.map (arrived a.addr (.data v))) (e := v)]
  · exact ⟨by rw [stair_setStair], by rw [stair_setStair]; exact List.length_map _⟩
  · rw [stair_setStair, hs]; exact hr
  · rw [stair_setStair, hs]; exact hc
  · rw [stair_setStair, hs, ha]
    exact congrArg (· :: _) (if_pos ⟨rfl, hg⟩)
  · rfl

theorem entryReadDone_ahead {s : State} {sw : Fin 16} {c : Current} {a : Ahead} {v : Nat} (hc : (stair s sw).cur = some c)
    (ha : (stair s sw).ahead.find? (fun a => a.got == .pending && !isHost a.addr) = some a)
    (hm : (memRead s .stairwell a.addr 64).2 = .ok v) :
    Completes (.entryReadDone sw) s fun t => (stair t sw).cur = some c ∧ { a with got := .data v } ∈ (stair t sw).ahead := by
  refine ⟨_, exec_entryReadDone ha hm, ?_⟩
  have hs := stair_congr (memRead_stairs s .stairwell a.addr 64) sw
  generalize (memRead s .stairwell a.addr 64).1 = u at hs ⊢
  rw [entryArrives_eq, advance_at (c := c) (by rw [stair_setStair, hs]; exact hc)]
  beta_reduce
  rw [stair_setStair, hs]
  refine ⟨hc, List.mem_map.2 ⟨a, List.mem_of_find?_eq_some ha, if_pos ⟨rfl, ?_⟩⟩⟩
  have := List.find?_some ha
  simp only [Bool.and_eq_true, beq_iff_eq] at this
  exact this.1

theorem badOpcode_faults {s : State} {sw : Fin 16} {c : Current} (hc : (stair s sw).cur = some c)
    (hr : (stair s sw).state = .running) (hg : c.stage = .fetched) (ho : ¬(1 ≤ eOpcode c.img ∧ eOpcode c.img ≤ 0x0C)) :
    Completes (.badOpcode sw) s fun t => FaultedAt t sw c.addr 0x01 := by
  refine ⟨swFault s sw c.addr 0x01, ?_, faultedAt_swFault s sw _ (by decide)⟩
  change execBadOpcode sw s = _
  rw [execBadOpcode, hc]
  exact if_pos ⟨hr, hg, ho⟩

/-- Settles O6: an entry is asked for, comes back, and one that waited starts by its opcode. -/
theorem listReadingCompletes : Obligations.ListReadingCompletes :=
  ⟨fun _ _ _ => entryFetch_next, fun _ _ _ _ _ => entryReadDone_first, fun _ _ _ _ _ => entryReadDone_ahead,
    fun _ _ _ hr hc hg hw h1 hC hf hcl ho => startsAfterWait hr hc hg hw (begun_startByOpcode hw h1 hC hf hcl ho),
    fun _ _ _ => badOpcode_faults⟩

/-! ### The wait of a WAIT_WORD -/

theorem rereadWord_stair (s : State) (sw e : Nat) (w : Wait) : stair (rereadWord s sw e w) sw
    = { stair s sw with wait := some { w with reading := true, word := .pending, wake := false } } := by
  unfold rereadWord setWait
  rw [stair_congr (readWord_stairs _ _ _), stair_setStair]

theorem waitWordWake_reads {s : State} {sw : Fin 16} {c : Current} {w : Wait} (hc : (stair s sw).cur = some c)
    (hw : (stair s sw).wait = some w) (hh : isHost (eOp0 c.img) = false) (hk : w.wake = true) (hr : w.reading = false) :
    Completes (.waitWordWake sw) s fun t =>
      (stair t sw).wait = some { w with reading := true, word := .pending, wake := false }
        ∧ (stair t sw).cur = some c ∧ t.regs = s.regs ∧ t.dram = s.dram ∧ t.hif = s.hif := by
  refine ⟨rereadWord s sw c.img w, ?_, ?_, ?_, ?_⟩
  · change execWaitWordWake sw s = _
    rw [execWaitWordWake, hc, hw]
    exact if_pos (by simp [hh, hk, hr])
  · rw [rereadWord_stair]
  · rw [rereadWord_stair]; exact hc
  · unfold rereadWord readWord
    rw [if_neg (by rw [hh]; decide)]
    exact ⟨rfl, rfl, rfl⟩

theorem waitWordPollTimer_asks {s : State} {sw : Fin 16} {c : Current} {w : Wait} (hc : (stair s sw).cur = some c)
    (hw : (stair s sw).wait = some w) (hh : isHost (eOp0 c.img) = true) (hr : w.reading = false) :
    Completes (.waitWordPollTimer sw) s fun t =>
      (stair t sw).wait = some { w with reading := true, word := .pending, wake := false }
        ∧ t.hif.reads = s.hif.reads ++ [{
            who := .waitWord sw, addr := hostAddr (eOp0 c.img), len := eWidth c.img, tag := none }]
        ∧ t.regs = s.regs ∧ t.dram = s.dram := by
  refine ⟨rereadWord s sw c.img w, ?_, ?_, ?_⟩
  · change execWaitWordPollTimer sw s = _
    rw [execWaitWordPollTimer, hc, hw]
    exact if_pos (by simp [hh, hr])
  · rw [rereadWord_stair]
  · unfold rereadWord readWord
    rw [if_pos hh]
    exact ⟨rfl, rfl, rfl⟩

/-- The word comes to its evaluation by a state whose registers of stairwells and whose stairwells are those before. -/
theorem exec_waitWordEvaluate {s : State} {sw : Fin 16} {c : Current} {w : Wait} {v : Nat} (e : Bool)
    (hc : (stair s sw).cur = some c) (hw : (stair s sw).wait = some w) (hr : w.reading = true) (hv : WordRead s c w v) :
    ∃ u, exec (.waitWordEvaluate sw e) s = .next (judgeWord u sw c v e) ∧ Steady Memory s u ∧ u.stairs = s.stairs := by
  change ∃ u, execWaitWordEvaluate sw e s = _ ∧ _
  rw [execWaitWordEvaluate, hc, hw]
  dsimp only
  rw [hr]
  unfold WordRead at hv
  by_cases hh : isHost (eOp0 c.img) = true
  · rw [if_pos hh] at hv
    rw [if_pos hh, hv]
    exact ⟨s, rfl, .refl s, rfl⟩
  · rw [if_neg hh] at hv
    rw [if_neg hh]
    have hm := steady_memRead s .stairwell (eOp0 c.img) (eWidth c.img)
    have hs := memRead_stairs s .stairwell (eOp0 c.img) (eWidth c.img)
    generalize memRead s .stairwell (eOp0 c.img) (eWidth c.img) = r at hm hs hv
    obtain ⟨u, g⟩ := r
    obtain rfl : g = .ok v := hv
    exact ⟨u, rfl, hm, hs⟩

section
variable {s u : State} {sw : Fin 16} {c : Current} {w : Wait} {v : Nat} {e : Bool} (hw : (stair u sw).wait = some w)
include hw

theorem judgeWord_met (hm : condMet c.img v = true) : judgeWord u sw c v e = finishInline u sw c 0 := by
  unfold judgeWord
  rw [hw]
  exact if_pos hm

theorem judgeWord_expired (hm : condMet c.img v = false) (he : (e && w.timed) = true) :
    judgeWord u sw c v e = swFault u sw c.addr 0x05 := by
  unfold judgeWord
  rw [hw]
  exact (if_neg (by rw [hm]; decide)).trans (if_pos he)

/-- An unsatisfied word: the first one is counted as an episode, and the stairwell waits. -/
theorem judgeWord_unmet (hm : condMet c.img v = false) (he : (e && w.timed) = false) :
    judgeWord u sw c v e
      = setStair (if (stair u sw).state = .running then bump u (swPage sw) Reg.sw.WAIT_EPISODES else u) sw
          { stair u sw with state := .waiting, wait := some { w with reading := false, word := .pending } } := by
  unfold judgeWord
  rw [hw]
  refine ((if_neg (by rw [hm]; decide)).trans (if_neg (by rw [he]; decide))).trans ?_
  dsimp only
  by_cases h : (stair u sw).state = .running
  · simp [h]
    rfl
  · simp [h]

end

theorem waitWordEvaluate_met {s : State} {sw : Fin 16} (e : Bool) {c : Current} {w : Wait} {v : Nat}
    (hc : (stair s sw).cur = some c) (hw : (stair s sw).wait = some w) (hr : w.reading = true) (hv : WordRead s c w v)
    (hm : condMet c.img v = true) : Completes (.waitWordEvaluate sw e) s fun t =>
      (stair t sw).wait = none ∧ (stair t sw).cur ≠ some { c with stage := .waiting } := by
  obtain ⟨u, hx, _, hs⟩ := exec_waitWordEvaluate e hc hw hr hv
  refine ⟨_, hx, ?_⟩
  rw [judgeWord_met (by rw [stair_congr hs]; exact hw) hm]
  refine ⟨wait_finishInline u sw c 0, fun h => ?_⟩
  rcases cur_finishInline u sw c 0 _ h with h | h
  · cases h
  · exact absurd (congrArg Current.stage h) (by simp)

theorem waitWordEvaluate_unmet {s : State} {sw : Fin 16} (e : Bool) {c : Current} {w : Wait} {v : Nat}
    (hc : (stair s sw).cur = some c) (hw : (stair s sw).wait = some w) (hr : w.reading = true) (hv : WordRead s c w v)
    (hm : condMet c.img v = false) (he : (e && w.timed) = false) : Completes (.waitWordEvaluate sw e) s fun t =>
      (stair t sw).state = .waiting ∧ (stair t sw).cur = some c
        ∧ (stair t sw).wait = some { w with reading := false, word := .pending }
        ∧ rd t (swPage sw) Reg.sw.WAIT_EPISODES
          = if (stair s sw).state = .running then min (rd s (swPage sw) Reg.sw.WAIT_EPISODES + 1) (2 ^ 32 - 1)
            else rd s (swPage sw) Reg.sw.WAIT_EPISODES := by
  obtain ⟨u, hx, hk, hs⟩ := exec_waitWordEvaluate e hc hw hr hv
  have hu : stair u sw = stair s sw := stair_congr hs sw
  refine ⟨_, hx, ?_⟩
  rw [judgeWord_unmet (by rw [hu]; exact hw) hm he]
  beta_reduce
  rw [stair_setStair, hu]
  refine ⟨rfl, hc, rfl, ?_⟩
  rw [rd_setStair]
  split
  · rw [rd_bump, hk.onward.fields _ _ (apart_stair sw (by decide))]
    rfl
  · rw [hk.onward.fields _ _ (apart_stair sw (by decide))]

theorem waitWordEvaluate_expired {s : State} {sw : Fin 16} {c : Current} {w : Wait} {v : Nat} (hc : (stair s sw).cur = some c)
    (hw : (stair s sw).wait = some w) (hr : w.reading = true) (ht : w.timed = true) (hv : WordRead s c w v)
    (hm : condMet c.img v = false) : Completes (.waitWordEvaluate sw true) s fun t => FaultedAt t sw c.addr 0x05 := by
  obtain ⟨u, hx, _, hs⟩ := exec_waitWordEvaluate true hc hw hr hv
  refine ⟨_, hx, ?_⟩
  rw [judgeWord_expired (by rw [stair_congr hs]; exact hw) hm (by rw [ht]; rfl)]
  exact faultedAt_swFault u sw _ (by decide)

theorem waitTimeout_faults {s : State} {sw : Fin 16} {c : Current} {w : Wait} (hc : (stair s sw).cur = some c)
    (hw : (stair s sw).wait = some w) (ht : w.timed = true) :
    Completes (.waitTimeout sw) s fun t => FaultedAt t sw c.addr 0x05 := by
  refine ⟨swFault s sw c.addr 0x05, ?_, faultedAt_swFault s sw _ (by decide)⟩
  change execWaitTimeout sw s = _
  rw [execWaitTimeout, hc, hw]
  exact if_pos ht

/-- Settles O8: the wait reads its word again, evaluates it, and times out. -/
theorem waitWordCompletes : Obligations.WaitWordCompletes :=
  ⟨fun _ _ _ _ => waitWordWake_reads, fun _ _ _ _ => waitWordPollTimer_asks, fun _ e _ _ _ _ => waitWordEvaluate_met e,
    fun _ e _ _ _ _ => waitWordEvaluate_unmet e, fun _ _ _ _ _ => waitWordEvaluate_expired, fun _ _ _ _ => waitTimeout_faults⟩

end Sys2Proof.Machine

/-! SUPPORT. Accesses of device memory depend on the memory, its codes and its map alone (R264, R267, R270, R274, R275). -/

namespace Sys2Proof.Machine

set_option Elab.async false -- each thread's stack counts against the check's memory limit

/-- Two states with the same memory: every byte and its code, and where every address lies. -/
structure SameBytes (s t : State) : Prop where
  dram : t.dram = s.dram
  codes : t.codes = s.codes
  migration : ∀ st, (Machine.dram t st).migration = (Machine.dram s st).migration
  map : rd t .memMap Reg.mm.MAP = rd s .memMap Reg.mm.MAP
  stack : ∀ st, ∀ f ∈ [Reg.sc.RETIRED, Reg.sc.DIE_MAP, Reg.sc.MIG_PTR], rd t (scPage st) f = rd s (scPage st) f

section
variable {s t u v : State}

theorem SameBytes.refl (s : State) : SameBytes s s := ⟨rfl, rfl, fun _ => rfl, rfl, fun _ _ _ => rfl⟩

theorem SameBytes.symm (h : SameBytes s t) : SameBytes t s :=
  ⟨h.dram.symm, h.codes.symm, fun st => (h.migration st).symm, h.map.symm, fun st f hf => (h.stack st f hf).symm⟩

theorem SameBytes.trans (h : SameBytes s t) (k : SameBytes t u) : SameBytes s u :=
  ⟨k.dram.trans h.dram, k.codes.trans h.codes, fun st => (k.migration st).trans (h.migration st), k.map.trans h.map,
    fun st f hf => (k.stack st f hf).trans (h.stack st f hf)⟩

/-- Two states with the same memory keep it as each goes on. -/
theorem SameBytes.both (h : SameBytes s t) (k : SameBytes s u) (l : SameBytes t v) : SameBytes u v := (k.symm.trans h).trans l

theorem SameBytes.ite {c : Prop} [Decidable c] (h : SameBytes s t) (k : SameBytes s u) : SameBytes s (if c then t else u) := by
  split <;> assumption

/-- What changes neither memory, nor stacks, nor registers. -/
theorem sameBytes_same (hd : t.dram = s.dram) (hc : t.codes = s.codes) (hm : t.drams = s.drams) (hr : t.regs = s.regs) :
    SameBytes s t :=
  ⟨hd, hc, fun st => by rw [Machine.dram, Machine.dram, hm], rd_congr hr _ _, fun _ _ _ => rd_congr hr _ _⟩

theorem SameMap.sameBytes (h : SameMap s t) (hd : t.dram = s.dram) (hc : t.codes = s.codes) : SameBytes s t :=
  ⟨hd, hc, fun st => by rw [Machine.dram, Machine.dram, h.drams], h.map, h.stack⟩

section
variable (h : SameBytes s t)
include h

theorem SameBytes.place (a : Nat) : place t a = place s a := by
  unfold Machine.place waysLog2
  rw [h.map]

theorem SameBytes.cellOf (st l : Nat) : cellOf t st l = cellOf s st l := by
  unfold Machine.cellOf physDie
  rw [h.stack st Reg.sc.MIG_PTR (by simp), h.stack st Reg.sc.DIE_MAP (by simp), h.migration]

theorem SameBytes.cellAt (a : Nat) : cellAt t a = cellAt s a := by
  unfold Sys2Proof.cellAt
  rw [h.place, h.cellOf]

theorem SameBytes.present (a : Nat) : present t a = present s a := by
  unfold Machine.present diePresent
  rw [h.place, h.stack _ _ (by simp)]

theorem SameBytes.codeOf (c : Nat) : codeOf t c = codeOf s c := codeOf_congr h.codes c

theorem SameBytes.storeSector (c img : Nat) (poison : Bool) : SameBytes (storeSector s c img poison) (storeSector t c img poison) :=
  ⟨by unfold Machine.storeSector setCode; rw [h.dram], by unfold Machine.storeSector setCode; simp only [h.codes],
    h.migration, h.map, h.stack⟩

end

/-- A register that places no address is written. -/
theorem sameBytes_wr (s : State) {p : Page} {f : Fld} (hf : f.inPage = true) (hm : p ≠ .memMap)
    (ho : [Reg.sc.RETIRED.off, Reg.sc.DIE_MAP.off, Reg.sc.MIG_PTR.off].contains f.off = false) (v : Nat) :
    SameBytes s (wr s p f v) := by
  simp only [List.contains_eq_mem, List.mem_cons, List.not_mem_nil, or_false, decide_eq_false_iff_not, not_or] at ho
  obtain ⟨h1, h2, h3⟩ := ho
  refine ⟨rfl, rfl, fun _ => rfl, rd_wr_ne _ _ _ _ _ _ (key_ne_of_off hf (by decide) (.inl (Ne.symm hm))), fun u g hg => ?_⟩
  simp only [List.mem_cons, List.not_mem_nil, or_false] at hg
  rcases hg with rfl | rfl | rfl <;>
    exact rd_wr_ne _ _ _ _ _ _ (key_ne_of_off hf (by decide) (.inr (Ne.symm (by assumption))))

theorem sameBytes_bump (s : State) {p : Page} {f : Fld} (hf : f.inPage = true) (hm : p ≠ .memMap)
    (ho : [Reg.sc.RETIRED.off, Reg.sc.DIE_MAP.off, Reg.sc.MIG_PTR.off].contains f.off = false) :
    SameBytes s (bump s p f) := sameBytes_wr s hf hm ho _

end

/-- A change of stacks that begins and ends no migration. -/
theorem sameBytes_setDram (s : State) (st : Nat) {d : Stack} (h : d.migration = (dram s st).migration) :
    SameBytes s (setDram s st d) := by
  refine ⟨rfl, rfl, fun i => ?_, rfl, fun _ _ _ => rfl⟩
  unfold setDram
  unfold Machine.dram at h ⊢
  dsimp only
  rw [NatMap.get?_set]
  split
  · next e => rw [e]; exact h
  · rfl

theorem sameBytes_setSticky (s : State) (p : Page) (b : Nat) : SameBytes s (setSticky s p b) := by
  have leaves (q : Page) (g : Fld) (hq : q ≠ .hif) (hg : g.inPage = true) (ho : g.off ≠ 0x018) :
      rd (setSticky s p b) q g = rd s q g := by
    by_cases e : q = p
    · subst e; exact rd_setSticky_own hq hg s b ho
    · exact rd_setSticky_page hq hg s p b e
  refine ⟨setSticky_dram _ _ _, setSticky_codes _ _ _, fun st => by rw [dram, dram, setSticky_drams],
    leaves _ _ (by decide) (by decide) (by decide), fun st f hf => ?_⟩
  simp only [List.mem_cons, List.not_mem_nil, or_false] at hf
  rcases hf with rfl | rfl | rfl <;> exact leaves _ _ (by simp [scPage]) (by decide) (by decide)

/-! ### What accesses do beside the memory -/

theorem sameBytes_fcEnter (s : State) (src code detail : Nat) : SameBytes s (fcEnter s src code detail) := by
  unfold fcEnter
  split
  · exact sameBytes_same rfl rfl rfl rfl
  split
  · exact (sameBytes_bump s (by decide) (by decide) (by decide)).trans (sameBytes_setSticky _ _ _)
  · dsimp only
    refine .ite (.trans ?_ (sameBytes_setSticky _ _ _)) ?_ <;> exact sameBytes_same rfl rfl rfl rfl

theorem sameBytes_report (s : State) (p : Page) (code detail : Nat) : SameBytes s (report s p code detail) := by
  unfold report
  split
  · exact sameBytes_fcEnter _ _ _ _
  · exact .refl s

theorem scPage_ne_memMap (st : Nat) : scPage st ≠ .memMap := by simp [scPage]

theorem sameBytes_queueRow (s : State) (st row : Nat) : SameBytes s (queueRow s st row) := by
  unfold queueRow
  exact .ite (sameBytes_setDram s st rfl) (.refl s)

theorem sameBytes_chargeLane (s : State) (st c symbol flips : Nat) : SameBytes s (chargeLane s st c symbol flips) := by
  unfold chargeLane
  split
  · exact .refl s
  · exact sameBytes_setDram s st rfl

theorem sameBytes_noteCorrection (s : State) (st c symbol flips : Nat) : SameBytes s (noteCorrection s st c symbol flips) := by
  unfold noteCorrection
  extract_lets t d t1 n t2
  have h0 : SameBytes s t :=
    (sameBytes_bump s (by decide) (scPage_ne_memMap st) (by decide)).trans (sameBytes_setSticky _ _ _)
  have h1 : SameBytes t t1 := sameBytes_setDram t st rfl
  have h2 : SameBytes t1 t2 := .ite (sameBytes_queueRow _ _ _) (.refl t1)
  exact ((h0.trans h1).trans h2).trans (sameBytes_chargeLane _ _ _ _ _)

theorem sameBytes_crossFifo (s : State) (p : Page) (n : Nat) : SameBytes s (crossFifo s p n) := sameBytes_same rfl rfl rfl rfl

theorem sameBytes_noteBad (s : State) (who : Requester) (st kind : Nat) : SameBytes s (noteBad s who st kind) := by
  unfold noteBad
  extract_lets f b
  refine .trans (.ite (.refl s) (sameBytes_bump s ?_ (scPage_ne_memMap st) ?_)) (sameBytes_setSticky _ _ _) <;>
    (unfold f; split <;> decide)

theorem sameBytes_countRead (s : State) (who : Requester) (st : Nat) : SameBytes s (countRead s who st) :=
  .ite (.refl s) (sameBytes_bump s (f := Reg.sc.READS) (by decide) (scPage_ne_memMap st) (by decide))

theorem sameBytes_countWrite (s : State) (who : Requester) (st : Nat) : SameBytes s (countWrite s who st) :=
  .ite (.refl s) (sameBytes_bump s (f := Reg.sc.WRITES) (by decide) (scPage_ne_memMap st) (by decide))

theorem sameBytes_latchFault (s : State) (p : Page) (hp : p ≠ .memMap) (a kind w r : Nat) : SameBytes s
    (if on s p Reg.sc.FAULT_INFO_VALID then s else
      bump (wr (wr (wr (wr (wr (wr s p Reg.sc.FAULT_ADDR a) p Reg.sc.FAULT_INFO_KIND kind) p Reg.sc.FAULT_INFO_WRITE w)
        p Reg.sc.FAULT_INFO_REQUESTER r) p Reg.sc.FAULT_INFO_VALID 1) p Reg.hdr.FAULT_CODE (0x80 + kind)) p
        Reg.hdr.FAULT_COUNT) :=
  .ite (.refl s) ((((((
    (sameBytes_wr s (by decide) hp (by decide) _).trans (sameBytes_wr _ (by decide) hp (by decide) _)).trans
    (sameBytes_wr _ (by decide) hp (by decide) _)).trans (sameBytes_wr _ (by decide) hp (by decide) _)).trans
    (sameBytes_wr _ (by decide) hp (by decide) _)).trans (sameBytes_wr _ (by decide) hp (by decide) _)).trans
    (sameBytes_bump _ (by decide) hp (by decide)))

theorem sameBytes_scFault (s : State) (who : Requester) (a kind : Nat) (write : Bool) : SameBytes s (scFault s who a kind write) := by
  have hp := scPage_ne_memMap (place s a).1
  have denied (u : State) : SameBytes u (if kind = 0 then setSticky u (scPage (place s a).1) Sticky.sc.ACCESS_FAULT else u) :=
    .ite (sameBytes_setSticky _ _ _) (.refl u)
  unfold scFault
  exact (((sameBytes_bump s (by decide) hp (by decide)).trans (denied _)).trans
    (sameBytes_latchFault _ _ hp _ _ _ _)).trans (sameBytes_report _ _ _ _)

theorem sameBytes_wakeWaiters (s : State) (a n : Nat) : SameBytes s (wakeWaiters s a n) := sameBytes_same rfl rfl rfl rfl

/-! ### Accesses of two states with the same memory -/

/-- Two results of an access: the same answer, and the same memory after it. -/
def Alike {α : Type} (r q : State × α) : Prop := SameBytes r.1 q.1 ∧ q.2 = r.2

theorem Alike.eq {α : Type} {r q : State × α} (h : Alike r q) {t : State} {x : α} (e : r = (t, x)) :
    SameBytes t q.1 ∧ q = (q.1, x) := by
  subst e
  obtain ⟨u, y⟩ := q
  exact ⟨h.1, by rw [show y = x from h.2]⟩

theorem alike_readStored {s t : State} (h : SameBytes s t) (st c : Nat) : Alike (readStored s st c) (readStored t st c) := by
  have hx : SameBytes (crossFifo s (scPage st) 1) (crossFifo t (scPage st) 1) :=
    h.both (sameBytes_crossFifo _ _ _) (sameBytes_crossFifo _ _ _)
  unfold readStored
  dsimp only
  generalize crossFifo s (scPage st) 1 = u at hx ⊢
  generalize crossFifo t (scPage st) 1 = v at hx ⊢
  rw [hx.codeOf, hx.dram]
  split
  · exact ⟨hx.both (sameBytes_queueRow _ _ _) (sameBytes_queueRow _ _ _), rfl⟩
  · exact ⟨hx, rfl⟩
  · exact ⟨(hx.storeSector _ _ _).both (sameBytes_noteCorrection _ _ _ _ _) (sameBytes_noteCorrection _ _ _ _ _), rfl⟩

theorem alike_readSector {s t : State} (h : SameBytes s t) (who : Requester) (a : Nat) :
    Alike (readSector s who a) (readSector t who a) := by
  by_cases hp : present s a = true
  · have hq : present t a = true := (h.present a).trans hp
    rw [readSector_present who hp, readSector_present who hq, h.place, h.cellAt]
    have k := alike_readStored (h.both (sameBytes_countRead s who (place s a).1) (sameBytes_countRead t who (place s a).1))
      (place s a).1 (cellAt s a)
    generalize readStored (countRead s who (place s a).1) (place s a).1 (cellAt s a) = r at k
    generalize readStored (countRead t who (place s a).1) (place s a).1 (cellAt s a) = q at k
    obtain ⟨u, v, f⟩ := r
    obtain ⟨u', v', f'⟩ := q
    obtain ⟨hu, he⟩ := k
    cases he
    cases f with
    | none => exact ⟨hu, rfl⟩
    | some f => exact ⟨hu.both (sameBytes_noteBad _ _ _ _) (sameBytes_noteBad _ _ _ _), rfl⟩
  · rw [readSector_absent who hp, readSector_absent who (by rw [h.present]; exact hp)]
    exact ⟨h, rfl⟩

theorem alike_writeSector {s t : State} (h : SameBytes s t) (who : Requester) (a lo n v : Nat) (poison : Bool) :
    Alike (writeSector s who a lo n v poison) (writeSector t who a lo n v poison) := by
  by_cases hp : present s a = true
  · have hq : present t a = true := (h.present a).trans hp
    rw [writeSector_present who hp, writeSector_present who hq, h.place, h.cellAt]
    have hc := h.both (sameBytes_countWrite s who (place s a).1) (sameBytes_countWrite t who (place s a).1)
    generalize countWrite s who (place s a).1 = x at hc ⊢
    generalize countWrite t who (place s a).1 = y at hc ⊢
    split
    · exact ⟨(hc.both (sameBytes_crossFifo _ _ _) (sameBytes_crossFifo _ _ _)).storeSector _ _ _, rfl⟩
    · have hm := scPage_ne_memMap (place s a).1
      have k := alike_readStored (hc.both (sameBytes_bump x (f := Reg.sc.RMW) (by decide) hm (by decide))
        (sameBytes_bump y (f := Reg.sc.RMW) (by decide) hm (by decide))) (place s a).1 (cellAt s a)
      generalize readStored (bump x (scPage (place s a).1) Reg.sc.RMW) (place s a).1 (cellAt s a) = r at k
      generalize readStored (bump y (scPage (place s a).1) Reg.sc.RMW) (place s a).1 (cellAt s a) = q at k
      obtain ⟨u, w, f⟩ := r
      obtain ⟨u', w', f'⟩ := q
      obtain ⟨hu, he⟩ := k
      cases he
      cases f with
      | none => exact ⟨hu.storeSector _ _ _, rfl⟩
      | some f => exact ⟨hu.both (sameBytes_noteBad _ _ _ _) (sameBytes_noteBad _ _ _ _), rfl⟩
  · rw [writeSector_absent who hp, writeSector_absent who (by rw [h.present]; exact hp)]
    exact ⟨h, rfl⟩

theorem alike_readSectors (who : Requester) (n : Nat) : ∀ {s t : State} (_ : SameBytes s t) (a : Nat),
    Alike (readSectors who a n s) (readSectors who a n t) := by
  induction n with
  | zero => intro s t h a; exact ⟨h, rfl⟩
  | succ n ih =>
    intro s t h a
    obtain ⟨h1, e1⟩ := alike_readSector h who a
    obtain ⟨h2, e2⟩ := ih h1 (a + 32)
    rw [readSectors, readSectors]
    generalize readSector s who a = r at h1 e1 h2 e2 ⊢
    generalize readSector t who a = q at h1 e1 h2 e2 ⊢
    obtain ⟨u, v, k⟩ := r
    obtain ⟨u', v', k'⟩ := q
    cases e1
    dsimp only at h2 e2 ⊢
    generalize readSectors who (a + 32) n u = r at h2 e2 ⊢
    generalize readSectors who (a + 32) n u' = q at h2 e2 ⊢
    obtain ⟨w, x, j⟩ := r
    obtain ⟨w', x', j'⟩ := q
    cases e2
    exact ⟨h2, rfl⟩

theorem alike_writeSectors (who : Requester) (poison : Bool) (stop n : Nat) : ∀ {s t : State} (_ : SameBytes s t) (a v : Nat),
    Alike (writeSectors who poison a stop n v s) (writeSectors who poison a stop n v t) := by
  induction n with
  | zero => intro s t h a v; exact ⟨h, rfl⟩
  | succ n ih =>
    intro s t h a v
    rw [writeSectors, writeSectors]
    generalize a / 32 * 32 = base
    generalize min (stop - a) (base + 32 - a) = m
    obtain ⟨h1, e1⟩ := alike_writeSector h who base (a - base) m (v % 2 ^ (8 * m)) poison
    obtain ⟨h2, e2⟩ := ih h1 (base + 32) (v / 2 ^ (8 * m))
    generalize writeSector s who base (a - base) m (v % 2 ^ (8 * m)) poison = r at h1 e1 h2 e2 ⊢
    generalize writeSector t who base (a - base) m (v % 2 ^ (8 * m)) poison = q at h1 e1 h2 e2 ⊢
    obtain ⟨u, k⟩ := r
    obtain ⟨u', k'⟩ := q
    cases e1
    dsimp only at h2 e2 ⊢
    generalize writeSectors who poison (base + 32) stop n (v / 2 ^ (8 * m)) u = r at h2 e2 ⊢
    generalize writeSectors who poison (base + 32) stop n (v / 2 ^ (8 * m)) u' = q at h2 e2 ⊢
    obtain ⟨w, j⟩ := r
    obtain ⟨w', j'⟩ := q
    cases e2
    exact ⟨h2, rfl⟩

theorem alike_memRead {s t : State} (h : SameBytes s t) (who : Requester) (a n : Nat) : Alike (memRead s who a n) (memRead t who a n) := by
  have k := alike_readSectors who (ceilDiv (a + n - a / 32 * 32) 32) h (a / 32 * 32)
  unfold memRead
  dsimp only
  split
  · next heq =>
    obtain ⟨hu, e⟩ := k.eq heq
    rw [e]
    exact ⟨hu.both (sameBytes_scFault _ _ _ _ _) (sameBytes_scFault _ _ _ _ _), rfl⟩
  · next heq =>
    obtain ⟨hu, e⟩ := k.eq heq
    rw [e]
    exact ⟨hu, rfl⟩

theorem alike_memWritePoison {s t : State} (h : SameBytes s t) (who : Requester) (a n v : Nat) (poison : Bool) :
    Alike (memWritePoison s who a n v poison) (memWritePoison t who a n v poison) := by
  have k := alike_writeSectors who poison (a + n) (ceilDiv (a + n - a / 32 * 32) 32) h a v
  unfold memWritePoison
  split
  · next heq =>
    obtain ⟨hu, e⟩ := k.eq heq
    rw [e]
    refine ⟨?_, rfl⟩
    exact (hu.both (sameBytes_scFault _ _ _ _ _) (sameBytes_scFault _ _ _ _ _)).both (sameBytes_wakeWaiters _ _ _)
      (sameBytes_wakeWaiters _ _ _)
  · next heq =>
    obtain ⟨hu, e⟩ := k.eq heq
    rw [e]
    exact ⟨hu.both (sameBytes_wakeWaiters _ _ _) (sameBytes_wakeWaiters _ _ _), rfl⟩

theorem alike_memWrite {s t : State} (h : SameBytes s t) (who : Requester) (a n v : Nat) :
    Alike (memWrite s who a n v) (memWrite t who a n v) := alike_memWritePoison h who a n v false

end Sys2Proof.Machine

/-! SUPPORT and settlement of O7: JOB, FENCE, WAIT_WORD, WRITE_WORD and SIGNAL (R213, R217 to R220). -/

namespace Sys2Proof.Machine

set_option Elab.async false -- each thread's stack counts against the check's memory limit

theorem linkUp_field : Entry.field .hif Reg.hif.HIF_STATE_UP := ⟨⟨by decide, rfl⟩, fun h => by cases h⟩

theorem Onward.linkUp {F : Scope} {s t : State} (h : Onward F s t) (hF : F.field .hif Reg.hif.HIF_STATE_UP) :
    linkUp t = linkUp s := by
  unfold Machine.linkUp on
  rw [h.fields _ _ hF]

/-- The entry at hand starts as its command says. -/
theorem beginEntry_at {s : State} {sw : Fin 16} {op : Nat} {c : Current} (h : AtEntry s sw op c)
    (body : State → Nat → Current → State) : beginEntry s sw op body = body s sw c := by
  obtain ⟨hr, hc, hg, ho, hf, hw⟩ := h
  unfold beginEntry
  rw [hc]
  dsimp only
  rw [if_pos ⟨hr, hg, ho⟩, hf]
  dsimp only
  rw [hw]

/-! ### JOB, FENCE and WAIT_WORD -/

theorem stair_startJob {s : State} {sw k : Nat} {c : Current} (hk : freeSlot (stair s sw) = some k) :
    NatMap.get? (stair (startJob s sw c) sw).slots k = some {
      addr := c.addr, img := c.img, killed := false, body := if eOp0 c.img % 256 = 0 then .descriptor else .offered none } := by
  unfold startJob
  rw [hk]
  dsimp only
  by_cases h : eOp0 c.img % 256 = 0
  · rw [if_neg (not_not.2 h), if_pos h]
    have e : (stair (if isHost (eOp0 c.img) then askHost (holdSlot s sw c k .descriptor) (.descriptor sw k) (eOp0 c.img) 256
        else holdSlot s sw c k .descriptor) sw) = stair (holdSlot s sw c k .descriptor) sw := by split <;> rfl
    rw [e, slots_holdSlot, NatMap.get?_set, if_pos rfl]
  · rw [if_pos h, if_neg h, slots_holdSlot, NatMap.get?_set, if_pos rfl]

theorem job_completes {s : State} {sw : Fin 16} {c : Current} {k : Nat} (h : AtEntry s sw 0x01 c)
    (hk : freeSlot (stair s sw) = some k) : Completes (.job sw) s fun t => Advanced s t (swPage sw) Reg.sw.ENTRIES
      ∧ SlotHolds t sw k c fun b => b = if eOp0 c.img % 256 = 0 then .descriptor else .offered none :=
  ⟨_, congrArg Host.Outcome.next (beginEntry_at h startJob), (begun_startJob hk).1, _, stair_startJob hk, rfl, rfl, rfl⟩

theorem startFence_ok {s : State} {sw : Nat} {c : Current} (he : (eHaltIfErr c.img && (stair s sw).errSeen) = false) :
    startFence s sw c
      = finishInline (startEntry (setStair s sw { stair s sw with errSeen := false }) sw c) sw c 0 :=
  if_neg (by rw [he]; decide)

theorem fence_completes {s : State} {sw : Fin 16} {c : Current} (h : AtEntry s sw 0x02 c)
    (he : (eHaltIfErr c.img && (stair s sw).errSeen) = false) : Completes (.fence sw) s fun t =>
      Advanced s t (swPage sw) Reg.sw.ENTRIES ∧ (stair t sw).errSeen = false ∧ (stair t sw).slots = (stair s sw).slots := by
  refine ⟨_, congrArg Host.Outcome.next (beginEntry_at h startFence), (begun_startFence he).1, ?_⟩
  rw [startFence_ok he]
  obtain ⟨hslots, _, _, herr⟩ := books_finishInline (startEntry (setStair s sw { stair s sw with errSeen := false }) sw c) sw c 0
  have e : stair (startEntry (setStair s sw { stair s sw with errSeen := false }) sw c) sw = { stair s sw with errSeen := false } :=
    stair_setStair _ _ _
  rw [e] at hslots herr
  exact ⟨herr (by decide), hslots⟩

theorem fence_faults {s : State} {sw : Fin 16} {c : Current} (h : AtEntry s sw 0x02 c) (hh : eHaltIfErr c.img = true)
    (he : (stair s sw).errSeen = true) : Completes (.fence sw) s fun t => FaultedAt t sw c.addr 0x08 := by
  refine ⟨_, congrArg Host.Outcome.next (beginEntry_at h startFence), ?_⟩
  rw [show startFence s sw c = swFault (setStair s sw { stair s sw with errSeen := false }) sw c.addr 0x08 from
    if_pos (by rw [hh, he]; rfl)]
  exact faultedAt_swFault _ sw _ (by decide)

theorem waitWord_completes {s : State} {sw : Fin 16} {c : Current} (h : AtEntry s sw 0x03 c) :
    Completes (.waitWord sw) s fun t => Advanced s t (swPage sw) Reg.sw.ENTRIES
      ∧ (stair t sw).cur = some { c with stage := .waiting }
      ∧ (stair t sw).wait = some { reading := true, word := .pending, wake := false, timed := decide (eTimeout c.img ≠ 0) }
      ∧ t.dram = s.dram := by
  refine ⟨_, congrArg Host.Outcome.next (beginEntry_at h startWait), advanced_startWait s sw c, ?_, ?_, ?_⟩
  · rw [stair_startWait]
  · rw [stair_startWait]
    exact congrArg (fun b => some (Wait.mk true .pending false b)) (Bool.eq_iff_iff.2 (by simp))
  · unfold startWait readWord
    split <;> rfl

/-! ### WRITE_WORD (R220) -/

/-- What WRITE_WORD writes. -/
def wordWrite (s : State) (sw : Nat) (c : Current) : State × Written :=
  cmdWrite (startEntry s sw c) (dataOwner sw 8) (eOp0 c.img) (eWidth c.img) (eOp1 c.img % 2 ^ (8 * eWidth c.img))

theorem startWrite_eq (s : State) (sw : Nat) (c : Current) : startWrite s sw c = match wordWrite s sw c with
    | (s, .waits) => setStage s sw c .posting
    | (s, .done) => finishInline s sw c 0
    | (s, .lost) => finishInline s sw c (if isHost (eOp0 c.img) then 0 else 0x28) := rfl

theorem cmdWrite_host {a : Nat} (h : isHost a = true) (s : State) (o : Owner) (n v : Nat) : cmdWrite s o a n v
    = (post s (some o) (.hostWr (hostAddr a) n v), if !linkUp s then .lost
        else if writeWaits (post s (some o) (.hostWr (hostAddr a) n v)) o then .waits else .done) := if_pos h

theorem cmdWrite_device {a : Nat} (h : isHost a = false) (s : State) (o : Owner) (n v : Nat) : cmdWrite s o a n v
    = ((memWrite s .stairwell a n v).1, if (memWrite s .stairwell a n v).2.isOk then .done else .lost) :=
  if_neg (by rw [h]; decide)

theorem linkUp_startEntry (s : State) (sw : Nat) (c : Current) : linkUp (startEntry s sw c) = linkUp s := by
  unfold linkUp startEntry on
  rw [rd_wr_other _ _ _ _ _ _ (by simp [swPage]) (by decide) (by decide), rd_bump_other _ _ _ _ _ (by simp [swPage]) (by decide) (by decide)]

theorem owner_dataOwner (sw slot : Nat) : Entry.owner (dataOwner sw slot) := rfl

theorem writeWord_host {s : State} {sw : Fin 16} {c : Current} (h : AtEntry s sw 0x04 c) (hh : isHost (eOp0 c.img) = true)
    (hup : linkUp s = true) : Completes (.writeWord sw) s fun t => Advanced s t (swPage sw) Reg.sw.ENTRIES
      ∧ Packet.hostWr (hostAddr (eOp0 c.img)) (eWidth c.img) (eOp1 c.img % 2 ^ (8 * eWidth c.img)) ∈ toHost t
      ∧ (writeWaits t (dataOwner sw 8) = true → (stair t sw).cur = some { c with stage := .posting }) := by
  refine ⟨_, congrArg Host.Outcome.next (beginEntry_at h startWrite), (begun_startWrite s sw c).1, ?_⟩
  have hu : linkUp (startEntry s sw c) = true := (linkUp_startEntry s sw c).trans hup
  have hp := leaves_post hu (some (dataOwner sw 8))
    (.hostWr (hostAddr (eOp0 c.img)) (eWidth c.img) (eOp1 c.img % 2 ^ (8 * eWidth c.img)))
  rw [startWrite_eq, wordWrite, cmdWrite_host hh, hu]
  generalize post _ _ _ = u at hp
  by_cases hw : writeWaits u (dataOwner sw 8) = true
  · simp only [hw, Bool.not_true, if_true, Bool.false_eq_true, if_false]
    exact ⟨hp, fun _ => by rw [stair_setStage, if_pos rfl]⟩
  · simp only [hw, Bool.not_true, Bool.false_eq_true, if_false]
    exact ⟨(onward_finishInline u sw c 0).packets _ hp,
      fun k => absurd ((onward_finishInline u sw c 0).waits _ (owner_dataOwner _ _) k) hw⟩

/-- WRITE_WORD to device memory is over at once. -/
theorem startWrite_device {c : Current} (hh : isHost (eOp0 c.img) = false) (s : State) (sw : Nat) {m : State × Got}
    (hm : m = memWrite (startEntry s sw c) .stairwell (eOp0 c.img) (eWidth c.img) (eOp1 c.img % 2 ^ (8 * eWidth c.img))) :
    startWrite s sw c = finishInline m.1 sw c (if m.2.isOk then 0 else 0x28) := by
  rw [startWrite_eq, wordWrite, cmdWrite_device hh, ← hm]
  cases m.2.isOk
  · simp [hh]
  · rfl

theorem endInline_dram (s : State) (sw : Nat) (c : Current) (status : Nat) : (endInline s sw c status).dram = s.dram :=
  endInline_keeps (closed_dram s.dram _ (by decide)) s sw c status rfl

/-- The memory after an inline entry is that after its record. -/
theorem finishInline_dram (s : State) (sw : Nat) (c : Current) (status : Nat) : (finishInline s sw c status).dram
    = (writeRecord (endWait s sw) sw 8 0 c.img c.addr status 0 0).1.dram := by
  rcases finishInline_cases s sw c status with ⟨e, _, _⟩ | e <;> rw [e]
  · rfl
  · exact endInline_dram _ _ _ _

/-- The memory after a record is that after its write. -/
theorem writeRecord_dram {e : Nat} (h : eRecord e ≠ 0) (s : State) (sw own slot addr status flags work : Nat) :
    (writeRecord s sw own slot e addr status flags work).1.dram = (recordWrite s sw own slot e addr status flags work).1.dram := by
  rw [writeRecord_some h]
  split
  · next heq => rw [heq]; rfl
  · next heq => rw [heq]
  · next heq => rw [heq]; exact setSticky_dram _ _ _

theorem writeWord_unrecorded {s : State} {sw : Fin 16} {c : Current} (h : AtEntry s sw 0x04 c)
    (hh : isHost (eOp0 c.img) = false) (hr : eRecord c.img = 0) : Completes (.writeWord sw) s fun t =>
      Advanced s t (swPage sw) Reg.sw.ENTRIES ∧ t.dram = (memWrite (startEntry s sw c) .stairwell (eOp0 c.img) (eWidth c.img)
        (eOp1 c.img % 2 ^ (8 * eWidth c.img))).1.dram := by
  refine ⟨_, congrArg Host.Outcome.next (beginEntry_at h startWrite), (begun_startWrite s sw c).1, ?_⟩
  rw [startWrite_device hh s sw rfl, finishInline_dram, writeRecord_none hr]
  rfl

theorem sameBytes_recordReady (s : State) (sw : Nat) : SameBytes s (nextSeq (endWait s sw) sw) := sameBytes_same rfl rfl rfl rfl

theorem post_dram (s : State) (o : Option Owner) (p : Packet) : (post s o p).dram = s.dram :=
  post_keeps (closed_dram s.dram _ (by decide)) s o p rfl

theorem packets_writeRecord {e : Nat} (h : eRecord e ≠ 0) (s : State) (sw own slot addr status flags work : Nat) :
    ∀ p ∈ toHost (recordWrite s sw own slot e addr status flags work).1,
      p ∈ toHost (writeRecord s sw own slot e addr status flags work).1 := by
  intro p hp
  rw [writeRecord_some h]
  split
  · next heq => rw [heq] at hp; exact (onward_bump_entry _ sw (by decide) (by decide) (by decide)).packets p hp
  · next heq => rw [heq] at hp; exact hp
  · next heq => rw [heq] at hp; exact (onward_setSticky_entry _ _ _).packets p hp

/-- The packets after an inline entry hold those after its record. -/
theorem packets_finishInline (s : State) (sw : Nat) (c : Current) (status : Nat) :
    ∀ p ∈ toHost (writeRecord (endWait s sw) sw 8 0 c.img c.addr status 0 0).1, p ∈ toHost (finishInline s sw c status) := by
  intro p hp
  rcases finishInline_cases s sw c status with ⟨e, _, _⟩ | e <;> rw [e]
  · exact hp
  · exact (onward_endInline _ _ _ _).packets p hp

theorem seq_endWait (s : State) (sw : Nat) : (stair (endWait s sw) sw).seq = (stair s sw).seq := by rw [endWait, stair_setStair]

/-- The record of an inline entry goes to device memory. -/
theorem record_device {c : Current} (hr : isHost (eRecord c.img) = false) (hn : eRecord c.img ≠ 0) (s : State) (sw status : Nat) :
    (finishInline s sw c status).dram = (memWrite s .stairwell (eRecord c.img) 32
      (recordImage sw 0 c.img c.addr status 0 0 (((stair s sw).seq + 1) % 2 ^ 32))).1.dram := by
  rw [finishInline_dram, writeRecord_dram hn, recordWrite, cmdWrite_device hr, seq_endWait]
  exact (alike_memWrite (sameBytes_recordReady s sw) _ _ _ _).1.dram

/-- The record of an inline entry goes to host memory. -/
theorem record_host {c : Current} (hr : isHost (eRecord c.img) = true) (hn : eRecord c.img ≠ 0) (s : State) (sw status : Nat) :
    (finishInline s sw c status).dram = s.dram
      ∧ (linkUp s = true → Packet.hostWr (hostAddr (eRecord c.img)) 32
          (recordImage sw 0 c.img c.addr status 0 0 (((stair s sw).seq + 1) % 2 ^ 32)) ∈ toHost (finishInline s sw c status)) := by
  rw [finishInline_dram, writeRecord_dram hn, recordWrite, cmdWrite_host hr]
  refine ⟨post_dram _ _ _, fun hu => packets_finishInline s sw c status _ (packets_writeRecord hn _ _ _ _ _ _ _ _ _ ?_)⟩
  rw [recordWrite, cmdWrite_host hr, seq_endWait]
  exact leaves_post (show linkUp (nextSeq (endWait s sw) sw) = true from hu) _ _

theorem writeWord_recorded {s : State} {sw : Fin 16} {c : Current} {m : State × Got} {record : Nat} (h : AtEntry s sw 0x04 c)
    (hh : isHost (eOp0 c.img) = false) (hn : eRecord c.img ≠ 0)
    (hm : m = memWrite (startEntry s sw c) .stairwell (eOp0 c.img) (eWidth c.img) (eOp1 c.img % 2 ^ (8 * eWidth c.img)))
    (hrec : record = recordImage sw 0 c.img c.addr (if m.2.isOk then 0 else 0x28) 0 0 (((stair s sw).seq + 1) % 2 ^ 32)) :
    Completes (.writeWord sw) s fun t =>
      Advanced s t (swPage sw) Reg.sw.ENTRIES ∧ (stair t sw).seq = ((stair s sw).seq + 1) % 2 ^ 32
        ∧ (isHost (eRecord c.img) = false → t.dram = (memWrite m.1 .stairwell (eRecord c.img) 32 record).1.dram)
        ∧ (isHost (eRecord c.img) = true → t.dram = m.1.dram
          ∧ (linkUp s = true → Packet.hostWr (hostAddr (eRecord c.img)) 32 record ∈ toHost t)) := by
  refine ⟨_, congrArg Host.Outcome.next (beginEntry_at h startWrite), (begun_startWrite s sw c).1, ?_⟩
  have hseq : (stair m.1 sw).seq = (stair s sw).seq := by
    rw [hm]
    exact congrArg Books.seq (woken_memWrite _ _ _ _ _ _).books
  have hup : linkUp m.1 = linkUp s := by
    rw [hm, (onward_memWrite _ _ _ _ _).linkUp linkUp_field.1, linkUp_startEntry]
  rw [startWrite_device hh s sw hm]
  obtain ⟨_, _, hs, _⟩ := books_finishInline m.1 sw c (if m.2.isOk then 0 else 0x28)
  rw [if_neg hn, hseq] at hs
  refine ⟨hs, fun hd => ?_, fun hd => ?_⟩
  · rw [record_device hd hn, hrec, hseq]
  · obtain ⟨h1, h2⟩ := record_host hd hn m.1 sw (if m.2.isOk then 0 else 0x28)
    rw [hrec, ← hseq, ← hup]
    exact ⟨h1, h2⟩

/-! ### SIGNAL (R220) -/

/-- The registers of a vector but its PENDING bit are silent. -/
theorem silent_vector {v : Nat} (hv : v < 64) :
    ∀ g ∈ [Reg.hif.VEC_ADDR v, Reg.hif.VEC_DATA v, Reg.hif.VEC_CTRL_MASK v], Entry.field .hif g := by
  intro g hg
  refine ⟨⟨?_, rfl⟩, fun h => by cases h⟩
  simp only [List.mem_cons, List.not_mem_nil, or_false] at hg
  rcases hg with rfl | rfl | rfl <;>
    simp [silent, Fld.inPage, signalOffsets, Reg.hif.VEC_ADDR, Reg.hif.VEC_DATA, Reg.hif.VEC_CTRL_MASK] <;>
    exact ⟨decide_eq_true (by omega), by omega⟩

theorem eVec_lt (e : Nat) : eVec e < 64 := Nat.mod_lt _ (by decide)

/-- What a vector does of its message: it is pending, or the message is handed to the stream. -/
def Signalled (s t : State) (v : Nat) : Prop :=
  (rd s .hif (Reg.hif.VEC_CTRL_MASK v) ≠ 0 → rd t .hif (Reg.hif.VEC_CTRL_PENDING v) = 1)
    ∧ (rd s .hif (Reg.hif.VEC_CTRL_MASK v) = 0 → rd s .hif (Reg.hif.VEC_ADDR v) % 4 = 0 → linkUp s = true →
      Packet.msg (rd s .hif (Reg.hif.VEC_ADDR v)) (rd s .hif (Reg.hif.VEC_DATA v)) ∈ toHost t)

theorem signalled_signal (s : State) {v : Nat} (hv : v < 64) : Signalled s (signal s v) v := by
  have e : v % 64 = v := Nat.mod_eq_of_lt hv
  refine ⟨fun hm => ?_, fun hm ha hu => ?_⟩
  · have := pendingOf_signal (s := s) (v := v) (by rw [e]; exact hm)
    rwa [pendingOf, e] at this
  · have := leaves_signal (s := s) (v := v) (by rw [e]; exact hm) (by rw [e]; exact ha) hu
    rwa [e] at this

theorem Signalled.onward {s u t : State} {v : Nat} (hv : v < 64) (h : Signalled s u v) (k : Onward Entry u t) : Signalled s t v := by
  refine ⟨fun hm => ?_, fun hm ha hu => k.packets _ (h.2 hm ha hu)⟩
  have := k.pends v (by rw [pendingOf, Nat.mod_eq_of_lt hv]; exact h.1 hm)
  rwa [pendingOf, Nat.mod_eq_of_lt hv] at this

theorem Signalled.before {s u t : State} {v : Nat} (hv : v < 64) (k : Onward Entry s u) (h : Signalled u t v) : Signalled s t v := by
  have same (g : Fld) (hg : g ∈ [Reg.hif.VEC_ADDR v, Reg.hif.VEC_DATA v, Reg.hif.VEC_CTRL_MASK v]) :=
    k.fields .hif g (silent_vector hv g hg)
  unfold Signalled at h ⊢
  rw [same _ (by simp), same _ (by simp), same _ (by simp), k.linkUp linkUp_field] at h
  exact h

/-- The end of a SIGNAL sends its message. -/
theorem signalled_endInline {c : Current} (ho : eOpcode c.img = 0x05) (s : State) (sw : Nat) :
    Signalled s (endInline s sw c 0) (eVec c.img) := by
  have hc : closeEntry s sw c.img 0 = signal s (eVec c.img) := by
    unfold closeEntry
    rw [noteError_ok (by decide)]
    exact if_pos (by rw [ho]; simp)
  rw [endInline_eq, if_neg (by rw [ho]; decide), hc]
  exact (signalled_signal s (eVec_lt _)).onward (eVec_lt _) ((onward_setStair _ _ _).trans (onward_advance _ _))

theorem onward_startEntry_vectors (s : State) (sw : Nat) (c : Current) {v : Nat} (hv : v < 64) {t : State}
    (h : Signalled (startEntry s sw c) t v) : Signalled s t v := by
  have same (g : Fld) (hg : g.inPage = true) : rd (startEntry s sw c) .hif g = rd s .hif g := by
    unfold startEntry
    rw [rd_wr_other _ _ _ _ _ _ (by simp [swPage]) (by decide) hg, rd_bump_other _ _ _ _ _ (by simp [swPage]) (by decide) hg]
  have vec (g : Fld) (hg : g ∈ [Reg.hif.VEC_ADDR v, Reg.hif.VEC_DATA v, Reg.hif.VEC_CTRL_MASK v]) :=
    same g (silent_vector hv g hg).1.inPage
  unfold Signalled at h ⊢
  rw [vec _ (by simp), vec _ (by simp), vec _ (by simp), linkUp_startEntry] at h
  exact h

theorem signal_completes {s : State} {sw : Fin 16} {c : Current} (h : AtEntry s sw 0x05 c) :
    Completes (.signal sw) s fun t => Advanced s t (swPage sw) Reg.sw.ENTRIES
      ∧ (RecordWaits t sw c ∨
        (rd s .hif (Reg.hif.VEC_CTRL_MASK (eVec c.img)) ≠ 0 → rd t .hif (Reg.hif.VEC_CTRL_PENDING (eVec c.img)) = 1)
          ∧ (rd s .hif (Reg.hif.VEC_CTRL_MASK (eVec c.img)) = 0 → rd s .hif (Reg.hif.VEC_ADDR (eVec c.img)) % 4 = 0 →
            linkUp s = true →
            Packet.msg (rd s .hif (Reg.hif.VEC_ADDR (eVec c.img))) (rd s .hif (Reg.hif.VEC_DATA (eVec c.img)))
              ∈ toHost t)) := by
  refine ⟨_, congrArg Host.Outcome.next (beginEntry_at h startSignal), (begun_startSignal s sw c).1, ?_⟩
  obtain ⟨_, _, _, ho, _⟩ := h
  unfold startSignal
  rcases finishInline_cases (startEntry s sw c) sw c 0 with ⟨e, hr, hw⟩ | e <;> rw [e]
  · refine .inl ⟨hr, hw, ?_⟩
    rw [stair_setStage, if_pos rfl]
  · refine .inr (onward_startEntry_vectors s sw c (eVec_lt _) ?_)
    exact .before (eVec_lt _) ((onward_endWait _ _).trans (onward_writeRecord _ _ _ _ _ _ _ _ _)) (signalled_endInline ho _ _)

/-- Settles O7: each simple entry starts at once, with what it leaves in its slot, its wait, memory or the stream. -/
theorem simpleEntriesComplete : Obligations.SimpleEntriesComplete :=
  ⟨fun _ _ _ _ => job_completes, fun _ _ _ => fence_completes, fun _ _ _ => fence_faults, fun _ _ _ => waitWord_completes,
    fun _ _ _ => writeWord_host, fun _ _ _ => writeWord_unrecorded, fun _ _ _ _ _ => writeWord_recorded,
    fun _ _ _ => signal_completes⟩

end Sys2Proof.Machine

/-! SUPPORT and settlement of O9: the reading of a descriptor, and FILL and COPY block by block (R213, R221, R230). -/

namespace Sys2Proof.Machine

set_option Elab.async false -- each thread's stack counts against the check's memory limit

/-! ### The work of a slot -/

theorem endEntry_eq (s : State) (sw slot status flags work : Nat) :
    endEntry s sw slot status flags work = setBody s sw slot (.ended status flags work) := rfl

theorem setBody_held {s : State} {sw slot : Nat} {e : Tracked} (h : NatMap.get? (stair s sw).slots slot = some e) (b : Body) :
    setBody s sw slot b = setStair s sw { stair s sw with slots := NatMap.set (stair s sw).slots slot { e with body := b } } := by
  unfold setBody
  dsimp only
  rw [h]

theorem slot_setBody {s : State} {sw slot : Nat} {e : Tracked} (h : NatMap.get? (stair s sw).slots slot = some e) (b : Body) :
    NatMap.get? (stair (setBody s sw slot b) sw).slots slot = some { e with body := b } := by
  rw [setBody_held h, stair_setStair, NatMap.get?_set, if_pos rfl]

theorem slots_memRead (s : State) (who : Requester) (a n j : Nat) :
    (stair (memRead s who a n).1 j).slots = (stair s j).slots := by rw [stair_congr (memRead_stairs s who a n)]

/-- A descriptor that comes back to an entry that a KILL has marked ends it, with status KILLED (R230). -/
theorem descriptorReadDone_killed {s t : State} {sw : Fin 16} {slot : Fin 8} {e : Tracked} {d : Nat}
    (he : NatMap.get? (stair s sw).slots slot = some e) (hb : e.body = .descriptor) (hh : isHost (eOp0 e.img) = false)
    (hk : e.killed = true) (hm : (memRead s .stairwell (eOp0 e.img) 256).2 = .ok d)
    (h : exec (.descriptorReadDone sw slot) s = .next t) :
    NatMap.get? (stair t sw).slots slot = some { e with body := .ended 0x30 0 0 } := by
  have hs := slots_memRead s .stairwell (eOp0 e.img) 256 sw
  have hx : exec (.descriptorReadDone sw slot) s
      = .next (descriptorArrives (memRead s .stairwell (eOp0 e.img) 256).1 sw slot (some d)) := by
    change execDescriptorReadDone sw slot s = _
    rw [execDescriptorReadDone, he]
    dsimp only
    rw [if_pos ⟨hb, by simp [hh]⟩]
    generalize memRead s .stairwell (eOp0 e.img) 256 = r at hm
    obtain ⟨u, g⟩ := r
    obtain rfl : g = .ok d := hm
    rfl
  obtain rfl := Host.Outcome.next.inj (hx.symm.trans h)
  generalize (memRead s .stairwell (eOp0 e.img) 256).1 = u at hs ⊢
  rw [← hs] at he
  unfold descriptorArrives
  rw [he]
  dsimp only
  rw [if_neg (by rw [hb]; simp), if_pos hk]
  exact slot_setBody he _

/-! ### A killed JOB -/

/-- A JOB whose descriptor is being read, and which a KILL has marked. -/
def killedJob : Tracked := { addr := 4096, img := 1, killed := true, body := .descriptor }

/-- The device with that JOB in slot 0 of stairwell 0. -/
def holdsKilledJob : State := setStair State.reset 0 { Stairwell.reset with slots := [(0, killedJob)] }

/-- Refutes O9: an entry that a KILL has marked is not offered when its descriptor comes back. -/
theorem not_trackedEntriesComplete : ¬ Obligations.TrackedEntriesComplete := by
  rintro ⟨descriptor, -⟩
  have held : NatMap.get? (stair holdsKilledJob 0).slots 0 = some killedJob := by decide +kernel
  have read : (memRead holdsKilledJob .stairwell (eOp0 killedJob.img) 256).2 = .ok 0 := by decide +kernel
  obtain ⟨t, ht, offered⟩ := descriptor 0 0 killedJob 0 holdsKilledJob held rfl (by decide) read
  have ended := descriptorReadDone_killed (sw := 0) (slot := 0) held rfl (by decide) rfl read ht
  exact absurd (Option.some.inj (offered.symm.trans ended)) (by decide)

end Sys2Proof.Machine

/-! SUPPORT. What an access through a hall cache leaves (R253 to R259): galleries, jobs and dressers, and the registers away from
the memory's side. -/

namespace Sys2Proof.Machine

set_option Elab.async false -- each thread's stack counts against the check's memory limit

/-! ### The hall cache and the registers -/

theorem onward_setCache {F : Scope} (s : State) (h : Nat) (x : HallCache) : Onward F s (setCache s h x) := onward_same rfl rfl rfl

theorem onward_putLine {F : Scope} (s : State) (h : Nat) (x : Line) : Onward F s (putLine s h x) := onward_same rfl rfl rfl

theorem onward_dropLine {F : Scope} (s : State) (h n : Nat) : Onward F s (dropLine s h n) := onward_same rfl rfl rfl

/-- The fields apart from device memory and from the hall caches, and every owner. -/
def Cached : Scope := ⟨fun q g => Apart q g ∧ ∀ h, q ≠ hcPage h, fun _ => True⟩

theorem Onward.cached {s t : State} (h : Onward Memory s t) : Onward Cached s t := h.mono fun _ _ k => k.1

theorem cached_of_page {q : Page} {g : Fld} (hq : q ≠ .hif) (hm : memoryPage q = false) (hc : ∀ h, q ≠ hcPage h)
    (hg : g.inPage = true) : Cached.field q g := ⟨apart_of_page hq hm hg, hc⟩

/-- The fields beside the fault concentrator's and the hall caches', and every owner. -/
def Beside : Scope := ⟨fun q g => silent q g = true ∧ q ≠ .fc ∧ ∀ h, q ≠ hcPage h, fun _ => True⟩

theorem Onward.beside {s t : State} (h : Onward Beside s t) : Onward Cached s t :=
  h.mono fun _ _ (k : Apart _ _ ∧ _) => ⟨k.1.1, k.1.ne rfl, k.2⟩

theorem beside_key_ne (h : Nat) {f : Fld} (hf : f.inPage = true) : ∀ q g, Beside.field q g → key q g ≠ key (hcPage h) f :=
  fun _ _ k => key_ne_of_off hf (inPage_of_silent k.1) (.inl (k.2.2 h))

theorem beside_wr (h : Nat) (s : State) {f : Fld} (hf : f.inPage = true) (ho : f.off ≠ 0x018) (v : Nat) :
    Onward Beside s (wr s (hcPage h) f v) := onward_wr hf ho (.inl (by rintro ⟨⟩)) (beside_key_ne h hf) s v

theorem beside_bump (h : Nat) (s : State) {f : Fld} (hf : f.inPage = true) (ho : f.off ≠ 0x018) :
    Onward Beside s (bump s (hcPage h) f) := beside_wr h s hf ho _

theorem beside_setSticky (h : Nat) (s : State) (b : Nat) : Onward Beside s (setSticky s (hcPage h) b) :=
  onward_setSticky (fun _ _ (k : Beside.field _ _) => ⟨k.1, .inl (k.2.2 h)⟩) s b

theorem onward_bump_hc (h : Nat) (s : State) {f : Fld} (hf : f.inPage = true) (ho : f.off ≠ 0x018) :
    Onward Cached s (bump s (hcPage h) f) := (beside_bump h s hf ho).beside

/-- A fault that a hall cache sees, past its count (R258). -/
theorem beside_latch (h : Nat) (s : State) (a kind w r : Nat) : Onward Beside s (if on s (hcPage h) Reg.hc.FAULT_INFO_VALID then s else
    bump (wr (wr (wr (wr (wr (wr s (hcPage h) Reg.hc.FAULT_ADDR a) (hcPage h) Reg.hc.FAULT_INFO_KIND kind) (hcPage h)
      Reg.hc.FAULT_INFO_WRITE w) (hcPage h) Reg.hc.FAULT_INFO_REQUESTER r) (hcPage h) Reg.hc.FAULT_INFO_VALID 1) (hcPage h)
      Reg.hdr.FAULT_CODE (0x80 + kind)) (hcPage h) Reg.hdr.FAULT_COUNT) :=
  .ite (.refl s) ((((((
    (beside_wr h s (by decide) (by decide) _).trans (beside_wr h _ (by decide) (by decide) _)).trans
    (beside_wr h _ (by decide) (by decide) _)).trans (beside_wr h _ (by decide) (by decide) _)).trans
    (beside_wr h _ (by decide) (by decide) _)).trans (beside_wr h _ (by decide) (by decide) _)).trans
    (beside_bump h _ (by decide) (by decide)))

theorem beside_report (s : State) (p : Page) (code detail : Nat) : Onward Beside s (report s p code detail) :=
  (reported_report s p code detail).mono fun _ _ k => ⟨k.1, k.2.1⟩

theorem beside_hcFault (s : State) (h : Nat) (user : HallUser) (a kind : Nat) (write : Bool) :
    Onward Beside s (hcFault s h user a kind write) := by
  unfold hcFault
  exact (((beside_bump h s (by decide) (by decide)).trans (beside_setSticky h _ _)).trans (beside_latch h _ _ _ _ _)).trans
    (beside_report _ _ _ _)

theorem beside_hcSees (s : State) (h : Nat) (user : HallUser) (write : Bool) (r : Got) :
    Onward Beside s (hcSees s h user write r).1 := by
  cases r with
  | ok v => exact .refl s
  | fault k a => exact beside_hcFault _ _ _ _ _ _

theorem onward_hcFault (s : State) (h : Nat) (user : HallUser) (a kind : Nat) (write : Bool) :
    Onward Cached s (hcFault s h user a kind write) := (beside_hcFault s h user a kind write).beside

theorem onward_hcSees (s : State) (h : Nat) (user : HallUser) (write : Bool) (r : Got) :
    Onward Cached s (hcSees s h user write r).1 := (beside_hcSees s h user write r).beside

theorem onward_writeBack (s : State) (h : Nat) (x : Line) : Onward Cached s (writeBack s h x).1 := by
  unfold writeBack
  exact ((onward_bump_hc h s (by decide) (by decide)).trans (onward_memWritePoison _ _ _ _ _ _).cached).trans
    (onward_hcSees _ _ _ _ _)

theorem onward_allocate (s : State) (h n data : Nat) (dirty pf : Bool) : Onward Cached s (allocate s h n data dirty pf) := by
  unfold allocate
  split
  · exact .refl s
  · next w victim _ =>
    refine Onward.trans ?_ (onward_putLine _ _ _)
    cases victim with
    | none => exact .refl s
    | some x => exact .ite ((onward_writeBack s h x).trans (onward_dropLine _ _ _)) (onward_dropLine _ _ _)

theorem onward_hitLine (s : State) (h : Nat) (x : Line) : Onward Cached s (hitLine s h x) := by
  unfold hitLine
  exact ((onward_bump_hc h s (by decide) (by decide)).trans
    (.ite (onward_bump_hc h _ (by decide) (by decide)) (.refl _))).trans (onward_putLine _ _ _)

theorem onward_readLine (s : State) (h : Nat) (user : HallUser) (n lo m : Nat) : Onward Cached s (readLine s h user n lo m).1 := by
  have missed : Onward Cached s (bump s (hcPage h) Reg.hc.MISSES) := onward_bump_hc h s (by decide) (by decide)
  unfold readLine
  split
  · dsimp only
    split
    · exact (onward_hitLine _ _ _).trans (onward_hcFault _ _ _ _ _ _)
    · exact onward_hitLine _ _ _
  · dsimp only
    split
    · exact (missed.trans (onward_memRead _ _ _ _).cached).trans (onward_hcSees _ _ _ _ _)
    · have seen := (missed.trans (onward_memRead _ (.hallCache (Fin.ofNat 16 h)) (64 * n) 64).cached).trans
        (onward_hcSees _ h user false (memRead (bump s (hcPage h) Reg.hc.MISSES) (.hallCache (Fin.ofNat 16 h)) (64 * n) 64).2)
      split
      · next e => exact (seen.fst e).trans (onward_allocate _ _ _ _ _ _)
      · exact seen

theorem onward_writeLine (s : State) (h : Nat) (user : HallUser) (n lo m v : Nat) :
    Onward Cached s (writeLine s h user n lo m v).1 := by
  have missed : Onward Cached s (bump s (hcPage h) Reg.hc.MISSES) := onward_bump_hc h s (by decide) (by decide)
  unfold writeLine
  split
  · dsimp only
    split
    · exact (onward_hitLine _ _ _).trans (onward_hcFault _ _ _ _ _ _)
    · exact (onward_hitLine _ _ _).trans (onward_putLine _ _ _)
  · dsimp only
    split
    · exact (missed.trans (onward_memWrite _ _ _ _ _).cached).trans (onward_hcSees _ _ _ _ _)
    split
    · split
      · exact missed.trans (onward_allocate _ _ _ _ _ _)
      · exact (missed.trans (onward_scFault _ _ _ _ _).cached).trans (onward_hcSees _ _ _ _ _)
    · have seen := (missed.trans (onward_memRead _ (.hallCache (Fin.ofNat 16 h)) (64 * n) 64).cached).trans
        (onward_hcSees _ h user true (memRead (bump s (hcPage h) Reg.hc.MISSES) (.hallCache (Fin.ofNat 16 h)) (64 * n) 64).2)
      split
      · next e => exact (seen.fst e).trans (onward_allocate _ _ _ _ _ _)
      · exact seen

theorem onward_readLines (h : Nat) (user : HallUser) (stop n : Nat) :
    ∀ (s : State) (a : Nat), Onward Cached s (readLines h user a stop n s).1 := by
  induction n with
  | zero => intro s a; exact .refl s
  | succ n ih =>
    intro s a
    rw [readLines]
    have read := onward_readLine s h user (a / 64) (a % 64) (min (stop - a) (64 - a % 64))
    split
    · next e => exact read.fst e
    · next t v e =>
      have rest := (read.fst e).trans (ih t (a + min (stop - a) (64 - a % 64)))
      split
      · next e => exact rest.fst e
      · exact rest

theorem onward_writeLines (h : Nat) (user : HallUser) (stop n : Nat) :
    ∀ (s : State) (a v : Nat), Onward Cached s (writeLines h user a stop n v s).1 := by
  induction n with
  | zero => intro s a v; exact .refl s
  | succ n ih =>
    intro s a v
    rw [writeLines]
    have wrote := onward_writeLine s h user (a / 64) (a % 64) (min (stop - a) (64 - a % 64))
      (v % 2 ^ (8 * min (stop - a) (64 - a % 64)))
    split
    · next e => exact wrote.fst e
    · next e => exact (wrote.fst e).trans (ih _ _ _)

theorem onward_hcRead (s : State) (h : Nat) (user : HallUser) (a n : Nat) : Onward Cached s (hcRead s h user a n).1 :=
  onward_readLines h user _ _ s a

theorem onward_hcWrite (s : State) (h : Nat) (user : HallUser) (a n v : Nat) : Onward Cached s (hcWrite s h user a n v).1 :=
  onward_writeLines h user _ _ s a v

/-! ### What the memory hands back -/

/-- An access has reached memory: the work of the device stands as it was, and so do the registers away from the memory's
side. -/
structure Accessed (s t : State) : Prop where
  galleries : t.galleries = s.galleries
  disp : t.disp = s.disp
  dressers : t.dressers = s.dressers
  fields : ∀ q g, Cached.field q g → rd t q g = rd s q g
  stickies : ∀ q b, b < 32 → sticky s q b = true → sticky t q b = true

section
variable {s t u : State}

theorem Accessed.refl (s : State) : Accessed s s := ⟨rfl, rfl, rfl, fun _ _ _ => rfl, fun _ _ _ h => h⟩

theorem Accessed.trans (h : Accessed s t) (k : Accessed t u) : Accessed s u :=
  ⟨k.galleries.trans h.galleries, k.disp.trans h.disp, k.dressers.trans h.dressers,
    fun q g e => (k.fields q g e).trans (h.fields q g e), fun q b hb e => k.stickies q b hb (h.stickies q b hb e)⟩

theorem Accessed.gal (h : Accessed s t) (x g : Nat) : gal t x g = gal s x g := by rw [Machine.gal, h.galleries, Machine.gal]

theorem Accessed.findJob (h : Accessed s t) (sw slot : Nat) : findJob t sw slot = findJob s sw slot := by
  rw [Machine.findJob, h.disp, Machine.findJob]

theorem Accessed.ticketJob (h : Accessed s t) (x g serial : Nat) : ticketJob t x g serial = ticketJob s x g serial := by
  simp only [Machine.ticketJob, h.gal, h.findJob]

end

theorem accessed_hcRead (s : State) (h : Nat) (user : HallUser) (a n : Nat) : Accessed s (hcRead s h user a n).1 :=
  have on := onward_hcRead s h user a n
  ⟨hcRead_keeps (closed_galleries s.galleries _ (by decide)) s h user a n rfl,
    hcRead_keeps (closed_disp s.disp _ (by decide)) s h user a n rfl,
    hcRead_keeps (closed_dressers s.dressers _ (by decide)) s h user a n rfl, on.fields, on.stickies⟩

theorem accessed_hcWrite (s : State) (h : Nat) (user : HallUser) (a n v : Nat) : Accessed s (hcWrite s h user a n v).1 :=
  have on := onward_hcWrite s h user a n v
  ⟨hcWrite_keeps (closed_galleries s.galleries _ (by decide)) s h user a n v rfl,
    hcWrite_keeps (closed_disp s.disp _ (by decide)) s h user a n v rfl,
    hcWrite_keeps (closed_dressers s.dressers _ (by decide)) s h user a n v rfl, on.fields, on.stickies⟩

theorem accessed_ticketRead {s u : State} {h g : Nat} {user : HallUser} {t : Ticket} {a n v : Nat}
    (e : ticketRead s h g user t a n = (u, some v)) : Accessed s u := by
  have acc := accessed_hcRead s h user a n
  unfold ticketRead at e
  split at e
  · next r => rw [r] at acc; obtain ⟨rfl, -⟩ := Prod.mk.inj e; exact acc
  · cases (Prod.mk.inj e).2

theorem accessed_ticketWrite {s u : State} {h g : Nat} {t : Ticket} {a n v : Nat}
    (e : ticketWrite s h g t a n v = (u, true)) : Accessed s u := by
  have acc := accessed_hcWrite s h (.gallery (Fin.ofNat 17 g)) a n v
  unfold ticketWrite at e
  split at e
  · next r => rw [r] at acc; obtain ⟨rfl, -⟩ := Prod.mk.inj e; exact acc
  · cases (Prod.mk.inj e).2

/-! ### The end of a job and the registers -/

theorem unwritten_regs (v : NatMap Nat) (F : List Area) (hF : ∀ q ∈ F, q ∉ ([.regs, .reset, .migrate] : List Area)) :
    Closed (fun s => s.regs = v) F := by
  intro q hq
  have hn := hF q hq
  cases q with
  | regs => simp at hn
  | reset => simp at hn
  | migrate => simp at hn
  | restore => exact fun s t _ h => h
  | wipe => exact fun s h => h
  | sector => exact fun s c n x h => h
  | _ => exact fun s x h => h

theorem endJob_regs (s : State) (sw slot status : Nat) : (endJob s sw slot status).regs = s.regs :=
  endJob_keeps (unwritten_regs s.regs _ (by decide)) s sw slot status rfl

theorem settleJob_regs (s : State) (sw slot : Nat) : (settleJob s sw slot).regs = s.regs :=
  settleJob_keeps (unwritten_regs s.regs _ (by decide)) s sw slot rfl

/-- A read through a hall cache leaves the registers away from memory, even when it faults and ends its job. -/
theorem fields_ticketRead (s : State) (h g : Nat) (user : HallUser) (t : Ticket) (a n : Nat) {q : Page} {f : Fld}
    (hf : Cached.field q f) : rd (ticketRead s h g user t a n).1 q f = rd s q f := by
  have read := (onward_hcRead s h user a n).fields q f hf
  unfold ticketRead
  split
  · next r => rw [r] at read; exact read
  · next r =>
    rw [r] at read
    exact ((rd_congr (endJob_regs _ _ _ _) _ _).trans ((onward_report _ _ _ _).cached.fields q f hf)).trans read

/-- A read of a gallery memory that succeeds leaves the device. -/
theorem readStore_some {s u : State} {h g m w n v : Nat} (e : readStore s h g m w n = (u, some v)) : u = s := by
  unfold readStore at e
  split at e
  · cases (Prod.mk.inj e).2
  · exact (Prod.mk.inj e).1.symm

end Sys2Proof.Machine

/-! SUPPORT and settlement of O17: drains, to floating point, to int32 and to codes, and their end (R118 to R123, R129, R130). -/

namespace Sys2Proof.Machine

set_option Elab.async false -- each thread's stack counts against the check's memory limit

/-! ### What a drain reads -/

theorem Accessed.answered {α : Type} {s t u : State} {x y : α} (h : Accessed s t) (e : (t, some x) = (u, some y)) :
    Accessed s u := by
  obtain ⟨rfl, -⟩ := Prod.mk.inj e; exact h

theorem accessed_readStore {s u : State} {h g m w n v : Nat} (e : readStore s h g m w n = (u, some v)) : Accessed s u := by
  rw [readStore_some e]; exact .refl s

theorem accessed_sideOf {s u : State} {h g i row w : Nat} {t : Ticket} {j : Job} (e : sideOf s h g t j i row = (u, some w)) :
    Accessed s u := by
  unfold sideOf at e
  split at e
  · exact accessed_ticketRead e
  split at e
  · cases (Prod.mk.inj e).2
  · next r => exact (accessed_readStore r).answered e

theorem accessed_readSides {h g i : Nat} {t : Ticket} {j : Job} (n : Nat) : ∀ {s u : State} {row : Nat} {l : List Nat},
    readSides h g t j i row n s = (u, some l) → Accessed s u := by
  induction n with
  | zero => intro s u row l e; exact (Accessed.refl s).answered e
  | succ n ih =>
    intro s u row l e
    rw [readSides] at e
    split at e
    · cases (Prod.mk.inj e).2
    next r =>
    split at e
    · cases (Prod.mk.inj e).2
    · next q => exact ((accessed_sideOf r).trans (ih q)).answered e

theorem accessed_boulderEntries {s u : State} {h g i : Nat} {user : HallUser} {t : Ticket} {j : Job} {l : List Nat}
    (e : boulderEntries s h g user t j i = (u, some l)) : Accessed s u := by
  unfold boulderEntries at e
  split at e
  · split at e
    · cases (Prod.mk.inj e).2
    next r =>
    split at e
    · cases (Prod.mk.inj e).2
    · next q => exact ((accessed_readStore r).trans (accessed_readStore q)).answered e
  · dsimp only at e
    split at e
    · cases (Prod.mk.inj e).2
    next r =>
    split at e
    · exact (accessed_ticketRead r).answered e
    split at e
    · cases (Prod.mk.inj e).2
    · next q => exact ((accessed_ticketRead r).trans (accessed_ticketRead q)).answered e

theorem accessed_panelHeads {h g part : Nat} {user : HallUser} {t : Ticket} {j : Job} (n : Nat) :
    ∀ {s u : State} {base : Nat} {l : List (Nat × Nat)},
      panelHeads h g user t j part base n s = (u, some l) → Accessed s u := by
  induction n with
  | zero => intro s u base l e; exact (Accessed.refl s).answered e
  | succ n ih =>
    intro s u base l e
    rw [panelHeads] at e
    split at e
    · cases (Prod.mk.inj e).2
    next r =>
    split at e
    · cases (Prod.mk.inj e).2
    · next q => exact ((accessed_ticketRead r).trans (ih q)).answered e

theorem accessed_readParts {h g base : Nat} {user : HallUser} {t : Ticket} (parts : List (Nat × Nat)) :
    ∀ {s u : State} {v : Nat}, readParts h g user t base parts s = (u, some v) → Accessed s u := by
  induction parts with
  | nil => intro s u v e; exact (Accessed.refl s).answered e
  | cons p rest ih =>
    intro s u v e
    rw [readParts] at e
    split at e
    · cases (Prod.mk.inj e).2
    next r =>
    split at e
    · cases (Prod.mk.inj e).2
    · next q => exact ((accessed_ticketRead r).trans (ih q)).answered e

theorem accessed_recordMatches {h g base hd entry : Nat} {user : HallUser} {t : Ticket} {j : Job} (is : List Nat) :
    ∀ {s u : State} {l : List Match}, recordMatches h g user t j base hd entry is s = (u, some l) → Accessed s u := by
  induction is with
  | nil => intro s u l e; exact (Accessed.refl s).answered e
  | cons i rest ih =>
    intro s u l e
    rw [recordMatches] at e
    split at e
    · cases (Prod.mk.inj e).2
    next r =>
    split at e
    · cases (Prod.mk.inj e).2
    · next q => exact ((accessed_readParts _ r).trans (ih q)).answered e

theorem accessed_entryMatches {h g entry : Nat} {user : HallUser} {t : Ticket} {j : Job} (heads : List (Nat × Nat)) :
    ∀ {s u : State} {l : List Match}, entryMatches h g user t j entry heads s = (u, some l) → Accessed s u := by
  induction heads with
  | nil => intro s u l e; exact (Accessed.refl s).answered e
  | cons p rest ih =>
    intro s u l e
    rw [entryMatches] at e
    split at e
    · cases (Prod.mk.inj e).2
    next r =>
    split at e
    · cases (Prod.mk.inj e).2
    · next q => exact ((accessed_recordMatches _ r).trans (ih q)).answered e

theorem accessed_listMatches {h g : Nat} {user : HallUser} {t : Ticket} {j : Job} {heads : List (Nat × Nat)} (es : List Nat) :
    ∀ {s u : State} {l : List Match}, listMatches h g user t j heads es s = (u, some l) → Accessed s u := by
  induction es with
  | nil => intro s u l e; exact (Accessed.refl s).answered e
  | cons p rest ih =>
    intro s u l e
    rw [listMatches] at e
    split at e
    · cases (Prod.mk.inj e).2
    next r =>
    split at e
    · cases (Prod.mk.inj e).2
    · next q => exact ((accessed_entryMatches _ r).trans (ih q)).answered e

theorem accessed_boulderStage {s u : State} {h g : Nat} {t : Ticket} {j : Job} {gr : Group} {l : List Match}
    (e : boulderStage s h g t j gr = (u, some l)) : Accessed s u := by
  unfold boulderStage at e
  dsimp only at e
  split at e
  · exact (Accessed.refl s).answered e
  split at e
  · cases (Prod.mk.inj e).2
  next r =>
  split at e
  · cases (Prod.mk.inj e).2
  · next q => exact (((accessed_boulderEntries r).trans (accessed_panelHeads _ q)).trans (accessed_listMatches _ e))

/-! ### The rows of a drain -/

/-- DRAIN_ROWS of a gallery. -/
def drainRowsOf (s : State) (h g : Nat) : Nat := rd s (arrPage h g) Reg.lnd.DRAIN_ROWS

theorem drainRows_cached (h g : Nat) : Cached.field (arrPage h g) Reg.lnd.DRAIN_ROWS :=
  cached_of_page (by rintro ⟨⟩) rfl (by rintro _ ⟨⟩) (by decide)

theorem Accessed.drainRows {s t : State} (e : Accessed s t) (h g : Nat) : drainRowsOf t h g = drainRowsOf s h g :=
  e.fields _ _ (drainRows_cached h g)

/-- Every row that a drain reads is counted (R128). -/
theorem drainRows_readGroup {h g : Nat} {t : Ticket} {gr : Group} (n : Nat) : ∀ {s u : State} {first : Nat} {l : List Nat},
    drainRowsOf s h g < 2 ^ 32 → readGroup h g t gr first n s = (u, some l) →
      drainRowsOf u h g = min (drainRowsOf s h g + n) (2 ^ 32 - 1) := by
  induction n with
  | zero =>
    intro s u first l hs e
    obtain ⟨rfl, -⟩ := Prod.mk.inj e
    omega
  | succ n ih =>
    intro s u first l hs e
    rw [readGroup] at e
    split at e
    · cases (Prod.mk.inj e).2
    next v r =>
    rw [readStore_some r] at e
    have hb : drainRowsOf (bump s (arrPage h g) Reg.lnd.DRAIN_ROWS) h g = min (drainRowsOf s h g + 1) (2 ^ 32 - 1) :=
      rd_bump _ _ _
    split at e
    · cases (Prod.mk.inj e).2
    · next q =>
      obtain ⟨rfl, -⟩ := Prod.mk.inj e
      rw [ih (by omega) q, hb]
      omega

theorem drainRows_readDrain {s u : State} {h g : Nat} {t : Ticket} {j : Job} {gr : Group} {i : DrainIn}
    (hs : drainRowsOf s h g < 2 ^ 32) (e : readDrain s h g t j gr = (u, some i)) :
    drainRowsOf u h g = min (drainRowsOf s h g + gr.rows) (2 ^ 32 - 1) := by
  have cols {s1 s2 : State} {n v a b : Nat} {user : HallUser}
      (r : (if n = 0 then (s1, some 0) else ticketRead s1 h g user t a b) = (s2, some v)) : Accessed s1 s2 := by
    split at r
    · exact (Accessed.refl s1).answered r
    · exact accessed_ticketRead r
  unfold readDrain at e
  split at e
  · cases (Prod.mk.inj e).2
  next r1 =>
  split at e
  · cases (Prod.mk.inj e).2
  next r2 =>
  dsimp only at e
  split at e
  · cases (Prod.mk.inj e).2
  next r3 =>
  split at e
  · cases (Prod.mk.inj e).2
  next r4 =>
  obtain ⟨rfl, -⟩ := Prod.mk.inj e
  rw [((accessed_readSides _ r2).trans ((cols r3).trans (accessed_boulderStage r4))).drainRows, drainRows_readGroup _ hs r1]

theorem drainRows_other (s : State) (h g : Nat) {p : Page} {f : Fld} (hp : p ≠ arrPage h g) (hf : f.inPage = true) (n : Nat) :
    drainRowsOf (count s p f n) h g = drainRowsOf s h g :=
  rd_count_other _ _ _ _ _ _ hp.symm hf (by decide)

theorem drainRows_countDrain (s : State) (h g cost hits : Nat) : drainRowsOf (countDrain s h g cost hits) h g = drainRowsOf s h g := by
  unfold countDrain
  dsimp only
  rw [drainRows_other _ _ _ (by rintro ⟨⟩) (by decide), drainRows_other _ _ _ (by rintro ⟨⟩) (by decide)]

theorem onward_setStickies (s : State) (p : Page) (mask : Nat) : Onward (SilentBut p) s (setStickies s p mask) :=
  foldl_keeps (P := Onward (SilentBut p) s)
    (fun u b h => h.trans (.ite (onward_setSticky (fun _ _ h => h) u b) (.refl u))) (.refl s)

theorem onward_veFlags (s : State) (h g sw slot mask : Nat) : Onward (SilentBut (vePage h g)) s (veFlags s h g sw slot mask) :=
  (onward_setStickies s _ mask).trans (onward_same rfl rfl rfl)

theorem drainRows_veFlags (s : State) (h g sw slot mask : Nat) : drainRowsOf (veFlags s h g sw slot mask) h g = drainRowsOf s h g :=
  (onward_veFlags s h g sw slot mask).fields _ _ ⟨(drainRows_cached h g).1.1, .inl (by rintro ⟨⟩)⟩

theorem drainRows_writeRows {h g : Nat} {t : Ticket} {j : Job} {gr : Group} (rows : List (List (Option FRes))) :
    ∀ {s u : State} {m : Nat}, writeRows h g t j gr m rows s = (u, true) → drainRowsOf u h g = drainRowsOf s h g := by
  induction rows with
  | nil => intro s u m e; obtain ⟨rfl, -⟩ := Prod.mk.inj e; rfl
  | cons r rest ih =>
    intro s u m e
    have wrote {s1 s2 : State} {c : Bool} {a n v : Nat}
        (q : (if c = true then (s1, true) else ticketWrite s1 h g t a n v) = (s2, true)) : drainRowsOf s2 h g = drainRowsOf s1 h g := by
      split at q
      · obtain ⟨rfl, -⟩ := Prod.mk.inj q; rfl
      · exact (accessed_ticketWrite q).drainRows h g
    rw [writeRows] at e
    split at e
    · cases (Prod.mk.inj e).2
    · next q => rw [ih e, wrote q, drainRows_veFlags]

/-! ### The drain as it starts -/

/-- The VE takes the drain in front of its items and runs it. -/
theorem exec_drainStart {s : State} {h : Fin 16} {g : Fin 17} {serial tile : Nat} {rest : List VeItem} {k : Ticket} {j : Job}
    (hv : (gal s h g).ve = none) (hr : (gal s h g).ready = .drain serial tile :: rest)
    (hj : ticketJob s h g serial = some (k, j)) (hw : drainWaits (gal s h g) k j tile = false) :
    exec (.drainStart h g) s = .next (runDrain (drainTaken s h g serial tile rest) h g k j tile) := by
  change execDrainStart h g s = _
  simp only [execDrainStart, hv, hr, hj, hw]
  rfl

theorem groups_drainTaken (s : State) (h : Fin 16) (g : Fin 17) (serial tile : Nat) (rest : List VeItem) :
    (gal (drainTaken s h g serial tile rest) h g).groups = (gal s h g).groups := by
  rw [drainTaken, gal_setGal]

theorem groupOf_drainTaken (s : State) (h : Fin 16) (g : Fin 17) (serial tile : Nat) (rest : List VeItem) (n m : Nat) :
    groupOf (gal (drainTaken s h g serial tile rest) h g) n m = groupOf (gal s h g) n m := by
  rw [groupOf, groups_drainTaken, groupOf]

/-- The groups of the slot have their outputs written. -/
theorem drained_markDrained {s : State} {h g slot : Nat} :
    ∀ e ∈ (gal (markDrained s h g slot) h g).groups, e.slot = slot → e.drained = true := by
  rw [markDrained, updGroup, gal_setGal]
  intro e he hs
  obtain ⟨d, -, rfl⟩ := List.mem_map.1 he
  split at hs
  · next hd => rw [if_pos hd]
  · next hd => exact absurd hs hd

/-! ### The end of a drain -/

theorem groups_freeGroups (gs : List Group) : ∀ (x : Gallery), (∀ e ∈ gs, ∀ d ∈ (gs.foldl (fun x e => freeGroup x e.slot) x).groups,
    d.slot ≠ e.slot) ∧ (∀ d ∈ (gs.foldl (fun x e => freeGroup x e.slot) x).groups, d ∈ x.groups)
      ∧ (gs.foldl (fun x e => freeGroup x e.slot) x).ve = x.ve := by
  induction gs with
  | nil => exact fun x => ⟨fun _ h => (List.not_mem_nil h).elim, fun _ h => h, rfl⟩
  | cons a gs ih =>
    intro x
    obtain ⟨freed, kept, ve⟩ := ih (freeGroup x a.slot)
    have still (d : Group) (hd : d ∈ ((a :: gs).foldl (fun x e => freeGroup x e.slot) x).groups) : d ∈ (freeGroup x a.slot).groups :=
      kept d hd
    refine ⟨fun e he d hd => ?_, fun d hd => (List.mem_filter.1 (still d hd)).1, ve⟩
    rcases List.mem_cons.1 he with rfl | he
    · simpa using (List.mem_filter.1 (still d hd)).2
    · exact freed e he d hd

theorem settleQuOut_leaves (s : State) (h g : Nat) : (gal (settleQuOut s h g) h g).ve = (gal s h g).ve
    ∧ (gal (settleQuOut s h g) h g).groups = (gal s h g).groups ∧ (settleQuOut s h g).regs = s.regs := by
  unfold settleQuOut
  dsimp only
  split
  · exact ⟨rfl, rfl, rfl⟩
  split
  · exact ⟨rfl, rfl, rfl⟩
  split
  · simp only [ticketWritten, updTicket, gal_setGal]
    exact ⟨trivial, trivial, rfl⟩
  · exact ⟨rfl, rfl, rfl⟩

/-- A drain is over: the VE is free, its groups have freed their slots, and they are counted (R118, R151). -/
def DrainOver (s : State) (h : Fin 16) (g : Fin 17) (gs : List Group) (t : State) : Prop :=
  (gal t h g).ve = none ∧ (∀ e ∈ gs, ∀ d ∈ (gal t h g).groups, d.slot ≠ e.slot)
    ∧ rd t (vePage h g) Reg.ve.DRAINS = min (rd s (vePage h g) Reg.ve.DRAINS + gs.length) (2 ^ Reg.ve.DRAINS.width - 1)

theorem DrainOver.settle {s t : State} {h : Fin 16} {g : Fin 17} {gs : List Group} (k : DrainOver s h g gs t) :
    DrainOver s h g gs (settleQuOut t h g) := by
  obtain ⟨ve, freed, drains⟩ := k
  obtain ⟨hv, hg, hr⟩ := settleQuOut_leaves t h g
  exact ⟨hv.trans ve, by rwa [hg], (rd_congr hr _ _).trans drains⟩

theorem DrainOver.note {s t : State} {h : Fin 16} {g : Fin 17} {gs : List Group} (k : DrainOver s h g gs t) (serial : Nat)
    (f : Ticket → Ticket) : DrainOver s h g gs (updTicket t h g serial f) := by
  obtain ⟨ve, freed, drains⟩ := k
  rw [DrainOver, updTicket, gal_setGal]
  exact ⟨ve, freed, drains⟩

theorem drainOver_freed (s : State) (h : Fin 16) (g : Fin 17) (gs : List Group) :
    DrainOver s h g gs (count (setGal s h g (releaseRing (gs.foldl (fun x e => freeGroup x e.slot)
      { gal s h g with ve := none }))) (vePage h g) Reg.ve.DRAINS gs.length) := by
  obtain ⟨freed, -, ve⟩ := groups_freeGroups gs { gal s h g with ve := none }
  refine ⟨?_, ?_, rd_count _ _ _ _⟩
  · exact (congrArg Gallery.ve (gal_setGal _ _ _ _)).trans ve
  · intro e he d hd
    exact freed e he d ((congrArg (d ∈ ·.groups) (gal_setGal s h g (releaseRing _))).mp hd)

/-- Settles O17, by reading each drain along the reads and writes that its statement names. -/
theorem drainsComplete : Obligations.DrainsComplete := by
  refine ⟨?_, ?_, ?_, ?_, ?_⟩
  · intro h g serial tile rest k j gr i s v c w hv hr hj hw hq hy hg read hc wrote hd
    refine ⟨_, exec_drainStart hv hr hj hw, ?_⟩
    have run : runDrain (drainTaken s h g serial tile rest) h g k j tile = markDrained w h g gr.slot := by
      simp only [runDrain, hq, groupOf_drainTaken, hg, hy, drainFloat, read, ← hc, wrote]
      rfl
    rw [run]
    refine ⟨drained_markDrained, rfl, rfl, ?_⟩
    calc drainRowsOf w h g = drainRowsOf v h g := by rw [drainRows_writeRows _ wrote, hc, drainRows_countDrain]
      _ = _ := drainRows_readDrain (s := drainTaken s h g serial tile rest) hd read
  · intro h g serial tile at_ n rest k j gr rows ms bt terms s v w c x y z hv hr hj hw hq hy hg hb ha hn read matched ht hc
      out boulders side
    refine ⟨_, exec_drainStart hv hr hj hw, ?_⟩
    have run : runDrain (drainTaken s h g serial tile rest) h g k j tile = markDrained z h g gr.slot := by
      subst hb ha hn ht hc
      simp only [runDrain, hq, groupOf_drainTaken, hg, hy, drainInt, read, matched]
      simp only [out, boulders, side]
      rfl
    rw [run]
    exact ⟨drained_markDrained, rfl, rfl⟩
  · intro h g serial tile rest k j l s v hv hr hj hq hw read
    refine ⟨_, exec_drainStart hv hr hj hw, ?_⟩
    have run : runDrain (drainTaken s h g serial tile rest) h g k j tile = setGal v h g { gal v h g with
        quOut := some (newConversion k (ticketBlock j k) (blockRows j (ticketBlock j k)) .drain
          (l.map fun r => r.map fun v => (v.map Prod.fst).getD 0) none) } := by
      simp only [runDrain, hq, drainCodes, read]
      rfl
    rw [run]
    beta_reduce
    rw [gal_setGal]
    exact ⟨_, rfl, rfl, rfl, rfl, rfl, rfl⟩
  · intro h g serial tile rest k j s hv hr hj hw
    refine ⟨s, ?_, rfl⟩
    change execDrainStart h g s = _
    simp only [execDrainStart, hv, hr, hj, hw]
    rfl
  · intro h g serial tile k j s hv hj hd
    have all : ((drainGroups (gal s h g) serial tile (dRequant j.desc)).all (·.drained)) = true := List.all_eq_true.2 hd
    change ∃ t, execDrainDone h g s = _ ∧ _
    simp only [execDrainDone, hv, hj, all, if_true]
    have ended := drainOver_freed s h g (drainGroups (gal s h g) serial tile (dRequant j.desc))
    split
    · exact ⟨_, rfl, ended.settle⟩
    · exact ⟨_, rfl, ended.note _ _⟩

end Sys2Proof.Machine

/-! SUPPORT. Accesses through a hall cache depend on the memory, the caches and their ways alone (R253 to R257). -/

namespace Sys2Proof.Machine

set_option Elab.async false -- each thread's stack counts against the check's memory limit

/-- Two states with the same memory and the same caches over it. -/
structure SameLines (s t : State) : Prop where
  bytes : SameBytes s t
  caches : t.caches = s.caches
  ways : ∀ h, rd t (hcPage h) Reg.hc.WAY_DISABLE = rd s (hcPage h) Reg.hc.WAY_DISABLE

theorem ways_apart (h : Nat) : Apart (hcPage h) Reg.hc.WAY_DISABLE := apart_of_page (by rintro ⟨⟩) rfl (by decide)

section
variable {s t u v : State}

theorem SameLines.refl (s : State) : SameLines s s := ⟨.refl s, rfl, fun _ => rfl⟩

theorem SameLines.symm (h : SameLines s t) : SameLines t s := ⟨h.bytes.symm, h.caches.symm, fun x => (h.ways x).symm⟩

theorem SameLines.trans (h : SameLines s t) (k : SameLines t u) : SameLines s u :=
  ⟨h.bytes.trans k.bytes, k.caches.trans h.caches, fun x => (k.ways x).trans (h.ways x)⟩

/-- Two states alike stay so as each goes on. -/
theorem SameLines.both (h : SameLines s t) (k : SameLines s u) (l : SameLines t v) : SameLines u v := (k.symm.trans h).trans l

theorem SameLines.ite {c : Prop} [Decidable c] (h : SameLines s t) (k : SameLines s u) : SameLines s (if c then t else u) := by
  split <;> assumption

/-- Accesses of device memory that leave the same memory leave the caches alike. -/
theorem SameLines.reach (h : SameLines s t) (k : SameBytes u v) (cu : u.caches = s.caches) (cv : v.caches = t.caches)
    (ou : Onward Memory s u) (ov : Onward Memory t v) : SameLines u v :=
  ⟨k, cv.trans (h.caches.trans cu.symm), fun x =>
    ((ov.fields _ _ (ways_apart x)).trans (h.ways x)).trans (ou.fields _ _ (ways_apart x)).symm⟩

section
variable (h : SameLines s t)
include h

theorem SameLines.cache (x : Nat) : cache t x = cache s x := by rw [Machine.cache, h.caches, Machine.cache]

theorem SameLines.findLine (x n : Nat) : findLine t x n = findLine s x n := by rw [Machine.findLine, h.cache, Machine.findLine]

theorem SameLines.bypass (x : Nat) : bypass t x = bypass s x := by rw [Machine.bypass, h.ways, Machine.bypass]

theorem SameLines.wayOn (x w : Nat) : wayOn t x w = wayOn s x w := by rw [Machine.wayOn, h.ways, Machine.wayOn]

theorem SameLines.chooseWay (x n : Nat) : chooseWay t x n = chooseWay s x n := by
  unfold Machine.chooseWay
  simp only [h.cache, h.wayOn]

theorem SameLines.setCache (x : Nat) (c : HallCache) : SameLines (setCache s x c) (setCache t x c) :=
  ⟨h.bytes.both (sameBytes_same rfl rfl rfl rfl) (sameBytes_same rfl rfl rfl rfl),
    show NatMap.set t.caches x c = NatMap.set s.caches x c by rw [h.caches], h.ways⟩

theorem SameLines.putLine (x : Nat) (l : Line) : SameLines (putLine s x l) (putLine t x l) := by
  unfold Machine.putLine
  rw [h.cache]
  exact h.setCache x _

theorem SameLines.dropLine (x n : Nat) : SameLines (dropLine s x n) (dropLine t x n) := by
  unfold Machine.dropLine
  rw [h.cache]
  exact h.setCache x _

end

/-- A register of a page that is not the map's, nor WAY_DISABLE, nor one that places an address, is written. -/
theorem sameLines_wr (s : State) {p : Page} {f : Fld} (hf : f.inPage = true) (hm : p ≠ .memMap)
    (ho : [Reg.sc.RETIRED.off, Reg.sc.DIE_MAP.off, Reg.sc.MIG_PTR.off].contains f.off = false)
    (hw : f.off ≠ Reg.hc.WAY_DISABLE.off) (v : Nat) : SameLines s (wr s p f v) :=
  ⟨sameBytes_wr s hf hm ho v, rfl, fun _ => rd_wr_ne _ _ _ _ _ _ (key_ne_of_off hf (by decide) (.inr (Ne.symm hw)))⟩

end

theorem hcPage_ne_memMap (h : Nat) : hcPage h ≠ .memMap := by simp [hcPage]

theorem sameLines_bump_hc (s : State) (h : Nat) {f : Fld} (hf : f.inPage = true)
    (ho : [Reg.sc.RETIRED.off, Reg.sc.DIE_MAP.off, Reg.sc.MIG_PTR.off].contains f.off = false)
    (hw : f.off ≠ Reg.hc.WAY_DISABLE.off) : SameLines s (bump s (hcPage h) f) := sameLines_wr s hf (hcPage_ne_memMap h) ho hw _

theorem sameLines_setSticky (s : State) {p : Page} (b : Nat) : SameLines s (setSticky s p b) :=
  ⟨sameBytes_setSticky s p b, setSticky_caches _ _ _, fun h =>
    (onward_setSticky (F := SilentBut p) (fun _ _ h => h) s b).fields _ _ ⟨(ways_apart h).1, .inr (by decide)⟩⟩

theorem sameLines_scFault (s : State) (who : Requester) (a kind : Nat) (write : Bool) : SameLines s (scFault s who a kind write) :=
  (SameLines.refl s).reach (sameBytes_scFault _ _ _ _ _) rfl
    (scFault_keeps (closed_caches s.caches _ (by decide)) s who a kind write rfl) (.refl s) (onward_scFault _ _ _ _ _)

theorem sameLines_report (s : State) (p : Page) (code detail : Nat) : SameLines s (report s p code detail) :=
  (SameLines.refl s).reach (sameBytes_report _ _ _ _) rfl
    (report_keeps (closed_caches s.caches _ (by decide)) s p code detail rfl) (.refl s) (onward_report _ _ _ _)

theorem sameLines_hcFault (s : State) (h : Nat) (user : HallUser) (a kind : Nat) (write : Bool) :
    SameLines s (hcFault s h user a kind write) := by
  have w (u : State) {f : Fld} (hf : f.inPage = true)
      (ho : [Reg.sc.RETIRED.off, Reg.sc.DIE_MAP.off, Reg.sc.MIG_PTR.off].contains f.off = false)
      (hw : f.off ≠ Reg.hc.WAY_DISABLE.off) (v : Nat) : SameLines u (wr u (hcPage h) f v) :=
    sameLines_wr u hf (hcPage_ne_memMap h) ho hw v
  have info (u : State) : SameLines u (if on u (hcPage h) Reg.hc.FAULT_INFO_VALID then u else
      bump (wr (wr (wr (wr (wr (wr u (hcPage h) Reg.hc.FAULT_ADDR a) (hcPage h) Reg.hc.FAULT_INFO_KIND kind) (hcPage h)
        Reg.hc.FAULT_INFO_WRITE write.toNat) (hcPage h) Reg.hc.FAULT_INFO_REQUESTER (userCode user)) (hcPage h)
        Reg.hc.FAULT_INFO_VALID 1) (hcPage h) Reg.hdr.FAULT_CODE (0x80 + kind)) (hcPage h) Reg.hdr.FAULT_COUNT) :=
    .ite (.refl u) ((((((
      (w u (by decide) (by decide) (by decide) _).trans (w _ (by decide) (by decide) (by decide) _)).trans
      (w _ (by decide) (by decide) (by decide) _)).trans (w _ (by decide) (by decide) (by decide) _)).trans
      (w _ (by decide) (by decide) (by decide) _)).trans (w _ (by decide) (by decide) (by decide) _)).trans
      (w _ (by decide) (by decide) (by decide) _))
  have counted : SameLines s (bump s (hcPage h) Reg.hc.FAULTS) := w s (by decide) (by decide) (by decide) _
  unfold hcFault
  exact ((counted.trans (sameLines_setSticky _ _)).trans (info _)).trans (sameLines_report _ _ _ _)

/-! ### Accesses of two states with the same lines -/

/-- Two results of an access: the same answer, and the same memory and caches after it. -/
def AlikeLines {α : Type} (r q : State × α) : Prop := SameLines r.1 q.1 ∧ q.2 = r.2

theorem AlikeLines.eq {α : Type} {r q : State × α} (h : AlikeLines r q) {t : State} {x : α} (e : r = (t, x)) :
    SameLines t q.1 ∧ q = (q.1, x) := by
  subst e
  obtain ⟨u, y⟩ := q
  exact ⟨h.1, by rw [show y = x from h.2]⟩

section
variable {s t : State} (h : SameLines s t)
include h

theorem alikeLines_memRead (who : Requester) (a n : Nat) : AlikeLines (memRead s who a n) (memRead t who a n) :=
  have k := alike_memRead h.bytes who a n
  ⟨h.reach k.1 (memRead_keeps (closed_caches s.caches _ (by decide)) s who a n rfl)
    (memRead_keeps (closed_caches t.caches _ (by decide)) t who a n rfl) (onward_memRead _ _ _ _) (onward_memRead _ _ _ _), k.2⟩

theorem alikeLines_memWritePoison (who : Requester) (a n v : Nat) (poison : Bool) :
    AlikeLines (memWritePoison s who a n v poison) (memWritePoison t who a n v poison) :=
  have k := alike_memWritePoison h.bytes who a n v poison
  ⟨h.reach k.1 (memWritePoison_keeps (closed_caches s.caches _ (by decide)) s who a n v poison rfl)
    (memWritePoison_keeps (closed_caches t.caches _ (by decide)) t who a n v poison rfl) (onward_memWritePoison _ _ _ _ _ _)
    (onward_memWritePoison _ _ _ _ _ _), k.2⟩

theorem alikeLines_hcSees (x : Nat) (user : HallUser) (write : Bool) (r : Got) :
    AlikeLines (hcSees s x user write r) (hcSees t x user write r) := by
  cases r with
  | ok v => exact ⟨h, rfl⟩
  | fault k a => exact ⟨h.both (sameLines_hcFault _ _ _ _ _ _) (sameLines_hcFault _ _ _ _ _ _), rfl⟩

omit h in
/-- An access at a stack as the cache sees its answer. -/
theorem AlikeLines.seen {r q : State × Got} (k : AlikeLines r q) (x : Nat) (user : HallUser) (write : Bool) :
    AlikeLines (hcSees r.1 x user write r.2) (hcSees q.1 x user write q.2) := by
  rw [k.2]
  exact alikeLines_hcSees k.1 x user write r.2

theorem sameLines_writeBack (x : Nat) (l : Line) : SameLines (writeBack s x l).1 (writeBack t x l).1 := by
  unfold writeBack
  exact (AlikeLines.seen (alikeLines_memWritePoison (h.both
    (sameLines_bump_hc s x (f := Reg.hc.WRITEBACKS) (by decide) (by decide) (by decide))
    (sameLines_bump_hc t x (by decide) (by decide) (by decide))) _ _ _ _ _) x .self true).1

theorem sameLines_allocate (x n data : Nat) (dirty pf : Bool) : SameLines (allocate s x n data dirty pf) (allocate t x n data dirty pf) := by
  unfold allocate
  rw [h.chooseWay]
  split
  · exact h
  · next w victim _ =>
    refine SameLines.putLine ?_ _ _
    cases victim with
    | none => exact h
    | some l =>
      dsimp only
      split
      · exact (sameLines_writeBack h x l).dropLine x l.line
      · exact h.dropLine x l.line

theorem sameLines_hitLine (x : Nat) (l : Line) : SameLines (hitLine s x l) (hitLine t x l) := by
  have b (u : State) : SameLines u (bump u (hcPage x) Reg.hc.HITS) := sameLines_bump_hc u x (by decide) (by decide) (by decide)
  have c (u : State) : SameLines u (if l.prefetched = true then bump u (hcPage x) Reg.hc.PF_USEFUL else u) :=
    .ite (sameLines_bump_hc u x (by decide) (by decide) (by decide)) (.refl u)
  unfold hitLine
  exact ((h.both (b s) (b t)).both (c _) (c _)).putLine x _

theorem alikeLines_readLine (x : Nat) (user : HallUser) (n lo m : Nat) :
    AlikeLines (readLine s x user n lo m) (readLine t x user n lo m) := by
  have missed : SameLines (bump s (hcPage x) Reg.hc.MISSES) (bump t (hcPage x) Reg.hc.MISSES) :=
    h.both (sameLines_bump_hc s x (by decide) (by decide) (by decide)) (sameLines_bump_hc t x (by decide) (by decide) (by decide))
  unfold readLine
  rw [h.findLine]
  split
  · dsimp only
    have hit := sameLines_hitLine h x
    split
    · exact ⟨(hit _).both (sameLines_hcFault _ _ _ _ _ _) (sameLines_hcFault _ _ _ _ _ _), rfl⟩
    · exact ⟨hit _, rfl⟩
  · dsimp only
    rw [missed.bypass]
    split
    · exact (alikeLines_memRead missed _ _ _).seen x user false
    · have seen := (alikeLines_memRead missed (.hallCache (Fin.ofNat 16 x)) (64 * n) 64).seen x user false
      generalize hcSees (memRead (bump s (hcPage x) Reg.hc.MISSES) (.hallCache (Fin.ofNat 16 x)) (64 * n) 64).1 x user false
        (memRead (bump s (hcPage x) Reg.hc.MISSES) (.hallCache (Fin.ofNat 16 x)) (64 * n) 64).2 = r at seen ⊢
      generalize hcSees (memRead (bump t (hcPage x) Reg.hc.MISSES) (.hallCache (Fin.ofNat 16 x)) (64 * n) 64).1 x user false
        (memRead (bump t (hcPage x) Reg.hc.MISSES) (.hallCache (Fin.ofNat 16 x)) (64 * n) 64).2 = q at seen ⊢
      obtain ⟨u, a⟩ := r
      obtain ⟨v, b⟩ := q
      obtain ⟨k, e⟩ := seen
      cases e
      cases a with
      | ok w => exact ⟨sameLines_allocate k _ _ _ _ _, rfl⟩
      | fault c f => exact ⟨k, rfl⟩

omit h in
theorem alikeLines_readLines (x : Nat) (user : HallUser) (stop n : Nat) : ∀ {s t : State} (_ : SameLines s t) (a : Nat),
    AlikeLines (readLines x user a stop n s) (readLines x user a stop n t) := by
  induction n with
  | zero => intro s t h a; exact ⟨h, rfl⟩
  | succ n ih =>
    intro s t h a
    have first := alikeLines_readLine h x user (a / 64) (a % 64) (min (stop - a) (64 - a % 64))
    rw [readLines, readLines]
    generalize readLine s x user (a / 64) (a % 64) (min (stop - a) (64 - a % 64)) = r at first ⊢
    generalize readLine t x user (a / 64) (a % 64) (min (stop - a) (64 - a % 64)) = q at first ⊢
    obtain ⟨u, b⟩ := r
    obtain ⟨v, c⟩ := q
    obtain ⟨k, e⟩ := first
    cases e
    cases b with
    | fault c f => exact ⟨k, rfl⟩
    | ok w =>
      have rest := ih k (a + min (stop - a) (64 - a % 64))
      dsimp only
      generalize readLines x user (a + min (stop - a) (64 - a % 64)) stop n u = r at rest ⊢
      generalize readLines x user (a + min (stop - a) (64 - a % 64)) stop n v = q at rest ⊢
      obtain ⟨u', b⟩ := r
      obtain ⟨v', c⟩ := q
      obtain ⟨k, e⟩ := rest
      cases e
      cases b with
      | fault c f => exact ⟨k, rfl⟩
      | ok w => exact ⟨k, rfl⟩

theorem alikeLines_hcRead (x : Nat) (user : HallUser) (a n : Nat) : AlikeLines (hcRead s x user a n) (hcRead t x user a n) :=
  alikeLines_readLines x user _ _ h a

/-- A ticket reads the same from the same lines. -/
theorem ticketRead_alike {x g : Nat} {user : HallUser} {k : Ticket} {a n v : Nat} {u : State}
    (e : ticketRead s x g user k a n = (u, some v)) : ∃ w, ticketRead t x g user k a n = (w, some v) ∧ SameLines u w := by
  have alike := alikeLines_hcRead h x user a n
  unfold ticketRead at e ⊢
  split at e
  · next r =>
    obtain ⟨same, q⟩ := alike.eq r
    obtain ⟨rfl, ev⟩ := Prod.mk.inj e
    rw [q, ← ev]
    exact ⟨_, rfl, same⟩
  · cases (Prod.mk.inj e).2

end

end Sys2Proof.Machine

/-! SUPPORT and settlement of O18: vector tickets from their start to their end, and the dresser (R104 to R107, R150 to R169). -/

namespace Sys2Proof.Machine

set_option Elab.async false -- each thread's stack counts against the check's memory limit

/-! ### The start of a vector ticket -/

section
variable {s : State} {h : Fin 16} {g : Fin 17} {serial : Nat} {rest : List VeItem} {k : Ticket} {j : Job}
  (hv : (gal s h g).ve = none) (hr : (gal s h g).ready = .vector serial :: rest) (hj : ticketJob s h g serial = some (k, j))
include hv hr hj

theorem exec_vectorTicketStart : exec (.vectorTicketStart h g) s = .next (if vOp (j.aux.getD 0) = 3
    then loadTable (vectorTaken s h g serial rest) h g k (j.aux.getD 0) else vectorTaken s h g serial rest) := by
  change execVectorTicketStart h g s = _
  simp only [execVectorTicketStart, hv, hr, hj]
  rfl

end

/-- The gallery of a vector ticket that its VE has taken. -/
theorem gal_vectorTaken (s : State) (h : Fin 16) (g : Fin 17) (serial : Nat) (rest : List VeItem) :
    gal (vectorTaken s h g serial rest) h g = { gal s h g with
      ve := some (.vector serial), ready := rest
      tickets := (gal s h g).tickets.map fun t => if t.serial = serial then { t with begun := true } else t } := by
  rw [vectorTaken, updTicket, gal_setGal, gal_setGal]

/-- The registers of a table as its ticket begins (R162, R169). -/
def tableNamed (s : State) (h g a : Nat) : State :=
  wr (wr s (vePage h g) Reg.ve.CORR_SRC (if a = 0 then 0 else 1)) (vePage h g) Reg.ve.TABLE_ADDR a

theorem corrSrc_tableNamed (s : State) (h g a : Nat) :
    rd (tableNamed s h g a) (vePage h g) Reg.ve.CORR_SRC = if a = 0 then 0 else 1 := by
  rw [tableNamed, rd_wr_ne _ _ _ _ _ _ (key_ne_of_off (by decide) (by decide) (.inr (by decide))), rd_wr]
  split <;> rfl

theorem table_cached {h g : Nat} {f : Fld} (hf : f.inPage = true) : Cached.field (vePage h g) f :=
  cached_of_page (by rintro ⟨⟩) rfl (by rintro _ ⟨⟩) hf

theorem tableAddr_tableNamed (s : State) (h g a : Nat) : rd (tableNamed s h g a) (vePage h g) Reg.ve.TABLE_ADDR = a % 2 ^ 64 := by
  rw [tableNamed, rd_wr]; rfl

theorem sameLines_tableNamed (s : State) (h g a : Nat) : SameLines s (tableNamed s h g a) :=
  (sameLines_wr s (by decide) (by rintro ⟨⟩) (by decide) (by decide) _).trans
    (sameLines_wr _ (by decide) (by rintro ⟨⟩) (by decide) (by decide) _)

/-- A table that lies in memory comes with its read (R162). -/
theorem loadTable_read {s u : State} {h g : Nat} {t : Ticket} {b img : Nat} (hb : vTableAddr b ≠ 0)
    (read : ticketRead (tableNamed s h g (vTableAddr b)) h g (.gallery (Fin.ofNat 17 g)) t (vTableAddr b) 512 = (u, some img)) :
    loadTable s h g t b = setGal u h g { gal u h g with table := some ((List.range 128).map fun i => fieldAt img (4 * i) 4) } := by
  unfold loadTable
  dsimp only
  rw [if_neg hb, show wr (wr s _ _ _) _ _ _ = tableNamed s h g (vTableAddr b) from rfl, read]

/-- The registers of a table name it, whether its read succeeds or not. -/
theorem fields_loadTable (s : State) (h g : Nat) (t : Ticket) (b : Nat) {f : Fld} (hf : f.inPage = true) :
    rd (loadTable s h g t b) (vePage h g) f = rd (tableNamed s h g (vTableAddr b)) (vePage h g) f := by
  have read := fields_ticketRead (tableNamed s h g (vTableAddr b)) h g (.gallery (Fin.ofNat 17 g)) t (vTableAddr b) 512
    (table_cached (h := h) (g := g) hf)
  unfold loadTable
  dsimp only
  rw [show wr (wr s _ _ _) _ _ _ = tableNamed s h g (vTableAddr b) from rfl]
  split
  · rfl
  · split
    · next r => rw [r] at read; exact read
    · next r => rw [r] at read; exact read

/-! ### The end of a vector ticket -/

/-- The work item of a ticket whose rows are written ends. -/
theorem vectorEnded_endVector (u : State) (h : Fin 16) (g : Fin 17) (v : VecRun) : VectorEnded u (endVector u h g v) h g v := by
  have hg : gal (endVector u h g v) h g = { gal u h g with
      ve := none
      tickets := (gal u h g).tickets.map fun t => if t.serial = v.t.serial then { t with written := true, finished := t.left } else t } := by
    rw [endVector, ticketWritten, updTicket, gal_setGal, gal_setGal]
    rfl
  refine ⟨rd_bump _ _ _, by rw [hg], rfl, rfl, ?_⟩
  rw [hg]
  intro e he hs
  obtain ⟨d, -, rfl⟩ := List.mem_map.1 he
  split at hs
  · next hd => rw [if_pos hd]; exact ⟨rfl, rfl⟩
  · next hd => exact absurd hs hd

/-- An operation whose rows all succeed ends its ticket. -/
theorem vectorEnded_runRows {s u : State} {h : Fin 16} {g : Fin 17} {v : VecRun} {row : Nat → State → State × Bool}
    (e : rowsRun s h g v row = (u, true)) : VectorEnded u (runRows s h g v row) h g v := by
  rw [rowsRun] at e
  unfold runRows
  dsimp only
  rw [e]
  exact vectorEnded_endVector u h g v

/-! ### A unit of REDUCE_SPLITK that fails -/

/-- The flag of a failed unit (R166). -/
def splitFlag (s : State) (h g status : Nat) : State :=
  if status = 0x21 then setSticky s (arrPage h g) Sticky.arr.SIG_FAULT else setSticky s (vePage h g) Sticky.ve.PART_FAULT

theorem sticky_failSplitk (s : State) (h g : Nat) (v : VecRun) (status : Nat) (p : Page) (b : Nat) :
    sticky (failSplitk s h g v status) p b = sticky (splitFlag s h g status) p b := by
  have regs : (failSplitk s h g v status).regs = (splitFlag s h g status).regs := by
    unfold failSplitk
    refine freePlaces_keeps (unwritten_regs _ _ (by decide)) _ _ _ _ ?_
    exact noteRan_keeps (unwritten_regs (splitFlag s h g status).regs _ (by decide)) _ _ _ _ rfl
  exact sticky_other (rd_congr regs _ _) b

/-- Settles O18. -/
theorem vectorAndDresserComplete : Obligations.VectorAndDresserComplete := by
  refine ⟨?_, ?_, ?_, ?_, ?_, ?_, ?_, ?_, ?_, ?_, ?_⟩
  · intro h g serial rest k j s hv hr hj hop
    refine ⟨_, (exec_vectorTicketStart hv hr hj).trans (by rw [if_neg hop]), ?_⟩
    beta_reduce
    rw [gal_vectorTaken]
    refine ⟨rfl, rfl, rfl, fun e he hs => ?_⟩
    obtain ⟨d, -, rfl⟩ := List.mem_map.1 he
    split at hs
    · next hd => rw [if_pos hd]
    · next hd => exact absurd hs hd
  · intro h g serial img rest k j s u hv hr hj hop ha read
    obtain ⟨w, named, -⟩ := ticketRead_alike (sameLines_tableNamed (vectorTaken s h g serial rest) h g (vTableAddr (j.aux.getD 0))) read
    refine ⟨_, (exec_vectorTicketStart hv hr hj).trans (by rw [if_pos hop, loadTable_read ha named]), ?_⟩
    have acc := accessed_ticketRead named
    refine ⟨congrArg Gallery.table (gal_setGal _ _ _ _), ?_, ?_⟩
    · exact ((acc.fields _ _ (table_cached (by decide))).trans (corrSrc_tableNamed _ _ _ _)).trans (if_neg ha)
    · exact (congrArg Gallery.ve (gal_setGal _ _ _ _)).trans ((congrArg Gallery.ve (acc.gal h g)).trans
        (congrArg Gallery.ve (gal_vectorTaken s h g serial rest)))
  · intro h g serial rest k j s hv hr hj hop
    refine ⟨_, (exec_vectorTicketStart hv hr hj).trans (by rw [if_pos hop]), ?_⟩
    exact ⟨(fields_loadTable _ _ _ _ _ (by decide)).trans (tableAddr_tableNamed _ _ _ _),
      (fields_loadTable _ _ _ _ _ (by decide)).trans (corrSrc_tableNamed _ _ _ _)⟩
  · intro h g v s u hv e
    exact ⟨_, by change execMap h g s = _; rw [execMap, hv], vectorEnded_runRows e⟩
  · intro h g v s u hv e
    exact ⟨_, by change execDot h g s = _; rw [execDot, hv], vectorEnded_runRows e⟩
  · intro h g v s u hv e
    exact ⟨_, by change execSoftmax h g s = _; rw [execSoftmax, hv], vectorEnded_runRows e⟩
  · intro h g v s u hv e
    exact ⟨_, by change execTopk h g s = _; rw [execTopk, hv], vectorEnded_runRows e⟩
  · intro h g v s c u hv hc e
    exact ⟨_, by change execReduceSum h g s = _; rw [execReduceSum, hv]; dsimp only; rw [hc], vectorEnded_runRows e⟩
  · intro h g v place ws parts recs cols s a b c d u hv hp hcols sides hbad tiles hrecs hd rows
    subst hp hcols hd
    have run : runSplitk a h g v ws = endVector u h g v := by
      unfold runSplitk
      dsimp only
      rw [tiles]
      dsimp only
      rw [hrecs]
      dsimp only
      rw [rows]
    refine ⟨_, ?_, run ▸ vectorEnded_endVector u h g v⟩
    change execReduceSplitk h g s = _
    rw [execReduceSplitk, hv]
    dsimp only
    rw [sides]
    dsimp only
    rw [hbad]
  · intro h g v ws code s u hv sides hbad
    have run : exec (.reduceSplitk h g) s = .next (failSplitk u h g v code) := by
      change execReduceSplitk h g s = _
      rw [execReduceSplitk, hv]
      dsimp only
      rw [sides]
      dsimp only
      rw [hbad]
    refine ⟨_, run, failSplitk_keeps (closed_dram u.dram _ (by decide)) u h g v code rfl,
      failSplitk_keeps (closed_caches u.caches _ (by decide)) u h g v code rfl, fun hc => ?_, fun hc => ?_⟩
    · exact (sticky_failSplitk _ _ _ _ _ _ _).trans (by rw [splitFlag, if_pos hc]; exact sticky_setSticky _ _ _ (by decide))
    · exact (sticky_failSplitk _ _ _ _ _ _ _).trans (by rw [splitFlag, if_neg hc]; exact sticky_setSticky _ _ _ (by decide))
  · intro h k j b n0 cols rows groups s u w hk hj hw hb hn hcols read hgs wrote
    subst hb hn hcols hgs
    have run : exec (.dressPanel h) s = .next { bump w (drsPage h) Reg.drs.PANELS with
        dressers := NatMap.set (bump w (drsPage h) Reg.drs.PANELS).dressers h { k with begun := true, written := true } } := by
      change execDressPanel h s = _
      rw [execDressPanel, hk]
      dsimp only
      rw [hj]
      dsimp only
      rw [hw, if_neg (by decide), dressPanel]
      dsimp only
      rw [read]
      dsimp only
      rw [wrote]
    exact ⟨_, run, rd_bump _ _ _, rfl, rfl, by rw [NatMap.get?_set, if_pos rfl]⟩

end Sys2Proof.Machine

/-! SUPPORT. What the end of a job leaves: the job is gone, no gallery and no dresser holds a ticket of it (R203, R259). -/

namespace Sys2Proof.Machine

set_option Elab.async false -- each thread's stack counts against the check's memory limit

/-! ### Galleries by their number -/

theorem gal_setGal_ne (s : State) (x : Gallery) {h g a b : Nat} (hne : 17 * a + b ≠ 17 * h + g) :
    gal (setGal s h g x) a b = gal s a b := by
  unfold gal setGal
  dsimp only
  rw [NatMap.get?_set, if_neg hne]

theorem lookup_mem {α : Type} {k : Nat} {v : α} : ∀ {m : NatMap α}, NatMap.get? m k = some v → (k, v) ∈ m
  | [], h => by cases h
  | (j, w) :: m, h => by
    rw [NatMap.get?, List.lookup_cons] at h
    split at h
    · next e => cases h; rw [eq_of_beq e]; exact List.mem_cons_self
    · exact List.mem_cons_of_mem _ (lookup_mem h)

theorem get?_map_value {α : Type} (f : α → α) (k : Nat) : ∀ m : NatMap α,
    NatMap.get? (m.map fun e => (e.1, f e.2)) k = (NatMap.get? m k).map f
  | [] => rfl
  | (j, w) :: m => by
    simp only [NatMap.get?, List.map_cons, List.lookup_cons]
    split
    · rfl
    · exact get?_map_value f k m

/-- A ticket of a gallery is among those held. -/
theorem mem_ticketsHeld {s : State} {h g : Nat} {t : Ticket} (ht : t ∈ (gal s h g).tickets) : (17 * h + g, t) ∈ ticketsHeld s := by
  unfold gal at ht
  cases e : NatMap.get? s.galleries (17 * h + g) with
  | none => rw [e] at ht; cases ht
  | some x =>
    rw [e] at ht
    exact List.mem_flatMap.2 ⟨_, lookup_mem e, List.mem_map.2 ⟨t, ht, rfl⟩⟩

/-! ### What an abandoned ticket leaves in its gallery -/

/-- The memories of a gallery, with what is known of their rows, and its registers' state. -/
structure SameStore (x y : Gallery) : Prop where
  mem : y.mem = x.mem
  broken : y.broken = x.broken
  rowCe : y.rowCe = x.rowCe
  rowQueue : y.rowQueue = x.rowQueue
  op : y.op = x.op
  faulted : y.faulted = x.faulted
  table : y.table = x.table

theorem SameStore.refl (x : Gallery) : SameStore x x := ⟨rfl, rfl, rfl, rfl, rfl, rfl, rfl⟩

theorem SameStore.trans {x y z : Gallery} (h : SameStore x y) (k : SameStore y z) : SameStore x z :=
  ⟨k.mem.trans h.mem, k.broken.trans h.broken, k.rowCe.trans h.rowCe, k.rowQueue.trans h.rowQueue, k.op.trans h.op,
    k.faulted.trans h.faulted, k.table.trans h.table⟩

theorem orphanGroup_leaves (hold : Bool) (x : Gallery) (slot : Nat) :
    SameStore x (orphanGroup hold x slot) ∧ (orphanGroup hold x slot).tickets = x.tickets := by
  cases hold <;> exact ⟨⟨rfl, rfl, rfl, rfl, rfl, rfl, rfl⟩, rfl⟩

theorem giveUp_leaves (orphans hold : Bool) (slots : List Nat) (x : Gallery) :
    SameStore x (slots.foldl (fun x i => if orphans then orphanGroup hold x i else freeGroup x i) x)
      ∧ (slots.foldl (fun x i => if orphans then orphanGroup hold x i else freeGroup x i) x).tickets = x.tickets := by
  induction slots generalizing x with
  | nil => exact ⟨.refl x, rfl⟩
  | cons i slots ih =>
    have one : SameStore x (if orphans then orphanGroup hold x i else freeGroup x i)
        ∧ (if orphans then orphanGroup hold x i else freeGroup x i).tickets = x.tickets := by
      split
      · exact orphanGroup_leaves hold x i
      · exact ⟨⟨rfl, rfl, rfl, rfl, rfl, rfl, rfl⟩, rfl⟩
    obtain ⟨same, tickets⟩ := ih (if orphans then orphanGroup hold x i else freeGroup x i)
    exact ⟨one.1.trans same, tickets.trans one.2⟩

/-- The gallery that a ticket is abandoned in keeps its memories and its other tickets. -/
theorem gal_abandonTicket (s : State) (h g : Nat) (t : Ticket) (orphans : Bool) :
    SameStore (gal s h g) (gal (abandonTicket s h g t orphans) h g)
      ∧ (gal (abandonTicket s h g t orphans) h g).tickets = (gal s h g).tickets.filter (·.serial != t.serial) := by
  unfold abandonTicket
  dsimp only
  rw [gal_setGal]
  obtain ⟨same, tickets⟩ := giveUp_leaves orphans (on s (arrPage h g) Reg.lnd.HOLD_ORPHANS)
    ((liveGroups (stripTicket (gal s h g) t.serial) t.serial).map Group.slot) (stripTicket (gal s h g) t.serial)
  have stripped : SameStore (gal s h g) (stripTicket (gal s h g) t.serial) := ⟨rfl, rfl, rfl, rfl, rfl, rfl, rfl⟩
  exact ⟨(stripped.trans same).trans ⟨rfl, rfl, rfl, rfl, rfl, rfl, rfl⟩, tickets⟩

theorem gal_abandonTicket_ne (s : State) (t : Ticket) (orphans : Bool) {h g a b : Nat} (hne : 17 * a + b ≠ 17 * h + g) :
    gal (abandonTicket s h g t orphans) a b = gal s a b := gal_setGal_ne _ _ hne

/-- The tickets of a list have been abandoned. -/
def abandonAll (s : State) (l : List (Nat × Ticket)) : State :=
  l.foldl (fun s e => abandonTicket s (e.1 / 17) (e.1 % 17) e.2 true) s

theorem gal_abandonAll (a b : Nat) (l : List (Nat × Ticket)) : ∀ s : State, SameStore (gal s a b) (gal (abandonAll s l) a b)
    ∧ ∀ t ∈ (gal (abandonAll s l) a b).tickets, t ∈ (gal s a b).tickets
      ∧ ∀ e ∈ l, e.1 = 17 * a + b → t.serial ≠ e.2.serial := by
  induction l with
  | nil => exact fun s => ⟨.refl _, fun t ht => ⟨ht, fun _ he => (List.not_mem_nil he).elim⟩⟩
  | cons d l ih =>
    intro s
    obtain ⟨same, kept⟩ := ih (abandonTicket s (d.1 / 17) (d.1 % 17) d.2 true)
    have hd : 17 * (d.1 / 17) + d.1 % 17 = d.1 := by omega
    by_cases e : 17 * a + b = d.1
    · have hab : gal (abandonTicket s (d.1 / 17) (d.1 % 17) d.2 true) a b
          = gal (abandonTicket s (d.1 / 17) (d.1 % 17) d.2 true) (d.1 / 17) (d.1 % 17) := by unfold gal; rw [e, hd]
      have hs : gal s a b = gal s (d.1 / 17) (d.1 % 17) := by unfold gal; rw [e, hd]
      obtain ⟨first, tickets⟩ := gal_abandonTicket s (d.1 / 17) (d.1 % 17) d.2 true
      rw [← hab, ← hs] at first tickets
      refine ⟨first.trans same, fun t ht => ?_⟩
      obtain ⟨mem, rest⟩ := kept t ht
      rw [tickets, List.mem_filter] at mem
      refine ⟨mem.1, fun x hx he => ?_⟩
      rcases List.mem_cons.1 hx with rfl | hx
      · simpa using mem.2
      · exact rest x hx he
    · have hn : gal (abandonTicket s (d.1 / 17) (d.1 % 17) d.2 true) a b = gal s a b :=
        gal_abandonTicket_ne _ _ _ (by rw [hd]; exact e)
      rw [hn] at same kept
      refine ⟨same, fun t ht => ⟨(kept t ht).1, fun x hx he => ?_⟩⟩
      rcases List.mem_cons.1 hx with rfl | hx
      · exact absurd he.symm e
      · exact (kept t ht).2 x hx he

/-! ### A job that is settled -/

/-- A job in a slot of a stairwell. -/
def isJobAt (sw slot : Nat) (j : Job) : Bool := j.sw == sw && j.slot == slot

theorem findJob_updJob (s : State) (sw slot : Nat) {f : Job → Job} (hf : ∀ j, (f j).sw = j.sw ∧ (f j).slot = j.slot) :
    findJob (updJob s sw slot f) sw slot = (findJob s sw slot).map f := by
  unfold findJob updJob
  dsimp only
  induction s.disp.jobs with
  | nil => rfl
  | cons j l ih =>
    rw [List.map_cons, List.find?_cons, List.find?_cons]
    by_cases e : j.sw = sw ∧ j.slot = slot
    · obtain ⟨h1, h2⟩ := hf j
      simp [e, h1, h2]
    · have hb : (j.sw == sw && j.slot == slot) = false := by simpa using e
      rw [if_neg e, hb]
      exact ih

theorem findJob_releaseWaits (s : State) (sw slot : Nat) : findJob (releaseWaits s) sw slot = findJob s sw slot := rfl

theorem findJob_endEntry (s : State) (a b c d e sw slot : Nat) : findJob (endEntry s a b c d e) sw slot = findJob s sw slot := by
  unfold endEntry
  dsimp only
  split <;> rfl

theorem findJob_at {s : State} {sw slot : Nat} {j : Job} (h : findJob s sw slot = some j) : j.sw = sw ∧ j.slot = slot := by
  simpa using List.find?_some h

/-- The dispatcher's jobs, but those of a slot. -/
theorem findJob_closeJob (s : State) (j : Job) (status : Nat) : findJob (closeJob s j status) j.sw j.slot = none := by
  unfold closeJob
  dsimp only
  rw [findJob_endEntry, findJob_releaseWaits]
  unfold findJob
  rw [List.find?_eq_none]
  intro k hk
  simpa [imp_iff_not_or] using (List.mem_filter.1 hk).2

theorem gal_endEntry (s : State) (a b c d e h g : Nat) : gal (endEntry s a b c d e) h g = gal s h g := by
  unfold endEntry
  dsimp only
  split <;> rfl

theorem gal_closeJob (s : State) (j : Job) (status h g : Nat) :
    gal (closeJob s j status) h g = forgetConversion j.sw j.slot (gal s h g) := by
  unfold closeJob
  dsimp only
  rw [gal_endEntry]
  unfold gal releaseWaits
  dsimp only
  rw [get?_map_value]
  cases NatMap.get? s.galleries (17 * h + g) <;> rfl

theorem forgetConversion_leaves (sw slot : Nat) (x : Gallery) :
    SameStore x (forgetConversion sw slot x) ∧ (forgetConversion sw slot x).tickets = x.tickets := by
  unfold forgetConversion
  split
  · split
    · exact ⟨⟨rfl, rfl, rfl, rfl, rfl, rfl, rfl⟩, rfl⟩
    · exact ⟨.refl x, rfl⟩
  · exact ⟨.refl x, rfl⟩

theorem gal_settleJob (s : State) (sw slot h g : Nat) :
    SameStore (gal s h g) (gal (settleJob s sw slot) h g) ∧ (gal (settleJob s sw slot) h g).tickets = (gal s h g).tickets := by
  unfold settleJob
  split
  · split
    · rw [gal_closeJob]; exact forgetConversion_leaves _ _ _
    · exact ⟨.refl _, rfl⟩
  · exact ⟨.refl _, rfl⟩

/-- A job that has ended and holds no place leaves the dispatcher as it is settled. -/
theorem findJob_settleJob {s : State} {sw slot : Nat} (h : ∀ j, findJob s sw slot = some j → j.held = 0 ∧ j.ended.isSome = true) :
    findJob (settleJob s sw slot) sw slot = none := by
  unfold settleJob
  cases e : findJob s sw slot with
  | none => exact e
  | some j =>
    obtain ⟨held, ended⟩ := h j e
    obtain ⟨rfl, rfl⟩ := findJob_at e
    dsimp only
    rw [if_pos (by simp [held, ended])]
    exact findJob_closeJob _ _ _

/-! ### The end of a job -/

/-- The job as it ends: its status stands, and it holds nothing. -/
def endedJob (status : Nat) (j : Job) : Job := { j with ended := some (j.ended.getD status), requeue := [], returned := [], held := 0 }

/-- The tickets of a slot of a stairwell that galleries hold. -/
def ticketsOf (s : State) (sw slot : Nat) : List (Nat × Ticket) := (ticketsHeld s).filter fun e => e.2.sw == sw && e.2.slot == slot

/-- The device without the tickets of a slot, in galleries and in dressers. -/
def withoutTickets (s : State) (sw slot : Nat) : State :=
  let t := abandonAll s (ticketsOf s sw slot)
  { t with dressers := t.dressers.filter fun e => !(e.2.sw == sw && e.2.slot == slot) }

theorem endJob_eq (s : State) (sw slot status : Nat) :
    endJob s sw slot status = settleJob (releaseWaits (withoutTickets (updJob s sw slot (endedJob status)) sw slot)) sw slot := rfl

theorem disp_abandonAll (s : State) (l : List (Nat × Ticket)) : (abandonAll s l).disp = s.disp :=
  foldl_keeps (P := fun t => t.disp = s.disp) (fun t e h => abandonTicket_keeps (closed_disp s.disp _ (by decide)) t _ _ _ _ h) rfl

theorem findJob_withoutTickets (s : State) (a b sw slot : Nat) : findJob (withoutTickets s a b) sw slot = findJob s sw slot := by
  unfold findJob withoutTickets
  dsimp only
  rw [disp_abandonAll]

theorem findJob_endJob (s : State) (sw slot status : Nat) : findJob (endJob s sw slot status) sw slot = none := by
  rw [endJob_eq]
  refine findJob_settleJob fun j hj => ?_
  rw [findJob_releaseWaits, findJob_withoutTickets, findJob_updJob s sw slot (f := endedJob status) fun _ => ⟨rfl, rfl⟩] at hj
  obtain ⟨k, -, rfl⟩ := Option.map_eq_some_iff.1 hj
  exact ⟨rfl, rfl⟩

theorem gal_updJob (s : State) (sw slot : Nat) (f : Job → Job) (h g : Nat) : gal (updJob s sw slot f) h g = gal s h g := rfl

theorem gal_releaseWaits (s : State) (h g : Nat) : gal (releaseWaits s) h g = gal s h g := rfl

theorem gal_withoutTickets (s : State) (a b sw slot : Nat) : SameStore (gal s a b) (gal (withoutTickets s sw slot) a b)
    ∧ ∀ t ∈ (gal (withoutTickets s sw slot) a b).tickets, t ∈ (gal s a b).tickets ∧ ¬(t.sw = sw ∧ t.slot = slot) := by
  obtain ⟨same, kept⟩ := gal_abandonAll a b (ticketsOf s sw slot) s
  refine ⟨same, fun t ht => ⟨(kept t ht).1, fun e => (kept t ht).2 (17 * a + b, t) ?_ rfl rfl⟩⟩
  exact List.mem_filter.2 ⟨mem_ticketsHeld (kept t ht).1, by simpa using e⟩

/-- The memories of a gallery outlast the end of a job. -/
theorem sameStore_endJob (s : State) (sw slot status h g : Nat) : SameStore (gal s h g) (gal (endJob s sw slot status) h g) := by
  have kept := (gal_withoutTickets (updJob s sw slot (endedJob status)) h g sw slot).1
  have settled := (gal_settleJob (releaseWaits (withoutTickets (updJob s sw slot (endedJob status)) sw slot)) sw slot h g).1
  rw [gal_updJob] at kept
  rw [gal_releaseWaits] at settled
  rw [endJob_eq]
  exact kept.trans settled

/-- No gallery holds a ticket of a job that has ended. -/
theorem tickets_endJob (s : State) (sw slot status h g : Nat) :
    ∀ t ∈ (gal (endJob s sw slot status) h g).tickets, t ∈ (gal s h g).tickets ∧ ¬(t.sw = sw ∧ t.slot = slot) := by
  have kept := (gal_withoutTickets (updJob s sw slot (endedJob status)) h g sw slot).2
  rw [gal_updJob] at kept
  rw [endJob_eq, (gal_settleJob _ _ _ _ _).2, gal_releaseWaits]
  exact kept

theorem workEnded_endJob (s : State) (j : Nat × Nat) (status : Nat) (h : Fin 16) (g : Fin 17) : WorkEnded (endJob s j.1 j.2 status) h g j :=
  ⟨findJob_endJob _ _ _ _, fun t ht => (tickets_endJob s j.1 j.2 status h g t ht).2⟩

/-- No dresser holds a ticket of a job that has ended. -/
theorem dressers_endJob (s : State) (sw slot status : Nat) : ∀ e ∈ (endJob s sw slot status).dressers, ¬(e.2.sw = sw ∧ e.2.slot = slot) := by
  have kept : (endJob s sw slot status).dressers = (withoutTickets (updJob s sw slot (endedJob status)) sw slot).dressers :=
    settleJob_keeps (closed_dressers _ _ (by decide)) _ _ _ rfl
  rw [kept]
  intro e he
  simpa [imp_iff_not_or] using (List.mem_filter.1 he).2

end Sys2Proof.Machine

/-! SUPPORT and settlement of O22: one access at its sector, and the accesses of one cycle (R253, R264, R267, R270, R278). -/

namespace Sys2Proof.Machine

set_option Elab.async false -- each thread's stack counts against the check's memory limit

/-! ### One sector -/

section
variable {s : State} {a : Nat} (ha : a % 32 = 0)
include ha

/-- A read of one sector reads it, and faults as it does. -/
theorem memRead_sector (who : Requester) : memRead s who a 32 = (match readSector s who a with
    | (t, _, some k) => (scFault t who a k false, .fault k a)
    | (t, v, none) => (t, .ok (bits v 0 256))) := by
  have h1 : a / 32 * 32 = a := by omega
  have h2 : ceilDiv (a + 32 - a) 32 = 1 := by rw [Nat.add_sub_cancel_left]; rfl
  unfold memRead
  dsimp only
  rw [h1, h2, readSectors]
  generalize readSector s who a = r
  obtain ⟨t, v, k⟩ := r
  dsimp only [readSectors]
  cases k <;> simp

/-- A write within one sector merges into it, and faults as it does. -/
theorem memWritePoison_sector {lo n : Nat} (hn : 1 ≤ n) (hl : lo + n ≤ 32) (who : Requester) (v : Nat) (poison : Bool) :
    memWritePoison s who (a + lo) n v poison = (match writeSector s who a lo n (v % 2 ^ (8 * n)) poison with
      | (t, some k) => (wakeWaiters (scFault t who a k true) (a + lo) n, .fault k a)
      | (t, none) => (wakeWaiters t (a + lo) n, .ok 0)) := by
  have h1 : (a + lo) / 32 * 32 = a := by omega
  have h2 : ceilDiv (a + lo + n - a) 32 = 1 := by unfold ceilDiv; omega
  have h3 : min (a + lo + n - (a + lo)) (a + 32 - (a + lo)) = n := by omega
  unfold memWritePoison
  rw [h1, h2, writeSectors]
  dsimp only
  rw [h1, h3, Nat.add_sub_cancel_left]
  generalize writeSector s who a lo n (v % 2 ^ (8 * n)) poison = r
  obtain ⟨t, k⟩ := r
  dsimp only [writeSectors]
  cases k <;> rfl

end

/-- A whole sector is written, with a code of its own (R269, R270). -/
theorem writeSector_whole {s : State} {a : Nat} (who : Requester) (hp : present s a = true) (lo v : Nat) (poison : Bool) :
    writeSector s who a lo 32 v poison
      = (storeSector (crossFifo (countWrite s who (place s a).1) (scPage (place s a).1) 1) (cellAt s a) v poison, none) := by
  rw [writeSector_present who hp, if_pos rfl]

theorem getBytes_storeSector (s : State) (c v : Nat) (poison : Bool) : getBytes (storeSector s c v poison).dram c 32 = v % 2 ^ 256 :=
  getBytes_putBytes s.dram c 32 v

theorem codeOf_stored (s : State) (c v : Nat) (poison : Bool) :
    codeOf (storeSector s c v poison) c = { poison := poison, errors := [] } := by
  rw [codeOf_storeSector, if_pos rfl]

/-! ### What lies outside a sector -/

/-- The bytes outside the sector at a place stand. -/
def BytesBeside (c : Nat) (s t : State) : Prop := ∀ k, (k < c ∨ c + 32 ≤ k) → byteAt t.dram k = byteAt s.dram k

theorem BytesBeside.of {c : Nat} {s t : State} (h : t.dram = s.dram) : BytesBeside c s t := fun _ _ => by rw [h]

theorem BytesBeside.trans {c : Nat} {s t u : State} (h : BytesBeside c s t) (k : BytesBeside c t u) : BytesBeside c s u :=
  fun i hi => (k i hi).trans (h i hi)

theorem beside_storeSector (s : State) (c v : Nat) (poison : Bool) : BytesBeside c s (storeSector s c v poison) := fun k hk => by
  rw [byteAt_storeSector, if_neg (by omega)]

theorem noteCorrection_dram (s : State) (st c symbol flips : Nat) : (noteCorrection s st c symbol flips).dram = s.dram :=
  noteCorrection_keeps (closed_dram _ _ (by decide)) s st c symbol flips rfl

theorem beside_readStored (s : State) (st c : Nat) : BytesBeside c s (readStored s st c).1 := by
  unfold readStored
  dsimp only
  split
  · exact .of (queueRow_keeps (closed_dram _ _ (by decide)) _ _ _ rfl)
  · exact .of rfl
  · refine (beside_storeSector (crossFifo s (scPage st) 1) c _ _).trans (.of (noteCorrection_dram _ _ _ _ _))

theorem noteBad_dram (s : State) (who : Requester) (st k : Nat) : (noteBad s who st k).dram = s.dram :=
  noteBad_keeps (closed_dram _ _ (by decide)) s who st k rfl

theorem scFault_dram (s : State) (who : Requester) (a k : Nat) (w : Bool) : (scFault s who a k w).dram = s.dram :=
  scFault_keeps (closed_dram _ _ (by decide)) s who a k w rfl

theorem beside_readSector (s : State) (who : Requester) (a : Nat) : BytesBeside (cellAt s a) s (readSector s who a).1 := by
  by_cases hp : present s a = true
  · rw [readSector_present who hp]
    have counted : (countRead s who (place s a).1).dram = s.dram := by unfold countRead; split <;> rfl
    have read := (BytesBeside.of counted).trans (beside_readStored (countRead s who (place s a).1) (place s a).1 (cellAt s a))
    split
    · next e => rw [e] at read; exact read.trans (.of (noteBad_dram _ _ _ _))
    · next e => rw [e] at read; exact read
  · rw [readSector_absent who hp]; exact .of rfl

theorem beside_writeSector (s : State) (who : Requester) (a lo n v : Nat) (poison : Bool) :
    BytesBeside (cellAt s a) s (writeSector s who a lo n v poison).1 := by
  by_cases hp : present s a = true
  · rw [writeSector_present who hp]
    have counted := countWrite_dram s who (place s a).1
    split
    · exact (BytesBeside.of counted).trans (beside_storeSector _ _ _ _)
    · have read := (BytesBeside.of counted).trans
        (beside_readStored (bump (countWrite s who (place s a).1) (scPage (place s a).1) Reg.sc.RMW) (place s a).1 (cellAt s a))
      split
      · next e => rw [e] at read; exact read.trans (.of (noteBad_dram _ _ _ _))
      · next e => rw [e] at read; exact read.trans (beside_storeSector _ _ _ _)
  · rw [writeSector_absent who hp]; exact .of rfl

theorem beside_memRead {s : State} {a : Nat} (ha : a % 32 = 0) (who : Requester) :
    BytesBeside (cellAt s a) s (memRead s who a 32).1 := by
  have read := beside_readSector s who a
  rw [memRead_sector ha]
  split
  · next e => rw [e] at read; exact read.trans (.of (scFault_dram _ _ _ _ _))
  · next e => rw [e] at read; exact read

theorem beside_memWritePoison {s : State} {a lo n : Nat} (ha : a % 32 = 0) (hn : 1 ≤ n) (hl : lo + n ≤ 32) (who : Requester)
    (v : Nat) (poison : Bool) : BytesBeside (cellAt s a) s (memWritePoison s who (a + lo) n v poison).1 := by
  have wrote := beside_writeSector s who a lo n (v % 2 ^ (8 * n)) poison
  rw [memWritePoison_sector ha hn hl]
  split
  · next e =>
    rw [e] at wrote
    exact wrote.trans (.of ((wakeWaiters_keeps (closed_dram _ _ (by decide)) _ _ _ rfl).trans (scFault_dram _ _ _ _ _)))
  · next e => rw [e] at wrote; exact wrote.trans (.of rfl)

/-! ### The registers of a stack controller -/

/-- Counters of stack controllers. -/
def StackCounts (l : List Fld) : Scope := ⟨fun q g => silent q g = true ∧ (∃ st, q = scPage st) ∧ g ∈ l, fun _ => True⟩

theorem Onward.counted {l : List Fld} {s t : State} (h : Onward Beside s t) : Onward (StackCounts l) s t :=
  h.mono fun q _ (k : (StackCounts l).field _ _) => by
    obtain ⟨hs, ⟨st, rfl⟩, -⟩ := k
    exact ⟨hs, by rintro ⟨⟩, by rintro _ ⟨⟩⟩

section
variable {l : List Fld}

theorem counts_wr (s : State) (st : Nat) {f : Fld} (hf : f.inPage = true) (ho : f.off ≠ 0x018)
    (hl : ∀ g ∈ l, g.off ≠ f.off) (v : Nat) : Onward (StackCounts l) s (wr s (scPage st) f v) :=
  onward_wr hf ho (.inl (by rintro ⟨⟩)) (fun _ _ (k : (StackCounts l).field _ _) =>
    key_ne_of_off hf (inPage_of_silent k.1) (.inr (hl _ k.2.2))) s v

theorem counts_setSticky (hl : ∀ g ∈ l, g.off ≠ 0x018) (s : State) (p : Page) (b : Nat) : Onward (StackCounts l) s (setSticky s p b) :=
  onward_setSticky (fun _ _ (k : (StackCounts l).field _ _) => ⟨k.1, .inr (hl _ k.2.2)⟩) s b

end

/-- The counters of reads and of what they find. -/
def readCounts : List Fld := [Reg.sc.READS, Reg.sc.UE_COUNT, Reg.sc.POISON_READS]

/-- The counters of accesses and of their faults. -/
def accessCounts : List Fld := Reg.sc.FAULTS :: readCounts

theorem counts_queueRow {F : Scope} (s : State) (st row : Nat) : Onward F s (queueRow s st row) := by
  unfold queueRow
  exact .ite (onward_same rfl rfl rfl) (.refl s)

theorem counts_chargeLane {F : Scope} (s : State) (st c symbol flips : Nat) : Onward F s (chargeLane s st c symbol flips) := by
  unfold chargeLane
  split <;> exact onward_same rfl rfl rfl

theorem counts_storeSector {F : Scope} (s : State) (c v : Nat) (poison : Bool) : Onward F s (storeSector s c v poison) :=
  onward_same rfl rfl rfl

theorem counts_noteCorrection (s : State) (st c symbol flips : Nat) :
    Onward (StackCounts accessCounts) s (noteCorrection s st c symbol flips) := by
  unfold noteCorrection
  extract_lets t d t1 n t2
  have h0 : Onward (StackCounts accessCounts) s t :=
    (counts_wr s st (by decide) (by decide) (by decide) _).trans (counts_setSticky (by decide) _ _ _)
  have h1 : Onward (StackCounts accessCounts) t t1 := onward_same rfl rfl rfl
  have h2 : Onward (StackCounts accessCounts) t1 t2 := .ite (counts_queueRow _ _ _) (.refl t1)
  exact ((h0.trans h1).trans h2).trans (counts_chargeLane _ _ _ _ _)

theorem counts_readStored (s : State) (st c : Nat) : Onward (StackCounts accessCounts) s (readStored s st c).1 := by
  unfold readStored
  extract_lets t code img
  have ht : Onward (StackCounts accessCounts) s t := onward_crossFifo _ _ _
  clear_value t
  split
  · exact ht.trans (counts_queueRow _ _ _)
  · exact ht
  · exact (ht.trans (counts_storeSector _ _ _ _)).trans (counts_noteCorrection _ _ _ _ _)

/-- A fault past its count. -/
theorem counts_scFault (s : State) (who : Requester) (a kind : Nat) (write : Bool) : Onward (StackCounts accessCounts)
    (bump s (scPage (place s a).1) Reg.sc.FAULTS) (scFault s who a kind write) := by
  have info (u : State) (st w r : Nat) : Onward (StackCounts accessCounts) u (if on u (scPage st) Reg.sc.FAULT_INFO_VALID then u else
      bump (wr (wr (wr (wr (wr (wr u (scPage st) Reg.sc.FAULT_ADDR a) (scPage st) Reg.sc.FAULT_INFO_KIND kind) (scPage st)
        Reg.sc.FAULT_INFO_WRITE w) (scPage st) Reg.sc.FAULT_INFO_REQUESTER r) (scPage st) Reg.sc.FAULT_INFO_VALID 1) (scPage st)
        Reg.hdr.FAULT_CODE (0x80 + kind)) (scPage st) Reg.hdr.FAULT_COUNT) :=
    .ite (.refl u) ((((((
      (counts_wr u st (by decide) (by decide) (by decide) _).trans (counts_wr _ st (by decide) (by decide) (by decide) _)).trans
      (counts_wr _ st (by decide) (by decide) (by decide) _)).trans (counts_wr _ st (by decide) (by decide) (by decide) _)).trans
      (counts_wr _ st (by decide) (by decide) (by decide) _)).trans (counts_wr _ st (by decide) (by decide) (by decide) _)).trans
      (counts_wr _ st (by decide) (by decide) (by decide) _))
  have denied (u : State) (st : Nat) : Onward (StackCounts accessCounts) u
      (if kind = 0 then setSticky u (scPage st) Sticky.sc.ACCESS_FAULT else u) :=
    .ite (counts_setSticky (by decide) _ _ _) (.refl u)
  unfold scFault
  exact ((denied _ (place s a).1).trans (info _ (place s a).1 _ _)).trans (beside_report _ _ _ _).counted

/-- A fault leaves the counters of reads. -/
theorem reads_scFault (s : State) (who : Requester) (a kind : Nat) (write : Bool) :
    Onward (StackCounts readCounts) s (scFault s who a kind write) :=
  (counts_wr s _ (f := Reg.sc.FAULTS) (by decide) (by decide) (by decide) _).trans
    ((counts_scFault s who a kind write).mono fun _ _ k => ⟨k.1, k.2.1, List.mem_cons_of_mem _ k.2.2⟩)

/-! ### What a read counts -/

theorem counts_noteBad (s : State) (who : Requester) (st k : Nat) : Onward (StackCounts [Reg.sc.READS]) s (noteBad s who st k) := by
  unfold noteBad
  extract_lets f b
  refine .trans (.ite (.refl s) (counts_wr s st ?_ ?_ ?_ _)) (counts_setSticky (by decide) _ _ _) <;>
    (unfold f; split <;> decide)

theorem counts_noteBad_maint {who : Requester} (hm : isMaint who = true) (s : State) (st k : Nat) :
    Onward (StackCounts readCounts) s (noteBad s who st k) := by
  unfold noteBad
  rw [hm]
  exact counts_setSticky (by decide) _ _ _

/-- A read of a sector counts it, and nothing more of what `noteBad` leaves. -/
theorem counts_memRead {s : State} {a : Nat} {who : Requester} {l : List Fld} (hl : ∀ g ∈ l, g ∈ readCounts)
    (hb : ∀ u st k, Onward (StackCounts l) u (noteBad u who st k)) (ha : a % 32 = 0) (hp : present s a = true) :
    Onward (StackCounts l) (countRead s who (place s a).1) (memRead s who a 32).1 := by
  have stored : Onward (StackCounts l) (countRead s who (place s a).1)
      (readStored (countRead s who (place s a).1) (place s a).1 (cellAt s a)).1 :=
    (counts_readStored _ _ _).mono fun _ _ k => ⟨k.1, k.2.1, List.mem_cons_of_mem _ (hl _ k.2.2)⟩
  have read : Onward (StackCounts l) (countRead s who (place s a).1) (readSector s who a).1 := by
    rw [readSector_present who hp]
    split
    · next e => exact (stored.fst e).trans (hb _ _ _)
    · next e => exact stored.fst e
  rw [memRead_sector ha]
  split
  · next e => exact (read.fst e).trans ((reads_scFault _ _ _ _ _).mono fun _ _ k => ⟨k.1, k.2.1, hl _ k.2.2⟩)
  · next e => exact read.fst e

/-! ### FIFO_HOLD of a stack controller -/

theorem scPage_ne_hif (st : Nat) : scPage st ≠ .hif := by rintro ⟨⟩

theorem held_sc (s : State) (st : Nat) {t : State} (h : Signals s t) : fifoHold t (scPage st) = fifoHold s (scPage st) :=
  h.hold _ (scPage_ne_hif st)

theorem signals_wr {s t : State} (h : Signals s t) (p : Page) {f : Fld} (hf : f.inPage = true) (ho : f.off ≠ 0x040) (v : Nat) :
    Signals s (wr t p f v) := h.wr p f v (upKey_ne p hf ho)

theorem signals_fcEnter (s : State) (src code detail : Nat) : Signals s (fcEnter s src code detail) := by
  have entered (l : List FcEntry) : Signals s { s with fc := l } := ⟨rfl, fun _ _ => rfl, rfl⟩
  unfold fcEnter
  split
  · exact entered _
  split
  · exact (signals_wr (.refl s) .fc (by decide) (by decide) _).setSticky _ _
  · dsimp only
    split
    · exact (entered _).setSticky _ _
    · exact entered _

theorem signals_report (s : State) (p : Page) (code detail : Nat) : Signals s (report s p code detail) := by
  unfold report
  split
  · exact signals_fcEnter _ _ _ _
  · exact .refl s

theorem Signals.trans {s t u : State} (h : Signals s t) (k : Signals t u) : Signals s u :=
  ⟨by rw [k.hif, h.hif], fun q hq => (k.hold q hq).trans (h.hold q hq), k.up.trans h.up⟩

theorem signals_same {s t : State} (hh : t.hif = s.hif) (hf : t.fifoHolds = s.fifoHolds) (hr : t.regs = s.regs) : Signals s t :=
  ⟨by rw [hh], fun q _ => by rw [fifoHold, hf, fifoHold], by unfold linkUp on; rw [rd_congr hr]⟩

theorem signals_queueRow (s : State) (st row : Nat) : Signals s (queueRow s st row) := by
  unfold queueRow
  exact .ite (signals_same rfl rfl rfl) (.refl s)

theorem signals_chargeLane (s : State) (st c symbol flips : Nat) : Signals s (chargeLane s st c symbol flips) := by
  unfold chargeLane
  split <;> exact signals_same rfl rfl rfl

theorem signals_noteCorrection (s : State) (st c symbol flips : Nat) : Signals s (noteCorrection s st c symbol flips) := by
  unfold noteCorrection
  extract_lets t d t1 n t2
  have h0 : Signals s t := (signals_wr (.refl s) _ (by decide) (by decide) _).setSticky _ _
  have h1 : Signals t t1 := signals_same rfl rfl rfl
  have h2 : Signals t1 t2 := .ite (signals_queueRow _ _ _) (.refl t1)
  exact ((h0.trans h1).trans h2).trans (signals_chargeLane _ _ _ _ _)

theorem signals_storeSector (s : State) (c v : Nat) (poison : Bool) : Signals s (storeSector s c v poison) := signals_same rfl rfl rfl

/-- A sector's read crosses into its stack once (R27). -/
theorem signals_readStored (s : State) (st c : Nat) : Signals (Machine.crossFifo s (scPage st) 1) (readStored s st c).1 := by
  unfold readStored
  dsimp only
  generalize Machine.crossFifo s (scPage st) 1 = t
  split
  · exact signals_queueRow _ _ _
  · exact .refl t
  · exact (signals_storeSector t c _ _).trans (signals_noteCorrection _ _ _ _ _)

theorem signals_noteBad (s : State) (who : Requester) (st k : Nat) : Signals s (noteBad s who st k) := by
  unfold noteBad
  extract_lets f b
  refine .setSticky (.ite (.refl s) (signals_wr (.refl s) _ ?_ ?_ _)) _ _ <;> (unfold f; split <;> decide)

theorem signals_scFault (s : State) (who : Requester) (a kind : Nat) (write : Bool) : Signals s (scFault s who a kind write) := by
  have info (u : State) (st w r : Nat) : Signals u (if on u (scPage st) Reg.sc.FAULT_INFO_VALID then u else
      bump (wr (wr (wr (wr (wr (wr u (scPage st) Reg.sc.FAULT_ADDR a) (scPage st) Reg.sc.FAULT_INFO_KIND kind) (scPage st)
        Reg.sc.FAULT_INFO_WRITE w) (scPage st) Reg.sc.FAULT_INFO_REQUESTER r) (scPage st) Reg.sc.FAULT_INFO_VALID 1) (scPage st)
        Reg.hdr.FAULT_CODE (0x80 + kind)) (scPage st) Reg.hdr.FAULT_COUNT) :=
    have w {t : State} (h : Signals u t) {f : Fld} (hf : f.inPage = true) (ho : f.off ≠ 0x040) (v : Nat) := signals_wr h (scPage st) hf ho v
    .ite (.refl u) (w (w (w (w (w (w (w (.refl u) (by decide) (by decide) _) (by decide) (by decide) _) (by decide) (by decide) _)
      (by decide) (by decide) _) (by decide) (by decide) _) (by decide) (by decide) _) (by decide) (by decide) _)
  have denied (u : State) (st : Nat) : Signals u (if kind = 0 then setSticky u (scPage st) Sticky.sc.ACCESS_FAULT else u) :=
    .ite ((Signals.refl u).setSticky _ _) (.refl u)
  have counted : Signals s (bump s (scPage (place s a).1) Reg.sc.FAULTS) := signals_wr (.refl s) _ (by decide) (by decide) _
  unfold scFault
  exact ((counted.trans (denied _ (place s a).1)).trans (info _ (place s a).1 _ _)).trans (signals_report _ _ _ _)

theorem signals_countRead (s : State) (who : Requester) (st : Nat) : Signals s (countRead s who st) :=
  .ite (.refl s) (signals_wr (.refl s) _ (f := Reg.sc.READS) (by decide) (by decide) _)

theorem signals_countWrite (s : State) (who : Requester) (st : Nat) : Signals s (countWrite s who st) :=
  .ite (.refl s) (signals_wr (.refl s) _ (f := Reg.sc.WRITES) (by decide) (by decide) _)

/-! ### Crossings -/

/-- Nothing has crossed, or one access has, whose episode FIFO_HOLD may count. -/
theorem mayHold_crossFifo (s : State) (p : Page) (n : Nat) : MayHold s (Machine.crossFifo s p n) p n := by
  refine .inr ⟨(draw s).1 % (n + 1), Nat.lt_succ_iff.1 (Nat.mod_lt _ (Nat.succ_pos n)), ?_⟩
  rw [Machine.crossFifo, fifoHold_countHold, if_pos rfl]
  rfl

theorem mayHold_same {s t u : State} {p : Page} {n : Nat} (h : MayHold s t p n) (e : fifoHold u p = fifoHold t p) : MayHold s u p n := by
  unfold MayHold
  rw [e]
  exact h

theorem mayHold_after {s t u : State} {p : Page} {n : Nat} (e : fifoHold t p = fifoHold s p) (h : MayHold t u p n) : MayHold s u p n := by
  unfold MayHold
  rw [← e]
  exact h

theorem mayHold_readStored {s t : State} {st : Nat} (h : Signals s t) (c : Nat) : MayHold s (readStored t st c).1 (scPage st) 1 :=
  mayHold_after (held_sc s st h) (mayHold_same (mayHold_crossFifo t _ 1) (held_sc _ st (signals_readStored t st c)))

theorem mayHold_memRead {s : State} {a : Nat} (ha : a % 32 = 0) (hp : present s a = true) (who : Requester) :
    MayHold s (memRead s who a 32).1 (scPage (place s a).1) 1 := by
  have stored := mayHold_readStored (st := (place s a).1) (signals_countRead s who (place s a).1) (cellAt s a)
  have read : MayHold s (readSector s who a).1 (scPage (place s a).1) 1 := by
    rw [readSector_present who hp]
    split
    · next e => rw [e] at stored; exact mayHold_same stored (held_sc _ _ (signals_noteBad _ _ _ _))
    · next e => rw [e] at stored; exact stored
  rw [memRead_sector ha]
  split
  · next e => rw [e] at read; exact mayHold_same read (held_sc _ _ (signals_scFault _ _ _ _ _))
  · next e => rw [e] at read; exact read

theorem mayHold_memWritePoison {s : State} {a lo n : Nat} (ha : a % 32 = 0) (hn : 1 ≤ n) (hl : lo + n ≤ 32)
    (hp : present s a = true) (who : Requester) (v : Nat) (poison : Bool) :
    MayHold s (memWritePoison s who (a + lo) n v poison).1 (scPage (place s a).1) 1 := by
  have merged := mayHold_readStored (st := (place s a).1)
    (signals_wr (signals_countWrite s who (place s a).1) (scPage (place s a).1) (f := Reg.sc.RMW) (by decide) (by decide)
      (min (rd (countWrite s who (place s a).1) (scPage (place s a).1) Reg.sc.RMW + 1) (2 ^ Reg.sc.RMW.width - 1))) (cellAt s a)
  have wrote : MayHold s (writeSector s who a lo n (v % 2 ^ (8 * n)) poison).1 (scPage (place s a).1) 1 := by
    rw [writeSector_present who hp]
    split
    · exact mayHold_after (held_sc _ _ (signals_countWrite s who (place s a).1)) (mayHold_crossFifo _ _ 1)
    · change MayHold s (readStored (bump (countWrite s who (place s a).1) (scPage (place s a).1) Reg.sc.RMW) _ _).1 _ _ at merged
      split
      · next e => rw [e] at merged; exact mayHold_same merged (held_sc _ _ (signals_noteBad _ _ _ _))
      · next e => rw [e] at merged; exact merged
  rw [memWritePoison_sector ha hn hl]
  split
  · next e => rw [e] at wrote; exact mayHold_same wrote (held_sc _ _ ((signals_scFault _ _ _ _ _).trans (signals_same rfl rfl rfl)))
  · next e => rw [e] at wrote; exact wrote

/-! ### An access as its sector sees it -/

/-- The upsets of an access have changed its sector. -/
def upsetAt (s : State) (x : SectorAccess) : State :=
  if present s (x.addr / 32 * 32) then upsetSector s (cellAt s (x.addr / 32 * 32)) x.upset else s

/-- What upsets leave: everything but the code of the sector. -/
structure Upsets (s t : State) : Prop where
  dram : t.dram = s.dram
  regs : t.regs = s.regs
  drams : t.drams = s.drams
  signals : Signals s t
  galleries : t.galleries = s.galleries

theorem upsets_upsetAt (s : State) (x : SectorAccess) : Upsets s (upsetAt s x) := by
  have same (c : Nat) : Upsets s (upsetSector s c x.upset) := by
    unfold upsetSector
    split <;> exact ⟨rfl, rfl, rfl, signals_same rfl rfl rfl, rfl⟩
  unfold upsetAt
  split
  · exact same _
  · exact ⟨rfl, rfl, rfl, .refl s, rfl⟩

theorem Upsets.sameMap {s t : State} (h : Upsets s t) : SameMap s t :=
  ⟨h.drams, rd_congr h.regs _ _, fun _ _ _ => rd_congr h.regs _ _⟩

theorem upsetAt_absent {s : State} {x : SectorAccess} (hp : present s (x.addr / 32 * 32) = false) : upsetAt s x = s :=
  if_neg (by rw [hp]; decide)

/-- An access past its upsets. -/
def served (s : State) (x : SectorAccess) : State :=
  match x.op with
  | .read => cacheSees (memRead s x.who (x.addr / 32 * 32) 32).1 x false (memRead s x.who (x.addr / 32 * 32) 32).2
  | .write lo n v =>
    if 1 ≤ n ∧ lo + n ≤ 32 then
      cacheSees (memWrite s x.who (x.addr / 32 * 32 + lo) n v).1 x true (memWrite s x.who (x.addr / 32 * 32 + lo) n v).2
    else s
  | .poison v => cacheSees (memWritePoison s x.who (x.addr / 32 * 32) 32 v true).1 x true
      (memWritePoison s x.who (x.addr / 32 * 32) 32 v true).2

theorem accessSector_eq (s : State) (x : SectorAccess) : accessSector s x = served (upsetAt s x) x := rfl

/-! ### What a hall cache makes of an answer -/

theorem endJob_hif (s : State) (sw slot status : Nat) : (endJob s sw slot status).hif = s.hif :=
  endJob_keeps (closed_hif s.hif _ (by decide)) s sw slot status rfl

theorem onward_endJob {F : Scope} (s : State) (sw slot status : Nat) : Onward F s (endJob s sw slot status) :=
  onward_same (endJob_regs _ _ _ _) (by rw [endJob_hif]) (by rw [endJob_hif]) (attended_of_hif (endJob_hif _ _ _ _))

theorem signals_endJob (s : State) (sw slot status : Nat) : Signals s (endJob s sw slot status) :=
  signals_same (endJob_hif _ _ _ _) (endJob_keeps (closed_fifoHolds s.fifoHolds _ (by decide)) s sw slot status rfl)
    (endJob_regs _ _ _ _)

theorem reported_endRequester (s : State) (h : Nat) (user : HallUser) (k a : Nat) : Onward Reported s (endRequester s h user k a) := by
  unfold endRequester
  split
  · split
    · exact (reported_report _ _ _ _).trans (onward_endJob _ _ _ _)
    · exact .refl s
  · split
    · exact onward_endJob _ _ _ _
    · exact .refl s

theorem beside_endRequester (s : State) (h : Nat) (user : HallUser) (k a : Nat) : Onward Beside s (endRequester s h user k a) :=
  (reported_endRequester s h user k a).mono fun _ _ k => ⟨k.1, k.2.1⟩

theorem signals_endRequester (s : State) (h : Nat) (user : HallUser) (k a : Nat) : Signals s (endRequester s h user k a) := by
  unfold endRequester
  split
  · split
    · exact (signals_report _ _ _ _).trans (signals_endJob _ _ _ _)
    · exact .refl s
  · split
    · exact signals_endJob _ _ _ _
    · exact .refl s

theorem signals_hcFault (s : State) (h : Nat) (user : HallUser) (a kind : Nat) (write : Bool) :
    Signals s (hcFault s h user a kind write) := by
  have w {u t : State} (k : Signals u t) {f : Fld} (hf : f.inPage = true) (ho : f.off ≠ 0x040) (v : Nat) :
      Signals u (wr t (hcPage h) f v) := signals_wr k (hcPage h) hf ho v
  have info (u : State) : Signals u (if on u (hcPage h) Reg.hc.FAULT_INFO_VALID then u else
      bump (wr (wr (wr (wr (wr (wr u (hcPage h) Reg.hc.FAULT_ADDR a) (hcPage h) Reg.hc.FAULT_INFO_KIND kind) (hcPage h)
        Reg.hc.FAULT_INFO_WRITE write.toNat) (hcPage h) Reg.hc.FAULT_INFO_REQUESTER (userCode user)) (hcPage h)
        Reg.hc.FAULT_INFO_VALID 1) (hcPage h) Reg.hdr.FAULT_CODE (0x80 + kind)) (hcPage h) Reg.hdr.FAULT_COUNT) :=
    .ite (.refl u) (w (w (w (w (w (w (w (.refl u) (by decide) (by decide) _) (by decide) (by decide) _) (by decide) (by decide) _)
      (by decide) (by decide) _) (by decide) (by decide) _) (by decide) (by decide) _) (by decide) (by decide) _)
  have counted : Signals s (bump s (hcPage h) Reg.hc.FAULTS) := w (.refl s) (by decide) (by decide) _
  unfold hcFault
  exact ((counted.setSticky _ _).trans (info _)).trans (signals_report _ _ _ _)

/-- What a hall cache makes of an answer leaves memory, and the registers of every stack controller. -/
theorem cacheSees_leaves (s : State) (x : SectorAccess) (write : Bool) (r : Got) :
    Onward Beside s (cacheSees s x write r) ∧ Signals s (cacheSees s x write r) := by
  unfold cacheSees
  split
  · next h _ =>
    have sees : Onward Beside s (hcSees s h x.user write r).1 ∧ Signals s (hcSees s h x.user write r).1 := by
      cases r with
      | ok v => exact ⟨.refl s, .refl s⟩
      | fault k a => exact ⟨beside_hcFault _ _ _ _ _ _, signals_hcFault _ _ _ _ _ _⟩
    split
    · next e =>
      rw [e] at sees
      exact ⟨sees.1.trans (beside_endRequester _ _ _ _ _), sees.2.trans (signals_endRequester _ _ _ _ _)⟩
    · next e => rw [e] at sees; exact sees
  · exact ⟨.refl s, .refl s⟩

theorem cacheSees_dram (s : State) (x : SectorAccess) (write : Bool) (r : Got) : (cacheSees s x write r).dram = s.dram :=
  cacheSees_keeps (closed_dram _ _ (by decide)) s x write r rfl

theorem cacheSees_codes (s : State) (x : SectorAccess) (write : Bool) (r : Got) : (cacheSees s x write r).codes = s.codes :=
  cacheSees_keeps (closed_codes _ _ (by decide)) s x write r rfl

/-- A sector access leaves the memory that its read or write left. -/
theorem sees_codeOf (s : State) (x : SectorAccess) (write : Bool) (r : Got) (c : Nat) :
    codeOf (cacheSees s x write r) c = codeOf s c := codeOf_congr (cacheSees_codes s x write r) c

/-! ### Accesses of one cycle -/

theorem accessRank_lt (who : Requester) : accessRank who < 18 := by
  cases who with
  | hallCache h => have := h.isLt; simp only [accessRank]; omega
  | _ => simp [accessRank]

theorem ranked_one {x : SectorAccess} : ∀ {l : List Nat}, l.Pairwise (· < ·) → accessRank x.who ∈ l →
    l.flatMap (fun r => [x].filter (accessRank ·.who == r)) = [x]
  | r :: l, hl, hm => by
    obtain ⟨above, rest⟩ := List.pairwise_cons.1 hl
    rw [List.flatMap_cons]
    by_cases e : accessRank x.who = r
    · have none : l.flatMap (fun r => [x].filter (accessRank ·.who == r)) = [] :=
        List.flatMap_eq_nil_iff.2 fun q hq => by
          have := above q hq
          rw [List.filter_eq_nil_iff]
          simp; omega
      rw [none]
      simp [e]
    · rw [ranked_one rest ((List.mem_cons.1 hm).resolve_left e)]
      simp [e]

theorem ranked_two {x y : SectorAccess} (hr : accessRank x.who < accessRank y.who) : ∀ {l : List Nat}, l.Pairwise (· < ·) →
    accessRank x.who ∈ l → accessRank y.who ∈ l → l.flatMap (fun r => [y, x].filter (accessRank ·.who == r)) = [x, y]
  | r :: l, hl, hx, hy => by
    obtain ⟨above, rest⟩ := List.pairwise_cons.1 hl
    rw [List.flatMap_cons]
    have hy' := (List.mem_cons.1 hy)
    by_cases e : accessRank x.who = r
    · have ny : accessRank y.who ≠ r := by omega
      have later : l.flatMap (fun r => [y, x].filter (accessRank ·.who == r)) = l.flatMap (fun r => [y].filter (accessRank ·.who == r)) := by
        refine List.flatMap_congr fun q hq => ?_
        have := above q hq
        have hne : (accessRank x.who == q) = false := by simp; omega
        simp only [List.filter_cons, hne, List.filter_nil]
        rfl
      rw [later, ranked_one rest (hy'.resolve_left ny)]
      simp [e, ny]
    · have hxl := (List.mem_cons.1 hx).resolve_left e
      have ny : accessRank y.who ≠ r := by have := above _ hxl; omega
      rw [ranked_two hr rest hxl (hy'.resolve_left ny)]
      simp [e, ny]

theorem inOrder_one (x : SectorAccess) : inOrder [x] = [x] :=
  ranked_one List.pairwise_lt_range (List.mem_range.2 (accessRank_lt _))

theorem inOrder_two {x y : SectorAccess} (hr : accessRank x.who < accessRank y.who) : inOrder [y, x] = [x, y] :=
  ranked_two hr List.pairwise_lt_range (List.mem_range.2 (accessRank_lt _)) (List.mem_range.2 (accessRank_lt _))

theorem exec_access {s : State} (hr : ready s = true) (who : Requester) (user : HallUser) (a : Nat) (op : SectorOp) (u : Upset) :
    exec (access who user a op u) s = .next (accessSector s { who := who, user := user, addr := a, op := op, upset := u }) := by
  change execSectorAccess who a op ⟨user, u, []⟩ s = _
  rw [execSectorAccess, if_pos hr, cycleAccesses, inOrder_one]
  rfl

/-! ### A fault that a hall cache counts -/

/-- FAULTS of every hall cache. -/
def HallFaults : Scope := ⟨fun q g => silent q g = true ∧ q ≠ .fc ∧ g = Reg.hc.FAULTS, fun _ => True⟩

theorem advanced_hcFault (s : State) (h : Nat) (user : HallUser) (a kind : Nat) (write : Bool) :
    Advanced s (hcFault s h user a kind write) (hcPage h) Reg.hc.FAULTS := by
  have w (u : State) {f : Fld} (hf : f.inPage = true) (ho : f.off ≠ 0x018) (hn : f.off ≠ Reg.hc.FAULTS.off) (v : Nat) :
      Onward HallFaults u (wr u (hcPage h) f v) :=
    onward_wr hf ho (.inl (by rintro ⟨⟩)) (fun _ _ (k : HallFaults.field _ _) =>
      key_ne_of_off hf (inPage_of_silent k.1) (.inr (by rw [k.2.2]; exact hn.symm))) u v
  have info (u : State) : Onward HallFaults u (if on u (hcPage h) Reg.hc.FAULT_INFO_VALID then u else
      bump (wr (wr (wr (wr (wr (wr u (hcPage h) Reg.hc.FAULT_ADDR a) (hcPage h) Reg.hc.FAULT_INFO_KIND kind) (hcPage h)
        Reg.hc.FAULT_INFO_WRITE write.toNat) (hcPage h) Reg.hc.FAULT_INFO_REQUESTER (userCode user)) (hcPage h)
        Reg.hc.FAULT_INFO_VALID 1) (hcPage h) Reg.hdr.FAULT_CODE (0x80 + kind)) (hcPage h) Reg.hdr.FAULT_COUNT) :=
    .ite (.refl u) ((((((
      (w u (by decide) (by decide) (by decide) _).trans (w _ (by decide) (by decide) (by decide) _)).trans
      (w _ (by decide) (by decide) (by decide) _)).trans (w _ (by decide) (by decide) (by decide) _)).trans
      (w _ (by decide) (by decide) (by decide) _)).trans (w _ (by decide) (by decide) (by decide) _)).trans
      (w _ (by decide) (by decide) (by decide) _))
  have raised (u : State) : Onward HallFaults u (setSticky u (hcPage h) Sticky.hc.ACCESS_FAULT) :=
    onward_setSticky (fun _ _ (k : HallFaults.field _ _) => ⟨k.1, .inr (by rw [k.2.2]; decide)⟩) u _
  have told (u : State) (p : Page) (c d : Nat) : Onward HallFaults u (report u p c d) :=
    (reported_report u p c d).mono fun _ _ k => ⟨k.1, k.2.1⟩
  have rest : Onward HallFaults (bump s (hcPage h) Reg.hc.FAULTS) (hcFault s h user a kind write) := by
    unfold hcFault
    exact ((raised _).trans (info _)).trans (told _ _ _ _)
  exact (rest.fields _ _ ⟨by simp [silent, hcPage]; decide, by rintro ⟨⟩, rfl⟩).trans (rd_bump _ _ _)

/-- A read of an absent sector through a hall cache. -/
theorem memRead_absent {s : State} {a : Nat} (ha : a % 32 = 0) (hp : present s a = false) (who : Requester) :
    memRead s who a 32 = (scFault s who a 0 false, .fault 0 a) := by
  rw [memRead_sector ha, readSector_absent who (by rw [hp]; decide)]

theorem memWritePoison_whole_eq {s : State} {a : Nat} (ha : a % 32 = 0) (hp : present s a = true) (who : Requester) (v : Nat)
    (poison : Bool) : memWritePoison s who a 32 v poison
      = (wakeWaiters (storeSector (crossFifo (countWrite s who (place s a).1) (scPage (place s a).1) 1) (cellAt s a)
          (v % 2 ^ 256) poison) a 32, .ok 0) := by
  have e := memWritePoison_sector (s := s) ha (lo := 0) (n := 32) (by omega) (by omega) who v poison
  rwa [writeSector_whole who hp, Nat.add_zero] at e

/-- A whole sector written reads back, and its code is its own. -/
theorem memWritePoison_whole {s : State} {a : Nat} (ha : a % 32 = 0) (hp : present s a = true) (who : Requester) (v : Nat) (poison : Bool) :
    getBytes (memWritePoison s who a 32 v poison).1.dram (cellAt s a) 32 = v % 2 ^ 256
      ∧ codeOf (memWritePoison s who a 32 v poison).1 (cellAt s a) = { poison := poison, errors := [] } := by
  rw [memWritePoison_whole_eq ha hp]
  generalize hw : v % 2 ^ 256 = w
  generalize crossFifo (countWrite s who (place s a).1) (scPage (place s a).1) 1 = t
  have bytes := getBytes_storeSector t (cellAt s a) w poison
  have code := codeOf_stored t (cellAt s a) w poison
  rw [← hw, Nat.mod_mod, hw] at bytes
  generalize storeSector t (cellAt s a) w poison = u at bytes code ⊢
  exact ⟨bytes, code⟩

/-- What an access leaves of memory elsewhere. -/
theorem beside_served {s : State} {x : SectorAccess} : BytesBeside (cellAt s (x.addr / 32 * 32)) s (served s x) := by
  have ha : x.addr / 32 * 32 % 32 = 0 := by omega
  have sees (u : State) (w : Bool) (r : Got) (h : BytesBeside (cellAt s (x.addr / 32 * 32)) s u) :
      BytesBeside (cellAt s (x.addr / 32 * 32)) s (cacheSees u x w r) := h.trans (.of (cacheSees_dram _ _ _ _))
  unfold served
  split
  · exact sees _ _ _ (beside_memRead ha _)
  · split
    · next h => exact sees _ _ _ (beside_memWritePoison ha h.1 h.2 _ _ _)
    · exact .of rfl
  · exact sees _ _ _ (beside_memWritePoison (lo := 0) ha (by omega) (by omega) _ _ _)

theorem mayHold_served {s : State} {x : SectorAccess} {a : Nat} (hx : x.addr / 32 * 32 = a) (hp : present s a = true) :
    MayHold s (served s x) (scPage (place s a).1) 1 := by
  have ha : a % 32 = 0 := by omega
  have sees (u : State) (w : Bool) (r : Got) (h : MayHold s u (scPage (place s a).1) 1) :
      MayHold s (cacheSees u x w r) (scPage (place s a).1) 1 := mayHold_same h (held_sc _ _ (cacheSees_leaves u x w r).2)
  unfold served
  rw [hx]
  split
  · exact sees _ _ _ (mayHold_memRead ha hp _)
  · split
    · next h => exact sees _ _ _ (mayHold_memWritePoison ha h.1 h.2 hp _ _ _)
    · exact .inl rfl
  · exact sees _ _ _ (mayHold_memWritePoison (lo := 0) ha (by omega) (by omega) hp _ _ _)

/-- An access of an absent sector stores nothing. -/
theorem served_absent {s : State} {x : SectorAccess} (hp : present s (x.addr / 32 * 32) = false) :
    (served s x).dram = s.dram ∧ (served s x).codes = s.codes := by
  have ha : x.addr / 32 * 32 % 32 = 0 := by omega
  have hn : ¬present s (x.addr / 32 * 32) = true := by rw [hp]; decide
  have sees (u : State) (w : Bool) (r : Got) (h : u.dram = s.dram ∧ u.codes = s.codes) :
      (cacheSees u x w r).dram = s.dram ∧ (cacheSees u x w r).codes = s.codes :=
    ⟨(cacheSees_dram _ _ _ _).trans h.1, (cacheSees_codes _ _ _ _).trans h.2⟩
  have fault (k : Nat) (w : Bool) : (scFault s x.who (x.addr / 32 * 32) k w).codes = s.codes :=
    scFault_keeps (closed_codes _ _ (by decide)) _ _ _ _ _ rfl
  have wrote {lo n : Nat} (h1 : 1 ≤ n) (hl : lo + n ≤ 32) (v : Nat) (poison : Bool) :
      (memWritePoison s x.who (x.addr / 32 * 32 + lo) n v poison).1.dram = s.dram
        ∧ (memWritePoison s x.who (x.addr / 32 * 32 + lo) n v poison).1.codes = s.codes := by
    rw [memWritePoison_sector ha h1 hl, writeSector_absent _ hn]
    exact ⟨scFault_dram _ _ _ _ _, fault _ _⟩
  unfold served
  split
  · rw [memRead_absent ha hp]
    exact sees _ _ _ ⟨scFault_dram _ _ _ _ _, fault _ _⟩
  · split
    · next h => exact sees _ _ _ (wrote h.1 h.2 _ _)
    · exact ⟨rfl, rfl⟩
  · exact sees _ _ _ (wrote (lo := 0) (by omega) (by omega) _ _)

/-- The phase outlasts an access. -/
theorem ready_accessSector (s : State) (x : SectorAccess) : ready (accessSector s x) = ready s := by
  have ap : Apart .reset Reg.rst.PHASE := apart_of_page (by decide) rfl (by decide)
  have sees {t u : State} (w : Bool) (r : Got) (h : Onward Memory t u) :
      rd (cacheSees u x w r) .reset Reg.rst.PHASE = rd t .reset Reg.rst.PHASE :=
    ((cacheSees_leaves u x w r).1.fields _ _ ⟨ap.1, by decide, by rintro _ ⟨⟩⟩).trans (h.fields _ _ ap)
  have phase (t : State) : rd (served t x) .reset Reg.rst.PHASE = rd t .reset Reg.rst.PHASE := by
    unfold served
    split
    · exact sees _ _ (onward_memRead _ _ _ _)
    · split
      · exact sees _ _ (onward_memWrite _ _ _ _ _)
      · rfl
    · exact sees _ _ (onward_memWritePoison _ _ _ _ _ _)
  have held : (accessSector s x).rst = s.rst := accessSector_keeps (closed_rst s.rst _ (by decide)) s x rfl
  unfold ready phaseAtLeast
  rw [held, accessSector_eq, phase, rd_congr (upsets_upsetAt s x).regs]

/-- The job of the work that a faulting request was made for ends. -/
theorem workEnded_endRequester {s : State} {h : Fin 16} {g : Fin 17} {user : HallUser} {w : GalleryWork} {j : Nat × Nat}
    (hw : user.work = some (g, w)) (hj : workJob (gal s h g) w = some j) (k a : Nat) : WorkEnded (endRequester s h user k a) h g j := by
  unfold endRequester
  rw [hw]
  dsimp only
  rw [hj]
  exact workEnded_endJob _ _ _ _ _

/-- Settles O22. -/
theorem sectorAccessReadsBack : Obligations.SectorAccessReadsBack := by
  have base {a : Nat} (ha : a % 32 = 0) : a / 32 * 32 = a := by omega
  refine ⟨?_, ?_, ?_, ?_, ?_, ?_, ?_, ?_, ?_, ?_, ?_, ?_⟩
  · intro who user a v u s hr ha hp
    refine ⟨_, exec_access hr .., ?_⟩
    have ups := upsets_upsetAt s ⟨who, user, a, .write 0 32 v, u⟩
    rw [accessSector_eq]
    generalize upsetAt s ⟨who, user, a, .write 0 32 v, u⟩ = t at ups ⊢
    obtain ⟨bytes, code⟩ := memWritePoison_whole ha ((ups.sameMap.present a).trans hp) who v false
    rw [ups.sameMap.cellAt] at bytes code
    simp only [served, base ha]
    rw [if_pos (by omega)]
    exact ⟨by rw [cacheSees_dram]; exact bytes, by rw [sees_codeOf]; exact code⟩
  · intro who user a lo n v s hr ha hp hn hlt hl hc
    refine ⟨_, exec_access hr .., ?_⟩
    rw [accessSector_eq, show upsetAt s ⟨who, user, a, .write lo n v, []⟩ = s from ite_self s]
    simp only [served, base ha]
    rw [if_pos ⟨hn, hl⟩, cacheSees_dram]
    obtain ⟨t, wrote, -, bytes⟩ := writeSector_clean (v := v % 2 ^ (8 * n)) who hp hc hl
    rw [show memWrite s who (a + lo) n v = memWritePoison s who (a + lo) n v false from rfl, memWritePoison_sector ha hn hl, wrote]
    intro i hi
    change byteAt t.dram (cellAt s a + i) = _
    rw [bytes]
    by_cases h : lo ≤ i ∧ i < lo + n
    · rw [if_pos (by omega), if_pos h, show cellAt s a + i - (cellAt s a + lo) = i - lo by omega]
      refine byte_congr fun b hb => ?_
      rw [Nat.testBit_mod_two_pow, decide_eq_true (by omega), Bool.true_and]
    · rw [if_neg (by omega), if_neg h]
      rfl
  · intro who user a v u s hr ha hp
    refine ⟨_, exec_access hr .., ?_⟩
    have ups := upsets_upsetAt s ⟨who, user, a, .poison v, u⟩
    rw [accessSector_eq]
    generalize upsetAt s ⟨who, user, a, .poison v, u⟩ = t at ups ⊢
    obtain ⟨bytes, code⟩ := memWritePoison_whole ha ((ups.sameMap.present a).trans hp) who v true
    rw [ups.sameMap.cellAt] at bytes code
    simp only [served, base ha]
    exact ⟨by rw [cacheSees_dram]; exact bytes, by rw [sees_codeOf]; exact code⟩
  · intro who user a u s hr ha hp hm
    refine ⟨_, exec_access hr .., ?_⟩
    have ups := upsets_upsetAt s ⟨who, user, a, .read, u⟩
    rw [accessSector_eq]
    generalize upsetAt s ⟨who, user, a, .read, u⟩ = t at ups ⊢
    have read := counts_memRead (by decide) (counts_noteBad · who) ha ((ups.sameMap.present a).trans hp)
    rw [ups.sameMap.place] at read
    simp only [served, base ha]
    have sees := ((cacheSees_leaves (memRead t who a 32).1 ⟨who, user, a, .read, u⟩ false (memRead t who a 32).2).1.counted).fields
      (scPage (place s a).1) Reg.sc.READS ⟨by simp [silent, scPage]; decide, ⟨_, rfl⟩, List.mem_singleton.2 rfl⟩
    have counted : rd (countRead t who (place s a).1) (scPage (place s a).1) Reg.sc.READS
        = min (rd s (scPage (place s a).1) Reg.sc.READS + 1) (2 ^ Reg.sc.READS.width - 1) := by
      rw [countRead, hm, if_neg (by decide), rd_bump, rd_congr ups.regs]
    exact (sees.trans (read.fields _ _ ⟨by simp [silent, scPage]; decide, ⟨_, rfl⟩, List.mem_singleton.2 rfl⟩)).trans counted
  · intro who user a u s hr ha hp hm
    refine ⟨_, exec_access hr .., fun f hf => ?_⟩
    have ups := upsets_upsetAt s ⟨who, user, a, .read, u⟩
    have quiet : silent (scPage (place s a).1) f = true := by
      simp only [List.mem_cons, List.not_mem_nil, or_false] at hf
      rcases hf with rfl | rfl | rfl <;> rfl
    rw [accessSector_eq]
    generalize upsetAt s ⟨who, user, a, .read, u⟩ = t at ups ⊢
    have read := counts_memRead (l := readCounts) (fun _ h => h) (counts_noteBad_maint hm) ha ((ups.sameMap.present a).trans hp)
    rw [countRead, if_pos hm] at read
    simp only [served, base ha]
    have sees := ((cacheSees_leaves (memRead t who a 32).1 ⟨who, user, a, .read, u⟩ false (memRead t who a 32).2).1.counted).fields
      (scPage (place s a).1) f ⟨quiet, ⟨_, rfl⟩, hf⟩
    exact (sees.trans (read.fields _ _ ⟨quiet, ⟨_, rfl⟩, hf⟩)).trans (rd_congr ups.regs _ _)
  · intro who user a op u s hr ha hp
    refine ⟨_, exec_access hr .., ?_⟩
    have ups := upsets_upsetAt s ⟨who, user, a, op, u⟩
    rw [accessSector_eq]
    generalize upsetAt s ⟨who, user, a, op, u⟩ = t at ups ⊢
    have held := mayHold_served (x := ⟨who, user, a, op, u⟩) (base ha) ((ups.sameMap.present a).trans hp)
    rw [ups.sameMap.place] at held
    exact mayHold_after (held_sc _ _ ups.signals) held
  · intro who user a op u s
    by_cases hr : ready s = true
    · refine ⟨_, exec_access hr .., fun k hk => ?_⟩
      have ups := upsets_upsetAt s ⟨who, user, a, op, u⟩
      rw [accessSector_eq]
      generalize upsetAt s ⟨who, user, a, op, u⟩ = t at ups ⊢
      have kept := beside_served (s := t) (x := ⟨who, user, a, op, u⟩) k
      rw [ups.sameMap.cellAt] at kept
      rw [kept hk, ups.dram]
    · exact ⟨s, by change execSectorAccess _ _ _ _ s = _; rw [execSectorAccess, if_neg hr], fun _ _ => rfl⟩
  · intro who user a op u s hp
    by_cases hr : ready s = true
    · refine ⟨_, exec_access hr .., ?_⟩
      rw [accessSector_eq, upsetAt_absent (x := ⟨who, user, a, op, u⟩) hp]
      exact served_absent (x := ⟨who, user, a, op, u⟩) hp
    · exact ⟨s, by change execSectorAccess _ _ _ _ s = _; rw [execSectorAccess, if_neg hr], rfl, rfl⟩
  · intro h user a s hr ha hp
    refine ⟨_, exec_access hr .., ?_⟩
    rw [accessSector_eq, upsetAt_absent (x := ⟨.hallCache h, user, a, .read, []⟩) (by rw [base ha]; exact hp)]
    simp only [served, base ha, memRead_absent ha hp]
    have sees := (cacheSees_leaves (scFault s (.hallCache h) a 0 false) ⟨.hallCache h, user, a, .read, []⟩ false (.fault 0 a)).1
    refine ⟨?_, ?_⟩
    · have counted : (StackCounts accessCounts).field (scPage (place s a).1) Reg.sc.FAULTS :=
        ⟨by simp [silent, scPage]; decide, ⟨_, rfl⟩, List.mem_cons_self⟩
      exact ((sees.counted.fields _ _ counted).trans ((counts_scFault s (.hallCache h) a 0 false).fields _ _ counted)).trans (rd_bump _ _ _)
    · have seen := (reported_endRequester (hcFault (scFault s (.hallCache h) a 0 false) h user a (min 0 1) false) h user 0 a).fields
        (hcPage h) Reg.hc.FAULTS ⟨by simp [silent, hcPage]; decide, by rintro ⟨⟩⟩
      have before := (onward_scFault s (.hallCache h) a 0 false).fields (hcPage h) Reg.hc.FAULTS
        (apart_of_page (by rintro ⟨⟩) rfl (by decide))
      have counted := advanced_hcFault (scFault s (.hallCache h) a 0 false) h user a (min 0 1) false
      rw [Advanced, before] at counted
      exact seen.trans counted
  · intro h g user w j a s hr ha hp hw hj
    refine ⟨_, exec_access hr .., ?_⟩
    rw [accessSector_eq, upsetAt_absent (x := ⟨.hallCache h, user, a, .read, []⟩) (by rw [base ha]; exact hp)]
    simp only [served, base ha, memRead_absent ha hp]
    change WorkEnded (endRequester (hcFault (scFault s (.hallCache h) a 0 false) h user a (min 0 1) false) h user 0 a) h g j
    have kept : (hcFault (scFault s (.hallCache h) a 0 false) h user a (min 0 1) false).galleries = s.galleries :=
      hcFault_keeps (closed_galleries _ _ (by decide)) _ _ _ _ _ _ (scFault_keeps (closed_galleries _ _ (by decide)) _ _ _ _ _ rfl)
    exact workEnded_endRequester hw (by rw [gal, kept, ← gal]; exact hj) _ _
  · intro x y s hxy hr
    have hx : exec (.sectorAccess x.who x.addr x.op ⟨x.user, x.upset, []⟩) s = .next (accessSector s x) := exec_access hr ..
    have hy : exec (.sectorAccess y.who y.addr y.op ⟨y.user, y.upset, []⟩) (accessSector s x)
        = .next (accessSector (accessSector s x) y) := exec_access ((ready_accessSector s x).trans hr) ..
    refine ⟨accessSector (accessSector s x) y, ?_, _, hx, hy⟩
    change execSectorAccess y.who y.addr y.op ⟨y.user, y.upset, [x]⟩ s = _
    rw [execSectorAccess, if_pos hr, cycleAccesses, inOrder_two hxy]
    rfl
  · intro who a op c s hr
    exact ⟨s, by change execSectorAccess _ _ _ _ s = _; rw [execSectorAccess, if_neg (by rw [hr]; decide)], rfl⟩

end Sys2Proof.Machine

/-! SUPPORT and settlement of O21: refresh, patrol, sparing, die retirement and the memory map (R264, R265, R271 to R276). -/

namespace Sys2Proof.Machine

set_option Elab.async false -- each thread's stack counts against the check's memory limit

/-! ### Repairs in the record -/

theorem recordRepair_drams (s : State) (kind hall w1 w2 w3 : Nat) : (recordRepair s kind hall w1 w2 w3).drams = s.drams :=
  recordRepair_keeps (closed_drams s.drams _ (by decide)) s kind hall w1 w2 w3 rfl

theorem recordRepair_bytes (s : State) (kind hall w1 w2 w3 : Nat) : (recordRepair s kind hall w1 w2 w3).dram = s.dram :=
  recordRepair_keeps (closed_dram s.dram _ (by decide)) s kind hall w1 w2 w3 rfl

theorem onward_recordRepair (s : State) (kind hall w1 w2 w3 : Nat) :
    Onward (SilentBut .mcService) s (recordRepair s kind hall w1 w2 w3) := by
  unfold recordRepair
  exact .ite (onward_setSticky (fun _ _ h => h) s _) (onward_same rfl rfl rfl)

/-- A repair changes no register of a stack controller. -/
theorem rd_recordRepair_sc (s : State) (kind hall w1 w2 w3 st : Nat) {f : Fld} (hf : f.inPage = true) :
    rd (recordRepair s kind hall w1 w2 w3) (scPage st) f = rd s (scPage st) f :=
  (onward_recordRepair s kind hall w1 w2 w3).fields _ _ ⟨by simp [Silent, silent, hf, scPage], .inl (by rintro ⟨⟩)⟩

theorem sticky_recordRepair {s : State} {q : Page} {b : Nat} (hb : b < 32) (h : sticky s q b = true) (kind hall w1 w2 w3 : Nat) :
    sticky (recordRepair s kind hall w1 w2 w3) q b = true := (onward_recordRepair s kind hall w1 w2 w3).stickies q b hb h

theorem setSticky_same_dram (s : State) (p : Page) (b i : Nat) : dram (setSticky s p b) i = dram s i := by
  rw [dram, dram, setSticky_drams]

theorem rd_setDram (s : State) (st : Nat) (d : Stack) (p : Page) (f : Fld) : rd (setDram s st d) p f = rd s p f := rfl

/-! ### What maintenance reads leave -/

/-- What of a stack its reads and corrections leave. -/
def upkeep (d : Stack) : Option Migration × Nat × Nat := (d.migration, d.patrol, d.refreshes)

/-- The map of every stack, its migration and its patrol stand. -/
structure Upkept (s t : State) : Prop where
  stack : ∀ st, ∀ f ∈ [Reg.sc.RETIRED, Reg.sc.DIE_MAP, Reg.sc.MIG_PTR], rd t (scPage st) f = rd s (scPage st) f
  kept : ∀ st, upkeep (dram t st) = upkeep (dram s st)

section
variable {s t u : State}

theorem Upkept.refl (s : State) : Upkept s s := ⟨fun _ _ _ => rfl, fun _ => rfl⟩

theorem Upkept.trans (h : Upkept s t) (k : Upkept t u) : Upkept s u :=
  ⟨fun st f hf => (k.stack st f hf).trans (h.stack st f hf), fun st => (k.kept st).trans (h.kept st)⟩

/-- What leaves the memory and every stack. -/
theorem SameBytes.upkept (h : SameBytes s t) (hd : t.drams = s.drams) : Upkept s t :=
  ⟨h.stack, fun st => by rw [Machine.dram, Machine.dram, hd]⟩

theorem upkept_same (hr : t.regs = s.regs) (hd : t.drams = s.drams) : Upkept s t :=
  ⟨fun _ _ _ => rd_congr hr _ _, fun st => by rw [Machine.dram, Machine.dram, hd]⟩

theorem upkept_setDram (s : State) (st : Nat) {d : Stack} (h : upkeep d = upkeep (dram s st)) : Upkept s (setDram s st d) := by
  refine ⟨fun _ _ _ => rfl, fun i => ?_⟩
  by_cases e : i = st
  · rw [e, dram_setDram, h]
  · rw [dram_setDram_ne _ _ _ _ e]

end

theorem upkept_queueRow (s : State) (st row : Nat) : Upkept s (queueRow s st row) := by
  unfold queueRow
  dsimp only
  split
  · exact upkept_setDram s st rfl
  · exact .refl s

theorem upkept_chargeLane (s : State) (st c symbol flips : Nat) : Upkept s (chargeLane s st c symbol flips) := by
  unfold chargeLane
  split
  · exact .refl s
  · exact upkept_setDram s st rfl

theorem upkept_setSticky (s : State) (p : Page) (b : Nat) : Upkept s (setSticky s p b) :=
  (sameBytes_setSticky s p b).upkept (setSticky_drams _ _ _)

theorem upkept_bump (s : State) (st : Nat) {f : Fld} (hf : f.inPage = true)
    (ho : [Reg.sc.RETIRED.off, Reg.sc.DIE_MAP.off, Reg.sc.MIG_PTR.off].contains f.off = false) : Upkept s (bump s (scPage st) f) :=
  (sameBytes_bump s hf (scPage_ne_memMap st) ho).upkept rfl

theorem upkept_noteCorrection (s : State) (st c symbol flips : Nat) : Upkept s (noteCorrection s st c symbol flips) := by
  unfold noteCorrection
  extract_lets t d t1 n t2
  have h0 : Upkept s t := (upkept_bump s st (by decide) (by decide)).trans (upkept_setSticky _ _ _)
  have h1 : Upkept t t1 := upkept_setDram t st rfl
  have h2 : Upkept t1 t2 := by
    unfold t2
    split
    · exact upkept_queueRow _ _ _
    · exact .refl t1
  exact ((h0.trans h1).trans h2).trans (upkept_chargeLane _ _ _ _ _)

theorem upkept_crossFifo (s : State) (p : Page) (n : Nat) : Upkept s (crossFifo s p n) := upkept_same rfl rfl

theorem upkept_storeSector (s : State) (c v : Nat) (poison : Bool) : Upkept s (storeSector s c v poison) := upkept_same rfl rfl

theorem upkept_readStored (s : State) (st c : Nat) : Upkept s (readStored s st c).1 := by
  unfold readStored
  dsimp only
  have hx := upkept_crossFifo s (scPage st) 1
  generalize crossFifo s (scPage st) 1 = t at hx ⊢
  split
  · exact hx.trans (upkept_queueRow _ _ _)
  · exact hx
  · exact (hx.trans (upkept_storeSector _ _ _ _)).trans (upkept_noteCorrection _ _ _ _ _)

theorem upkept_scFault (s : State) (who : Requester) (a kind : Nat) (write : Bool) : Upkept s (scFault s who a kind write) :=
  (sameBytes_scFault s who a kind write).upkept (scFault_keeps (closed_drams _ _ (by decide)) s who a kind write rfl)

theorem upkept_maintBad (s : State) (st l k : Nat) : Upkept s (maintBad s st l k) :=
  (upkept_setSticky _ _ _).trans (upkept_scFault _ _ _ _ _)

theorem upkept_copyBad (s : State) (st c k : Nat) : Upkept s (copyBad s st c k) := by
  unfold copyBad
  split
  · exact upkept_maintBad _ _ _ _
  · exact .refl s

theorem upkept_patrolSector (s : State) (st l : Nat) : Upkept s (patrolSector s st l) := by
  have h := upkept_readStored s st (stackCell s st l)
  unfold patrolSector
  split
  · next e => rw [e] at h; exact h
  · next e =>
    rw [e] at h
    exact (h.trans (upkept_bump _ st (by decide) (by decide))).trans (upkept_maintBad _ _ _ _)

theorem upkept_recopySector (s : State) (st c : Nat) : Upkept s (recopySector s st c) := by
  have h := upkept_readStored s st c
  unfold recopySector
  split
  · next e => rw [e] at h; exact h
  · next e => rw [e] at h; exact (h.trans (upkept_storeSector _ _ _ _)).trans (upkept_copyBad _ _ _ _)

theorem upkept_foldl {α : Type} {f : State → α → State} (hf : ∀ s x, Upkept s (f s x)) (l : List α) :
    ∀ s, Upkept s (l.foldl f s) := by
  induction l with
  | nil => exact Upkept.refl
  | cons x l ih => exact fun s => (hf s x).trans (ih _)

theorem upkept_patrolAt (s : State) (st n : Nat) : Upkept s (patrolAt s st n) :=
  upkept_foldl (fun s _ => upkept_patrolSector s _ _) _ _

theorem upkept_copyRest (s : State) (st old new ptr : Nat) : Upkept s (copyRest s st old new ptr) := by
  have h := (upkept_crossFifo s (scPage st) (2 ^ 27 - ptr)).trans (upkept_foldl (fun s c => upkept_recopySector s st c)
    ((alteredCells s st).filter fun c => decide (st * 2 ^ 36 + old * 2 ^ 32 + 32 * ptr ≤ c ∧ c < st * 2 ^ 36 + old * 2 ^ 32 + 2 ^ 32)) _)
  exact h.trans (upkept_same rfl rfl)

/-! ### Patrol (R271) -/

theorem Upkept.patrol {s t : State} (h : Upkept s t) (st : Nat) : (dram t st).patrol = (dram s st).patrol :=
  congrArg (·.2.1) (h.kept st)

theorem Upkept.refreshes {s t : State} (h : Upkept s t) (st : Nat) : (dram t st).refreshes = (dram s st).refreshes :=
  congrArg (·.2.2) (h.kept st)

theorem Upkept.steps {s t : State} (h : Upkept s t) (st : Nat) : patrolSteps t st = patrolSteps s st := by
  rw [patrolSteps, patrolSteps, h.stack st _ (by simp)]

theorem patrolWrap_dram (s : State) (st : Nat) : dram (patrolWrap s st) st
    = if (dram s st).patrol < patrolSteps s st then dram s st else { dram s st with patrol := 0 } := by
  unfold patrolWrap
  dsimp only
  split
  · rfl
  · exact dram_setDram _ _ _

theorem patrolSteps_patrolWrap (s : State) (st : Nat) : patrolSteps (patrolWrap s st) st = patrolSteps s st := by
  unfold patrolWrap
  dsimp only
  split
  · rfl
  · rw [patrolSteps, rd_bump_field (by decide) (by decide) (by decide)]
    rfl

/-- A due patrol step reads the sectors of its place, or of 0 where a retirement has left it beyond the last die. -/
theorem patrolStep_completes {h : Fin 16} {s : State} (hr : ready s = true) (h1 : 1 ≤ rd s (scPage h) Reg.sc.SCRUB_EVERY)
    (hd : rd s (scPage h) Reg.sc.SCRUB_EVERY ≤ (dram s h).refreshes) :
    Completes (.patrolStep h) s fun t => (dram t h).refreshes = 0
      ∧ (dram t h).patrol = (fun at_ => if at_ + 1 < patrolSteps s h then at_ + 1 else 0)
        (if (dram s h).patrol < patrolSteps s h then (dram s h).patrol else 0) := by
  have hn : ¬(!ready s ∨ rd s (scPage h) Reg.sc.SCRUB_EVERY = 0 ∨ (dram s h).refreshes < rd s (scPage h) Reg.sc.SCRUB_EVERY) := by
    rw [hr]
    simp only [Bool.not_true, Bool.false_eq_true, false_or]
    omega
  refine ⟨_, if_neg hn, ?_⟩
  have hs : ∀ (x : Stack), patrolSteps (setDram s h x) h = patrolSteps s h := fun _ => rfl
  have step (u : State) (hu : patrolSteps u h = patrolSteps s h) (hz : (dram u h).refreshes = 0) (a : Nat)
      (ha : (dram u h).patrol = a) :
      let t := patrolWrap (setDram (patrolAt u h (dram u h).patrol) h
        { dram (patrolAt u h (dram u h).patrol) h with patrol := (dram (patrolAt u h (dram u h).patrol) h).patrol + 1 }) h
      (dram t h).refreshes = 0 ∧ (dram t h).patrol = if a + 1 < patrolSteps s h then a + 1 else 0 := by
    have k := upkept_patrolAt u h (dram u h).patrol
    dsimp only
    generalize patrolAt u h (dram u h).patrol = v at k ⊢
    rw [patrolWrap_dram, dram_setDram]
    rw [show patrolSteps (setDram v h { dram v h with patrol := (dram v h).patrol + 1 }) h = patrolSteps s h from
      (k.steps h).trans hu, k.patrol, ha]
    dsimp only
    split <;> exact ⟨(k.refreshes h).trans hz, rfl⟩
  refine step _ ?_ ?_ _ ?_
  · rw [patrolSteps_patrolWrap]; rfl
  · rw [patrolWrap_dram, dram_setDram]
    split <;> rfl
  · rw [patrolWrap_dram, dram_setDram, hs]
    dsimp only
    split <;> rfl

/-! ### Sparing (R272, R273) -/

theorem Advanced.congr {s t u : State} {p : Page} {f : Fld} (h : Sys2Proof.Advanced s t p f) (e : rd u p f = rd t p f) :
    Sys2Proof.Advanced s u p f := e.trans h

/-- What a stack controller does of a repair: its stack changed, the repair counted and latched, and put on record. -/
def spared (s : State) (st : Nat) (d : Stack) (f : Fld) (b : Nat) : State :=
  setSticky (bump (setDram s st d) (scPage st) f) (scPage st) b

section
variable (s : State) (st : Nat) (d : Stack) {f : Fld} (hf : f.inPage = true) (ho : f.off ≠ 0x018) {b : Nat} (hb : b < 32)
  (kind w1 w2 w3 : Nat)

theorem spared_dram : dram (recordRepair (spared s st d f b) kind st w1 w2 w3) st = d := by
  rw [dram, recordRepair_drams, ← dram, spared, setSticky_same_dram]
  exact dram_setDram s st d

theorem spared_bytes : (recordRepair (spared s st d f b) kind st w1 w2 w3).dram = s.dram := by
  rw [recordRepair_bytes, spared, setSticky_dram]
  rfl

include hf ho in
theorem spared_advanced : Advanced s (recordRepair (spared s st d f b) kind st w1 w2 w3) (scPage st) f := by
  refine (rd_recordRepair_sc _ _ _ _ _ _ st hf).trans ?_
  rw [spared, rd_setSticky_own (scPage_ne_hif st) hf _ b ho]
  exact rd_bump _ _ _

include hb in
theorem spared_sticky : sticky (recordRepair (spared s st d f b) kind st w1 w2 w3) (scPage st) b = true :=
  sticky_recordRepair hb (sticky_setSticky _ _ _ hb) _ _ _ _ _

end

theorem laneRepair_completes {h : Fin 16} {k i : Nat} {rest : List Nat} {s : State} (hq : (dram s h).laneQueue = k :: rest)
    (hw : (dram s h).inWindow = true) (hi : freeSpare (dram s h) (k / 288) = some i) :
    Completes (.dramLaneRepair h) s fun t =>
      (dram t h).laneQueue = rest ∧ k ∈ (dram t h).lanesMoved ∧ Advanced s t (scPage h) Reg.sc.LANES_SPARED
        ∧ spareMask (dram t h) (k / 288) = spareMask (dram s h) (k / 288) ||| 2 ^ i
        ∧ (∀ ch, ch ≠ k / 288 → spareMask (dram t h) ch = spareMask (dram s h) ch)
        ∧ sticky t (scPage h) Sticky.sc.LANE_REPAIRED = true := by
  have hx : exec (.dramLaneRepair h) s = .next (recordRepair (spared s h { dram s h with
      laneQueue := rest
      dataSpares := NatMap.set (dram s h).dataSpares (k / 288) (spareMask (dram s h) (k / 288) ||| 2 ^ i)
      laneCharge := NatMap.del (dram s h).laneCharge k
      lanesMoved := k :: (dram s h).lanesMoved } Reg.sc.LANES_SPARED Sticky.sc.LANE_REPAIRED) 5 h
        (k / 288 + k % 288 * 2 ^ 6 + i * 2 ^ 15) 0 0) := by
    change execDramLaneRepair h s = _
    simp only [execDramLaneRepair, hq, hw, hi]
    rfl
  refine ⟨_, hx, ?_⟩
  beta_reduce
  rw [spared_dram]
  refine ⟨rfl, List.mem_cons_self, spared_advanced _ _ _ (by decide) (by decide) _ _ _ _, ?_, fun ch hc => ?_,
    spared_sticky _ _ _ (by decide) _ _ _ _⟩
  · simp only [spareMask, NatMap.get?_set, if_pos, Option.getD_some]
  · simp only [spareMask, NatMap.get?_set, if_neg hc]

theorem laneExhausted_completes {h : Fin 16} {k : Nat} {rest : List Nat} {s : State} (hq : (dram s h).laneQueue = k :: rest)
    (hw : (dram s h).inWindow = true) (hi : freeSpare (dram s h) (k / 288) = none) :
    Completes (.dramLaneRepair h) s fun t =>
      (dram t h).laneQueue = rest ∧ (dram t h).dataSpares = (dram s h).dataSpares
        ∧ sticky t (scPage h) Sticky.sc.LANE_EXHAUSTED = true := by
  refine ⟨reportRepair (setSticky (setDram s h { dram s h with laneQueue := rest }) (scPage h) Sticky.sc.LANE_EXHAUSTED), ?_, ?_⟩
  · change execDramLaneRepair h s = _
    simp only [execDramLaneRepair, hq, hw, hi]
    rfl
  · have hd : dram (reportRepair (setSticky (setDram s h { dram s h with laneQueue := rest }) (scPage h)
        Sticky.sc.LANE_EXHAUSTED)) h = { dram s h with laneQueue := rest } :=
      (setSticky_same_dram _ _ _ _).trans (dram_setDram _ _ _)
    beta_reduce
    rw [hd]
    exact ⟨rfl, rfl, sticky_setSticky _ _ _ (by decide)⟩

section
variable {h : Fin 16} {row : Nat} {rest : List Nat} {s : State}

theorem rowSpare_completes (hr : ready s = true) (hc : (dram s h).rowCopied = none) (hq : (dram s h).rowQueue = row :: rest)
    (hu : sparesUsed (dram s h) row < 4) : Completes (.dramRowSpare h) s fun t => (dram t h).rowCopied = some row := by
  have hx : exec (.dramRowSpare h) s = .next ((fun u => setDram u h { dram u h with rowCopied := some row })
      (((alteredCells (readBulk s h (2 ^ 27)) h).filter (rowKey · == row)).foldl (fun s c => recopySector s h c)
        (readBulk s h (2 ^ 27)))) := by
    change execDramRowSpare h s = _
    simp only [execDramRowSpare, hc, hq, hr, if_neg (show ¬4 ≤ sparesUsed (dram s h) row by omega)]
    rfl
  exact ⟨_, hx, congrArg Stack.rowCopied (dram_setDram _ _ _)⟩

theorem rowExhausted_completes (hr : ready s = true) (hc : (dram s h).rowCopied = none)
    (hq : (dram s h).rowQueue = row :: rest) (hu : 4 ≤ sparesUsed (dram s h) row) :
    Completes (.dramRowSpare h) s fun t =>
      (dram t h).rowQueue = rest ∧ sticky t (scPage h) Sticky.sc.ROW_SPARE_EXHAUSTED = true ∧ t.dram = s.dram := by
  refine ⟨reportRepair (setSticky (setDram s h { dram s h with rowQueue := rest }) (scPage h)
    Sticky.sc.ROW_SPARE_EXHAUSTED), ?_, ?_, sticky_setSticky _ _ _ (by decide), setSticky_dram _ _ _⟩
  · change execDramRowSpare h s = _
    simp only [execDramRowSpare, hc, hq, hr, if_pos hu]
    rfl
  · exact congrArg Stack.rowQueue ((setSticky_same_dram _ _ _ _).trans (dram_setDram _ _ _))

theorem rowSpareDone_completes (hc : (dram s h).rowCopied = some row) : Completes (.dramRowSpareDone h) s fun t =>
    (dram t h).rowCopied = none ∧ row ∈ (dram t h).rowSpared ∧ row ∉ (dram t h).rowQueue
      ∧ Advanced s t (scPage h) Reg.sc.ROWS_SPARED ∧ sticky t (scPage h) Sticky.sc.ROW_SPARED = true
      ∧ t.dram = s.dram := by
  have hx : exec (.dramRowSpareDone h) s = .next (recordRepair (spared s h { dram s h with
      rowCopied := none
      rowQueue := (dram s h).rowQueue.filter (· != row)
      bankSpares := NatMap.set (dram s h).bankSpares (row / 2 ^ 32) (sparesUsed (dram s h) row + 1)
      tracker := (dram s h).tracker.filter (·.1 != row)
      rowSpared := row :: (dram s h).rowSpared } Reg.sc.ROWS_SPARED Sticky.sc.ROW_SPARED) 4 h
        (row / 2 ^ 32 / 256 % 64 + row / 2 ^ 32 / 2 ^ 14 % 16 * 2 ^ 18 + row / 2 ^ 32 % 256 * 2 ^ 22) (row % 2 ^ 32) 0) := by
    change execDramRowSpareDone h s = _
    simp only [execDramRowSpareDone, hc]
    rfl
  refine ⟨_, hx, ?_⟩
  beta_reduce
  rw [spared_dram]
  exact ⟨rfl, List.mem_cons_self, by simp, spared_advanced _ _ _ (by decide) (by decide) _ _ _ _,
    spared_sticky _ _ _ (by decide) _ _ _ _, spared_bytes _ _ _ _ _ _ _⟩

end

/-! ### Die retirement (R274 to R276) -/

section
variable (s : State) (st named map : Nat)

theorem switchMap_rd {f : Fld} (hf : f.inPage = true) (hs : f.off ≠ 0x018) (hm : f.off ≠ Reg.sc.DIE_MAP.off)
    (hr : f.off ≠ Reg.sc.RETIRED.off) : rd (switchMap s st named map) (scPage st) f = rd s (scPage st) f := by
  rw [switchMap, rd_setSticky_own (scPage_ne_hif st) hf _ _ hs, rd_wr_field (by decide) hf (.inl hr),
    rd_wr_field (by decide) hf (.inl hm), rd_recordRepair_sc _ _ _ _ _ _ _ hf]

theorem switchMap_dieMap : rd (switchMap s st named map) (scPage st) Reg.sc.DIE_MAP = map % 2 ^ 64 := by
  rw [switchMap, rd_setSticky_own (scPage_ne_hif st) (by decide) _ _ (by decide),
    rd_wr_field (by decide) (by decide) (by decide), rd_wr]
  rfl

theorem switchMap_retired : rd (switchMap s st named map) (scPage st) Reg.sc.RETIRED
    = (rd s (scPage st) Reg.sc.RETIRED + 1) % 2 ^ Reg.sc.RETIRED.width := by
  rw [switchMap, rd_setSticky_own (scPage_ne_hif st) (by decide) _ _ (by decide), rd_wr, rd_recordRepair_sc _ _ _ _ _ _ _ (by decide)]

theorem switchMap_sticky : sticky (switchMap s st named map) (scPage st) Sticky.sc.MIGRATE_DONE = true :=
  sticky_setSticky _ _ _ (by decide)

theorem switchMap_dram (i : Nat) : dram (switchMap s st named map) i = dram s i := by
  rw [switchMap, setSticky_same_dram]
  exact congrArg (fun d => (NatMap.get? d i).getD .reset) (recordRepair_drams s 6 st _ _ _)

end

theorem exec_dieRetire {h : Fin 16} {v : BitVec 32} {s : State} (hr : Reaches s .mainband (scPage h) 0x08C) :
    exec (.dieRetire h v) s = .next (match bits v.toNat 4 2 with
      | 0 => s
      | 1 => retireDie s h (bits v.toNat 0 4)
      | _ => stateErr s (scPage h)) := congrArg Host.Outcome.next (ifPermitted_of_reaches hr _ _)

theorem dieRetire_completes {h : Fin 16} {v : BitVec 32} {l : Nat} {s : State} (hr : Reaches s .mainband (scPage h) 0x08C)
    (hv : bits v.toNat 4 2 = 1) (hm : (dram s h).migration = none) (hn : rd s (scPage h) Reg.sc.RETIRED ≠ 15)
    (hl : logicalDie s h (bits v.toNat 0 4) = some l) :
    Completes (.dieRetire h v) s fun t =>
      (l = 15 - rd s (scPage h) Reg.sc.RETIRED →
        rd t (scPage h) Reg.sc.RETIRED = (rd s (scPage h) Reg.sc.RETIRED + 1) % 2 ^ Reg.sc.RETIRED.width
          ∧ sticky t (scPage h) Sticky.sc.MIGRATE_DONE = true)
      ∧ (l ≠ 15 - rd s (scPage h) Reg.sc.RETIRED →
        (dram t h).migration = some {
            logical := l, top := 15 - rd s (scPage h) Reg.sc.RETIRED, named := bits v.toNat 0 4 }
          ∧ rd t (scPage h) Reg.sc.MIG_PTR = 0
          ∧ rd t (scPage h) Reg.sc.RETIRED = rd s (scPage h) Reg.sc.RETIRED) := by
  refine ⟨retireDie s h (bits v.toNat 0 4), by rw [exec_dieRetire hr, hv]; rfl, ?_⟩
  simp only [retireDie, hm, if_neg hn, hl]
  refine ⟨fun e => ?_, fun e => ?_⟩
  · rw [if_pos e]
    exact ⟨switchMap_retired _ _ _ _, switchMap_sticky _ _ _ _⟩
  · rw [if_neg e, dram_setDram]
    refine ⟨rfl, ?_, ?_⟩
    · rw [rd_setDram, rd_wr, Nat.zero_mod]
    · rw [rd_setDram, rd_wr_field (by decide) (by decide) (by decide)]

theorem dieRetire_illegal {h : Fin 16} {v : BitVec 32} {s : State} (hr : Reaches s .mainband (scPage h) 0x08C)
    (hv : 2 ≤ bits v.toNat 4 2) :
    Completes (.dieRetire h v) s fun t => rd t (scPage h) Reg.hdr.STATE_ERR = 1 ∧ t.drams = s.drams := by
  refine ⟨stateErr s (scPage h), ?_, rd_stateErr rfl s, rfl⟩
  rw [exec_dieRetire hr]
  split
  · next e => omega
  · next e => omega
  · rfl

theorem migrationDone_completes {h : Fin 16} {m : Migration} {s : State} (hm : (dram s h).migration = some m) :
    Completes (.migrationDone h) s fun t =>
      (dram t h).migration = none
        ∧ rd t (scPage h) Reg.sc.DIE_MAP
          = setBits (rd s (scPage h) Reg.sc.DIE_MAP) (4 * m.logical) 4 (physDie s h m.top) % 2 ^ 64
        ∧ sticky t (scPage h) Sticky.sc.MIGRATE_DONE = true
        ∧ rd t (scPage h) Reg.sc.MIG_PTR = 0
        ∧ rd t (scPage h) Reg.sc.RETIRED = (rd s (scPage h) Reg.sc.RETIRED + 1) % 2 ^ Reg.sc.RETIRED.width := by
  have hx : exec (.migrationDone h) s = .next (finishMigration s h m) := by
    change execMigrationDone h s = _
    rw [execMigrationDone, hm]
  refine ⟨_, hx, ?_⟩
  have k := upkept_copyRest s h (physDie s h m.logical) (physDie s h m.top) (rd s (scPage h) Reg.sc.MIG_PTR)
  unfold finishMigration
  dsimp only
  generalize copyRest s h (physDie s h m.logical) (physDie s h m.top) (rd s (scPage h) Reg.sc.MIG_PTR) = u at k ⊢
  have hd : rd u (scPage h) Reg.sc.DIE_MAP = rd s (scPage h) Reg.sc.DIE_MAP := k.stack h _ (by simp)
  have hp : physDie u h m.top = physDie s h m.top := by rw [physDie, physDie, hd]
  refine ⟨?_, ?_, switchMap_sticky _ _ _ _, ?_, ?_⟩
  · rw [switchMap_dram, dram_setDram]
  · rw [switchMap_dieMap, hd, hp]
  · rw [switchMap_rd _ _ _ _ (by decide) (by decide) (by decide) (by decide)]
    rw [rd_setDram, rd_wr, Nat.zero_mod]
  · rw [switchMap_retired, rd_setDram, rd_wr_field (by decide) (by decide) (by decide), k.stack h Reg.sc.RETIRED (by simp)]

/-! ### The memory map (R265) -/

section
variable {path : Path} {hi : BitVec 32} {s : State} (hr : Reaches s path .memMap (Reg.mm.MAP.off + 4))
include hr

theorem exec_mapWrite : exec (.mapWrite path hi) s
    = .next (if !mapIdle s then stateErr (commitPair s path .memMap Reg.mm.MAP hi.toNat).2 .memMap
      else if mapLegal (commitPair s path .memMap Reg.mm.MAP hi.toNat).1 then
        wr (commitPair s path .memMap Reg.mm.MAP hi.toNat).2 .memMap Reg.mm.MAP (commitPair s path .memMap Reg.mm.MAP hi.toNat).1
      else setSticky (commitPair s path .memMap Reg.mm.MAP hi.toNat).2 .memMap Sticky.mm.MAP_REJECT) := by
  change execMapWrite path hi s = _
  rw [execMapWrite, ifPermitted_of_reaches hr]

theorem mapWrite_legal (hid : mapIdle s = true) (hl : mapLegal (commitPair s path .memMap Reg.mm.MAP hi.toNat).1 = true) :
    Completes (.mapWrite path hi) s fun t =>
      rd t .memMap Reg.mm.MAP = (commitPair s path .memMap Reg.mm.MAP hi.toNat).1 % 2 ^ 64 :=
  ⟨_, by rw [exec_mapWrite hr, hid, hl]; rfl, rd_wr _ _ _ _⟩

theorem mapWrite_illegal (hid : mapIdle s = true) (hl : mapLegal (commitPair s path .memMap Reg.mm.MAP hi.toNat).1 = false) :
    Completes (.mapWrite path hi) s fun t =>
      rd t .memMap Reg.mm.MAP = rd s .memMap Reg.mm.MAP ∧ sticky t .memMap Sticky.mm.MAP_REJECT = true :=
  ⟨setSticky (commitPair s path .memMap Reg.mm.MAP hi.toNat).2 .memMap Sticky.mm.MAP_REJECT,
    by rw [exec_mapWrite hr, hid, hl]; rfl, rd_setSticky_own (by decide) (by decide) _ _ (by decide),
    sticky_setSticky _ _ _ (by decide)⟩

theorem mapWrite_busy (hid : mapIdle s = false) : Completes (.mapWrite path hi) s fun t =>
    rd t .memMap Reg.mm.MAP = rd s .memMap Reg.mm.MAP ∧ rd t .memMap Reg.hdr.STATE_ERR = 1 :=
  ⟨stateErr (commitPair s path .memMap Reg.mm.MAP hi.toNat).2 .memMap, by rw [exec_mapWrite hr, hid]; rfl,
    rd_wr_field (by decide) (by decide) (by decide) _ _ _, rd_stateErr rfl _⟩

end

theorem notReady_maintenance {h : Fin 16} {s : State} (hr : ready s = false) :
    (Completes (.patrolStep h) s fun t => t = s)
      ∧ ((dram s h).rowCopied = none → Completes (.dramRowSpare h) s fun t => t = s) := by
  refine ⟨⟨s, if_pos (.inl (by rw [hr]; rfl)), rfl⟩, fun hc => ⟨s, ?_, rfl⟩⟩
  change execDramRowSpare h s = _
  simp only [execDramRowSpare, hc, hr]
  split <;> rfl

/-- Settles O21, command by command. -/
theorem stackMaintenanceCompletes : Obligations.StackMaintenanceCompletes := by
  unfold Obligations.StackMaintenanceCompletes
  refine ⟨fun h s => ⟨_, rfl, dram_setDram _ _ _, rfl, rfl⟩, fun h s => notReady_maintenance, fun h s hr h1 hd => ?_,
    fun h k i rest s => laneRepair_completes, fun h k rest s => laneExhausted_completes,
    fun h row rest s => rowSpare_completes, fun h row rest s => rowExhausted_completes, fun h row s => rowSpareDone_completes,
    fun h v l s => dieRetire_completes, fun h v s => dieRetire_illegal, fun h m s => migrationDone_completes,
    fun path hi s => mapWrite_legal, fun path hi s => mapWrite_illegal, fun path hi s => mapWrite_busy⟩
  obtain ⟨t, hx, hz, hp⟩ := patrolStep_completes hr h1 hd
  refine ⟨t, hx, hz, fun hlt => ?_, fun hge hone => ?_⟩
  · rw [if_pos hlt] at hp
    exact hp
  · rw [if_neg (Nat.not_lt.2 hge)] at hp
    exact hp.trans (if_pos hone)

end Sys2Proof.Machine

/-! SUPPORT and settlement of O20: a hall cache answers by hit or miss, finds errors in its lines, and walks (R222, R253, R256, R257,
R260). -/

namespace Sys2Proof.Machine

set_option Elab.async false -- each thread's stack counts against the check's memory limit

/-! ### Counters of a hall cache -/

/-- Silent fields of the hall caches among `l`, and every owner. -/
def HallCounts (l : List Fld) : Scope := ⟨fun q g => silent q g = true ∧ (∃ h, q = hcPage h) ∧ g ∈ l, fun _ => True⟩

/-- The counters of hits, misses and errors. -/
def lineCounts : List Fld := [Reg.hc.HITS, Reg.hc.MISSES, Reg.hc.CE_COUNT, Reg.hc.UE_CLEAN, Reg.hc.POISONED]

theorem hcPage_ne_hif (h : Nat) : hcPage h ≠ .hif := by rintro ⟨⟩

theorem hallCounts_field (h : Nat) {l : List Fld} {g : Fld} (hg : g.inPage = true) (hl : g ∈ l) : (HallCounts l).field (hcPage h) g :=
  ⟨by simp [silent, hg, hcPage], ⟨h, rfl⟩, hl⟩

section
variable {l : List Fld} {s t : State}

theorem Onward.halls (h : Onward Memory s t) : Onward (HallCounts l) s t :=
  h.mono fun _ _ k => ⟨k.1, by obtain ⟨_, rfl⟩ := k.2.1; rfl⟩

theorem Onward.hallsReported (h : Onward Reported s t) : Onward (HallCounts l) s t := h.unreported.halls

theorem halls_wr (s : State) (h : Nat) {f : Fld} (hf : f.inPage = true) (ho : f.off ≠ 0x018) (hl : ∀ g ∈ l, g.off ≠ f.off) (v : Nat) :
    Onward (HallCounts l) s (wr s (hcPage h) f v) :=
  onward_wr hf ho (.inl (hcPage_ne_hif h)) (fun _ _ (k : (HallCounts l).field _ _) =>
    key_ne_of_off hf (inPage_of_silent k.1) (.inr (hl _ k.2.2))) s v

theorem halls_setSticky (hl : ∀ g ∈ l, g.off ≠ 0x018) (s : State) (h b : Nat) : Onward (HallCounts l) s (setSticky s (hcPage h) b) :=
  onward_setSticky (fun _ _ (k : (HallCounts l).field _ _) => ⟨k.1, .inr (hl _ k.2.2)⟩) s b

end

theorem halls_hcFault (s : State) (h : Nat) (user : HallUser) (a kind : Nat) (write : Bool) :
    Onward (HallCounts lineCounts) s (hcFault s h user a kind write) := by
  have info (u : State) : Onward (HallCounts lineCounts) u (if on u (hcPage h) Reg.hc.FAULT_INFO_VALID then u else
      bump (wr (wr (wr (wr (wr (wr u (hcPage h) Reg.hc.FAULT_ADDR a) (hcPage h) Reg.hc.FAULT_INFO_KIND kind) (hcPage h)
        Reg.hc.FAULT_INFO_WRITE write.toNat) (hcPage h) Reg.hc.FAULT_INFO_REQUESTER (userCode user)) (hcPage h)
        Reg.hc.FAULT_INFO_VALID 1) (hcPage h) Reg.hdr.FAULT_CODE (0x80 + kind)) (hcPage h) Reg.hdr.FAULT_COUNT) :=
    have w {t : State} (k : Onward (HallCounts lineCounts) u t) {f : Fld} (hf : f.inPage = true) (ho : f.off ≠ 0x018)
      (hl : ∀ g ∈ lineCounts, g.off ≠ f.off) (v : Nat) := k.trans (halls_wr t h hf ho hl v)
    .ite (.refl u) (w (w (w (w (w (w (w (.refl u) (by decide) (by decide) (by decide) _) (by decide) (by decide) (by decide) _)
      (by decide) (by decide) (by decide) _) (by decide) (by decide) (by decide) _) (by decide) (by decide) (by decide) _)
      (by decide) (by decide) (by decide) _) (by decide) (by decide) (by decide) _)
  unfold hcFault
  exact (((halls_wr s h (f := Reg.hc.FAULTS) (by decide) (by decide) (by decide) _).trans (halls_setSticky (by decide) _ h _)).trans
    (info _)).trans (reported_report _ _ _ _).hallsReported

theorem halls_hcSees (s : State) (h : Nat) (user : HallUser) (write : Bool) (r : Got) :
    Onward (HallCounts lineCounts) s (hcSees s h user write r).1 := by
  cases r with
  | ok v => exact .refl s
  | fault k a => exact halls_hcFault _ _ _ _ _ _

theorem halls_endRequester (s : State) (h : Nat) (user : HallUser) (k a : Nat) :
    Onward (HallCounts lineCounts) s (endRequester s h user k a) := (reported_endRequester s h user k a).hallsReported

theorem halls_writeBack (s : State) (h : Nat) (x : Line) : Onward (HallCounts lineCounts) s (writeBack s h x).1 := by
  unfold writeBack
  exact ((halls_wr s h (f := Reg.hc.WRITEBACKS) (by decide) (by decide) (by decide) _).trans
    (onward_memWritePoison _ _ _ _ _ _).halls).trans (halls_hcSees _ _ _ _ _)

theorem halls_allocate (s : State) (h n data : Nat) (dirty pf : Bool) :
    Onward (HallCounts lineCounts) s (allocate s h n data dirty pf) := by
  unfold allocate
  split
  · exact .refl s
  · next w victim _ =>
    refine Onward.trans ?_ (onward_putLine _ _ _)
    cases victim with
    | none => exact .refl s
    | some x => exact .ite ((halls_writeBack s h x).trans (onward_dropLine _ _ _)) (onward_dropLine _ _ _)

/-! ### The caches -/

theorem setSticky_caches_at (s : State) (p : Page) (b h : Nat) : cache (setSticky s p b) h = cache s h := by
  rw [cache, cache, setSticky_caches]

theorem findLine_congr {s t : State} {h : Nat} (e : cache t h = cache s h) (n : Nat) : findLine t h n = findLine s h n := by
  rw [findLine, findLine, e]

theorem cache_congr {s t : State} (e : t.caches = s.caches) (h : Nat) : cache t h = cache s h := by rw [cache, cache, e]

theorem hcFault_caches (s : State) (h : Nat) (user : HallUser) (a kind : Nat) (write : Bool) :
    (hcFault s h user a kind write).caches = s.caches := hcFault_keeps (closed_caches s.caches _ (by decide)) s h user a kind write rfl

theorem hcSees_caches (s : State) (h : Nat) (user : HallUser) (write : Bool) (r : Got) :
    (hcSees s h user write r).1.caches = s.caches := hcSees_keeps (closed_caches s.caches _ (by decide)) s h user write r rfl

theorem endRequester_caches (s : State) (h : Nat) (user : HallUser) (k a : Nat) : (endRequester s h user k a).caches = s.caches :=
  endRequester_keeps (closed_caches s.caches _ (by decide)) s h user k a rfl

theorem writeBack_caches (s : State) (h : Nat) (x : Line) : (writeBack s h x).1.caches = s.caches :=
  writeBack_keeps (closed_caches s.caches _ (by decide)) s h x rfl

theorem memRead_caches (s : State) (who : Requester) (a n : Nat) : (memRead s who a n).1.caches = s.caches :=
  memRead_keeps (closed_caches s.caches _ (by decide)) s who a n rfl

theorem memWrite_caches (s : State) (who : Requester) (a n v : Nat) : (memWrite s who a n v).1.caches = s.caches :=
  memWrite_keeps (closed_caches s.caches _ (by decide)) s who a n v rfl

theorem findLine_putLine (s : State) (h : Nat) (x : Line) : findLine (putLine s h x) h x.line = some x := by
  rw [findLine, putLine, cache_setCache]
  exact List.find?_cons_of_pos (by simp)

theorem findLine_dropLine (s : State) (h n : Nat) : findLine (dropLine s h n) h n = none := by
  rw [findLine, dropLine, cache_setCache]
  exact List.find?_eq_none.2 fun x hx => by
    have hne := (List.mem_filter.1 hx).2
    simpa using hne

theorem line_of_found {s : State} {h n : Nat} {x : Line} (hf : findLine s h n = some x) : x.line = n := by
  simpa using List.find?_some hf

/-- What a fill and a drop of a line leave of its cache. -/
def waiting (c : HallCache) : List Miss × List Walk := (c.misses, c.walks)

theorem waiting_putLine (s : State) (h : Nat) (x : Line) : waiting (cache (putLine s h x) h) = waiting (cache s h) := by
  rw [putLine, cache_setCache]; rfl

theorem waiting_dropLine (s : State) (h n : Nat) : waiting (cache (dropLine s h n) h) = waiting (cache s h) := by
  rw [dropLine, cache_setCache]; rfl

theorem waiting_writeBack (s : State) (h : Nat) (x : Line) : waiting (cache (writeBack s h x).1 h) = waiting (cache s h) := by
  rw [cache_congr (writeBack_caches s h x)]

theorem waiting_allocate (s : State) (h n data : Nat) (dirty pf : Bool) :
    waiting (cache (allocate s h n data dirty pf) h) = waiting (cache s h) := by
  unfold allocate
  split
  · rfl
  · next w victim _ =>
    refine (waiting_putLine _ _ _).trans ?_
    cases victim with
    | none => rfl
    | some x =>
      dsimp only
      split
      · exact (waiting_dropLine _ _ _).trans (waiting_writeBack _ _ _)
      · exact waiting_dropLine _ _ _

/-! ### One line (R253) -/

section
variable {s : State} {h addr len : Nat} (hl : 1 ≤ len) (hw : addr % 64 + len ≤ 64)
include hl hw

theorem ceilDiv_line : ceilDiv (addr % 64 + len) 64 = 1 := by unfold ceilDiv; omega

theorem hcRead_line (user : HallUser) : (hcRead s h user addr len).1 = (readLine s h user (addr / 64) (addr % 64) len).1
    ∧ ∀ k a, (hcRead s h user addr len).2 = .fault k a ↔ (readLine s h user (addr / 64) (addr % 64) len).2 = .fault k a := by
  have hm : min (addr + len - addr) (64 - addr % 64) = len := by omega
  rw [hcRead, ceilDiv_line hl hw, readLines, hm]
  generalize readLine s h user (addr / 64) (addr % 64) len = r
  obtain ⟨t, v | ⟨k, a⟩⟩ := r
  · exact ⟨rfl, fun k a => ⟨fun e => (by cases e), fun e => (by cases e)⟩⟩
  · exact ⟨rfl, fun _ _ => Iff.rfl⟩

theorem hcWrite_line (user : HallUser) (v : Nat) :
    (hcWrite s h user addr len v).1 = (writeLine s h user (addr / 64) (addr % 64) len (v % 2 ^ (8 * len))).1
    ∧ ∀ k a, (hcWrite s h user addr len v).2 = .fault k a
      ↔ (writeLine s h user (addr / 64) (addr % 64) len (v % 2 ^ (8 * len))).2 = .fault k a := by
  have hm : min (addr + len - addr) (64 - addr % 64) = len := by omega
  rw [hcWrite, ceilDiv_line hl hw, writeLines, hm]
  generalize writeLine s h user (addr / 64) (addr % 64) len (v % 2 ^ (8 * len)) = r
  obtain ⟨t, v | ⟨k, a⟩⟩ := r
  · exact ⟨rfl, fun k a => ⟨fun e => (by cases e), fun e => (by cases e)⟩⟩
  · exact ⟨rfl, fun _ _ => Iff.rfl⟩

/-- A request within a line that is there needs no other. -/
theorem needsFill_hit {x : Line} (hx : findLine s h (addr / 64) = some x) (w : Bool) : needsFill s h addr len w = false := by
  rw [needsFill, ceilDiv_line hl hw]
  simp [List.range_succ, hx]

end

/-- A read that begins in an absent line waits for it. -/
theorem needsFill_miss {s : State} {h addr len : Nat} (hl : 1 ≤ len) (hx : findLine s h (addr / 64) = none)
    (hb : bypass s h = false) : needsFill s h addr len false = true := by
  rw [needsFill, hb]
  simp only [Bool.not_false, Bool.true_and, List.any_eq_true, List.mem_range]
  exact ⟨0, by unfold ceilDiv; omega, by simp [hx]⟩

/-- An access has ended: the fault that it found ends its work. -/
def answered (h : Nat) (user : HallUser) (r : State × Got) : State :=
  match r with
  | (s, .ok _) => s
  | (s, .fault k a) => endRequester s h user k a

theorem answered_ok {h : Nat} {user : HallUser} {s : State} {v : Nat} : answered h user (s, .ok v) = s := rfl

theorem answered_caches (h : Nat) (user : HallUser) (r : State × Got) : (answered h user r).caches = r.1.caches := by
  obtain ⟨t, v | ⟨k, a⟩⟩ := r
  · rfl
  · exact endRequester_caches _ _ _ _ _

theorem halls_answered (h : Nat) (user : HallUser) (r : State × Got) : Onward (HallCounts lineCounts) r.1 (answered h user r) := by
  obtain ⟨t, v | ⟨k, a⟩⟩ := r
  · exact .refl _
  · exact halls_endRequester _ _ _ _ _

/-- Two results with the same state and the same fault end alike. -/
theorem answered_congr {h : Nat} {user : HallUser} {r q : State × Got} (e : r.1 = q.1)
    (f : ∀ k a, r.2 = .fault k a ↔ q.2 = .fault k a) : answered h user r = answered h user q := by
  obtain ⟨t, v | ⟨k, a⟩⟩ := r <;> obtain ⟨u, w | ⟨j, b⟩⟩ := q
  · exact e
  · exact absurd ((f j b).2 rfl) (by simp)
  · exact absurd ((f k a).1 rfl) (by simp)
  · cases e; cases (f k a).1 rfl; rfl

theorem serve_read {s : State} {h addr len : Nat} (hl : 1 ≤ len) (hw : addr % 64 + len ≤ 64) (user : HallUser) :
    serve s h user addr len none = answered h user (readLine s h user (addr / 64) (addr % 64) len) := by
  obtain ⟨e, f⟩ := hcRead_line (s := s) (h := h) hl hw user
  exact answered_congr e f

theorem serve_write {s : State} {h addr len : Nat} (hl : 1 ≤ len) (hw : addr % 64 + len ≤ 64) (user : HallUser) (v : Nat) :
    serve s h user addr len (some v)
      = answered h user (writeLine s h user (addr / 64) (addr % 64) len (v % 2 ^ (8 * len))) := by
  obtain ⟨e, f⟩ := hcWrite_line (s := s) (h := h) hl hw user v
  exact answered_congr e f

/-! ### A hit -/

section
variable {s : State} {h n : Nat} {x : Line} (hx : findLine s h n = some x)

theorem findLine_hitLine (hn : x.line = n) : findLine (hitLine s h x) h n = some { x with prefetched := false } := by
  subst hn
  exact findLine_putLine _ h { x with prefetched := false }

theorem advanced_hitLine : Advanced s (hitLine s h x) (hcPage h) Reg.hc.HITS := by
  have useful (u : State) : rd (if x.prefetched then bump u (hcPage h) Reg.hc.PF_USEFUL else u) (hcPage h) Reg.hc.HITS
      = rd u (hcPage h) Reg.hc.HITS := by
    split
    · exact rd_bump_field (by decide) (by decide) (by decide) _ _
    · rfl
  exact (useful _).trans (rd_bump _ _ _)

theorem halls_hitLine {l : List Fld} (hl : ∀ g ∈ l, g.off ≠ Reg.hc.HITS.off ∧ g.off ≠ Reg.hc.PF_USEFUL.off) :
    Onward (HallCounts l) s (hitLine s h x) := by
  unfold hitLine
  exact ((halls_wr s h (f := Reg.hc.HITS) (by decide) (by decide) (fun g hg => (hl g hg).1) _).trans
    (.ite (halls_wr _ h (f := Reg.hc.PF_USEFUL) (by decide) (by decide) (fun g hg => (hl g hg).2) _) (.refl _))).trans
    (onward_putLine _ _ _)

include hx

theorem readLine_hit (user : HallUser) (lo m : Nat) : readLine s h user n lo m
    = if x.poison then (hcFault (hitLine s h x) h user (64 * n) 2 false, .fault 2 (64 * n))
      else (hitLine s h x, .ok (bits x.data (8 * lo) (8 * m))) := by
  unfold readLine
  rw [hx]

theorem readLine_hit_caches (user : HallUser) (lo m : Nat) :
    (readLine s h user n lo m).1.caches = (hitLine s h x).caches := by
  rw [readLine_hit hx]
  split
  · exact hcFault_caches _ _ _ _ _ _
  · rfl

theorem halls_readLine_hit (user : HallUser) (lo m : Nat) :
    Onward (HallCounts lineCounts) (hitLine s h x) (readLine s h user n lo m).1 := by
  rw [readLine_hit hx]
  split
  · exact halls_hcFault _ _ _ _ _ _
  · exact .refl _

end

/-- A read that hits counts its hit and leaves its line in place, whatever the line holds. -/
theorem serve_hit {s : State} {h addr len : Nat} {x : Line} (hl : 1 ≤ len) (hw : addr % 64 + len ≤ 64)
    (hx : findLine s h (addr / 64) = some x) (user : HallUser) :
    Advanced s (serve s h user addr len none) (hcPage h) Reg.hc.HITS
      ∧ findLine (serve s h user addr len none) h (addr / 64) = some { x with prefetched := false }
      ∧ (∀ f ∈ [Reg.hc.CE_COUNT, Reg.hc.UE_CLEAN, Reg.hc.POISONED],
        rd (serve s h user addr len none) (hcPage h) f = rd s (hcPage h) f)
      ∧ ∀ b < 32, sticky s (hcPage h) b = true → sticky (serve s h user addr len none) (hcPage h) b = true := by
  rw [serve_read hl hw]
  have after := (halls_readLine_hit hx user (addr % 64) len).trans (halls_answered h user _)
  have hit : Onward (HallCounts [Reg.hc.CE_COUNT, Reg.hc.UE_CLEAN, Reg.hc.POISONED]) s (hitLine s h x) := halls_hitLine (by decide)
  refine ⟨(after.fields _ _ (hallCounts_field h (by decide) (by decide))).trans advanced_hitLine, ?_, fun f hf => ?_, fun b hb e =>
    after.stickies _ b hb (hit.stickies _ b hb e)⟩
  · rw [findLine_congr (cache_congr ((answered_caches _ _ _).trans (readLine_hit_caches hx _ _ _)) h)]
    exact findLine_hitLine (line_of_found hx)
  · have page : f.inPage = true ∧ f ∈ lineCounts := by
      simp only [List.mem_cons, List.not_mem_nil, or_false] at hf
      rcases hf with rfl | rfl | rfl <;> exact ⟨by decide, by decide⟩
    exact (after.fields _ _ (hallCounts_field h page.1 page.2)).trans (hit.fields _ _ (hallCounts_field h page.1 hf))

/-- A write that hits a line that it may change. -/
theorem serve_writeHit {s : State} {h addr len : Nat} {x : Line} (hl : 1 ≤ len) (hw : addr % 64 + len ≤ 64)
    (hx : findLine s h (addr / 64) = some x) (hp : x.poison = false ∨ len = 64) (user : HallUser) (v : Nat) :
    Advanced s (serve s h user addr len (some v)) (hcPage h) Reg.hc.HITS ∧ (serve s h user addr len (some v)).dram = s.dram
      ∧ findLine (serve s h user addr len (some v)) h (addr / 64) = some { x with
          data := setBits x.data (8 * (addr % 64)) (8 * len) (v % 2 ^ (8 * len)), dirty := true, poison := false
          prefetched := false } := by
  have hn : ¬(x.poison && len != 64) = true := by
    rcases hp with hp | hp <;> simp [hp]
  rw [serve_write hl hw, writeLine, hx]
  dsimp only
  rw [if_neg hn]
  refine ⟨advanced_hitLine, ?_, ?_⟩
  · change (hitLine s h x).dram = s.dram
    exact hitLine_keeps (closed_dram s.dram _ (by decide)) s h x rfl
  · rw [answered_ok]
    have hn := line_of_found hx
    rw [← hn]
    exact findLine_putLine (hitLine s h x) h _

/-! ### Errors in a line (R256) -/

theorem upsetTag_none {s : State} {h n : Nat} : upsetTag s h n 0 = s := by
  unfold upsetTag
  split <;> rfl

theorem upsetLine_none {s : State} {h n off : Nat} : upsetLine s h n off 0 = s := by
  unfold upsetLine
  split <;> rfl

section
variable {s : State} {h n off : Nat} {x : Line} (hx : findLine s h n = some x)
include hx

theorem upsetTag_one : upsetTag s h n 1 = lineCe s h := by unfold upsetTag; rw [hx]; rfl
theorem upsetTag_two : upsetTag s h n 2 = lineUe s h x := by unfold upsetTag; rw [hx]; rfl
theorem upsetLine_one : upsetLine s h n off 1 = lineCe s h := by unfold upsetLine; rw [hx]; rfl
theorem upsetLine_two : upsetLine s h n off 2 = lineUe s h x := by unfold upsetLine; rw [hx]; rfl

end

theorem findLine_lineCe (s : State) (h n : Nat) : findLine (lineCe s h) h n = findLine s h n :=
  findLine_congr (setSticky_caches_at _ _ _ _) n

theorem sticky_lineCe (s : State) (h : Nat) : sticky (lineCe s h) (hcPage h) Sticky.hc.HC_CE = true :=
  sticky_setSticky _ _ _ (by decide)

theorem rd_lineCe (s : State) (h : Nat) {f : Fld} (hf : f.inPage = true) (ho : f.off ≠ 0x018) :
    rd (lineCe s h) (hcPage h) f = rd (bump s (hcPage h) Reg.hc.CE_COUNT) (hcPage h) f :=
  rd_setSticky_own (hcPage_ne_hif h) hf _ _ ho

/-- A poisoned dirty line stays under its number. -/
theorem lineUe_dirty {s : State} {h n : Nat} {x : Line} (hx : findLine s h n = some x) (hd : x.dirty = true) :
    findLine (lineUe s h x) h n = some { x with poison := true }
      ∧ rd (lineUe s h x) (hcPage h) Reg.hc.POISONED = min (rd s (hcPage h) Reg.hc.POISONED + 1) (2 ^ Reg.hc.POISONED.width - 1)
      ∧ sticky (lineUe s h x) (hcPage h) Sticky.hc.HC_UE = true := by
  have hn := line_of_found hx
  subst hn
  unfold lineUe
  dsimp only
  rw [if_pos hd]
  refine ⟨findLine_putLine _ h { x with poison := true }, ?_, ?_⟩
  · refine (rd_bump (setSticky s (hcPage h) Sticky.hc.HC_UE) (hcPage h) Reg.hc.POISONED).trans ?_
    rw [rd_setSticky_own (hcPage_ne_hif h) (by decide) _ _ (by decide)]
  · exact (halls_wr (l := []) (setSticky s (hcPage h) Sticky.hc.HC_UE) h (f := Reg.hc.POISONED) (by decide) (by decide) (by simp)
      _).stickies _ _ (by decide) (sticky_setSticky _ _ _ (by decide))

/-- A clean line with an uncorrectable error leaves its cache; what waits there stays. -/
theorem lineUe_clean {s : State} {h n : Nat} {x : Line} (hx : findLine s h n = some x) (hd : x.dirty = false) :
    findLine (lineUe s h x) h n = none ∧ (cache (lineUe s h x) h).misses = (cache s h).misses
      ∧ rd (lineUe s h x) (hcPage h) Reg.hc.UE_CLEAN = min (rd s (hcPage h) Reg.hc.UE_CLEAN + 1) (2 ^ Reg.hc.UE_CLEAN.width - 1)
      ∧ sticky (lineUe s h x) (hcPage h) Sticky.hc.HC_UE = true ∧ bypass (lineUe s h x) h = bypass s h := by
  have hn := line_of_found hx
  subst hn
  have hsame (u : State) (e : RepairEvent) (c : Prop) [Decidable c] : (if c then repairEvent u e else u).caches = u.caches
      ∧ (if c then repairEvent u e else u).regs = u.regs := by
    split <;> exact ⟨rfl, rfl⟩
  unfold lineUe
  dsimp only
  rw [if_neg (by rw [hd]; decide)]
  generalize hu : setCache (dropLine (bump (setSticky s (hcPage h) Sticky.hc.HC_UE) (hcPage h) Reg.hc.UE_CLEAN) h x.line) h _ = u
  have hc : (cache u h).lines = (cache (dropLine (bump (setSticky s (hcPage h) Sticky.hc.HC_UE) (hcPage h) Reg.hc.UE_CLEAN) h
      x.line) h).lines := by rw [← hu, cache_setCache]
  have hm : (cache u h).misses = (cache s h).misses := by
    rw [← hu, cache_setCache]
    dsimp only
    rw [dropLine, cache_setCache]
    change (cache (setSticky s (hcPage h) Sticky.hc.HC_UE) h).misses = _
    rw [setSticky_caches_at]
  have hr : u.regs = (bump (setSticky s (hcPage h) Sticky.hc.HC_UE) (hcPage h) Reg.hc.UE_CLEAN).regs := by rw [← hu]; rfl
  obtain ⟨kc, kr⟩ := hsame u (.wayErrors h x.way) (rd u .mcService Reg.mcs.WAY_UE_THRESHOLD
    ≤ (NatMap.get? (cache (dropLine (bump (setSticky s (hcPage h) Sticky.hc.HC_UE) (hcPage h) Reg.hc.UE_CLEAN) h x.line) h).wayUe
      x.way).getD 0 + 1)
  have line : findLine u h x.line = none := by
    rw [findLine, hc]
    exact findLine_dropLine _ h x.line
  have ways : rd (bump (setSticky s (hcPage h) Sticky.hc.HC_UE) (hcPage h) Reg.hc.UE_CLEAN) (hcPage h) Reg.hc.WAY_DISABLE
      = rd s (hcPage h) Reg.hc.WAY_DISABLE := by
    rw [rd_bump_field (by decide) (by decide) (by decide), rd_setSticky_own (hcPage_ne_hif h) (by decide) _ _ (by decide)]
  have marked := (halls_wr (l := []) (setSticky s (hcPage h) Sticky.hc.HC_UE) h (f := Reg.hc.UE_CLEAN) (by decide) (by decide)
    (by simp) (min (rd (setSticky s (hcPage h) Sticky.hc.HC_UE) (hcPage h) Reg.hc.UE_CLEAN + 1) (2 ^ Reg.hc.UE_CLEAN.width
      - 1))).stickies (hcPage h) Sticky.hc.HC_UE (by decide) (sticky_setSticky _ _ _ (by decide))
  refine ⟨(findLine_congr (cache_congr kc h) _).trans line, by rw [cache_congr kc h, hm], ?_, ?_, ?_⟩
  · rw [rd_congr (kr.trans hr), rd_bump, rd_setSticky_own (hcPage_ne_hif h) (by decide) _ _ (by decide)]
  · exact (sticky_other (rd_congr (kr.trans hr) _ _) _).trans marked
  · rw [bypass, bypass, rd_congr (kr.trans hr), ways]

/-! ### Requests -/

section
variable {h : Fin 16} {user : HallUser} {addr len : Nat} {w : Option Nat} {u : LineUpset} {s : State} (hr : ready s = true)
  (hl : 1 ≤ len) (ha : addr + len ≤ 2 ^ 40)
include hr hl ha

theorem exec_hallAccess : exec (.hallCacheAccess h user addr len w u) s
    = .next ((fun t => if needsFill t h addr len w.isSome then setCache t h { cache t h with
        misses := (cache t h).misses ++ [{ user := user, addr := addr, len := len, write := w }] }
      else serve t h user addr len w) (upsetLine (upsetTag s h (addr / 64) u.tag) h (addr / 64) (addr % 64) u.word.eraseDups.length)) := by
  change execHallCacheAccess h user addr len w u s = _
  rw [execHallCacheAccess, if_neg (by rw [hr]; simp only [Bool.not_true, Bool.false_eq_true, false_or]; omega)]
  dsimp only
  split <;> rfl

/-- A request without errors that needs no line is served. -/
theorem exec_hallHit {x : Line} (hw : addr % 64 + len ≤ 64) (hx : findLine s h (addr / 64) = some x) :
    exec (.hallCacheAccess h user addr len w ⟨[], 0⟩) s = .next (serve s h user addr len w) := by
  rw [exec_hallAccess hr hl ha, show ([] : List (Fin 72)).eraseDups.length = 0 from rfl, upsetLine_none, upsetTag_none]
  dsimp only
  rw [needsFill_hit hl hw hx, if_neg (by decide)]

theorem hall_hit {x : Line} (hw : addr % 64 + len ≤ 64) (hx : findLine s h (addr / 64) = some x) :
    Completes (.hallCacheAccess h user addr len none ⟨[], 0⟩) s fun t =>
      Advanced s t (hcPage h) Reg.hc.HITS ∧ findLine t h (addr / 64) = some { x with prefetched := false } := by
  obtain ⟨hits, line, -, -⟩ := serve_hit hl hw hx user
  exact ⟨_, exec_hallHit hr hl ha hw hx, hits, line⟩

theorem hall_writeHit {x : Line} {v : Nat} (hw : addr % 64 + len ≤ 64) (hx : findLine s h (addr / 64) = some x)
    (hp : x.poison = false ∨ len = 64) :
    Completes (.hallCacheAccess h user addr len (some v) ⟨[], 0⟩) s fun t =>
      Advanced s t (hcPage h) Reg.hc.HITS ∧ t.dram = s.dram
        ∧ findLine t h (addr / 64) = some { x with
            data := setBits x.data (8 * (addr % 64)) (8 * len) (v % 2 ^ (8 * len)), dirty := true, poison := false
            prefetched := false } :=
  ⟨_, exec_hallHit hr hl ha hw hx, serve_writeHit hl hw hx hp user v⟩

theorem hall_waits (hn : needsFill s h addr len w.isSome = true) :
    Completes (.hallCacheAccess h user addr len w ⟨[], 0⟩) s fun t =>
      (cache t h).misses = (cache s h).misses ++ [{ user := user, addr := addr, len := len, write := w }]
        ∧ (cache t h).lines = (cache s h).lines ∧ t.dram = s.dram ∧ t.regs = s.regs := by
  refine ⟨_, exec_hallAccess hr hl ha, ?_⟩
  rw [show ([] : List (Fin 72)).eraseDups.length = 0 from rfl, upsetLine_none, upsetTag_none]
  dsimp only
  rw [if_pos hn, cache_setCache]
  exact ⟨rfl, rfl, rfl, rfl⟩

theorem hall_corrected {x : Line} {fl : List (Fin 72)} {tag : Nat} (hw : addr % 64 + len ≤ 64)
    (hx : findLine s h (addr / 64) = some x) (hf : fl.eraseDups.length + tag = 1) :
    Completes (.hallCacheAccess h user addr len none ⟨fl, tag⟩) s fun t =>
      Advanced s t (hcPage h) Reg.hc.CE_COUNT ∧ sticky t (hcPage h) Sticky.hc.HC_CE = true
        ∧ Advanced s t (hcPage h) Reg.hc.HITS ∧ findLine t h (addr / 64) = some { x with prefetched := false } := by
  have e : upsetLine (upsetTag s h (addr / 64) tag) h (addr / 64) (addr % 64) fl.eraseDups.length = lineCe s h := by
    by_cases h0 : tag = 0
    · rw [h0, upsetTag_none, show fl.eraseDups.length = 1 by omega, upsetLine_one hx]
    · rw [show tag = 1 by omega, show fl.eraseDups.length = 0 by omega, upsetTag_one hx, upsetLine_none]
  refine ⟨_, exec_hallAccess hr hl ha, ?_⟩
  have hx' : findLine (lineCe s h) h (addr / 64) = some x := (findLine_lineCe s h _).trans hx
  rw [e]
  dsimp only
  rw [needsFill_hit hl hw hx', if_neg (by decide)]
  obtain ⟨hits, line, counts, stick⟩ := serve_hit hl hw hx' user
  refine ⟨?_, stick _ (by decide) (sticky_lineCe s h), ?_, line⟩
  · rw [Advanced, counts _ (by simp), rd_lineCe s h (by decide) (by decide), rd_bump]
  · rw [Advanced, rd_lineCe s h (by decide) (by decide), rd_bump_field (by decide) (by decide) (by decide)] at hits
    exact hits

omit hr hl ha in
/-- An uncorrectable error, in the tag or in the word. -/
theorem upset_two {x : Line} {fl : List (Fin 72)} {tag : Nat} (hx : findLine s h (addr / 64) = some x)
    (hf : (fl = [] ∧ tag = 2) ∨ (fl.eraseDups.length = 2 ∧ tag = 0)) :
    upsetLine (upsetTag s h (addr / 64) tag) h (addr / 64) (addr % 64) fl.eraseDups.length = lineUe s h x := by
  rcases hf with ⟨rfl, rfl⟩ | ⟨h2, rfl⟩
  · rw [upsetTag_two hx, show ([] : List (Fin 72)).eraseDups.length = 0 from rfl, upsetLine_none]
  · rw [upsetTag_none, h2, upsetLine_two hx]

theorem hall_ueClean {x : Line} {fl : List (Fin 72)} {tag : Nat} (hx : findLine s h (addr / 64) = some x) (hd : x.dirty = false)
    (hb : bypass s h = false) (hf : (fl = [] ∧ tag = 2) ∨ (fl.eraseDups.length = 2 ∧ tag = 0)) :
    Completes (.hallCacheAccess h user addr len none ⟨fl, tag⟩) s fun t =>
      Advanced s t (hcPage h) Reg.hc.UE_CLEAN ∧ sticky t (hcPage h) Sticky.hc.HC_UE = true
        ∧ findLine t h (addr / 64) = none
        ∧ (cache t h).misses = (cache s h).misses ++ [{ user := user, addr := addr, len := len, write := none }] := by
  refine ⟨_, exec_hallAccess hr hl ha, ?_⟩
  obtain ⟨line, misses, counted, stick, pass⟩ := lineUe_clean hx hd
  rw [upset_two hx hf]
  dsimp only
  generalize lineUe s h x = t at line misses counted stick pass ⊢
  rw [show (Option.isSome (none : Option Nat)) = false from rfl, needsFill_miss hl line (pass.trans hb), if_pos rfl]
  refine ⟨counted, stick, ?_, ?_⟩
  · rw [findLine, cache_setCache]
    exact line
  · rw [cache_setCache, ← misses]

theorem hall_ueDirty {x : Line} {fl : List (Fin 72)} {tag : Nat} (hw : addr % 64 + len ≤ 64)
    (hx : findLine s h (addr / 64) = some x) (hd : x.dirty = true)
    (hf : (fl = [] ∧ tag = 2) ∨ (fl.eraseDups.length = 2 ∧ tag = 0)) :
    Completes (.hallCacheAccess h user addr len none ⟨fl, tag⟩) s fun t =>
      Advanced s t (hcPage h) Reg.hc.POISONED ∧ sticky t (hcPage h) Sticky.hc.HC_UE = true
        ∧ findLine t h (addr / 64) = some { x with poison := true, prefetched := false } := by
  refine ⟨_, exec_hallAccess hr hl ha, ?_⟩
  obtain ⟨found, counted, stick⟩ := lineUe_dirty hx hd
  rw [upset_two hx hf]
  dsimp only
  generalize lineUe s h x = t at found counted stick ⊢
  rw [needsFill_hit hl hw found, if_neg (by decide)]
  obtain ⟨-, line, counts, kept⟩ := serve_hit hl hw found user
  exact ⟨(counts _ (by simp)).trans counted, kept _ (by decide) stick, line⟩

/-- A read of a poisoned line faults, and the work that it was made for ends (R259). -/
theorem exec_hallPoisoned {x : Line} (hw : addr % 64 + len ≤ 64) (hx : findLine s h (addr / 64) = some x) (hp : x.poison = true) :
    exec (.hallCacheAccess h user addr len none ⟨[], 0⟩) s = .next (endRequester
      (hcFault (hitLine s h x) h user (64 * (addr / 64)) 2 false) h user 2 (64 * (addr / 64))) := by
  rw [exec_hallHit hr hl ha hw hx, serve_read hl hw, readLine_hit hx, if_pos hp]
  rfl

end

theorem hitFault_galleries (s : State) (h : Nat) (x : Line) (user : HallUser) (a k : Nat) (w : Bool) :
    (hcFault (hitLine s h x) h user a k w).galleries = s.galleries :=
  hcFault_keeps (closed_galleries _ _ (by decide)) _ _ _ _ _ _ (hitLine_keeps (closed_galleries s.galleries _ (by decide)) s h x rfl)

theorem hitFault_dressers (s : State) (h : Nat) (x : Line) (user : HallUser) (a k : Nat) (w : Bool) :
    (hcFault (hitLine s h x) h user a k w).dressers = s.dressers :=
  hcFault_keeps (closed_dressers _ _ (by decide)) _ _ _ _ _ _ (hitLine_keeps (closed_dressers s.dressers _ (by decide)) s h x rfl)

/-- A dresser's faulting access ends its job. -/
theorem dresserEnds {s : State} {h : Nat} {k : Ticket} (hk : NatMap.get? s.dressers h = some k) (kind a : Nat) :
    findJob (endRequester s h .dresser kind a) k.sw k.slot = none
      ∧ ∀ e ∈ (endRequester s h .dresser kind a).dressers, ¬(e.2.sw = k.sw ∧ e.2.slot = k.slot) := by
  have e : endRequester s h .dresser kind a = endJob s k.sw k.slot 0x28 := by
    unfold endRequester
    simp only [HallUser.work, hk]
  rw [e]
  exact ⟨findJob_endJob _ _ _ _, dressers_endJob _ _ _ _⟩

/-! ### A fill -/

/-- A demand access to an absent line counts it, and leaves what waits at its cache. -/
structure Missed (s t : State) (h : Nat) : Prop where
  counted : Advanced s t (hcPage h) Reg.hc.MISSES
  waiting : waiting (cache t h) = waiting (cache s h)

theorem Missed.after {s t u : State} {h : Nat} (k : Missed s t h) (f : Onward (HallCounts lineCounts) t u)
    (c : Machine.waiting (cache u h) = Machine.waiting (cache t h)) : Missed s u h :=
  ⟨(f.fields _ _ (hallCounts_field h (by decide) (by decide))).trans k.counted, c.trans k.waiting⟩

theorem Missed.memory {s t u : State} {h : Nat} (k : Missed s t h) (f : Onward Memory t u) (c : u.caches = t.caches) : Missed s u h :=
  k.after f.halls (by rw [cache_congr c])

theorem missed_bump (s : State) (h : Nat) : Missed s (bump s (hcPage h) Reg.hc.MISSES) h := ⟨rd_bump _ _ _, rfl⟩

section
variable {s : State} {h n : Nat} (hx : findLine s h n = none) (user : HallUser) (lo m : Nat)

theorem Missed.sees {t : State} (k : Missed s t h) (write : Bool) (r : Got) : Missed s (hcSees t h user write r).1 h :=
  k.after (halls_hcSees _ _ _ _ _) (by rw [cache_congr (hcSees_caches _ _ _ _ _)])

theorem Missed.allocated {t : State} (k : Missed s t h) (n data : Nat) (dirty pf : Bool) :
    Missed s (allocate t h n data dirty pf) h := k.after (halls_allocate _ _ _ _ _ _) (waiting_allocate _ _ _ _ _ _)

include hx

theorem missed_readLine : Missed s (readLine s h user n lo m).1 h := by
  have read (a k : Nat) : Missed s (memRead (bump s (hcPage h) Reg.hc.MISSES) (.hallCache (Fin.ofNat 16 h)) a k).1 h :=
    (missed_bump s h).memory (onward_memRead _ _ _ _) (memRead_caches _ _ _ _)
  unfold readLine
  rw [hx]
  dsimp only
  split
  · exact (read _ _).sees user false _
  · have seen := (read (64 * n) 64).sees user false (memRead (bump s (hcPage h) Reg.hc.MISSES) (.hallCache (Fin.ofNat 16 h)) (64 * n) 64).2
    split
    · next e => rw [e] at seen; exact seen.allocated _ _ _ _
    · exact seen

theorem missed_writeLine (v : Nat) : Missed s (writeLine s h user n lo m v).1 h := by
  have fault : Missed s (scFault (bump s (hcPage h) Reg.hc.MISSES) (.hallCache (Fin.ofNat 16 h)) (64 * n) 0 true) h :=
    (missed_bump s h).memory (onward_scFault _ _ _ _ _) (scFault_keeps (closed_caches _ _ (by decide)) _ _ _ _ _ rfl)
  unfold writeLine
  rw [hx]
  dsimp only
  split
  · exact ((missed_bump s h).memory (onward_memWrite _ _ _ _ _) (memWrite_caches _ _ _ _ _)).sees user true _
  split
  · split
    · exact (missed_bump s h).allocated _ _ _ _
    · exact fault.sees user true _
  · have seen := ((missed_bump s h).memory (onward_memRead _ (.hallCache (Fin.ofNat 16 h)) (64 * n) 64) (memRead_caches _ _ _ _)).sees user true
      (memRead (bump s (hcPage h) Reg.hc.MISSES) (.hallCache (Fin.ofNat 16 h)) (64 * n) 64).2
    split
    · next e => rw [e] at seen; exact seen.allocated _ _ _ _
    · exact seen

end

theorem missed_answered {s : State} {h : Nat} {r : State × Got} (k : Missed s r.1 h) (user : HallUser) : Missed s (answered h user r) h :=
  k.after (halls_answered _ _ _) (by rw [cache_congr (answered_caches _ _ _)])

theorem hallFill_completes {h : Fin 16} {m : Miss} {rest : List Miss} {s : State} (hr : ready s = true)
    (hm : (cache s h).misses = m :: rest) (hl : 1 ≤ m.len) (hw : m.addr % 64 + m.len ≤ 64)
    (hx : findLine s h (m.addr / 64) = none) :
    Completes (.hallCacheFill h) s fun t => (cache t h).misses = rest ∧ Advanced s t (hcPage h) Reg.hc.MISSES := by
  refine ⟨serve (setCache s h { cache s h with misses := rest }) h m.user m.addr m.len m.write, ?_, ?_⟩
  · change execHallCacheFill h s = _
    simp only [execHallCacheFill, hm, hr]
    rfl
  · have hx' : findLine (setCache s h { cache s h with misses := rest }) h (m.addr / 64) = none := by
      rw [findLine, cache_setCache]
      exact hx
    have k : Missed (setCache s h { cache s h with misses := rest })
        (serve (setCache s h { cache s h with misses := rest }) h m.user m.addr m.len m.write) h := by
      cases m.write with
      | none => rw [serve_read hl hw]; exact missed_answered (missed_readLine hx' _ _ _) _
      | some v => rw [serve_write hl hw]; exact missed_answered (missed_writeLine hx' _ _ _ _) _
    refine ⟨?_, k.counted⟩
    have e := congrArg Prod.fst k.waiting
    rw [cache_setCache] at e
    exact e

/-! ### The ways (R257) -/

theorem and_add_ldiff (v o : Nat) : (v &&& o) + Nat.ldiff v o = v := by
  induction v using Nat.binaryRec generalizing o with
  | zero => simp [Nat.ldiff]
  | bit b n ih =>
    obtain ⟨c, k, rfl⟩ : ∃ c k, o = Nat.bit c k := ⟨_, _, (Nat.bit_bodd_div2 o).symm⟩
    have e := ih k
    rw [Nat.land_bit, Nat.ldiff_bit, Nat.bit_val, Nat.bit_val, Nat.bit_val]
    cases b <;> cases c <;> simp <;> omega

/-- The bits of a value that another does not hold. -/
theorem bit_sub_and (v o i : Nat) : bit (v - (v &&& o)) i = (bit v i && !bit o i) := by
  have e : v - (v &&& o) = Nat.ldiff v o := by have := and_add_ldiff v o; omega
  rw [bit_eq, bit_eq, bit_eq, e, Nat.testBit_ldiff]

theorem foldl_recordRepair_caches (h : Nat) (ws : List Nat) : ∀ s : State,
    (ws.foldl (fun s w => recordRepair s 7 h w 0 0) s).caches = s.caches := by
  induction ws with
  | nil => intro s; rfl
  | cons w ws ih =>
    intro s
    exact (ih _).trans (recordRepair_keeps (closed_caches s.caches _ (by decide)) s 7 h w 0 0 rfl)

theorem foldl_recordRepair_rd (h : Nat) (ws : List Nat) {q : Page} {g : Fld} (hq : (SilentBut .mcService).field q g) : ∀ s : State,
    rd (ws.foldl (fun s w => recordRepair s 7 h w 0 0) s) q g = rd s q g := by
  induction ws with
  | nil => intro s; rfl
  | cons w ws ih => intro s; exact (ih _).trans ((onward_recordRepair s 7 h w 0 0).fields _ _ hq)

theorem wayDisable_completes {h : Fin 16} {v : BitVec 32} {s : State} (hr : Reaches s .mainband (hcPage h) Reg.hc.WAY_DISABLE.off)
    (hw : walking s h = false) :
    Completes (.wayDisableWrite h v) s fun t =>
      rd t (hcPage h) Reg.hc.WAY_DISABLE = v.toNat % 2 ^ 24 ∧ (cache t h).lines = (cache s h).lines
        ∧ ∃ off on', (cache t h).walks = [.ways off on' 0] ∧ ∀ w < 24,
          bit off w = (bit v.toNat w && !bit (rd s (hcPage h) Reg.hc.WAY_DISABLE) w)
            ∧ bit on' w = (bit (rd s (hcPage h) Reg.hc.WAY_DISABLE) w && !bit v.toNat w) := by
  have hempty : (cache s h).walks = [] := by simpa [walking] using hw
  have hx : exec (.wayDisableWrite h v) s = .next (setWays s h v.toNat) := by
    change execWayDisableWrite h v s = _
    rw [execWayDisableWrite, ifPermitted_of_reaches hr, hw]
    rfl
  refine ⟨_, hx, ?_⟩
  have low (w : Nat) (h24 : w < 24) : bit (v.toNat % 2 ^ 24) w = bit v.toNat w := by
    rw [bit_eq, bit_eq, Nat.testBit_mod_two_pow, decide_eq_true h24, Bool.true_and]
  unfold setWays
  dsimp only
  refine ⟨?_, ?_, v.toNat % 2 ^ 24 - (v.toNat % 2 ^ 24 &&& rd s (hcPage h) Reg.hc.WAY_DISABLE),
    rd s (hcPage h) Reg.hc.WAY_DISABLE - (v.toNat % 2 ^ 24 &&& rd s (hcPage h) Reg.hc.WAY_DISABLE), ?_, fun w h24 => ⟨?_, ?_⟩⟩
  · rw [foldl_recordRepair_rd _ _ ⟨by simp [Silent, silent, hcPage]; decide, .inl (by rintro ⟨⟩)⟩]
    change rd (wr s (hcPage h) Reg.hc.WAY_DISABLE (v.toNat % 2 ^ 24)) (hcPage h) Reg.hc.WAY_DISABLE = _
    rw [rd_wr]
    exact Nat.mod_mod _ _
  · rw [cache_congr (foldl_recordRepair_caches _ _ _), cache_setCache]
    rfl
  · rw [cache_congr (foldl_recordRepair_caches _ _ _), cache_setCache]
    change (cache s h).walks ++ _ = _
    rw [hempty, List.nil_append]
  · rw [bit_sub_and, low w h24]
  · rw [Nat.land_comm, bit_sub_and, low w h24]

theorem wayDisable_walking {h : Fin 16} {v : BitVec 32} {s : State} (hr : Reaches s .mainband (hcPage h) Reg.hc.WAY_DISABLE.off)
    (hw : walking s h = true) :
    Completes (.wayDisableWrite h v) s fun t =>
      rd t (hcPage h) Reg.hdr.STATE_ERR = 1 ∧ t.caches = s.caches
        ∧ rd t (hcPage h) Reg.hc.WAY_DISABLE = rd s (hcPage h) Reg.hc.WAY_DISABLE := by
  refine ⟨stateErr s (hcPage h), ?_, rd_stateErr rfl s, rfl, rd_wr_field (by decide) (by decide) (by decide) _ _ _⟩
  change execWayDisableWrite h v s = _
  rw [execWayDisableWrite, ifPermitted_of_reaches hr, hw]
  rfl

/-! ### Walks -/

/-- Lines have left a cache, and nothing else of it has changed. -/
structure Shrunk (s t : State) (h : Nat) : Prop where
  lines : (cache t h).lines ⊆ (cache s h).lines
  walks : (cache t h).walks = (cache s h).walks

theorem Shrunk.refl (s : State) (h : Nat) : Shrunk s s h := ⟨fun _ k => k, rfl⟩

theorem Shrunk.trans {s t u : State} {h : Nat} (k : Shrunk s t h) (l : Shrunk t u h) : Shrunk s u h :=
  ⟨fun _ e => k.lines (l.lines e), l.walks.trans k.walks⟩

theorem shrunk_dropLine (s : State) (h n : Nat) : Shrunk s (dropLine s h n) h := by
  refine ⟨fun x hx => ?_, ?_⟩
  · rw [dropLine, cache_setCache] at hx
    exact (List.mem_filter.1 hx).1
  · rw [dropLine, cache_setCache]

theorem not_mem_dropLine (s : State) (h : Nat) (x : Line) : x ∉ (cache (dropLine s h x.line) h).lines := by
  rw [dropLine, cache_setCache]
  simp

theorem shrunk_writeBack (s : State) (h : Nat) (x : Line) : Shrunk s (writeBack s h x).1 h := by
  rw [show Shrunk s (writeBack s h x).1 h ↔ Shrunk s s h from
    ⟨fun _ => .refl s h, fun _ => ⟨by rw [cache_congr (writeBack_caches s h x)]; exact fun _ k => k,
      by rw [cache_congr (writeBack_caches s h x)]⟩⟩]
  exact .refl s h

theorem shrunk_retireLine (s : State) (h : Nat) (x : Line) : Shrunk s (retireLine s h x) h := by
  unfold retireLine
  split
  · exact (shrunk_writeBack s h x).trans (shrunk_dropLine _ _ _)
  · exact shrunk_dropLine _ _ _

/-- Every line of a list leaves. -/
theorem shrunk_foldl {h : Nat} {f : State → Line → State} (hf : ∀ s x, Shrunk s (f s x) h)
    (hd : ∀ s x, x ∉ (cache (f s x) h).lines) (xs : List Line) :
    ∀ s, Shrunk s (xs.foldl f s) h ∧ ∀ x ∈ xs, x ∉ (cache (xs.foldl f s) h).lines := by
  induction xs with
  | nil => exact fun s => ⟨.refl s h, by simp⟩
  | cons y ys ih =>
    intro s
    obtain ⟨k, gone⟩ := ih (f s y)
    refine ⟨(hf s y).trans k, fun x hx => ?_⟩
    rcases List.mem_cons.1 hx with rfl | hx
    · exact fun e => hd s x (k.lines e)
    · exact gone x hx

theorem walkWays_leaves (s : State) (h off on_ pos : Nat) : Shrunk s (walkWays s h off on_ pos) h
    ∧ ∀ x ∈ (cache (walkWays s h off on_ pos) h).lines, x.line % 32768 = pos → bit off x.way = false ∧ bit on_ x.way = false := by
  unfold walkWays
  dsimp only
  generalize hmine : (cache s h).lines.filter (fun x => x.line % 32768 == pos) = mine
  obtain ⟨k, gone⟩ := shrunk_foldl (f := fun s x => retireLine s h x) (fun s x => shrunk_retireLine s h x)
    (fun s x => not_mem_dropLine _ h x) (mine.filter fun x => bit off x.way) s
  generalize (mine.filter fun x => bit off x.way).foldl (fun s x => retireLine s h x) s = t at k gone ⊢
  obtain ⟨l, left⟩ := shrunk_foldl (f := fun s x => dropLine s h x.line) (fun s x => shrunk_dropLine s h x.line)
    (fun s x => not_mem_dropLine s h x) (mine.filter fun x => bit on_ x.way) t
  refine ⟨k.trans l, fun x hx hp => ?_⟩
  have hm : x ∈ mine := by
    rw [← hmine]
    exact List.mem_filter.2 ⟨k.lines (l.lines hx), by simpa using hp⟩
  exact ⟨Bool.eq_false_iff.2 fun e => gone x (List.mem_filter.2 ⟨hm, e⟩) (l.lines hx),
    Bool.eq_false_iff.2 fun e => left x (List.mem_filter.2 ⟨hm, e⟩) hx⟩

theorem cache_setWalk (s : State) (h : Nat) (w : Walk) (by' : Option Walk) :
    cache (setWalk s h w by') h = { cache s h with walks := replaceWalk w by' (cache s h).walks } := cache_setCache _ _ _

theorem replaceWalk_one (w : Walk) (by' : Option Walk) : replaceWalk w by' [w] = by'.toList := by simp [replaceWalk]

theorem wayWalkStep_completes {h : Fin 16} {off on' pos : Nat} {s : State} (hw : (cache s h).walks = [.ways off on' pos]) :
    Completes (.wayWalkStep h) s fun t =>
      (cache t h).walks = (if pos + 1 < 32768 then [.ways off on' (pos + 1)] else [])
        ∧ ∀ x ∈ (cache t h).lines, x.line % 32768 = pos → bit off x.way = false ∧ bit on' x.way = false := by
  have hx : exec (.wayWalkStep h) s = .next (setWalk (walkWays s h off on' pos) h (.ways off on' pos)
      (if pos + 1 < 32768 then some (.ways off on' (pos + 1)) else none)) := by
    change execWayWalkStep h s = _
    simp only [execWayWalkStep, hw]
    rfl
  refine ⟨_, hx, ?_⟩
  obtain ⟨k, gone⟩ := walkWays_leaves s h off on' pos
  rw [cache_setWalk, k.walks, hw, replaceWalk_one]
  refine ⟨?_, gone⟩
  split <;> rfl

/-- A flush leaves the walks of its cache and the slots of every stairwell. -/
structure Flushed (s t : State) (h : Nat) : Prop where
  walks : (cache t h).walks = (cache s h).walks
  slots : ∀ j, (stair t j).slots = (stair s j).slots

theorem Flushed.refl (s : State) (h : Nat) : Flushed s s h := ⟨rfl, fun _ => rfl⟩

theorem Flushed.trans {s t u : State} {h : Nat} (k : Flushed s t h) (l : Flushed t u h) : Flushed s u h :=
  ⟨l.walks.trans k.walks, fun j => (l.slots j).trans (k.slots j)⟩

theorem woken_memWritePoison (s : State) (who : Requester) (a n v : Nat) (poison : Bool) (j : Nat) :
    Woken (stair s j) (stair (memWritePoison s who a n v poison).1 j) := by
  have e := writeSectors_stairs who poison a (a + n) (ceilDiv (a + n - a / 32 * 32) 32) v s
  unfold memWritePoison
  split
  · next heq =>
    rw [heq] at e
    rw [← stair_congr e j, ← stair_congr (scFault_stairs _ _ _ _ _) j]
    exact woken_wakeWaiters _ _ _ _
  · next heq =>
    rw [heq] at e
    rw [← stair_congr e j]
    exact woken_wakeWaiters _ _ _ _

theorem Woken.slots {w x : Stairwell} (h : Woken w x) : x.slots = w.slots := by obtain ⟨b, rfl⟩ := h; rfl

theorem flushed_writeBack (s : State) (h : Nat) (x : Line) : Flushed s (writeBack s h x).1 h := by
  refine ⟨by rw [cache_congr (writeBack_caches s h x)], fun j => ?_⟩
  unfold writeBack
  dsimp only
  refine (congrArg Stairwell.slots (stair_congr (hcSees_keeps (closed_stairs _ _ (by decide)) _ h .self true _ rfl) j)).trans ?_
  exact (woken_memWritePoison _ _ _ _ _ _ j).slots

theorem flushed_dropLine (s : State) (h n : Nat) : Flushed s (dropLine s h n) h := ⟨(shrunk_dropLine s h n).walks, fun _ => rfl⟩

theorem flushed_setLines (s : State) (h : Nat) (l : List Line) : Flushed s (setCache s h { cache s h with lines := l }) h :=
  ⟨by rw [cache_setCache], fun _ => rfl⟩

theorem flushed_flushLine (s : State) (h mode : Nat) (x : Line) : Flushed s (flushLine s h mode x).1 h := by
  have counted (u : State) : Flushed u (bump u (hcPage h) Reg.hc.FLUSH_LINES) h := ⟨rfl, fun _ => rfl⟩
  unfold flushLine
  dsimp only
  split
  · have back := flushed_writeBack s h x
    split
    · next e => rw [e] at back; exact back
    · next e =>
      rw [e] at back
      split
      · exact (back.trans (counted _)).trans (flushed_setLines _ _ _)
      · exact (back.trans (counted _)).trans (flushed_dropLine _ _ _)
  split
  · exact .refl s h
  · exact (counted s).trans (flushed_dropLine _ _ _)

theorem flushed_flushLines (h mode : Nat) (xs : List Line) : ∀ s, Flushed s (flushLines h mode xs s).1 h := by
  induction xs with
  | nil => exact fun s => .refl s h
  | cons x xs ih =>
    intro s
    have first := flushed_flushLine s h mode x
    rw [flushLines]
    split
    · next e => rw [e] at first; exact first
    · next e => rw [e] at first; exact first.trans (ih _)

section
variable {h : Fin 16} {sw slot mode first pos : Nat} {lines : Option Nat} {s u : State}
  (hw : (cache s h).walks = [.flush sw slot mode first lines pos])
  (hf : flushLines h mode (walkLines s h first lines pos) s = (u, true))
include hw hf

theorem exec_flushWalkStep : exec (.flushWalkStep h) s
    = if pos + 1 < walkEnd lines then
        .next (setWalk u h (.flush sw slot mode first lines pos) (some (.flush sw slot mode first lines (pos + 1))))
      else .next (hallFlushed (setWalk u h (.flush sw slot mode first lines pos) none) h sw slot) := by
  change execFlushWalkStep h s = _
  simp only [execFlushWalkStep, hw, List.find?_cons_of_pos, hf]

theorem walks_setWalk (by' : Option Walk) :
    (cache (setWalk u h (.flush sw slot mode first lines pos) by') h).walks = by'.toList := by
  have k := flushed_flushLines h mode (walkLines s h first lines pos) s
  rw [hf] at k
  rw [cache_setWalk, k.walks, hw, replaceWalk_one]

theorem flushWalkStep_goesOn (hp : pos + 1 < walkEnd lines) : Completes (.flushWalkStep h) s fun t =>
    (cache t h).walks = [.flush sw slot mode first lines (pos + 1)] ∧ t.dram = u.dram :=
  ⟨_, (exec_flushWalkStep hw hf).trans (if_pos hp), walks_setWalk hw hf _, rfl⟩

theorem flushWalkStep_ends {e : Tracked} (hp : walkEnd lines ≤ pos + 1) (he : NatMap.get? (stair s sw).slots slot = some e)
    (hb : e.body = .flushing [h.val]) : Completes (.flushWalkStep h) s fun t =>
      (cache t h).walks = [] ∧ NatMap.get? (stair t sw).slots slot = some { e with body := .ended 0 0 0 } := by
  have k := flushed_flushLines h mode (walkLines s h first lines pos) s
  rw [hf] at k
  have he' : NatMap.get? (stair (setWalk u h (.flush sw slot mode first lines pos) none) sw).slots slot = some e := by
    rw [← he, ← k.slots sw]
    rfl
  have hend : hallFlushed (setWalk u h (.flush sw slot mode first lines pos) none) h sw slot
      = setBody (setWalk u h (.flush sw slot mode first lines pos) none) sw slot (.ended 0 0 0) := by
    unfold hallFlushed
    rw [he']
    simp [hb, endEntry_eq]
  refine ⟨_, by rw [exec_flushWalkStep hw hf, if_neg (Nat.not_lt.2 hp)], ?_⟩
  rw [hend]
  refine ⟨?_, slot_setBody he' _⟩
  rw [setBody_held he']
  exact walks_setWalk hw hf none

end

/-- Settles O20, command by command. -/
theorem hallCacheCompletes : Obligations.HallCacheCompletes := by
  unfold Obligations.HallCacheCompletes
  refine ⟨fun h user addr len x s hr hl hw ha => hall_hit hr hl ha hw,
    fun h user addr len v x s hr hl hw ha => hall_writeHit hr hl ha hw, fun h user addr len w s hr hl ha => hall_waits hr hl ha,
    fun h user addr len fl tag x s hr hl hw ha => hall_corrected hr hl ha hw,
    fun h user addr len fl tag x s hr hl ha => hall_ueClean hr hl ha,
    fun h user addr len fl tag x s hr hl hw ha => hall_ueDirty hr hl ha hw,
    fun h g user w addr len x j s hr hl hw ha hx hp hu hj => ⟨_, exec_hallPoisoned hr hl ha hw hx hp, workEnded_endRequester hu ?_ _ _⟩,
    fun h addr len x k s hr hl hw ha hx hp hk => ⟨_, exec_hallPoisoned hr hl ha hw hx hp, dresserEnds ?_ _ _⟩,
    fun h user addr len w u s hr => ⟨⟨s, if_pos (.inl (by rw [hr]; rfl)), rfl⟩, s, ?_, rfl⟩,
    fun h m rest s => hallFill_completes, fun h v s => wayDisable_completes, fun h v s => wayDisable_walking,
    fun h off on' pos s => wayWalkStep_completes, fun h sw slot mode first pos lines s u => flushWalkStep_goesOn,
    fun h sw slot mode first pos lines e s u hw hf => flushWalkStep_ends hw hf⟩
  · rw [gal, hitFault_galleries]
    exact hj
  · rw [hitFault_dressers]
    exact hk
  · change execHallCacheFill h s = _
    unfold execHallCacheFill
    dsimp only
    split
    · rfl
    · rw [hr]; rfl

end Sys2Proof.Machine

/-! SUPPORT and settlement of O19: an access to a gallery memory, what its check finds and what held it back, ACT_SPLIT, the local
operations, the readback window and a row moved to a spare (R237 to R250). -/

namespace Sys2Proof.Machine

set_option Elab.async false -- each thread's stack counts against the check's memory limit

/-! ### Words (R236) -/

/-- The word of a map at a key. -/
def wordAt (mem : NatMap Word) (k : Nat) : Nat := ((NatMap.get? mem k).getD 0).toNat

theorem getWord_eq (x : Gallery) (m w : Nat) : getWord x m w = wordAt x.mem (memKey m w) := rfl

theorem memKey_add (m w i : Nat) : memKey m (w + i) = memKey m w + i := by unfold memKey; omega

theorem getWord_lt (x : Gallery) (m w : Nat) : getWord x m w < 2 ^ 32 := BitVec.isLt _

theorem wordAt_putWord (mem : NatMap Word) (k v i : Nat) : wordAt (putWord mem k v) i = if i = k then v % 2 ^ 32 else wordAt mem i := by
  unfold wordAt putWord
  by_cases hv : v % 2 ^ 32 = 0
  · rw [if_pos hv, NatMap.get?_del]
    split
    · rw [hv]; rfl
    · rfl
  · rw [if_neg hv, NatMap.get?_set]
    split <;> rfl

theorem wordAt_putWordsAt (n : Nat) : ∀ (mem : NatMap Word) (k v i : Nat), wordAt (putWordsAt mem k n v) i
    = if k ≤ i ∧ i < k + n then v / 2 ^ (32 * (i - k)) % 2 ^ 32 else wordAt mem i := by
  induction n with
  | zero => intro mem k v i; rw [putWordsAt, if_neg (by omega)]
  | succ n ih =>
    intro mem k v i
    rw [putWordsAt, ih, wordAt_putWord]
    by_cases e : i = k
    · subst e
      rw [if_neg (by omega), if_pos rfl, if_pos (by omega), Nat.sub_self, Nat.mul_zero, pow_zero, Nat.div_one]
    · by_cases hi : k ≤ i ∧ i < k + (n + 1)
      · rw [if_pos (by omega), if_pos hi, Nat.div_div_eq_div_mul, ← pow_add, show 32 + 32 * (i - (k + 1)) = 32 * (i - k) by omega]
      · rw [if_neg (by omega), if_neg e, if_neg hi]

/-- A word of those written is a digit of their image. -/
theorem getWord_putWords (x : Gallery) (m w v : Nat) {n i : Nat} (hi : i < n) :
    getWord (putWords x m w n v) m (w + i) = v / 2 ^ (32 * i) % 2 ^ 32 := by
  rw [getWord_eq, putWords, wordAt_putWordsAt, memKey_add, if_pos (by omega), Nat.add_sub_cancel_left]

theorem getWord_putWords_beside (x : Gallery) {m w n u k : Nat} (v c : Nat)
    (h : memKey u k < memKey m w ∨ memKey m w + c ≤ memKey u k) (hn : n ≤ c) :
    getWord (putWords x m w n v) u k = getWord x u k := by
  rw [getWord_eq, putWords, wordAt_putWordsAt, if_neg (by omega)]
  rfl

/-- A digit of an image is its word. -/
theorem getWords_digit (x : Gallery) (m : Nat) (n : Nat) : ∀ w i, i < n →
    getWords x m w n / 2 ^ (32 * i) % 2 ^ 32 = getWord x m (w + i) := by
  induction n with
  | zero => intro w i h; omega
  | succ n ih =>
    intro w i h
    have hl := getWord_lt x m w
    rw [getWords]
    cases i with
    | zero => rw [Nat.mul_zero, pow_zero, Nat.div_one, Nat.add_mul_mod_self_left, Nat.mod_eq_of_lt hl]; rfl
    | succ i =>
      rw [show 32 * (i + 1) = 32 + 32 * i by omega, pow_add, ← Nat.div_div_eq_div_mul, Nat.add_mul_div_left _ _ (by decide),
        Nat.div_eq_of_lt hl, Nat.zero_add, ih _ _ (by omega), show w + 1 + i = w + (i + 1) by omega]

/-- Two words read back as written. -/
theorem getWords_putWords_two (x : Gallery) (m w : Nat) {v : Nat} (hv : v < 2 ^ 64) : getWords (putWords x m w 2 v) m w 2 = v := by
  have h0 := getWord_putWords x m w v (n := 2) (i := 0) (by decide)
  have h1 := getWord_putWords x m w v (n := 2) (i := 1) (by decide)
  rw [getWords, getWords, getWords, h1]
  rw [Nat.add_zero] at h0
  rw [h0]
  omega

theorem getWord_fillCourses (x : Gallery) (m first : Nat) {n i : Nat} (pattern : Nat) (hi : i < 128 * n) :
    getWord (fillCourses x m first n pattern) m (128 * first + i) = pattern % 2 ^ 32 := by
  have low : ∀ l : NatMap Word, ∀ lo k, lo ≤ k → NatMap.get? (l.filter fun e => decide (e.1 < lo)) k = none := by
    intro l lo k hk
    refine List.lookup_eq_none_iff.2 fun e he => ?_
    have := (List.mem_filter.1 he).2
    simp only [decide_eq_true_eq] at this
    simpa using (by omega : k ≠ e.1)
  have high : ∀ l : NatMap Word, ∀ hi k, k < hi → NatMap.get? (l.filter fun e => decide (hi ≤ e.1)) k = none := by
    intro l hi k hk
    refine List.lookup_eq_none_iff.2 fun e he => ?_
    have := (List.mem_filter.1 he).2
    simp only [decide_eq_true_eq] at this
    simpa using (by omega : k ≠ e.1)
  have filled : ∀ (w : Word) (lo N j : Nat), j < N →
      NatMap.get? ((List.range N).map fun i => (lo + i, w)) (lo + j) = some w := by
    intro w lo N j hj
    have hmem : (lo + j, w) ∈ (List.range N).map fun i => (lo + i, w) := List.mem_map.2 ⟨j, List.mem_range.2 hj, rfl⟩
    cases e : NatMap.get? ((List.range N).map fun i => (lo + i, w)) (lo + j) with
    | none => simpa using List.lookup_eq_none_iff.1 e _ hmem
    | some u =>
      obtain ⟨k, -, hk⟩ := List.mem_map.1 (lookup_mem e)
      rw [(Prod.mk.inj hk).2]
  rw [getWord_eq, memKey_add, fillCourses]
  unfold wordAt NatMap.get?
  dsimp only
  rw [List.lookup_append, List.lookup_append]
  have h1 := low x.mem (memKey m (128 * first)) (memKey m (128 * first) + i) (by omega)
  have h2 := high x.mem (memKey m (128 * first) + 128 * n) (memKey m (128 * first) + i) (by omega)
  unfold NatMap.get? at h1 h2
  rw [h1, h2]
  split
  · next hp => rw [hp]; rfl
  · have h3 := filled (BitVec.ofNat 32 pattern) (memKey m (128 * first)) (128 * n) i hi
    unfold NatMap.get? at h3
    rw [h3]
    rfl

/-! ### Registers of the gallery memories -/

/-- One silent field of the pages of the gallery memories, and every owner. -/
def StoreField (f : Fld) : Scope := ⟨fun q g => silent q g = true ∧ (∃ h k, q = memPage h k) ∧ g = f, fun _ => True⟩

theorem memPage_ne_hif (h g : Nat) : memPage h g ≠ .hif := by rintro ⟨⟩

theorem storeField (h g : Nat) {f : Fld} (hf : f.inPage = true) : (StoreField f).field (memPage h g) f :=
  ⟨by simp [silent, hf, memPage], ⟨h, g, rfl⟩, rfl⟩

theorem store_wr (s : State) (h g : Nat) {f c : Fld} (hf : f.inPage = true) (ho : f.off ≠ 0x018) (hc : c.off ≠ f.off) (v : Nat) :
    Onward (StoreField c) s (wr s (memPage h g) f v) :=
  onward_wr hf ho (.inl (memPage_ne_hif h g)) (fun _ _ (k : (StoreField c).field _ _) =>
    key_ne_of_off hf (inPage_of_silent k.1) (.inr (by rw [k.2.2]; exact hc))) s v

theorem store_setSticky {c : Fld} (hc : c.off ≠ 0x018) (s : State) (p : Page) (b : Nat) : Onward (StoreField c) s (setSticky s p b) :=
  onward_setSticky (fun _ _ (k : (StoreField c).field _ _) => ⟨k.1, .inr (by rw [k.2.2]; exact hc)⟩) s b

theorem store_report (c : Fld) (s : State) (p : Page) (code d : Nat) : Onward (StoreField c) s (report s p code d) :=
  (reported_report s p code d).mono fun _ _ k => ⟨k.1, by obtain ⟨_, _, rfl⟩ := k.2.1; rintro ⟨⟩⟩

section
variable {c : Fld} (hc : c.off ≠ 0x018)
include hc

theorem store_exhaustSpares (s : State) (h g : Nat) : Onward (StoreField c) s (exhaustSpares s h g) :=
  (store_setSticky hc s _ _).trans (onward_same rfl rfl rfl)

theorem store_queueRow (s : State) (h g row : Nat) : Onward (StoreField c) s (queueGalleryRow s h g row) := by
  have queued (x : Gallery) : Onward (StoreField c) s (setGal s h g x) := onward_same rfl rfl rfl
  unfold queueGalleryRow
  dsimp only
  exact .ite (.refl s) (.ite (onward_same rfl rfl rfl) ((queued _).trans (store_exhaustSpares hc _ h g)))

/-- A corrected error past its count. -/
theorem store_memCe (s : State) (h g m w : Nat) :
    Onward (StoreField c) (bump s (memPage h g) (ceCounter m)) (memCe s h g m w) := by
  have noted (u : State) (x : Gallery) : Onward (StoreField c) u (setGal u h g x) := onward_same rfl rfl rfl
  unfold memCe
  dsimp only
  exact ((store_setSticky hc _ _ _).trans (noted _ _)).trans (.ite (store_queueRow hc _ _ _ _) (.refl _))

/-- An uncorrectable error past its count. -/
theorem store_memUe (hl : [0x080, Reg.hdr.FAULT_CODE.off, Reg.hdr.FAULT_COUNT.off].contains c.off = false) (s : State) (h g m w : Nat) :
    Onward (StoreField c) (bump s (memPage h g) Reg.gm.UE_COUNT) (memUe s h g m w) := by
  simp only [List.contains_eq_mem, List.mem_cons, List.not_mem_nil, or_false, decide_eq_false_iff_not, not_or] at hl
  obtain ⟨hi, hf, hn⟩ := hl
  have latched (u : State) : Onward (StoreField c) u (if on u (memPage h g) Reg.gm.UE_INFO_VALID then u else
      bump (wr (wr (wr (wr (wr u (memPage h g) Reg.gm.UE_INFO_MEM m) (memPage h g) Reg.gm.UE_INFO_COURSE (w / 128)) (memPage h g)
        Reg.gm.UE_INFO_WORD (w % 128 / 2)) (memPage h g) Reg.gm.UE_INFO_VALID 1) (memPage h g) Reg.hdr.FAULT_CODE (0x80 + m))
        (memPage h g) Reg.hdr.FAULT_COUNT) :=
    have w {t : State} (k : Onward (StoreField c) u t) {f : Fld} (hf : f.inPage = true) (ho : f.off ≠ 0x018) (hc : c.off ≠ f.off)
      (v : Nat) := k.trans (store_wr t h g hf ho hc v)
    .ite (.refl u) (w (w (w (w (w (w (.refl u) (by decide) (by decide) hi _) (by decide) (by decide) hi _)
      (by decide) (by decide) hi _) (by decide) (by decide) hi _) (by decide) (by decide) hf _) (by decide) (by decide) hn _)
  unfold memUe
  dsimp only
  exact (((store_setSticky hc _ _ _).trans (latched _)).trans (store_report c _ _ _ _)).trans (store_queueRow hc _ _ _ _)

end

theorem ceCounter_off (m : Nat) : (ceCounter m).inPage = true ∧ (ceCounter m).off ≠ 0x018 ∧ (ceCounter m).off < 0x07C := by
  unfold ceCounter
  rcases m with _ | _ | _ | m <;> refine ⟨?_, ?_, ?_⟩ <;> simp [List.getD] <;> decide

theorem advanced_memCe (s : State) (h g m w : Nat) : Advanced s (memCe s h g m w) (memPage h g) (ceCounter m) := by
  obtain ⟨hf, ho, -⟩ := ceCounter_off m
  exact ((store_memCe ho s h g m w).fields _ _ (storeField h g hf)).trans (rd_bump _ _ _)

theorem sticky_memCe (s : State) (h g m w : Nat) : sticky (memCe s h g m w) (memPage h g) Sticky.gm.MEM_CE = true := by
  have noted (u : State) (x : Gallery) : Onward (StoreField Reg.gm.UE_COUNT) u (setGal u h g x) := onward_same rfl rfl rfl
  unfold memCe
  dsimp only
  exact ((noted _ _).trans (.ite (store_queueRow (by decide) _ _ _ _) (.refl _))).stickies _ _ (by decide)
    (sticky_setSticky _ _ _ (by decide))

theorem advanced_memUe (s : State) (h g m w : Nat) : Advanced s (memUe s h g m w) (memPage h g) Reg.gm.UE_COUNT :=
  ((store_memUe (by decide) (by decide) s h g m w).fields _ _ (storeField h g (by decide))).trans (rd_bump _ _ _)

theorem sticky_memUe (s : State) (h g m w : Nat) : sticky (memUe s h g m w) (memPage h g) Sticky.gm.MEM_UE = true := by
  have latched (u : State) (b : Bool) : Onward (StoreField Reg.gm.WIN_STATUS_UE) u (if b then u else
      bump (wr (wr (wr (wr (wr u (memPage h g) Reg.gm.UE_INFO_MEM m) (memPage h g) Reg.gm.UE_INFO_COURSE (w / 128)) (memPage h g)
        Reg.gm.UE_INFO_WORD (w % 128 / 2)) (memPage h g) Reg.gm.UE_INFO_VALID 1) (memPage h g) Reg.hdr.FAULT_CODE (0x80 + m))
        (memPage h g) Reg.hdr.FAULT_COUNT) :=
    have w {t : State} (k : Onward (StoreField Reg.gm.WIN_STATUS_UE) u t) {f : Fld} (hf : f.inPage = true) (ho : f.off ≠ 0x018)
      (hc : Reg.gm.WIN_STATUS_UE.off ≠ f.off) (v : Nat) := k.trans (store_wr t h g hf ho hc v)
    .ite (.refl u) (w (w (w (w (w (w (.refl u) (by decide) (by decide) (by decide) _) (by decide) (by decide) (by decide) _)
      (by decide) (by decide) (by decide) _) (by decide) (by decide) (by decide) _) (by decide) (by decide) (by decide) _)
      (by decide) (by decide) (by decide) _)
  unfold memUe
  dsimp only
  exact (((latched _ _).trans (store_report _ _ _ _ _)).trans (store_queueRow (by decide) _ _ _ _)).stickies _ _ (by decide)
    (sticky_setSticky _ _ _ (by decide))

/-! ### What the check leaves of a gallery -/

/-- The words of a gallery, their errors, its tickets and its groups. -/
def cells (x : Gallery) : NatMap Word × List Nat × List Ticket × List Group := (x.mem, x.broken, x.tickets, x.groups)

theorem gal_congr {s t : State} (e : t.galleries = s.galleries) (h g : Nat) : gal t h g = gal s h g := by rw [gal, gal, e]

theorem exhaustSpares_galleries (s : State) (h g : Nat) : (exhaustSpares s h g).galleries = s.galleries :=
  exhaustSpares_keeps (closed_galleries s.galleries _ (by decide)) s h g rfl

theorem cells_queueRow (s : State) (h g row : Nat) : cells (gal (queueGalleryRow s h g row) h g) = cells (gal s h g) := by
  unfold queueGalleryRow
  dsimp only
  split
  · rfl
  have queued : cells (gal (setGal s h g { gal s h g with rowQueue := (gal s h g).rowQueue ++ [row] }) h g) = cells (gal s h g) := by
    rw [gal_setGal]; rfl
  split
  · exact queued
  · rw [gal_congr (exhaustSpares_galleries _ _ _)]
    exact queued

theorem cells_memCe (s : State) (h g m w : Nat) : cells (gal (memCe s h g m w) h g) = cells (gal s h g) := by
  have e : gal (setSticky (bump s (memPage h g) (ceCounter m)) (memPage h g) Sticky.gm.MEM_CE) h g = gal s h g :=
    gal_congr (setSticky_galleries _ _ _) h g
  unfold memCe
  dsimp only
  rw [e]
  generalize setSticky (bump s (memPage h g) (ceCounter m)) (memPage h g) Sticky.gm.MEM_CE = u at e ⊢
  have noted (k : NatMap Nat) : cells (gal (setGal u h g { gal s h g with rowCe := k }) h g) = cells (gal s h g) := by
    rw [gal_setGal]; rfl
  split
  · exact (cells_queueRow _ _ _ _).trans (noted _)
  · exact noted _

theorem report_galleries (s : State) (p : Page) (code d : Nat) : (report s p code d).galleries = s.galleries :=
  report_keeps (closed_galleries s.galleries _ (by decide)) s p code d rfl

theorem cells_memUe (s : State) (h g m w : Nat) : cells (gal (memUe s h g m w) h g) = cells (gal s h g) := by
  unfold memUe
  dsimp only
  refine (cells_queueRow _ _ _ _).trans (congrArg cells (gal_congr ?_ h g))
  rw [report_galleries]
  split <;> exact setSticky_galleries _ _ _

theorem workJob_congr {x y : Gallery} (ht : y.tickets = x.tickets) (hg : y.groups = x.groups) (w : GalleryWork) :
    workJob y w = workJob x w := by
  cases w <;> simp only [workJob, ht, hg]

/-! ### The check of a word (R248, R249) -/

section
variable {s : State} {h g m u : Nat} {flips : List Nat}

theorem upsetWord_found (hm : m ≠ 3) (hl : flips.length ≤ correctable m) : upsetWord s h g m u flips
    = (s, if (brokenIn (gal s h g) m u (unitWords m)).isSome then .bad else if flips.isEmpty then .clean else .corrected) := by
  rw [upsetWord, if_neg hm, if_pos hl]

theorem upsetWord_broken (hm : m ≠ 3) (hl : flips.length = correctable m + 1) :
    upsetWord s h g m u flips = (breakWord (flipWord s h g m u flips) h g m u, .bad) := by
  rw [upsetWord, if_neg hm, if_neg (by omega), if_pos hl]

/-- Broken words change the words and errors of their gallery alone. -/
theorem broken_leaves (s : State) (h g m u : Nat) (flips : List Nat) :
    ∃ x : Gallery, breakWord (flipWord s h g m u flips) h g m u = setGal (flipWord s h g m u flips) h g x
      ∧ (breakWord (flipWord s h g m u flips) h g m u).regs = s.regs ∧ (breakWord (flipWord s h g m u flips) h g m u).fc = s.fc
      ∧ memKey m u ∈ x.broken ∧ x.tickets = (gal s h g).tickets ∧ x.groups = (gal s h g).groups := by
  unfold breakWord
  refine ⟨_, rfl, ?_⟩
  unfold flipWord
  split
  · exact ⟨rfl, rfl, List.mem_cons_self, rfl, rfl⟩
  · refine ⟨rfl, rfl, List.mem_cons_self, ?_, ?_⟩ <;>
    · unfold writeStore
      rw [gal_setGal]
      rfl

end

/-- A free outcome changes neither the registers nor what the stream carries. -/
theorem upsetWord_leaves (s : State) (h g m u : Nat) (flips : List Nat) :
    (upsetWord s h g m u flips).1.regs = s.regs ∧ (upsetWord s h g m u flips).1.hif = s.hif := by
  have flip : (flipWord s h g m u flips).regs = s.regs ∧ (flipWord s h g m u flips).hif = s.hif := by
    unfold flipWord; split <;> exact ⟨rfl, rfl⟩
  unfold upsetWord
  split
  · exact flip
  split
  · exact ⟨rfl, rfl⟩
  split
  · exact flip
  · dsimp only
    split <;> exact ⟨rfl, rfl⟩

theorem store_upsetWord (c : Fld) (s : State) (h g m u : Nat) (flips : List Nat) :
    Onward (StoreField c) s (upsetWord s h g m u flips).1 := by
  obtain ⟨hr, hh⟩ := upsetWord_leaves s h g m u flips
  exact onward_same hr (by rw [hh]) (by rw [hh]) (attended_of_hif hh)

/-- A read counts no conflict. -/
theorem store_accessRead {c : Fld} (hc : 0x100 ≤ c.off) (s : State) (h g m u : Nat) (flips : List Nat) (port : GPort) (w : GalleryWork) :
    Onward (StoreField c) s (accessRead s h g m u flips port w) := by
  have hs : c.off ≠ 0x018 := by omega
  have ue (t : State) : Onward (StoreField c) t (memUe t h g m u) :=
    (store_wr t h g (f := Reg.gm.UE_COUNT) (by decide) (by decide) (show c.off ≠ 0x07C by omega) _).trans (store_memUe hs
      (by simp only [List.contains_eq_mem, decide_eq_false_iff_not, List.mem_cons, List.not_mem_nil, or_false, Reg.hdr.FAULT_CODE,
        Reg.hdr.FAULT_COUNT]; omega) t h g m u)
  have worked (t : State) : Onward (StoreField c) t (match workJob (gal t h g) w with
      | some j => endJob t j.1 j.2 0x28
      | none => t) := by
    split
    · exact onward_endJob _ _ _ _
    · exact .refl t
  have found := store_upsetWord c s h g m u flips
  unfold accessRead
  split
  · next e => exact found.fst e
  · next t e =>
    obtain ⟨hf, ho, hl⟩ := ceCounter_off m
    exact (found.fst e).trans ((store_wr t h g hf ho (by omega) _).trans (store_memCe hs t h g m u))
  · next t e =>
    refine (found.fst e).trans ?_
    unfold accessUe
    split
    · exact .refl t
    · exact ue t
    · exact (ue t).trans (worked _)

/-- What an uncorrectable error leaves, whoever has found it: the words and their errors, and its count where it raises a fault. -/
structure UeSeen (s t : State) (h g : Nat) (port : GPort) : Prop where
  broken : (gal t h g).broken = (gal s h g).broken
  counted : port ≠ .window → Advanced s t (memPage h g) Reg.gm.UE_COUNT ∧ sticky t (memPage h g) Sticky.gm.MEM_UE = true

theorem ueSeen_memUe (s : State) (h g m u : Nat) (port : GPort) : UeSeen s (memUe s h g m u) h g port :=
  ⟨congrArg (·.2.1) (cells_memUe s h g m u), fun _ => ⟨advanced_memUe s h g m u, sticky_memUe s h g m u⟩⟩

theorem UeSeen.ended {s t : State} {h g : Nat} {port : GPort} (k : UeSeen s t h g port) (j : Nat × Nat) (status : Nat) :
    UeSeen s (endJob t j.1 j.2 status) h g port :=
  ⟨(sameStore_endJob t j.1 j.2 status h g).broken.trans k.broken, fun hp =>
    ⟨(rd_congr (endJob_regs _ _ _ _) _ _).trans (k.counted hp).1,
      (sticky_other (rd_congr (endJob_regs _ _ _ _) _ _) _).trans (k.counted hp).2⟩⟩

/-- A ticket's read ends the job of its work. -/
theorem accessUe_worked {port : GPort} (hw : port ≠ .window) (hl : port ≠ .localOp) (s : State) (h g m u : Nat) (w : GalleryWork) :
    accessUe s h g m u port w = match workJob (gal (memUe s h g m u) h g) w with
      | some j => endJob (memUe s h g m u) j.1 j.2 0x28
      | none => memUe s h g m u := by
  cases port with
  | window => exact absurd rfl hw
  | localOp => exact absurd rfl hl
  | _ => rfl

theorem ueSeen_accessUe (s : State) (h g m u : Nat) (port : GPort) (w : GalleryWork) :
    UeSeen s (accessUe s h g m u port w) h g port := by
  by_cases hw : port = .window
  · subst hw; exact ⟨rfl, fun e => absurd rfl e⟩
  by_cases hl : port = .localOp
  · subst hl; exact ueSeen_memUe _ _ _ _ _ _
  rw [accessUe_worked hw hl]
  split
  · exact (ueSeen_memUe _ _ _ _ _ _).ended _ _
  · exact ueSeen_memUe _ _ _ _ _ _

theorem workEnded_accessUe {port : GPort} (hw : port ≠ .window) (hl : port ≠ .localOp) {s : State} {h : Fin 16} {g : Fin 17}
    (m u : Nat) {w : GalleryWork} {j : Nat × Nat} (hj : workJob (gal s h g) w = some j) :
    WorkEnded (accessUe s h g m u port w) h g j := by
  have e := cells_memUe s h g m u
  have hm : workJob (gal (memUe s h g m u) h g) w = some j := by
    rw [workJob_congr (congrArg (·.2.2.1) e) (congrArg (·.2.2.2) e), hj]
  rw [accessUe_worked hw hl, hm]
  exact workEnded_endJob _ j 0x28 h g

/-! ### What held a request back (R238) -/

section
variable {m : GMem} {p q : GPort}

theorem heldBack_alone (k n : Nat) (later : List (List GPort)) : heldBack m p (n + 1) [(p, k)] later = 0 := by
  have e : nextServed m [(p, k)] = some (p, k) := by
    by_cases hk : 8 ≤ k <;> simp [nextServed, hk]
  rw [heldBack, e]
  exact if_pos rfl

/-- With two requests that no wait has made due, the bank serves the first in its order. -/
theorem nextServed_two {i j : Nat} (hi : i < 8) (hj : j < 8) :
    nextServed m [(p, i), (q, j)] = some (if portRank m p ≤ portRank m q then (p, i) else (q, j)) := by
  simp [nextServed, Nat.not_le.2 hi, Nat.not_le.2 hj, apply_ite some]

theorem nextServed_due {i j : Nat} (hi : i < 8) (hj : 8 ≤ j) : nextServed m [(p, i), (q, j)] = some (q, j) := by
  simp [nextServed, Nat.not_le.2 hi, hj]

variable (hpq : q ≠ p)
include hpq

/-- One request lost to another, with nothing else at its bank, counts one conflict. -/
theorem heldBack_lost {n i j : Nat} (hs : nextServed m [(p, i), (q, j)] = some (q, j)) :
    heldBack m p (n + 2) [(p, i), (q, j)] [] = 1 := by
  have hne : ((p, i) != (q, j)) = true := by simp [Ne.symm hpq]
  rw [heldBack, hs]
  dsimp only
  rw [if_neg hpq]
  simp [List.filter, hne, countsFor, joining, heldBack_alone]

theorem heldBack_one (lost : Nat) : heldBack m p 16 [(p, 0), (q, lost)] []
    = if 8 ≤ lost ∨ portRank m q < portRank m p then 1 else 0 := by
  by_cases h8 : 8 ≤ lost
  · rw [if_pos (.inl h8)]
    exact heldBack_lost hpq (nextServed_due (by decide) h8)
  · have hs := nextServed_two (m := m) (p := p) (q := q) (i := 0) (j := lost) (by decide) (by omega)
    by_cases hr : portRank m q < portRank m p
    · rw [if_pos (.inr hr)]
      exact heldBack_lost hpq (by rw [hs, if_neg (by omega)])
    · rw [if_neg (by omega), heldBack, hs, if_pos (by omega)]
      exact if_pos rfl

/-- A request that comes again in every handshake holds another back until the eighth loss. -/
theorem heldBack_again (hr : portRank m q < portRank m p) (d : Nat) : ∀ k n j, k + d = 8 → d < n → d ≤ j →
    heldBack m p n [(p, k), (q, 0)] (List.replicate j [q]) = d := by
  induction d with
  | zero =>
    intro k n j hk hn _
    obtain ⟨n, rfl⟩ : ∃ i, n = i + 1 := ⟨n - 1, by omega⟩
    obtain rfl : k = 8 := by omega
    have e : nextServed m [(p, 8), (q, 0)] = some (p, 8) := by simp [nextServed]
    rw [heldBack, e]
    exact if_pos rfl
  | succ d ih =>
    intro k n j hk hn hj
    obtain ⟨n, rfl⟩ : ∃ i, n = i + 1 := ⟨n - 1, by omega⟩
    obtain ⟨j, rfl⟩ : ∃ i, j = i + 1 := ⟨j - 1, by omega⟩
    have e : nextServed m [(p, k), (q, 0)] = some (q, 0) := by
      rw [nextServed_two (by omega) (by decide), if_neg (by omega)]
    have hne : ((p, k) != (q, 0)) = true := by simp [Ne.symm hpq]
    have rest := ih (k + 1) n j (by omega) (by omega) (by omega)
    rw [heldBack, e]
    dsimp only
    rw [if_neg hpq]
    simp [List.filter, hne, countsFor, joining, List.replicate_succ, show [q].eraseDups = [q] from rfl, Ne.symm hpq, rest, Nat.add_comm]

end

/-- Of three requests the one that the bank serves neither first nor second counts the handshake in which it alone stays. -/
theorem heldBack_two {m : GMem} {p q r : GPort} (hqr : portRank m q < portRank m r) (hqp : portRank m q < portRank m p)
    (hrp : portRank m r ≠ portRank m p) : heldBack m p 16 [(p, 0), (q, 0), (r, 0)] [] = 1 := by
  have npq : q ≠ p := by rintro rfl; omega
  have nrp : r ≠ p := by rintro rfl; omega
  have nqr : q ≠ r := by rintro rfl; omega
  have first : nextServed m [(p, 0), (q, 0), (r, 0)] = some (q, 0) := by
    simp [nextServed, Nat.not_le.2 hqp, hqr.le]
  have h1 : ((p, 0) != (q, 0)) = true := by simp [Ne.symm npq]
  have h2 : ((r, 0) != (q, 0)) = true := by simp [Ne.symm nqr]
  have second := nextServed_two (m := m) (p := p) (q := r) (i := 1) (j := 1) (by decide) (by decide)
  rw [heldBack, first]
  dsimp only
  rw [if_neg npq]
  by_cases hr : portRank m p ≤ portRank m r
  · have rest : heldBack m p 15 [(p, 1), (r, 1)] [] = 0 := by
      rw [heldBack, second, if_pos hr]
      exact if_pos rfl
    simp [List.filter, h1, h2, countsFor, joining, hr, rest]
  · have rest : heldBack m p 15 [(p, 1), (r, 1)] [] = 1 := heldBack_lost nrp (by rw [second, if_neg hr])
    simp [List.filter, h1, h2, countsFor, joining, hr, rest]

/-! ### Accesses (R237) -/

section
variable {h : Fin 16} {g : Fin 17} {m : GMem} {word : Nat} {fl : List (Fin 144)} {c : BankContest} {s : State}

/-- The conflicts of an access counted. -/
def contested (s : State) (h g : Nat) (m : GMem) (word : Nat) (c : BankContest) : State :=
  match pairCounter (gmemNum m) word with
  | some f => count s (memPage h g) f (conflicts m c)
  | none => s

theorem gal_contested (s : State) (h g : Nat) (m : GMem) (word : Nat) (c : BankContest) (a b : Nat) :
    gal (contested s h g m word c) a b = gal s a b := by
  unfold contested; split <;> rfl

theorem contested_fc (s : State) (h g : Nat) (m : GMem) (word : Nat) (c : BankContest) : (contested s h g m word c).fc = s.fc := by
  unfold contested; split <;> rfl

theorem pairCounter_off {n word : Nat} {f : Fld} (h : pairCounter n word = some f) : f.inPage = true ∧ 0x100 ≤ f.off := by
  have page {o : Nat} (ho : o < 0x1000) : (⟨o, 0, 32, 0⟩ : Fld).inPage = true := by simp [Fld.inPage, ho]
  unfold pairCounter at h
  split at h
  · cases h; exact ⟨page (by omega), by simp only [Reg.gm.AS_PAIR]; omega⟩
  · cases h; exact ⟨page (by omega), by simp only [Reg.gm.ACT_PAIR]; omega⟩
  · cases h; exact ⟨page (by omega), by simp only [Reg.gm.LAND_PAIR]; omega⟩
  · cases h

/-- The conflict counters stand apart from the other registers of their page. -/
theorem rd_contested (s : State) (h g : Nat) (m : GMem) (word : Nat) (c : BankContest) {f : Fld} (hf : f.inPage = true)
    (ho : f.off < 0x100) : rd (contested s h g m word c) (memPage h g) f = rd s (memPage h g) f := by
  unfold contested
  split
  · next e =>
    obtain ⟨hp, hge⟩ := pairCounter_off e
    exact rd_wr_field hp hf (.inl (by omega)) _ _ _
  · rfl

variable (hw : word < memWords (gmemNum m))
include hw

theorem exec_memoryWrite (v : BitVec 64) : exec (.galleryMemoryAccess h g m word (some v) fl c) s
    = .next (writeStore (contested s h g m word c) h g (gmemNum m) (2 * word) 2 v.toNat) := if_pos hw

theorem exec_memoryRead : exec (.galleryMemoryAccess h g m word none fl c) s = .next (accessRead (contested s h g m word c) h g
    (gmemNum m) (unitOf (gmemNum m) word) (flipList (gmemNum m) fl) c.port c.work) := if_pos hw

/-- What an access counts of its conflicts. -/
theorem access_counts {f : Fld} (hf : pairCounter (gmemNum m) word = some f) (write : Option (BitVec 64)) :
    Completes (.galleryMemoryAccess h g m word write fl c) s fun t =>
      rd t (memPage h g) f = min (rd s (memPage h g) f + conflicts m c) (2 ^ f.width - 1) := by
  obtain ⟨hp, hge⟩ := pairCounter_off hf
  have counted : rd (contested s h g m word c) (memPage h g) f = min (rd s (memPage h g) f + conflicts m c) (2 ^ f.width - 1) := by
    unfold contested
    rw [hf]
    exact rd_count _ _ _ _
  cases write with
  | some v => exact ⟨_, exec_memoryWrite hw v, counted⟩
  | none => exact ⟨_, exec_memoryRead hw, ((store_accessRead hge _ _ _ _ _ _ _ _).fields _ _ (storeField h g hp)).trans counted⟩

theorem access_writes (v : BitVec 64) : Completes (.galleryMemoryAccess h g m word (some v) fl c) s fun t =>
    getWords (gal t h g) (gmemNum m) (2 * word) 2 = v.toNat
      ∧ ∀ n w, memKey n w ≠ memKey (gmemNum m) (2 * word) → memKey n w ≠ memKey (gmemNum m) (2 * word) + 1 →
          getWord (gal t h g) n w = getWord (gal s h g) n w := by
  refine ⟨_, exec_memoryWrite hw v, ?_⟩
  unfold writeStore
  beta_reduce
  rw [gal_setGal, gal_contested]
  exact ⟨getWords_putWords_two _ _ _ v.isLt, fun n w h0 h1 => getWord_putWords_beside _ _ 2 (by omega) le_rfl⟩

theorem access_corrects (hm : gmemNum m ≠ 3) (h1 : 1 ≤ (flipList (gmemNum m) fl).length)
    (h2 : (flipList (gmemNum m) fl).length ≤ correctable (gmemNum m))
    (hb : brokenIn (gal s h g) (gmemNum m) (unitOf (gmemNum m) word) (unitWords (gmemNum m)) = none) :
    Completes (.galleryMemoryAccess h g m word none fl c) s fun t =>
      Advanced s t (memPage h g) (ceCounter (gmemNum m)) ∧ sticky t (memPage h g) Sticky.gm.MEM_CE = true
        ∧ (gal t h g).mem = (gal s h g).mem := by
  have hne : (flipList (gmemNum m) fl).isEmpty = false := List.isEmpty_eq_false_iff.2 (List.length_pos_iff.1 h1)
  refine ⟨_, exec_memoryRead hw, ?_⟩
  rw [accessRead, upsetWord_found hm h2, gal_contested, hb, hne]
  simp only [Option.isSome_none, Bool.false_eq_true, if_false]
  obtain ⟨hf, -, hl⟩ := ceCounter_off (gmemNum m)
  refine ⟨?_, sticky_memCe _ _ _ _ _, ?_⟩
  · have e := advanced_memCe (contested s h g m word c) h g (gmemNum m) (unitOf (gmemNum m) word)
    rw [Advanced, rd_contested s h g m word c hf (by omega)] at e
    exact e
  · exact (congrArg Prod.fst (cells_memCe _ _ _ _ _)).trans (congrArg Gallery.mem (gal_contested _ _ _ _ _ _ _ _))

/-- An uncorrectable error as its requester sees it. -/
theorem access_fails (hm : gmemNum m ≠ 3) (hl : (flipList (gmemNum m) fl).length = correctable (gmemNum m) + 1) :
    Completes (.galleryMemoryAccess h g m word none fl c) s fun t =>
      memKey (gmemNum m) (unitOf (gmemNum m) word) ∈ (gal t h g).broken
        ∧ (c.port = .window →
          rd t (memPage h g) Reg.gm.UE_COUNT = rd s (memPage h g) Reg.gm.UE_COUNT ∧ t.fc = s.fc)
        ∧ (c.port ≠ .window →
          Advanced s t (memPage h g) Reg.gm.UE_COUNT ∧ sticky t (memPage h g) Sticky.gm.MEM_UE = true)
        ∧ (c.port ≠ .window → c.port ≠ .localOp → ∀ j, workJob (gal s h g) c.work = some j → WorkEnded t h g j) := by
  refine ⟨_, exec_memoryRead hw, ?_⟩
  rw [accessRead, upsetWord_broken hm hl]
  dsimp only
  obtain ⟨x, hx, hr, hfc, hb, ht, hg⟩ := broken_leaves (contested s h g m word c) h g (gmemNum m) (unitOf (gmemNum m) word)
    (flipList (gmemNum m) fl)
  have hgal : gal (breakWord (flipWord (contested s h g m word c) h g (gmemNum m) (unitOf (gmemNum m) word) (flipList (gmemNum m) fl))
      h g (gmemNum m) (unitOf (gmemNum m) word)) h g = x := by rw [hx, gal_setGal]
  generalize breakWord (flipWord (contested s h g m word c) h g (gmemNum m) (unitOf (gmemNum m) word) (flipList (gmemNum m) fl))
    h g (gmemNum m) (unitOf (gmemNum m) word) = u at hr hfc hgal ⊢
  subst hgal
  rw [gal_contested] at ht hg
  have before : rd u (memPage h g) Reg.gm.UE_COUNT = rd s (memPage h g) Reg.gm.UE_COUNT :=
    (rd_congr hr _ _).trans (rd_contested s h g m word c (by decide) (by decide))
  have counted := (ueSeen_accessUe u h g (gmemNum m) (unitOf (gmemNum m) word) c.port c.work).counted
  refine ⟨(ueSeen_accessUe u h g _ _ c.port c.work).broken ▸ hb, fun hp => ?_, fun hp => ⟨(counted hp).1.trans (by rw [before]),
    (counted hp).2⟩, fun hp hq j hj => ?_⟩
  · rw [hp]
    exact ⟨before, hfc.trans (contested_fc _ _ _ _ _ _)⟩
  · exact workEnded_accessUe hp hq _ _ ((workJob_congr ht hg c.work).trans hj)

end

/-! ### ACT_SPLIT (R241) -/

theorem exec_actSplit {h : Fin 16} {g : Fin 17} {v : BitVec 32} {s : State} (hr : Reaches s .mainband (memPage h g) 0x040) :
    exec (.actSplitWrite h g v) s = .next (writeActSplit s h g v.toNat) := by
  change execActSplitWrite h g v s = _
  rw [execActSplitWrite, ifPermitted_of_reaches hr]

theorem bits_low (x n : Nat) : bits x 0 n = x % 2 ^ n := by rw [bits, Nat.shiftRight_zero]

section
variable {h : Fin 16} {g : Fin 17} {v : BitVec 32} {s : State} (hr : Reaches s .mainband (memPage h g) 0x040)
include hr

theorem actSplit_set (ho : opensToHost s h g = true) (hv : v.toNat % 2 ^ 11 ≤ 2040) : Completes (.actSplitWrite h g v) s fun t =>
    rd t (memPage h g) Reg.gm.CONV_COURSES = v.toNat % 2 ^ 11 ∧ (gal t h g).conversion = none
      ∧ (gal t h g).mem = (gal s h g).mem := by
  refine ⟨_, exec_actSplit hr, ?_⟩
  rw [writeActSplit, ho, bits_low, if_neg (by decide), if_neg (by omega)]
  refine ⟨(rd_wr _ _ _ _).trans (Nat.mod_mod _ _), ?_, ?_⟩
  · exact congrArg Gallery.conversion (gal_setGal _ _ _ _)
  · exact (congrArg Gallery.mem (gal_setGal s h g { gal s h g with streamHead := 0, conversion := none }) :)

theorem actSplit_rejected (ho : opensToHost s h g = true) (hv : 2040 < v.toNat % 2 ^ 11) : Completes (.actSplitWrite h g v) s fun t =>
    rd t (memPage h g) Reg.gm.CONV_COURSES = rd s (memPage h g) Reg.gm.CONV_COURSES
      ∧ sticky t (memPage h g) Sticky.gm.OP_REJECT = true ∧ t.galleries = s.galleries := by
  refine ⟨_, exec_actSplit hr, ?_⟩
  rw [writeActSplit, ho, bits_low, if_neg (by decide), if_pos hv]
  exact ⟨rd_setSticky_own (memPage_ne_hif h g) (by decide) _ _ (by decide), sticky_setSticky _ _ _ (by decide),
    setSticky_galleries _ _ _⟩

theorem actSplit_closed (ho : opensToHost s h g = false) : Completes (.actSplitWrite h g v) s fun t =>
    rd t (arrPage h g) Reg.hdr.STATE_ERR = 1 ∧ t.galleries = s.galleries
      ∧ rd t (memPage h g) Reg.gm.CONV_COURSES = rd s (memPage h g) Reg.gm.CONV_COURSES := by
  refine ⟨_, exec_actSplit hr, ?_⟩
  rw [writeActSplit, ho]
  exact ⟨rd_wr _ _ _ _, rfl, rd_wr_ne _ _ _ _ _ _ (key_ne_of_off (by decide) (by decide) (.inl (by rintro ⟨⟩)))⟩

end

/-! ### Local operations (R245, R246) -/

section
variable {h : Fin 16} {g : Fin 17} {m : BitVec 2} {s : State} (hr : Reaches s .mainband (memPage h g) 0x050)
  (hop : (gal s h g).op = none) (ho : opensToHost s h g = true)

/-- The local operation that the registers of a gallery's memories describe. -/
def namedOp (s : State) (h g m op : Nat) : MemOp :=
  { mem := m, op := op, src := rd s (memPage h g) Reg.gm.MEM_OP_RANGE_SRC, dst := rd s (memPage h g) Reg.gm.MEM_OP_RANGE_DST,
    courses := rd s (memPage h g) Reg.gm.MEM_OP_LEN, pattern := rd s (memPage h g) Reg.gm.MEM_OP_PATTERN }

/-- A local operation stands in its gallery, before its effect. -/
def begunOp (s : State) (h g m op : Nat) : State :=
  setGal (wr s (memPage h g) Reg.gm.MEM_OP_MEM m) h g { gal s h g with op := some (namedOp s h g m op), conversion := none }

include hop ho in
theorem startOp_legal {m op : Nat} (hl : opLegal m op (rd s (memPage h g) Reg.gm.MEM_OP_RANGE_SRC)
    (rd s (memPage h g) Reg.gm.MEM_OP_RANGE_DST) (rd s (memPage h g) Reg.gm.MEM_OP_LEN) = true) :
    startOp s h g m op = applyOp (begunOp s h g m op) h g (namedOp s h g m op) := by
  rw [startOp, hop, ho]
  dsimp only
  rw [if_neg (by decide), if_pos hl]
  rfl

include hr

theorem exec_memOpFill : exec (.memOpFill h g m) s = .next (startOp s h g m.toNat 1) := by
  change execMemOpFill h g m s = _
  rw [execMemOpFill, ifPermitted_of_reaches hr]

theorem exec_memOpCopy : exec (.memOpCopy h g m) s = .next (startOp s h g m.toNat 2) := by
  change execMemOpCopy h g m s = _
  rw [execMemOpCopy, ifPermitted_of_reaches hr]

include hop ho

theorem memOpFill_completes (hl : opLegal m.toNat 1 (rd s (memPage h g) Reg.gm.MEM_OP_RANGE_SRC)
    (rd s (memPage h g) Reg.gm.MEM_OP_RANGE_DST) (rd s (memPage h g) Reg.gm.MEM_OP_LEN) = true) :
    Completes (.memOpFill h g m) s fun t =>
      (gal t h g).op.isSome = true ∧ (gal t h g).conversion = none
        ∧ ∀ i < 128 * rd s (memPage h g) Reg.gm.MEM_OP_LEN,
            getWord (gal t h g) m.toNat (128 * rd s (memPage h g) Reg.gm.MEM_OP_RANGE_DST + i)
              = rd s (memPage h g) Reg.gm.MEM_OP_PATTERN % 2 ^ 32 := by
  refine ⟨_, exec_memOpFill hr, ?_⟩
  have e : startOp s h g m.toNat 1 = setGal (begunOp s h g m.toNat 1) h g
      (fillCourses { gal s h g with op := some (namedOp s h g m.toNat 1), conversion := none } m.toNat
        (rd s (memPage h g) Reg.gm.MEM_OP_RANGE_DST) (rd s (memPage h g) Reg.gm.MEM_OP_LEN)
        (rd s (memPage h g) Reg.gm.MEM_OP_PATTERN)) := by
    rw [startOp_legal hop ho hl, applyOp, show (namedOp s h g m.toNat 1).op = 1 from rfl, if_pos rfl]
    unfold begunOp
    rw [gal_setGal]
    rfl
  beta_reduce
  rw [e, gal_setGal]
  exact ⟨rfl, rfl, fun i hi => getWord_fillCourses _ _ _ _ hi⟩

theorem memOpCopy_completes (hl : opLegal m.toNat 2 (rd s (memPage h g) Reg.gm.MEM_OP_RANGE_SRC)
    (rd s (memPage h g) Reg.gm.MEM_OP_RANGE_DST) (rd s (memPage h g) Reg.gm.MEM_OP_LEN) = true) (hb : (gal s h g).broken = []) :
    Completes (.memOpCopy h g m) s fun t =>
      (gal t h g).op.isSome = true ∧ (gal t h g).conversion = none
        ∧ ∀ i < 128 * rd s (memPage h g) Reg.gm.MEM_OP_LEN,
            getWord (gal t h g) m.toNat (128 * rd s (memPage h g) Reg.gm.MEM_OP_RANGE_DST + i)
              = getWord (gal s h g) m.toNat (128 * rd s (memPage h g) Reg.gm.MEM_OP_RANGE_SRC + i) := by
  refine ⟨_, exec_memOpCopy hr, ?_⟩
  have hgal : gal (begunOp s h g m.toNat 2) h g
      = { gal s h g with op := some (namedOp s h g m.toNat 2), conversion := none } := gal_setGal _ _ _ _
  have found : findBroken (begunOp s h g m.toNat 2) h g m.toNat (128 * rd s (memPage h g) Reg.gm.MEM_OP_RANGE_SRC)
      (128 * rd s (memPage h g) Reg.gm.MEM_OP_LEN) = begunOp s h g m.toNat 2 := by
    rw [findBroken, hgal, hb]
    rfl
  have e : startOp s h g m.toNat 2 = writeStore (begunOp s h g m.toNat 2) h g m.toNat
      (128 * rd s (memPage h g) Reg.gm.MEM_OP_RANGE_DST) (128 * rd s (memPage h g) Reg.gm.MEM_OP_LEN)
      (getWords (gal (begunOp s h g m.toNat 2) h g) m.toNat (128 * rd s (memPage h g) Reg.gm.MEM_OP_RANGE_SRC)
        (128 * rd s (memPage h g) Reg.gm.MEM_OP_LEN)) := by
    rw [startOp_legal hop ho hl, applyOp, if_neg (show ¬(namedOp s h g m.toNat 2).op = 1 from (by decide : ¬2 = 1))]
    exact congrArg (fun t => writeStore t h g m.toNat (128 * rd s (memPage h g) Reg.gm.MEM_OP_RANGE_DST)
      (128 * rd s (memPage h g) Reg.gm.MEM_OP_LEN) (getWords (gal t h g) m.toNat (128 * rd s (memPage h g) Reg.gm.MEM_OP_RANGE_SRC)
        (128 * rd s (memPage h g) Reg.gm.MEM_OP_LEN))) found
  beta_reduce
  rw [e, writeStore, gal_setGal, hgal]
  refine ⟨rfl, rfl, fun i hi => ?_⟩
  rw [getWord_putWords _ _ _ _ hi, getWords_digit _ _ _ _ _ hi]
  rfl

end

theorem memOpDone_completes {h : Fin 16} {g : Fin 17} {s : State} (ho : (gal s h g).op.isSome = true) :
    Completes (.memOpDone h g) s fun t =>
      (gal t h g).op = none ∧ sticky t (memPage h g) Sticky.gm.MEMOP_DONE = true
        ∧ (gal t h g).mem = (gal s h g).mem := by
  refine ⟨setSticky (setGal s h g { gal s h g with op := none }) (memPage h g) Sticky.gm.MEMOP_DONE, if_pos ho, ?_⟩
  have e : gal (setSticky (setGal s h g { gal s h g with op := none }) (memPage h g) Sticky.gm.MEMOP_DONE) h g
      = { gal s h g with op := none } := (gal_congr (setSticky_galleries _ _ _) h g).trans (gal_setGal _ _ _ _)
  beta_reduce
  rw [e]
  exact ⟨rfl, sticky_setSticky _ _ _ (by decide), rfl⟩

/-! ### The readback window (R247) -/

section
variable {path : Path} {h : Fin 16} {g : Fin 17} {i : Fin 128} {fl : List (Fin 144)} {m w : Nat} {s : State}

/-- What a read of the window leaves, past the check of its word. -/
def windowRead (u : State) (h g : Nat) (f : Found) (path : Path) (m w : Nat) : State :=
  let t := wr (wr u (memPage h g) Reg.gm.WIN_STATUS_UE (decide (f = .bad)).toNat) (memPage h g) Reg.gm.WIN_STATUS_CE
    (decide (f = .corrected)).toNat
  returnRead t path (getWord (gal u h g) m w)

theorem rd_windowRead (u : State) (h g : Nat) (f : Found) (path : Path) (m w : Nat) (q : Page) (c : Fld) :
    rd (windowRead u h g f path m w) q c = rd (wr (wr u (memPage h g) Reg.gm.WIN_STATUS_UE (decide (f = .bad)).toNat)
      (memPage h g) Reg.gm.WIN_STATUS_CE (decide (f = .corrected)).toNat) q c := rfl

theorem windowRead_returns (u : State) (h g : Nat) (f : Found) (path : Path) (m w : Nat) :
    NatMap.get? (windowRead u h g f path m w).readWord (pathNum path) = some (getWord (gal u h g) m w)
      ∧ rd (windowRead u h g f path m w) (memPage h g) Reg.gm.WIN_STATUS_UE = (decide (f = .bad)).toNat
      ∧ rd (windowRead u h g f path m w) (memPage h g) Reg.gm.WIN_STATUS_CE = (decide (f = .corrected)).toNat := by
  refine ⟨?_, ?_, ?_⟩
  · refine (readWord_returnRead _ _ _).trans (congrArg some (Nat.mod_eq_of_lt ?_))
    exact getWord_lt _ _ _
  · rw [rd_windowRead, rd_wr_field (by decide) (by decide) (by decide), rd_wr]
    cases f <;> rfl
  · rw [rd_windowRead, rd_wr]
    cases f <;> rfl

theorem exec_winWordRead (hw : windowWord s h g i = some (m, w)) : exec (.winWordRead path h g ⟨i, fl⟩) s
    = .next ((fun r : State × Found => windowRead (if r.2 = .corrected then memCe r.1 h g m (w / unitWords m * unitWords m) else r.1)
      h g r.2 path m w) (upsetWord s h g m (w / unitWords m * unitWords m) (flipList m fl))) := by
  change execWinWordRead path h g ⟨i, fl⟩ s = _
  simp only [execWinWordRead, readWindow, hw]
  rfl

theorem winWordRead_whole (hw : windowWord s h g i = some (m, w)) : Completes (.winWordRead path h g ⟨i, []⟩) s fun t =>
    NatMap.get? t.readWord (pathNum path) = some (getWord (gal s h g) m w)
      ∧ rd t (memPage h g) Reg.gm.WIN_STATUS_UE
        = (m != 3 && (brokenIn (gal s h g) m (w / unitWords m * unitWords m) (unitWords m)).isSome).toNat
      ∧ rd t (memPage h g) Reg.gm.WIN_STATUS_CE = 0 ∧ ∀ a b, gal t a b = gal s a b := by
  refine ⟨_, exec_winWordRead hw, ?_⟩
  have found : upsetWord s h g m (w / unitWords m * unitWords m) (flipList m [])
      = (s, if m != 3 && (brokenIn (gal s h g) m (w / unitWords m * unitWords m) (unitWords m)).isSome then .bad else .clean) := by
    by_cases hm : m = 3
    · subst hm; rfl
    · rw [upsetWord_found hm (Nat.zero_le _)]
      simp [hm, flipList]
  rw [found]
  by_cases hb : (m != 3 && (brokenIn (gal s h g) m (w / unitWords m * unitWords m) (unitWords m)).isSome) = true
  · rw [hb]
    obtain ⟨read, ue, ce⟩ := windowRead_returns s h g .bad path m w
    exact ⟨read, ue, ce, fun _ _ => rfl⟩
  · rw [Bool.eq_false_iff.2 hb]
    obtain ⟨read, ue, ce⟩ := windowRead_returns s h g .clean path m w
    exact ⟨read, ue, ce, fun _ _ => rfl⟩

theorem winWordRead_corrected (hw : windowWord s h g i = some (m, w)) (hm : m ≠ 3) (h1 : 1 ≤ (flipList m fl).length)
    (h2 : (flipList m fl).length ≤ correctable m)
    (hb : brokenIn (gal s h g) m (w / unitWords m * unitWords m) (unitWords m) = none) :
    Completes (.winWordRead path h g ⟨i, fl⟩) s fun t =>
      NatMap.get? t.readWord (pathNum path) = some (getWord (gal s h g) m w)
        ∧ rd t (memPage h g) Reg.gm.WIN_STATUS_UE = 0 ∧ rd t (memPage h g) Reg.gm.WIN_STATUS_CE = 1
        ∧ Advanced s t (memPage h g) (ceCounter m) ∧ (gal t h g).mem = (gal s h g).mem := by
  have hne : (flipList m fl).isEmpty = false := List.isEmpty_eq_false_iff.2 (List.length_pos_iff.1 h1)
  have found : upsetWord s h g m (w / unitWords m * unitWords m) (flipList m fl) = (s, .corrected) := by
    rw [upsetWord_found hm h2, hb, hne]
    rfl
  refine ⟨_, exec_winWordRead hw, ?_⟩
  rw [found]
  dsimp only
  rw [if_pos rfl]
  have counted := advanced_memCe s h g m (w / unitWords m * unitWords m)
  have cell : (gal (memCe s h g m (w / unitWords m * unitWords m)) h g).mem = (gal s h g).mem := congrArg Prod.fst (cells_memCe _ _ _ _ _)
  generalize memCe s h g m (w / unitWords m * unitWords m) = u at counted cell ⊢
  obtain ⟨read, ue, ce⟩ := windowRead_returns u h g .corrected path m w
  obtain ⟨hf, ho, hlt⟩ := ceCounter_off m
  refine ⟨?_, ue, ce, ?_, cell⟩
  · rw [read, getWord, cell, getWord]
  · refine Eq.trans ?_ counted
    have apart : (ceCounter m).off ≠ 0x064 := by
      unfold ceCounter
      rcases m with _ | _ | _ | m <;> simp [List.getD] <;> decide
    rw [rd_windowRead, rd_wr_field (by decide) hf (.inl apart), rd_wr_field (by decide) hf (.inl apart)]

theorem winWordWrite_completes {v : BitVec 32} (hr : Reaches s .mainband (memPage h g) (0x800 + 4 * i)) (ho : opensToHost s h g = true)
    (hw : windowWord s h g i = some (m, w)) : Completes (.winWordWrite h g i v) s fun t =>
      getWord (gal t h g) m w = v.toNat ∧ (gal t h g).conversion = none ∧ t.regs = s.regs
        ∧ ∀ n u, memKey n u ≠ memKey m w → getWord (gal t h g) n u = getWord (gal s h g) n u := by
  have hx : exec (.winWordWrite h g i v) s
      = .next (setGal s h g { putWords (gal s h g) m w 1 v.toNat with conversion := none }) := by
    change execWinWordWrite h g i v s = _
    rw [execWinWordWrite, ifPermitted_of_reaches hr, writeWindow, ho]
    simp only [hw]
    rfl
  refine ⟨_, hx, ?_⟩
  beta_reduce
  rw [gal_setGal]
  refine ⟨?_, rfl, rfl, fun n u hne => ?_⟩
  · have e := getWord_putWords (gal s h g) m w v.toNat (n := 1) (i := 0) (by decide)
    rw [Nat.add_zero, Nat.mul_zero, pow_zero, Nat.div_one, Nat.mod_eq_of_lt v.isLt] at e
    exact e
  · exact getWord_putWords_beside (gal s h g) v.toNat 1 (by omega) le_rfl

end

/-! ### Row retirement (R250, R251) -/

/-- What a row's move settles of its gallery: the rows moved, those queued and what they have counted. -/
def rows (x : Gallery) : List Nat × List Nat × NatMap Nat := (x.rowSpared, x.rowQueue, x.rowCe)

theorem rows_retireRow (s : State) (h g row : Nat) : rows (gal (retireRow s h g row) h g) = rows (moveRow (gal s h g) row) := by
  have recorded : gal (recordRepair (setGal s h g (moveRow (gal s h g) row)) 3 h (rowEntry g row) 0 0) h g
      = moveRow (gal s h g) row :=
    (gal_congr (recordRepair_keeps (closed_galleries _ _ (by decide)) _ 3 h (rowEntry g row) 0 0 rfl) h g).trans (gal_setGal _ _ _ _)
  unfold retireRow
  dsimp only
  split
  · rw [gal_congr (exhaustSpares_galleries _ _ _), recorded]
  · rw [recorded]

theorem rows_resumeGallery (s : State) (h g : Nat) : rows (gal (resumeGallery s h g) h g) = rows (gal s h g) :=
  (congrArg rows (gal_setGal s h g { gal s h g with faulted := false }) :)

theorem rows_endRowRepair (s : State) (h g : Nat) : rows (gal (endRowRepair s h g) h g) = rows (gal s h g) := by
  unfold endRowRepair
  split
  · split
    · dsimp only
      split
      · exact rows_resumeGallery _ _ _
      · rfl
    · rfl
  · rfl

theorem rowRetire_completes {h : Fin 16} {g : Fin 17} {row : Nat} {s : State} (hm : mcRuns s = true) (hq : quiesced s h g = true)
    (hi : quiescent s h g = true) (ho : (gal s h g).op = none) (hf : (gal s h g).rowQueue.find? (spareFree (gal s h g)) = some row) :
    Completes (.galleryRowRetire h g) s fun t =>
      row ∈ (gal t h g).rowSpared ∧ row ∉ (gal t h g).rowQueue ∧ NatMap.get? (gal t h g).rowCe row = none := by
  have hx : exec (.galleryRowRetire h g) s = .next (endRowRepair (retireRow s h g row) h g) := by
    change execGalleryRowRetire h g s = _
    simp only [execGalleryRowRetire, hm, hq, hi, ho, hf]
    rfl
  refine ⟨_, hx, ?_⟩
  have e := (rows_endRowRepair (retireRow s h g row) h g).trans (rows_retireRow s h g row)
  beta_reduce
  rw [show (gal (endRowRepair (retireRow s h g row) h g) h g).rowSpared = row :: (gal s h g).rowSpared from congrArg Prod.fst e,
    show (gal (endRowRepair (retireRow s h g row) h g) h g).rowQueue = (gal s h g).rowQueue.filter (· != row) from congrArg (·.2.1) e,
    show (gal (endRowRepair (retireRow s h g row) h g) h g).rowCe = NatMap.del (gal s h g).rowCe row from congrArg (·.2.2) e]
  refine ⟨List.mem_cons_self, by simp, ?_⟩
  rw [NatMap.get?_del, if_pos rfl]

theorem gmemNum_ne {m : GMem} (h : m ≠ .skipMap) : gmemNum m ≠ 3 := by
  cases m with
  | skipMap => exact absurd rfl h
  | _ => decide

/-- Settles O19, command by command. -/
theorem galleryMemoriesComplete : Obligations.GalleryMemoriesComplete := by
  unfold Obligations.GalleryMemoriesComplete
  refine ⟨fun h g m word v fl c s hw => access_writes hw v, fun h g m word fl port q w lost c write s hw hc hq => ?_,
    fun h g m word fl port q r w c write s hw hc h1 h2 h3 => ?_, fun h g m word n fl port q w c write s hw hc hq hn => ?_,
    fun h g m word fl c es s hw hm he h1 h2 => ?_, fun h g m word fl c es s hw hm he hl => ?_,
    fun h g v s => actSplit_set, fun h g v s => actSplit_rejected, fun h g v s => actSplit_closed,
    fun h g m s => memOpFill_completes, fun h g m s => memOpCopy_completes, fun h g s => memOpDone_completes,
    fun path h g i m w s => winWordRead_whole, fun path h g i fl m w s => winWordRead_corrected,
    fun h g i v m w s => winWordWrite_completes, fun h g row s => rowRetire_completes⟩
  · obtain ⟨t, hx, counted⟩ := access_counts (fl := fl) (c := ⟨port, w, [(q, lost)], []⟩) (s := s) (h := h) (g := g) hw hc write
    have e : conflicts m ⟨port, w, [(q, lost)], []⟩ = _ := heldBack_one hq lost
    rw [e] at counted
    refine ⟨t, hx, fun ha => ?_, fun hl hr hs => ?_⟩
    · rw [if_pos ha] at counted
      exact counted
    · rw [if_neg (by omega), Nat.add_zero, Nat.min_eq_left (by omega)] at counted
      exact counted
  · obtain ⟨t, hx, counted⟩ := access_counts (fl := fl) (c := ⟨port, w, [(q, 0), (r, 0)], []⟩) (s := s) (h := h) (g := g) hw hc write
    have e : conflicts m ⟨port, w, [(q, 0), (r, 0)], []⟩ = 1 := heldBack_two h1 h2 h3
    rw [e] at counted
    exact ⟨t, hx, counted⟩
  · obtain ⟨t, hx, counted⟩ := access_counts (fl := fl) (c := ⟨port, w, [(q, 0)], List.replicate n [q]⟩) (s := s) (h := h) (g := g)
      hw hc write
    have e : conflicts m ⟨port, w, [(q, 0)], List.replicate n [q]⟩ = 8 :=
      heldBack_again (by rintro rfl; omega) hq 8 0 16 n rfl (by decide) hn
    rw [e] at counted
    exact ⟨t, hx, counted⟩
  · subst he
    exact access_corrects hw (gmemNum_ne hm) h1 h2
  · subst he
    exact access_fails hw (gmemNum_ne hm) hl

end Sys2Proof.Machine

/-! SUPPORT and settlement of O11 and O12: the dispatcher accepts and refuses jobs, grants tickets and sees units finish (R191 to
R204, R404). -/

namespace Sys2Proof.Machine

set_option Elab.async false -- each thread's stack counts against the check's memory limit

/-! ### Jobs and their slots -/

theorem rd_dispatcher_setSticky (s : State) (b : Nat) {f : Fld} (hf : f.inPage = true) (ho : f.off ≠ 0x018) :
    rd (setSticky s .dispatcher b) .dispatcher f = rd s .dispatcher f := rd_setSticky_own (by decide) hf _ _ ho

theorem closeJob_regs (s : State) (j : Job) (status : Nat) : (closeJob s j status).regs = s.regs :=
  closeJob_keeps (unwritten_regs s.regs _ (by decide)) s j status rfl

theorem findJob_congr {s t : State} (e : t.disp = s.disp) (sw slot : Nat) : findJob t sw slot = findJob s sw slot := by
  rw [findJob, findJob, e]

/-- A refused job is counted, latched and gone. -/
theorem refuseJob_leaves (s : State) (j : Job) (status : Nat) :
    Advanced s (refuseJob s j status) .dispatcher Reg.dsp.JOBS_REFUSED
      ∧ sticky (refuseJob s j status) .dispatcher Sticky.dsp.JOB_REFUSED = true
      ∧ findJob (refuseJob s j status) j.sw j.slot = none := by
  unfold refuseJob
  refine ⟨?_, ?_, findJob_closeJob _ _ _⟩
  · rw [Advanced, rd_congr (closeJob_regs _ _ _), rd_dispatcher_setSticky _ _ (by decide) (by decide), rd_bump]
  · rw [sticky_other (rd_congr (closeJob_regs _ _ _) _ _)]
    exact sticky_setSticky _ _ _ (by decide)

theorem rd_refuseJob (s : State) (j : Job) (status : Nat) {f : Fld} (hf : f.inPage = true) (ho : f.off ≠ 0x018)
    (hn : f.off ≠ Reg.dsp.JOBS_REFUSED.off) : rd (refuseJob s j status) .dispatcher f = rd s .dispatcher f := by
  rw [refuseJob, rd_congr (closeJob_regs _ _ _), rd_dispatcher_setSticky _ _ hf ho, rd_bump_field (by decide) hf (.inl hn)]

/-- The body of an entry whose job closes says how it has ended. -/
theorem body_closeJob {s : State} {j : Job} {e : Tracked} (he : NatMap.get? (stair s j.sw).slots j.slot = some e) (status : Nat) :
    (NatMap.get? (stair (closeJob s j status) j.sw).slots j.slot).map Tracked.body = some (.ended status j.flags j.done) := by
  unfold closeJob
  rw [endEntry_eq]
  have held (t : State) (ht : t.stairs = s.stairs) (b : Body) :
      (NatMap.get? (stair (setBody t j.sw j.slot b) j.sw).slots j.slot).map Tracked.body = some b := by
    rw [slot_setBody (e := e) (by rw [stair_congr ht]; exact he)]
    rfl
  exact held _ (by rfl) _

/-! ### Issue (R191, R192) -/

theorem body_mapped (l : NatMap Tracked) (slot : Nat) {d : Option Nat} {e : Nat × Tracked} (he : e ∈ l) (hs : e.1 = slot)
    (_ : e.2.body = .offered d) : ∃ k, NatMap.get? (l.map fun e => if e.1 = slot then (e.1, { e.2 with body := .issued }) else e) slot
      = some k := by
  induction l with
  | nil => cases he
  | cons x l ih =>
    rw [List.map_cons, show ∀ m : NatMap Tracked, ∀ y, NatMap.get? (y :: m) slot = if slot = y.1 then some y.2 else NatMap.get? m slot
      from fun m y => NatMap.get?_cons y.1 y.2 m slot]
    by_cases hx : x.1 = slot
    · rw [if_pos hx, if_pos hx.symm]
      exact ⟨_, rfl⟩
    · rw [if_neg hx, if_neg (Ne.symm hx)]
      rcases List.mem_cons.1 he with rfl | he
      · exact absurd hs hx
      · exact ih he

theorem offered_slot {w : Stairwell} {slot : Nat} {d : Option Nat} (h : offered w = some (slot, d)) :
    ∃ e ∈ w.slots, e.1 = slot ∧ e.2.body = .offered d := by
  obtain ⟨e, he, hb⟩ := List.exists_of_findSome?_eq_some h
  refine ⟨e, he, ?_⟩
  split at hb
  · next o ho => cases hb; exact ⟨rfl, ho⟩
  · cases hb

theorem nextOffer_offered {s : State} {sw slot : Nat} {d : Option Nat} (h : nextOffer s = some (sw, slot, d)) :
    offered (stair s sw) = some (slot, d) := by
  obtain ⟨i, -, hi⟩ := List.exists_of_findSome?_eq_some h
  obtain ⟨o, ho, e⟩ := Option.map_eq_some_iff.1 hi
  cases e
  exact ho

/-- The entry of an issued job stands in its slot. -/
theorem slot_markIssued {s : State} {sw slot : Nat} {d : Option Nat} (h : nextOffer s = some (sw, slot, d)) :
    ∃ k, NatMap.get? (stair (markIssued s sw slot) sw).slots slot = some k := by
  obtain ⟨e, he, hs, hb⟩ := offered_slot (nextOffer_offered h)
  unfold markIssued
  rw [stair_setStair]
  exact body_mapped _ _ he hs hb

/-- A job joins the dispatcher's. -/
def issued (s : State) (sw slot : Nat) (j : Job) : State :=
  let t := markIssued (bump s .dispatcher Reg.dsp.JOBS_ISSUED) sw slot
  { t with disp := { t.disp with lastSw := sw, jobs := t.disp.jobs ++ [j] } }

theorem rd_issued (s : State) (sw slot : Nat) (j : Job) (p : Page) (f : Fld) :
    rd (issued s sw slot j) p f = rd (bump s .dispatcher Reg.dsp.JOBS_ISSUED) p f := rfl

section
variable {sw slot : Nat} {s : State} (hw : s.mc.switching ≠ 2)
include hw

theorem jobIssue_reads {d : Nat} (ho : nextOffer s = some (sw, slot, some d)) (hb : (nextBlock (newJob sw slot d)).isSome = true) :
    Completes .jobIssue s fun t => Advanced s t .dispatcher Reg.dsp.JOBS_ISSUED ∧ t.disp.lastSw = sw
      ∧ t.disp.jobs = s.disp.jobs ++ [newJob sw slot d] := by
  have hn : (nextBlock (newJob sw slot d)).isNone = false := by rw [← Option.not_isSome, hb]; rfl
  have hx : exec .jobIssue s = .next (issued s sw slot (newJob sw slot d)) := by
    change execJobIssue s = _
    simp only [execJobIssue, ho, if_neg hw, Option.getD_some, Option.isNone_some, hn]
    rfl
  exact ⟨_, hx, rd_bump _ _ _, rfl, rfl⟩

theorem jobIssue_refused (ho : nextOffer s = some (sw, slot, none)) : Completes .jobIssue s fun t =>
    Advanced s t .dispatcher Reg.dsp.JOBS_ISSUED ∧ Advanced s t .dispatcher Reg.dsp.JOBS_REFUSED
      ∧ sticky t .dispatcher Sticky.dsp.JOB_REFUSED = true ∧ findJob t sw slot = none
      ∧ (NatMap.get? (stair t sw).slots slot).map Tracked.body = some (.ended 0x10 0 0) := by
  have hx : exec .jobIssue s = .next (refuseJob (issued s sw slot (newJob sw slot 0)) (newJob sw slot 0) 0x10) := by
    change execJobIssue s = _
    simp only [execJobIssue, ho, if_neg hw]
    rfl
  refine ⟨_, hx, ?_⟩
  obtain ⟨refused, latched, gone⟩ := refuseJob_leaves (issued s sw slot (newJob sw slot 0)) (newJob sw slot 0) 0x10
  refine ⟨?_, ?_, latched, gone, ?_⟩
  · rw [Advanced, rd_refuseJob _ _ _ (by decide) (by decide) (by decide), rd_issued, rd_bump]
  · rw [Advanced, rd_issued, rd_bump_field (by decide) (by decide) (by decide)] at refused
    exact refused
  · have hs : nextOffer (bump s .dispatcher Reg.dsp.JOBS_ISSUED) = some (sw, slot, none) := ho
    obtain ⟨k, hk⟩ := slot_markIssued hs
    refine body_closeJob (j := newJob sw slot 0) (e := k) ?_ 0x10
    rw [stair_congr (setSticky_stairs _ _ _)]
    exact hk

end

/-! ### Blocks (R404) -/

theorem keepBlock_at (j : Job) (which v : Nat) : (keepBlock j which v).sw = j.sw ∧ (keepBlock j which v).slot = j.slot := by
  unfold keepBlock; split <;> exact ⟨rfl, rfl⟩

theorem memRead_disp (s : State) (who : Requester) (a n : Nat) : (memRead s who a n).1.disp = s.disp :=
  memRead_keeps (closed_disp s.disp _ (by decide)) s who a n rfl

theorem findJob_checkJob {s : State} {sw slot : Nat} {j : Job} (hj : findJob s sw slot = some j) :
    (staticStatus j = none → findJob (checkJob s j) sw slot = some { j with stage := .extents })
      ∧ (staticStatus j ≠ none → findJob (checkJob s j) sw slot = none
        ∧ sticky (checkJob s j) .dispatcher Sticky.dsp.JOB_REFUSED = true) := by
  obtain ⟨rfl, rfl⟩ := findJob_at hj
  unfold checkJob
  split
  · next c e =>
    obtain ⟨-, latched, gone⟩ := refuseJob_leaves s j c
    exact ⟨fun h => absurd (e.symm.trans h) (by simp), fun _ => ⟨gone, latched⟩⟩
  · next e =>
    refine ⟨fun _ => ?_, fun h => absurd e h⟩
    rw [findJob_updJob s j.sw j.slot (f := fun j => { j with stage := .extents }) fun _ => ⟨rfl, rfl⟩, hj]
    rfl

theorem blockRead_completes {sw : Fin 16} {slot : Fin 8} {j : Job} {which a n al v : Nat} {s : State}
    (hj : findJob s sw slot = some j) (hs : j.stage = .blocks) (hb : nextBlock j = some (which, a, n, al))
    (hm : (memRead s .stairwell a n).2 = .ok v) :
    Completes (.issueBlockReadDone sw slot) s fun t =>
      ((nextBlock (keepBlock j which v)).isSome = true → findJob t sw slot = some (keepBlock j which v))
        ∧ ((nextBlock (keepBlock j which v)).isNone = true → staticStatus (keepBlock j which v) = none →
            findJob t sw slot = some { keepBlock j which v with stage := .extents })
        ∧ ((nextBlock (keepBlock j which v)).isNone = true → staticStatus (keepBlock j which v) ≠ none →
            findJob t sw slot = none ∧ sticky t .dispatcher Sticky.dsp.JOB_REFUSED = true) := by
  have hx : exec (.issueBlockReadDone sw slot) s = .next (if (nextBlock (keepBlock j which v)).isNone then
      checkJob (updJob (memRead s .stairwell a n).1 sw slot fun j => keepBlock j which v) (keepBlock j which v)
      else updJob (memRead s .stairwell a n).1 sw slot fun j => keepBlock j which v) := by
    have disp := memRead_disp s .stairwell a n
    change execIssueBlockReadDone sw slot s = _
    simp only [execIssueBlockReadDone, hj, if_pos hs, hb]
    generalize memRead s .stairwell a n = r at hm disp ⊢
    obtain ⟨u, g⟩ := r
    cases hm
    rfl
  refine ⟨_, hx, ?_⟩
  have kept : findJob (updJob (memRead s .stairwell a n).1 sw slot fun j => keepBlock j which v) sw slot
      = some (keepBlock j which v) := by
    rw [findJob_updJob _ _ _ (f := fun j => keepBlock j which v) fun j => keepBlock_at j which v,
      findJob_congr (memRead_disp _ _ _ _), hj]
    rfl
  have checked := findJob_checkJob kept
  generalize updJob (memRead s .stairwell a n).1 sw slot (fun j => keepBlock j which v) = u at kept checked ⊢
  refine ⟨fun h => ?_, fun h => ?_, fun h => ?_⟩
  · rw [if_neg (by rw [← Option.not_isSome, h]; decide)]
    exact kept
  · rw [if_pos h]
    exact checked.1
  · rw [if_pos h]
    exact checked.2

/-! ### Extents (R193 to R195) -/

theorem readExtents_disp (s : State) (j : Job) : (readExtents s j).1.disp = s.disp :=
  readExtents_keeps (closed_disp s.disp _ (by decide)) s j rfl

section
variable {sw : Fin 16} {slot : Fin 8} {j : Job} {m n k : Nat} {s u : State} (hj : findJob s sw slot = some j)
  (hs : j.stage = .extents) (hr : readExtents s j = (u, some (m, n, k)))
include hj hs hr

theorem exec_extentRead : exec (.extentReadDone sw slot) s
    = .next (if (extentPairs j m n k).any (fun e => decide (e.2 < e.1)) then refuseJob u j 0x18
      else if (extentPairs j m n k).any (fun e => e.1 == 0) then closeJob (bump u .dispatcher Reg.dsp.JOBS_EMPTY) j 1
      else updJob u sw slot fun j => createTally j m n k) := by
  change execExtentReadDone sw slot s = _
  simp only [execExtentReadDone, hj, if_neg (not_not.2 hs), hr]
  split
  · rfl
  · split <;> rfl

theorem extentRead_completes : Completes (.extentReadDone sw slot) s fun t =>
    ((∀ e ∈ extentPairs j m n k, 1 ≤ e.1 ∧ e.1 ≤ e.2) → findJob t sw slot = some (createTally j m n k))
      ∧ ((∃ e ∈ extentPairs j m n k, e.2 < e.1) →
          findJob t sw slot = none ∧ Advanced u t .dispatcher Reg.dsp.JOBS_REFUSED
            ∧ sticky t .dispatcher Sticky.dsp.JOB_REFUSED = true)
      ∧ ((∀ e ∈ extentPairs j m n k, e.1 ≤ e.2) → (∃ e ∈ extentPairs j m n k, e.1 = 0) →
          findJob t sw slot = none ∧ Advanced u t .dispatcher Reg.dsp.JOBS_EMPTY) := by
  refine ⟨_, exec_extentRead hj hs hr, ?_⟩
  have found : findJob u sw slot = some j := by
    have e := findJob_congr (readExtents_disp s j) sw slot
    rw [hr] at e
    exact e.trans hj
  obtain ⟨h1, h2⟩ := findJob_at hj
  have within (h : ∀ e ∈ extentPairs j m n k, e.1 ≤ e.2) : (extentPairs j m n k).any (fun e => decide (e.2 < e.1)) = false := by
    simpa using fun a b hab => h _ hab
  refine ⟨fun h => ?_, fun ⟨e, he, hlt⟩ => ?_, fun h ⟨e, he, h0⟩ => ?_⟩
  · have positive : (extentPairs j m n k).any (fun e => e.1 == 0) = false := by
      simp only [List.any_eq_false, beq_iff_eq]
      exact fun e he => Nat.ne_of_gt (h e he).1
    rw [within fun e he => (h e he).2, positive, if_neg (by decide), if_neg (by decide),
      findJob_updJob u sw slot (f := fun j => createTally j m n k) fun _ => ⟨rfl, rfl⟩, found]
    rfl
  · rw [if_pos (List.any_eq_true.2 ⟨e, he, decide_eq_true hlt⟩)]
    obtain ⟨refused, latched, gone⟩ := refuseJob_leaves u j 0x18
    exact ⟨h1 ▸ h2 ▸ gone, refused, latched⟩
  · rw [within h, if_neg (by decide), if_pos (show ((extentPairs j m n k).any fun e => e.1 == 0) = true from List.any_eq_true.2 ⟨e, he, beq_iff_eq.2 h0⟩)]
    refine ⟨h1 ▸ h2 ▸ findJob_closeJob _ j 1, ?_⟩
    rw [Advanced, rd_congr (closeJob_regs _ _ _), rd_bump]

end

/-- Settles O11, command by command. -/
theorem jobIssueCompletes : Obligations.JobIssueCompletes :=
  ⟨fun _ _ _ _ ho hw hb => jobIssue_reads hw ho hb, fun _ _ _ ho hw => jobIssue_refused hw ho,
    fun _ _ _ _ _ _ _ _ _ hj hs hb hm => blockRead_completes hj hs hb hm, fun _ _ _ _ _ _ _ _ hj hs hr => extentRead_completes hj hs hr⟩

/-! ### Prefetches leave the dispatcher (R255) -/

theorem onward_prefetchSector (s : State) (st l : Nat) : Onward Cached s (prefetchSector s st l).1 :=
  ((onward_bump_memory (p := scPage st) rfl s (f := Reg.sc.READS) (by decide) (by decide)).trans (onward_readStored _ _ _)).cached

theorem onward_prefetchLine (s : State) (h n : Nat) : Onward Cached s (prefetchLine s h n) := by
  have issued : Onward Cached s (bump s (hcPage h) Reg.hc.PF_ISSUED) := onward_bump_hc h s (by decide) (by decide)
  have dropped (t : State) : Onward Cached t (bump t (hcPage h) Reg.hc.PF_DROPPED) := onward_bump_hc h t (by decide) (by decide)
  unfold prefetchLine
  split
  · exact .refl s
  · dsimp only
    split
    · exact issued.trans (dropped _)
    · have first := onward_prefetchSector (bump s (hcPage h) Reg.hc.PF_ISSUED) (place s (64 * n)).1 (place s (64 * n)).2
      split
      · next t v e =>
        have second := onward_prefetchSector t (place s (64 * n)).1 ((place s (64 * n)).2 + 32)
        split
        · next e' => exact ((issued.trans (first.fst e)).trans (second.fst e')).trans (onward_allocate _ _ _ _ _ _)
        · next e' => exact ((issued.trans (first.fst e)).trans (second.fst e')).trans (dropped _)
      · next e => exact (issued.trans (first.fst e)).trans (dropped _)

theorem onward_prefetchRange (s : State) (h a n : Nat) : Onward Cached s (prefetchRange s h a n) :=
  foldl_keeps (P := fun t => Onward Cached s t) (fun t _ k => k.trans (onward_prefetchLine t h _)) (.refl s)

theorem onward_prefetchRecords (s : State) (h : Nat) (j : Job) (panel : Nat × Nat) (first n : Nat) :
    Onward Cached s (prefetchRecords s h j panel first n) := by
  unfold prefetchRecords
  dsimp only
  exact .ite (.refl s) (onward_prefetchRange _ _ _ _)

theorem onward_prefetchPanels (h : Nat) (j : Job) (l : List Nat) : ∀ (n : Nat) (s : State), Onward Cached s (prefetchPanels h j n l s) := by
  induction l with
  | nil => intro n s; rw [prefetchPanels]; exact .refl s
  | cons b l ih =>
    intro n s
    rw [prefetchPanels]
    exact .ite (.refl s) ((onward_prefetchRecords _ _ _ _ _ _).trans (ih _ _))

theorem onward_prefetchAhead (s : State) (h g : Nat) (j : Job) (t : Ticket) : Onward Cached s (prefetchAhead s h g j t) := by
  unfold prefetchAhead
  exact .ite (onward_prefetchPanels _ _ _ _ _) (.refl s)

theorem prefetchAhead_disp (s : State) (h g : Nat) (j : Job) (t : Ticket) : (prefetchAhead s h g j t).disp = s.disp :=
  prefetchAhead_keeps (closed_disp s.disp _ (by decide)) s h g j t rfl

theorem prefetchAhead_galleries (s : State) (h g : Nat) (j : Job) (t : Ticket) : (prefetchAhead s h g j t).galleries = s.galleries :=
  prefetchAhead_keeps (closed_galleries s.galleries _ (by decide)) s h g j t rfl

/-! ### Grants (R199 to R204) -/

theorem readyVector_leaves (s : State) (h g serial : Nat) : (readyVector s h g serial).disp = s.disp
    ∧ (gal (readyVector s h g serial) h g).tickets = (gal s h g).tickets
    ∧ ∀ f : Fld, f.inPage = true → rd (readyVector s h g serial) .dispatcher f = rd s .dispatcher f := by
  unfold readyVector
  dsimp only
  refine ⟨?_, ?_, fun f hf => ?_⟩
  · split <;> rfl
  · rw [gal_setGal]
  · change rd (if _ then _ else _) _ _ = _
    split
    · exact rd_bump_other _ _ _ _ _ (by rintro ⟨⟩) (by decide) hf
    · rfl

/-- A ticket is where its fetcher keeps it. -/
def Delivered (t : State) (f : Fetcher) (k : Ticket) : Prop :=
  match f with
  | .gallery h g => k ∈ (gal t h g).tickets
  | .dresser h => NatMap.get? t.dressers h.val = some k

theorem deliverTicket_leaves (s : State) (f : Fetcher) (j : Job) (k : Ticket) :
    Delivered (deliverTicket s f j k) f k ∧ (deliverTicket s f j k).disp.serial = s.disp.serial
      ∧ (deliverTicket s f j k).disp.requests = s.disp.requests
      ∧ ∀ f' : Fld, f'.inPage = true → rd (deliverTicket s f j k) .dispatcher f' = rd s .dispatcher f' := by
  cases f with
  | dresser h =>
    refine ⟨?_, rfl, rfl, fun _ _ => rfl⟩
    change NatMap.get? (NatMap.set s.dressers h k) h.val = some k
    rw [NatMap.get?_set, if_pos rfl]
  | gallery h g =>
    unfold deliverTicket Delivered
    dsimp only
    generalize hu : setGal { s with disp := { s.disp with lastGallery := 16 * h.val + (logicalOf s h g).getD 0 } } h g _ = u
    have ud : u.disp.serial = s.disp.serial ∧ u.disp.requests = s.disp.requests := by rw [← hu]; exact ⟨rfl, rfl⟩
    have ur : u.regs = s.regs := by rw [← hu]; rfl
    have ut : k ∈ (gal u h g).tickets := by
      rw [← hu, gal_setGal]
      exact List.mem_append_right _ (List.mem_singleton.2 rfl)
    have page (v : State) (f : Fld) (hf : f.inPage = true) (hv : rd v .dispatcher f = rd u .dispatcher f) :
        rd (prefetchAhead v h g j k) .dispatcher f = rd s .dispatcher f :=
      (((onward_prefetchAhead v h g j k).fields _ _ (cached_of_page (by decide) rfl (by rintro _ ⟨⟩) hf)).trans hv).trans
        (rd_congr ur _ _)
    obtain ⟨rd_, rt, rr⟩ := readyVector_leaves u h g k.serial
    rw [gal_congr (prefetchAhead_galleries _ _ _ _ _), prefetchAhead_disp]
    split
    · exact ⟨by rw [rt]; exact ut, by rw [rd_]; exact ud.1, by rw [rd_]; exact ud.2, fun f hf => page _ f hf (rr f hf)⟩
    · exact ⟨ut, ud.1, ud.2, fun f hf => page _ f hf rfl⟩

section
variable {r : Request} {j : Job} {s : State} (hs : rd s .mcService Reg.mcs.STOPPED = 0) (hn : nextRequest s = some (r, j))
include hs hn

theorem exec_ticketGrant : exec .ticketGrant s = .next
    (if fits s ((takeUnits j).1.length * unitPlaces j.desc) then
      deliverTicket (releaseWaits (updJob { bump s .dispatcher Reg.dsp.FETCHES with disp := { s.disp with
          serial := s.disp.serial + 1, requests := s.disp.requests.filter (·.who != r.who) } } j.sw j.slot
        fun _ => { (takeUnits j).2.2 with held := j.held + (takeUnits j).1.length * unitPlaces j.desc })) r.who j
        (newTicket j s.disp.serial (takeUnits j).1 (takeUnits j).2.1)
    else if r.waited then s
    else { bump s .dispatcher Reg.dsp.FETCH_WAIT with disp := { s.disp with
      requests := s.disp.requests.map fun q => if q.who = r.who then { q with waited := true } else q } }) := by
  have hoff : on s .mcService Reg.mcs.STOPPED = false := by simp [on, hs]
  change execTicketGrant s = _
  simp only [execTicketGrant, hoff, hn]
  rw [if_neg (by decide)]
  split
  · rfl
  · split <;> rfl

theorem ticketGrant_grants (hf : fits s ((takeUnits j).1.length * unitPlaces j.desc) = true) : Completes .ticketGrant s fun t =>
    Advanced s t .dispatcher Reg.dsp.FETCHES ∧ t.disp.serial = s.disp.serial + 1
      ∧ (∀ q ∈ t.disp.requests, q.who ≠ r.who)
      ∧ ∃ k : Ticket, k.serial = s.disp.serial ∧ k.units = (takeUnits j).1 ∧ k.exact = (takeUnits j).2.1 ∧ k.sw = j.sw
        ∧ k.slot = j.slot ∧ Delivered t r.who k := by
  have hx := exec_ticketGrant hs hn
  rw [if_pos hf] at hx
  refine ⟨_, hx, ?_⟩
  generalize hu : releaseWaits (updJob { bump s .dispatcher Reg.dsp.FETCHES with disp := { s.disp with
    serial := s.disp.serial + 1, requests := s.disp.requests.filter (·.who != r.who) } } j.sw j.slot
      fun _ => { (takeUnits j).2.2 with held := j.held + (takeUnits j).1.length * unitPlaces j.desc }) = u
  obtain ⟨given, serial, requests, page⟩ := deliverTicket_leaves u r.who j (newTicket j s.disp.serial (takeUnits j).1 (takeUnits j).2.1)
  refine ⟨?_, ?_, fun q hq => ?_, _, rfl, rfl, rfl, rfl, rfl, given⟩
  · rw [Advanced, page _ (by decide), ← hu]
    exact rd_bump _ _ _
  · rw [serial, ← hu]; rfl
  · rw [requests, ← hu] at hq
    obtain ⟨p, hp, rfl⟩ := List.mem_map.1 hq
    have hne : p.who ≠ r.who := by simpa using (List.mem_filter.1 hp).2
    split
    · exact hne
    · exact hne

theorem ticketGrant_waits (hf : fits s ((takeUnits j).1.length * unitPlaces j.desc) = false) (hw : r.waited = false) :
    Completes .ticketGrant s fun t =>
      Advanced s t .dispatcher Reg.dsp.FETCH_WAIT ∧ t.disp.jobs = s.disp.jobs ∧ t.galleries = s.galleries
        ∧ ∀ q ∈ t.disp.requests, q.who = r.who → q.waited = true := by
  have hx := exec_ticketGrant hs hn
  rw [hf, hw, if_neg (by decide), if_neg (by decide)] at hx
  refine ⟨_, hx, rd_bump _ _ _, rfl, rfl, fun q hq e => ?_⟩
  obtain ⟨p, -, rfl⟩ := List.mem_map.1 hq
  by_cases h : p.who = r.who
  · rw [if_pos h]
  · rw [if_neg h] at e
    exact absurd e h

end

/-! ### Units finish (R202, R204) -/

/-- The job of a finished unit is gone, or counts it done and holds its places no longer. -/
theorem findJob_unitDone {s : State} {sw slot : Nat} {j : Job} (hj : findJob s sw slot = some j) :
    findJob (unitDone s sw slot) sw slot = none ∨ ∃ i, findJob (unitDone s sw slot) sw slot = some i ∧ i.done = j.done + 1
      ∧ i.held = j.held - unitPlaces j.desc := by
  unfold unitDone freePlaces
  generalize hu : updJob (updJob s sw slot fun j => { j with done := j.done + 1 }) sw slot _ = u
  have found : findJob u sw slot = some { j with done := j.done + 1, held := j.held - 1 * unitPlaces j.desc } := by
    rw [← hu, findJob_updJob _ sw slot (f := fun j => { j with held := j.held - 1 * unitPlaces j.desc }) fun _ => ⟨rfl, rfl⟩,
      findJob_updJob s sw slot (f := fun j => { j with done := j.done + 1 }) fun _ => ⟨rfl, rfl⟩, hj]
    rfl
  unfold settleJob
  rw [found]
  dsimp only
  split
  · obtain ⟨h1, h2⟩ := findJob_at hj
    refine .inl ?_
    rw [← h1, ← h2]
    exact findJob_closeJob _ { j with done := j.done + 1, held := j.held - 1 * unitPlaces j.desc } _
  · exact .inr ⟨_, found, rfl, by rw [Nat.one_mul]⟩

theorem tickets_unitDone (s : State) (sw slot h g : Nat) : (gal (unitDone s sw slot) h g).tickets = (gal s h g).tickets :=
  (gal_settleJob _ sw slot h g).2

theorem unitDone_dressers (s : State) (sw slot : Nat) : (unitDone s sw slot).dressers = s.dressers :=
  unitDone_keeps (closed_dressers s.dressers _ (by decide)) s sw slot rfl

/-- A job whose ticket has run in a gallery is the same but for the galleries it has run in. -/
theorem findJob_noteRan (s : State) (h g : Nat) (k : Ticket) {j : Job} (hj : findJob s k.sw k.slot = some j) :
    ∃ i, findJob (noteRan s h g k) k.sw k.slot = some i ∧ i.done = j.done ∧ i.held = j.held ∧ i.desc = j.desc := by
  unfold noteRan
  split
  · rw [findJob_updJob s k.sw k.slot (f := fun j => { j with galleries := (17 * h + g) :: j.galleries.filter (· != 17 * h + g) })
      fun _ => ⟨rfl, rfl⟩, hj]
    exact ⟨_, rfl, rfl, rfl, rfl⟩
  · exact ⟨j, hj, rfl, rfl, rfl⟩

theorem gal_noteRan (s : State) (h g : Nat) (k : Ticket) (a b : Nat) : gal (noteRan s h g k) a b = gal s a b := by
  unfold noteRan; split <;> rfl

theorem unitFinish_gallery {h : Fin 16} {g : Fin 17} {k : Ticket} {s : State}
    (hk : ((gal s h g).tickets.find? fun t => !t.finished.isEmpty) = some k) :
    Completes (.unitFinish (.gallery h g)) s fun t =>
      (∀ e ∈ (gal t h g).tickets, e.serial = k.serial → e.left = k.left.filter fun u => u != k.finished.headD 0)
        ∧ ∀ j, findJob s k.sw k.slot = some j →
          findJob t k.sw k.slot = none ∨ ∃ i, findJob t k.sw k.slot = some i ∧ i.done = j.done + 1
            ∧ i.held = j.held - unitPlaces j.desc := by
  have hx : exec (.unitFinish (.gallery h g)) s = .next (unitDone (setGal (noteRan s h g k) h g
      (if (dropUnit k (k.finished.headD 0)).left.isEmpty then { releaseGens (gal (noteRan s h g k) h g) k.serial with
          tickets := (gal (noteRan s h g k) h g).tickets.filter (·.serial != k.serial) }
        else { gal (noteRan s h g k) h g with tickets := (gal (noteRan s h g k) h g).tickets.map fun e =>
          if e.serial = k.serial then dropUnit k (k.finished.headD 0) else e })) k.sw k.slot) := by
    change execUnitFinish (.gallery h g) s = _
    simp only [execUnitFinish, hk]
  refine ⟨_, hx, fun e he hs => ?_, fun j hj => ?_⟩
  · rw [tickets_unitDone, gal_setGal] at he
    split at he
    · exact absurd hs (by simpa using (List.mem_filter.1 he).2)
    · obtain ⟨p, -, rfl⟩ := List.mem_map.1 he
      split at hs
      · next hp => rw [if_pos hp]; rfl
      · next hp => exact absurd hs hp
  · obtain ⟨i, hi, hd, hh, hc⟩ := findJob_noteRan s h g k hj
    have done := findJob_unitDone (s := setGal (noteRan s h g k) h g
      (if (dropUnit k (k.finished.headD 0)).left.isEmpty then { releaseGens (gal (noteRan s h g k) h g) k.serial with
          tickets := (gal (noteRan s h g k) h g).tickets.filter (·.serial != k.serial) }
        else { gal (noteRan s h g k) h g with tickets := (gal (noteRan s h g k) h g).tickets.map fun e =>
          if e.serial = k.serial then dropUnit k (k.finished.headD 0) else e })) (j := i) hi
    rw [hd, hh, hc] at done
    exact done

theorem unitFinish_dresser {h : Fin 16} {k : Ticket} {s : State} (hk : NatMap.get? s.dressers h.val = some k) (hw : k.written = true) :
    Completes (.unitFinish (.dresser h)) s fun t =>
      NatMap.get? t.dressers h.val = none
        ∧ ∀ j, findJob s k.sw k.slot = some j →
          findJob t k.sw k.slot = none ∨ ∃ i, findJob t k.sw k.slot = some i ∧ i.done = j.done + 1
            ∧ i.held = j.held - unitPlaces j.desc := by
  have hx : exec (.unitFinish (.dresser h)) s = .next (unitDone { s with dressers := NatMap.del s.dressers h } k.sw k.slot) := by
    change execUnitFinish (.dresser h) s = _
    simp only [execUnitFinish, hk, if_pos hw]
  refine ⟨_, hx, ?_, fun j hj => findJob_unitDone (s := { s with dressers := NatMap.del s.dressers h }) hj⟩
  rw [unitDone_dressers, NatMap.get?_del, if_pos rfl]

/-- Settles O12, command by command. -/
theorem ticketsComplete : Obligations.TicketsComplete := by
  refine ⟨fun f s hr hm hn => ⟨_, if_pos (by rw [hr, hm, hn]; rfl), rfl, rfl⟩, fun r j s hs hn hf => ?_,
    fun r j s => ticketGrant_waits, fun h g k s => unitFinish_gallery, fun h k s => unitFinish_dresser⟩
  obtain ⟨t, hx, fetched, serial, requests, k, k1, k2, k3, k4, k5, given⟩ := ticketGrant_grants hs hn hf
  refine ⟨t, hx, fetched, serial, requests, k, k1, k2, k3, k4, k5, ?_⟩
  cases hr : r.who <;> (rw [hr] at given; exact given)

end Sys2Proof.Machine

/-! SUPPORT and settlement of O29: reports, gallery faults, gallery commands and scrubs (R334 to R336, R339, R340). -/

namespace Sys2Proof.Machine

set_option Elab.async false -- each thread's stack counts against the check's memory limit

/-! ### Reports (R334, R335) -/

theorem fcEnter_known {s : State} {src : Nat} (h : s.fc.any (·.source == src) = true) (code detail : Nat) :
    fcEnter s src code detail = { s with fc := s.fc.map (fcDup src) } := if_pos h

theorem fcEnter_new {s : State} {src : Nat} (h : s.fc.any (·.source == src) = false) (hroom : s.fc.length < 512) (code detail : Nat) :
    (fcEnter s src code detail).fc = s.fc ++ [{ source := src, code := code, detail := detail, dups := 0 }] := by
  unfold fcEnter
  rw [if_neg (by simp [h]), if_neg (Nat.not_le.2 hroom)]
  split
  · exact setSticky_fc _ _ _
  · rfl

theorem fcEnter_full {s : State} {src : Nat} (h : s.fc.any (·.source == src) = false) (hfull : 512 ≤ s.fc.length) (code detail : Nat) :
    fcEnter s src code detail = setSticky (bump s .fc Reg.fc.OVERFLOW_REPORTS) .fc Sticky.fc.TABLE_FULL := by
  unfold fcEnter
  rw [if_neg (by simp [h]), if_pos hfull]

/-! ### Stopping a gallery (R336, R339) -/

theorem arrPage_ne_hif (h g : Nat) : arrPage h g ≠ .hif := by simp [arrPage]
theorem hallPage_ne_hif (h : Nat) : hallPage h ≠ .hif := by simp [hallPage]
theorem arrPage_ne_hallPage (h g k : Nat) : arrPage h g ≠ hallPage k := by simp [arrPage, hallPage]

theorem quiesced_congr {s t : State} {h g : Nat}
    (e : rd t (arrPage h g) (Reg.hdr.QUIESCE (arrPage h g)) = rd s (arrPage h g) (Reg.hdr.QUIESCE (arrPage h g))) :
    quiesced t h g = quiesced s h g := by rw [quiesced, on, e, quiesced, on]

theorem quiesced_setQuiesce (s : State) (h g : Nat) : quiesced (setQuiesce s h g 1) h g = true := by
  simp [quiesced, setQuiesce, on, Reg.hdr.QUIESCE]

theorem quiesced_setQuiesce_zero (s : State) (h g : Nat) : quiesced (setQuiesce s h g 0) h g = false := by
  simp [quiesced, setQuiesce, on, Reg.hdr.QUIESCE]

theorem remap_inPage {i : Nat} (hi : i < 16) : (Reg.hall.REMAP i).inPage = true := by
  simp only [Fld.inPage, Reg.hall.REMAP, Bool.and_eq_true]
  exact ⟨decide_eq_true (by omega), rfl⟩

theorem logicalOf_congr {s t : State} {h : Nat} (e : ∀ i < 16, rd t (hallPage h) (Reg.hall.REMAP i) = rd s (hallPage h) (Reg.hall.REMAP i))
    (g : Nat) : logicalOf t h g = logicalOf s h g := by
  unfold logicalOf
  refine List.find?_congr fun i hi => ?_
  rw [e i (List.mem_range.1 hi)]

theorem quiesced_drainGallery (s : State) (h g : Nat) : quiesced (drainGallery s h g) h g = true := quiesced_setQuiesce _ _ _

theorem gal_drainGallery (s : State) (h g : Nat) : gal (drainGallery s h g) h g = { gal s h g with busy := true } :=
  (gal_setGal s h g _ :)

/-! ### Tickets that go back (R336) -/

/-- The fields that the return of a gallery's tickets leaves: all but the hall's two counters of what returned. -/
def Returned (h : Nat) : Scope :=
  ⟨fun q f => f.inPage = true ∧ (q ≠ hallPage h ∨ f.off ≠ 0x094 ∧ f.off ≠ 0x098), fun _ => True⟩

theorem returned_count {h : Nat} {f : Fld} (hf : f = Reg.hall.RETURNED_UNITS ∨ f = Reg.hall.ABANDONED_TREADS) (s : State) (n : Nat) :
    Onward (Returned h) s (count s (hallPage h) f n) := by
  rcases hf with rfl | rfl
  · exact onward_count (by decide) (by decide) (.inl (hallPage_ne_hif h))
      (fun q g (k : (Returned h).field q g) => key_ne_of_off (by decide) k.1 (k.2.imp id fun k => k.1)) s n
  · exact onward_count (by decide) (by decide) (.inl (hallPage_ne_hif h))
      (fun q g (k : (Returned h).field q g) => key_ne_of_off (by decide) k.1 (k.2.imp id fun k => k.2)) s n

theorem onward_foldl {F : Scope} {α : Type} {f : State → α → State} (hf : ∀ s a, Onward F s (f s a)) (l : List α) :
    ∀ s : State, Onward F s (l.foldl f s) := by
  induction l with
  | nil => exact .refl
  | cons a l ih => exact fun s => (hf s a).trans (ih _)

theorem onward_noteRan {F : Scope} (s : State) (h g : Nat) (t : Ticket) : Onward F s (noteRan s h g t) := by
  unfold noteRan
  split
  · exact onward_same rfl rfl rfl
  · exact .refl s

theorem onward_settleJob {F : Scope} (s : State) (sw slot : Nat) : Onward F s (settleJob s sw slot) := by
  have hif : (settleJob s sw slot).hif = s.hif := settleJob_keeps (closed_hif s.hif _ (by decide)) s sw slot rfl
  exact onward_same (settleJob_regs s sw slot) (by rw [hif]) (by rw [hif]) (attended_of_hif hif)

theorem onward_updJob {F : Scope} (s : State) (sw slot : Nat) (f : Job → Job) : Onward F s (updJob s sw slot f) :=
  onward_same rfl rfl rfl

theorem onward_returnUnits (h : Nat) (byFault : Bool) (s : State) (t : Ticket) : Onward (Returned h) s (returnUnits h byFault s t) := by
  unfold returnUnits
  extract_lets us s₁ s₂
  exact ((returned_count (.inr rfl) s _).trans (returned_count (.inl rfl) s₁ _)).trans (onward_updJob s₂ _ _ _)

/-- A gallery's tickets have left it. -/
def takenBack (s : State) (h g : Nat) (ts : List Ticket) : State :=
  ts.foldl (fun s t => abandonTicket s h g t false) (ts.foldl (fun s t => noteRan s h g t) s)

/-- Units of tickets are back at their tallies, and what ended with them is over. -/
def givenBack (s : State) (h : Nat) (byFault : Bool) (ts : List Ticket) : State :=
  ts.foldl (fun s t => settleJob s t.sw t.slot)
    ((if byFault then limitedJobs s ts else []).foldl (fun s e => endJob s e.1 e.2 0x24) (ts.foldl (returnUnits h byFault) s))

theorem returnTickets_eq (s : State) (h g : Nat) (byFault : Bool) :
    returnTickets s h g byFault = givenBack (takenBack s h g (gal s h g).tickets) h byFault (gal s h g).tickets := rfl

theorem onward_returnTickets (s : State) (h g : Nat) (byFault : Bool) : Onward (Returned h) s (returnTickets s h g byFault) := by
  have noted := onward_foldl (F := Returned h) (fun s t => onward_noteRan s h g t) (gal s h g).tickets s
  have taken := noted.trans (onward_foldl (f := fun s t => abandonTicket s h g t false) (fun _ _ => onward_same rfl rfl rfl) (gal s h g).tickets _)
  have units := taken.trans (onward_foldl (onward_returnUnits h byFault) (gal s h g).tickets _)
  have jobs := fun l => units.trans (onward_foldl (fun s (e : Nat × Nat) => onward_endJob s e.1 e.2 0x24) l _)
  rw [returnTickets_eq]
  exact (jobs _).trans (onward_foldl (fun s (t : Ticket) => onward_settleJob s t.sw t.slot) _ _)

/-- A gallery's memories and state stand, and it has got no ticket. -/
structure Lessened (s t : State) (h g : Nat) : Prop where
  same : SameStore (gal s h g) (gal t h g)
  fewer : (gal t h g).tickets ⊆ (gal s h g).tickets

theorem Lessened.refl (s : State) (h g : Nat) : Lessened s s h g := ⟨.refl _, fun _ k => k⟩

theorem Lessened.trans {s t u : State} {h g : Nat} (k : Lessened s t h g) (l : Lessened t u h g) : Lessened s u h g :=
  ⟨k.same.trans l.same, fun _ e => k.fewer (l.fewer e)⟩

theorem lessened_of_gal {s t : State} {h g : Nat} (e : gal t h g = gal s h g) : Lessened s t h g := by
  constructor <;> rw [e]
  · exact .refl _
  · exact fun _ k => k

theorem lessened_foldl {α : Type} {f : State → α → State} {h g : Nat} (hf : ∀ s a, Lessened s (f s a) h g) (l : List α) :
    ∀ s : State, Lessened s (l.foldl f s) h g := by
  induction l with
  | nil => exact fun s => .refl s h g
  | cons a l ih => exact fun s => (hf s a).trans (ih _)

theorem lessened_abandonTicket (s : State) (h g : Nat) (t : Ticket) (orphans : Bool) :
    Lessened s (abandonTicket s h g t orphans) h g := by
  obtain ⟨same, tickets⟩ := gal_abandonTicket s h g t orphans
  exact ⟨same, by rw [tickets]; exact List.filter_subset_self _⟩

theorem lessened_settleJob (s : State) (sw slot h g : Nat) : Lessened s (settleJob s sw slot) h g := by
  obtain ⟨same, tickets⟩ := gal_settleJob s sw slot h g
  exact ⟨same, by rw [tickets]; exact fun _ k => k⟩

theorem lessened_endJob (s : State) (sw slot status h g : Nat) : Lessened s (endJob s sw slot status) h g :=
  ⟨sameStore_endJob s sw slot status h g, fun t ht => (tickets_endJob s sw slot status h g t ht).1⟩

/-- Each ticket of a list leaves its gallery. -/
theorem gal_abandonTickets (h g : Nat) (ts : List Ticket) : ∀ s : State,
    Lessened s (ts.foldl (fun s t => abandonTicket s h g t false) s) h g
      ∧ ∀ t ∈ ts, t ∉ (gal (ts.foldl (fun s t => abandonTicket s h g t false) s) h g).tickets := by
  induction ts with
  | nil => exact fun s => ⟨.refl s h g, by simp⟩
  | cons a ts ih =>
    intro s
    obtain ⟨less, gone⟩ := ih (abandonTicket s h g a false)
    refine ⟨(lessened_abandonTicket s h g a false).trans less, fun t ht => ?_⟩
    rcases List.mem_cons.1 ht with rfl | ht
    · intro e
      have := less.fewer e
      rw [(gal_abandonTicket s h g t false).2] at this
      simp at this
    · exact gone t ht

theorem lessened_givenBack (s : State) (h g : Nat) (byFault : Bool) (ts : List Ticket) :
    Lessened s (givenBack s h byFault ts) h g := by
  have units := lessened_foldl (h := h) (g := g) (f := returnUnits h byFault) (fun _ _ => lessened_of_gal rfl) ts s
  have jobs := fun l => units.trans (lessened_foldl (fun s (e : Nat × Nat) => lessened_endJob s e.1 e.2 0x24 h g) l _)
  exact (jobs _).trans (lessened_foldl (fun s (t : Ticket) => lessened_settleJob s t.sw t.slot h g) ts _)

/-- A gallery whose tickets have gone back holds none, and its memories and state stand. -/
theorem gal_returnTickets (s : State) (h g : Nat) (byFault : Bool) :
    SameStore (gal s h g) (gal (returnTickets s h g byFault) h g) ∧ (gal (returnTickets s h g byFault) h g).tickets = [] := by
  rw [returnTickets_eq]
  have noted := lessened_foldl (h := h) (g := g) (fun s t => lessened_of_gal (gal_noteRan s h g t h g)) (gal s h g).tickets s
  obtain ⟨less, gone⟩ := gal_abandonTickets h g (gal s h g).tickets ((gal s h g).tickets.foldl (fun s t => noteRan s h g t) s)
  have later := lessened_givenBack (takenBack s h g (gal s h g).tickets) h g byFault (gal s h g).tickets
  have all := (noted.trans less).trans later
  exact ⟨all.same, List.eq_nil_iff_forall_not_mem.2 fun t ht => gone t (all.fewer ht) (later.fewer ht)⟩

/-! ### Gallery faults (R333, R336) -/

/-- A gallery with its fault latched, and quiesced. -/
def faultLatched (s : State) (h g code : Nat) : State :=
  setQuiesce (setGal (setSticky (latchFault s (arrPage h g) code (faultDetail (gal s h g))) (hallPage h) Sticky.hall.GALLERY_FAULT) h g
    { gal s h g with faulted := true, busy := true }) h g 1

theorem galleryFault_eq (s : State) (h g code : Nat) :
    galleryFault s h g code = swapEvent (returnTickets (faultLatched s h g code) h g true) h g (.galleryFault h g) := rfl

theorem onward_setQuiesce {F : Scope} {h g : Nat} (hF : ∀ q f, F.field q f → f.inPage = true ∧ (q ≠ arrPage h g ∨ f.off ≠ 0x00C))
    (s : State) (v : Nat) : Onward F s (setQuiesce s h g v) :=
  onward_wr rfl (show (0x00C : Nat) ≠ 0x018 by decide) (.inl (arrPage_ne_hif h g))
    (fun q f k => key_ne_of_off rfl (hF q f k).1 (hF q f k).2) s v

theorem rd_report {q : Page} {f : Fld} (hq : q ≠ .hif) (hc : q ≠ .fc) (hf : f.inPage = true) (s : State) (p : Page) (code detail : Nat) :
    rd (report s p code detail) q f = rd s q f :=
  (reported_report s p code detail).fields q f ⟨by simp [silent, hf, hq], hc⟩

theorem faultCode_faultLatched (s : State) (h g : Nat) {code : Nat} (hc : code < 256) :
    rd (faultLatched s h g code) (arrPage h g) Reg.hdr.FAULT_CODE = code := by
  refine (rd_wr_field (f := Reg.hdr.QUIESCE (arrPage h g)) (g := Reg.hdr.FAULT_CODE) rfl rfl (.inl (show (0x010 : Nat) ≠ 0x00C by decide)) _ _ _).trans ?_
  refine (rd_setSticky_page (arrPage_ne_hif h g) (by decide) _ _ _ (arrPage_ne_hallPage h g h)).trans ?_
  rw [latchFault, rd_report (arrPage_ne_hif h g) (by simp [arrPage]) (by decide),
    rd_bump_field (by decide) (by decide) (.inl (by decide)), rd_wr]
  exact Nat.mod_eq_of_lt hc

theorem remap_faultLatched (s : State) (h g code : Nat) {i : Nat} (hi : i < 16) :
    rd (faultLatched s h g code) (hallPage h) (Reg.hall.REMAP i) = rd s (hallPage h) (Reg.hall.REMAP i) := by
  have hin := remap_inPage hi
  have hp := (arrPage_ne_hallPage h g h).symm
  refine (rd_wr_other _ _ _ _ _ _ hp rfl hin).trans ?_
  refine (rd_setSticky_own (hallPage_ne_hif h) hin _ _ (by simp only [Reg.hall.REMAP]; omega)).trans ?_
  rw [latchFault, rd_report (hallPage_ne_hif h) (by simp [hallPage]) hin, rd_bump_other _ _ _ _ _ hp (by decide) hin,
    rd_wr_other _ _ _ _ _ _ hp (by decide) hin]

/-- A faulted gallery is quiesced without a ticket, its code latched, and the MC is told. -/
structure GalleryFaulted (s t : State) (h g code : Nat) : Prop where
  faulted : (gal t h g).faulted = true
  tickets : (gal t h g).tickets = []
  quiesced : quiesced t h g = true
  code : rd t (arrPage h g) Reg.hdr.FAULT_CODE = code
  alarm : sticky t (hallPage h) Sticky.hall.GALLERY_FAULT = true
  event : (if logicalOf s h g = none then RepairEvent.unswappable h else .galleryFault h g) ∈ t.mc.repairs

theorem alarm_faultLatched (s : State) (h g code : Nat) : sticky (faultLatched s h g code) (hallPage h) Sticky.hall.GALLERY_FAULT = true :=
  (onward_setQuiesce (F := ⟨fun _ _ => False, fun _ => True⟩) (fun _ _ k => k.elim) _ 1).stickies _ _ (by decide)
    ((sticky_other (rd_congr rfl _ _) _).trans (sticky_setSticky _ _ _ (by decide)))

/-- The MC is told of a gallery that a swap can answer, or that none can. -/
theorem event_swapEvent (s : State) (h g : Nat) :
    (if logicalOf s h g = none then RepairEvent.unswappable h else .galleryFault h g) ∈ (swapEvent s h g (.galleryFault h g)).mc.repairs := by
  unfold swapEvent repairEvent
  cases logicalOf s h g <;> simp

theorem galleryFaulted (s : State) (h g : Nat) {code : Nat} (hc : code < 256) : GalleryFaulted s (galleryFault s h g code) h g code := by
  rw [galleryFault_eq]
  have hq : arrPage h g ≠ hallPage h := arrPage_ne_hallPage h g h
  have latched : gal (faultLatched s h g code) h g = { gal s h g with faulted := true, busy := true } := (gal_setGal _ _ _ _ :)
  have remap (i : Nat) := remap_faultLatched s h g code (i := i)
  have alarm := alarm_faultLatched s h g code
  have fault := faultCode_faultLatched s h g hc
  have still : quiesced (faultLatched s h g code) h g = true := quiesced_setQuiesce _ _ _
  generalize faultLatched s h g code = l at latched remap alarm fault still ⊢
  obtain ⟨same, none⟩ := gal_returnTickets l h g true
  have leaves := onward_returnTickets l h g true
  have held := quiesced_congr (leaves.fields _ _ ⟨rfl, .inl hq⟩)
  generalize returnTickets l h g true = u at same none leaves held ⊢
  have hl : logicalOf u h g = logicalOf s h g := logicalOf_congr (fun i hi => (leaves.fields _ _
    ⟨remap_inPage hi, .inr (by simp only [Reg.hall.REMAP]; omega)⟩).trans (remap i hi)) g
  refine ⟨same.faulted.trans (congrArg Gallery.faulted latched), none, held.trans still, ?_, ?_, hl ▸ event_swapEvent u h g⟩
  · exact (leaves.fields _ _ ⟨by decide, .inl hq⟩).trans fault
  · exact leaves.stickies _ _ (by decide) alarm

theorem exec_watchdog {h : Fin 16} {g : Fin 17} {k : GalleryFault} {s : State} (hr : ready s = true)
    (hk : k = .treadHang → (gal s h g).flight.isSome = true) :
    exec (.treadWatchdogExpiry h g k) s = .next (galleryFault s h g (faultCode k)) := by
  refine if_neg ?_
  rw [hr]
  cases k with
  | treadHang =>
    have := hk rfl
    cases e : (gal s h g).flight <;> simp_all
  | portHang => exact Bool.false_ne_true
  | logicCheck => exact Bool.false_ne_true

theorem exec_tread_parity {h : Fin 16} {g : Fin 17} {f : Flight} {r : TileReg} {ij : Nat × Nat} {rest : List (Nat × Nat)} {k : Ticket × Job}
    {gr : Group} {s : State} (hf : (gal s h g).flight = some f) (hr : (gal s h g).resident = some r) (ht : f.todo = ij :: rest)
    (hk : ticketJob s h g f.serial = some k) (hg : flightGroup (gal s h g) f = some gr) :
    exec (.tread h g true) s = .next (galleryFault s h g 3) := by
  change execTread h g true s = _
  obtain ⟨t, j⟩ := k
  simp only [execTread, hf, hr, ht, hk, hg]
  rfl

/-! ### The commands of the hall page (R339, R340) -/

theorem rd_hallErr (s : State) (h : Nat) : rd (hallErr s h) (hallPage h) Reg.hdr.STATE_ERR = 1 := rd_stateErr rfl s

theorem galleryCmd_reached {s : State} {h : Nat} (hr : Reaches s .mainband (hallPage h) 0x048) (g cmd : Nat) (body : State) :
    galleryCmd s h g cmd body = body := ifPermitted_of_reaches hr _ _

theorem galleryControl_reached {s : State} {h g : Nat} (hr : Reaches s .mainband (arrPage h g) 0x00C) (word : Nat) (body : State) :
    galleryControl s h g word body = body := ifPermitted_of_reaches hr _ _

theorem doDrain_legal {s : State} {h g : Nat} (hl : drainLegal s h g = true) : doDrain s h g = drainGallery s h g := if_pos hl
theorem doDrain_illegal {s : State} {h g : Nat} (hl : drainLegal s h g = false) : doDrain s h g = hallErr s h := if_neg (by simp [hl])

theorem drainLegal_not_quiesced {s : State} {h g : Nat} (hl : drainLegal s h g = true) : quiesced s h g = false := by
  simp only [drainLegal, Bool.and_eq_true, Bool.not_eq_true'] at hl
  exact hl.1.1.2

theorem drained_leaves (s : State) (h g : Nat) :
    quiesced (drainGallery s h g) h g = true ∧ (gal (drainGallery s h g) h g).tickets = (gal s h g).tickets := by
  refine ⟨quiesced_drainGallery s h g, ?_⟩
  rw [gal_drainGallery]

theorem doAbandon_legal {s : State} {h g : Nat} (hl : drainLegal s h g = true) :
    doAbandon s h g = returnTickets (drainGallery s h g) h g false := if_pos (by simp [hl])

theorem quiesced_returnTickets (s : State) (h g : Nat) (byFault : Bool) : quiesced (returnTickets s h g byFault) h g = quiesced s h g :=
  quiesced_congr ((onward_returnTickets s h g byFault).fields _ _ ⟨rfl, .inl (arrPage_ne_hallPage h g h)⟩)

theorem doResume_legal {s : State} {h g : Nat} (hs : stopped s h g = true) (hl : (logicalOf s h g).isSome = true)
    (ho : (gal s h g).op = none) : doResume s h g = resumeGallery s h g := if_pos (by simp [hs, hl, ho])

theorem resumed_leaves (s : State) (h g : Nat) :
    quiesced (resumeGallery s h g) h g = false ∧ (gal (resumeGallery s h g) h g).faulted = false :=
  ⟨quiesced_setQuiesce_zero _ _ _, (congrArg Gallery.faulted (gal_setGal s h g { gal s h g with faulted := false }) :)⟩

/-! ### SWAP (R340, R345) -/

/-- The swap's registers are written: the logical number's gallery, and who is in service. -/
def remapped (s : State) (h g t i : Nat) : State :=
  let s := wr s (hallPage h) (Reg.hall.REMAP i) t
  let s := wr s (arrPage h g) (Reg.hdr.OUT_OF_SERVICE (arrPage h g)) 1
  setQuiesce (wr s (arrPage h t) (Reg.hdr.OUT_OF_SERVICE (arrPage h t)) 0) h t 0

theorem doSwap_eq {s : State} {h g i : Nat} (hi : logicalOf s h g = some i) (t : Nat) :
    doSwap s h g t = recordRepair (setSticky (bump (remapped s h g t i) (hallPage h) Reg.hall.SWAPS) (hallPage h)
      Sticky.hall.SWAP_DONE) 1 h (i + t * 2 ^ 8) 0 0 := by
  unfold doSwap
  rw [hi]
  rfl

theorem logicalOf_lt {s : State} {h g i : Nat} (hi : logicalOf s h g = some i) : i < 16 :=
  List.mem_range.1 (List.mem_of_find?_eq_some hi)

section
variable (s : State) {h g t i : Nat} (hi : logicalOf s h g = some i)
include hi

theorem rd_doSwap_array (a b : Nat) {f : Fld} (hf : f.inPage = true) :
    rd (doSwap s h g t) (arrPage a b) f = rd (remapped s h g t i) (arrPage a b) f := by
  have hp := arrPage_ne_hallPage a b h
  rw [doSwap_eq hi, (onward_recordRepair _ _ _ _ _ _).fields _ _ ⟨by simp [Silent, silent, hf, arrPage_ne_hif], .inl (by simp [arrPage])⟩,
    rd_setSticky_page (arrPage_ne_hif a b) hf _ _ _ hp]
  exact rd_bump_other _ _ _ _ _ hp (by decide) hf

theorem rd_doSwap_hall {f : Fld} (hf : f.inPage = true) (ho : f.off ≠ 0x018) :
    rd (doSwap s h g t) (hallPage h) f = rd (bump (remapped s h g t i) (hallPage h) Reg.hall.SWAPS) (hallPage h) f := by
  rw [doSwap_eq hi, (onward_recordRepair _ _ _ _ _ _).fields _ _ ⟨by simp [Silent, silent, hf, hallPage_ne_hif], .inl (by simp [hallPage])⟩,
    rd_setSticky_own (hallPage_ne_hif h) hf _ _ ho]

omit hi in
theorem rd_remapped_hall {f : Fld} (hf : f.inPage = true) :
    rd (remapped s h g t i) (hallPage h) f = rd (wr s (hallPage h) (Reg.hall.REMAP i) t) (hallPage h) f := by
  have hp (b : Nat) := (arrPage_ne_hallPage h b h).symm
  refine (rd_wr_other _ _ _ _ _ _ (hp t) rfl hf).trans ?_
  rw [rd_wr_other _ _ _ _ _ _ (hp t) rfl hf, rd_wr_other _ _ _ _ _ _ (hp g) rfl hf]

theorem remap_doSwap (ht : t < 32) : rd (doSwap s h g t) (hallPage h) (Reg.hall.REMAP i) = t := by
  have hin := remap_inPage (logicalOf_lt hi)
  rw [rd_doSwap_hall s hi hin (by simp only [Reg.hall.REMAP]; omega),
    rd_bump_field (by decide) hin (.inl (by simp only [Reg.hall.REMAP, Reg.hall.SWAPS]; have := logicalOf_lt hi; omega)),
    rd_remapped_hall s hin, rd_wr]
  exact Nat.mod_eq_of_lt ht

theorem advanced_doSwap : Advanced s (doSwap s h g t) (hallPage h) Reg.hall.SWAPS := by
  have hin := remap_inPage (logicalOf_lt hi)
  rw [Advanced, rd_doSwap_hall s hi (by decide) (by decide), rd_bump, rd_remapped_hall s (by decide),
    rd_wr_field hin (by decide) (.inl (by simp only [Reg.hall.REMAP, Reg.hall.SWAPS]; have := logicalOf_lt hi; omega))]

theorem sticky_doSwap : sticky (doSwap s h g t) (hallPage h) Sticky.hall.SWAP_DONE = true := by
  rw [doSwap_eq hi]
  exact sticky_recordRepair (by decide) (sticky_setSticky _ _ _ (by decide)) _ _ _ _ _

/-- The gallery that takes over is another than the one that is swapped out. -/
theorem swapped_services (hne : arrPage h g ≠ arrPage h t) :
    outOfService (doSwap s h g t) h g = true ∧ outOfService (doSwap s h g t) h t = false ∧ quiesced (doSwap s h g t) h t = false := by
  have out : rd (remapped s h g t i) (arrPage h g) (Reg.hdr.OUT_OF_SERVICE (arrPage h g)) = 1 := by
    refine (rd_wr_other _ _ _ _ _ _ hne rfl rfl).trans ?_
    rw [rd_wr_other _ _ _ _ _ _ hne rfl rfl, rd_wr]
    rfl
  have into : rd (remapped s h g t i) (arrPage h t) (Reg.hdr.OUT_OF_SERVICE (arrPage h t)) = 0 := by
    refine (rd_wr_field (f := Reg.hdr.QUIESCE (arrPage h t)) (g := Reg.hdr.OUT_OF_SERVICE (arrPage h t)) rfl rfl (.inl (show (0x008 : Nat) ≠ 0x00C by decide)) _ _ _).trans ?_
    rw [rd_wr]
    rfl
  refine ⟨?_, ?_, ?_⟩
  · rw [outOfService, on, rd_doSwap_array s hi h g rfl, out]
    rfl
  · rw [outOfService, on, rd_doSwap_array s hi h t rfl, into]
    rfl
  · exact (quiesced_congr (rd_doSwap_array s hi h t rfl)).trans (quiesced_setQuiesce_zero _ _ _)

end

theorem swapLegal_iff {s : State} {h g t : Nat} (hl : swapLegal s h g t = true) : t < 17 ∧ logicalOf s h t = none := by
  simp only [swapLegal, Bool.and_eq_true, decide_eq_true_eq, Option.isNone_iff_eq_none] at hl
  exact ⟨hl.1.1.1.1.2, hl.1.2⟩

theorem arrPage_ne {h g t : Nat} (hg : g < 17) (ht : t < 17) (hne : g ≠ t) : arrPage h g ≠ arrPage h t := by
  intro e
  simp only [arrPage, Page.array.injEq, true_and] at e
  have := congrArg Fin.val e
  simp only [Fin.ofNat, Nat.mod_eq_of_lt hg, Nat.mod_eq_of_lt ht] at this
  exact hne this

/-! ### Scrubs (R231, R340) -/

theorem memCourses_le {m : Nat} (hm : m < 4) : memCourses m ≤ 2048 :=
  (by decide : ∀ m < 4, memCourses m ≤ 2048) m hm

theorem memKey_outside {k m w : Nat} (hk : k < 4) (hm : m < 4) (hne : m ≠ k) (hw : w < 128 * memCourses m) :
    memKey m w < memKey k 0 ∨ memKey k 0 + 128 * memCourses k ≤ memKey m w := by
  have h1 := memCourses_le hk
  have h2 := memCourses_le hm
  unfold memKey
  omega

theorem get?_filter_pos {α : Type} (p : Nat → Bool) {k : Nat} (hp : p k = true) : ∀ l : NatMap α,
    NatMap.get? (l.filter fun e => p e.1) k = NatMap.get? l k
  | [] => rfl
  | (j, w) :: l => by
    have ih := get?_filter_pos p hp l
    unfold NatMap.get? at ih ⊢
    rw [List.filter_cons, List.lookup_cons]
    by_cases e : k = j
    · subst e
      rw [if_pos hp, List.lookup_cons, beq_self_eq_true]
    · rw [beq_eq_false_iff_ne.2 e]
      split
      · rw [List.lookup_cons, beq_eq_false_iff_ne.2 e]
        exact ih
      · exact ih

theorem get?_filter_neg {α : Type} (p : Nat → Bool) {k : Nat} (hp : p k = false) (l : NatMap α) :
    NatMap.get? (l.filter fun e => p e.1) k = none :=
  List.lookup_eq_none_iff.2 fun e he => bne_iff_ne.2 fun hk => by
    have h := (List.mem_filter.1 he).2
    rw [← hk, hp] at h
    cases h

/-- Filling a memory leaves the words of the others. -/
theorem getWord_fillMemory_other (x : Gallery) (pattern : Nat) {k m w : Nat} (hk : k < 4) (hm : m < 4) (hne : m ≠ k)
    (hw : w < 128 * memCourses m) : getWord (fillMemory x k pattern) m w = getWord x m w := by
  have outside := memKey_outside hk hm hne hw
  rw [getWord_eq, getWord_eq, fillMemory, fillCourses, Nat.mul_zero]
  generalize memKey m w = a at outside ⊢
  generalize memKey k 0 = lo at outside ⊢
  have filled : List.lookup a (if pattern % 2 ^ 32 = 0 then []
      else (List.range (128 * memCourses k)).map fun i => (lo + i, BitVec.ofNat 32 pattern)) = none := by
    refine List.lookup_eq_none_iff.2 fun e he => ?_
    split at he
    · cases he
    · obtain ⟨i, hi, rfl⟩ := List.mem_map.1 he
      have := List.mem_range.1 hi
      exact bne_iff_ne.2 (by dsimp only; omega)
  unfold wordAt NatMap.get?
  rw [List.lookup_append, List.lookup_append, filled, Option.or_none]
  rcases outside with low | high
  · have h1 := get?_filter_pos (fun j => decide (j < lo)) (decide_eq_true low) x.mem
    have h2 := get?_filter_neg (fun j => decide (lo + 128 * memCourses k ≤ j)) (k := a) (decide_eq_false (by omega)) x.mem
    unfold NatMap.get? at h1 h2
    rw [h1, h2, Option.or_none]
  · have h1 := get?_filter_neg (fun j => decide (j < lo)) (k := a) (decide_eq_false (by omega)) x.mem
    have h2 := get?_filter_pos (fun j => decide (lo + 128 * memCourses k ≤ j)) (decide_eq_true high) x.mem
    unfold NatMap.get? at h1 h2
    rw [h1, h2, Option.none_or]

theorem getWord_fillMemory (x : Gallery) (pattern : Nat) {m w : Nat} (hw : w < 128 * memCourses m) :
    getWord (fillMemory x m pattern) m w = pattern % 2 ^ 32 := by
  have := getWord_fillCourses x m 0 pattern hw
  rwa [Nat.mul_zero, Nat.zero_add] at this

/-- Memories below a number filled one after another. -/
theorem getWord_fillMemories (x : Gallery) (v : Nat) : ∀ n ≤ 4, ∀ m < n, ∀ w < 128 * memCourses m,
    getWord ((List.range n).foldl (fun x m => fillMemory x m v) x) m w = v % 2 ^ 32 := by
  intro n
  induction n with
  | zero => exact fun _ m hm => (Nat.not_lt_zero m hm).elim
  | succ n ih =>
    intro hn m hm w hw
    rw [List.range_succ, List.foldl_append, List.foldl_cons, List.foldl_nil]
    by_cases e : m = n
    · subst e
      exact getWord_fillMemory _ v hw
    · rw [getWord_fillMemory_other _ v (by omega) (by omega) e hw]
      exact ih (by omega) m (by omega) w hw

theorem scrubMemories_mem (x : Gallery) (v : Nat) :
    (scrubMemories x v).mem = ((List.range 4).foldl (fun x m => fillMemory x m v) x).mem := by rw [scrubMemories]

theorem getWord_scrubMemories (x : Gallery) (v : Nat) : ∀ m < 4, ∀ w < 128 * memCourses m,
    getWord (scrubMemories x v) m w = v % 2 ^ 32 := by
  intro m hm w hw
  rw [getWord_eq, scrubMemories_mem, ← getWord_eq]
  exact getWord_fillMemories x v 4 (Nat.le_refl 4) m hm w hw

theorem foldl_fillMemory_leaves (v : Nat) (l : List Nat) : ∀ x : Gallery,
    (l.foldl (fun x m => fillMemory x m v) x).groups = x.groups ∧ (l.foldl (fun x m => fillMemory x m v) x).resident = x.resident := by
  induction l with
  | nil => exact fun x => ⟨rfl, rfl⟩
  | cons m l ih => exact fun x => ih (fillMemory x m v)

theorem scrubMemories_leaves (x : Gallery) (v : Nat) :
    (scrubMemories x v).groups = x.groups ∧ (scrubMemories x v).resident = x.resident := by
  rw [scrubMemories]
  exact foldl_fillMemory_leaves v _ x

theorem foldl_freeGroup_leaves (l : List Nat) : ∀ x : Gallery,
    (l.foldl freeGroup x).mem = x.mem ∧ (l.foldl freeGroup x).regFill = x.regFill := by
  induction l with
  | nil => exact fun x => ⟨rfl, rfl⟩
  | cons i l ih => exact fun x => ih (freeGroup x i)

theorem closeOrphans_leaves (x : Gallery) : (closeOrphans x).mem = x.mem ∧ (closeOrphans x).regFill = x.regFill :=
  foldl_freeGroup_leaves _ x

/-- No orphan is left, and no group has come. -/
theorem groups_closeOrphans (x : Gallery) : ∀ d ∈ (closeOrphans x).groups, d ∈ x.groups ∧ d.phase ≠ .orphan := by
  obtain ⟨freed, kept, -⟩ := groups_freeGroups (x.groups.filter (·.phase == .orphan)) x
  rw [show (x.groups.filter (·.phase == .orphan)).foldl (fun x e => freeGroup x e.slot) x = closeOrphans x from List.foldl_map.symm]
    at freed kept
  intro d hd
  refine ⟨kept d hd, fun e => freed d (List.mem_filter.2 ⟨kept d hd, by simp [e]⟩) d hd rfl⟩

theorem orphans_of_quiescent {s : State} {h g : Nat} (hq : quiescent s h g = true) : ∀ d ∈ (gal s h g).groups, d.phase = .orphan := by
  simp only [quiescent, Bool.and_eq_true, List.all_eq_true, beq_iff_eq] at hq
  exact hq.1.2

/-- What GALLERY_SCRUB leaves of a gallery. -/
theorem scrubbed_leaves {s : State} {h g : Nat} (hq : quiescent s h g = true) :
    (∀ m < 4, ∀ w < 128 * memCourses m, getWord (closeOrphans (scrubMemories (gal s h g) 0)) m w = 0)
      ∧ (closeOrphans (scrubMemories (gal s h g) 0)).regFill = 0 ∧ (closeOrphans (scrubMemories (gal s h g) 0)).groups = [] := by
  obtain ⟨mem, fill⟩ := closeOrphans_leaves (scrubMemories (gal s h g) 0)
  refine ⟨fun m hm w hw => ?_, fill, List.eq_nil_iff_forall_not_mem.2 fun d hd => ?_⟩
  · rw [getWord_eq, mem]
    exact getWord_scrubMemories _ 0 m hm w hw
  · obtain ⟨old, phase⟩ := groups_closeOrphans _ d hd
    rw [(scrubMemories_leaves _ _).1] at old
    exact phase (orphans_of_quiescent hq d old)

/-- SCRUB_VALUE of the stairwell whose KILL scrubs a gallery. -/
def scrubValue (s : State) (n : Nat) : Nat :=
  match scrubbedBy s n with
  | some sw => rd s (swPage sw) Reg.sw.SCRUB_VALUE
  | none => 0

theorem scrubValue_of_some {s : State} {n sw : Nat} (h : scrubbedBy s n = some sw) :
    scrubValue s n = rd s (swPage sw) Reg.sw.SCRUB_VALUE := by rw [scrubValue, h]

theorem exec_scrubFill {h : Fin 16} {g : Fin 17} {s : State} (hw : (gal s h g).scrub = some .waiting) (hq : quiescent s h g = true)
    (ho : (gal s h g).op = none) :
    exec (.scrubFill h g) s = .next (setGal s h g { scrubMemories (gal s h g) (scrubValue s (17 * h.val + g.val)) with scrub := some .filled }) := by
  have hn : (gal s h g).op.isNone = true := by rw [ho]; rfl
  change execScrubFill h g s = _
  unfold execScrubFill
  exact if_pos ⟨hw, hq, hn⟩

/-! ### Settlement -/

/-- Settles O29, by the lemmas of each command. -/
theorem galleryServiceCompletes : Obligations.GalleryServiceCompletes := by
  refine ⟨?_, ?_, ?_, ?_, ?_, ?_, ?_, ?_, ?_, ?_, ?_, ?_, ?_, ?_, ?_, ?_, ?_, ?_⟩
  · intro r s hn hroom
    refine ⟨_, rfl, ?_⟩
    rw [enterReports_one]
    exact fcEnter_new hn hroom _ _
  · intro r s hk
    refine ⟨_, rfl, ?_⟩
    rw [enterReports_one, fcEnter_known hk]
    exact ⟨rfl, rfl⟩
  · intro r s hn hfull
    refine ⟨_, rfl, ?_⟩
    rw [enterReports_one, fcEnter_full hn hfull]
    refine ⟨setSticky_fc _ _ _, ?_, sticky_setSticky _ _ _ (by decide)⟩
    exact (rd_setSticky_own (by decide) (by decide) _ _ (by decide)).trans (rd_bump _ _ _)
  · intro s hr
    refine ⟨_, exec_clearTable hr _, ?_⟩
    rw [enterReports_nil]
    exact ⟨rfl, rd_wr _ _ _ _⟩
  · intro r s hr
    refine ⟨_, exec_clearTable hr _, ?_⟩
    rw [enterReports_one, fcEnter_empty (by rfl)]
    exact setSticky_fc _ _ _
  · intro h g k s hr hk
    have hf := galleryFaulted s h g (code := faultCode k) (by cases k <;> decide)
    exact ⟨_, exec_watchdog hr hk, hf.faulted, hf.tickets, hf.quiesced, hf.code, hf.alarm, hf.event⟩
  · intro h g f r ij rest k gr s hf hr ht hk hg
    have ff := galleryFaulted s h g (code := 3) (by decide)
    exact ⟨_, exec_tread_parity hf hr ht hk hg, ff.faulted, ff.tickets, ff.quiesced, ff.code⟩
  · intro h g s hr hl
    refine ⟨⟨_, congrArg Host.Outcome.next ((galleryCmd_reached hr g 1 _).trans (doDrain_legal hl)), drained_leaves s h g⟩,
      ⟨_, congrArg Host.Outcome.next ((galleryCmd_reached hr g 2 _).trans (doAbandon_legal hl)), ?_, (gal_returnTickets _ h g false).2⟩⟩
    rw [quiesced_returnTickets]
    exact quiesced_drainGallery s h g
  · intro h g s hr hl
    refine ⟨_, congrArg Host.Outcome.next ((galleryControl_reached hr 3 _).trans ?_), drained_leaves s h g⟩
    rw [if_neg (by simp [drainLegal_not_quiesced hl]), doDrain_legal hl]
  · intro h g s hr hl
    exact ⟨_, congrArg Host.Outcome.next ((galleryCmd_reached hr g 1 _).trans (doDrain_illegal hl)), rd_hallErr s h, rfl, rfl⟩
  · intro h g target i s hr hl hi
    obtain ⟨ht, none⟩ := swapLegal_iff hl
    have hne : g.val ≠ target.val := fun e => by rw [← e, hi] at none; cases none
    obtain ⟨out, into, fetches⟩ := swapped_services s hi (arrPage_ne (h := h) g.isLt ht hne)
    exact ⟨_, congrArg Host.Outcome.next ((galleryCmd_reached hr g 3 _).trans (if_pos hl)), remap_doSwap s hi target.isLt, out, into, fetches,
      advanced_doSwap s hi, sticky_doSwap s hi⟩
  · intro h g target s hr hl
    exact ⟨_, congrArg Host.Outcome.next ((galleryCmd_reached hr g 3 _).trans (if_neg (by simp [hl]))), rd_hallErr s h, rfl, rfl⟩
  · intro h g s hr hs hl ho
    exact ⟨_, congrArg Host.Outcome.next ((galleryCmd_reached hr g 4 _).trans (doResume_legal hs hl ho)), resumed_leaves s h g⟩
  · intro h g s hr hs hl ho hq
    exact ⟨_, congrArg Host.Outcome.next ((galleryControl_reached hr 1 _).trans ((if_pos hq).trans (doResume_legal hs hl ho))), resumed_leaves s h g⟩
  · intro h g s hr hq hout ho
    refine ⟨_, congrArg Host.Outcome.next ((galleryControl_reached hr 5 _).trans (if_pos (by simp [hq, hout, ho]))), ?_⟩
    beta_reduce
    rw [gal_setGal]
    exact scrubbed_leaves hq
  · intro h g s hb hq
    refine ⟨_, if_pos (by simp [hb, hq]), ?_, sticky_setSticky _ _ _ (by decide)⟩
    rw [gal_congr (setSticky_galleries _ _ _), gal_setGal]
  · intro h g s hw hq ho
    refine ⟨_, exec_scrubFill hw hq ho, ?_⟩
    beta_reduce
    rw [gal_setGal]
    have leaves := (scrubMemories_leaves (gal s h g) (scrubValue s (17 * h.val + g.val))).2
    have words := getWord_scrubMemories (gal s h g) (scrubValue s (17 * h.val + g.val))
    generalize scrubMemories (gal s h g) (scrubValue s (17 * h.val + g.val)) = x at leaves words ⊢
    refine ⟨rfl, leaves, fun sw hsw m hm w hw => ?_⟩
    rw [← scrubValue_of_some hsw, ← words m hm w hw, getWord_eq, getWord_eq]
  · intro h g s hf
    refine ⟨_, if_pos hf, ?_, ?_, ?_⟩
    · exact (congrArg Gallery.scrub (gal_setGal s h g { closeOrphans (gal s h g) with scrub := none }) :)
    · intro gr hgr
      have hx := gal_setGal s h g { closeOrphans (gal s h g) with scrub := none }
      exact (groups_closeOrphans (gal s h g) gr ((congrArg (gr ∈ ·.groups) hx).mp hgr)).2
    · intro e he
      obtain ⟨d, -, rfl⟩ := List.mem_map.1 he
      simp

end Sys2Proof.Machine

/-! SUPPORT and settlement of O30: hall retirement and automatic repair (R341, R344). -/

namespace Sys2Proof.Machine

set_option Elab.async false -- each thread's stack counts against the check's memory limit

/-! ### A hall begins to retire (R341) -/

theorem rd_setQuiesce_ne {s : State} {h g : Nat} {q : Page} {f : Fld} (hq : q ≠ arrPage h g) (hf : f.inPage = true) (v : Nat) :
    rd (setQuiesce s h g v) q f = rd s q f := rd_wr_other _ _ _ _ _ _ hq rfl hf

theorem rd_drainGallery_ne {s : State} {h g : Nat} {q : Page} {f : Fld} (hq : q ≠ arrPage h g) (hf : f.inPage = true) :
    rd (drainGallery s h g) q f = rd s q f := rd_setQuiesce_ne hq hf 1

/-- Draining a gallery leaves the others as they are. -/
theorem drainGallery_others (s : State) (h : Nat) {a g : Nat} (ha : a < 17) (hg : g < 17) (hne : g ≠ a) :
    quiesced (drainGallery s h a) h g = quiesced s h g ∧ drainLegal (drainGallery s h a) h g = drainLegal s h g := by
  have hp : arrPage h g ≠ arrPage h a := arrPage_ne hg ha hne
  have hq : quiesced (drainGallery s h a) h g = quiesced s h g := quiesced_congr (rd_drainGallery_ne hp rfl)
  have hx : gal (drainGallery s h a) h g = gal s h g := (gal_setGal_ne s { gal s h a with busy := true } (h := h) (g := a) (a := h) (b := g) (by omega) :)
  have hl : logicalOf (drainGallery s h a) h g = logicalOf s h g :=
    logicalOf_congr (fun i hi => rd_drainGallery_ne (arrPage_ne_hallPage h a h).symm (remap_inPage hi)) g
  have ho : outOfService (drainGallery s h a) h g = outOfService s h g := by
    rw [outOfService, on, rd_drainGallery_ne hp rfl, outOfService, on]
  exact ⟨hq, by rw [drainLegal, hx, hq, ho, hl, drainLegal]⟩

/-- A gallery that fetches receives DRAIN. -/
def drainIfLegal (h : Nat) (s : State) (g : Nat) : State := if drainLegal s h g then drainGallery s h g else s

theorem quiesced_drainIfLegal (s : State) (h : Nat) {a g : Nat} (ha : a < 17) (hg : g < 17) :
    (quiesced s h g = true → quiesced (drainIfLegal h s a) h g = true)
      ∧ (drainLegal s h g = true → if g = a then quiesced (drainIfLegal h s a) h g = true else drainLegal (drainIfLegal h s a) h g = true) := by
  unfold drainIfLegal
  by_cases e : g = a
  · subst e
    rw [if_pos rfl]
    split
    · exact ⟨fun _ => quiesced_drainGallery s h g, fun _ => quiesced_drainGallery s h g⟩
    · next hl => exact ⟨id, fun k => absurd k hl⟩
  · rw [if_neg e]
    obtain ⟨hq, hl⟩ := drainGallery_others s h ha hg e
    split
    · rw [hq, hl]
      exact ⟨id, id⟩
    · exact ⟨id, id⟩

/-- Every gallery of a list that fetches receives DRAIN, and none leaves its quiescence. -/
theorem quiesced_drains (h : Nat) {g : Nat} (hg : g < 17) (l : List Nat) : ∀ s : State, (∀ a ∈ l, a < 17) →
    (quiesced s h g = true → quiesced (l.foldl (drainIfLegal h) s) h g = true)
      ∧ (g ∈ l → drainLegal s h g = true → quiesced (l.foldl (drainIfLegal h) s) h g = true) := by
  induction l with
  | nil => exact fun s _ => ⟨id, fun k => (List.not_mem_nil k).elim⟩
  | cons a l ih =>
    intro s hl
    obtain ⟨still, drained⟩ := ih (drainIfLegal h s a) fun b hb => hl b (List.mem_cons_of_mem _ hb)
    obtain ⟨keeps, legal⟩ := quiesced_drainIfLegal s h (hl a List.mem_cons_self) hg
    refine ⟨fun k => still (keeps k), fun hm k => ?_⟩
    have now := legal k
    split at now
    · exact still now
    · next hne => exact drained ((List.mem_cons.1 hm).resolve_left hne) now

theorem rd_drains {h : Nat} {f : Fld} (hf : f.inPage = true) (l : List Nat) : ∀ s : State,
    rd (l.foldl (drainIfLegal h) s) (hallPage h) f = rd s (hallPage h) f := by
  induction l with
  | nil => exact fun _ => rfl
  | cons a l ih =>
    intro s
    refine (ih _).trans ?_
    unfold drainIfLegal
    split
    · exact rd_drainGallery_ne (arrPage_ne_hallPage h a h).symm hf
    · rfl

theorem beginRetire_eq (s : State) (h : Nat) :
    beginRetire s h = (List.range 17).foldl (drainIfLegal h) (wr s (hallPage h) Reg.hall.RETIRING 1) := rfl

theorem drainLegal_wr_retiring (s : State) (h g v : Nat) : drainLegal (wr s (hallPage h) Reg.hall.RETIRING v) h g = drainLegal s h g := by
  have hp := arrPage_ne_hallPage h g h
  have hq : quiesced (wr s (hallPage h) Reg.hall.RETIRING v) h g = quiesced s h g :=
    quiesced_congr (rd_wr_other _ _ _ _ _ _ hp (by decide) rfl)
  have ho : outOfService (wr s (hallPage h) Reg.hall.RETIRING v) h g = outOfService s h g := by
    rw [outOfService, on, rd_wr_other _ _ _ _ _ _ hp (by decide) rfl, outOfService, on]
  have hl : logicalOf (wr s (hallPage h) Reg.hall.RETIRING v) h g = logicalOf s h g :=
    logicalOf_congr (fun i hi => rd_wr_field (by decide) (remap_inPage hi)
      (.inl (by simp only [Reg.hall.REMAP, Reg.hall.RETIRING]; omega)) _ _ _) g
  rw [drainLegal, hq, ho, hl, drainLegal]
  rfl

theorem beginRetire_leaves (s : State) (h : Nat) :
    rd (beginRetire s h) (hallPage h) Reg.hall.RETIRING = 1
      ∧ ∀ g < 17, drainLegal s h g = true → quiesced (beginRetire s h) h g = true := by
  rw [beginRetire_eq]
  refine ⟨?_, fun g hg k => ?_⟩
  · rw [rd_drains (by decide), rd_wr]
    rfl
  · exact (quiesced_drains h hg _ _ fun a ha => List.mem_range.1 ha).2 (List.mem_range.2 hg) ((drainLegal_wr_retiring s h g 1).trans k)

/-! ### The cache of a hall that retires -/

theorem lines_emptyCache (s : State) (h : Nat) : (cache (emptyCache s h) h).lines = [] := by
  obtain ⟨k, gone⟩ := shrunk_foldl (f := fun s x => retireLine s h x) (fun s x => shrunk_retireLine s h x)
    (fun s x => not_mem_dropLine _ h x) (cache s h).lines s
  exact List.eq_nil_iff_forall_not_mem.2 fun x hx => gone x (k.lines hx) hx

/-! ### A hall is retired -/

theorem rd_vacated (s : State) (h : Nat) {i : Nat} (hi : i < 16) : ∀ n ≤ 16,
    rd ((List.range n).foldl (fun s i => wr s (hallPage h) (Reg.hall.REMAP i) 31) s) (hallPage h) (Reg.hall.REMAP i)
      = if i < n then 31 else rd s (hallPage h) (Reg.hall.REMAP i) := by
  intro n
  induction n with
  | zero => exact fun _ => (if_neg (by omega)).symm
  | succ n ih =>
    intro hn
    rw [List.range_succ, List.foldl_append, List.foldl_cons, List.foldl_nil]
    by_cases e : i = n
    · subst e
      rw [rd_wr, if_pos (by omega)]
      rfl
    · rw [rd_wr_field (remap_inPage hn) (remap_inPage hi) (.inl (by simp only [Reg.hall.REMAP]; omega)), ih (by omega)]
      split <;> [rw [if_pos (by omega)]; rw [if_neg (by omega)]]

/-- Fields of the hall page that are no REMAP stand. -/
theorem rd_vacated_other (s : State) (h : Nat) {f : Fld} (hf : f.inPage = true) (ho : f.off < 0x050) : ∀ n ≤ 16,
    rd ((List.range n).foldl (fun s i => wr s (hallPage h) (Reg.hall.REMAP i) 31) s) (hallPage h) f = rd s (hallPage h) f := by
  intro n
  induction n with
  | zero => exact fun _ => rfl
  | succ n ih =>
    intro hn
    rw [List.range_succ, List.foldl_append, List.foldl_cons, List.foldl_nil]
    exact (rd_wr_field (remap_inPage hn) hf (.inl (by simp only [Reg.hall.REMAP]; omega)) _ _ _).trans (ih (by omega))

/-- A gallery leaves service. -/
def takeOut (h : Nat) (s : State) (g : Nat) : State := wr s (arrPage h g) (Reg.hdr.OUT_OF_SERVICE (arrPage h g)) 1

theorem outOfService_takeOuts (h : Nat) {g : Nat} (hg : g < 17) (l : List Nat) : ∀ s : State, (∀ a ∈ l, a < 17) →
    (outOfService s h g = true → outOfService (l.foldl (takeOut h) s) h g = true)
      ∧ (g ∈ l → outOfService (l.foldl (takeOut h) s) h g = true) := by
  induction l with
  | nil => exact fun s _ => ⟨id, fun k => (List.not_mem_nil k).elim⟩
  | cons a l ih =>
    intro s hl
    obtain ⟨still, out⟩ := ih (takeOut h s a) fun b hb => hl b (List.mem_cons_of_mem _ hb)
    by_cases e : g = a
    · subst e
      have now : outOfService (takeOut h s g) h g = true := by
        rw [outOfService, on, takeOut, rd_wr]
        rfl
      exact ⟨fun _ => still now, fun _ => still now⟩
    · have same : outOfService (takeOut h s a) h g = outOfService s h g := by
        rw [outOfService, on, takeOut, rd_wr_other _ _ _ _ _ _ (arrPage_ne hg (hl a List.mem_cons_self) e) rfl rfl, outOfService, on]
      exact ⟨fun k => still (same.trans k), fun hm => out ((List.mem_cons.1 hm).resolve_left e)⟩

theorem rd_takeOuts {h : Nat} {f : Fld} (hf : f.inPage = true) (l : List Nat) : ∀ s : State,
    rd (l.foldl (takeOut h) s) (hallPage h) f = rd s (hallPage h) f := by
  induction l with
  | nil => exact fun _ => rfl
  | cons a l ih => exact fun s => (ih _).trans (rd_wr_other _ _ _ _ _ _ (arrPage_ne_hallPage h a h).symm rfl hf)

theorem retireHall_eq (s : State) (h : Nat) :
    retireHall s h = (List.range 17).foldl (takeOut h) ((List.range 16).foldl (fun s i => wr s (hallPage h) (Reg.hall.REMAP i) 31)
      (wr (wr s (hallPage h) Reg.hall.RETIRING 0) (hallPage h) Reg.hall.RETIRED 1)) := rfl

theorem retireHall_leaves (s : State) (h : Nat) :
    rd (retireHall s h) (hallPage h) Reg.hall.RETIRED = 1 ∧ rd (retireHall s h) (hallPage h) Reg.hall.RETIRING = 0
      ∧ (∀ i < 16, rd (retireHall s h) (hallPage h) (Reg.hall.REMAP i) = 31) ∧ (∀ g < 17, outOfService (retireHall s h) h g = true) := by
  rw [retireHall_eq]
  refine ⟨?_, ?_, fun i hi => ?_, fun g hg => ?_⟩
  · rw [rd_takeOuts (by decide), rd_vacated_other _ h (by decide) (by decide) 16 (by decide), rd_wr]
    rfl
  · rw [rd_takeOuts (by decide), rd_vacated_other _ h (by decide) (by decide) 16 (by decide),
      rd_wr_field (by decide) (by decide) (.inr (by decide)), rd_wr]
    rfl
  · rw [rd_takeOuts (remap_inPage hi), rd_vacated _ h hi 16 (by decide), if_pos hi]
  · exact (outOfService_takeOuts h hg _ _ fun a ha => List.mem_range.1 ha).2 (List.mem_range.2 hg)

/-! ### Automatic repair (R344) -/

theorem exec_autoRepair {s : State} (h : mcRuns s = true) : exec .autoRepair s = .next (repairStep s) := if_pos h

/-- The MC has taken the first of its events, and the rest wait. -/
def eventTaken (s : State) (rest : List RepairEvent) : State := { s with mc := { s.mc with repairs := rest } }

/-- The next event of the MC is answered. -/
theorem repairStep_event {s : State} {e : RepairEvent} {rest : List RepairEvent} (hn : s.mc.repairing = none)
    (he : s.mc.repairs = e :: rest) (hb : repairBlocked s e = false) :
    repairStep s = respondRepair (eventTaken s rest) e := by
  unfold repairStep
  rw [hn, he]
  exact if_neg (by simp [hb])

theorem recordRepair_repairs (s : State) (kind hall w1 w2 w3 : Nat) : (recordRepair s kind hall w1 w2 w3).mc.repairs = s.mc.repairs := by
  unfold recordRepair
  split
  · rw [setSticky_mc]
  · rfl

theorem foldl_recordRepair_repairs (h : Nat) (ws : List Nat) : ∀ s : State,
    (ws.foldl (fun s w => recordRepair s 7 h w 0 0) s).mc.repairs = s.mc.repairs := by
  induction ws with
  | nil => exact fun _ => rfl
  | cons w ws ih => exact fun s => (ih _).trans (recordRepair_repairs _ _ _ _ _ _)

theorem rd_setWays (s : State) (h v : Nat) : rd (setWays s h v) (hcPage h) Reg.hc.WAY_DISABLE = v % 2 ^ 24 := by
  unfold setWays
  dsimp only
  rw [foldl_recordRepair_rd _ _ ⟨by simp [Silent, silent, hcPage]; decide, .inl (by rintro ⟨⟩)⟩]
  change rd (wr s (hcPage h) Reg.hc.WAY_DISABLE (v % 2 ^ 24)) (hcPage h) Reg.hc.WAY_DISABLE = _
  rw [rd_wr]
  exact Nat.mod_mod _ _

theorem repairs_setWays (s : State) (h v : Nat) : (setWays s h v).mc.repairs = s.mc.repairs := foldl_recordRepair_repairs h _ _

/-- A way that its bit disables is off. -/
theorem wayOn_setWays (s : State) (h w old : Nat) : wayOn (setWays s h (old ||| 2 ^ w)) h w = false := by
  unfold wayOn
  rw [rd_setWays]
  by_cases hw : w < 24
  · rw [bit_eq, Nat.testBit_mod_two_pow, Nat.testBit_or, Nat.testBit_two_pow_self]
    simp [hw]
  · simp [hw]

theorem repairs_doSwap {s : State} {h g i : Nat} (hi : logicalOf s h g = some i) (t : Nat) :
    (doSwap s h g t).mc.repairs = s.mc.repairs := by
  rw [doSwap_eq hi, recordRepair_repairs, setSticky_mc]
  rfl

theorem swapToSpare_legal {s : State} {h g t : Nat} (ht : spareGallery s h = some t) (hl : swapLegal s h g t = true) :
    swapToSpare s h g = doSwap s h g t := by
  unfold swapToSpare
  rw [ht]
  exact if_pos hl

theorem respond_galleryFault {s : State} {h g i : Nat} (hh : hallOut s h = false) (hf : (gal s h g).faulted = true)
    (hi : logicalOf s h g = some i) (ha : on s .mcService Reg.mcs.AUTO_SWAP = true) :
    respondRepair s (.galleryFault h g) = swapToSpare s h g := by
  simp only [respondRepair, hh, hf, hi, ha]
  rfl

theorem respond_wayErrors {s : State} {h w : Nat} (hw : wayOn s h w = true) :
    respondRepair s (.wayErrors h w) = if on s .mcService Reg.mcs.AUTO_WAY
      then setWays s h (rd s (hcPage h) Reg.hc.WAY_DISABLE ||| 2 ^ w) else repairNeeded s := by
  simp only [respondRepair, hw]
  rfl

theorem repairNeeded_leaves (s : State) :
    (repairNeeded s).mc.repairs = s.mc.repairs ∧ sticky (repairNeeded s) .mcService Sticky.mcs.REPAIR_NEEDED = true := by
  refine ⟨?_, sticky_setSticky _ _ _ (by decide)⟩
  rw [repairNeeded, setSticky_mc]

theorem wayOn_repairNeeded (s : State) (h w : Nat) : wayOn (repairNeeded s) h w = wayOn s h w := by
  rw [wayOn, repairNeeded, rd_setSticky_page (by simp [hcPage]) (by decide) _ _ _ (by simp [hcPage]), wayOn]

theorem endRowRepair_over {s : State} {h g : Nat} {resume : Bool} (hr : s.mc.repairing = some (.rows h g resume))
    (hq : (gal s h g).rowQueue.any (spareFree (gal s h g)) = false) (hf : (gal s h g).faulted = true) :
    endRowRepair s h g = setRepairing s none := by
  unfold endRowRepair
  rw [hr]
  dsimp only
  rw [if_pos ⟨rfl, rfl, by rw [hq]; rfl⟩]
  exact if_neg (by rw [Bool.and_eq_true]; exact fun k => by simpa using (congrArg (!·) hf).symm.trans k.2)

/-- Settles O30, by what each command and each response of the MC leaves. -/
theorem hallServiceCompletes : Obligations.HallServiceCompletes := by
  refine ⟨?_, ?_, ?_, ?_, ?_, ?_, ?_, ?_, ?_, ?_⟩
  · intro h s hr ho
    exact ⟨_, congrArg Host.Outcome.next ((ifPermitted_of_reaches hr _ _).trans (if_neg (by simp [ho]))), beginRetire_leaves s h⟩
  · intro h s hr ho
    exact ⟨_, congrArg Host.Outcome.next ((ifPermitted_of_reaches hr _ _).trans (if_pos ho)), rd_hallErr s h, rfl⟩
  · intro h s hr hw hq hd
    have hcond : (on s (hallPage h) Reg.hall.RETIRING && !(cache s h).walks.contains .retire
        && (List.range 17).all (fun g => quiescent s h g || (gal s h g).faulted) && (NatMap.get? s.dressers h.val).isNone) = true := by
      have hall : (List.range 17).all (fun g => quiescent s h g || (gal s h g).faulted) = true :=
        List.all_eq_true.2 fun g hg => hq g (List.mem_range.1 hg)
      rw [on, bne_iff_ne.2 hr, hw, hall, hd]
      rfl
    refine ⟨_, if_pos hcond, ?_, ?_, ?_⟩
    · rw [cache_setCache]
      exact lines_emptyCache s h
    · show rd (emptyCache s h) (hcPage h) Reg.hc.WAY_DISABLE = _
      rw [emptyCache, rd_wr]
      rfl
    · rw [cache_setCache]
      exact List.mem_append_right _ (List.mem_singleton.2 rfl)
  · intro h s hw
    refine ⟨_, if_pos hw, ?_⟩
    beta_reduce
    generalize setCache s h { cache s h with walks := (cache s h).walks.filter (· != .retire) } = u
    obtain ⟨retired, retiring, remap, out⟩ := retireHall_leaves u h
    have hall {f : Fld} (hf : f.inPage = true) (ho : f.off ≠ 0x018) := ((onward_recordRepair (setSticky (retireHall u h) (hallPage h)
      Sticky.hall.RETIRE_DONE) 2 h 0 0 0).fields (hallPage h) f ⟨by simp [Silent, silent, hf, hallPage_ne_hif], .inl (by simp [hallPage])⟩).trans
        (rd_setSticky_own (hallPage_ne_hif h) hf _ _ ho)
    have arr (g : Nat) := ((onward_recordRepair (setSticky (retireHall u h) (hallPage h) Sticky.hall.RETIRE_DONE) 2 h 0 0 0).fields
      (arrPage h g) (Reg.hdr.OUT_OF_SERVICE (arrPage h g)) ⟨by simp [Silent, silent, arrPage_ne_hif, Fld.inPage, Reg.hdr.OUT_OF_SERVICE],
        .inl (by simp [arrPage])⟩).trans (rd_setSticky_page (arrPage_ne_hif h g) rfl _ _ _ (arrPage_ne_hallPage h g h))
    refine ⟨(hall (by decide) (by decide)).trans retired, (hall (by decide) (by decide)).trans retiring,
      fun i hi => (hall (remap_inPage hi) (by simp only [Reg.hall.REMAP]; omega)).trans (remap i hi), fun g hg => ?_,
      sticky_recordRepair (by decide) (sticky_setSticky _ _ _ (by decide)) _ _ _ _ _⟩
    have := out g hg
    rw [outOfService, on] at this ⊢
    rwa [arr g]
  · intro rest s hm hn he
    exact ⟨_, (exec_autoRepair hm).trans (congrArg _ (repairStep_event hn he rfl)), repairNeeded_leaves _⟩
  · intro h rest s hm hn he
    refine ⟨_, (exec_autoRepair hm).trans (congrArg _ (repairStep_event hn he rfl)), ?_⟩
    have out : hallOut (eventTaken s rest) h = hallOut s h := rfl
    simp only [respondRepair, out]
    cases ho : hallOut s h with
    | true => exact ⟨rfl, by simp, fun _ => rfl⟩
    | false => exact ⟨(repairNeeded_leaves _).1, fun _ => (repairNeeded_leaves _).2, by simp⟩
  · intro h g resume s hm hr hq hf
    refine ⟨setRepairing s none, (exec_autoRepair hm).trans (congrArg _ ?_), rfl, hf, rfl⟩
    unfold repairStep
    rw [hr]
    exact endRowRepair_over hr hq hf
  · intro h w rest s hm hn he hw ho
    refine ⟨_, (exec_autoRepair hm).trans (congrArg _ (repairStep_event hn he hw)), ?_⟩
    have now : wayOn (eventTaken s rest) h w = true := ho
    rw [respond_wayErrors now]
    have auto : on (eventTaken s rest) .mcService Reg.mcs.AUTO_WAY = on s .mcService Reg.mcs.AUTO_WAY := rfl
    rw [auto]
    cases on s .mcService Reg.mcs.AUTO_WAY with
    | true => exact ⟨repairs_setWays _ _ _, fun _ => wayOn_setWays _ _ _ _, by simp⟩
    | false =>
      exact ⟨(repairNeeded_leaves _).1, by simp, fun _ => ⟨(wayOn_repairNeeded _ h w).trans now, (repairNeeded_leaves _).2⟩⟩
  · intro h g spare i rest s hm hn he ho hf hi16 hi ha hs hl
    refine ⟨_, (exec_autoRepair hm).trans (congrArg _ ((repairStep_event hn he rfl).trans
      ((respond_galleryFault (s := (eventTaken s rest)) (i := i) ho hf hi ha).trans (swapToSpare_legal (t := spare) hs hl)))), ?_, ?_, ?_⟩
    · exact repairs_doSwap (s := eventTaken s rest) (i := i) hi spare
    · exact remap_doSwap (eventTaken s rest) (i := i) hi (by have := (swapLegal_iff hl).1; omega)
    · exact advanced_doSwap (eventTaken s rest) (i := i) hi
  · intro h g s hm hr ho
    refine ⟨setRepairing s none, (exec_autoRepair hm).trans (congrArg _ ?_), rfl, rfl, rfl⟩
    unfold repairStep
    rw [hr]
    exact if_pos ho

end Sys2Proof.Machine

/-! SUPPORT and settlement of O32: the commands of the security block (R356 to R365). -/

namespace Sys2Proof.Machine

set_option Elab.async false -- each thread's stack counts against the check's memory limit

/-! ### A command that the SEB takes -/

theorem sebGate_taken {s : State} {path : Path} (h : SebTakes s path) (cmd : Nat) (body : State → State) :
    sebGate s path cmd body = body s := by
  obtain ⟨hr, hb, hs⟩ := h
  rw [sebGate, sebCommand, ifPermitted_of_reaches hr, if_neg (by simp [hb, hs])]

theorem transitionRuns_taken {s : State} {path : Path} (h : SebTakes s path) : transitionRuns s path = true := by
  obtain ⟨⟨held, permitted⟩, hb, hs⟩ := h
  simp [transitionRuns, held, permitted, hb, hs]

theorem memRead_seb (s : State) (who : Requester) (a n : Nat) : (memRead s who a n).1.seb = s.seb :=
  memRead_keeps (closed_seb s.seb _ (by decide)) s who a n rfl

theorem memRead_mc (s : State) (who : Requester) (a n : Nat) : (memRead s who a n).1.mc = s.mc :=
  memRead_keeps (closed_mc s.mc _ (by decide)) s who a n rfl

theorem sebWrite_seb (s : State) (a n v : Nat) : (sebWrite s a n v).1.seb = s.seb :=
  sebWrite_keeps (closed_seb s.seb _ (by decide)) s a n v rfl

/-! ### CHALLENGE (R358) -/

theorem challenge_inPage {i : Nat} (hi : i < 8) : (Reg.seb.CHALLENGE i).inPage = true := by
  simp only [Fld.inPage, Reg.seb.CHALLENGE, Bool.and_eq_true]
  exact ⟨decide_eq_true (by omega), rfl⟩

/-- A word of the challenge is drawn. -/
def drawChallenge (s : State) (i : Nat) : State := wr (draw s).2 .seb (Reg.seb.CHALLENGE i) (draw s).1

theorem drawChallenges_leaves (s : State) : ∀ n ≤ 8, ((List.range n).foldl drawChallenge s).drawn = s.drawn + n
    ∧ ((List.range n).foldl drawChallenge s).seb = s.seb
    ∧ ∀ i < n, rd ((List.range n).foldl drawChallenge s) .seb (Reg.seb.CHALLENGE i) = Config.free (s.drawn + i) % 2 ^ 32 := by
  intro n
  induction n with
  | zero => exact fun _ => ⟨rfl, rfl, fun i hi => (Nat.not_lt_zero i hi).elim⟩
  | succ n ih =>
    intro hn
    obtain ⟨drawn, seb, words⟩ := ih (by omega)
    rw [List.range_succ, List.foldl_append, List.foldl_cons, List.foldl_nil]
    generalize (List.range n).foldl drawChallenge s = u at drawn seb words ⊢
    refine ⟨congrArg (· + 1) drawn, seb, fun i hi => ?_⟩
    by_cases e : i = n
    · subst e
      refine (rd_wr _ _ _ _).trans ?_
      rw [draw, drawn]
      rfl
    · refine (rd_wr_field (challenge_inPage hn) (challenge_inPage (by omega)) (.inl ?_) _ _ _).trans (words i (by omega))
      simp only [Reg.seb.CHALLENGE]
      omega

theorem freshChallenge_leaves (s : State) : (freshChallenge s).seb = { s.seb with challengeIn := true }
    ∧ ∀ i < 8, rd (freshChallenge s) .seb (Reg.seb.CHALLENGE i) = Config.free (s.drawn + i) % 2 ^ 32 := by
  obtain ⟨-, seb, words⟩ := drawChallenges_leaves s 8 (by decide)
  refine ⟨?_, words⟩
  show ({ ((List.range 8).foldl drawChallenge s).seb with challengeIn := true } : Seb) = _
  rw [seb]

/-! ### TRANSITION (R357 to R359) -/

/-- Every draw gives a key pair (R353). -/
theorem rsaPair_identityKey (n : Nat) : rsaPair (identityKey n).1 (identityKey n).2.1 (identityKey n).2.2 := by
  have low : (1 : Nat) < 2 ^ 3071 := Nat.one_lt_two_pow (by decide)
  have high : (2 : Nat) ^ 3071 < 2 ^ 3072 := Nat.pow_lt_pow_right (by decide) (by decide)
  have fixed : rsaPair (2 ^ 3071) 1 1 :=
    ⟨Nat.le_refl _, high, by decide, low.trans high, fun m hm => by rw [Nat.mul_one, Nat.pow_one, Nat.mod_eq_of_lt hm]⟩
  unfold identityKey
  dsimp only
  split
  · next range =>
    split
    · next back =>
      obtain ⟨hlo, hhi, he, hd⟩ := range
      exact ⟨hlo, hhi, he, hd, back⟩
    · exact fixed
  · exact fixed

theorem enterLifecycle_seb (s : State) (n mask : Nat) : (enterLifecycle s n mask).seb.state = n
    ∧ (enterLifecycle s n mask).seb.debugMask = (if n = 3 then mask else 0)
    ∧ (n = 1 → (enterLifecycle s n mask).seb.idKey = some (identityKey (s.drawn + 1))) := by
  unfold enterLifecycle
  split
  · exact ⟨rfl, rfl, fun _ => rfl⟩
  · exact ⟨rfl, rfl, fun h => absurd h (by decide)⟩
  · exact ⟨rfl, rfl, fun h => absurd h (by decide)⟩
  · next h1 h3 _ => exact ⟨rfl, (if_neg h3).symm, fun h => absurd h h1⟩

theorem wasReset_enterLifecycle {s t : State} {n mask c : Nat} {cs : List Nat} (h : WasReset (enterLifecycle s n mask) t cs c) :
    WasReset s t cs c := by
  have parts : (enterLifecycle s n mask).rst = s.rst ∧ (enterLifecycle s n mask).dram = s.dram
      ∧ (enterLifecycle s n mask).codes = s.codes ∧ (enterLifecycle s n mask).mc = s.mc := by
    unfold enterLifecycle
    split <;> exact ⟨rfl, rfl, rfl, rfl⟩
  obtain ⟨rst, dram, codes, mc⟩ := parts
  unfold WasReset at h ⊢
  rwa [rst, dram, codes, mc] at h

/-- The lifecycle state has moved, and the device was reset for it with the other triggers of its handshake. -/
theorem lifecycle_moves (s : State) (n mask : Nat) (also : List ResetCause) :
    let t := trigger (enterLifecycle s n mask) [6] [] also
    t.seb.state = n ∧ WasReset s t (6 :: also.map causeCode) (firstCause (6 :: also.map causeCode))
      ∧ t.seb.debugMask = (if n = 3 then mask else 0) ∧ (n = 1 → ∃ n e d, t.seb.idKey = some (n, e, d) ∧ rsaPair n e d) := by
  have hseb : (trigger (enterLifecycle s n mask) [6] [] also).seb = (enterLifecycle s n mask).seb.kept := by
    rw [trigger_eq (.inl (by decide)), enterReset_seb]
  obtain ⟨state, masked, key⟩ := enterLifecycle_seb s n mask
  have pair := rsaPair_identityKey (s.drawn + 1)
  generalize identityKey (s.drawn + 1) = k at key pair
  refine ⟨by rw [hseb]; exact state, wasReset_enterLifecycle (wasReset_trigger (by decide) (.inl (by decide))),
    by rw [hseb]; exact masked, fun e => ⟨_, _, _, ?_, pair⟩⟩
  rw [hseb]
  exact key e

theorem exec_transition_legal {path : Path} {target : BitVec 3} {also : List ResetCause} {s : State} (h : SebTakes s path)
    (hm : moveLegal path s.seb.state target.toNat = true) :
    exec (.transition path ⟨target, also⟩) s
      = .next (trigger (runTransition s target.toNat).1 (runTransition s target.toNat).2 [] also) := by
  refine if_pos ?_
  rw [transitionRuns_taken h, Bool.true_and]
  exact hm

theorem exec_transition_illegal {path : Path} {target : BitVec 3} {s : State} (h : SebTakes s path)
    (hm : moveLegal path s.seb.state target.toNat = false) :
    exec (.transition path ⟨target, []⟩) s = .next (sebStart s 3 target.toNat 8) := by
  refine (if_neg ?_).trans (congrArg Host.Outcome.next ((trigger_nil _ _).trans (sebGate_taken h _ _)))
  rw [transitionRuns_taken h, Bool.true_and]
  simp [hm]

theorem runTransition_free {s : State} (h : needsToken s.seb.state = false) (n : Nat) :
    runTransition s n = (enterLifecycle s n 0, [6]) := if_pos (by simp [h])

/-- The challenge is void once the SEB has read it for a token. -/
def challengeSpent (s : State) (v : Bool) : State := if v then { s with seb := { s.seb with challengeIn := false } } else s

theorem challengeSpent_leaves (s : State) (v : Bool) : (challengeSpent s v).seb.state = s.seb.state
    ∧ (challengeSpent s v).regs = s.regs ∧ (v = true → (challengeSpent s v).seb.challengeIn = false) := by
  cases v
  · exact ⟨rfl, rfl, fun h => by cases h⟩
  · exact ⟨rfl, rfl, fun _ => rfl⟩

/-- What becomes of a TRANSITION whose token the SEB has read. -/
def tokenRead (u : State) (n tok : Nat) : State × List Nat :=
  if (tokenVerdict u n tok).1 = 0 then
    (enterLifecycle (challengeSpent u (tokenVerdict u n tok).2) n (if n = 3 then fieldAt tok 5 1 else 0), [6])
  else (sebStart (verifyFail (challengeSpent u (tokenVerdict u n tok).2)) 3 n (tokenVerdict u n tok).1, [])

theorem runTransition_token {s u : State} {n tok : Nat} (h : needsToken s.seb.state = true) (ha : argLegal s 960 = true)
    (hr : memRead s .seb (argAddr s) 960 = (u, .ok tok)) : runTransition s n = tokenRead u n tok := by
  unfold runTransition
  rw [if_neg (by simp [h]), if_neg (by simp [ha]), hr]
  rfl

theorem wasReset_challengeSpent {s t : State} {v : Bool} {c : Nat} {cs : List Nat} (h : WasReset (challengeSpent s v) t cs c) :
    WasReset s t cs c := by
  cases v <;> exact h

theorem verifyFail_leaves (s : State) : (verifyFail s).seb = s.seb ∧ Advanced s (verifyFail s) .seb Reg.seb.VERIFY_FAILS
    ∧ sticky (verifyFail s) .seb Sticky.seb.VERIFY_FAIL = true := by
  refine ⟨by rw [verifyFail, setSticky_seb]; rfl, ?_, sticky_setSticky _ _ _ (by decide)⟩
  rw [Advanced, verifyFail, rd_setSticky_own (by decide) (by decide) _ _ (by decide)]
  exact rd_bump _ _ _

theorem token_refused {s u : State} (hread : ∀ f : Fld, f.inPage = true → rd u .seb f = rd s .seb f) (hseb : u.seb = s.seb) (n : Nat)
    (v : Nat × Bool) :
    let t := sebStart (verifyFail (challengeSpent u v.2)) 3 n v.1
    SebRuns t 3 n v.1 ∧ t.seb.state = s.seb.state ∧ Advanced s t .seb Reg.seb.VERIFY_FAILS
      ∧ sticky t .seb Sticky.seb.VERIFY_FAIL = true ∧ (v.2 = true → t.seb.challengeIn = false) := by
  obtain ⟨state, regs, spent⟩ := challengeSpent_leaves u v.2
  obtain ⟨seb, fails, alarm⟩ := verifyFail_leaves (challengeSpent u v.2)
  generalize challengeSpent u v.2 = x at state regs spent seb fails alarm ⊢
  have count : rd x .seb Reg.seb.VERIFY_FAILS = rd s .seb Reg.seb.VERIFY_FAILS := (rd_congr regs _ _).trans (hread _ (by decide))
  refine ⟨rfl, ?_, ?_, alarm, fun e => ?_⟩
  · show (verifyFail x).seb.state = _
    rw [seb, state, hseb]
  · rw [Advanced, ← count]
    exact fails
  · show (verifyFail x).seb.challengeIn = _
    rw [seb]
    exact spent e

/-! ### The end of a command -/

/-- Nothing but that no packet and no STICKY bit is lost. -/
def Unlost : Scope := ⟨fun _ _ => False, fun _ => True⟩

theorem unlost_wr {p : Page} {f : Fld} (hf : f.inPage = true) (ho : f.off ≠ 0x018) (hv : p ≠ .hif) (s : State) (v : Nat) :
    Onward Unlost s (wr s p f v) := onward_wr hf ho (.inl hv) (fun _ _ (k : Unlost.field _ _) => False.elim k) s v

theorem unlost_setSticky (s : State) (p : Page) (b : Nat) : Onward Unlost s (setSticky s p b) := onward_setSticky (fun _ _ (k : Unlost.field _ _) => False.elim k) s b

theorem unlost_stateErr {p : Page} (hp : p.home ≠ .hif) (s : State) : Onward Unlost s (stateErr s p) :=
  unlost_wr (by decide) (by decide) hp s 1

theorem unlost_setImage (s : State) (b : Bool) (x : Image) : Onward Unlost s (setImage s b x) := onward_same rfl rfl rfl

theorem unlost_rejectLoad (s : State) (result : Nat) : Onward Unlost s (rejectLoad s result) := by
  have cleared : Onward Unlost s { setImage s (!s.mc.activeB) .none with
      mc := { (setImage s (!s.mc.activeB) .none).mc with load := none } } := onward_same rfl rfl rfl
  exact (cleared.trans (unlost_wr (by decide) (by decide) (by decide) _ _)).trans (unlost_setSticky _ _ _)

theorem unlost_askFirmware (s : State) (x : FwLoad) : Onward Unlost s (askFirmware s x) :=
  onward_same rfl rfl rfl (attended_asked rfl rfl)

theorem unlost_startLoad (s : State) : Onward Unlost s (startLoad s) := by
  unfold startLoad
  extract_lets a n m i u
  have begun : Onward Unlost s u := onward_same rfl rfl rfl
  clear_value u
  split
  · exact begun.trans (unlost_rejectLoad _ _)
  split
  · exact begun.trans (unlost_rejectLoad _ _)
  split
  · exact begun.trans (unlost_askFirmware _ _)
  have read : Onward Unlost u (memRead u .mc a n).1 := (onward_memRead u .mc a n).mono fun _ _ (k : Unlost.field _ _) => False.elim k
  split
  · next e => exact (begun.trans (read.fst e)).trans (unlost_rejectLoad _ _)
  · next e => exact (begun.trans (read.fst e)).trans (onward_same rfl rfl rfl)

theorem unlost_loadNow (s : State) : Onward Unlost s (loadNow s) := .ite (unlost_startLoad s) (unlost_stateErr (by decide) s)

theorem unlost_startSwitch (s : State) (revert : Bool) : Onward Unlost s (startSwitch s revert) :=
  .ite (onward_same rfl rfl rfl) (unlost_stateErr (by decide) s)

/-- What waited for the SEB starts, and no STICKY bit is cleared by it. -/
theorem unlost_runHeld (n : Nat) : ∀ s : State, Onward Unlost s (runHeld n s) := by
  induction n with
  | zero => exact .refl
  | succ n ih =>
    intro s
    unfold runHeld
    split
    · exact .refl s
    split
    · exact .refl s
    · next c rest _ =>
      have taken : Onward Unlost s { s with mc := { s.mc with held := rest } } := onward_same rfl rfl rfl
      exact (taken.trans (.ite (unlost_loadNow _) (unlost_startSwitch _ _))).trans (ih _)

theorem runHeld_seb (n : Nat) (s : State) : (runHeld n s).seb = s.seb := runHeld_keeps (closed_seb s.seb _ (by decide)) n s rfl

theorem commandEnds_leaves (s : State) (r : SebRun) : (commandEnds s r).seb.run = none
    ∧ sticky (commandEnds s r) .seb Sticky.seb.CMD_DONE = true
    ∧ rd (commandEnds s r) .seb Reg.seb.RESULT = r.result % 2 ^ Reg.seb.RESULT.width := by
  refine ⟨by rw [commandEnds, setSticky_seb]; rfl, sticky_setSticky _ _ _ (by decide), ?_⟩
  rw [commandEnds, rd_setSticky_own (by decide) (by decide) _ _ (by decide), rd_wr]

theorem runHeld_none {s : State} (h : s.mc.held = []) : runHeld s.mc.held.length s = s := by rw [h]; rfl

/-! ### The other commands -/

/-- The device with its REPORTS counted. -/
def reportCounted (s : State) : State := { s with seb := { s.seb with reports := min (s.seb.reports + 1) (2 ^ 64 - 1) } }

theorem runAttest_reads {nonce : Nat} {s u w : State} (h0 : s.seb.state ≠ 0) (h4 : s.seb.state ≠ 4) (ha : argLegal s 576 = true)
    (hr : memRead (reportCounted s) .seb (argAddr s) 32 = (u, .ok nonce))
    (hw : sebWrite (draw u).2 (argAddr u + 64) 512 (osToImage (signedReport (draw u).2 nonce (draw u).1)) = (w, true)) :
    runAttest s = (w, 0) := by
  have hread : memRead (reportCounted s) .seb (argAddr (reportCounted s)) 32 = (u, .ok nonce) := hr
  unfold runAttest
  rw [if_neg (by simp [h0, h4]), if_neg (by simp [ha])]
  change (match memRead (reportCounted s) .seb (argAddr (reportCounted s)) 32 with
    | (s, .fault _ _) => (s, 7)
    | (s, .ok nonce) =>
      let r := draw s
      match sebWrite r.2 (argAddr s + 64) 512 (osToImage (signedReport r.2 nonce r.1)) with
      | (s, true) => (s, 0)
      | (s, false) => (s, 7)) = (w, 0)
  rw [hread]
  dsimp only
  rw [hw]

theorem exec_attest {s : State} (h : SebTakes s .mainband) : exec .attest s = .next (sebStart (runAttest s).1 2 0 (runAttest s).2) :=
  congrArg Host.Outcome.next (sebGate_taken h _ _)

theorem exec_writeCert {s : State} (h : SebTakes s .mainband) :
    exec .writeCert s = .next (sebStart (runWriteCert s).1 6 0 (runWriteCert s).2) :=
  congrArg Host.Outcome.next (sebGate_taken h _ _)

theorem runWriteCert_installs {n v : Nat} {s u w : State} (h1 : s.seb.state = 1) (hc : s.seb.cert = none) (ha : argLegal s 4 = true)
    (hn : memRead s .seb (argAddr s) 4 = (u, .ok n)) (hlo : 1 ≤ n) (hhi : n ≤ 4096) (hb : argLegal u (64 + n) = true)
    (hv : memRead u .seb (argAddr u + 64) n = (w, .ok v)) :
    runWriteCert s = ({ w with seb := { w.seb with cert := some (n, v) } }, 0) := by
  unfold runWriteCert
  rw [if_neg (by simp [h1, hc]), if_neg (by simp [ha]), hn]
  dsimp only
  rw [if_neg (by omega), if_neg (by simp [hb]), hv]

/-- Settles O32, command by command. -/
theorem securityCommandsComplete : Obligations.SecurityCommandsComplete := by
  refine ⟨?_, ?_, ?_, ?_, ?_, ?_, ?_, ?_, ?_, ?_, ?_, ?_, ?_, ?_, ?_⟩
  · intro s hr
    obtain ⟨seb, words⟩ := freshChallenge_leaves s
    have hx : exec .challenge s = .next (if sebBusy s then freshChallenge s else sebStart (freshChallenge s) 1 0 0) :=
      congrArg Host.Outcome.next (ifPermitted_of_reaches hr _ _)
    refine ⟨_, hx, ?_⟩
    cases sebBusy s with
    | true => exact ⟨(congrArg Seb.challengeIn seb :), words, by simp, fun _ => (congrArg Seb.run seb :)⟩
    | false => exact ⟨(congrArg Seb.challengeIn seb :), words, fun _ => rfl, by simp⟩
  · intro nonce s u w ht h0 h4 ha hr hw
    refine ⟨_, exec_attest ht, ?_⟩
    rw [runAttest_reads h0 h4 ha hr hw]
    refine ⟨rfl, rfl, ?_⟩
    have hu : u.seb = (reportCounted s).seb := (congrArg (·.1.seb) hr).symm.trans (memRead_seb (reportCounted s) .seb (argAddr s) 32)
    have hww : w.seb = (draw u).2.seb := (congrArg (·.1.seb) hw).symm.trans (sebWrite_seb _ _ _ _)
    exact congrArg Seb.reports (hww.trans hu)
  · intro s ht hs
    have ha : runAttest s = (s, 8) := if_pos hs
    refine ⟨_, exec_attest ht, ?_⟩
    rw [ha]
    exact ⟨rfl, rfl, rfl⟩
  · intro s ht h0 h4 hl
    have ha : runAttest s = (s, 1) := (if_neg (by simp [h0, h4])).trans (if_pos (by simp [hl]))
    refine ⟨_, exec_attest ht, ?_⟩
    rw [ha]
    exact ⟨rfl, rfl, rfl⟩
  · intro path target s ht hm hn
    obtain ⟨state, reset, -, key⟩ := lifecycle_moves s target.toNat 0 []
    refine ⟨_, exec_transition_legal ht hm, ?_⟩
    rw [runTransition_free hn]
    exact ⟨state, reset, fun e => key (by rw [e]; rfl)⟩
  · intro path target also s ht hm hn
    obtain ⟨state, reset, -, -⟩ := lifecycle_moves s target.toNat 0 also
    refine ⟨_, exec_transition_legal ht hm, ?_⟩
    rw [runTransition_free hn]
    exact ⟨state, reset⟩
  · intro path target tok s u ht hm hn ha hr
    refine ⟨_, exec_transition_legal ht hm, ?_⟩
    have hread (f : Fld) (hf : f.inPage = true) : rd u .seb f = rd s .seb f :=
      ((onward_memRead s .seb (argAddr s) 960).fst hr).fields _ _ (apart_of_page (by decide) rfl hf)
    have hseb : u.seb = s.seb := (congrArg (·.1.seb) hr).symm.trans (memRead_seb s .seb (argAddr s) 960)
    rw [runTransition_token hn ha hr, tokenRead]
    by_cases hv : (tokenVerdict u target.toNat tok).1 = 0
    · rw [if_pos hv]
      obtain ⟨state, reset, masked, -⟩ := lifecycle_moves (challengeSpent u (tokenVerdict u target.toNat tok).2) target.toNat
        (if target.toNat = 3 then fieldAt tok 5 1 else 0) []
      refine ⟨fun _ => ⟨state, wasReset_challengeSpent reset, masked.trans ?_⟩, fun k => absurd hv k⟩
      split <;> rfl
    · rw [if_neg hv]
      exact ⟨fun k => absurd k hv, fun _ => token_refused hread hseb target.toNat (tokenVerdict u target.toNat tok)⟩
  · intro path target s ht hm
    exact ⟨_, exec_transition_illegal ht hm, rfl, rfl, rfl⟩
  · intro s ht hi
    refine ⟨_, congrArg Host.Outcome.next (sebGate_taken ht _ _), rfl, ?_⟩
    show max s.seb.svnFused (if inRecovery s then 0 else _) = _
    rw [hi]
    rfl
  · intro s ht h3
    exact ⟨_, congrArg Host.Outcome.next ((sebGate_taken ht _ _).trans (if_pos h3)), rfl, rfl, rfl⟩
  · intro s ht h3
    exact ⟨_, congrArg Host.Outcome.next ((sebGate_taken ht _ _).trans (if_neg h3)), rfl, rfl⟩
  · intro n v s u w ht h1 hc ha hn hlo hhi hb hv
    refine ⟨_, exec_writeCert ht, ?_⟩
    rw [runWriteCert_installs h1 hc ha hn hlo hhi hb hv]
    exact ⟨rfl, rfl⟩
  · intro s ht hs
    have hc : runWriteCert s = (s, 8) := if_pos hs
    refine ⟨_, exec_writeCert ht, ?_⟩
    rw [hc]
    exact ⟨rfl, rfl⟩
  · intro r s hr hw
    obtain ⟨run, done, result⟩ := commandEnds_leaves s r
    refine ⟨_, exec_sebCommandDone hr, ?_, (unlost_runHeld _ _).stickies _ _ (by decide) done, fun hh => ?_⟩
    · rw [runHeld_seb]
      exact run
    · rw [runHeld_none (by rw [commandEnds_mc, hh]), result]
      exact Nat.mod_eq_of_lt hw
  · intro s hr hb c hc
    exact ⟨_, sebCommand_refused (.inl ⟨rfl, hc⟩) hr hb, rd_stateErr rfl s, rfl, rfl⟩

end Sys2Proof.Machine

/-! SUPPORT and settlement of O34: the phases of the bring-up (R273, R278, R355, R370, R372, R373, R375, R391). -/

namespace Sys2Proof.Machine

set_option Elab.async false -- each thread's stack counts against the check's memory limit

/-! ### The phase -/

theorem inPhase_of {s t : State} {n : Nat} (hr : t.rst = s.rst) (hh : s.rst.held = false) (hp : rd t .reset Reg.rst.PHASE = n) :
    inPhase t n = true := by simp [inPhase, hr, hh, hp]

theorem held_of_inPhase {s : State} {n : Nat} (h : inPhase s n = true) : s.rst.held = false := by
  simp only [inPhase, Bool.and_eq_true, Bool.not_eq_true'] at h
  exact h.1

theorem phase_of_inPhase {s : State} {n : Nat} (h : inPhase s n = true) : rd s .reset Reg.rst.PHASE = n := by
  simp only [inPhase, Bool.and_eq_true, beq_iff_eq] at h
  exact h.2

theorem phase_setPhase (s : State) {n : Nat} (hn : n < 8) : rd (setPhase s n) .reset Reg.rst.PHASE = n :=
  (rd_wr _ _ _ _).trans (Nat.mod_eq_of_lt hn)

theorem rd_setPhase_ne {q : Page} {f : Fld} (hf : f.inPage = true) (h : q ≠ .reset ∨ f.off ≠ 0x040) (s : State) (n : Nat) :
    rd (setPhase s n) q f = rd s q f := rd_wr_ne _ _ _ _ _ _ (key_ne_of_off (by decide) hf h)

theorem rd_setSticky_off {q : Page} {f : Fld} (hq : q ≠ .hif) (hf : f.inPage = true) (ho : f.off ≠ 0x018) (s : State) (p : Page) (b : Nat) :
    rd (setSticky s p b) q f = rd s q f := rd_setSticky hq hf s p b (key_ne_of_off (by decide) hf (.inr ho))

theorem sticky_setPhase (s : State) (n : Nat) (q : Page) (b : Nat) : sticky (setPhase s n) q b = sticky s q b :=
  sticky_other (rd_setPhase_ne (by decide) (.inr (by decide)) s n) b

/-! ### FUSES and BOOT -/

theorem nextSideband_le {up m : Nat} {lost : List Nat} (hm : m < 16) (hu : bit up m = true) (hl : m ∉ lost) : nextSideband up lost ≤ m := by
  unfold nextSideband
  cases e : (List.range 16).find? fun m => bit up m && !lost.contains m with
  | none => exact absurd (List.find?_eq_none.1 e m (List.mem_range.2 hm)) (by simp [hu, hl])
  | some i =>
    obtain ⟨-, -, hn⟩ := List.find?_range_eq_some.1 e
    refine Nat.not_lt.1 fun (lt : m < i) => ?_
    have := hn m lt
    simp [hu, hl] at this

theorem sidebandModule_trainSidebands (s : State) {v m : Nat} (hm : m < 16) (hb : bit v m = true) :
    (trainSidebands s (v % 2 ^ 16)).hif.sidebandModule ≤ m := by
  have hv : bit (v % 2 ^ 16) m = true := by
    rw [bit_eq] at hb ⊢
    rw [Nat.testBit_mod_two_pow, hb, decide_eq_true hm]
    rfl
  refine nextSideband_le hm ?_ fun h => ?_
  · rw [bit_eq] at hv ⊢
    rw [Nat.testBit_or, hv, Bool.or_true]
  · rw [List.mem_filter, hv] at h
    exact absurd h.2 (by decide)

/-- The fuses have been loaded. -/
def fused (s : State) : State := s.seb.fusedRows.foldl fuseRow s

theorem fused_leaves (s : State) : (fused s).rst = s.rst ∧ (fused s).drawn = s.drawn :=
  ⟨foldl_keeps (P := fun t => t.rst = s.rst) (fun t e h => fuseRow_keeps (closed_rst s.rst _ (by decide)) t e h) rfl,
    foldl_keeps (P := fun t => t.drawn = s.drawn) (fun t e h => fuseRow_keeps (closed_drawn s.drawn _ (by decide)) t e h) rfl⟩

theorem bootImage_leaves (s : State) (b : Bool) : (bootImage s b).rst = s.rst ∧ rd (bootImage s b) .reset Reg.rst.PHASE = 3
    ∧ (bootImage s b).mc.activeB = b ∧ (imageOfSlot (bootImage s b) b).valid = true
    ∧ sticky (bootImage s b) .seb Sticky.seb.BOOT_FALLBACK = sticky s .seb Sticky.seb.BOOT_FALLBACK := by
  refine ⟨rfl, phase_setPhase _ (by decide), rfl, ?_, ?_⟩
  · cases b <;> rfl
  · rw [bootImage, sticky_setPhase]
    rfl

theorem exec_bootDone {s : State} (hp : inPhase s 2 = true) (hr : on s .reset Reg.rst.RECOVERY = false) :
    exec .bootDone s = if bootable s s.seb.bootB then .next (bootImage s s.seb.bootB)
      else if bootable s (!s.seb.bootB) then .next (setSticky { bootImage s (!s.seb.bootB) with
        seb := { (bootImage s (!s.seb.bootB)).seb with fallback := true } } .seb Sticky.seb.BOOT_FALLBACK)
      else .next (wr (wr s .reset Reg.rst.RECOVERY 1) .seb Reg.seb.RECOVERY 1) :=
  if_neg (by simp [hp, hr])

/-! ### MC_INIT: the record is applied, and the galleries are placed (R372) -/

/-- The fields of the reset page and of the links, which no entry of the record and no gallery's place writes. -/
def Placed : Scope := ⟨fun q f => f.inPage = true ∧ (q = .reset ∨ ∃ l, q = linkPage l), fun _ => True⟩

theorem Placed.ne_page {q p : Page} {f : Fld} (k : Placed.field q f) (hr : p ≠ .reset) (hl : ∀ l, p ≠ linkPage l) : q ≠ p := by
  rintro rfl
  rcases k.2 with e | ⟨l, e⟩
  · exact hr e
  · exact hl l e

theorem placed_wr {p : Page} {g : Fld} (hg : g.inPage = true) (ho : g.off ≠ 0x018) (hif : p ≠ .hif) (hr : p ≠ .reset)
    (hl : ∀ l, p ≠ linkPage l) (s : State) (v : Nat) : Onward Placed s (wr s p g v) :=
  onward_wr hg ho (.inl hif) (fun _ _ (k : Placed.field _ _) => key_ne_of_off hg k.1 (.inl (Placed.ne_page k hr hl))) s v

theorem placed_hall {g : Fld} (hg : g.inPage = true) (ho : g.off ≠ 0x018) (h : Nat) (s : State) (v : Nat) :
    Onward Placed s (wr s (hallPage h) g v) :=
  placed_wr hg ho (hallPage_ne_hif h) (by simp [hallPage]) (by simp [hallPage, linkPage]) s v

theorem placed_array {g : Fld} (hg : g.inPage = true) (ho : g.off ≠ 0x018) (h k : Nat) (s : State) (v : Nat) :
    Onward Placed s (wr s (arrPage h k) g v) :=
  placed_wr hg ho (arrPage_ne_hif h k) (by simp [arrPage]) (by simp [arrPage, linkPage]) s v

theorem placed_hallCache {g : Fld} (hg : g.inPage = true) (ho : g.off ≠ 0x018) (h : Nat) (s : State) (v : Nat) :
    Onward Placed s (wr s (hcPage h) g v) :=
  placed_wr hg ho (by simp [hcPage]) (by simp [hcPage]) (by simp [hcPage, linkPage]) s v

theorem placed_stack {g : Fld} (hg : g.inPage = true) (ho : g.off ≠ 0x018) (h : Nat) (s : State) (v : Nat) :
    Onward Placed s (wr s (scPage h) g v) :=
  placed_wr hg ho (scPage_ne_hif h) (by simp [scPage]) (by simp [scPage, linkPage]) s v

/-- What a step leaves of its list, for a list taken from numbers below a bound. -/
theorem onward_foldl_mem {F : Scope} {α : Type} {f : State → α → State} (l : List α) (hf : ∀ a ∈ l, ∀ s, Onward F s (f s a)) :
    ∀ s : State, Onward F s (l.foldl f s) := by
  induction l with
  | nil => exact .refl
  | cons a l ih => exact fun s => (hf a List.mem_cons_self s).trans (ih (fun b hb => hf b (List.mem_cons_of_mem _ hb)) _)

theorem placed_retireHall (s : State) (h : Nat) : Onward Placed s (retireHall s h) := by
  rw [retireHall_eq]
  refine ((placed_hall (by decide) (by decide) h s 0).trans (placed_hall (by decide) (by decide) h _ 1)).trans
    (.trans (onward_foldl_mem (f := fun s i => wr s (hallPage h) (Reg.hall.REMAP i) 31) _ (fun i hi s => ?_) _)
      (onward_foldl (f := takeOut h) (fun s g => placed_array rfl (show (0x008 : Nat) ≠ 0x018 by decide) h g s 1) _ _))
  exact placed_hall (remap_inPage (List.mem_range.1 hi)) (by simp only [Reg.hall.REMAP]; omega) h s 31

theorem placed_placeGallery (s : State) (h g : Nat) : Onward Placed s (placeGallery s h g) :=
  (placed_array rfl (show (0x008 : Nat) ≠ 0x018 by decide) h g s _).trans
    (placed_array rfl (show (0x00C : Nat) ≠ 0x018 by decide) h g _ _)

theorem placed_same {s t : State} (h : t.regs = s.regs) (hs : t.hif = s.hif) : Onward Placed s t := onward_same h (by rw [hs]) (by rw [hs]) (attended_of_hif hs)

theorem placed_restoreEntry {s t : State} {e : Nat} (h : restoreEntry s e = some t) : Onward Placed s t := by
  unfold restoreEntry at h
  dsimp only at h
  split at h
  · unfold restoreSwap at h
    dsimp only at h
    split at h
    · cases h
    · next hn =>
      cases h
      have hi : bits (bits e 32 32) 0 5 < 16 := by omega
      exact placed_hall (remap_inPage hi) (by simp only [Reg.hall.REMAP]; omega) _ s _
  · cases h
    exact (placed_retireHall s _).trans (placed_hallCache (by decide) (by decide) _ _ _)
  · unfold restoreRow at h
    dsimp only at h
    split at h <;> cases h
    exact placed_same rfl rfl
  · unfold restoreDramRow at h
    dsimp only at h
    split at h <;> cases h
    exact placed_same rfl rfl
  · unfold restoreLane at h
    dsimp only at h
    split at h <;> cases h
    exact placed_same rfl rfl
  · unfold restoreDie at h
    dsimp only at h
    split at h <;> cases h
    exact (placed_stack (by decide) (by decide) _ s _).trans (placed_stack (by decide) (by decide) _ _ _)
  · unfold restoreWay at h
    split at h <;> cases h
    exact placed_hallCache (by decide) (by decide) _ s _
  · cases h

/-- The same fields but RECORD_SKIPPED and STICKY, which an entry that cannot be applied changes. -/
def Applied : Scope := ⟨fun q f => Placed.field q f ∧ f.off ≠ 0x05C ∧ f.off ≠ 0x018, fun _ => True⟩

theorem Placed.ne_hif {q : Page} {f : Fld} (k : Placed.field q f) : q ≠ .hif := by
  rcases k.2 with rfl | ⟨l, rfl⟩
  · decide
  · simp [linkPage]

theorem applied_applyEntry (s : State) (e : Nat) : Onward Applied s (applyEntry s e) := by
  unfold applyEntry
  split
  · next h => exact (placed_restoreEntry h).mono fun _ _ (k : Applied.field _ _) => k.1
  · refine (onward_bump (by decide) (by decide) (.inl (by decide))
      (fun _ _ (k : Applied.field _ _) => key_ne_of_off (by decide) k.1.1 (.inr k.2.1)) s).trans
      (onward_setSticky (fun _ _ (k : Applied.field _ _) => ⟨?_, .inr k.2.2⟩) _ _)
    simp [Silent, silent, k.1.1, Placed.ne_hif k.1]

theorem applied_restoreAll (s : State) : Onward Applied s (restoreAll s) :=
  (onward_foldl applied_applyEntry _ s).trans
    (onward_foldl (fun s (e : Nat × Nat) => (placed_placeGallery s e.1 e.2).mono fun _ _ (k : Applied.field _ _) => k.1) _ _)

/-! ### MC_INIT: the links begin training (R283) -/

/-- A link that may train begins. -/
def trainLink (s : State) (l : Nat) : State :=
  if on s (linkPage l) Reg.lnk.TRAIN_EN then wr s (linkPage l) Reg.lnk.LINK_STATE 1 else s

theorem linkPage_ne {l k : Nat} (hl : l < 8) (hk : k < 8) (h : l ≠ k) : linkPage l ≠ linkPage k := by
  intro e
  have := congrArg (fun p => match p with | Page.link i => i.val | _ => 0) e
  simp only [linkPage, Fin.ofNat, Nat.mod_eq_of_lt hl, Nat.mod_eq_of_lt hk] at this
  exact h this

theorem rd_trainLink_ne {q : Page} {f : Fld} (hf : f.inPage = true) (s : State) {l : Nat} (h : q ≠ linkPage l ∨ f.off ≠ 0x044) :
    rd (trainLink s l) q f = rd s q f := by
  unfold trainLink
  split
  · exact rd_wr_ne _ _ _ _ _ _ (key_ne_of_off (by decide) hf h)
  · rfl

theorem rd_trainLinks_ne {q : Page} {f : Fld} (hf : f.inPage = true) (ho : f.off ≠ 0x044) (l : List Nat) : ∀ s : State,
    rd (l.foldl trainLink s) q f = rd s q f := by
  induction l with
  | nil => exact fun _ => rfl
  | cons a l ih => exact fun s => (ih _).trans (rd_trainLink_ne hf s (.inr ho))

theorem linkState_trainLinks (s : State) {l : Nat} (hl : l < 8) (ht : on s (linkPage l) Reg.lnk.TRAIN_EN = true) : ∀ n ≤ 8,
    l < n → rd ((List.range n).foldl trainLink s) (linkPage l) Reg.lnk.LINK_STATE = 1 := by
  intro n
  induction n with
  | zero => exact fun _ h => (Nat.not_lt_zero l h).elim
  | succ n ih =>
    intro hn h
    rw [List.range_succ, List.foldl_append, List.foldl_cons, List.foldl_nil]
    by_cases e : l = n
    · subst e
      have hon : on ((List.range l).foldl trainLink s) (linkPage l) Reg.lnk.TRAIN_EN = true := by
        rw [on, rd_trainLinks_ne (by decide) (by decide)]
        exact ht
      rw [trainLink, if_pos hon, rd_wr]
      rfl
    · rw [rd_trainLink_ne (by decide) _ (.inl (linkPage_ne hl hn e))]
      exact ih (by omega) (by omega)

theorem trainLinks_eq (s : State) : trainLinks s = (List.range 8).foldl trainLink s := rfl

/-- The device at the end of MC_INIT. -/
def initDone (s : State) : State := trainLinks (setPhase (restoreAll (calibrateAll s)) 4)

theorem exec_mcInitDone {s : State} (h : inPhase s 3 = true) : exec .mcInitDone s = .next (initDone s) := if_pos h

theorem initDone_rst (s : State) : (initDone s).rst = s.rst :=
  trainLinks_keeps (closed_rst s.rst _ (by decide)) _ (setPhase_keeps (closed_rst s.rst _ (by decide)) _ 4
    (restoreAll_keeps (closed_rst s.rst _ (by decide)) _ rfl))

theorem initDone_mc (s : State) : (initDone s).mc = (calibrateAll s).mc :=
  trainLinks_keeps (closed_mc _ _ (by decide)) _ (setPhase_keeps (closed_mc _ _ (by decide)) _ 4
    (restoreAll_keeps (closed_mc (calibrateAll s).mc _ (by decide)) _ rfl))

theorem cal_calibrateAll (s : State) : (calibrateAll s).mc.cal.map Prod.fst = allTimers := by
  show (allTimers.zipIdx.map (fun e => (e.1, Config.free (s.drawn + e.2) % 2 ^ 24))).map Prod.fst = allTimers
  generalize allTimers = l
  exact List.map_map.trans (List.zipIdx_map_fst 0 l)

theorem initDone_phase (s : State) : rd (initDone s) .reset Reg.rst.PHASE = 4 := by
  rw [initDone, trainLinks_eq, rd_trainLinks_ne (by decide) (by decide)]
  exact phase_setPhase _ (by decide)

theorem initDone_link (s : State) {l : Nat} (hl : l < 8) (ht : on s (linkPage l) Reg.lnk.TRAIN_EN = true) :
    rd (initDone s) (linkPage l) Reg.lnk.LINK_STATE = 1 := by
  rw [initDone, trainLinks_eq]
  refine linkState_trainLinks (setPhase (restoreAll (calibrateAll s)) 4) hl ?_ 8 (Nat.le_refl 8) hl
  rw [on, rd_setPhase_ne (by decide) (.inl (by simp [linkPage])),
    (applied_restoreAll _).fields _ _ ⟨⟨by decide, .inr ⟨l, rfl⟩⟩, by decide, by decide⟩]
  exact ht

/-- The record's entry for a lane whose spare is in use. -/
theorem restoreEntry_lane_used {s : State} {h ch lane spare : Nat} (hh : h < 16) (hc : ch < 64) (hl : lane < 288) (hs : spare < 4)
    (hb : bit (spareMask (dram s h) ch) spare = true) :
    restoreEntry s (5 + h * 2 ^ 4 + (ch + lane * 2 ^ 6 + spare * 2 ^ 15) * 2 ^ 32) = none := by
  have kind : bits (5 + h * 2 ^ 4 + (ch + lane * 2 ^ 6 + spare * 2 ^ 15) * 2 ^ 32) 0 4 = 5 := by unfold bits; omega
  have hall : bits (5 + h * 2 ^ 4 + (ch + lane * 2 ^ 6 + spare * 2 ^ 15) * 2 ^ 32) 4 4 = h := by unfold bits; omega
  have word : bits (5 + h * 2 ^ 4 + (ch + lane * 2 ^ 6 + spare * 2 ^ 15) * 2 ^ 32) 32 32 = ch + lane * 2 ^ 6 + spare * 2 ^ 15 := by
    unfold bits; omega
  have c : bits (ch + lane * 2 ^ 6 + spare * 2 ^ 15) 0 6 = ch := by unfold bits; omega
  have i : bits (ch + lane * 2 ^ 6 + spare * 2 ^ 15) 15 3 = spare := by unfold bits; omega
  unfold restoreEntry
  dsimp only
  rw [kind, hall, word]
  unfold restoreLane
  dsimp only
  rw [c, i]
  exact if_pos (.inr (.inr hb))

/-! ### TRAIN (R273) -/

/-- Every spare data lane of a channel is in use. -/
def NoSpare (d : Stack) (ch : Nat) : Prop := ∀ i < 4, bit (spareMask d ch) i = true

theorem freeSpare_none_iff {d : Stack} {ch : Nat} : freeSpare d ch = none ↔ NoSpare d ch := by
  simp [freeSpare, NoSpare, List.find?_eq_none]

theorem spareMask_moveLane (d : Stack) (ch lane spare k : Nat) :
    spareMask (moveLane d ch lane spare) k = if k = ch then spareMask d ch ||| 2 ^ spare else spareMask d k := by
  unfold spareMask moveLane
  dsimp only
  rw [NatMap.get?_set]
  split <;> rfl

theorem noSpare_moveLane {d : Stack} {k : Nat} (h : NoSpare d k) (ch lane spare : Nat) : NoSpare (moveLane d ch lane spare) k := by
  intro i hi
  rw [spareMask_moveLane]
  split
  · next e =>
    have := h i hi
    rw [bit_eq] at this ⊢
    rw [Nat.testBit_or, ← e, this, Bool.true_or]
  · exact h i hi

/-- A lane's bond has been repaired, or cannot be, and the MC has been told. -/
def LaneSettled (t : State) (x : BondLane) : Prop :=
  x.channel.val * 288 + x.lane.val ∈ (dram t x.stack).lanesMoved
    ∨ (NoSpare (dram t x.stack) x.channel ∧ sticky t (scPage x.stack) Sticky.sc.LANE_EXHAUSTED = true ∧ .report ∈ t.mc.repairs)

/-- What the repairs of a training's lanes leave: no moved lane, spare in use, alarm or event is lost; only the lanes `xs` move, and
only their channels take spares. -/
structure LanesTrained (xs : List BondLane) (s t : State) : Prop where
  moved : ∀ h, (dram s h).lanesMoved ⊆ (dram t h).lanesMoved
  full : ∀ h ch, NoSpare (dram s h) ch → NoSpare (dram t h) ch
  alarms : ∀ q b, b < 32 → sticky s q b = true → sticky t q b = true
  events : s.mc.repairs ⊆ t.mc.repairs
  only : ∀ h k, k ∈ (dram t h).lanesMoved → k ∈ (dram s h).lanesMoved
    ∨ ∃ x ∈ xs, x.stack.val = h ∧ x.lane.val < 288 ∧ k = x.channel.val * 288 + x.lane.val
  others : ∀ h ch, (∀ x ∈ xs, x.stack.val = h → x.channel.val ≠ ch) → spareMask (dram t h) ch = spareMask (dram s h) ch

theorem LanesTrained.refl (s : State) : LanesTrained [] s s :=
  ⟨fun _ _ k => k, fun _ _ k => k, fun _ _ _ k => k, fun _ k => k, fun _ _ k => .inl k, fun _ _ _ => rfl⟩

theorem LanesTrained.cons {x : BondLane} {xs : List BondLane} {s t u : State} (a : LanesTrained [x] s t) (b : LanesTrained xs t u) :
    LanesTrained (x :: xs) s u where
  moved h _ k := b.moved h (a.moved h k)
  full h ch k := b.full h ch (a.full h ch k)
  alarms q i hi k := b.alarms q i hi (a.alarms q i hi k)
  events _ k := b.events (a.events k)
  only h k hk := by
    rcases b.only h k hk with hk | ⟨y, hy, e⟩
    · rcases a.only h k hk with hk | ⟨y, hy, e⟩
      · exact .inl hk
      · exact .inr ⟨y, List.mem_cons.2 (.inl (List.mem_singleton.1 hy)), e⟩
    · exact .inr ⟨y, List.mem_cons_of_mem _ hy, e⟩
  others h ch hne := (b.others h ch fun y hy => hne y (List.mem_cons_of_mem _ hy)).trans
    (a.others h ch fun y hy => hne y (List.mem_cons.2 (.inl (List.mem_singleton.1 hy))))

/-- What leaves the stacks' spares as they are, and loses no alarm and no event. -/
theorem lanesTrained_of_drams (xs : List BondLane) {s t : State} (hd : t.drams = s.drams)
    (ha : ∀ q b, b < 32 → sticky s q b = true → sticky t q b = true) (he : s.mc.repairs ⊆ t.mc.repairs) : LanesTrained xs s t := by
  have same (h : Nat) : dram t h = dram s h := by rw [dram, hd, dram]
  exact ⟨fun h => by rw [same h]; exact fun _ k => k, fun h ch k => by rw [same h]; exact k, ha, he,
    fun h k hk => .inl (by rwa [same h] at hk), fun h ch _ => by rw [same h]⟩

/-- A lane has moved to a spare. -/
theorem lanesTrained_moveLane (s : State) (x : BondLane) (i : Nat) (hx : x.lane.val < 288) :
    LanesTrained [x] s (setDram s x.stack (moveLane (dram s x.stack) x.channel x.lane i)) := by
  have at' (h : Nat) : dram (setDram s x.stack (moveLane (dram s x.stack) x.channel x.lane i)) h
      = if h = x.stack.val then moveLane (dram s h) x.channel x.lane i else dram s h := by
    split
    · next e => rw [e, dram_setDram]
    · next e => rw [dram_setDram_ne _ _ _ _ e]
  refine ⟨fun h k hk => ?_, fun h ch k => ?_, fun q b _ k => k, fun _ k => k, fun h k hk => ?_, fun h ch hne => ?_⟩
  · rw [at']
    split
    · exact List.mem_cons_of_mem _ hk
    · exact hk
  · rw [at']
    split
    · exact noSpare_moveLane k _ _ _
    · exact k
  · rw [at'] at hk
    split at hk
    · next e =>
      rcases List.mem_cons.1 hk with rfl | hk
      · exact .inr ⟨x, List.mem_singleton.2 rfl, e.symm, hx, rfl⟩
      · exact .inl hk
    · exact .inl hk
  · rw [at']
    split
    · next e => rw [spareMask_moveLane, if_neg (fun c => hne x (List.mem_singleton.2 rfl) e.symm c.symm)]
    · rfl

/-- A command and address lane takes a spare of its own. -/
theorem lanesTrained_caSpare (s : State) (x : BondLane) (v : NatMap Nat) :
    LanesTrained [x] s (setDram s x.stack { dram s x.stack with caSpares := v }) := by
  have at' (h : Nat) : (dram (setDram s x.stack { dram s x.stack with caSpares := v }) h).lanesMoved = (dram s h).lanesMoved
      ∧ spareMask (dram (setDram s x.stack { dram s x.stack with caSpares := v }) h) = spareMask (dram s h) := by
    by_cases e : h = x.stack.val
    · subst e
      rw [dram_setDram]
      exact ⟨rfl, rfl⟩
    · rw [dram_setDram_ne _ _ _ _ e]
      exact ⟨rfl, rfl⟩
  refine ⟨fun h => by rw [(at' h).1]; exact fun _ k => k, fun h ch k => ?_, fun _ _ _ k => k, fun _ k => k,
    fun h k hk => .inl (by rwa [(at' h).1] at hk), fun h ch _ => by rw [(at' h).2]⟩
  rw [NoSpare, (at' h).2]
  exact k

theorem lanesTrained_exhausted (xs : List BondLane) (s : State) (h : Nat) :
    LanesTrained xs s (reportRepair (setSticky s (scPage h) Sticky.sc.LANE_EXHAUSTED)) := by
  refine lanesTrained_of_drams xs (setSticky_drams _ _ _) (fun q b hb k => sticky_setSticky_mono s (scPage h) q _ b hb k) fun e he => ?_
  show e ∈ (setSticky s (scPage h) Sticky.sc.LANE_EXHAUSTED).mc.repairs ++ [.report]
  rw [setSticky_mc]
  exact List.mem_append_left _ he

/-- One lane of a training. -/
theorem repairLane_trains (s : State) (x : BondLane) :
    LanesTrained [x] s (repairLane s x) ∧ (x.lane.val < 288 → LaneSettled (repairLane s x) x) := by
  unfold repairLane
  dsimp only
  by_cases hx : x.lane.val < 288
  · rw [if_pos hx]
    split
    · next hc =>
      exact ⟨lanesTrained_of_drams _ rfl (fun _ _ _ k => k) fun _ k => k, fun _ => .inl (List.contains_iff_mem.1 hc)⟩
    · split
      · next i _ =>
        refine ⟨lanesTrained_moveLane s x i hx, fun _ => .inl ?_⟩
        rw [dram_setDram]
        exact List.mem_cons_self
      · next hn =>
        refine ⟨lanesTrained_exhausted _ s _, fun _ => .inr ⟨?_, ?_, ?_⟩⟩
        · rw [show dram (reportRepair (setSticky s (scPage x.stack) Sticky.sc.LANE_EXHAUSTED)) x.stack = dram s x.stack from
            setSticky_same_dram _ _ _ _]
          exact freeSpare_none_iff.1 hn
        · exact sticky_setSticky _ _ _ (by decide)
        · exact List.mem_append_right _ (List.mem_singleton.2 rfl)
  · rw [if_neg hx]
    refine ⟨?_, fun k => absurd k hx⟩
    split
    · exact lanesTrained_caSpare s x _
    · exact lanesTrained_of_drams _ rfl (fun _ _ _ k => k) fun _ k => List.mem_append_left _ k

theorem LaneSettled.later {xs : List BondLane} {s t : State} {x : BondLane} (h : LaneSettled s x) (k : LanesTrained xs s t) :
    LaneSettled t x :=
  h.imp (k.moved _ ·) fun ⟨full, alarm, event⟩ => ⟨k.full _ _ full, k.alarms _ _ (by decide) alarm, k.events event⟩

theorem repairLanes_train (xs : List BondLane) : ∀ s : State, LanesTrained xs s (xs.foldl repairLane s)
    ∧ ∀ x ∈ xs, x.lane.val < 288 → LaneSettled (xs.foldl repairLane s) x := by
  induction xs with
  | nil => exact fun s => ⟨.refl s, fun _ h => (List.not_mem_nil h).elim⟩
  | cons x xs ih =>
    intro s
    obtain ⟨first, settled⟩ := repairLane_trains s x
    obtain ⟨rest, others⟩ := ih (repairLane s x)
    refine ⟨first.cons rest, fun y hy hl => ?_⟩
    rcases List.mem_cons.1 hy with rfl | hy
    · exact (settled hl).later rest
    · exact others y hy hl

/-! ### WIPE, the self-test and the MC's responses to it (R278, R373, R375) -/

/-- The fields of the reset page and of the gallery memories but STICKY, which no response of the MC writes. -/
def Mended : Scope := ⟨fun q f => f.inPage = true ∧ f.off ≠ 0x018 ∧ (q = .reset ∨ ∃ h g, q = memPage h g), fun _ => True⟩

theorem Mended.ne_page {q p : Page} {f : Fld} (k : Mended.field q f) (hr : p ≠ .reset) (hm : ∀ h g, p ≠ memPage h g) : q ≠ p := by
  rintro rfl
  rcases k.2.2 with e | ⟨h, g, e⟩
  · exact hr e
  · exact hm h g e

theorem Mended.silent {q : Page} {f : Fld} (k : Mended.field q f) : Silent.field q f := by
  have : q ≠ .hif := Mended.ne_page k (by decide) (by simp [memPage])
  simp [Silent, Machine.silent, k.1, this]

theorem mended_setSticky (s : State) (p : Page) (b : Nat) : Onward Mended s (setSticky s p b) :=
  onward_setSticky (fun _ _ (k : Mended.field _ _) => ⟨Mended.silent k, .inr k.2.1⟩) s b

theorem mended_recordRepair (s : State) (kind hall w1 w2 w3 : Nat) : Onward Mended s (recordRepair s kind hall w1 w2 w3) :=
  (onward_recordRepair s kind hall w1 w2 w3).mono fun _ _ (k : Mended.field _ _) => ⟨Mended.silent k, .inr k.2.1⟩

theorem mended_same {s t : State} (h : t.regs = s.regs) (hs : t.hif = s.hif) : Onward Mended s t := onward_same h (by rw [hs]) (by rw [hs]) (attended_of_hif hs)

theorem mended_wr {p : Page} {g : Fld} (hg : g.inPage = true) (ho : g.off ≠ 0x018) (hif : p ≠ .hif) (hr : p ≠ .reset)
    (hm : ∀ h k, p ≠ memPage h k) (s : State) (v : Nat) : Onward Mended s (wr s p g v) :=
  onward_wr hg ho (.inl hif) (fun _ _ (k : Mended.field _ _) => key_ne_of_off hg k.1 (.inl (Mended.ne_page k hr hm))) s v

theorem mended_hall {g : Fld} (hg : g.inPage = true) (ho : g.off ≠ 0x018) (h : Nat) (s : State) (v : Nat) :
    Onward Mended s (wr s (hallPage h) g v) :=
  mended_wr hg ho (hallPage_ne_hif h) (by simp [hallPage]) (by simp [hallPage, memPage]) s v

theorem mended_array {g : Fld} (hg : g.inPage = true) (ho : g.off ≠ 0x018) (h k : Nat) (s : State) (v : Nat) :
    Onward Mended s (wr s (arrPage h k) g v) :=
  mended_wr hg ho (arrPage_ne_hif h k) (by simp [arrPage]) (by simp [arrPage, memPage]) s v

theorem mended_setQuiesce (s : State) (h g v : Nat) : Onward Mended s (setQuiesce s h g v) :=
  mended_array rfl (show (0x00C : Nat) ≠ 0x018 by decide) h g s v

theorem mended_setGal (s : State) (h g : Nat) (x : Gallery) : Onward Mended s (setGal s h g x) := mended_same rfl rfl

theorem mended_drainGallery (s : State) (h g : Nat) : Onward Mended s (drainGallery s h g) :=
  (mended_setGal s h g _).trans (mended_setQuiesce (setGal s h g { gal s h g with busy := true }) h g 1)

theorem mended_resumeGallery (s : State) (h g : Nat) : Onward Mended s (resumeGallery s h g) :=
  (mended_setGal s h g _).trans (mended_setQuiesce (setGal s h g { gal s h g with faulted := false }) h g 0)

theorem mended_doSwap (s : State) (h g t : Nat) : Onward Mended s (doSwap s h g t) := by
  cases hi : logicalOf s h g with
  | none =>
    unfold doSwap
    rw [hi]
    exact .refl s
  | some i =>
    have map : Onward Mended s (wr s (hallPage h) (Reg.hall.REMAP i) t) :=
      mended_hall (remap_inPage (logicalOf_lt hi)) (by simp only [Reg.hall.REMAP]; omega) h s t
    have out := (map.trans (mended_array (g := Reg.hdr.OUT_OF_SERVICE (arrPage h g)) rfl (show (0x008 : Nat) ≠ 0x018 by decide) h g _ 1)).trans
      (mended_array (g := Reg.hdr.OUT_OF_SERVICE (arrPage h t)) rfl (show (0x008 : Nat) ≠ 0x018 by decide) h t _ 0)
    rw [doSwap_eq hi]
    exact (((out.trans (mended_setQuiesce _ h t 0)).trans (mended_hall (g := Reg.hall.SWAPS) (by decide) (by decide) h _ _)).trans
      (mended_setSticky _ _ _)).trans (mended_recordRepair _ _ _ _ _ _)

theorem mended_repairNeeded (s : State) : Onward Mended s (repairNeeded s) := mended_setSticky s _ _

theorem mended_swapToSpare (s : State) (h g : Nat) : Onward Mended s (swapToSpare s h g) := by
  unfold swapToSpare
  split
  · exact .ite (mended_doSwap _ _ _ _) (mended_repairNeeded s)
  · exact mended_repairNeeded s

theorem mended_setWays (s : State) (h v : Nat) : Onward Mended s (setWays s h v) := by
  unfold setWays
  dsimp only
  refine .trans ?_ (onward_foldl (f := fun s w => recordRepair s 7 h w 0 0) (fun s w => mended_recordRepair s 7 h w 0 0) _ _)
  exact (mended_wr (p := hcPage h) (g := Reg.hc.WAY_DISABLE) (by decide) (by decide) (by simp [hcPage]) (by simp [hcPage])
    (by simp [hcPage, memPage]) s _).trans (mended_same rfl rfl)

theorem mended_setRepairing (s : State) (r : Option RepairStep) : Onward Mended s (setRepairing s r) := mended_same rfl rfl

theorem mended_drainFor (s : State) (c : Prop) [Decidable c] (h g : Nat) (r : Option RepairStep) :
    Onward Mended s (setRepairing (if c then drainGallery s h g else s) r) :=
  (Onward.ite (mended_drainGallery s h g) (.refl s)).trans (mended_setRepairing _ r)

theorem mended_respondRepair (s : State) (e : RepairEvent) : Onward Mended s (respondRepair s e) := by
  cases e with
  | galleryFault h g => exact .ite (.refl s) (.ite (mended_swapToSpare s h g) (mended_repairNeeded s))
  | rowQueued h g => exact .ite (.refl s) (.ite (mended_drainFor s _ h g _) (mended_repairNeeded s))
  | spareExhausted h g => exact .ite (.refl s) (.ite (mended_repairNeeded s) (mended_drainFor s _ h g _))
  | unswappable h => exact .ite (.refl s) (mended_repairNeeded s)
  | wayErrors h w => exact .ite (.refl s) (.ite (mended_setWays s h _) (mended_repairNeeded s))
  | report => exact mended_repairNeeded s

theorem mended_endRowRepair (s : State) (h g : Nat) : Onward Mended s (endRowRepair s h g) := by
  unfold endRowRepair
  split
  · refine .ite (.trans (t := { s with mc := { s.mc with repairing := none } }) (mended_same rfl rfl) ?_) (.refl s)
    exact .ite (mended_resumeGallery _ h g) (.refl _)
  · exact .refl s

theorem mended_eventTaken (s : State) (rest : List RepairEvent) : Onward Mended s (eventTaken s rest) := mended_same rfl rfl

theorem mended_repairStep (s : State) : Onward Mended s (repairStep s) := by
  unfold repairStep
  split
  · exact mended_endRowRepair s _ _
  · exact .ite (mended_setRepairing s none) (.ite ((mended_setRepairing s none).trans (mended_swapToSpare _ _ _)) (.refl s))
  · split
    · exact .refl s
    · next e rest _ =>
      exact .ite (.refl s) ((mended_eventTaken s rest).trans (mended_respondRepair (eventTaken s rest) e))

theorem mended_repairAll (n : Nat) : ∀ s : State, Onward Mended s (repairAll n s) := by
  induction n with
  | zero => exact .refl
  | succ n ih => exact fun s => ((mended_repairStep s).trans (mended_same (t := endWalks (repairStep s)) rfl rfl)).trans (ih _)

theorem mended_exhaustSpares (s : State) (h g : Nat) : Onward Mended s (exhaustSpares s h g) :=
  (mended_setSticky s (memPage h g) _).trans (mended_same rfl rfl)

theorem mended_retireRow (s : State) (h g row : Nat) : Onward Mended s (retireRow s h g row) := by
  unfold retireRow
  dsimp only
  have moved : Onward Mended s (setGal s h g (moveRow (gal s h g) row)) := mended_same rfl rfl
  have recorded := moved.trans (mended_recordRepair _ 3 h (rowEntry g row) 0 0)
  exact .ite (recorded.trans (mended_exhaustSpares _ h g)) recorded

theorem mended_queueGalleryRow (s : State) (h g row : Nat) : Onward Mended s (queueGalleryRow s h g row) := by
  unfold queueGalleryRow
  dsimp only
  refine .ite (.refl s) ?_
  have queued : Onward Mended s (setGal s h g { gal s h g with rowQueue := (gal s h g).rowQueue ++ [row] }) := mended_same rfl rfl
  exact .ite (queued.trans (mended_same rfl rfl)) (queued.trans (mended_exhaustSpares _ h g))

/-- The device after the wipe, the self-test and the MC's responses to it. -/
def wiped (s : State) (failures : List SelfTest) : State :=
  let t := failures.foldl selfTest (wipeAll s)
  repairAll (2 * t.mc.repairs.length) t

theorem exec_wipeDone {s : State} (h : inPhase s 5 = true) (failures : List SelfTest) :
    exec (.wipeDone failures) s = .next (setSticky (setPhase (wiped s failures) 6) .reset Sticky.rst.READY_REACHED) := if_pos h

theorem wiped_rst (s : State) (failures : List SelfTest) : (wiped s failures).rst = s.rst :=
  repairAll_keeps (closed_rst s.rst _ (by decide)) _ _ (foldl_keeps (P := fun t => t.rst = s.rst)
    (fun t o h => selfTest_keeps (closed_rst s.rst _ (by decide)) t o h) rfl)

theorem wiped_dram (s : State) (failures : List SelfTest) : (wiped s failures).dram = (wipeAll s).dram :=
  repairAll_keeps (closed_dram _ _ (by decide)) _ _ (foldl_keeps (P := fun t => t.dram = (wipeAll s).dram)
    (fun t o h => selfTest_keeps (closed_dram _ _ (by decide)) t o h) rfl)

theorem byteAt_wipeAll {s : State} {a : Nat} (h : absentCell s a = false) : byteAt (wipeAll s).dram a = 0 := by
  rw [byteAt]
  exact congrArg (Option.getD · 0) (get?_filter_neg (absentCell s) h s.dram)

theorem wiped_nothing {s : State} (h : s.mc.repairs = []) : wiped s [] = wipeAll s := by
  show repairAll (2 * s.mc.repairs.length) (wipeAll s) = _
  rw [h]
  rfl

theorem gal_wipeAll (s : State) (h g : Nat) : gal (wipeAll s) h g = { Gallery.reset with rowSpared := (gal s h g).rowSpared } := by
  have := get?_map_value (fun x : Gallery => { Gallery.reset with rowSpared := x.rowSpared }) (17 * h + g) s.galleries
  unfold gal wipeAll
  dsimp only
  rw [this]
  cases NatMap.get? s.galleries (17 * h + g) <;> rfl

theorem cache_wipeAll (s : State) (h : Nat) : (cache (wipeAll s) h).lines = [] := by
  have := get?_map_value (fun _ : HallCache => HallCache.reset) h s.caches
  unfold cache wipeAll
  dsimp only
  rw [this]
  cases NatMap.get? s.caches h <;> rfl

/-! ### One failing row of the self-test (R373, R375) -/

/-- The reset page's and the memory's account of a failing row. -/
structure RowCounted (s t : State) (h : Fin 16) (g : Fin 17) (ue : Nat) : Prop where
  count : rd t (memPage h g) Reg.gm.UE_COUNT = min (rd s (memPage h g) Reg.gm.UE_COUNT + ue) (2 ^ Reg.gm.UE_COUNT.width - 1)
  failed : sticky t .reset Sticky.rst.SELFTEST_FAIL = true
  hall : bit (rd t .reset Reg.rst.SELFTEST_HALLS) h = true

theorem RowCounted.later {s t u : State} {h : Fin 16} {g : Fin 17} {ue : Nat} (k : RowCounted s t h g ue) (m : Onward Mended t u) :
    RowCounted s u h g ue where
  count := (m.fields _ _ ⟨by decide, by decide, .inr ⟨_, _, rfl⟩⟩).trans k.count
  failed := m.stickies _ _ (by decide) k.failed
  hall := by rw [m.fields _ _ ⟨by decide, by decide, .inl rfl⟩]; exact k.hall

theorem bit_selfTestFailed (s : State) (h : Fin 16) : bit (rd (selfTestFailed s h) .reset Reg.rst.SELFTEST_HALLS) h = true := by
  unfold selfTestFailed
  rw [rd_setSticky_own (by decide) (by decide) _ _ (by decide), rd_wr, bit_eq]
  rw [show Reg.rst.SELFTEST_HALLS.width = 16 from rfl, Nat.testBit_mod_two_pow, decide_eq_true h.isLt, Bool.true_and, Nat.testBit_or,
    Nat.testBit_two_pow_self, Bool.or_true]

theorem ceCounter_fields (m : Nat) : (ceCounter m).inPage = true ∧ Reg.gm.UE_COUNT.off ≠ (ceCounter m).off ∧ (ceCounter m).off ≠ 0x018 := by
  match m with
  | 0 => decide
  | 1 => decide
  | 2 => decide
  | m + 3 => exact (by decide : Reg.gm.LAND_CE.inPage = true ∧ Reg.gm.UE_COUNT.off ≠ Reg.gm.LAND_CE.off ∧ Reg.gm.LAND_CE.off ≠ 0x018)

/-- The self-test's corrected words are counted. -/
def rowCorrected (s : State) (h g m ce : Nat) : State :=
  if ce = 0 then s else setSticky (count s (memPage h g) (ceCounter m) ce) (memPage h g) Sticky.gm.MEM_CE

theorem rowCorrected_leaves (s : State) (h g m ce : Nat) :
    rd (rowCorrected s h g m ce) (memPage h g) Reg.gm.UE_COUNT = rd s (memPage h g) Reg.gm.UE_COUNT
      ∧ rd (rowCorrected s h g m ce) .reset Reg.rst.SELFTEST_HALLS = rd s .reset Reg.rst.SELFTEST_HALLS
      ∧ ∀ q b, b < 32 → sticky s q b = true → sticky (rowCorrected s h g m ce) q b = true := by
  obtain ⟨hin, hne, ho⟩ := ceCounter_fields m
  unfold rowCorrected
  split
  · exact ⟨rfl, rfl, fun _ _ _ k => k⟩
  · refine ⟨?_, ?_, fun q b hb k => sticky_setSticky_mono _ _ _ _ _ hb ?_⟩
    · rw [rd_setSticky_own (memPage_ne_hif h g) (by decide) _ _ (by decide), rd_count_field hin (by decide) (.inl hne)]
    · rw [rd_setSticky_page (by decide) (by decide) _ _ _ (by simp [memPage])]
      exact rd_wr_other _ _ _ _ _ _ (by simp [memPage]) hin (by decide)
    · refine (sticky_other (rd_wr_ne _ _ _ _ _ _ (key_ne_of_off hin (by decide) (.inr fun e => ho e.symm))) b).trans k

/-- The words of a failing row are counted. -/
theorem selfTestErrors_counts (s : State) (h : Fin 16) (g : Fin 17) (m ce : Nat) {ue : Nat} (hu : 1 ≤ ue) :
    RowCounted s (selfTestErrors (selfTestFailed s h) h g m ce ue) h g ue := by
  have halls := bit_selfTestFailed s h
  have fail : sticky (selfTestFailed s h) .reset Sticky.rst.SELFTEST_FAIL = true := sticky_setSticky _ _ _ (by decide)
  have old : rd (selfTestFailed s h) (memPage h g) Reg.gm.UE_COUNT = rd s (memPage h g) Reg.gm.UE_COUNT := by
    unfold selfTestFailed
    rw [rd_setSticky_page (memPage_ne_hif h g) (by decide) _ _ _ (by simp [memPage])]
    exact rd_wr_other _ _ _ _ _ _ (by simp [memPage]) (by decide) (by decide)
  obtain ⟨count, hall, alarms⟩ := rowCorrected_leaves (selfTestFailed s h) h g m ce
  have hx : selfTestErrors (selfTestFailed s h) h g m ce ue
      = setSticky (Machine.count (rowCorrected (selfTestFailed s h) h g m ce) (memPage h g) Reg.gm.UE_COUNT ue) (memPage h g)
        Sticky.gm.MEM_UE := if_neg (by omega)
  rw [hx]
  refine ⟨?_, ?_, ?_⟩
  · rw [rd_setSticky_own (memPage_ne_hif h g) (by decide) _ _ (by decide), rd_count, count, old]
  · refine sticky_setSticky_mono _ _ _ _ _ (by decide) ((sticky_other (rd_wr_other _ _ _ _ _ _ ?_ (by decide) (by decide)) _).trans
      (alarms _ _ (by decide) fail))
    simp [memPage]
  · rw [rd_setSticky_page (by decide) (by decide) _ _ _ (by simp [memPage])]
    rw [show rd (Machine.count (rowCorrected (selfTestFailed s h) h g m ce) (memPage h g) Reg.gm.UE_COUNT ue) .reset
      Reg.rst.SELFTEST_HALLS = _ from rd_wr_other _ _ _ _ _ _ (by simp [memPage]) (by decide) (by decide), hall]
    exact halls

/-- What becomes of a failing row that has been counted: it is retired, or queued. -/
def rowHandled (s : State) (h g n : Nat) : State :=
  if spareFree (gal s h g) n then bump (retireRow s h g n) .reset Reg.rst.SELFTEST_ROWS else queueGalleryRow s h g n

theorem selfTest_row {s : State} {h : Fin 16} {g : Fin 17} {m : GMem} {bank row : Nat} (ce ue : Nat)
    (hr : rd s (hallPage h) Reg.hall.RETIRED = 0) (hm : m ≠ .skipMap) (hb : bank < memBanks (gmemNum m))
    (hn : row * memBanks (gmemNum m) < memCourses (gmemNum m)) :
    selfTest s (.row h g m bank row ce ue) = rowHandled (selfTestErrors (selfTestFailed s h) h g (gmemNum m) ce ue) h g
      (gmemNum m * 2 ^ 12 + row * memBanks (gmemNum m) + bank) := by
  have hk : gmemNum m ≤ 2 := by cases m <;> first | decide | exact absurd rfl hm
  exact if_neg (by simp [on, hr, Nat.not_lt.2 hk, Nat.not_le.2 hb, Nat.not_le.2 hn])

theorem RowCounted.handled {s t : State} {h : Fin 16} {g : Fin 17} {ue : Nat} (k : RowCounted s t h g ue) (n : Nat) :
    RowCounted s (rowHandled t h g n) h g ue := by
  unfold rowHandled
  split
  · have r := k.later (mended_retireRow t h g n)
    refine ⟨(rd_bump_other _ _ _ _ _ (by simp [memPage]) (by decide) (by decide)).trans r.count, ?_, ?_⟩
    · exact (sticky_other (rd_bump_field (by decide) (by decide) (.inl (by decide)) _ _) _).trans r.failed
    · rw [rd_bump_field (by decide) (by decide) (.inl (by decide))]
      exact r.hall
  · exact k.later (mended_queueGalleryRow t h g n)

/-- Settles O34, phase by phase. -/
theorem bringUpCompletes : Obligations.BringUpCompletes := by
  refine ⟨?_, ?_, ?_, ?_, ?_, ?_, ?_, ?_⟩
  · intro s hp
    obtain ⟨hrst, hdrawn⟩ := fused_leaves s
    have hx : exec .fusesDone s = .next (wr (setPhase (trainSidebands (draw (fused s)).2 ((draw (fused s)).1 % 2 ^ 16)) 2) .hif
      Reg.hif.RETRAINING 1) := if_pos hp
    refine ⟨_, hx, inPhase_of hrst (held_of_inPhase hp) ?_, ?_, fun m hm hb => ?_⟩
    · refine (rd_wr_other _ _ _ _ _ _ (by decide) (by decide) (by decide)).trans (phase_setPhase _ (by decide))
    · exact rd_wr _ _ _ _
    · rw [← hdrawn] at hb
      exact sidebandModule_trainSidebands (draw (fused s)).2 hm hb
  · intro s hp hr
    have hh := held_of_inPhase hp
    cases h1 : bootable s s.seb.bootB with
    | true =>
      obtain ⟨rst, phase, active, valid, fallback⟩ := bootImage_leaves s s.seb.bootB
      refine ⟨_, (exec_bootDone hp hr).trans (if_pos h1), fun _ => ⟨inPhase_of rst hh phase, active, ?_, fallback⟩,
        by simp, by simp⟩
      rw [active]
      exact valid
    | false =>
      cases h2 : bootable s (!s.seb.bootB) with
      | true =>
        obtain ⟨rst, phase, active, valid, fallback⟩ := bootImage_leaves s (!s.seb.bootB)
        refine ⟨_, (exec_bootDone hp hr).trans ((if_neg (by simp [h1])).trans (if_pos h2)), by simp,
          fun _ _ => ⟨?_, ?_, ?_, sticky_setSticky _ _ _ (by decide)⟩, by simp⟩
        · refine inPhase_of ((setSticky_rst _ _ _).trans rst) hh ?_
          exact (rd_setSticky_off (by decide) (by decide) (by decide) _ _ _).trans phase
        · rw [setSticky_mc]
          exact active
        · rw [setSticky_seb]
      | false =>
        refine ⟨_, (exec_bootDone hp hr).trans ((if_neg (by simp [h1])).trans (if_neg (by simp [h2]))), by simp, by simp, fun _ _ => ⟨inPhase_of rfl hh ?_, ?_, rd_wr _ _ _ _⟩⟩
        · rw [rd_wr_other _ _ _ _ _ _ (by decide) (by decide) (by decide), rd_wr_field (by decide) (by decide) (.inr (by decide))]
          exact phase_of_inPhase hp
        · rw [inRecovery, on, rd_wr_other _ _ _ _ _ _ (by decide) (by decide) (by decide), rd_wr]
          show (!s.rst.held && _) = true
          rw [hh]
          rfl
  · intro s hp
    refine ⟨_, exec_mcInitDone hp, inPhase_of (initDone_rst s) (held_of_inPhase hp) (initDone_phase s), ?_, ?_,
      fun l hl ht => initDone_link s hl ht⟩
    · rw [initDone_mc]
      rfl
    · rw [initDone_mc]
      exact cal_calibrateAll s
  · intro h ch lane spare s hp hh hc hl hs hb he
    refine ⟨_, exec_mcInitDone hp, ?_⟩
    have hskip : (calibrateAll s).mc.record.foldl applyEntry (calibrateAll s)
        = setSticky (bump (calibrateAll s) .reset Reg.rst.RECORD_SKIPPED) .mcService Sticky.mcs.REPAIR_NEEDED := by
      rw [show (calibrateAll s).mc.record = s.mc.record from rfl, he, List.foldl_cons, List.foldl_nil, applyEntry,
        restoreEntry_lane_used (s := calibrateAll s) hh hc hl hs hb]
    have placed := onward_foldl (F := Placed) (fun s (e : Nat × Nat) => placed_placeGallery s e.1 e.2) allGalleries
      ((calibrateAll s).mc.record.foldl applyEntry (calibrateAll s))
    have hall : restoreAll (calibrateAll s) = allGalleries.foldl (fun s e => placeGallery s e.1 e.2)
      ((calibrateAll s).mc.record.foldl applyEntry (calibrateAll s)) := rfl
    have hdrams : (restoreAll (calibrateAll s)).drams = ((calibrateAll s).mc.record.foldl applyEntry (calibrateAll s)).drams :=
      foldl_keeps (P := fun t => t.drams = ((calibrateAll s).mc.record.foldl applyEntry (calibrateAll s)).drams)
        (fun t e k => placeGallery_keeps (closed_drams _ _ (by decide)) t _ _ k) rfl
    rw [← hall] at placed
    refine ⟨?_, ?_, ?_⟩
    · rw [Advanced, initDone, trainLinks_eq, rd_trainLinks_ne (by decide) (by decide), rd_setPhase_ne (by decide) (.inr (by decide)),
        placed.fields _ _ ⟨by decide, .inl rfl⟩, hskip, rd_setSticky_off (by decide) (by decide) (by decide), rd_bump]
      rfl
    · have hk : sticky (restoreAll (calibrateAll s)) .mcService Sticky.mcs.REPAIR_NEEDED = true :=
        placed.stickies _ _ (by decide) (by rw [hskip]; exact sticky_setSticky _ _ _ (by decide))
      rw [initDone, trainLinks_eq, sticky_other (rd_trainLinks_ne (by decide) (by decide) _ _), sticky_setPhase]
      exact hk
    · have hd : (initDone s).drams = (restoreAll (calibrateAll s)).drams :=
        trainLinks_keeps (closed_drams (restoreAll (calibrateAll s)).drams _ (by decide)) _
          (setPhase_keeps (closed_drams _ _ (by decide)) _ 4 rfl)
      rw [hd, hdrams, hskip, setSticky_drams]
      rfl
  · intro s hp
    obtain ⟨trained, settled⟩ := repairLanes_train (failingLanes (Config.free s.drawn)) (draw s).2
    have hrst : ((failingLanes (Config.free s.drawn)).foldl repairLane (draw s).2).rst = s.rst :=
      foldl_keeps (P := fun t => t.rst = s.rst) (fun t e h => repairLane_keeps (closed_rst s.rst _ (by decide)) t e h) rfl
    have hx : exec .trainDone s = .next (setPhase ((failingLanes (Config.free s.drawn)).foldl repairLane (draw s).2) 5) := if_pos hp
    refine ⟨_, hx, inPhase_of hrst (held_of_inPhase hp) (phase_setPhase _ (by decide)), fun x hm hl => ?_, fun x hm hl => ⟨fun k => ?_, fun k => ?_⟩,
      fun h ch hne => ?_⟩
    · refine (settled x hm hl).imp id fun ⟨full, alarm, event⟩ => ⟨freeSpare_none_iff.2 full, ?_, event⟩
      rw [sticky_setPhase]
      exact alarm
    · refine (trained.only _ _ k).resolve_right ?_
      rintro ⟨y, hy, hs, hyl, e⟩
      have hxy : x = y := by
        have c : x.channel = y.channel := Fin.ext (by omega)
        have l : x.lane = y.lane := Fin.ext (by omega)
        have st : x.stack = y.stack := Fin.ext hs.symm
        cases x
        cases y
        exact BondLane.mk.injEq .. ▸ ⟨st, c, l⟩
      exact hm (hxy ▸ hy)
    · exact trained.moved _ k
    · exact trained.others _ _ fun x hx e c => hne x hx (Fin.ext e) (Fin.ext c)
  · intro failures s hp
    refine ⟨_, exec_wipeDone hp failures, ?_, sticky_setSticky _ _ _ (by decide), fun a ha => ?_⟩
    · rw [ready, phaseAtLeast, setSticky_rst, rd_setSticky_off (by decide) (by decide) (by decide), phase_setPhase _ (by decide)]
      show (!(wiped s failures).rst.held && _) = true
      rw [wiped_rst, held_of_inPhase hp]
      rfl
    · rw [setSticky_dram]
      show byteAt (wiped s failures).dram a = 0
      rw [wiped_dram]
      exact byteAt_wipeAll ha
  · intro s hp he
    refine ⟨_, exec_wipeDone hp [], fun h _ g _ => ?_, fun h _ => ?_⟩
    · rw [gal_congr (setSticky_galleries _ _ _), show gal (setPhase (wiped s []) 6) h g = gal (wiped s []) h g from rfl, wiped_nothing he,
        gal_wipeAll]
      exact ⟨rfl, rfl⟩
    · rw [cache_congr (setSticky_caches _ _ _), show cache (setPhase (wiped s []) 6) h = cache (wiped s []) h from rfl, wiped_nothing he]
      exact cache_wipeAll s h
  · intro h g m bank row ce ue s hp he hm hr hb hn hu
    have tested := (selfTestErrors_counts (wipeAll s) h g (gmemNum m) ce hu).handled
      (gmemNum m * 2 ^ 12 + row * memBanks (gmemNum m) + bank)
    rw [← selfTest_row (s := wipeAll s) ce ue hr hm hb hn] at tested
    obtain ⟨count, failed, hall⟩ := tested.later (mended_repairAll
      (2 * (selfTest (wipeAll s) (.row h g m bank row ce ue)).mc.repairs.length) (selfTest (wipeAll s) (.row h g m bank row ce ue)))
    refine ⟨_, exec_wipeDone hp _, ?_, sticky_setSticky_mono _ _ _ _ _ (by decide) ((sticky_setPhase _ _ _ _).trans failed), ?_⟩
    · exact (rd_setSticky_off (memPage_ne_hif h g) (by decide) (by decide) _ _ _).trans
        ((rd_setPhase_ne (by decide) (.inl (by simp [memPage])) _ _).trans count)
    · rw [rd_setSticky_off (by decide) (by decide) (by decide), rd_setPhase_ne (by decide) (.inr (by decide))]
      exact hall

end Sys2Proof.Machine

/-! SUPPORT and settlement of O28: the vector table, the modules of the mainband, the sideband that answers, and the debug
ports. -/

namespace Sys2Proof.Machine

set_option Elab.async false -- each thread's stack counts against the check's memory limit

/-! ### Vectors (R324) -/

/-- No signal makes a vector pending that is not masked. -/
def Unmasked (s : State) (v : Nat) : Prop := rd s .hif (Reg.hif.VEC_CTRL_MASK (v % 64)) = 0

theorem mask_silent (v : Nat) : Silent.field .hif (Reg.hif.VEC_CTRL_MASK (v % 64)) := by
  have h : v % 64 < 64 := Nat.mod_lt _ (by decide)
  exact (silent_vector h _ (by simp)).1.1

theorem mask_inPage (v : Nat) : (Reg.hif.VEC_CTRL_MASK (v % 64)).inPage = true := inPage_of_silent (mask_silent v)

theorem Unmasked.onward {s t : State} {v : Nat} (h : Unmasked s v) {F : Scope} (k : Onward F s t)
    (hF : F.field .hif (Reg.hif.VEC_CTRL_MASK (v % 64))) : Unmasked t v := (k.fields _ _ hF).trans h

theorem pending_bump (s : State) (v : Nat) {f : Fld} (hf : f.inPage = true) (ho : f.off < 0x40C) :
    pendingOf (bump s .hif f) v = pendingOf s v := pending_wr s v hf ho _

theorem pending_sendMsg {r : State → Nat → State} {v : Nat}
    (hr : ∀ s b, Unmasked s v → pendingOf (r s b) v = pendingOf s v) (s : State) (w : Nat) (hm : Unmasked s v) :
    pendingOf (sendMsg r s w) v = pendingOf s v := by
  have counted (f : Fld) (hf : f.inPage = true) (hs : signalOffsets.contains f.off = true) (ho : f.off ≠ 0x018)
      (hv : f.off < 0x40C) (b : Nat) : pendingOf (r (bump s .hif f) b) v = pendingOf s v :=
    (hr _ _ (hm.onward (onward_bump hf ho (.inr hv) (key_ne_of_signal hf hs) s) (mask_silent v))).trans (pending_bump s v hf hv)
  unfold sendMsg
  dsimp only
  split
  · exact counted _ (by decide) (by decide) (by decide) (by decide) _
  split
  · exact pending_flushQueue _ v
  · exact counted _ (by decide) (by decide) (by decide) (by decide) _

theorem pending_signalWith {r : State → Nat → State} {v : Nat}
    (hr : ∀ s b, Unmasked s v → pendingOf (r s b) v = pendingOf s v) (s : State) (w : Nat) (hm : Unmasked s v) :
    pendingOf (signalWith r s w) v = pendingOf s v := by
  unfold signalWith
  split
  next hw =>
    refine rd_wr_ne _ _ _ _ _ _ (key_ne_of_off (pending_inPage w) (pending_inPage v) (.inr fun e => ?_))
    simp only [Reg.hif.VEC_CTRL_PENDING] at e
    have : w % 64 = v % 64 := by omega
    rw [this, on, hm] at hw
    cases hw
  next => exact pending_sendMsg hr s _ hm

theorem pending_raise (n v : Nat) : ∀ (s : State) (p : Page) (b : Nat), Unmasked s v →
    pendingOf (raise n s p b) v = pendingOf s v := by
  induction n with
  | zero => exact fun _ _ _ _ => rfl
  | succ n ih =>
    intro s p b hm
    have hw : pendingOf (wr s p Reg.hdr.STICKY (rd s p Reg.hdr.STICKY ||| 2 ^ b)) v = pendingOf s v :=
      rd_wr_ne _ _ _ _ _ _ (key_ne_of_off (by decide) (pending_inPage v)
        (.inr (by simp only [Reg.hif.VEC_CTRL_PENDING, Reg.hdr.STICKY]; omega)))
    have hu : Unmasked (wr s p Reg.hdr.STICKY (rd s p Reg.hdr.STICKY ||| 2 ^ b)) v :=
      (rd_wr_ne _ _ _ _ _ _ (key_ne_of_off (by decide) (mask_inPage v)
        (.inr (by simp only [Reg.hif.VEC_CTRL_MASK, Reg.hdr.STICKY]; omega)))).trans hm
    rw [raise]
    split
    · rfl
    dsimp only
    split
    · exact (pending_signalWith (fun u c => ih u .hif c) _ _ hu).trans hw
    · exact hw

/-- A signal of any vector leaves one that is not masked as it is. -/
theorem pending_signal {s : State} {v : Nat} (w : Nat) (hm : Unmasked s v) : pendingOf (signal s w) v = pendingOf s v :=
  pending_signalWith (fun u c => pending_raise 3 v u .hif c) s w hm

theorem permits_hif {s : State} (h : s.rst.held = false) (off : Nat) : Reaches s .mainband .hif off := by
  refine ⟨h, ?_⟩
  unfold permits statePermits phasePermits
  split <;> simp

theorem pendingOf_fin (s : State) (v : Fin 64) : pendingOf s v = rd s .hif (Reg.hif.VEC_CTRL_PENDING v) := by
  rw [pendingOf, Nat.mod_eq_of_lt v.isLt]

theorem mask_fin (v : Fin 64) : Reg.hif.VEC_CTRL_MASK (v.val % 64) = Reg.hif.VEC_CTRL_MASK v := by
  rw [Nat.mod_eq_of_lt v.isLt]

theorem mask_ne_pending (v : Fin 64) : key .hif (Reg.hif.VEC_CTRL_MASK v) ≠ key .hif (Reg.hif.VEC_CTRL_PENDING v) := by
  intro e
  have hv : 0x40C + 16 * v.val < 4096 := by omega
  obtain ⟨-, -, hl⟩ := (key_inj (f := Reg.hif.VEC_CTRL_MASK v) (g := Reg.hif.VEC_CTRL_PENDING v) hv hv
    (by simp [Reg.hif.VEC_CTRL_MASK]) (by simp [Reg.hif.VEC_CTRL_PENDING])).1 e
  cases hl

theorem exec_vecCtrlWrite {s : State} (h : s.rst.held = false) (v : Fin 64) (mask signalled : Bool) :
    exec (.vecCtrlWrite v mask signalled) s
      = .next (if signalled then signal (writeVecCtrl s v mask) v else writeVecCtrl s v mask) := by
  change execVecCtrlWrite v mask signalled s = _
  unfold execVecCtrlWrite
  rw [if_neg (by simp [h]), ifPermitted_of_reaches (permits_hif h _)]

theorem vecMasked {s : State} (h : s.rst.held = false) (v : Fin 64) (signalled : Bool) :
    Completes (.vecCtrlWrite v true signalled) s fun t =>
      rd t .hif (Reg.hif.VEC_CTRL_MASK v) = 1
        ∧ rd t .hif (Reg.hif.VEC_CTRL_PENDING v) = if signalled then 1 else rd s .hif (Reg.hif.VEC_CTRL_PENDING v) := by
  refine ⟨_, exec_vecCtrlWrite h v true signalled, ?_⟩
  have hw : writeVecCtrl s v true = wr s .hif (Reg.hif.VEC_CTRL_MASK v) 1 := rfl
  have hm : rd (writeVecCtrl s v true) .hif (Reg.hif.VEC_CTRL_MASK v) = 1 := by rw [hw, rd_wr]; rfl
  cases signalled with
  | false =>
    exact ⟨hm, rd_wr_ne _ _ _ _ _ _ (mask_ne_pending v).symm⟩
  | true =>
    refine ⟨((onward_signal _ _).fields _ _ (mask_fin v ▸ mask_silent v)).trans hm, ?_⟩
    exact (pendingOf_fin _ v).symm.trans (pendingOf_signal (by rw [mask_fin, hm]; decide))

/-- A vector whose mask is cleared leaves its pending message. -/
theorem unmask_pending (s : State) (v : Fin 64) : Unmasked (writeVecCtrl s v false) v ∧ pendingOf (writeVecCtrl s v false) v = 0 := by
  have mask_of_signal {u : State} (h : Unmasked u v) (w : Nat) : Unmasked (signal u w) v :=
    h.onward (onward_signal u w) (mask_silent v)
  have cleared (u : State) (h : Unmasked u v) : Unmasked (wr u .hif (Reg.hif.VEC_CTRL_PENDING v) 0) v := by
    rw [Unmasked, mask_fin] at h ⊢
    exact (rd_wr_ne _ _ _ _ _ _ (mask_ne_pending v)).trans h
  have hm : Unmasked (wr s .hif (Reg.hif.VEC_CTRL_MASK v) (Bool.toNat false)) v := by
    rw [Unmasked, mask_fin, rd_wr]; rfl
  unfold writeVecCtrl
  generalize wr s .hif (Reg.hif.VEC_CTRL_MASK v) (Bool.toNat false) = u at hm ⊢
  dsimp only
  split
  · have hu := cleared u hm
    refine ⟨mask_of_signal hu v, (pending_signal v hu).trans ?_⟩
    rw [pendingOf_fin, rd_wr]; rfl
  next h =>
    refine ⟨hm, ?_⟩
    rw [pendingOf_fin]
    simpa [on] using h

theorem vecUnmasked {s : State} (h : s.rst.held = false) (v : Fin 64) (signalled : Bool) :
    Completes (.vecCtrlWrite v false signalled) s fun t =>
      rd t .hif (Reg.hif.VEC_CTRL_MASK v) = 0 ∧ rd t .hif (Reg.hif.VEC_CTRL_PENDING v) = 0 := by
  refine ⟨_, exec_vecCtrlWrite h v false signalled, ?_⟩
  obtain ⟨hm, hp⟩ := unmask_pending s v
  rw [← pendingOf_fin, ← mask_fin]
  cases signalled with
  | false => exact ⟨hm, hp⟩
  | true => exact ⟨hm.onward (onward_signal _ _) (mask_silent v), (pending_signal v hm).trans hp⟩

/-! ### Retrains (R314, R315, R328) -/

theorem startRetrain_of {s : State} (h : rd s .hif Reg.hif.RETRAINING = 0) :
    rd (startRetrain s) .hif Reg.hif.RETRAINING = 1 ∧ Advanced s (startRetrain s) .hif Reg.hif.RETRAINS := by
  have e : startRetrain s = bump (wr s .hif Reg.hif.RETRAINING 1) .hif Reg.hif.RETRAINS := if_neg (by simp [on, h])
  rw [e]
  refine ⟨?_, ?_⟩
  · rw [rd_bump_field (by decide) (by decide) (by decide), rd_wr]; rfl
  · rw [Advanced, rd_bump, rd_wr_field (by decide) (by decide) (by decide)]

theorem moduleLost {m : Fin 16} {s : State} (ha : moduleActive s m = true) (hr : rd s .hif Reg.hif.RETRAINING = 0) :
    Completes (.ucieModuleLoss m) s fun t =>
      rd t .hif Reg.hif.RETRAINING = 1 ∧ Advanced s t .hif Reg.hif.RETRAINS
        ∧ sticky t .hif Sticky.hif.MODULE_LOST = true := by
  obtain ⟨h1, h2⟩ := startRetrain_of (s := { s with hif := { s.hif with lost := s.hif.lost ||| 2 ^ m.val } }) hr
  have k := onward_setSticky (F := Silent) (p := .hif) (fun _ _ h => ⟨h, silent_but_hif h⟩)
    (startRetrain { s with hif := { s.hif with lost := s.hif.lost ||| 2 ^ m.val } }) Sticky.hif.MODULE_LOST
  refine ⟨_, if_pos ⟨ha, by simp [on, hr]⟩, ?_, ?_, sticky_setSticky _ _ _ (by decide)⟩
  · exact (k.fields _ _ (show silent .hif Reg.hif.RETRAINING = true by decide)).trans h1
  · exact (k.fields _ _ (show silent .hif Reg.hif.RETRAINS = true by decide)).trans h2

theorem crcThreshold {m : Fin 16} {s : State} (ha : moduleActive s m = true) (hr : rd s .hif Reg.hif.RETRAINING = 0) :
    Completes (.moduleCrcThreshold m) s fun t =>
      rd t .hif Reg.hif.RETRAINING = 1 ∧ Advanced s t .hif Reg.hif.RETRAINS := by
  refine ⟨_, if_pos ⟨ha, by simp [on, hr]⟩, ?_⟩
  exact startRetrain_of (s := { s with hif := { s.hif with crc := NatMap.set s.hif.crc m (atLeastOne (rd s .hif Reg.hif.LANE_ERR_THRESHOLD)) } }) hr

theorem hostRetrains {s : State} (hp : phaseAtLeast s 2 = true) (hr : rd s .hif Reg.hif.RETRAINING = 0) :
    Completes .hifRetrain s fun t => rd t .hif Reg.hif.RETRAINING = 1 ∧ Advanced s t .hif Reg.hif.RETRAINS := by
  have hh : s.rst.held = false := by simpa using (Bool.and_eq_true_iff.1 hp).1
  exact ⟨_, congrArg Host.Outcome.next ((ifPermitted_of_reaches (permits_hif hh _) _ _).trans (if_pos hp)), startRetrain_of hr⟩

/-! ### Writes that waited for the stream (R323) -/

theorem onward_noteRecord (s : State) (sw : Nat) (entered : Bool) : Onward Entry s (noteRecord s sw entered) :=
  .ite (onward_bump_entry s sw (by decide) (by decide) (by decide)) (.refl s)

theorem onward_closeSlot (s : State) (sw slot e status : Nat) : Onward Entry s (closeSlot s sw slot e status) :=
  (onward_closeEntry s sw e status).trans (onward_setStair _ _ _)

theorem onward_settleInline (entered : Bool) (s : State) (sw : Nat) : Onward Entry s (settleInline entered s sw) := by
  unfold settleInline
  split
  · split
    · exact .ite (.refl s) (onward_finishInline _ _ _ _)
    · exact .ite (.refl s) ((onward_noteRecord _ _ _).trans (onward_endInline _ _ _ _))
    · exact .refl s
  · exact .refl s

theorem onward_settleSlot (entered : Bool) (sw : Nat) (s : State) (e : Nat × Tracked) :
    Onward Entry s (settleSlot entered sw s e) := by
  unfold settleSlot
  split
  · exact .ite (.refl s) ((onward_noteRecord _ _ _).trans (onward_closeSlot _ _ _ _ _))
  · exact .refl s

theorem onward_settleWrites (s : State) (entered : Bool) : Onward Entry s (settleWrites s entered) :=
  onward_foldl (fun u sw => (onward_foldl (onward_settleSlot entered sw) (stair u sw).slots u).trans
    (onward_settleInline _ _ _)) _ s

theorem settleWrites_mc (s : State) (entered : Bool) : (settleWrites s entered).mc = s.mc :=
  settleWrites_keeps (closed_mc s.mc _ (by decide)) s entered rfl


/-- What the settling of a link, when a training has ended, keeps of the registers of its end, the STICKY bits, the
sidebands and the MC. -/
structure Settled (s t : State) : Prop where
  training : ∀ g ∈ [Reg.hif.RETRAINING, Reg.hif.ACTIVE_MASK, Reg.hif.HIF_STATE_UP], rd t .hif g = rd s .hif g
  stickies : ∀ b < 32, sticky s .hif b = true → sticky t .hif b = true
  up : t.hif.sidebandUp = s.hif.sidebandUp
  module : t.hif.sidebandModule = s.hif.sidebandModule
  lost : t.hif.sidebandLost = s.hif.sidebandLost
  mc : t.mc = s.mc

theorem Settled.trans {s t u : State} (h : Settled s t) (k : Settled t u) : Settled s u :=
  ⟨fun g hg => (k.training g hg).trans (h.training g hg), fun b hb e => k.stickies b hb (h.stickies b hb e),
    k.up.trans h.up, k.module.trans h.module, k.lost.trans h.lost, k.mc.trans h.mc⟩

theorem settled_of_onward {s t : State} (h : Onward Entry s t) (hm : t.mc = s.mc) : Settled s t := by
  have e := h.attended.rest
  refine ⟨fun g hg => h.fields _ _ ?_, fun b hb => h.stickies _ b hb, by rw [e], by rw [e], by rw [e], hm⟩
  simp only [List.mem_cons, List.not_mem_nil, or_false] at hg
  obtain rfl | rfl | rfl := hg <;> exact ⟨⟨by decide, rfl⟩, fun h => by cases h⟩

theorem onward_losePacket (s : State) (q : Queued) : Onward Entry s (losePacket s q) := by
  have counted : Onward Entry s (setSticky (bump s .hif Reg.hif.TX_DISCARDS) .hif Sticky.hif.LINK_DOWN) :=
    (onward_bump (by decide) (by decide) (by decide) (fun q g (h : Entry.field _ _) => key_ne_of_signal (by decide) (by decide) q g h.1.1) s).trans
      (onward_setSticky (fun _ _ h => ⟨entry_silent h, silent_but_hif (entry_silent h)⟩) _ _)
  unfold losePacket
  split
  · exact .refl s
  dsimp only
  split
  · exact .ite (counted.trans (onward_setSticky_entry _ _ _)) counted
  · exact counted

/-- The packets that wait are dropped. -/
def unqueued (s : State) : State := { s with hif := { s.hif with queued := [] } }

theorem linkFalls_eq (s : State) : linkFalls s
    = settleWrites (s.hif.queued.foldl losePacket (setSticky (unqueued s) .hif Sticky.hif.LINK_DOWN)) false := rfl

theorem onward_linkFalls (s : State) : Onward Entry (setSticky (unqueued s) .hif Sticky.hif.LINK_DOWN) (linkFalls s) := by
  rw [linkFalls_eq]
  exact (onward_foldl onward_losePacket _ _).trans (onward_settleWrites _ _)

theorem linkFalls_mc (s : State) : (linkFalls s).mc = s.mc := linkFalls_keeps (closed_mc s.mc _ (by decide)) s rfl

theorem settled_linkFalls (s : State) : Settled s (linkFalls s) := by
  have dropped : Settled s (unqueued s) := ⟨fun _ _ => rfl, fun _ _ h => h, rfl, rfl, rfl, rfl⟩
  have raised : Onward Entry (unqueued s) (setSticky (unqueued s) .hif Sticky.hif.LINK_DOWN) :=
    onward_setSticky (fun _ _ h => ⟨entry_silent h, silent_but_hif (entry_silent h)⟩) _ _
  exact dropped.trans (settled_of_onward (raised.trans (onward_linkFalls s)) (linkFalls_mc s))

theorem settled_linkStays (s : State) : Settled s (settleWrites (flushQueue s) true) := by
  refine settled_of_onward ((onward_flushQueue s).entry_of_silent.trans (onward_settleWrites _ _)) ?_
  rw [settleWrites_mc]
  exact flushQueue_keeps (closed_mc s.mc _ (by decide)) s rfl

theorem settled_linkRises (s : State) : Settled s (linkRises s) := by
  have other (u : State) (v : Nat) (f : Fld) (hf : ∀ g ∈ [Reg.hif.RETRAINING, Reg.hif.ACTIVE_MASK, Reg.hif.HIF_STATE_UP,
      Reg.hdr.STICKY], key .hif g ≠ key .hif f) : Settled u (wr u .hif f v) :=
    ⟨fun g hg => rd_wr_ne _ _ _ _ _ _ (hf g (List.mem_append_left [Reg.hdr.STICKY] hg)),
      fun b _ h => (sticky_other (rd_wr_ne _ _ _ _ _ _ (hf Reg.hdr.STICKY (by simp))) b).trans h, rfl, rfl, rfl, rfl⟩
  have fields : Settled s (wr (wr (wr s .hif Reg.hif.POSTED 0) .hif Reg.hif.NONPOSTED 0) .hif Reg.hif.HOST_CREDIT_SEEN 0) :=
    ((other _ _ _ (by decide)).trans (other _ _ _ (by decide))).trans (other _ _ _ (by decide))
  exact fields.trans ⟨fun _ _ => rfl, fun _ _ h => h, rfl, rfl, rfl, rfl⟩


/-! ### The end of a training -/

theorem testBit_sub_and (i : Nat) : ∀ x y : Nat, (x - (x &&& y)).testBit i = (x.testBit i && !y.testBit i) := by
  induction i with
  | zero =>
    intro x y
    have hm := @Nat.and_mod_two_eq_one x y
    have hd : x &&& y ≤ x := Nat.and_le_left
    have key : (x - (x &&& y)) % 2 = 1 ↔ x % 2 = 1 ∧ ¬y % 2 = 1 := by omega
    simp only [Nat.testBit_zero, key, Bool.decide_and, decide_not]
  | succ i ih =>
    intro x y
    have hm := @Nat.and_mod_two_eq_one x y
    have hd : (x &&& y) / 2 = x / 2 &&& y / 2 := Nat.and_div_two
    have hl : x &&& y ≤ x := Nat.and_le_left
    have half : (x - (x &&& y)) / 2 = x / 2 - (x / 2 &&& y / 2) := by omega
    rw [Nat.testBit_succ, half, ih, ← Nat.testBit_succ, ← Nat.testBit_succ]

theorem bit_missing {old enable new m : Nat} (ho : bit old m = true) (he : bit enable m = true) (hn : bit new m = false) :
    (missing old enable new).testBit m = true := by
  rw [bit_eq] at ho he hn
  rw [missing, testBit_sub_and, Nat.testBit_and, ho, he, hn]
  rfl

theorem ne_zero_of_testBit {x m : Nat} (h : x.testBit m = true) : x ≠ 0 := by
  rintro rfl
  simp at h

/-- The MC is told of the modules that a retrain leaves out. -/
theorem noteMissing_tells (s : State) {gone m : Nat} (h : gone.testBit m = true) :
    RepairEvent.report ∈ (noteMissing s gone).mc.repairs
      ∧ (bit s.hif.lost m = false → sticky (noteMissing s gone) .hif Sticky.hif.MODULE_LOST = true) := by
  unfold noteMissing
  extract_lets u q v
  rw [if_neg (ne_zero_of_testBit h)]
  refine ⟨List.mem_append_right _ (by simp), fun hl => ?_⟩
  have hg : gone - (gone &&& s.hif.lost) ≠ 0 := by
    refine ne_zero_of_testBit (m := m) ?_
    rw [testBit_sub_and, h, ← bit_eq, hl]
    rfl
  change sticky u .hif Sticky.hif.MODULE_LOST = true
  rw [show u = setSticky s .hif Sticky.hif.MODULE_LOST from if_neg hg]
  exact sticky_setSticky _ _ _ (by decide)

/-- A training that has ended, before the MC is told of modules that are missing. -/
def trainedWith (s : State) (new sidebands : Nat) (repaired : Bool) : State :=
  let u := wr (wr (wr s .hif Reg.hif.RETRAINING 0) .hif Reg.hif.ACTIVE_MASK new) .hif Reg.hif.HIF_STATE_UP (if new = 0 then 0 else 1)
  let v := trainSidebands { u with hif := { u.hif with crc := [], trained := true } } sidebands
  if s.hif.trained && repaired then setSticky v .hif Sticky.hif.LANE_REPAIRED else v

/-- The modules that a training leaves active. -/
def trainedActive (s : State) (active : Nat) : Nat := active &&& rd s .hif Reg.hif.MODULE_ENABLE

/-- A training that has ended, before the link follows. -/
def trainingNoted (s : State) (active sidebands : Nat) (repaired : Bool) : State :=
  noteMissing (trainedWith s (trainedActive s active) sidebands repaired)
    (missing (rd s .hif Reg.hif.ACTIVE_MASK) (rd s .hif Reg.hif.MODULE_ENABLE) active)

/-- How the link follows the end of a training. -/
def linkFollows (s : State) (was : Bool) (new : Nat) : State :=
  if new = 0 then (if was then linkFalls s else s) else if was then settleWrites (flushQueue s) true else linkRises s

theorem exec_ucieRetrainDone {s : State} (h : rd s .hif Reg.hif.RETRAINING ≠ 0) (active sidebands : BitVec 16) (repaired : Bool) :
    exec (.ucieRetrainDone ⟨active, sidebands⟩ repaired) s
      = .next (linkFollows (trainingNoted s active.toNat sidebands.toNat repaired) (linkUp s) (trainedActive s active.toNat)) := by
  change execUcieRetrainDone ⟨active, sidebands⟩ repaired s = _
  unfold execUcieRetrainDone
  rw [if_neg (by simp [on, h])]
  simp only [linkFollows, apply_ite Host.Outcome.next]
  rfl

theorem linkFollows_rises {s t : State} {active : Nat} (h : active &&& rd s .hif Reg.hif.MODULE_ENABLE ≠ 0) :
    linkFollows t false (trainedActive s active) = linkRises t := if_neg h

theorem linkFollows_falls {s t : State} {active : Nat} (h : active &&& rd s .hif Reg.hif.MODULE_ENABLE = 0) :
    linkFollows t true (trainedActive s active) = linkFalls t := if_pos h

theorem settled_linkFollows (s : State) (was : Bool) (new : Nat) : Settled s (linkFollows s was new) := by
  unfold linkFollows
  split
  · split
    · exact settled_linkFalls s
    · exact ⟨fun _ _ => rfl, fun _ _ h => h, rfl, rfl, rfl, rfl⟩
  split
  · exact settled_linkStays s
  · exact settled_linkRises s

theorem training_silent : ∀ g ∈ [Reg.hif.RETRAINING, Reg.hif.ACTIVE_MASK, Reg.hif.HIF_STATE_UP], Silent.field .hif g := by
  intro g hg
  simp only [List.mem_cons, List.not_mem_nil, or_false] at hg
  obtain rfl | rfl | rfl := hg <;> (change silent .hif _ = true; decide)

/-- The registers of a training's end, and the sidebands, of two states are the same. -/
structure SameTraining (s t : State) : Prop where
  training : ∀ g ∈ [Reg.hif.RETRAINING, Reg.hif.ACTIVE_MASK, Reg.hif.HIF_STATE_UP], rd t .hif g = rd s .hif g
  up : t.hif.sidebandUp = s.hif.sidebandUp
  module : t.hif.sidebandModule = s.hif.sidebandModule
  lost : t.hif.sidebandLost = s.hif.sidebandLost

theorem SameTraining.trans {s t u : State} (h : SameTraining s t) (k : SameTraining t u) : SameTraining s u :=
  ⟨fun g hg => (k.training g hg).trans (h.training g hg), k.up.trans h.up, k.module.trans h.module, k.lost.trans h.lost⟩

theorem sameTraining_refl (s : State) : SameTraining s s := ⟨fun _ _ => rfl, rfl, rfl, rfl⟩

theorem Settled.sameTraining {s t : State} (h : Settled s t) : SameTraining s t := ⟨h.training, h.up, h.module, h.lost⟩

theorem sameTraining_setSticky (s : State) (b : Nat) : SameTraining s (setSticky s .hif b) := by
  have k : Onward Silent s (setSticky s .hif b) := onward_setSticky (fun _ _ h => ⟨h, silent_but_hif h⟩) s b
  have e := k.attended.rest
  exact ⟨fun g hg => k.fields _ _ (training_silent g hg), by rw [e], by rw [e], by rw [e]⟩

theorem sameTraining_noteMissing (s : State) (gone : Nat) : SameTraining s (noteMissing s gone) := by
  unfold noteMissing
  extract_lets u q v
  have hu : SameTraining s u := by
    unfold u
    split
    · exact sameTraining_refl s
    · exact sameTraining_setSticky s _
  have hv : SameTraining s v := hu.trans ⟨fun _ _ => rfl, rfl, rfl, rfl⟩
  split
  · exact hv
  · exact hv.trans ⟨fun _ _ => rfl, rfl, rfl, rfl⟩

theorem trainedActive_lt (s : State) (active : BitVec 16) : trainedActive s active.toNat < 2 ^ 16 :=
  Nat.lt_of_le_of_lt Nat.and_le_left active.isLt

/-- The sideband that answers has trained and has not failed since. -/
theorem nextSideband_works {up : Nat} {lost : List Nat} (h : nextSideband up lost < 16) :
    bit up (nextSideband up lost) = true ∧ nextSideband up lost ∉ lost := by
  unfold nextSideband at h ⊢
  cases e : (List.range 16).find? fun m => bit up m && !lost.contains m with
  | none => rw [e] at h; exact absurd h (by decide)
  | some i => simpa using (List.find?_range_eq_some.1 e).1

theorem nextSideband_le_sixteen (up : Nat) (lost : List Nat) : nextSideband up lost ≤ 16 := by
  unfold nextSideband
  cases e : (List.range 16).find? fun m => bit up m && !lost.contains m with
  | none => exact Nat.le_refl _
  | some i => exact Nat.le_of_lt (List.mem_range.1 (List.find?_range_eq_some.1 e).2.1)

/-- What a training has brought, before the MC is told of modules that are missing. -/
theorem trainedWith_brings (s : State) {new : Nat} (hn : new < 2 ^ 16) (sidebands : BitVec 16) (repaired : Bool)
    {t : State} (h : SameTraining (trainedWith s new sidebands.toNat repaired) t) :
    rd t .hif Reg.hif.RETRAINING = 0 ∧ rd t .hif Reg.hif.ACTIVE_MASK = new
      ∧ rd t .hif Reg.hif.HIF_STATE_UP = (if new = 0 then 0 else 1)
      ∧ (∀ m < 16, bit sidebands.toNat m = true → t.hif.sidebandModule ≤ m)
      ∧ (t.hif.sidebandModule < 16 → bit t.hif.sidebandUp t.hif.sidebandModule = true
          ∧ t.hif.sidebandModule ∉ t.hif.sidebandLost) := by
  unfold trainedWith at h
  extract_lets u q v at h
  replace h : SameTraining v t := by
    refine .trans ?_ h
    split
    · exact sameTraining_setSticky v _
    · exact sameTraining_refl v
  have ht := h.training
  simp only [List.mem_cons, List.not_mem_nil, or_false, forall_eq_or_imp, forall_eq] at ht
  obtain ⟨h1, h2, h3⟩ := ht
  refine ⟨h1.trans ?_, h2.trans ?_, h3.trans ?_, fun m hm hb => ?_, fun hm => ?_⟩
  · change rd u .hif _ = 0
    unfold u
    rw [rd_wr_field (by decide) (by decide) (by decide), rd_wr_field (by decide) (by decide) (by decide), rd_wr]
    rfl
  · change rd u .hif _ = new
    unfold u
    rw [rd_wr_field (by decide) (by decide) (by decide), rd_wr]
    exact Nat.mod_eq_of_lt hn
  · change rd u .hif _ = _
    unfold u
    rw [rd_wr]
    split <;> rfl
  · rw [h.module]
    have := sidebandModule_trainSidebands { u with hif := q } hm hb
    rwa [Nat.mod_eq_of_lt sidebands.isLt] at this
  · rw [h.module] at hm ⊢
    rw [h.up, h.lost]
    exact nextSideband_works hm

theorem linkRises_resets (s : State) :
    rd (linkRises s) .hif Reg.hif.POSTED = 0 ∧ rd (linkRises s) .hif Reg.hif.NONPOSTED = 0
      ∧ rd (linkRises s) .hif Reg.hif.HOST_CREDIT_SEEN = 0 ∧ (linkRises s).hif.hostPosted = 0
      ∧ (linkRises s).hif.hostNonposted = 0 := by
  refine ⟨?_, ?_, ?_, rfl, rfl⟩
  · change rd (wr (wr (wr s .hif Reg.hif.POSTED 0) .hif Reg.hif.NONPOSTED 0) .hif Reg.hif.HOST_CREDIT_SEEN 0) .hif _ = 0
    rw [rd_wr_field (by decide) (by decide) (by decide), rd_wr_field (by decide) (by decide) (by decide), rd_wr]
    rfl
  · change rd (wr (wr (wr s .hif Reg.hif.POSTED 0) .hif Reg.hif.NONPOSTED 0) .hif Reg.hif.HOST_CREDIT_SEEN 0) .hif _ = 0
    rw [rd_wr_field (by decide) (by decide) (by decide), rd_wr]
    rfl
  · change rd (wr (wr (wr s .hif Reg.hif.POSTED 0) .hif Reg.hif.NONPOSTED 0) .hif Reg.hif.HOST_CREDIT_SEEN 0) .hif _ = 0
    rw [rd_wr]
    rfl

theorem linkFalls_down (s : State) : sticky (linkFalls s) .hif Sticky.hif.LINK_DOWN = true :=
  (onward_linkFalls s).stickies _ _ (by decide) (sticky_setSticky _ _ _ (by decide))

theorem trainingEnds {s : State} (hr : rd s .hif Reg.hif.RETRAINING ≠ 0) (active sidebands : BitVec 16) (repaired : Bool) :
    Completes (.ucieRetrainDone ⟨active, sidebands⟩ repaired) s fun t =>
      rd t .hif Reg.hif.RETRAINING = 0
        ∧ rd t .hif Reg.hif.ACTIVE_MASK = active.toNat &&& rd s .hif Reg.hif.MODULE_ENABLE
        ∧ rd t .hif Reg.hif.HIF_STATE_UP = (if active.toNat &&& rd s .hif Reg.hif.MODULE_ENABLE = 0 then 0 else 1)
        ∧ (active.toNat &&& rd s .hif Reg.hif.MODULE_ENABLE ≠ 0 → linkUp s = false →
            rd t .hif Reg.hif.POSTED = 0 ∧ rd t .hif Reg.hif.NONPOSTED = 0
              ∧ rd t .hif Reg.hif.HOST_CREDIT_SEEN = 0 ∧ t.hif.hostPosted = 0 ∧ t.hif.hostNonposted = 0)
        ∧ (active.toNat &&& rd s .hif Reg.hif.MODULE_ENABLE = 0 → linkUp s = true →
            sticky t .hif Sticky.hif.LINK_DOWN = true)
        ∧ (∀ m < 16, moduleActive s m = true → bit (rd s .hif Reg.hif.MODULE_ENABLE) m = true →
            bit active.toNat m = false → RepairEvent.report ∈ t.mc.repairs
              ∧ (bit s.hif.lost m = false → sticky t .hif Sticky.hif.MODULE_LOST = true))
        ∧ (∀ m < 16, bit sidebands.toNat m = true → t.hif.sidebandModule ≤ m)
        ∧ (t.hif.sidebandModule < 16 → bit t.hif.sidebandUp t.hif.sidebandModule = true
            ∧ t.hif.sidebandModule ∉ t.hif.sidebandLost) := by
  refine ⟨_, exec_ucieRetrainDone hr active sidebands repaired, ?_⟩
  have hlost : (trainedWith s (trainedActive s active.toNat) sidebands.toNat repaired).hif.lost = s.hif.lost := by
    unfold trainedWith
    extract_lets u q v
    split
    · rw [(onward_setSticky (F := Silent) (p := .hif) (fun _ _ h => ⟨h, silent_but_hif h⟩) v _).attended.rest]; rfl
    · rfl
  have hw : SameTraining _ (trainingNoted s active.toNat sidebands.toNat repaired) := sameTraining_noteMissing _ _
  have tells {m : Nat} (h : (missing (rd s .hif Reg.hif.ACTIVE_MASK) (rd s .hif Reg.hif.MODULE_ENABLE) active.toNat).testBit m = true) :=
    noteMissing_tells (trainedWith s (trainedActive s active.toNat) sidebands.toNat repaired) h
  have hs := settled_linkFollows (trainingNoted s active.toNat sidebands.toNat repaired) (linkUp s) (trainedActive s active.toNat)
  obtain ⟨h1, h2, h3, h4, h5⟩ := trainedWith_brings s (trainedActive_lt s active) sidebands repaired (hw.trans hs.sameTraining)
  refine ⟨h1, h2, h3, fun hn hu => ?_, fun hn hu => ?_, fun m _ ha he hb => ?_, h4, h5⟩
  · rw [hu, linkFollows_rises hn]
    exact linkRises_resets _
  · rw [hu, linkFollows_falls hn]
    exact linkFalls_down _
  · obtain ⟨hrep, hst⟩ := tells (bit_missing ha he hb)
    refine ⟨hs.mc ▸ hrep, fun hl => hs.stickies _ (by decide) (hst (hlost ▸ hl))⟩

/-! ### The sideband and the debug ports (R28, R363, R391, R395) -/

theorem failover {s : State} (h : s.hif.sidebandModule < 16) :
    Completes .sidebandFailover s fun t =>
      t.hif.sidebandLost = s.hif.sidebandModule :: s.hif.sidebandLost
        ∧ (∀ m < t.hif.sidebandModule, m < 16 → bit s.hif.sidebandUp m = true → m ∈ t.hif.sidebandLost)
        ∧ (t.hif.sidebandModule < 16 → t.hif.sidebandModule ∉ t.hif.sidebandLost) ∧ t.hif.sidebandModule ≤ 16
        ∧ t.hif.sideband = s.hif.sideband ∧ t.regs = s.regs := by
  refine ⟨_, congrArg Host.Outcome.next (if_neg (Nat.not_le.2 h)), rfl, fun m hm hl hu => ?_, fun hm => (nextSideband_works hm).2,
    nextSideband_le_sixteen _ _, rfl, rfl⟩
  by_contra hc
  exact absurd hm (Nat.not_lt.2 (nextSideband_le hl hu hc))

theorem tapReset (s : State) : Completes .jtagTapReset s fun t =>
    t.jtag = { s.jtag with instr := .idcode, dr := 0x10A11B87 } ∧ t.regs = s.regs := by
  refine ⟨_, rfl, ?_, rfl⟩
  simp [selectJtag, jtagSelect, jtagPermits, jtagCapture, jtagIdcode]

theorem instructionSelected (i : JtagInstr) (s : State) :
    Completes (.jtagInstructionUpdate i) s fun t =>
      t.jtag.instr = (if jtagPermits s i then i else .bypass) ∧ t.jtag.mcWord = s.jtag.mcWord ∧ t.regs = s.regs
        ∧ (jtagPermits s i = true → i = .boundaryScan → t.jtag.dr = strapBits s.rst.straps) := by
  refine ⟨_, rfl, rfl, rfl, rfl, fun hp hi => ?_⟩
  change jtagCapture s (jtagSelect s i) = _
  rw [jtagSelect, if_pos hp, hi]
  rfl

theorem mcPortOpen_iff (s : State) : mcPortOpen s = true ↔ s.seb.state = 0 ∨ s.seb.state = 3 ∧ bit s.seb.debugMask 1 = true := by
  simp [mcPortOpen]

theorem mcPort_crosses (w : BitVec 32) (s : State) :
    ((s.seb.state = 0 ∨ s.seb.state = 3 ∧ bit s.seb.debugMask 1 = true) → ∀ slow, slow = false ∨ s.jtag.mcWord = none →
      Completes (.mcDebugPortAccess ⟨w, slow⟩) s fun t =>
        t.jtag.mcWord = some w.toNat ∧ t.jtag.mcOut.isSome = true ∧ t.jtag.mcWait = false ∧ t.regs = s.regs)
    ∧ ((s.seb.state = 0 ∨ s.seb.state = 3 ∧ bit s.seb.debugMask 1 = true) → s.jtag.mcWord ≠ none →
      Completes (.mcDebugPortAccess ⟨w, true⟩) s fun t => t.jtag = { s.jtag with mcWait := true } ∧ t.regs = s.regs) := by
  refine ⟨fun ho slow hs => ?_, fun ho hw => ?_⟩
  · have hc : ¬(slow && s.jtag.mcWord.isSome) = true := by
      rcases hs with rfl | hs
      · simp
      · simp [hs]
    refine ⟨crossWord s w.toNat slow, if_pos ((mcPortOpen_iff s).2 ho), ?_⟩
    rw [crossWord, if_neg hc]
    exact ⟨rfl, rfl, rfl, rfl⟩
  · have hc : (true && s.jtag.mcWord.isSome) = true := by simpa [Option.isSome_iff_ne_none] using hw
    refine ⟨crossWord s w.toNat true, if_pos ((mcPortOpen_iff s).2 ho), ?_⟩
    rw [crossWord, if_pos hc]
    exact ⟨rfl, rfl⟩

/-- Settles O28. -/
theorem attachmentAndDebugPortsComplete : Obligations.AttachmentAndDebugPortsComplete :=
  ⟨fun v signalled _ h => vecMasked h v signalled, fun v signalled _ h => vecUnmasked h v signalled,
    fun _ _ ha hr => moduleLost ha hr, fun active sidebands repaired _ hr => trainingEnds hr active sidebands repaired,
    fun _ _ ha hr => crcThreshold ha hr, fun _ hp hr => hostRetrains hp hr, fun _ h => failover h, tapReset,
    instructionSelected, fun w slow s ho hs => (mcPort_crosses w s).1 ho slow hs,
    fun w s ho hw => (mcPort_crosses w s).2 ho hw,
    fun _ _ s h0 h3 => ⟨s, if_neg fun h => ((mcPortOpen_iff s).1 h).elim h0 h3, rfl⟩⟩

end Sys2Proof.Machine
